-- ==== Sys2Proof/Word.lean ====
section
/-! DEFINITION. The word types of the model and the index types of the device's resources. -/

namespace Sys2Proof

/-- One byte. -/
abbrev Byte := BitVec 8

/-- One BAR0 register (R11). -/
abbrev Word := BitVec 32

/-- A Sorrel port, and the pickup and servo engine of the same number (0 to 15). -/
abbrev Pk := Fin 16

/-- A global spot `g = 32 p + j` (0 to 511). -/
abbrev Spot := Fin 512

/-- A Yarrow engine (0 to 63). -/
abbrev Eng := Fin 64

/-- A spindle (0 to 7). -/
abbrev Spn := Fin 8

/-- A stepper axis `a = 2 p + k`, `k = 0` the sled and `k = 1` the yaw axis of pickup `p`. -/
abbrev Ax := Fin 32

end Sys2Proof
end

