-- ==== Sys2Proof/Syntax.lean ====
section
/-! DEFINITION. The commands of the block: one constructor of `Instr` per row of the opcode table.

A row is one whole step of the part: a write of host software, an admin or I/O command taken from its
context, or an event. What an event brings from outside the model (received cells, measured values, data
read from host memory or flash, results of analogue stages) is the row's operands. -/

namespace Sys2Proof

/-- What a Sorrel port found in the training step that has just ended (Table 3-6): the upstream lanes with
inverted polarity, whether every lane number matched its lane, the largest skew and the round trip in
PAM4 symbols, and the IDENTIFY result. -/
structure TrainReport where
  inverted : BitVec 8
  numbersOk : Bool
  skew : Nat
  rtt : Nat
  identity : BitVec 64
deriving DecidableEq, Repr

/-- What the wedge reader takes in of one wedge (R240): the reader's spot (0 is spot 0, 1 is spot 16, 2 is spot 31), the
sample index of the sync in 1/16 sample (none: no sync; the sync pattern is the QAD physical specification's), and the
recentred raw samples integrated over each of the 128 wedge cells of Table 2-2. -/
structure WedgeRead where
  spot : Fin 3
  sync : Option Nat
  cells : List Int
deriving DecidableEq, Repr

/-- What a FOC period takes in (R290, R295, R297): the data of the modulators of phases A and B over the 500 modulator clocks
that end with the window centred on its count 0, the newest in bit 0, and whether its compute misses its cutoff. -/
structure FocSample where
  a : BitVec 500
  b : BitVec 500
  late : Bool
deriving DecidableEq, Repr

/-- What the bus and brake current filters take in for one output (R290): the data of the 32 modulator clocks up to it, the
newest in bit 0. -/
structure BusSample where
  bus : BitVec 32
  brake : BitVec 32
deriving DecidableEq, Repr

/-- A stored word found faulty in an SRAM array (R391, R394, R405): the array, the bank, the word, whether it is the valid
row of that word instead of the word, and which of its 72 stored bits have flipped. -/
structure MemFault where
  array : Nat
  bank : Nat
  word : Nat
  validRow : Bool
  flips : List Nat
deriving DecidableEq, Repr

/-- What a Brine fill brings (R407): the 128 bytes of the line, and an error that the arrays show on the way (R394). -/
structure BrineFill where
  data : List Byte
  err : Option MemFault
deriving DecidableEq, Repr

/-- A transfer on the board management port (R599): the byte that sets the pointer, the bytes written after it, and how many
bytes are then read. -/
structure I2cTransfer where
  ptr : Byte
  data : List Byte
  reads : Nat
deriving DecidableEq, Repr

/-- Who asks for a scratchpad word (R385, R389): a management processor, in its secure mode or not, or a DMA class. -/
inductive MemUser where
  | mgmt (i : Fin 4) (secure : Bool)
  | dma (cls : Fin 4)
deriving DecidableEq, Repr

/-- A request for the word at an internal byte address: a read, or a write of the bytes that the mask names. -/
structure MemReq where
  user : MemUser
  addr : Nat
  write : Option (BitVec 64 × BitVec 8)
deriving DecidableEq, Repr

/-- What happens in the memory system between two scrub walks: a stored word is found faulty as it is read, or a CORE cycle
in which scratchpad requests arrive (R385, R394). -/
inductive MemEvent where
  | fault (m : MemFault)
  | cycle (reqs : List MemReq)
deriving DecidableEq, Repr

/-- What the scrub walk finds in one critical word (R399): the three copies as they read, and the 72 stored bits of the
shadow. -/
structure CritFault where
  word : Nat
  a : BitVec 64
  b : BitVec 64
  c : BitVec 64
  shadow : BitVec 72
deriving DecidableEq, Repr

/-- The header of a firmware image (Table 16-9) and what its checks need (R586). -/
structure FwHeader where
  magic : BitVec 64
  version : Word
  secVer : Nat
  keyIndex : Nat
  rev : Nat
  length : Nat
  signatureOk : Bool
deriving DecidableEq, Repr

/-- An entry of a submission queue (Table 13-5). `b` is bytes 40 to 63. -/
structure Sqe where
  opcode : Byte
  flags : Byte
  cid : BitVec 16
  volume : BitVec 16
  rsv : BitVec 16
  lba : BitVec 64
  count : BitVec 32
  xflags : BitVec 32
  data : BitVec 64
  sealPtr : BitVec 64
  b : List Byte
deriving DecidableEq, Repr

/-- How a read on the host link ends (R435, R443): its data, an error completion, or poison. -/
inductive ReadResult where
  | data (bytes : List Byte)
  | unsupported
  | aborted
  | poisoned
deriving DecidableEq, Repr

/-- How the read of a table entry in a page walk ends (R431, R435): the entry, or an error, by poison or not. -/
inductive TableRead where
  | entry (e : BitVec 64)
  | failed (poison : Bool)
deriving DecidableEq, Repr

/-- What one poll of the doorbell area reads (R453, Table 13-1): either the fault of the read, or the
counters at 0x3000, the four slots at 0x3040, the tail slots of the changed groups and the heads of the
full completion queues. -/
structure DoorbellRead where
  fault : Option (Fin 6 × Nat)
  counters : List Word
  adminTail : Nat
  adminCqHead : Nat
  faultHead : Nat
  eventHead : Nat
  tails : List (Nat × Nat)
  cqHeads : List (Nat × Nat)
deriving DecidableEq, Repr

/-- A logical block with its 16-byte seal and its write generation. -/
structure StagedLb where
  gen : Nat
  data : List Byte
  tag : List Byte
deriving DecidableEq, Repr

/-- A Saltern page as programmed (Tables 14-2, 14-3): header fields, and the occupied slots as
(slot in segment, volume, LBA, block). Encryption is applied at the flash interface (R495), in Machine/Pages.lean. -/
structure FlashPage where
  kind : Nat
  mirror : Bool
  gcCopy : Bool
  lsn : Nat
  page : Nat
  gen : Nat
  seq : Nat
  time : BitVec 64
  opseq : Nat
  slots : List (Nat × Nat × Nat × StagedLb)
  /-- the records of a journal page of the peer (type 3, R566) -/
  recs : List (BitVec 128) := []
  /-- the LUN of the part on which it has been programmed (R491) -/
  lun : Nat := 0
deriving DecidableEq, Repr

/-- How a page read of the flash ends (R514): the most bits corrected in any codeword, or an
uncorrectable codeword. -/
inductive FlashRead where
  | good (corrected : Nat)
  | uncorrectable
deriving DecidableEq, Repr

/-- One range of a RELEASE or MIRROR RELEASE record (Table 14-5). -/
structure ReleaseRange where
  volume : Nat
  lba : Nat
  count : Nat
  gen : Nat
deriving DecidableEq, Repr

/-- A HEARTBEAT message (Table 16-1). -/
structure Heartbeat where
  seq : BitVec 16
  node : Nat
  role : Bool
  lifeCycle : Nat
  spindles : BitVec 8
  pickups : BitVec 16
  volumes : List Nat
  saltern : Nat
  time : Nat
  acks : List (BitVec 16)
deriving DecidableEq, Repr

/-- A Nerindian message (Table 16-1). -/
inductive NerMsg where
  | heartbeat (h : Heartbeat)
  | mirrorData (p : FlashPage)
  | mirrorAck (pageSeq : Nat)
  | journal (recs : List (BitVec 128))
  | mirrorRelease (rs : List ReleaseRange)
  | cluster (disc : Nat) (addr : Word) (words : List (List Byte))
  | burnReport (recs : List (BitVec 128))
  | fetch (volume lba count : Nat)
  | fetchData (volume lba : Nat) (lbs : List (Option StagedLb))
  | releaseRequest (spindles : BitVec 8) (pickups : BitVec 16)
  | home (volume node gen : Nat)
deriving DecidableEq, Repr

/-- What the load of a disc reads of one side (R524, R525): its ledger bands upward from band 0 until a blank one, each as
its blocks in order (4,096 bytes and the seal; none: not recovered; blocks after the last are zero), and the bands of layers
0 to 3 in which a blank probe decoded a frame. -/
structure LedgerSide where
  bands : List (List (Option (List Byte)))
  probed : List (Nat × Nat)
deriving DecidableEq, Repr

/-- What the load of a disc reads of sides A and B. -/
structure LedgerRead where
  a : LedgerSide
  b : LedgerSide
deriving DecidableEq, Repr

/-- What firmware initialisation finds when it reads the Saltern (R507, R509): whether the latest
checkpoint reads good, where the journal replay ends, the first failing page of each open segment, and
whether the key pair unwraps. -/
structure SalternScan where
  ckptGood : Bool
  keyGood : Bool
  journalBad : Bool
  cuts : List (Nat × Nat)
deriving DecidableEq, Repr

/-- The commands, in the order of the opcode table; each docstring is the row's summary and rule. -/
inductive Instr where
  /-- Host software writes a BAR0 register that has no row of its own; each field takes the write under its access type. (R12) -/
  | registerWrite (off : Nat) (val : Word)
  /-- A BAR0 write whose byte enables do not cover a whole register is discarded, sets HIF_ERR.BAD_ACCESS and makes a record. (R424) -/
  | partialRegisterWrite (off : Nat) (be : BitVec 4) (val : Word)
  /-- A register access over the UCIe sideband reaches the GLB_, CLK_, TG_, MEM_ or HIF_ blocks; any other block completes with Unsupported Request. (R421) -/
  | sidebandRegisterAccess (write : Bool) (off : Nat) (val : Word)
  /-- Writing GLB_SETUP_LOCK.LOCK makes every RWL field read-only until a reset. (R426) -/
  | setupLock (val : Word)
  /-- Writing TG_CTL.SNAP captures device time into TG_SNAP. (R369) -/
  | tgSnap (val : Word)
  /-- Writing TG_CTL.LOAD sets device time from TG_LOAD and sets TIME_VALID. (R370) -/
  | tgLoad (val : Word)
  /-- Writing TG_NEXT_SEC arms the load of device time at the next PPS edge. (R371) -/
  | tgNextSecWrite (val : Word)
  /-- Writing CLK_RST.SW_RESET with key 0xC5 resets the device with cause SOFTWARE; without the key the write is refused and recorded. (R379) -/
  | swReset (val : Word)
  /-- A write to CLK_GATE sets or clears unit clock enables; a clear is refused while the unit has work or serves a mechanism out of OFF. (R355) -/
  | clkGateWrite (val : Word)
  /-- On the idle handshake of its fabric interface, a unit whose enable was cleared stops its clock. (R356) -/
  | gateClosure (u : Fin 14)
  /-- With no idle handshake within 1,024 cycles, the closure stays pending and CLK_ERR.GATE_TIMEOUT is set. (R356) -/
  | gateTimeout (u : Fin 14)
  /-- A unit with CLK_AUTO set that stays idle for CLK_AUTO.IDLE × 64 cycles has its clocks stopped. (R357) -/
  | autoGateIdle (u : Fin 14)
  /-- A request to an automatically gated unit restarts its clocks within 8 cycles, and the request proceeds. (R357) -/
  | autoGateWake (u : Fin 14)
  /-- A write to CLK_OUT changes the CLKOUT source or divider at the next low phase, and holds CLKOUT low above 200 MHz. (R358) -/
  | clkOutWrite (val : Word)
  /-- A write of CLK_MON.ONF_RATE makes the device sense VDDQ_ONF again; while the two disagree, the Saltern issues no ONFI operation. (R604) -/
  | clkMonWrite (val : Word) (vddqMv : Nat)
  /-- Writing HIF_FW_CTL.GO starts the untranslated fetch of the firmware image in class C0. (R428) -/
  | hifFwGo (val : Word)
  /-- Setting SOR_CFG.EN enables a Sorrel port and starts its training. (R105) -/
  | sorCfgEnSet (p : Pk) (val : Word)
  /-- Clearing SOR_CFG.EN ends training or traffic, idles the transmitters, takes the port DOWN and stalls its spots. (R620) -/
  | sorCfgEnClear (p : Pk) (val : Word)
  /-- Setting QUE_CTL.EN enables the admin queue and the device rings, or sets QUE_ERR.CFG when the configuration is invalid. (R459) -/
  | queCtlEnSet (val : Word)
  /-- Clearing QUE_CTL.EN disables every queue and then deletes every I/O queue. (R460) -/
  | queCtlEnClear (val : Word)
  /-- Writing QUE_ADMIN_FAULT.RETRY restarts doorbell polling after an admin fault. (R455) -/
  | queAdminRetry (val : Word)
  /-- At the end of a 1 ms miss window, the further misses produce one record with their count. (R28) -/
  | deadlineWindowEnd (row : Fin 8) (inst : Nat)
  /-- An RS(544,514) codeword received on a lane is corrected, or counted as uncorrectable with its cells marked lost. (R79) -/
  | codewordReceive (p : Pk) (lane : Fin 8) (symErrs : Nat) (cells : List (Fin 4))
  /-- Eight consecutive uncorrectable codewords, or no SFS for two superframes, declares loss of a lane. (R80) -/
  | laneLoss (p : Pk) (up : BitVec 8) (dn : BitVec 2)
  /-- The retrained lane completes the PRBS13 and framed steps and carries traffic again. (R118) -/
  | laneRetrainDone (p : Pk) (down : Bool) (lane : Fin 8)
  /-- A lane retrain that is not complete within 200 µs fails, and the port retrains in full. (R119) -/
  | laneRetrainTimeout (p : Pk) (down : Bool) (lane : Fin 8)
  /-- A control block (SFS, training marker or reserved code) is received and acted on, or discarded and counted. (R83) -/
  | controlBlockReceive (p : Pk) (lane : Fin 8) (payload : BitVec 256) (running : Nat) (rtt : Nat) (skew : Nat)
  /-- A step of port training completes (lock, framing, deskew, IDENTIFY), and the port reaches UP after the last. (R105) -/
  | trainingStepDone (p : Pk) (r : TrainReport)
  /-- A training step that exceeds its bound fails training; the port retries, or enters FAULT after the last retry. (R105) -/
  | trainingStepTimeout (p : Pk)
  /-- A SAMPLE cell enters its spot channel, where it is recentred, conditioned, judged for defects, resampled, equalised and cancelled. (R89) -/
  | sampleCellReceive (p : Pk) (lane : Fin 8) (header : BitVec 16) (samples : List Byte)
  /-- A SERVO cell copy is received; the first copy that decodes supplies its channel for the tick. (R92) -/
  | servoCellReceive (p : Pk) (lane : Fin 8) (header : BitVec 16) (samples : List (BitVec 16))
  /-- A CURRENT cell delivers the winding currents of a chopper slot, and the chopper slopes adapt. (R93) -/
  | currentCellReceive (p : Pk) (lane : Fin 8) (cell : BitVec 64)
  /-- A TELEMETRY status cell reports owner, watchdog, lock, timing fault, underruns, temperature and laser faults. (R94) -/
  | statusCellReceive (p : Pk) (data : BitVec 96)
  /-- A TELEMETRY response to a CONTROL cell arrives, carrying the tag, opcode, status and result. (R117) -/
  | responseCellReceive (p : Pk) (data : BitVec 88)
  /-- A CONTROL cell unanswered for 100 µs sets CMD_TIMEOUT and is reissued; the third timeout sends the port to FAULT. (R116) -/
  | controlTimeout (p : Pk) (tag : Byte)
  /-- At each superframe start the port sends the SFS, the ACTUATOR cell and the WRITE cells due. (R97) -/
  | downstreamSuperframe (p : Pk) (late : BitVec 8) (missed : Bool)
  /-- No SAMPLE cell of an enabled spot for 2 µs stalls the spot channel, which freezes its loops and discards its frame in progress. (R114) -/
  | spotStall (g : Spot)
  /-- After HANGOVER samples with no criterion, the channel resumes TRACK with boosted steps. (R136) -/
  | defectEnd (g : Spot)
  /-- After 1,024 samples, the baseline, gain and asymmetry loops return to their normal exponents. (R136) -/
  | resumeBoostEnd (g : Spot)
  /-- After 256 baud samples with acquisition gains, timing returns to KP and KI. (R136) -/
  | acqGainEnd (g : Spot)
  /-- A defect longer than FLY_MAX baud periods sets TIMING_UNCERTAIN and FLY_EXPIRE, and samples stay erased until a wedge check succeeds. (R137) -/
  | flywheelExpiry (g : Spot)
  /-- When the stream count reaches a wedge, the channel stops baud samples, advances μ over the gap and resumes. (R142) -/
  | wedgeGap (g : Spot) (found : Option Int) (check : Bool)
  /-- A neighbour that has not written position k + 2 when the own FIFO holds 224 entries beyond k is treated as absent, and ALIGN is set. (R151) -/
  | alignTimeout (g : Spot) (n : Fin 4)
  /-- The frame's last sample is written, the slot passes to the Yarrow pool, and the frame decode deadline starts. (R162) -/
  | frameHandover (g : Spot)
  /-- An idle engine takes the queued job with the earliest deadline, pass-1 or eligible joint. (R187) -/
  | engineJobStart (e : Eng)
  /-- An engine stage ends; the engine checks convergence and runs the extension test before the next stage. (R186) -/
  | engineStageEnd (e : Eng) (faulty : Bool)
  /-- JOINT_WAIT cycles after pass 1 ended, a joint job becomes eligible without the missing records. (R184) -/
  | jointWaitExpiry (g : Spot)
  /-- A queued pass-1 job not started by D − R_MIN − MARGIN is dropped as an erasure and a class F miss. (R187) -/
  | jobDrop (g : Spot)
  /-- A job not at output by D − MARGIN is stopped and goes straight to output. (R188) -/
  | hardStop (e : Eng)
  /-- At the cluster timeout, missing frames become erasures and the outer decoder solves the cluster. (R198) -/
  | clusterTimeout (p : Pk) (addr : Word)
  /-- A cluster not finished within one frame time after its last decision goes to re-read and sets ASSEMBLY_MISS. (R200) -/
  | assemblyDeadlineMiss (p : Pk) (addr : Word)
  /-- A pickup begins a read revolution of a band, for READ, re-read, rebuild or probe. (R53) -/
  | bandReadStart (p : Pk) (layer : Fin 4) (band : Nat) (slot : Nat)
  /-- The write channel starts a band once every cluster is presented and the ledger records the band blank. (R224) -/
  | bandBurnStart (p : Pk) (bad : List Nat)
  /-- The write spots start writing at the first frame-slot boundary after VERIFIED. (R225) -/
  | revolutionStart (p : Pk) (slot : Nat)
  /-- A revolution ends at its start slot, and the row steps one track, or jumps to the next band after revolution 3. (R225) -/
  | revolutionEnd (p : Pk)
  /-- A band burned in four revolutions finishes verification, and its replacements and write-scale step follow. (R231) -/
  | bandBurnEnd (p : Pk)
  /-- Writing resumes with WRITE START at the first frame slot for which the symbols and write_en are ready. (R232) -/
  | writeResume (p : Pk) (w : Fin 8) (slot : Nat)
  /-- The servo tick compute opens once all eight channels are decoded, or at S_(s+1) + 480 ns, and runs every loop. (R236) -/
  | tickCompute (p : Pk)
  /-- A tick that misses its cutoff repeats the previous cell; a second consecutive miss enters HOLD. (R237) -/
  | tickCutoff (p : Pk)
  /-- After BRIDGE_MAX consecutive ticks in BRIDGE, IMPLAUSIBLE is set and the engine enters HOLD. (R259) -/
  | bridgeLimit (p : Pk) (loop : Fin 5)
  /-- MISS_MAX consecutive ticks with a focus channel missing put the engine in HOLD. (R267) -/
  | missMaxExpiry (p : Pk)
  /-- After FAULT_MISS consecutive tick misses, the engine sends hold cells and enters FAULT. (R270) -/
  | faultMissExpiry (p : Pk)
  /-- A loop output at OUT_LIM for 64 consecutive ticks sets SVO_ERR.SAT. (R249) -/
  | outputSaturation (p : Pk) (loop : Fin 5)
  /-- TE within ON_TRACK_THR for ON_TRACK_TICKS ticks, with VERIFIED in a burn, enters ON_TRACK. (R264) -/
  | onTrackEntry (p : Pk)
  /-- With its cause absent for 4 ticks, the engine leaves HOLD, closes the loops and verifies the position. (R269) -/
  | holdRecover (p : Pk)
  /-- After HOLD_MAX ticks in HOLD, the engine seeks T* from FOCUSED or reacquires focus. (R269) -/
  | holdMaxExpiry (p : Pk)
  /-- A decoded wedge result from the wedge reader is used for position, offsets, P_w and the index-wedge work. (R240) -/
  | wedgeResult (p : Pk) (w : WedgeRead)
  /-- Spot 16 off its target for SLIP_WEDGES consecutive wedges clears write_en and drops VERIFIED. (R244) -/
  | trackSlip (p : Pk)
  /-- A wedge that gives no result is bridged by prediction of its index and time. (R245) -/
  | wedgeBridge (p : Pk)
  /-- After WEDGE_MISS_MAX missing wedges, the engine leaves ON_TRACK and searches for one revolution. (R245) -/
  | wedgeLost (p : Pk)
  /-- A wedge search that passes one revolution without a result sets SEEK_FAIL and enters HOLD. (R245) -/
  | wedgeSearchEnd (p : Pk)
  /-- Focus acquisition begins once the spindle is at speed, the port is UP and the port owns the front-end. (R273) -/
  | focusAcqStart (p : Pk)
  /-- |FE| within FOCUS_WRITE_LIM for 16 ticks enters FOCUSED. (R273) -/
  | focusSettled (p : Pk)
  /-- A sweep that ends without capture retries, or after FACQ_RETRIES sets FOCUS_FAIL and goes to OFF. (R274) -/
  | focusSweepEnd (p : Pk)
  /-- After KICK_TICKS the layer-jump kick ends and the focus coasts to the next S-curve. (R275) -/
  | kickEnd (p : Pk)
  /-- A layer jump that sees no S-curve by JUMP_TIMEOUT sets JUMP_FAIL and reacquires focus. (R277) -/
  | jumpTimeout (p : Pk)
  /-- At the end of a move profile, the engine sets the track polarity and closes tracking and yaw. (R283) -/
  | moveProfileEnd (p : Pk)
  /-- A capture not met within SETTLE_MAX ticks starts a fine seek. (R283) -/
  | settleTimeout (p : Pk)
  /-- The sled stops at the end of a sled seek, and the fine seek starts. (R279) -/
  | sledSeekDone (p : Pk)
  /-- When one track remains in a fine seek, the engine makes a final move. (R280) -/
  | fineSeekDone (p : Pk)
  /-- At count 0 of each PWM period, duties are latched and the next period's drive is computed. (R297) -/
  | focPeriod (n : Spn) (m : FocSample)
  /-- A FOC compute missing its cutoff repeats the duties; a second miss turns the gates off and enters FAULT. (R297) -/
  | focCutoff (n : Spn)
  /-- Every 8 periods the speed loop updates iq_ref from the wedge or observer speed. (R300) -/
  | speedLoopUpdate (n : Spn) (emfAlpha : Int) (emfBeta : Int)
  /-- 64 consecutive speed updates within n*/1,024 report the spindle at speed. (R301) -/
  | atSpeedReport (n : Spn)
  /-- A spindle in RUN not at speed for 2 s sets MOT_SP_ERR.SPEED_ERR. (R301) -/
  | speedErrTimeout (n : Spn)
  /-- vq clamped for 64 consecutive periods sets MOT_SP_ERR.SAT. (R298) -/
  | modulationLimit (n : Spn)
  /-- At the end of the 20 ms catch interval, the spindle decides by KE and rotation. (R306) -/
  | catchEnd (n : Spn) (last : Option (Int × Int))
  /-- When ALIGN_T has elapsed, the spindle enters RAMP. (R308) -/
  | alignEnd (n : Spn)
  /-- At HANDOVER speed with the observer locked for 32 periods, the spindle enters RUN. (R308) -/
  | handover (n : Spn)
  /-- After 64 periods of RUN, θ has moved from the forced angle to the observer angle. (R308) -/
  | angleBlendEnd (n : Spn)
  /-- No hand-over 200 ms after HANDOVER speed fails the attempt and turns the gates off for 100 ms. (R309) -/
  | handoverTimeout (n : Spn)
  /-- After 100 ms off the start repeats from CATCH, or after START_TRIES the spindle enters FAULT. (R309) -/
  | startRetry (n : Spn)
  /-- Current below PROBE_MIN for 20 ms ends braking, toward ALIGN or OFF. (R307) -/
  | brakeEnd (n : Spn)
  /-- Each bus-voltage output is judged against CHOP_ON and TRIP, and the deceleration is cut on a rise. (R312) -/
  | busFilterOutput (n : Spn) (m : BusSample)
  /-- 200 µs above ESC, or with low brake current while chopping, forces braking and sets CHOP_FAULT. (R312) -/
  | escTimeout (n : Spn)
  /-- The bus below UV for 1 ms turns the gates off and enters FAULT. (R312) -/
  | undervoltTimeout (n : Spn)
  /-- SPn_DESAT_N low turns the phase gates off within 50 ns and enters FAULT. (R314) -/
  | desat (n : Spn)
  /-- A modulator stream without a transition for 64 clocks turns the gates off and enters FAULT. (R290) -/
  | modStuck (n : Spn) (stream : Fin 4)
  /-- SPn_OGNT rises; a spindle with a start in force enters CATCH. (R292) -/
  | grantRise (n : Spn)
  /-- SPn_OGNT falls; the gates are forced low, and OWN_LOST is set if the request is held. (R293) -/
  | grantFall (n : Spn)
  /-- Every 20.48 µs the planner advances every axis profile. (R316) -/
  | plannerUpdate
  /-- 50 ms after reaching its stop, the homing axis sets HOME_POS and moves to its home position. (R320) -/
  | homeStopWait (a : Ax)
  /-- An axis unmoved for STANDSTILL_T lowers its current to HOLD_PCT and sets REDUCED. (R322) -/
  | standstillTimeout (a : Ax)
  /-- After 1,024 slots of current rise, the requested move profile starts. (R322) -/
  | currentRaiseDone (a : Ax)
  /-- For each chopper slot the unit predicts the winding currents and sends the CHOPPER decisions. (R326) -/
  | chopperSlot (p : Pk) (ready : Bool) (lost : Bool)
  /-- After CUR_MISS_MAX slots without CURRENT cells, the windings decay and the axes freeze. (R329) -/
  | currentMissLimit (p : Pk)
  /-- 4 consecutive slots received unfreeze the axes and verify the sled. (R329) -/
  | currentResume (p : Pk)
  /-- A calibration run starts on its trigger, the drift run at the next idle or band boundary. (R340) -/
  | calibrationStart (p : Pk)
  /-- A measurement step of a run completes, and agreeing values are committed. (R343) -/
  | calibrationStepEnd (p : Pk) (vals : List Int)
  /-- The stop detector fires on missing REFCLK edges and trips the safe latch. (R359) -/
  | refclkStop
  /-- A REFCLK count window completes and is judged good or bad. (R359) -/
  | refclkWindow (count : Nat)
  /-- Each TIDE period counts FBO edges, and the crystal is checked against FBO. (R360) -/
  | fboPeriodCheck (count : Nat)
  /-- Each divided clock counted over 1,024 FBO cycles outside ±8 % trips DIV_FAULT. (R361) -/
  | dividerCheck (dom : Fin 5) (count : Nat)
  /-- Loss of lock of the root PLL trips the safe latch. (R361) -/
  | rootPllUnlock
  /-- After a trip, the management clock moves to FBO or the relocked root, whichever qualifies first. (R366) -/
  | mgmtClockSwitch (toFbo : Bool)
  /-- REFCLK valid for 64 µs lets the root PLL lock or relock. (R359) -/
  | refclkValid
  /-- The root PLL relocks after a trip and the device restarts with cause CLOCK, or RELOCK_FAIL after the last try. (R368) -/
  | rootPllRelock (locked : Bool)
  /-- A TSY_PPS edge loads, slews or steps device time. (R371) -/
  | ppsEdge (rising : Bool)
  /-- No PPS edge for 1.1 s holds the time rate and sets PPS_LOSS. (R372) -/
  | ppsLoss
  /-- TSY_10M missing for 1 µs or off frequency holds the rate and sets TSY_LOSS. (R372) -/
  | tsy10mLoss
  /-- Device time reaching TG_CMPk sets the event and clears the enable, and may wake from DEEP. (R374) -/
  | comparatorMatch (k : Fin 4)
  /-- PFW below threshold starts the power-fail response: no new command, aborts, spindles off, checkpoint. (R376) -/
  | pfwFall
  /-- TAMPER_N low wipes the secure part, makes a tamper record and acts by TAMPER_ACTION. (R585) -/
  | tamper
  /-- WAKE_N low starts up from DEEP, or only sets TG_EVENT.WAKE otherwise. (R375) -/
  | wakePin
  /-- After its checkpoint the device write-protects flash, idles its links and power-gates into DEEP. (R377) -/
  | deepEntry
  /-- VDD_TG valid starts Tidegate and a start-up with cause TIDE_POR. (R605) -/
  | tidePowerOn
  /-- The main supplies in range start the start-up sequence with cause MAIN_POR. (R605) -/
  | mainSupplyValid
  /-- A main supply below its reset threshold for 200 ns asserts the main reset. (R606) -/
  | mainSupplyLoss
  /-- A UCIe link reset or hot reset restarts the device with cause LINK. (R420) -/
  | linkReset
  /-- A management processor unresponsive for 100 ms resets the device with cause WATCHDOG. (R379) -/
  | mgmtWatchdog
  /-- Step 1 completes: fuses loaded, straps sampled, fuse integrity checked. (R381) -/
  | fuseLoadDone (role : Bool) (nidLo : BitVec 4) (intact : Bool)
  /-- FBO is judged stable, and the sideband comes up. (R360) -/
  | fboStable
  /-- The root PLL locks, the dividers start, and the management clock moves to CORE. (R350) -/
  | rootPllLock (vddqMv : Nat)
  /-- The checker self-test of step 4 completes, or stops start-up on a failure. (R402) -/
  | selfTestDone (pass : Bool)
  /-- Step 5 clears the valid bits of every array and wipes the secure part. (R393) -/
  | invalidationDone (readBack : List (BitVec 64))
  /-- The march of step 6 completes, remapping failing words. (R404) -/
  | marchDone (fails : List MemFault)
  /-- The UCIe mainband finishes training during start-up. (R381) -/
  | mainbandTrained (rate : Fin 2) (x32 : Bool) (repaired : Bool)
  /-- The firmware fetch ends and its signature is accepted or rejected. (R428) -/
  | firmwareFetchDone (img : Option FwHeader)
  /-- No image offered within 120 ms of link-up makes the boot ROM load the recovery image. (R381) -/
  | firmwareOfferTimeout
  /-- Step 8: firmware initialised, START record made, admin queue ready. (R381) -/
  | firmwareInitDone (rd : SalternScan)
  /-- Each SCRUB_INT, every critical word is read under the vote. (R400) -/
  | scrubWalk (fs : List CritFault) (ms : List MemEvent)
  /-- A Brine cache fill returns its line, and waiting misses proceed. (R407) -/
  | brineFillDone (cls : Fin 4) (line : Nat) (fill : BrineFill)
  /-- The drain walk passes the last line with no dirty line left, and the cache is OFF. (R415) -/
  | cacheDrainDone
  /-- A sideband WAKE message starts up from DEEP; it is ignored in any other state. (R422) -/
  | sidebandWake
  /-- A STATUS QUERY is answered with a STATUS message carrying HIF_BOOT. (R422) -/
  | sidebandStatusQuery
  /-- The link degrades to x32, setting WIDTH_DEGRADED and making a record. (R419) -/
  | linkWidthDegrade
  /-- A link retrain without reset pauses transfers and keeps device state. (R419) -/
  | linkRetrain
  /-- Bus Master Enable at 0 or entry to D3hot parks every DMA class and defers MSI-X. (R445) -/
  | busMasterDisable
  /-- Bus mastering returns, and parked transfers and pending messages resume. (R445) -/
  | busMasterEnable
  /-- A table walk completes with a translation or a fault. (R433) -/
  | translationWalkDone (x : Nat) (reads : List TableRead)
  /-- A read completion returns data for a transfer, or an error as TARGET_ERROR. (R442) -/
  | dmaReadCompletion (x : Nat) (r : ReadResult)
  /-- A read without completion within CPL_TIMEOUT fails as TARGET_ERROR. (R443) -/
  | completionTimeout (x : Nat)
  /-- A held cluster past HOLD_REVS, or the fifth held, is released for re-read with a class F miss. (R440) -/
  | deliveryHoldExpiry (p : Pk)
  /-- Each poll interval the device reads the generation counters and heads, and the changed tail slots. (R453) -/
  | doorbellPoll (rd : DoorbellRead)
  /-- Fetched entries take command contexts and start, in arbitration order. (R461) -/
  | sqEntryFetch (q : Nat) (entries : List Sqe)
  /-- COALESCE.TIME after the first unsignalled entry, the CQ signals its vector. (R475) -/
  | coalesceTimeout (cq : Nat)
  /-- IDENTIFY writes the device, volume, mechanism or volume-list structure. (R482) -/
  | identify (c : Nat)
  /-- CREATE QUEUE makes a CQ, or an SQ bound to a CQ, ENABLED. (R466) -/
  | createQueue (c : Nat)
  /-- DELETE QUEUE removes a disabled SQ or an unbound CQ. (R466) -/
  | deleteQueue (c : Nat)
  /-- DISABLE QUEUE takes an SQ to DISABLING and completes when no command of it remains. (R469) -/
  | disableQueue (c : Nat)
  /-- ENABLE QUEUE resumes an SQ at the given index, or resets an erroring CQ. (R470) -/
  | enableQueue (c : Nat)
  /-- GET QUEUE STATE returns the head, tail, latched index, state and cause. (R482) -/
  | getQueueState (c : Nat)
  /-- GET FEATURE returns the fields of the named feature. (R484) -/
  | getFeature (c : Nat)
  /-- A request to enter DEEP is accepted only in IDLE after step 8 with nothing else in flight. (R36) -/
  | setFeaturePowerState (c : Nat)
  /-- Sets, changes or clears the root of an ASID 1 to 255. (R432) -/
  | setFeatureAsidRoot (c : Nat)
  /-- Invalidates TLB and walk-cache entries of an ASID or VA range. (R434) -/
  | setFeatureInvalidate (c : Nat)
  /-- Enables the Brine cache, stopping any drain walk. (R416) -/
  | cacheEnable (c : Nat)
  /-- Takes the cache to DRAINING and starts the write-back walk. (R414) -/
  | cacheDisable (c : Nat)
  /-- Requests new ALLOC and LOCK way masks. (R409) -/
  | cacheMasks (c : Nat)
  /-- Converts ways 15 downward to scratchpad, or back to cache. (R410) -/
  | cacheConvert (c : Nat)
  /-- Sets the doorbell poll interval. (R453) -/
  | setFeaturePoll (c : Nat)
  /-- Sets the lowest severity posted to the event queue. (R472) -/
  | setFeatureEventFilter (c : Nat)
  /-- Sets the interrupt coalescing count and time of a CQ. (R475) -/
  | setFeatureCoalesce (c : Nat)
  /-- Sets the weights of SQ priorities 1 to 3. (R462) -/
  | setFeatureArbitration (c : Nat)
  /-- Grants a VA range as host-lent memory. (R446) -/
  | lendMemory (c : Nat)
  /-- LEND MEMORY with size 0 writes back HLM structures, drains the cache and returns the grant. (R447) -/
  | returnMemory (c : Nat)
  /-- After LEND MEMORY, the staging index is built from the segment summaries and metadata. (R510) -/
  | indexBuild
  /-- Parked transfers of the fault translate again from their boundary. (R438) -/
  | resolveFaultRetry (c : Nat)
  /-- Commands parked on the fault end with TRANSLATION_FAULT, with the effects of Table 12-7. (R438) -/
  | resolveFaultAbort (c : Nat)
  /-- A loaded disc's ledger is read, its epoch loaded and blank probes run. (R524) -/
  | mediaEventLoaded (c : Nat) (led : LedgerRead)
  /-- Commits the disc and completes when the spindle is OFF and no command needs the disc. (R522) -/
  | mediaEventUnload (c : Nat)
  /-- Reports a spindle as empty. (R482) -/
  | mediaEventEmpty (c : Nat)
  /-- Starts a background FORMAT of the staging flash. (R486) -/
  | formatSaltern (c : Nat)
  /-- Writes the ledger of a blank disc as a background operation. (R486) -/
  | formatDisc (c : Nat)
  /-- Cryptographically erases the Saltern, and with scope 1 block-erases it. (R496) -/
  | sanitise (c : Nat)
  /-- Returns the progress record of one or all background operations. (R485) -/
  | progress (c : Nat)
  /-- A step of a background operation ends; its progress is recorded, or its end posted. (R485) -/
  | operationStepDone (op : Nat) (last : Bool) (ok : Bool) (fraction : Nat)
  /-- Checks the members and commits the set descriptor on every member. (R531) -/
  | createSet (c : Nat) (buf : List Byte)
  /-- Commits the destroyed flag on every member of the set. (R532) -/
  | destroySet (c : Nat)
  /-- Starts a reshape copy of the volume onto a new set. (R556) -/
  | reshapeSet (c : Nat) (buf : List Byte)
  /-- Adds formatted blank discs to the spare pool. (R550) -/
  | sparePoolAdd (c : Nat) (buf : List Byte)
  /-- Removes discs from the spare pool. (R550) -/
  | sparePoolRemove (c : Nat) (buf : List Byte)
  /-- Lists the discs in the spare pool. (R550) -/
  | sparePoolList (c : Nat)
  /-- Returns the set state, failed members and lost stripes. (R559) -/
  | setStateQuery (c : Nat)
  /-- Takes a set offline. (R559) -/
  | setStateOffline (c : Nat)
  /-- Brings an offline set back online. (R559) -/
  | setStateOnline (c : Nat)
  /-- Fails the named member of a set. (R549) -/
  | setStateFailMember (c : Nat)
  /-- A rebuild starts once the spare and k survivors are loaded. (R551) -/
  | rebuildStart (volume : Nat) (member : Nat)
  /-- CALIBRATE runs a full calibration of the named pickups. (R340) -/
  | calibrateFull (c : Nat)
  /-- CALIBRATE runs a drift calibration. (R340) -/
  | calibrateDrift (c : Nat)
  /-- CALIBRATE loads write strategy and level powers. (R332) -/
  | calibrateLoadStrategy (c : Nat) (buf : List Byte)
  /-- CALIBRATE discards calibration sets. (R340) -/
  | calibrateDiscard (c : Nat)
  /-- Writes an image part into a slot and checks the image at its last part. (R587) -/
  | firmwareLoad (c : Nat) (buf : List Byte)
  /-- Activates a valid slot at the next reset or at once. (R588) -/
  | firmwareActivate (c : Nat)
  /-- Copies held event records from a sequence. (R578) -/
  | recorderRead (c : Nat)
  /-- Writes a keyed attestation over a range of records. (R579) -/
  | recorderChallenge (c : Nat)
  /-- Removes records up to a sequence after authorisation. (R580) -/
  | recorderClear (c : Nat) (buf : List Byte)
  /-- Stores the peer configuration and starts Nerindian training. (R563) -/
  | peerConfigure (c : Nat)
  /-- PEER TAKEOVER mode 0 claims the named mechanisms that are free. (R573) -/
  | peerTakeoverClaim (c : Nat)
  /-- PEER TAKEOVER mode 1 requests release from the peer and takes over. (R573) -/
  | peerTakeover (c : Nat)
  /-- Makes an authorised life-cycle transition. (R581) -/
  | lifeCycle (c : Nat) (buf : List Byte)
  /-- 60 s after the eighth consecutive failure, codes are checked again. (R583) -/
  | authLockoutEnd
  /-- Clears the counters of a block or window. (R625) -/
  | diagnosticClear (c : Nat)
  /-- Copies the registers of a block or window to host memory. (R625) -/
  | diagnosticSnapshot (c : Nat)
  /-- Starts, changes or stops a spindle's speed. (R483) -/
  | motionSpin (c : Nat)
  /-- Takes the spindle to OFF and releases its stage. (R624) -/
  | motionRelease (c : Nat)
  /-- Plans a single-axis move to a target. (R317) -/
  | motionMove (c : Nat)
  /-- Plans a coordinated move of 2 to 4 axes. (R318) -/
  | motionCoordinated (c : Nat)
  /-- Homes an axis against its negative stop. (R320) -/
  | motionHome (c : Nat)
  /-- Starts focus acquisition on a pickup. (R273) -/
  | servoModeStart (c : Nat)
  /-- Stops the servo engine of a pickup. (R483) -/
  | servoModeStop (c : Nat)
  /-- Leaves FAULT with RESUME and focus acquisition. (R270) -/
  | servoModeRestart (c : Nat)
  /-- Sets a loop to OFF, MANUAL or AUTO. (R260) -/
  | servoModeLoop (c : Nat)
  /-- Seeks spot 16 to a track of a layer. (R483) -/
  | servoModeSeek (c : Nat)
  /-- Delivers LBs from staging or disc, with seals if requested. (R477) -/
  | read (c : Nat)
  /-- Ingests LBs with seals into the Saltern and completes when durable. (R480) -/
  | write (c : Nat)
  /-- Completes when the written LBs of a range are recorded in every member's ledger. (R480) -/
  | commit (c : Nat)
  /-- Reads LBs without delivery and reports failures. (R480) -/
  | verify (c : Nat)
  /-- Writes descriptors of LB runs and their states. (R481) -/
  | lbaStatus (c : Nat)
  /-- Pads and commits the volume and records it as sealed. (R480) -/
  | sealVolume (c : Nat)
  /-- A WRITE waiting for admission space starts its ingest. (R500) -/
  | admissionGranted (c : Nat)
  /-- A Saltern page program reports its status; LBs are indexed or rewritten after a failure. (R501) -/
  | pageProgramDone (u : Fin 3) (ok : Bool)
  /-- A superblock erase completes, or marks blocks bad on failure. (R511) -/
  | blockEraseDone (sb : Nat) (failed : Option Nat)
  /-- A Saltern read reports corrected bits, scheduling a rewrite or handling an uncorrectable codeword. (R514) -/
  | pageReadDone (id : Nat) (r : FlashRead)
  /-- Every 4 ms or 256 records, the pending journal page is programmed. (R505) -/
  | journalFlush
  /-- A checkpoint writes the map and tables and a CKPT record. (R506) -/
  | checkpoint
  /-- With fewer than GC_LOW free superblocks, GC picks a victim and copies its segments. (R511) -/
  | gcStart
  /-- At three quarters of RESID_H, the segment's stripes move to the front of the burn order. (R515) -/
  | residencyPriority (lsn : Nat)
  /-- At RESID_H, SAL_ERR.RESIDENCY is set and a record is made per segment. (R515) -/
  | residencyBound (lsn : Nat)
  /-- A commit trigger burns a snapshot of a side into its next ledger band. (R522) -/
  | ledgerCommit (p : Pk) (verified : Bool)
  /-- All four Nerindian lanes are framed and the link is up. (R561) -/
  | nerLinkUp
  /-- A Nerindian lane loss takes the link down and restarts training. (R561) -/
  | nerLaneLoss (lane : Fin 4)
  /-- Each interval the node sends a HEARTBEAT with its state and acknowledgements. (R563) -/
  | heartbeatSend
  /-- A HEARTBEAT arrives; two in a row after loss return the peer. (R565) -/
  | heartbeatReceive (m : Heartbeat)
  /-- No HEARTBEAT for MISS intervals declares the peer lost. (R564) -/
  | heartbeatMiss
  /-- A denied request is retried each heartbeat interval while the peer stays lost. (R572) -/
  | takeoverRetry
  /-- After waiting for the peer's heartbeat at step 8, the node claims its home mechanisms. (R570) -/
  | claimWaitEnd
  /-- A good sequence is acknowledged within 2 µs when no HEARTBEAT falls due sooner. (R562) -/
  | ackSend
  /-- A message unacknowledged for 10 µs is sent again. (R562) -/
  | messageResend (seq : BitVec 16)
  /-- A mirrored page is programmed into the mirror stream. (R566) -/
  | mirrorDataReceive (seq : BitVec 16) (pg : FlashPage)
  /-- A MIRROR ACK makes covered WRITEs durable for completion. (R567) -/
  | mirrorAckReceive (seq : BitVec 16) (pageSeq : Nat)
  /-- A mirrored journal page is kept in the mirror stream. (R566) -/
  | journalReceive (seq : BitVec 16) (recs : List (BitVec 128))
  /-- Release ranges free the mirror copies. (R569) -/
  | mirrorReleaseReceive (seq : BitVec 16) (rs : List ReleaseRange)
  /-- A cross-pair cluster from the home is staged for burning. (R542) -/
  | clusterReceive (seq : BitVec 16) (disc : Nat) (addr : Word) (words : List (List Byte))
  /-- The peer's BURNED and RECORDED records update stripe state. (R542) -/
  | burnReportReceive (seq : BitVec 16) (recs : List (BitVec 128))
  /-- The peer asks for mirrored LBs, which are sent back as FETCH DATA. (R514) -/
  | fetchReceive (seq : BitVec 16) (volume : Nat) (lba : Nat) (count : Nat)
  /-- Fetched LBs are rewritten in the own stream. (R514) -/
  | fetchDataReceive (seq : BitVec 16) (volume : Nat) (lba : Nat) (lbs : List (Option StagedLb))
  /-- The node ends its burns, completes waiting commands and releases the named mechanisms. (R573) -/
  | releaseRequestReceive (seq : BitVec 16) (spindles : BitVec 8) (pickups : BitVec 16)
  /-- A HOME message moves a set's home, and the old home keeps its staged LBs as mirror copies. (R575) -/
  | homeReceive (seq : BitVec 16) (volume : Nat) (node : Nat) (gen : Nat)
  /-- Holding every needed grant, the node sends HOME and serves the volume. (R574) -/
  | becomeHome (volume : Nat)
  /-- Each 1 ms the hottest sensor reading asserts or releases THERM_N. (R613) -/
  | thermalSensorUpdate (readings : List Int)
  /-- A sensor at 120 °C for 100 µs asserts the main reset and sets the shutdown latch. (R614) -/
  | thermalShutdown
  /-- An I²C write sets the target's pointer for the following reads. (R599) -/
  | i2cPointerWrite (x : I2cTransfer)
  /-- A test-access-port instruction takes effect at Update-IR. (R600) -/
  | jtagInstruction (code : Byte)
  /-- CHIP_RESET resets the device with cause JTAG at Update-IR. (R600) -/
  | jtagChipReset
  /-- The ONFI PLL loses lock, clearing CLK_STATUS.ONF_LOCK, setting CLK_ERR.ONF_UNLOCK and making an event record. (R383) -/
  | onfPllUnlock
  /-- TSY_10M is present again within tolerance, and the device-time rate follows it once more instead of the pulse offsets. (R371) -/
  | tsy10mReturn
  /-- VDD_TG falls below its reset threshold, Tidegate loses its time and state, and the device is held in reset until TIDE_POR. (R605) -/
  | tideSupplyLoss
deriving DecidableEq, Repr

end Sys2Proof
end

