-- ==== Sys2Proof/Config.lean ====
section
/-! DEFINITION. What the spec leaves to the implementation, and the free values. Each constant here is
opaque: nothing can be proved about its value, so a statement about it holds for every value. -/

namespace Sys2Proof.Config

/-- A value the spec leaves open, numbered by the counter `Dev.freeCtr` (assumption 2). -/
opaque freeValue : Nat → Nat

/-- Whether an inexact quotient `n / d` at a point where the spec gives a formula but no rounding is
rounded up (assumption 3). -/
opaque roundUp : Int → Int → Bool

/-- Whether an inexact square root, where the spec takes one and gives no rounding, is rounded up (assumption 3). -/
opaque rootUp : Nat → Bool

/-- The angle of the zero vector in 1/65536 turn, which the arctangent of two arguments does not define. -/
opaque angleOfZero : Int

/-- The coefficient `i` (0 to 7) of interpolator phase `q` (0 to 63), scaled by 2^14 (R139 gives no values). -/
opaque interpCoef : Nat → Nat → Int

/-- The part of the body of a Nerindian message that Table 16-1 names and gives no bytes: the fields of a HEARTBEAT, the LSN and
page beside a page, the place of a cluster, and so on (assumption 114). -/
opaque nerFields : NerMsg → List Byte

/-- The highest open sequence in a range of a MIRROR RELEASE (Table 14-5), which the message does not take from the range. -/
opaque nerOpseq : ReleaseRange → Nat

/-- HMAC-SHA-256 of a message under a key (R582): its 256 bits, the first byte lowest. -/
opaque hmac : List Byte → List Byte → BitVec 256

/-- Key unwrap of RFC 3394 (Table 16-6): the wrapping key and the wrapped bytes; none where its integrity check fails. -/
opaque unwrap : List Byte → List Byte → Option (List Byte)

/-- Whether the ECDSA P-384 signature of an image passes (R586): the key index and the image, header included. -/
opaque signatureOk : Nat → List Byte → Bool

/-- The secret contents of the fuses: the transport key of the die (Table 16-6). -/
opaque transportKey : List Byte

/-- One period of the back-EMF observer and its phase-locked loop (R299 names RS, LS and PLL_BW and gives no
equations): the parameters and currents, the duties in force, and the angle and speed so far with the observer's own state
give the angle in 1/65536 turn, the electrical speed and the next state. -/
opaque observer : List Int → List Int → List Int → Int × Int × List Int

/-- The flags of a CONTROL cell by its opcode (R100 gives no flag). -/
opaque controlFlags : Nat → BitVec 8

/-- The value of a calibrated quantity without a set where the spec names no default: quantity and field. -/
opaque calDefault : Nat → Nat → Int

/-- AES-256-XTS under the Saltern data key pair of a generation, which the part draws itself (R495, R496): the tweak and the
plain bytes. -/
opaque aesXts : Nat → Nat → List Byte → List Byte

/-- The parity of the flash's LDPC codes (R493 names no code): the bytes protected and the number of parity bytes. -/
opaque flashParity : List Byte → Nat → List Byte

/-- The amplitude of the drive of a fine seek's velocity profile, by its distance in tracks (R280). -/
opaque seekAmp : Nat → Int

/-- The tracks that each ramp of a fine seek's velocity profile takes, by its distance in tracks (R280). -/
opaque seekRamp : Nat → Nat

/-- The focus drive of the sweep of a full calibration (Table 9-4), by pickup and superframe (assumption 138). -/
opaque sweepDrive : Nat → Nat → Int

/-- The values of the integrator's mechanism in provisioning (R330 names no bytes of them): the axis, and the offset and the
lowest bit of the field in its window (assumption 128). -/
opaque mechanism : Nat → Nat → Nat → Nat

end Sys2Proof.Config
end

