-- ==== Sys2Proof/Machine/Regs.lean ====
section
/-! DEFINITION. The register map: every field of every register table of the spec (Tables 3-7 to 17-11),
with its place, its access type and its reset value. -/

namespace Sys2Proof.Machine

/-- The access types of Table 0-4 (RSV fields are not listed: they read 0). -/
inductive Acc where
  | ro | rw | w1c | w1s | rwl
deriving DecidableEq, Repr

/-- A register field. Its instance `(i, j)` lies at BAR0 offset `base + sa * i + sb * j`, in bits
`lo` to `lo + w - 1`; `rst` is its reset value, one for every instance or one per `j`. -/
structure Fld where
  base : Nat
  sa : Nat
  sb : Nat
  lo : Nat
  w : Nat
  rst : List Nat
deriving DecidableEq, Repr

/-- One field of a register in the table: place, access, reset values, and whether it is a counter that
DIAGNOSTIC clears. -/
structure RField where
  lo : Nat
  w : Nat
  acc : Acc
  rst : List Nat
  ctr : Bool
deriving DecidableEq, Repr

/-- A register of the table; `ca` and `cb` are the numbers of its instances. -/
structure RegDef where
  name : String
  base : Nat
  sa : Nat
  ca : Nat
  sb : Nat
  cb : Nat
  fields : List RField
deriving DecidableEq, Repr

namespace Reg

/-- GLB_ID.PART -/
def GLB_ID_PART : Fld := ⟨0x0, 0x0, 0x0, 0, 16, [33120]⟩
/-- GLB_ID.VARIANT -/
def GLB_ID_VARIANT : Fld := ⟨0x0, 0x0, 0x0, 16, 4, [0]⟩
/-- GLB_ID.REV -/
def GLB_ID_REV : Fld := ⟨0x0, 0x0, 0x0, 20, 8, [161]⟩
/-- GLB_SETUP_LOCK.LOCK -/
def GLB_SETUP_LOCK_LOCK : Fld := ⟨0x4, 0x0, 0x0, 0, 1, [0]⟩
/-- GLB_SERIAL_LO.SERIAL -/
def GLB_SERIAL_LO_SERIAL : Fld := ⟨0x8, 0x0, 0x0, 0, 32, [0]⟩
/-- GLB_SERIAL_HI.SERIAL -/
def GLB_SERIAL_HI_SERIAL : Fld := ⟨0xC, 0x0, 0x0, 0, 32, [0]⟩
/-- GLB_FW_VER.VER -/
def GLB_FW_VER_VER : Fld := ⟨0x10, 0x0, 0x0, 0, 32, [0]⟩
/-- GLB_NODE.NID -/
def GLB_NODE_NID : Fld := ⟨0x14, 0x0, 0x0, 0, 14, [0]⟩
/-- GLB_NODE.ROLE -/
def GLB_NODE_ROLE : Fld := ⟨0x14, 0x0, 0x0, 14, 1, [0]⟩
/-- CLK_STATUS.ROOT_LOCK -/
def CLK_STATUS_ROOT_LOCK : Fld := ⟨0x10000, 0x0, 0x0, 0, 1, [0]⟩
/-- CLK_STATUS.FBO_STABLE -/
def CLK_STATUS_FBO_STABLE : Fld := ⟨0x10000, 0x0, 0x0, 1, 1, [0]⟩
/-- CLK_STATUS.REF_VALID -/
def CLK_STATUS_REF_VALID : Fld := ⟨0x10000, 0x0, 0x0, 2, 1, [0]⟩
/-- CLK_STATUS.SOURCE -/
def CLK_STATUS_SOURCE : Fld := ⟨0x10000, 0x0, 0x0, 3, 1, [0]⟩
/-- CLK_STATUS.SAFE -/
def CLK_STATUS_SAFE : Fld := ⟨0x10000, 0x0, 0x0, 4, 1, [1]⟩
/-- CLK_STATUS.ONF_LOCK -/
def CLK_STATUS_ONF_LOCK : Fld := ⟨0x10000, 0x0, 0x0, 5, 1, [0]⟩
/-- CLK_ERR.REF_STOP -/
def CLK_ERR_REF_STOP : Fld := ⟨0x10004, 0x0, 0x0, 0, 1, [0]⟩
/-- CLK_ERR.REF_FREQ -/
def CLK_ERR_REF_FREQ : Fld := ⟨0x10004, 0x0, 0x0, 1, 1, [0]⟩
/-- CLK_ERR.ROOT_UNLOCK -/
def CLK_ERR_ROOT_UNLOCK : Fld := ⟨0x10004, 0x0, 0x0, 2, 1, [0]⟩
/-- CLK_ERR.DIV_FAULT -/
def CLK_ERR_DIV_FAULT : Fld := ⟨0x10004, 0x0, 0x0, 3, 1, [0]⟩
/-- CLK_ERR.FBO_FAULT -/
def CLK_ERR_FBO_FAULT : Fld := ⟨0x10004, 0x0, 0x0, 4, 1, [0]⟩
/-- CLK_ERR.RELOCK_FAIL -/
def CLK_ERR_RELOCK_FAIL : Fld := ⟨0x10004, 0x0, 0x0, 5, 1, [0]⟩
/-- CLK_ERR.GATE_REFUSED -/
def CLK_ERR_GATE_REFUSED : Fld := ⟨0x10004, 0x0, 0x0, 6, 1, [0]⟩
/-- CLK_ERR.GATE_TIMEOUT -/
def CLK_ERR_GATE_TIMEOUT : Fld := ⟨0x10004, 0x0, 0x0, 7, 1, [0]⟩
/-- CLK_ERR.ONF_UNLOCK -/
def CLK_ERR_ONF_UNLOCK : Fld := ⟨0x10004, 0x0, 0x0, 8, 1, [0]⟩
/-- CLK_ERR.TSY_LOSS -/
def CLK_ERR_TSY_LOSS : Fld := ⟨0x10004, 0x0, 0x0, 9, 1, [0]⟩
/-- CLK_GATE.EN -/
def CLK_GATE_EN : Fld := ⟨0x10008, 0x0, 0x0, 0, 14, [16383]⟩
/-- CLK_GATE_ST.RUN -/
def CLK_GATE_ST_RUN : Fld := ⟨0x1000C, 0x0, 0x0, 0, 14, [16383]⟩
/-- CLK_GATE_ST.PEND -/
def CLK_GATE_ST_PEND : Fld := ⟨0x1000C, 0x0, 0x0, 16, 14, [0]⟩
/-- CLK_AUTO.EN -/
def CLK_AUTO_EN : Fld := ⟨0x10010, 0x0, 0x0, 0, 14, [0]⟩
/-- CLK_AUTO.IDLE -/
def CLK_AUTO_IDLE : Fld := ⟨0x10010, 0x0, 0x0, 16, 8, [16]⟩
/-- CLK_OUT.EN -/
def CLK_OUT_EN : Fld := ⟨0x10014, 0x0, 0x0, 0, 1, [0]⟩
/-- CLK_OUT.SEL -/
def CLK_OUT_SEL : Fld := ⟨0x10014, 0x0, 0x0, 1, 3, [0]⟩
/-- CLK_OUT.DIV -/
def CLK_OUT_DIV : Fld := ⟨0x10014, 0x0, 0x0, 4, 8, [0]⟩
/-- CLK_RST.KEY -/
def CLK_RST_KEY : Fld := ⟨0x10018, 0x0, 0x0, 0, 8, [0]⟩
/-- CLK_RST.SW_RESET -/
def CLK_RST_SW_RESET : Fld := ⟨0x10018, 0x0, 0x0, 8, 1, [0]⟩
/-- CLK_STRAP.ROLE -/
def CLK_STRAP_ROLE : Fld := ⟨0x1001C, 0x0, 0x0, 0, 1, [0]⟩
/-- CLK_STRAP.NID_LO -/
def CLK_STRAP_NID_LO : Fld := ⟨0x1001C, 0x0, 0x0, 1, 4, [0]⟩
/-- CLK_MON.RELOCK_TRIES -/
def CLK_MON_RELOCK_TRIES : Fld := ⟨0x10020, 0x0, 0x0, 0, 4, [3]⟩
/-- CLK_MON.ONF_RATE -/
def CLK_MON_ONF_RATE : Fld := ⟨0x10020, 0x0, 0x0, 4, 1, [0]⟩
/-- CLK_MON_CNT.REF -/
def CLK_MON_CNT_REF : Fld := ⟨0x10024, 0x0, 0x0, 0, 16, [0]⟩
/-- CLK_MON_CNT.FBO -/
def CLK_MON_CNT_FBO : Fld := ⟨0x10024, 0x0, 0x0, 16, 16, [0]⟩
/-- TG_SNAP_LO.TIME -/
def TG_SNAP_LO_TIME : Fld := ⟨0x20000, 0x0, 0x0, 0, 32, [0]⟩
/-- TG_SNAP_HI.TIME -/
def TG_SNAP_HI_TIME : Fld := ⟨0x20004, 0x0, 0x0, 0, 32, [0]⟩
/-- TG_CTL.SNAP -/
def TG_CTL_SNAP : Fld := ⟨0x20008, 0x0, 0x0, 0, 1, [0]⟩
/-- TG_CTL.LOAD -/
def TG_CTL_LOAD : Fld := ⟨0x20008, 0x0, 0x0, 1, 1, [0]⟩
/-- TG_CTL.TSY_EN -/
def TG_CTL_TSY_EN : Fld := ⟨0x20008, 0x0, 0x0, 2, 1, [0]⟩
/-- TG_CTL.PPS_EDGE -/
def TG_CTL_PPS_EDGE : Fld := ⟨0x20008, 0x0, 0x0, 3, 1, [0]⟩
/-- TG_NEXT_SEC.SEC -/
def TG_NEXT_SEC_SEC : Fld := ⟨0x2000C, 0x0, 0x0, 0, 32, [0]⟩
/-- TG_STATUS.TIME_VALID -/
def TG_STATUS_TIME_VALID : Fld := ⟨0x20010, 0x0, 0x0, 0, 1, [0]⟩
/-- TG_STATUS.XTAL_OK -/
def TG_STATUS_XTAL_OK : Fld := ⟨0x20010, 0x0, 0x0, 1, 1, [0]⟩
/-- TG_STATUS.TSY_LOCK -/
def TG_STATUS_TSY_LOCK : Fld := ⟨0x20010, 0x0, 0x0, 2, 1, [0]⟩
/-- TG_STATUS.PFW -/
def TG_STATUS_PFW : Fld := ⟨0x20010, 0x0, 0x0, 3, 1, [0]⟩
/-- TG_STATUS.TAMPER -/
def TG_STATUS_TAMPER : Fld := ⟨0x20010, 0x0, 0x0, 4, 1, [0]⟩
/-- TG_EVENT.PFW_FALL -/
def TG_EVENT_PFW_FALL : Fld := ⟨0x20014, 0x0, 0x0, 0, 1, [0]⟩
/-- TG_EVENT.TAMPER -/
def TG_EVENT_TAMPER : Fld := ⟨0x20014, 0x0, 0x0, 1, 1, [0]⟩
/-- TG_EVENT.WAKE -/
def TG_EVENT_WAKE : Fld := ⟨0x20014, 0x0, 0x0, 2, 1, [0]⟩
/-- TG_EVENT.XTAL_FAIL -/
def TG_EVENT_XTAL_FAIL : Fld := ⟨0x20014, 0x0, 0x0, 3, 1, [0]⟩
/-- TG_EVENT.PPS_LOSS -/
def TG_EVENT_PPS_LOSS : Fld := ⟨0x20014, 0x0, 0x0, 4, 1, [0]⟩
/-- TG_EVENT.TIME_STEP -/
def TG_EVENT_TIME_STEP : Fld := ⟨0x20014, 0x0, 0x0, 5, 1, [0]⟩
/-- TG_EVENT.CMP -/
def TG_EVENT_CMP : Fld := ⟨0x20014, 0x0, 0x0, 6, 4, [0]⟩
/-- TG_PPS_ERR.OFS -/
def TG_PPS_ERR_OFS : Fld := ⟨0x20018, 0x0, 0x0, 0, 32, [0]⟩
/-- TG_RATE.PPB -/
def TG_RATE_PPB : Fld := ⟨0x2001C, 0x0, 0x0, 0, 32, [0]⟩
/-- TG_TAMPER_LO.TIME -/
def TG_TAMPER_LO_TIME : Fld := ⟨0x20020, 0x0, 0x0, 0, 32, [0]⟩
/-- TG_TAMPER_HI.TIME -/
def TG_TAMPER_HI_TIME : Fld := ⟨0x20024, 0x0, 0x0, 0, 32, [0]⟩
/-- TG_LOAD_LO.TIME -/
def TG_LOAD_LO_TIME : Fld := ⟨0x20028, 0x0, 0x0, 0, 32, [0]⟩
/-- TG_LOAD_HI.TIME -/
def TG_LOAD_HI_TIME : Fld := ⟨0x2002C, 0x0, 0x0, 0, 32, [0]⟩
/-- TG_RST_CAUSE.CAUSE -/
def TG_RST_CAUSE_CAUSE : Fld := ⟨0x20030, 0x0, 0x0, 0, 3, [0]⟩
/-- TG_BOOT.MARCH -/
def TG_BOOT_MARCH : Fld := ⟨0x20034, 0x0, 0x0, 0, 2, [0]⟩
/-- TG_CMP_LO.TIME -/
def TG_CMP_LO_TIME : Fld := ⟨0x20040, 0x8, 0x0, 0, 32, [0]⟩
/-- TG_CMP_HI.TIME -/
def TG_CMP_HI_TIME : Fld := ⟨0x20044, 0x8, 0x0, 0, 32, [0]⟩
/-- TG_CMP_CTL.EN -/
def TG_CMP_CTL_EN : Fld := ⟨0x20060, 0x0, 0x0, 0, 4, [0]⟩
/-- TG_CMP_CTL.ACT -/
def TG_CMP_CTL_ACT : Fld := ⟨0x20060, 0x0, 0x0, 4, 8, [0]⟩
/-- MEM_STATUS.SELFTEST_OK -/
def MEM_STATUS_SELFTEST_OK : Fld := ⟨0x30000, 0x0, 0x0, 0, 1, [0]⟩
/-- MEM_STATUS.MARCH_DONE -/
def MEM_STATUS_MARCH_DONE : Fld := ⟨0x30000, 0x0, 0x0, 1, 1, [0]⟩
/-- MEM_STATUS.MARCH_MODE -/
def MEM_STATUS_MARCH_MODE : Fld := ⟨0x30000, 0x0, 0x0, 2, 2, [0]⟩
/-- MEM_STATUS.MARCH_FAIL -/
def MEM_STATUS_MARCH_FAIL : Fld := ⟨0x30000, 0x0, 0x0, 4, 1, [0]⟩
/-- MEM_STATUS.DEGRADED -/
def MEM_STATUS_DEGRADED : Fld := ⟨0x30000, 0x0, 0x0, 5, 1, [0]⟩
/-- MEM_STATUS.WIPED -/
def MEM_STATUS_WIPED : Fld := ⟨0x30000, 0x0, 0x0, 6, 1, [0]⟩
/-- MEM_ERR.CE -/
def MEM_ERR_CE : Fld := ⟨0x30004, 0x0, 0x0, 0, 1, [0]⟩
/-- MEM_ERR.UE -/
def MEM_ERR_UE : Fld := ⟨0x30004, 0x0, 0x0, 1, 1, [0]⟩
/-- MEM_ERR.REMAP -/
def MEM_ERR_REMAP : Fld := ⟨0x30004, 0x0, 0x0, 2, 1, [0]⟩
/-- MEM_ERR.SPARE_EXHAUSTED -/
def MEM_ERR_SPARE_EXHAUSTED : Fld := ⟨0x30004, 0x0, 0x0, 3, 1, [0]⟩
/-- MEM_ERR.VOTE -/
def MEM_ERR_VOTE : Fld := ⟨0x30004, 0x0, 0x0, 4, 1, [0]⟩
/-- MEM_ERR.SHADOW_USED -/
def MEM_ERR_SHADOW_USED : Fld := ⟨0x30004, 0x0, 0x0, 5, 1, [0]⟩
/-- MEM_ERR.CRIT_LOST -/
def MEM_ERR_CRIT_LOST : Fld := ⟨0x30004, 0x0, 0x0, 6, 1, [0]⟩
/-- MEM_ERR.SELFTEST -/
def MEM_ERR_SELFTEST : Fld := ⟨0x30004, 0x0, 0x0, 7, 1, [0]⟩
/-- MEM_ERR.SECURE_DENIED -/
def MEM_ERR_SECURE_DENIED : Fld := ⟨0x30004, 0x0, 0x0, 8, 1, [0]⟩
/-- MEM_ERR.VALID_ERR -/
def MEM_ERR_VALID_ERR : Fld := ⟨0x30004, 0x0, 0x0, 9, 1, [0]⟩
/-- MEM_ERR.WIPE_FAIL -/
def MEM_ERR_WIPE_FAIL : Fld := ⟨0x30004, 0x0, 0x0, 10, 1, [0]⟩
/-- MEM_CFG.SCRUB_EN -/
def MEM_CFG_SCRUB_EN : Fld := ⟨0x30008, 0x0, 0x0, 0, 1, [1]⟩
/-- MEM_CFG.SCRUB_INT -/
def MEM_CFG_SCRUB_INT : Fld := ⟨0x30008, 0x0, 0x0, 8, 8, [10]⟩
/-- MEM_CFG.CE_REMAP -/
def MEM_CFG_CE_REMAP : Fld := ⟨0x30008, 0x0, 0x0, 16, 4, [2]⟩
/-- MEM_UE_LOC.ARRAY -/
def MEM_UE_LOC_ARRAY : Fld := ⟨0x3000C, 0x0, 0x0, 0, 4, [0]⟩
/-- MEM_UE_LOC.WORD -/
def MEM_UE_LOC_WORD : Fld := ⟨0x3000C, 0x0, 0x0, 4, 28, [0]⟩
/-- MEM_CE_LOC.ARRAY -/
def MEM_CE_LOC_ARRAY : Fld := ⟨0x30010, 0x0, 0x0, 0, 4, [0]⟩
/-- MEM_CE_LOC.WORD -/
def MEM_CE_LOC_WORD : Fld := ⟨0x30010, 0x0, 0x0, 4, 28, [0]⟩
/-- MEM_CNT_CE.COUNT -/
def MEM_CNT_CE_COUNT : Fld := ⟨0x30014, 0x0, 0x0, 0, 32, [0]⟩
/-- MEM_CNT_UE.COUNT -/
def MEM_CNT_UE_COUNT : Fld := ⟨0x30018, 0x0, 0x0, 0, 16, [0]⟩
/-- MEM_CNT_UE.REMAP -/
def MEM_CNT_UE_REMAP : Fld := ⟨0x30018, 0x0, 0x0, 16, 16, [0]⟩
/-- MEM_CNT_VOTE.VOTE -/
def MEM_CNT_VOTE_VOTE : Fld := ⟨0x3001C, 0x0, 0x0, 0, 16, [0]⟩
/-- MEM_CNT_VOTE.SHADOW -/
def MEM_CNT_VOTE_SHADOW : Fld := ⟨0x3001C, 0x0, 0x0, 16, 16, [0]⟩
/-- MEM_SPARE_MAX.USED -/
def MEM_SPARE_MAX_USED : Fld := ⟨0x30020, 0x0, 0x0, 0, 5, [0]⟩
/-- MEM_SPARE_MAX.BANK -/
def MEM_SPARE_MAX_BANK : Fld := ⟨0x30020, 0x0, 0x0, 8, 10, [0]⟩
/-- MEM_SPARE_MAX.ARRAY -/
def MEM_SPARE_MAX_ARRAY : Fld := ⟨0x30020, 0x0, 0x0, 18, 4, [0]⟩
/-- MEM_RETIRED.BLOCKS -/
def MEM_RETIRED_BLOCKS : Fld := ⟨0x30024, 0x0, 0x0, 0, 7, [0]⟩
/-- MEM_DMA_WAIT.MAX -/
def MEM_DMA_WAIT_MAX : Fld := ⟨0x30028, 0x0, 0x0, 0, 8, [0]⟩
/-- BRC_STATUS.STATE -/
def BRC_STATUS_STATE : Fld := ⟨0x40000, 0x0, 0x0, 0, 2, [0]⟩
/-- BRC_STATUS.CLEAN -/
def BRC_STATUS_CLEAN : Fld := ⟨0x40000, 0x0, 0x0, 2, 1, [1]⟩
/-- BRC_WAY.ALLOC -/
def BRC_WAY_ALLOC : Fld := ⟨0x40004, 0x0, 0x0, 0, 16, [65535]⟩
/-- BRC_WAY.LOCK -/
def BRC_WAY_LOCK : Fld := ⟨0x40004, 0x0, 0x0, 16, 16, [0]⟩
/-- BRC_WAY_ST.DISABLED -/
def BRC_WAY_ST_DISABLED : Fld := ⟨0x40008, 0x0, 0x0, 0, 16, [0]⟩
/-- BRC_WAY_ST.SCRATCH -/
def BRC_WAY_ST_SCRATCH : Fld := ⟨0x40008, 0x0, 0x0, 16, 16, [0]⟩
/-- BRC_CFG.AUTO_THR -/
def BRC_CFG_AUTO_THR : Fld := ⟨0x4000C, 0x0, 0x0, 0, 8, [16]⟩
/-- BRC_CFG.AUTO_WIN -/
def BRC_CFG_AUTO_WIN : Fld := ⟨0x4000C, 0x0, 0x0, 8, 8, [60]⟩
/-- BRC_CFG.AUTO_EN -/
def BRC_CFG_AUTO_EN : Fld := ⟨0x4000C, 0x0, 0x0, 16, 1, [1]⟩
/-- BRC_DIRTY.LINES -/
def BRC_DIRTY_LINES : Fld := ⟨0x40010, 0x0, 0x0, 0, 19, [0]⟩
/-- BRC_DRAIN_POS.SET -/
def BRC_DRAIN_POS_SET : Fld := ⟨0x40014, 0x0, 0x0, 0, 14, [0]⟩
/-- BRC_DRAIN_POS.WAY -/
def BRC_DRAIN_POS_WAY : Fld := ⟨0x40014, 0x0, 0x0, 14, 4, [0]⟩
/-- BRC_ERR.CE -/
def BRC_ERR_CE : Fld := ⟨0x40018, 0x0, 0x0, 0, 1, [0]⟩
/-- BRC_ERR.UE_TAG -/
def BRC_ERR_UE_TAG : Fld := ⟨0x40018, 0x0, 0x0, 1, 1, [0]⟩
/-- BRC_ERR.UE_DATA -/
def BRC_ERR_UE_DATA : Fld := ⟨0x40018, 0x0, 0x0, 2, 1, [0]⟩
/-- BRC_ERR.WAY_OFF -/
def BRC_ERR_WAY_OFF : Fld := ⟨0x40018, 0x0, 0x0, 3, 1, [0]⟩
/-- BRC_ERR.CACHE_OFF -/
def BRC_ERR_CACHE_OFF : Fld := ⟨0x40018, 0x0, 0x0, 4, 1, [0]⟩
/-- BRC_ERR.WB_FAULT -/
def BRC_ERR_WB_FAULT : Fld := ⟨0x40018, 0x0, 0x0, 5, 1, [0]⟩
/-- BRC_ERR.FILL_FAULT -/
def BRC_ERR_FILL_FAULT : Fld := ⟨0x40018, 0x0, 0x0, 6, 1, [0]⟩
/-- BRC_ERR.LINE_LOST -/
def BRC_ERR_LINE_LOST : Fld := ⟨0x40018, 0x0, 0x0, 7, 1, [0]⟩
/-- BRC_LINE_ADDR.LINE -/
def BRC_LINE_ADDR_LINE : Fld := ⟨0x4001C, 0x0, 0x0, 0, 29, [0]⟩
/-- BRC_CNT_HIT.COUNT -/
def BRC_CNT_HIT_COUNT : Fld := ⟨0x40020, 0x0, 0x0, 0, 32, [0]⟩
/-- BRC_CNT_MISS.COUNT -/
def BRC_CNT_MISS_COUNT : Fld := ⟨0x40024, 0x0, 0x0, 0, 32, [0]⟩
/-- BRC_CNT_WB.COUNT -/
def BRC_CNT_WB_COUNT : Fld := ⟨0x40028, 0x0, 0x0, 0, 32, [0]⟩
/-- BRC_CNT_CE.COUNT -/
def BRC_CNT_CE_COUNT : Fld := ⟨0x4002C, 0x0, 0x0, 0, 16, [0]⟩
/-- BRC_CNT_CE.LOST -/
def BRC_CNT_CE_LOST : Fld := ⟨0x4002C, 0x0, 0x0, 16, 16, [0]⟩
/-- HIF_STATUS.LINK_UP -/
def HIF_STATUS_LINK_UP : Fld := ⟨0x50000, 0x0, 0x0, 0, 1, [0]⟩
/-- HIF_STATUS.RATE -/
def HIF_STATUS_RATE : Fld := ⟨0x50000, 0x0, 0x0, 1, 2, [0]⟩
/-- HIF_STATUS.WIDTH -/
def HIF_STATUS_WIDTH : Fld := ⟨0x50000, 0x0, 0x0, 3, 1, [0]⟩
/-- HIF_STATUS.SB_UP -/
def HIF_STATUS_SB_UP : Fld := ⟨0x50000, 0x0, 0x0, 4, 1, [0]⟩
/-- HIF_STATUS.BME -/
def HIF_STATUS_BME : Fld := ⟨0x50000, 0x0, 0x0, 5, 1, [0]⟩
/-- HIF_STATUS.REPAIRED -/
def HIF_STATUS_REPAIRED : Fld := ⟨0x50000, 0x0, 0x0, 6, 1, [0]⟩
/-- HIF_CFG.MAX_RATE -/
def HIF_CFG_MAX_RATE : Fld := ⟨0x50004, 0x0, 0x0, 0, 1, [1]⟩
/-- HIF_CFG.RO_EN -/
def HIF_CFG_RO_EN : Fld := ⟨0x50004, 0x0, 0x0, 1, 1, [1]⟩
/-- HIF_CFG.CPL_TIMEOUT -/
def HIF_CFG_CPL_TIMEOUT : Fld := ⟨0x50004, 0x0, 0x0, 4, 8, [10]⟩
/-- HIF_CFG.HOLD_REVS -/
def HIF_CFG_HOLD_REVS : Fld := ⟨0x50004, 0x0, 0x0, 12, 4, [2]⟩
/-- HIF_ERR.WIDTH_DEGRADED -/
def HIF_ERR_WIDTH_DEGRADED : Fld := ⟨0x50008, 0x0, 0x0, 0, 1, [0]⟩
/-- HIF_ERR.BAD_ACCESS -/
def HIF_ERR_BAD_ACCESS : Fld := ⟨0x50008, 0x0, 0x0, 1, 1, [0]⟩
/-- HIF_ERR.CPL_TIMEOUT -/
def HIF_ERR_CPL_TIMEOUT : Fld := ⟨0x50008, 0x0, 0x0, 2, 1, [0]⟩
/-- HIF_ERR.CPL_ERR -/
def HIF_ERR_CPL_ERR : Fld := ⟨0x50008, 0x0, 0x0, 3, 1, [0]⟩
/-- HIF_ERR.POISON_RX -/
def HIF_ERR_POISON_RX : Fld := ⟨0x50008, 0x0, 0x0, 4, 1, [0]⟩
/-- HIF_ERR.HOLD_EXPIRED -/
def HIF_ERR_HOLD_EXPIRED : Fld := ⟨0x50008, 0x0, 0x0, 5, 1, [0]⟩
/-- HIF_ERR.RETRAIN -/
def HIF_ERR_RETRAIN : Fld := ⟨0x50008, 0x0, 0x0, 6, 1, [0]⟩
/-- HIF_BOOT.STEP -/
def HIF_BOOT_STEP : Fld := ⟨0x5000C, 0x0, 0x0, 0, 4, [0]⟩
/-- HIF_BOOT.WAIT -/
def HIF_BOOT_WAIT : Fld := ⟨0x5000C, 0x0, 0x0, 4, 1, [0]⟩
/-- HIF_BOOT.FALLBACK -/
def HIF_BOOT_FALLBACK : Fld := ⟨0x5000C, 0x0, 0x0, 5, 1, [0]⟩
/-- HIF_BOOT.ROM -/
def HIF_BOOT_ROM : Fld := ⟨0x5000C, 0x0, 0x0, 6, 1, [0]⟩
/-- HIF_BOOT.IMAGE -/
def HIF_BOOT_IMAGE : Fld := ⟨0x5000C, 0x0, 0x0, 7, 2, [0]⟩
/-- HIF_FW_ADDR_LO.ADDR -/
def HIF_FW_ADDR_LO_ADDR : Fld := ⟨0x50010, 0x0, 0x0, 0, 32, [0]⟩
/-- HIF_FW_ADDR_HI.ADDR -/
def HIF_FW_ADDR_HI_ADDR : Fld := ⟨0x50014, 0x0, 0x0, 0, 20, [0]⟩
/-- HIF_FW_LEN.LEN -/
def HIF_FW_LEN_LEN : Fld := ⟨0x50018, 0x0, 0x0, 0, 25, [0]⟩
/-- HIF_FW_CTL.GO -/
def HIF_FW_CTL_GO : Fld := ⟨0x5001C, 0x0, 0x0, 0, 1, [0]⟩
/-- HIF_FW_CTL.STATUS -/
def HIF_FW_CTL_STATUS : Fld := ⟨0x5001C, 0x0, 0x0, 1, 2, [0]⟩
/-- HIF_CNT_REPLAY.COUNT -/
def HIF_CNT_REPLAY_COUNT : Fld := ⟨0x50020, 0x0, 0x0, 0, 32, [0]⟩
/-- HIF_CNT_CPL_ERR.COUNT -/
def HIF_CNT_CPL_ERR_COUNT : Fld := ⟨0x50024, 0x0, 0x0, 0, 32, [0]⟩
/-- HIF_CNT_HOLD.COUNT -/
def HIF_CNT_HOLD_COUNT : Fld := ⟨0x50028, 0x0, 0x0, 0, 32, [0]⟩
/-- MMU_AS0_ROOT_LO.VALID -/
def MMU_AS0_ROOT_LO_VALID : Fld := ⟨0x60000, 0x0, 0x0, 0, 1, [0]⟩
/-- MMU_AS0_ROOT_LO.ADDR -/
def MMU_AS0_ROOT_LO_ADDR : Fld := ⟨0x60000, 0x0, 0x0, 12, 20, [0]⟩
/-- MMU_AS0_ROOT_HI.ADDR -/
def MMU_AS0_ROOT_HI_ADDR : Fld := ⟨0x60004, 0x0, 0x0, 0, 20, [0]⟩
/-- MMU_STATUS.FAULTS_OPEN -/
def MMU_STATUS_FAULTS_OPEN : Fld := ⟨0x60008, 0x0, 0x0, 0, 9, [0]⟩
/-- MMU_STATUS.AS_VALID -/
def MMU_STATUS_AS_VALID : Fld := ⟨0x60008, 0x0, 0x0, 9, 9, [0]⟩
/-- MMU_ERR.TYPE -/
def MMU_ERR_TYPE : Fld := ⟨0x6000C, 0x0, 0x0, 0, 6, [0]⟩
/-- MMU_ERR.FQ_OVERFLOW -/
def MMU_ERR_FQ_OVERFLOW : Fld := ⟨0x6000C, 0x0, 0x0, 6, 1, [0]⟩
/-- MMU_ERR.FQ_SELF -/
def MMU_ERR_FQ_SELF : Fld := ⟨0x6000C, 0x0, 0x0, 7, 1, [0]⟩
/-- MMU_SELF_FAULT.ID -/
def MMU_SELF_FAULT_ID : Fld := ⟨0x60010, 0x0, 0x0, 0, 16, [0]⟩
/-- MMU_SELF_FAULT.TYPE -/
def MMU_SELF_FAULT_TYPE : Fld := ⟨0x60010, 0x0, 0x0, 16, 3, [0]⟩
/-- MMU_SELF_FAULT.VALID -/
def MMU_SELF_FAULT_VALID : Fld := ⟨0x60010, 0x0, 0x0, 19, 1, [0]⟩
/-- MMU_SELF_FAULT.QUEUE -/
def MMU_SELF_FAULT_QUEUE : Fld := ⟨0x60010, 0x0, 0x0, 20, 1, [0]⟩
/-- MMU_SELF_VA_LO.VA -/
def MMU_SELF_VA_LO_VA : Fld := ⟨0x60014, 0x0, 0x0, 0, 32, [0]⟩
/-- MMU_SELF_VA_HI.VA -/
def MMU_SELF_VA_HI_VA : Fld := ⟨0x60018, 0x0, 0x0, 0, 16, [0]⟩
/-- MMU_CNT_HIT.COUNT -/
def MMU_CNT_HIT_COUNT : Fld := ⟨0x60020, 0x0, 0x0, 0, 32, [0]⟩
/-- MMU_CNT_MISS.COUNT -/
def MMU_CNT_MISS_COUNT : Fld := ⟨0x60024, 0x0, 0x0, 0, 32, [0]⟩
/-- MMU_CNT_FAULT.COUNT -/
def MMU_CNT_FAULT_COUNT : Fld := ⟨0x60028, 0x0, 0x0, 0, 32, [0]⟩
/-- MMU_CNT_INV.COUNT -/
def MMU_CNT_INV_COUNT : Fld := ⟨0x6002C, 0x0, 0x0, 0, 32, [0]⟩
/-- MMU_AS_ROOT_LO.VALID -/
def MMU_AS_ROOT_LO_VALID : Fld := ⟨0x60808, 0x8, 0x0, 0, 1, [0]⟩
/-- MMU_AS_ROOT_LO.ADDR -/
def MMU_AS_ROOT_LO_ADDR : Fld := ⟨0x60808, 0x8, 0x0, 12, 20, [0]⟩
/-- MMU_AS_ROOT_HI.ADDR -/
def MMU_AS_ROOT_HI_ADDR : Fld := ⟨0x6080C, 0x8, 0x0, 0, 20, [0]⟩
/-- QUE_CTL.EN -/
def QUE_CTL_EN : Fld := ⟨0x70000, 0x0, 0x0, 0, 1, [0]⟩
/-- QUE_STATUS.AQ_READY -/
def QUE_STATUS_AQ_READY : Fld := ⟨0x70004, 0x0, 0x0, 0, 1, [0]⟩
/-- QUE_STATUS.ENABLED -/
def QUE_STATUS_ENABLED : Fld := ⟨0x70004, 0x0, 0x0, 1, 1, [0]⟩
/-- QUE_STATUS.POLL_STOPPED -/
def QUE_STATUS_POLL_STOPPED : Fld := ⟨0x70004, 0x0, 0x0, 2, 1, [0]⟩
/-- QUE_STATUS.EQ_PENDING -/
def QUE_STATUS_EQ_PENDING : Fld := ⟨0x70004, 0x0, 0x0, 3, 12, [0]⟩
/-- QUE_DB_BASE_LO.VA -/
def QUE_DB_BASE_LO_VA : Fld := ⟨0x70008, 0x0, 0x0, 0, 32, [0]⟩
/-- QUE_DB_BASE_HI.VA -/
def QUE_DB_BASE_HI_VA : Fld := ⟨0x7000C, 0x0, 0x0, 0, 16, [0]⟩
/-- QUE_RING_LO.VA -/
def QUE_RING_LO_VA : Fld := ⟨0x70010, 0x8, 0x0, 0, 32, [0]⟩
/-- QUE_RING_HI.VA -/
def QUE_RING_HI_VA : Fld := ⟨0x70014, 0x8, 0x0, 0, 16, [0]⟩
/-- QUE_RING_HI.SIZE -/
def QUE_RING_HI_SIZE : Fld := ⟨0x70014, 0x8, 0x0, 16, 16, [0]⟩
/-- QUE_VEC.ADMIN -/
def QUE_VEC_ADMIN : Fld := ⟨0x70030, 0x0, 0x0, 0, 10, [0]⟩
/-- QUE_VEC.FAULT -/
def QUE_VEC_FAULT : Fld := ⟨0x70030, 0x0, 0x0, 10, 10, [0]⟩
/-- QUE_VEC.EVENT -/
def QUE_VEC_EVENT : Fld := ⟨0x70030, 0x0, 0x0, 20, 10, [0]⟩
/-- QUE_POLL.INTERVAL -/
def QUE_POLL_INTERVAL : Fld := ⟨0x70034, 0x0, 0x0, 0, 10, [10]⟩
/-- QUE_ERR.CFG -/
def QUE_ERR_CFG : Fld := ⟨0x70038, 0x0, 0x0, 0, 1, [0]⟩
/-- QUE_ERR.ADMIN_FAULT -/
def QUE_ERR_ADMIN_FAULT : Fld := ⟨0x70038, 0x0, 0x0, 1, 1, [0]⟩
/-- QUE_ERR.STOP -/
def QUE_ERR_STOP : Fld := ⟨0x70038, 0x0, 0x0, 2, 1, [0]⟩
/-- QUE_ADMIN_FAULT.RETRY -/
def QUE_ADMIN_FAULT_RETRY : Fld := ⟨0x7003C, 0x0, 0x0, 0, 1, [0]⟩
/-- QUE_ADMIN_FAULT.VALID -/
def QUE_ADMIN_FAULT_VALID : Fld := ⟨0x7003C, 0x0, 0x0, 1, 1, [0]⟩
/-- QUE_ADMIN_FAULT.TYPE -/
def QUE_ADMIN_FAULT_TYPE : Fld := ⟨0x7003C, 0x0, 0x0, 2, 3, [0]⟩
/-- QUE_ADMIN_FAULT.SOURCE -/
def QUE_ADMIN_FAULT_SOURCE : Fld := ⟨0x7003C, 0x0, 0x0, 5, 1, [0]⟩
/-- QUE_ADMIN_VA_LO.VA -/
def QUE_ADMIN_VA_LO_VA : Fld := ⟨0x70040, 0x0, 0x0, 0, 32, [0]⟩
/-- QUE_ADMIN_VA_HI.VA -/
def QUE_ADMIN_VA_HI_VA : Fld := ⟨0x70044, 0x0, 0x0, 0, 16, [0]⟩
/-- QUE_CTX.IN_USE -/
def QUE_CTX_IN_USE : Fld := ⟨0x70048, 0x0, 0x0, 0, 15, [0]⟩
/-- QUE_CTX.MAX -/
def QUE_CTX_MAX : Fld := ⟨0x70048, 0x0, 0x0, 16, 15, [0]⟩
/-- QUE_CNT_FETCH.COUNT -/
def QUE_CNT_FETCH_COUNT : Fld := ⟨0x70050, 0x0, 0x0, 0, 32, [0]⟩
/-- QUE_CNT_CPL.COUNT -/
def QUE_CNT_CPL_COUNT : Fld := ⟨0x70054, 0x0, 0x0, 0, 32, [0]⟩
/-- QUE_CNT_STOP.STOPS -/
def QUE_CNT_STOP_STOPS : Fld := ⟨0x70058, 0x0, 0x0, 0, 16, [0]⟩
/-- QUE_CNT_STOP.DISCARDS -/
def QUE_CNT_STOP_DISCARDS : Fld := ⟨0x70058, 0x0, 0x0, 16, 16, [0]⟩
/-- REC_STATUS.HELD -/
def REC_STATUS_HELD : Fld := ⟨0x80000, 0x0, 0x0, 0, 15, [0]⟩
/-- REC_OLDEST_LO.SEQ -/
def REC_OLDEST_LO_SEQ : Fld := ⟨0x80004, 0x0, 0x0, 0, 32, [0]⟩
/-- REC_OLDEST_HI.SEQ -/
def REC_OLDEST_HI_SEQ : Fld := ⟨0x80008, 0x0, 0x0, 0, 16, [0]⟩
/-- REC_NEXT_LO.SEQ -/
def REC_NEXT_LO_SEQ : Fld := ⟨0x8000C, 0x0, 0x0, 0, 32, [0]⟩
/-- REC_NEXT_HI.SEQ -/
def REC_NEXT_HI_SEQ : Fld := ⟨0x80010, 0x0, 0x0, 0, 16, [0]⟩
/-- REC_OVERWRITE.COUNT -/
def REC_OVERWRITE_COUNT : Fld := ⟨0x80014, 0x0, 0x0, 0, 32, [0]⟩
/-- REC_CLEAR_CNT.COUNT -/
def REC_CLEAR_CNT_COUNT : Fld := ⟨0x80018, 0x0, 0x0, 0, 32, [0]⟩
/-- LCS_STATUS.STATE -/
def LCS_STATUS_STATE : Fld := ⟨0x90000, 0x0, 0x0, 0, 3, [0]⟩
/-- LCS_STATUS.TAMPER_HOLD -/
def LCS_STATUS_TAMPER_HOLD : Fld := ⟨0x90000, 0x0, 0x0, 3, 1, [0]⟩
/-- LCS_STATUS.KEY_SUSPECT -/
def LCS_STATUS_KEY_SUSPECT : Fld := ⟨0x90000, 0x0, 0x0, 4, 1, [0]⟩
/-- LCS_STATUS.SEC_VER -/
def LCS_STATUS_SEC_VER : Fld := ⟨0x90000, 0x0, 0x0, 5, 6, [0]⟩
/-- LCS_CFG.TAMPER_ACTION -/
def LCS_CFG_TAMPER_ACTION : Fld := ⟨0x90004, 0x0, 0x0, 0, 2, [0]⟩
/-- LCS_TRANS_CNT.COUNT -/
def LCS_TRANS_CNT_COUNT : Fld := ⟨0x90008, 0x0, 0x0, 0, 32, [0]⟩
/-- LCS_ERR.AUTH_FAIL -/
def LCS_ERR_AUTH_FAIL : Fld := ⟨0x9000C, 0x0, 0x0, 0, 1, [0]⟩
/-- LCS_ERR.FW_REJECT -/
def LCS_ERR_FW_REJECT : Fld := ⟨0x9000C, 0x0, 0x0, 1, 1, [0]⟩
/-- LCS_ERR.ROLLBACK -/
def LCS_ERR_ROLLBACK : Fld := ⟨0x9000C, 0x0, 0x0, 2, 1, [0]⟩
/-- LCS_ERR.TAMPER -/
def LCS_ERR_TAMPER : Fld := ⟨0x9000C, 0x0, 0x0, 3, 1, [0]⟩
/-- PEER_CFG.HOME_SP -/
def PEER_CFG_HOME_SP : Fld := ⟨0xA0000, 0x0, 0x0, 0, 8, [255]⟩
/-- PEER_CFG.AUTO_TAKEOVER -/
def PEER_CFG_AUTO_TAKEOVER : Fld := ⟨0xA0000, 0x0, 0x0, 8, 1, [1]⟩
/-- PEER_CFG.MIRROR_REQUIRED -/
def PEER_CFG_MIRROR_REQUIRED : Fld := ⟨0xA0000, 0x0, 0x0, 9, 1, [0]⟩
/-- PEER_CFG.MISS -/
def PEER_CFG_MISS : Fld := ⟨0xA0000, 0x0, 0x0, 12, 4, [3]⟩
/-- PEER_STATUS.LINK -/
def PEER_STATUS_LINK : Fld := ⟨0xA0004, 0x0, 0x0, 0, 1, [0]⟩
/-- PEER_STATUS.ALIVE -/
def PEER_STATUS_ALIVE : Fld := ⟨0xA0004, 0x0, 0x0, 1, 1, [0]⟩
/-- PEER_STATUS.CONFIGURED -/
def PEER_STATUS_CONFIGURED : Fld := ⟨0xA0004, 0x0, 0x0, 2, 1, [0]⟩
/-- PEER_STATUS.UNMIRRORED -/
def PEER_STATUS_UNMIRRORED : Fld := ⟨0xA0004, 0x0, 0x0, 3, 1, [0]⟩
/-- PEER_NODE.NID -/
def PEER_NODE_NID : Fld := ⟨0xA0008, 0x0, 0x0, 0, 14, [0]⟩
/-- PEER_NODE.HB_US -/
def PEER_NODE_HB_US : Fld := ⟨0xA0008, 0x0, 0x0, 16, 14, [100]⟩
/-- PEER_OWN.SPINDLES -/
def PEER_OWN_SPINDLES : Fld := ⟨0xA000C, 0x0, 0x0, 0, 8, [0]⟩
/-- PEER_OWN.PICKUPS -/
def PEER_OWN_PICKUPS : Fld := ⟨0xA000C, 0x0, 0x0, 8, 16, [0]⟩
/-- PEER_ERR.PEER_LOST -/
def PEER_ERR_PEER_LOST : Fld := ⟨0xA0010, 0x0, 0x0, 0, 1, [0]⟩
/-- PEER_ERR.LANE_LOSS -/
def PEER_ERR_LANE_LOSS : Fld := ⟨0xA0010, 0x0, 0x0, 1, 1, [0]⟩
/-- PEER_ERR.DENIED -/
def PEER_ERR_DENIED : Fld := ⟨0xA0010, 0x0, 0x0, 2, 1, [0]⟩
/-- PEER_ERR.TAKEOVER -/
def PEER_ERR_TAKEOVER : Fld := ⟨0xA0010, 0x0, 0x0, 3, 1, [0]⟩
/-- PEER_ERR.RESEND -/
def PEER_ERR_RESEND : Fld := ⟨0xA0010, 0x0, 0x0, 4, 1, [0]⟩
/-- PEER_CNT_HB.COUNT -/
def PEER_CNT_HB_COUNT : Fld := ⟨0xA0014, 0x0, 0x0, 0, 32, [0]⟩
/-- PEER_CNT_MIRROR.PAGES -/
def PEER_CNT_MIRROR_PAGES : Fld := ⟨0xA0018, 0x0, 0x0, 0, 32, [0]⟩
/-- PEER_CNT_LOSS.LOST -/
def PEER_CNT_LOSS_LOST : Fld := ⟨0xA001C, 0x0, 0x0, 0, 16, [0]⟩
/-- PEER_CNT_LOSS.RESENT -/
def PEER_CNT_LOSS_RESENT : Fld := ⟨0xA001C, 0x0, 0x0, 16, 16, [0]⟩
/-- SOR_CFG.EN -/
def SOR_CFG_EN : Fld := ⟨0x100000, 0x1000, 0x0, 0, 1, [0]⟩
/-- SOR_CFG.AUTORETRAIN -/
def SOR_CFG_AUTORETRAIN : Fld := ⟨0x100000, 0x1000, 0x0, 1, 1, [1]⟩
/-- SOR_CFG.TRAIN_RETRIES -/
def SOR_CFG_TRAIN_RETRIES : Fld := ⟨0x100000, 0x1000, 0x0, 4, 4, [3]⟩
/-- SOR_CFG.TEST -/
def SOR_CFG_TEST : Fld := ⟨0x100000, 0x1000, 0x0, 8, 3, [0]⟩
/-- SOR_STATUS.STATE -/
def SOR_STATUS_STATE : Fld := ⟨0x100004, 0x1000, 0x0, 0, 3, [0]⟩
/-- SOR_STATUS.UP_LOCK -/
def SOR_STATUS_UP_LOCK : Fld := ⟨0x100004, 0x1000, 0x0, 4, 8, [0]⟩
/-- SOR_STATUS.DN_LOCK -/
def SOR_STATUS_DN_LOCK : Fld := ⟨0x100004, 0x1000, 0x0, 12, 2, [0]⟩
/-- SOR_STATUS.OWNER -/
def SOR_STATUS_OWNER : Fld := ⟨0x100004, 0x1000, 0x0, 14, 2, [3]⟩
/-- SOR_STATUS.FE_WD -/
def SOR_STATUS_FE_WD : Fld := ⟨0x100004, 0x1000, 0x0, 16, 1, [0]⟩
/-- SOR_ERR.TRAIN_FAIL -/
def SOR_ERR_TRAIN_FAIL : Fld := ⟨0x100008, 0x1000, 0x0, 0, 1, [0]⟩
/-- SOR_ERR.LANE_LOSS -/
def SOR_ERR_LANE_LOSS : Fld := ⟨0x100008, 0x1000, 0x0, 1, 1, [0]⟩
/-- SOR_ERR.FEC_UNCORR -/
def SOR_ERR_FEC_UNCORR : Fld := ⟨0x100008, 0x1000, 0x0, 2, 1, [0]⟩
/-- SOR_ERR.DELIN -/
def SOR_ERR_DELIN : Fld := ⟨0x100008, 0x1000, 0x0, 3, 1, [0]⟩
/-- SOR_ERR.STALL -/
def SOR_ERR_STALL : Fld := ⟨0x100008, 0x1000, 0x0, 4, 1, [0]⟩
/-- SOR_ERR.SKEW -/
def SOR_ERR_SKEW : Fld := ⟨0x100008, 0x1000, 0x0, 5, 1, [0]⟩
/-- SOR_ERR.RTT -/
def SOR_ERR_RTT : Fld := ⟨0x100008, 0x1000, 0x0, 6, 1, [0]⟩
/-- SOR_ERR.TIMING -/
def SOR_ERR_TIMING : Fld := ⟨0x100008, 0x1000, 0x0, 7, 1, [0]⟩
/-- SOR_ERR.CMD_TIMEOUT -/
def SOR_ERR_CMD_TIMEOUT : Fld := ⟨0x100008, 0x1000, 0x0, 8, 1, [0]⟩
/-- SOR_ERR.OWN_LOST -/
def SOR_ERR_OWN_LOST : Fld := ⟨0x100008, 0x1000, 0x0, 9, 1, [0]⟩
/-- SOR_ERR.FE_WD -/
def SOR_ERR_FE_WD : Fld := ⟨0x100008, 0x1000, 0x0, 10, 1, [0]⟩
/-- SOR_ERR.UNDERRUN -/
def SOR_ERR_UNDERRUN : Fld := ⟨0x100008, 0x1000, 0x0, 11, 1, [0]⟩
/-- SOR_ERR.PORT_FAULT -/
def SOR_ERR_PORT_FAULT : Fld := ⟨0x100008, 0x1000, 0x0, 12, 1, [0]⟩
/-- SOR_TIMING.RTT -/
def SOR_TIMING_RTT : Fld := ⟨0x10000C, 0x1000, 0x0, 0, 16, [0]⟩
/-- SOR_TIMING.SKEW -/
def SOR_TIMING_SKEW : Fld := ⟨0x10000C, 0x1000, 0x0, 16, 16, [0]⟩
/-- SOR_FEC_CORR.COUNT -/
def SOR_FEC_CORR_COUNT : Fld := ⟨0x100010, 0x1000, 0x0, 0, 32, [0]⟩
/-- SOR_FEC_UNCORR.COUNT -/
def SOR_FEC_UNCORR_COUNT : Fld := ⟨0x100014, 0x1000, 0x0, 0, 32, [0]⟩
/-- SOR_COUNT.STALLS -/
def SOR_COUNT_STALLS : Fld := ⟨0x100018, 0x1000, 0x0, 0, 16, [0]⟩
/-- SOR_COUNT.GAP -/
def SOR_COUNT_GAP : Fld := ⟨0x100018, 0x1000, 0x0, 16, 16, [0]⟩
/-- SOR_FE_ID_LO.ID -/
def SOR_FE_ID_LO_ID : Fld := ⟨0x100020, 0x1000, 0x0, 0, 32, [0]⟩
/-- SOR_FE_ID_HI.ID -/
def SOR_FE_ID_HI_ID : Fld := ⟨0x100024, 0x1000, 0x0, 0, 32, [0]⟩
/-- SOR_LANE_POL.UP_INV -/
def SOR_LANE_POL_UP_INV : Fld := ⟨0x100028, 0x1000, 0x0, 0, 8, [0]⟩
/-- RCH_CFG.KB -/
def RCH_CFG_KB : Fld := ⟨0x200000, 0x0, 0x0, 0, 4, [10]⟩
/-- RCH_CFG.KG -/
def RCH_CFG_KG : Fld := ⟨0x200000, 0x0, 0x0, 4, 4, [12]⟩
/-- RCH_CFG.KA -/
def RCH_CFG_KA : Fld := ⟨0x200000, 0x0, 0x0, 8, 4, [13]⟩
/-- RCH_CFG.KE -/
def RCH_CFG_KE : Fld := ⟨0x200000, 0x0, 0x0, 12, 4, [13]⟩
/-- RCH_CFG.KX -/
def RCH_CFG_KX : Fld := ⟨0x200000, 0x0, 0x0, 16, 4, [14]⟩
/-- RCH_CFG.ACQ_BOOST -/
def RCH_CFG_ACQ_BOOST : Fld := ⟨0x200000, 0x0, 0x0, 20, 4, [3]⟩
/-- RCH_CFG.RESUME_BOOST -/
def RCH_CFG_RESUME_BOOST : Fld := ⟨0x200000, 0x0, 0x0, 24, 4, [2]⟩
/-- RCH_TIMING.KP -/
def RCH_TIMING_KP : Fld := ⟨0x200004, 0x0, 0x0, 0, 5, [6]⟩
/-- RCH_TIMING.KI -/
def RCH_TIMING_KI : Fld := ⟨0x200004, 0x0, 0x0, 5, 5, [14]⟩
/-- RCH_TIMING.KP_ACQ -/
def RCH_TIMING_KP_ACQ : Fld := ⟨0x200004, 0x0, 0x0, 10, 5, [4]⟩
/-- RCH_TIMING.KI_ACQ -/
def RCH_TIMING_KI_ACQ : Fld := ⟨0x200004, 0x0, 0x0, 15, 5, [10]⟩
/-- RCH_TIMING.CLAMP -/
def RCH_TIMING_CLAMP : Fld := ⟨0x200004, 0x0, 0x0, 20, 8, [10]⟩
/-- RCH_DEFECT.DROP_THR -/
def RCH_DEFECT_DROP_THR : Fld := ⟨0x200008, 0x0, 0x0, 0, 6, [26]⟩
/-- RCH_DEFECT.SHIFT_THR -/
def RCH_DEFECT_SHIFT_THR : Fld := ⟨0x200008, 0x0, 0x0, 6, 6, [22]⟩
/-- RCH_DEFECT.CLIP_CNT -/
def RCH_DEFECT_CLIP_CNT : Fld := ⟨0x200008, 0x0, 0x0, 12, 3, [3]⟩
/-- RCH_DEFECT.DROP_BITS -/
def RCH_DEFECT_DROP_BITS : Fld := ⟨0x200008, 0x0, 0x0, 16, 8, [16]⟩
/-- RCH_DEFECT.HANGOVER -/
def RCH_DEFECT_HANGOVER : Fld := ⟨0x200008, 0x0, 0x0, 24, 8, [64]⟩
/-- RCH_SYNC.SYNC_WIN -/
def RCH_SYNC_SYNC_WIN : Fld := ⟨0x20000C, 0x0, 0x0, 0, 4, [8]⟩
/-- RCH_SYNC.SYNC_WIN_ACQ -/
def RCH_SYNC_SYNC_WIN_ACQ : Fld := ⟨0x20000C, 0x0, 0x0, 4, 7, [64]⟩
/-- RCH_SYNC.SYNC_THR -/
def RCH_SYNC_SYNC_THR : Fld := ⟨0x20000C, 0x0, 0x0, 11, 5, [4]⟩
/-- RCH_SYNC.ACCEPT -/
def RCH_SYNC_ACCEPT : Fld := ⟨0x20000C, 0x0, 0x0, 16, 4, [1]⟩
/-- RCH_FLY.FLY_MAX -/
def RCH_FLY_FLY_MAX : Fld := ⟨0x200010, 0x0, 0x0, 0, 16, [2048]⟩
/-- RCH_FLY.TRAIN_FRAMES -/
def RCH_FLY_TRAIN_FRAMES : Fld := ⟨0x200010, 0x0, 0x0, 16, 8, [4]⟩
/-- RCH_TARGET_LO.T0 -/
def RCH_TARGET_LO_T0 : Fld := ⟨0x200014, 0x0, 0x0, 0, 8, [16]⟩
/-- RCH_TARGET_LO.T1 -/
def RCH_TARGET_LO_T1 : Fld := ⟨0x200014, 0x0, 0x0, 8, 8, [32]⟩
/-- RCH_TARGET_LO.T2 -/
def RCH_TARGET_LO_T2 : Fld := ⟨0x200014, 0x0, 0x0, 16, 8, [32]⟩
/-- RCH_TARGET_LO.T3 -/
def RCH_TARGET_LO_T3 : Fld := ⟨0x200014, 0x0, 0x0, 24, 8, [16]⟩
/-- RCH_TARGET_HI.T4 -/
def RCH_TARGET_HI_T4 : Fld := ⟨0x200018, 0x0, 0x0, 0, 8, [0]⟩
/-- RCH_ERR.ALIGN -/
def RCH_ERR_ALIGN : Fld := ⟨0x20001C, 0x0, 0x0, 0, 1, [0]⟩
/-- RCH_ERR.SLIP -/
def RCH_ERR_SLIP : Fld := ⟨0x20001C, 0x0, 0x0, 1, 1, [0]⟩
/-- RCH_ERR.FLY_EXPIRE -/
def RCH_ERR_FLY_EXPIRE : Fld := ⟨0x20001C, 0x0, 0x0, 2, 1, [0]⟩
/-- RCH_ERR.SLOT_BUSY -/
def RCH_ERR_SLOT_BUSY : Fld := ⟨0x20001C, 0x0, 0x0, 3, 1, [0]⟩
/-- RCH_ERR.SEED_MISSING -/
def RCH_ERR_SEED_MISSING : Fld := ⟨0x20001C, 0x0, 0x0, 4, 1, [0]⟩
/-- RCH_SP_STATE.MODE -/
def RCH_SP_STATE_MODE : Fld := ⟨0x210004, 0x100, 0x0, 0, 3, [0]⟩
/-- RCH_SP_STATE.TRAINING -/
def RCH_SP_STATE_TRAINING : Fld := ⟨0x210004, 0x100, 0x0, 3, 1, [0]⟩
/-- RCH_SP_STATE.LAND -/
def RCH_SP_STATE_LAND : Fld := ⟨0x210004, 0x100, 0x0, 4, 1, [0]⟩
/-- RCH_SP_STATE.ZONE -/
def RCH_SP_STATE_ZONE : Fld := ⟨0x210004, 0x100, 0x0, 5, 5, [0]⟩
/-- RCH_SP_STATE.SEEDED -/
def RCH_SP_STATE_SEEDED : Fld := ⟨0x210004, 0x100, 0x0, 10, 1, [0]⟩
/-- RCH_SP_STATE.TIMING_UNCERTAIN -/
def RCH_SP_STATE_TIMING_UNCERTAIN : Fld := ⟨0x210004, 0x100, 0x0, 11, 1, [0]⟩
/-- RCH_SP_BASE.B -/
def RCH_SP_BASE_B : Fld := ⟨0x210008, 0x100, 0x0, 0, 16, [0]⟩
/-- RCH_SP_GAIN.G -/
def RCH_SP_GAIN_G : Fld := ⟨0x21000C, 0x100, 0x0, 0, 16, [4096]⟩
/-- RCH_SP_GAIN.BETA -/
def RCH_SP_GAIN_BETA : Fld := ⟨0x21000C, 0x100, 0x0, 16, 16, [0]⟩
/-- RCH_SP_RATIO.OMEGA -/
def RCH_SP_RATIO_OMEGA : Fld := ⟨0x210010, 0x100, 0x0, 0, 32, [0]⟩
/-- RCH_SP_POS.POS -/
def RCH_SP_POS_POS : Fld := ⟨0x210014, 0x100, 0x0, 0, 24, [0]⟩
/-- RCH_SP_POS.PHASE -/
def RCH_SP_POS_PHASE : Fld := ⟨0x210014, 0x100, 0x0, 24, 6, [0]⟩
/-- RCH_SP_EQ.EVEN -/
def RCH_SP_EQ_EVEN : Fld := ⟨0x210020, 0x100, 0x4, 0, 16, [0]⟩
/-- RCH_SP_EQ.ODD -/
def RCH_SP_EQ_ODD : Fld := ⟨0x210020, 0x100, 0x4, 16, 16, [0]⟩
/-- RCH_SP_XT.EVEN -/
def RCH_SP_XT_EVEN : Fld := ⟨0x210040, 0x100, 0x4, 0, 16, [0]⟩
/-- RCH_SP_XT.ODD -/
def RCH_SP_XT_ODD : Fld := ⟨0x210040, 0x100, 0x4, 16, 16, [0]⟩
/-- RCH_SP_CNT_DEF.DEFECTS -/
def RCH_SP_CNT_DEF_DEFECTS : Fld := ⟨0x210080, 0x100, 0x0, 0, 16, [0]⟩
/-- RCH_SP_CNT_DEF.STALLS -/
def RCH_SP_CNT_DEF_STALLS : Fld := ⟨0x210080, 0x100, 0x0, 16, 16, [0]⟩
/-- RCH_SP_CNT_SYNC.INFERRED -/
def RCH_SP_CNT_SYNC_INFERRED : Fld := ⟨0x210084, 0x100, 0x0, 0, 16, [0]⟩
/-- RCH_SP_CNT_SYNC.NEAR -/
def RCH_SP_CNT_SYNC_NEAR : Fld := ⟨0x210084, 0x100, 0x0, 16, 16, [0]⟩
/-- RCH_SP_CNT_SHIFT.SHIFTED -/
def RCH_SP_CNT_SHIFT_SHIFTED : Fld := ⟨0x210088, 0x100, 0x0, 0, 16, [0]⟩
/-- RCH_SP_CNT_SHIFT.SLIP -/
def RCH_SP_CNT_SHIFT_SLIP : Fld := ⟨0x210088, 0x100, 0x0, 16, 16, [0]⟩
/-- RCH_SP_CNT_ALIGN.ALIGN -/
def RCH_SP_CNT_ALIGN_ALIGN : Fld := ⟨0x21008C, 0x100, 0x0, 0, 16, [0]⟩
/-- RCH_SP_CNT_ALIGN.DISCARD -/
def RCH_SP_CNT_ALIGN_DISCARD : Fld := ⟨0x21008C, 0x100, 0x0, 16, 16, [0]⟩
/-- YAR_CFG.N_MIN -/
def YAR_CFG_N_MIN : Fld := ⟨0x300000, 0x0, 0x0, 0, 4, [2]⟩
/-- YAR_CFG.N1_MAX -/
def YAR_CFG_N1_MAX : Fld := ⟨0x300000, 0x0, 0x0, 4, 5, [8]⟩
/-- YAR_CFG.N2_MAX -/
def YAR_CFG_N2_MAX : Fld := ⟨0x300000, 0x0, 0x0, 9, 5, [12]⟩
/-- YAR_CFG.N_SHIFT -/
def YAR_CFG_N_SHIFT : Fld := ⟨0x300000, 0x0, 0x0, 14, 4, [6]⟩
/-- YAR_CFG.STALL_ITER -/
def YAR_CFG_STALL_ITER : Fld := ⟨0x300000, 0x0, 0x0, 18, 4, [3]⟩
/-- YAR_CFG.JOINT_EN -/
def YAR_CFG_JOINT_EN : Fld := ⟨0x300000, 0x0, 0x0, 22, 1, [1]⟩
/-- YAR_CFG.SHIFT_EN -/
def YAR_CFG_SHIFT_EN : Fld := ⟨0x300000, 0x0, 0x0, 23, 1, [1]⟩
/-- YAR_BUDGET.MARGIN -/
def YAR_BUDGET_MARGIN : Fld := ⟨0x300004, 0x0, 0x0, 0, 12, [256]⟩
/-- YAR_BUDGET.JOINT_WAIT -/
def YAR_BUDGET_JOINT_WAIT : Fld := ⟨0x300004, 0x0, 0x0, 12, 12, [2048]⟩
/-- YAR_DEC.OMS_OFFSET -/
def YAR_DEC_OMS_OFFSET : Fld := ⟨0x300008, 0x0, 0x0, 0, 3, [2]⟩
/-- YAR_DEC.REL_THR -/
def YAR_DEC_REL_THR : Fld := ⟨0x300008, 0x0, 0x0, 3, 5, [12]⟩
/-- YAR_DEC.SHIFT_SYN_THR -/
def YAR_DEC_SHIFT_SYN_THR : Fld := ⟨0x300008, 0x0, 0x0, 8, 8, [64]⟩
/-- YAR_DEC.KJ -/
def YAR_DEC_KJ : Fld := ⟨0x300008, 0x0, 0x0, 16, 4, [12]⟩
/-- YAR_OUTER.REREAD_MAX -/
def YAR_OUTER_REREAD_MAX : Fld := ⟨0x30000C, 0x0, 0x0, 0, 2, [3]⟩
/-- YAR_OUTER.REREAD_BOOST -/
def YAR_OUTER_REREAD_BOOST : Fld := ⟨0x30000C, 0x0, 0x0, 2, 4, [4]⟩
/-- YAR_OUTER.MISCORR_FIX -/
def YAR_OUTER_MISCORR_FIX : Fld := ⟨0x30000C, 0x0, 0x0, 6, 1, [1]⟩
/-- YAR_STATUS.BUSY -/
def YAR_STATUS_BUSY : Fld := ⟨0x300010, 0x0, 0x0, 0, 7, [0]⟩
/-- YAR_STATUS.QUEUED -/
def YAR_STATUS_QUEUED : Fld := ⟨0x300010, 0x0, 0x0, 8, 11, [0]⟩
/-- YAR_STATUS.JOINT_QUEUED -/
def YAR_STATUS_JOINT_QUEUED : Fld := ⟨0x300010, 0x0, 0x0, 19, 11, [0]⟩
/-- YAR_ERR.DROP -/
def YAR_ERR_DROP : Fld := ⟨0x300014, 0x0, 0x0, 0, 1, [0]⟩
/-- YAR_ERR.HARD_STOP -/
def YAR_ERR_HARD_STOP : Fld := ⟨0x300014, 0x0, 0x0, 1, 1, [0]⟩
/-- YAR_ERR.ACC_FULL -/
def YAR_ERR_ACC_FULL : Fld := ⟨0x300014, 0x0, 0x0, 2, 1, [0]⟩
/-- YAR_ERR.CLU_FAIL -/
def YAR_ERR_CLU_FAIL : Fld := ⟨0x300014, 0x0, 0x0, 3, 1, [0]⟩
/-- YAR_ERR.INCONSISTENT -/
def YAR_ERR_INCONSISTENT : Fld := ⟨0x300014, 0x0, 0x0, 4, 1, [0]⟩
/-- YAR_ERR.SEAL_ESCAPE -/
def YAR_ERR_SEAL_ESCAPE : Fld := ⟨0x300014, 0x0, 0x0, 5, 1, [0]⟩
/-- YAR_ERR.UNREADABLE -/
def YAR_ERR_UNREADABLE : Fld := ⟨0x300014, 0x0, 0x0, 6, 1, [0]⟩
/-- YAR_ERR.ENG_FAULT -/
def YAR_ERR_ENG_FAULT : Fld := ⟨0x300014, 0x0, 0x0, 7, 1, [0]⟩
/-- YAR_ERR.ASSEMBLY_MISS -/
def YAR_ERR_ASSEMBLY_MISS : Fld := ⟨0x300014, 0x0, 0x0, 8, 1, [0]⟩
/-- YAR_ENG_FAULT_LO.FAULT -/
def YAR_ENG_FAULT_LO_FAULT : Fld := ⟨0x300018, 0x0, 0x0, 0, 32, [0]⟩
/-- YAR_ENG_FAULT_HI.FAULT -/
def YAR_ENG_FAULT_HI_FAULT : Fld := ⟨0x30001C, 0x0, 0x0, 0, 32, [0]⟩
/-- YAR_CNT_FRAMES.COUNT -/
def YAR_CNT_FRAMES_COUNT : Fld := ⟨0x300020, 0x0, 0x0, 0, 32, [0]⟩
/-- YAR_CNT_CONV1.COUNT -/
def YAR_CNT_CONV1_COUNT : Fld := ⟨0x300024, 0x0, 0x0, 0, 32, [0]⟩
/-- YAR_CNT_CONVJ.COUNT -/
def YAR_CNT_CONVJ_COUNT : Fld := ⟨0x300028, 0x0, 0x0, 0, 32, [0]⟩
/-- YAR_CNT_FAILED.COUNT -/
def YAR_CNT_FAILED_COUNT : Fld := ⟨0x30002C, 0x0, 0x0, 0, 32, [0]⟩
/-- YAR_CNT_DROPPED.COUNT -/
def YAR_CNT_DROPPED_COUNT : Fld := ⟨0x300030, 0x0, 0x0, 0, 32, [0]⟩
/-- YAR_CNT_CUT.COUNT -/
def YAR_CNT_CUT_COUNT : Fld := ⟨0x300034, 0x0, 0x0, 0, 32, [0]⟩
/-- YAR_CNT_ITER.COUNT -/
def YAR_CNT_ITER_COUNT : Fld := ⟨0x300038, 0x0, 0x0, 0, 32, [0]⟩
/-- YAR_CNT_CLU_RECOV.COUNT -/
def YAR_CNT_CLU_RECOV_COUNT : Fld := ⟨0x30003C, 0x0, 0x0, 0, 32, [0]⟩
/-- YAR_CNT_CLU_FAIL.COUNT -/
def YAR_CNT_CLU_FAIL_COUNT : Fld := ⟨0x300040, 0x0, 0x0, 0, 32, [0]⟩
/-- YAR_PK_EPOCH.EPOCH -/
def YAR_PK_EPOCH_EPOCH : Fld := ⟨0x300100, 0x4, 0x0, 0, 9, [0]⟩
/-- YAR_PK_EPOCH.VALID -/
def YAR_PK_EPOCH_VALID : Fld := ⟨0x300100, 0x4, 0x0, 9, 1, [0]⟩
/-- YAR_SP_JX.EVEN -/
def YAR_SP_JX_EVEN : Fld := ⟨0x310000, 0x40, 0x4, 0, 16, [0]⟩
/-- YAR_SP_JX.ODD -/
def YAR_SP_JX_ODD : Fld := ⟨0x310000, 0x40, 0x4, 16, 16, [0]⟩
/-- YAR_SP_CNT_A.CONV1 -/
def YAR_SP_CNT_A_CONV1 : Fld := ⟨0x310028, 0x40, 0x0, 0, 16, [0]⟩
/-- YAR_SP_CNT_A.CONVJ -/
def YAR_SP_CNT_A_CONVJ : Fld := ⟨0x310028, 0x40, 0x0, 16, 16, [0]⟩
/-- YAR_SP_CNT_B.FAILED -/
def YAR_SP_CNT_B_FAILED : Fld := ⟨0x31002C, 0x40, 0x0, 0, 16, [0]⟩
/-- YAR_SP_CNT_B.SHIFTED -/
def YAR_SP_CNT_B_SHIFTED : Fld := ⟨0x31002C, 0x40, 0x0, 16, 16, [0]⟩
/-- YAR_SP_CNT_C.HDR_FAIL -/
def YAR_SP_CNT_C_HDR_FAIL : Fld := ⟨0x310030, 0x40, 0x0, 0, 16, [0]⟩
/-- YAR_SP_CNT_C.DROPPED -/
def YAR_SP_CNT_C_DROPPED : Fld := ⟨0x310030, 0x40, 0x0, 16, 16, [0]⟩
/-- YAR_SP_ITER.MEAN -/
def YAR_SP_ITER_MEAN : Fld := ⟨0x310034, 0x40, 0x0, 0, 16, [0]⟩
/-- WCH_CFG.DC_EN -/
def WCH_CFG_DC_EN : Fld := ⟨0x380000, 0x0, 0x0, 0, 1, [1]⟩
/-- WCH_CFG.DRAW_TOL -/
def WCH_CFG_DRAW_TOL : Fld := ⟨0x380000, 0x0, 0x0, 1, 1, [0]⟩
/-- WCH_DRAW.ITER_MAX -/
def WCH_DRAW_ITER_MAX : Fld := ⟨0x380004, 0x0, 0x0, 0, 5, [6]⟩
/-- WCH_DRAW.FLIP_MAX -/
def WCH_DRAW_FLIP_MAX : Fld := ⟨0x380004, 0x0, 0x0, 5, 16, [256]⟩
/-- WCH_LEAD.LEAD0 -/
def WCH_LEAD_LEAD0 : Fld := ⟨0x380008, 0x0, 0x0, 0, 2, [1]⟩
/-- WCH_LEAD.LEAD1 -/
def WCH_LEAD_LEAD1 : Fld := ⟨0x380008, 0x0, 0x0, 2, 2, [1]⟩
/-- WCH_LEAD.LEAD2 -/
def WCH_LEAD_LEAD2 : Fld := ⟨0x380008, 0x0, 0x0, 4, 2, [1]⟩
/-- WCH_LEAD.LEAD3 -/
def WCH_LEAD_LEAD3 : Fld := ⟨0x380008, 0x0, 0x0, 6, 2, [1]⟩
/-- WCH_LEAD.LEAD4 -/
def WCH_LEAD_LEAD4 : Fld := ⟨0x380008, 0x0, 0x0, 8, 2, [1]⟩
/-- WCH_LEAD.LEAD5 -/
def WCH_LEAD_LEAD5 : Fld := ⟨0x380008, 0x0, 0x0, 10, 2, [1]⟩
/-- WCH_LEAD.LEAD6 -/
def WCH_LEAD_LEAD6 : Fld := ⟨0x380008, 0x0, 0x0, 12, 2, [1]⟩
/-- WCH_LEAD.LEAD7 -/
def WCH_LEAD_LEAD7 : Fld := ⟨0x380008, 0x0, 0x0, 14, 2, [1]⟩
/-- WCH_LEAD.LEAD8 -/
def WCH_LEAD_LEAD8 : Fld := ⟨0x380008, 0x0, 0x0, 16, 2, [1]⟩
/-- WCH_LEAD.LEAD9 -/
def WCH_LEAD_LEAD9 : Fld := ⟨0x380008, 0x0, 0x0, 18, 2, [1]⟩
/-- WCH_LEAD.LEAD10 -/
def WCH_LEAD_LEAD10 : Fld := ⟨0x380008, 0x0, 0x0, 20, 2, [1]⟩
/-- WCH_LEAD.LEAD11 -/
def WCH_LEAD_LEAD11 : Fld := ⟨0x380008, 0x0, 0x0, 22, 2, [1]⟩
/-- WCH_LEAD.LEAD12 -/
def WCH_LEAD_LEAD12 : Fld := ⟨0x380008, 0x0, 0x0, 24, 2, [1]⟩
/-- WCH_LEAD.LEAD13 -/
def WCH_LEAD_LEAD13 : Fld := ⟨0x380008, 0x0, 0x0, 26, 2, [1]⟩
/-- WCH_LEAD.LEAD14 -/
def WCH_LEAD_LEAD14 : Fld := ⟨0x380008, 0x0, 0x0, 28, 2, [1]⟩
/-- WCH_LEAD.LEAD15 -/
def WCH_LEAD_LEAD15 : Fld := ⟨0x380008, 0x0, 0x0, 30, 2, [1]⟩
/-- WCH_TRAIL.TRAIL1 -/
def WCH_TRAIL_TRAIL1 : Fld := ⟨0x38000C, 0x0, 0x0, 0, 2, [0]⟩
/-- WCH_TRAIL.TRAIL2 -/
def WCH_TRAIL_TRAIL2 : Fld := ⟨0x38000C, 0x0, 0x0, 2, 2, [1]⟩
/-- WCH_TRAIL.TRAIL3 -/
def WCH_TRAIL_TRAIL3 : Fld := ⟨0x38000C, 0x0, 0x0, 4, 2, [2]⟩
/-- WCH_TRAIL.TRAIL4 -/
def WCH_TRAIL_TRAIL4 : Fld := ⟨0x38000C, 0x0, 0x0, 6, 2, [2]⟩
/-- WCH_TRAIL.COOL -/
def WCH_TRAIL_COOL : Fld := ⟨0x38000C, 0x0, 0x0, 8, 2, [2]⟩
/-- WCH_FIFO.LO -/
def WCH_FIFO_LO : Fld := ⟨0x380010, 0x0, 0x0, 0, 12, [2048]⟩
/-- WCH_FIFO.HI -/
def WCH_FIFO_HI : Fld := ⟨0x380010, 0x0, 0x0, 12, 12, [3584]⟩
/-- WCH_STATUS.BURNING -/
def WCH_STATUS_BURNING : Fld := ⟨0x380014, 0x0, 0x0, 0, 16, [0]⟩
/-- WCH_STATUS.REPLACING -/
def WCH_STATUS_REPLACING : Fld := ⟨0x380014, 0x0, 0x0, 16, 16, [0]⟩
/-- WCH_ERR.SUPPLY_MISS -/
def WCH_ERR_SUPPLY_MISS : Fld := ⟨0x380018, 0x0, 0x0, 0, 1, [0]⟩
/-- WCH_ERR.UNDERRUN -/
def WCH_ERR_UNDERRUN : Fld := ⟨0x380018, 0x0, 0x0, 1, 1, [0]⟩
/-- WCH_ERR.VERIFY_FAIL -/
def WCH_ERR_VERIFY_FAIL : Fld := ⟨0x380018, 0x0, 0x0, 2, 1, [0]⟩
/-- WCH_ERR.WRITE_CUT -/
def WCH_ERR_WRITE_CUT : Fld := ⟨0x380018, 0x0, 0x0, 3, 1, [0]⟩
/-- WCH_ERR.NO_SET -/
def WCH_ERR_NO_SET : Fld := ⟨0x380018, 0x0, 0x0, 4, 1, [0]⟩
/-- WCH_CNT_FRAMES.COUNT -/
def WCH_CNT_FRAMES_COUNT : Fld := ⟨0x380020, 0x0, 0x0, 0, 32, [0]⟩
/-- WCH_CNT_VFAIL.COUNT -/
def WCH_CNT_VFAIL_COUNT : Fld := ⟨0x380024, 0x0, 0x0, 0, 32, [0]⟩
/-- WCH_CNT_REPL.COUNT -/
def WCH_CNT_REPL_COUNT : Fld := ⟨0x380028, 0x0, 0x0, 0, 32, [0]⟩
/-- WCH_CNT_MISS.COUNT -/
def WCH_CNT_MISS_COUNT : Fld := ⟨0x38002C, 0x0, 0x0, 0, 32, [0]⟩
/-- WCH_PK_CNT.VFAIL -/
def WCH_PK_CNT_VFAIL : Fld := ⟨0x380100, 0x4, 0x0, 0, 16, [0]⟩
/-- WCH_PK_CNT.REPL -/
def WCH_PK_CNT_REPL : Fld := ⟨0x380100, 0x4, 0x0, 16, 16, [0]⟩
/-- SVO_STATE.STATE -/
def SVO_STATE_STATE : Fld := ⟨0x400000, 0x4000, 0x0, 0, 3, [0]⟩
/-- SVO_STATE.LAYER -/
def SVO_STATE_LAYER : Fld := ⟨0x400000, 0x4000, 0x0, 3, 2, [0]⟩
/-- SVO_STATE.SIDE -/
def SVO_STATE_SIDE : Fld := ⟨0x400000, 0x4000, 0x0, 5, 1, [0]⟩
/-- SVO_STATE.LAND -/
def SVO_STATE_LAND : Fld := ⟨0x400000, 0x4000, 0x0, 6, 1, [0]⟩
/-- SVO_STATE.SPEED -/
def SVO_STATE_SPEED : Fld := ⟨0x400000, 0x4000, 0x0, 7, 1, [0]⟩
/-- SVO_STATE.BURN -/
def SVO_STATE_BURN : Fld := ⟨0x400000, 0x4000, 0x0, 8, 1, [0]⟩
/-- SVO_STATE.WRITE_EN -/
def SVO_STATE_WRITE_EN : Fld := ⟨0x400000, 0x4000, 0x0, 9, 1, [0]⟩
/-- SVO_MODE.LOOP0 -/
def SVO_MODE_LOOP0 : Fld := ⟨0x400004, 0x4000, 0x0, 0, 2, [0]⟩
/-- SVO_MODE.LOOP1 -/
def SVO_MODE_LOOP1 : Fld := ⟨0x400004, 0x4000, 0x0, 2, 2, [0]⟩
/-- SVO_MODE.LOOP2 -/
def SVO_MODE_LOOP2 : Fld := ⟨0x400004, 0x4000, 0x0, 4, 2, [0]⟩
/-- SVO_MODE.LOOP3 -/
def SVO_MODE_LOOP3 : Fld := ⟨0x400004, 0x4000, 0x0, 6, 2, [0]⟩
/-- SVO_MODE.LOOP4 -/
def SVO_MODE_LOOP4 : Fld := ⟨0x400004, 0x4000, 0x0, 8, 2, [0]⟩
/-- SVO_ERR.TICK_MISS -/
def SVO_ERR_TICK_MISS : Fld := ⟨0x400008, 0x4000, 0x0, 0, 1, [0]⟩
/-- SVO_ERR.HOLD -/
def SVO_ERR_HOLD : Fld := ⟨0x400008, 0x4000, 0x0, 1, 1, [0]⟩
/-- SVO_ERR.CH_MISSING -/
def SVO_ERR_CH_MISSING : Fld := ⟨0x400008, 0x4000, 0x0, 2, 1, [0]⟩
/-- SVO_ERR.IMPLAUSIBLE -/
def SVO_ERR_IMPLAUSIBLE : Fld := ⟨0x400008, 0x4000, 0x0, 3, 1, [0]⟩
/-- SVO_ERR.WEDGE_LOST -/
def SVO_ERR_WEDGE_LOST : Fld := ⟨0x400008, 0x4000, 0x0, 4, 1, [0]⟩
/-- SVO_ERR.SLIP -/
def SVO_ERR_SLIP : Fld := ⟨0x400008, 0x4000, 0x0, 5, 1, [0]⟩
/-- SVO_ERR.WRONG_LAYER -/
def SVO_ERR_WRONG_LAYER : Fld := ⟨0x400008, 0x4000, 0x0, 6, 1, [0]⟩
/-- SVO_ERR.FOCUS_FAIL -/
def SVO_ERR_FOCUS_FAIL : Fld := ⟨0x400008, 0x4000, 0x0, 7, 1, [0]⟩
/-- SVO_ERR.JUMP_FAIL -/
def SVO_ERR_JUMP_FAIL : Fld := ⟨0x400008, 0x4000, 0x0, 8, 1, [0]⟩
/-- SVO_ERR.SEEK_FAIL -/
def SVO_ERR_SEEK_FAIL : Fld := ⟨0x400008, 0x4000, 0x0, 9, 1, [0]⟩
/-- SVO_ERR.WRITE_OFF -/
def SVO_ERR_WRITE_OFF : Fld := ⟨0x400008, 0x4000, 0x0, 10, 1, [0]⟩
/-- SVO_ERR.FAULT -/
def SVO_ERR_FAULT : Fld := ⟨0x400008, 0x4000, 0x0, 11, 1, [0]⟩
/-- SVO_ERR.OWN_LOST -/
def SVO_ERR_OWN_LOST : Fld := ⟨0x400008, 0x4000, 0x0, 12, 1, [0]⟩
/-- SVO_ERR.SAT -/
def SVO_ERR_SAT : Fld := ⟨0x400008, 0x4000, 0x0, 13, 1, [0]⟩
/-- SVO_TARGET.TRACK -/
def SVO_TARGET_TRACK : Fld := ⟨0x40000C, 0x4000, 0x0, 0, 19, [0]⟩
/-- SVO_TARGET.LAYER -/
def SVO_TARGET_LAYER : Fld := ⟨0x40000C, 0x4000, 0x0, 19, 2, [0]⟩
/-- SVO_TARGET.VALID -/
def SVO_TARGET_VALID : Fld := ⟨0x40000C, 0x4000, 0x0, 21, 1, [0]⟩
/-- SVO_POS.TRACK -/
def SVO_POS_TRACK : Fld := ⟨0x400010, 0x4000, 0x0, 0, 19, [0]⟩
/-- SVO_POS.OFFSET -/
def SVO_POS_OFFSET : Fld := ⟨0x400010, 0x4000, 0x0, 19, 12, [0]⟩
/-- SVO_POS.VERIFIED -/
def SVO_POS_VERIFIED : Fld := ⟨0x400010, 0x4000, 0x0, 31, 1, [0]⟩
/-- SVO_PW.PW -/
def SVO_PW_PW : Fld := ⟨0x400014, 0x4000, 0x0, 0, 24, [0]⟩
/-- SVO_WEDGE.INDEX -/
def SVO_WEDGE_INDEX : Fld := ⟨0x400018, 0x4000, 0x0, 0, 9, [0]⟩
/-- SVO_WEDGE.MISSED -/
def SVO_WEDGE_MISSED : Fld := ⟨0x400018, 0x4000, 0x0, 16, 8, [0]⟩
/-- SVO_TE_RMS.RMS -/
def SVO_TE_RMS_RMS : Fld := ⟨0x40001C, 0x4000, 0x0, 0, 16, [0]⟩
/-- SVO_TE_RMS.FLOOR -/
def SVO_TE_RMS_FLOOR : Fld := ⟨0x40001C, 0x4000, 0x0, 16, 16, [0]⟩
/-- SVO_BN.BN -/
def SVO_BN_BN : Fld := ⟨0x400020, 0x4000, 0x0, 0, 24, [20000]⟩
/-- SVO_SUM_E.SUM_E -/
def SVO_SUM_E_SUM_E : Fld := ⟨0x400024, 0x4000, 0x0, 0, 16, [256]⟩
/-- SVO_IDX_OFS.OFS -/
def SVO_IDX_OFS_OFS : Fld := ⟨0x400030, 0x4000, 0x4, 0, 18, [0]⟩
/-- SVO_IDX_OFS.VALID -/
def SVO_IDX_OFS_VALID : Fld := ⟨0x400030, 0x4000, 0x4, 31, 1, [0]⟩
/-- SVO_TRK_THR.ON_TRACK_THR -/
def SVO_TRK_THR_ON_TRACK_THR : Fld := ⟨0x400040, 0x4000, 0x0, 0, 8, [80]⟩
/-- SVO_TRK_THR.WRITE_OFFTRACK -/
def SVO_TRK_THR_WRITE_OFFTRACK : Fld := ⟨0x400040, 0x4000, 0x0, 8, 8, [48]⟩
/-- SVO_TRK_THR.ON_TRACK_TICKS -/
def SVO_TRK_THR_ON_TRACK_TICKS : Fld := ⟨0x400040, 0x4000, 0x0, 16, 4, [2]⟩
/-- SVO_WR_THR.FOCUS_WRITE_LIM -/
def SVO_WR_THR_FOCUS_WRITE_LIM : Fld := ⟨0x400044, 0x4000, 0x0, 0, 10, [160]⟩
/-- SVO_WR_THR.YAW_WRITE_LIM -/
def SVO_WR_THR_YAW_WRITE_LIM : Fld := ⟨0x400044, 0x4000, 0x0, 10, 10, [200]⟩
/-- SVO_WR_THR.WEDGE_WRITE_MAX -/
def SVO_WR_THR_WEDGE_WRITE_MAX : Fld := ⟨0x400044, 0x4000, 0x0, 20, 4, [2]⟩
/-- SVO_WR_THR.PW_TOL -/
def SVO_WR_THR_PW_TOL : Fld := ⟨0x400044, 0x4000, 0x0, 24, 8, [5]⟩
/-- SVO_PLAUS.BRIDGE_MAX -/
def SVO_PLAUS_BRIDGE_MAX : Fld := ⟨0x400048, 0x4000, 0x0, 0, 4, [4]⟩
/-- SVO_PLAUS.MISS_MAX -/
def SVO_PLAUS_MISS_MAX : Fld := ⟨0x400048, 0x4000, 0x0, 4, 4, [4]⟩
/-- SVO_PLAUS.SUM_MIN -/
def SVO_PLAUS_SUM_MIN : Fld := ⟨0x400048, 0x4000, 0x0, 8, 8, [128]⟩
/-- SVO_WEDGE_CFG.WEDGE_MISS_MAX -/
def SVO_WEDGE_CFG_WEDGE_MISS_MAX : Fld := ⟨0x40004C, 0x4000, 0x0, 0, 4, [8]⟩
/-- SVO_WEDGE_CFG.SLIP_WEDGES -/
def SVO_WEDGE_CFG_SLIP_WEDGES : Fld := ⟨0x40004C, 0x4000, 0x0, 4, 4, [2]⟩
/-- SVO_WEDGE_CFG.WEDGE_WIN -/
def SVO_WEDGE_CFG_WEDGE_WIN : Fld := ⟨0x40004C, 0x4000, 0x0, 8, 8, [64]⟩
/-- SVO_WEDGE_CFG.KO -/
def SVO_WEDGE_CFG_KO : Fld := ⟨0x40004C, 0x4000, 0x0, 16, 4, [4]⟩
/-- SVO_HOLD.HOLD_MAX -/
def SVO_HOLD_HOLD_MAX : Fld := ⟨0x400050, 0x4000, 0x0, 0, 8, [64]⟩
/-- SVO_HOLD.FAULT_MISS -/
def SVO_HOLD_FAULT_MISS : Fld := ⟨0x400050, 0x4000, 0x0, 8, 4, [8]⟩
/-- SVO_LEARN.KL -/
def SVO_LEARN_KL : Fld := ⟨0x400054, 0x4000, 0x0, 0, 4, [5]⟩
/-- SVO_LEARN.KL_INIT -/
def SVO_LEARN_KL_INIT : Fld := ⟨0x400054, 0x4000, 0x0, 4, 4, [1]⟩
/-- SVO_LEARN.RAMP_REVS -/
def SVO_LEARN_RAMP_REVS : Fld := ⟨0x400054, 0x4000, 0x0, 8, 4, [8]⟩
/-- SVO_LEARN.LEARN_EN -/
def SVO_LEARN_LEARN_EN : Fld := ⟨0x400054, 0x4000, 0x0, 12, 1, [1]⟩
/-- SVO_MOVE.JUMP_TICKS -/
def SVO_MOVE_JUMP_TICKS : Fld := ⟨0x400058, 0x4000, 0x0, 0, 4, [8]⟩
/-- SVO_MOVE.SETTLE_MAX -/
def SVO_MOVE_SETTLE_MAX : Fld := ⟨0x400058, 0x4000, 0x0, 4, 4, [4]⟩
/-- SVO_MOVE.FINE_SEEK_MAX -/
def SVO_MOVE_FINE_SEEK_MAX : Fld := ⟨0x400058, 0x4000, 0x0, 8, 12, [256]⟩
/-- SVO_MOVE.SEEK_TRIES -/
def SVO_MOVE_SEEK_TRIES : Fld := ⟨0x400058, 0x4000, 0x0, 20, 4, [3]⟩
/-- SVO_SEEK.SEEK_VMAX -/
def SVO_SEEK_SEEK_VMAX : Fld := ⟨0x40005C, 0x4000, 0x0, 0, 10, [200]⟩
/-- SVO_SEEK.WEDGE_TOL -/
def SVO_SEEK_WEDGE_TOL : Fld := ⟨0x40005C, 0x4000, 0x0, 10, 6, [16]⟩
/-- SVO_FACQ.SWEEP_RATE -/
def SVO_FACQ_SWEEP_RATE : Fld := ⟨0x400060, 0x4000, 0x0, 0, 16, [16]⟩
/-- SVO_FACQ.FACQ_RETRIES -/
def SVO_FACQ_FACQ_RETRIES : Fld := ⟨0x400060, 0x4000, 0x0, 16, 4, [3]⟩
/-- SVO_FACQ.SUM_S_MIN -/
def SVO_FACQ_SUM_S_MIN : Fld := ⟨0x400060, 0x4000, 0x0, 20, 8, [32]⟩
/-- SVO_LJUMP.JUMP_KICK -/
def SVO_LJUMP_JUMP_KICK : Fld := ⟨0x400064, 0x4000, 0x0, 0, 16, [2048]⟩
/-- SVO_LJUMP.KICK_TICKS -/
def SVO_LJUMP_KICK_TICKS : Fld := ⟨0x400064, 0x4000, 0x0, 16, 8, [32]⟩
/-- SVO_LJUMP.JUMP_TIMEOUT -/
def SVO_LJUMP_JUMP_TIMEOUT : Fld := ⟨0x400064, 0x4000, 0x0, 24, 8, [49]⟩
/-- SVO_TBL_ADDR.ENTRY -/
def SVO_TBL_ADDR_ENTRY : Fld := ⟨0x400080, 0x4000, 0x0, 0, 9, [0]⟩
/-- SVO_TBL_ADDR.LAYER -/
def SVO_TBL_ADDR_LAYER : Fld := ⟨0x400080, 0x4000, 0x0, 9, 2, [0]⟩
/-- SVO_TBL_ADDR.LOOP -/
def SVO_TBL_ADDR_LOOP : Fld := ⟨0x400080, 0x4000, 0x0, 11, 2, [0]⟩
/-- SVO_TBL_ADDR.SPEED -/
def SVO_TBL_ADDR_SPEED : Fld := ⟨0x400080, 0x4000, 0x0, 13, 1, [0]⟩
/-- SVO_TBL_ADDR.KIND -/
def SVO_TBL_ADDR_KIND : Fld := ⟨0x400080, 0x4000, 0x0, 14, 2, [0]⟩
/-- SVO_TBL_DATA.VALUE -/
def SVO_TBL_DATA_VALUE : Fld := ⟨0x400084, 0x4000, 0x0, 0, 16, [0]⟩
/-- SVO_TBL_DATA.VALID -/
def SVO_TBL_DATA_VALID : Fld := ⟨0x400084, 0x4000, 0x0, 16, 1, [0]⟩
/-- SVO_CNT_A.TICK_MISS -/
def SVO_CNT_A_TICK_MISS : Fld := ⟨0x4000C0, 0x4000, 0x0, 0, 16, [0]⟩
/-- SVO_CNT_A.CH_MISS -/
def SVO_CNT_A_CH_MISS : Fld := ⟨0x4000C0, 0x4000, 0x0, 16, 16, [0]⟩
/-- SVO_CNT_B.BRIDGE -/
def SVO_CNT_B_BRIDGE : Fld := ⟨0x4000C4, 0x4000, 0x0, 0, 16, [0]⟩
/-- SVO_CNT_B.HOLD -/
def SVO_CNT_B_HOLD : Fld := ⟨0x4000C4, 0x4000, 0x0, 16, 16, [0]⟩
/-- SVO_CNT_C.WEDGE_MISS -/
def SVO_CNT_C_WEDGE_MISS : Fld := ⟨0x4000C8, 0x4000, 0x0, 0, 16, [0]⟩
/-- SVO_CNT_C.SLIP -/
def SVO_CNT_C_SLIP : Fld := ⟨0x4000C8, 0x4000, 0x0, 16, 16, [0]⟩
/-- SVO_CNT_D.WRITE_OFF -/
def SVO_CNT_D_WRITE_OFF : Fld := ⟨0x4000CC, 0x4000, 0x0, 0, 16, [0]⟩
/-- SVO_CNT_D.MOVE_RETRY -/
def SVO_CNT_D_MOVE_RETRY : Fld := ⟨0x4000CC, 0x4000, 0x0, 16, 16, [0]⟩
/-- SVO_L_PI.KP -/
def SVO_L_PI_KP : Fld := ⟨0x400100, 0x4000, 0x40, 0, 16, [1536, 2048, 256, 256, 1024]⟩
/-- SVO_L_PI.KI -/
def SVO_L_PI_KI : Fld := ⟨0x400100, 0x4000, 0x40, 16, 16, [64, 64, 4, 4, 16]⟩
/-- SVO_L_D.KD -/
def SVO_L_D_KD : Fld := ⟨0x400104, 0x4000, 0x40, 0, 16, [6144, 6144, 0, 0, 2048]⟩
/-- SVO_L_D.AD -/
def SVO_L_D_AD : Fld := ⟨0x400104, 0x4000, 0x40, 16, 16, [49152]⟩
/-- SVO_L_N0A.B0 -/
def SVO_L_N0A_B0 : Fld := ⟨0x400108, 0x4000, 0x40, 0, 16, [16384]⟩
/-- SVO_L_N0A.B1 -/
def SVO_L_N0A_B1 : Fld := ⟨0x400108, 0x4000, 0x40, 16, 16, [0]⟩
/-- SVO_L_N0B.B2 -/
def SVO_L_N0B_B2 : Fld := ⟨0x40010C, 0x4000, 0x40, 0, 16, [0]⟩
/-- SVO_L_N0B.A1 -/
def SVO_L_N0B_A1 : Fld := ⟨0x40010C, 0x4000, 0x40, 16, 16, [0]⟩
/-- SVO_L_N01.A2 -/
def SVO_L_N01_A2 : Fld := ⟨0x400110, 0x4000, 0x40, 0, 16, [0]⟩
/-- SVO_L_N01.N1_B0 -/
def SVO_L_N01_N1_B0 : Fld := ⟨0x400110, 0x4000, 0x40, 16, 16, [16384]⟩
/-- SVO_L_N1A.B1 -/
def SVO_L_N1A_B1 : Fld := ⟨0x400114, 0x4000, 0x40, 0, 16, [0]⟩
/-- SVO_L_N1A.B2 -/
def SVO_L_N1A_B2 : Fld := ⟨0x400114, 0x4000, 0x40, 16, 16, [0]⟩
/-- SVO_L_N1B.A1 -/
def SVO_L_N1B_A1 : Fld := ⟨0x400118, 0x4000, 0x40, 0, 16, [0]⟩
/-- SVO_L_N1B.A2 -/
def SVO_L_N1B_A2 : Fld := ⟨0x400118, 0x4000, 0x40, 16, 16, [0]⟩
/-- SVO_L_LIM.OUT_LIM -/
def SVO_L_LIM_OUT_LIM : Fld := ⟨0x40011C, 0x4000, 0x40, 0, 16, [32767]⟩
/-- SVO_L_LIM.SLEW -/
def SVO_L_LIM_SLEW : Fld := ⟨0x40011C, 0x4000, 0x40, 16, 16, [2048]⟩
/-- SVO_L_OBS_A.A1 -/
def SVO_L_OBS_A_A1 : Fld := ⟨0x400120, 0x4000, 0x40, 0, 16, [31948]⟩
/-- SVO_L_OBS_A.A2 -/
def SVO_L_OBS_A_A2 : Fld := ⟨0x400120, 0x4000, 0x40, 16, 16, [49808]⟩
/-- SVO_L_OBS_B.B0 -/
def SVO_L_OBS_B_B0 : Fld := ⟨0x400124, 0x4000, 0x40, 0, 16, [256]⟩
/-- SVO_L_OBS_B.LGAIN -/
def SVO_L_OBS_B_LGAIN : Fld := ⟨0x400124, 0x4000, 0x40, 16, 16, [16384]⟩
/-- SVO_L_RES.RES_THR -/
def SVO_L_RES_RES_THR : Fld := ⟨0x400128, 0x4000, 0x40, 0, 16, [160, 120, 0, 0, 100]⟩
/-- MOT_SP_CFG.POLES -/
def MOT_SP_CFG_POLES : Fld := ⟨0x500000, 0x1000, 0x0, 0, 4, [4]⟩
/-- MOT_SP_CFG.DEADTIME -/
def MOT_SP_CFG_DEADTIME : Fld := ⟨0x500000, 0x1000, 0x0, 4, 8, [40]⟩
/-- MOT_SP_CFG.SETTLE -/
def MOT_SP_CFG_SETTLE : Fld := ⟨0x500000, 0x1000, 0x0, 12, 8, [59]⟩
/-- MOT_SP_DUTY.D_MIN -/
def MOT_SP_DUTY_D_MIN : Fld := ⟨0x500004, 0x1000, 0x0, 0, 12, [164]⟩
/-- MOT_SP_DUTY.D_MAX -/
def MOT_SP_DUTY_D_MAX : Fld := ⟨0x500004, 0x1000, 0x0, 12, 12, [3512]⟩
/-- MOT_SP_MOTOR.RS -/
def MOT_SP_MOTOR_RS : Fld := ⟨0x500008, 0x1000, 0x0, 0, 16, [500]⟩
/-- MOT_SP_MOTOR.LS -/
def MOT_SP_MOTOR_LS : Fld := ⟨0x500008, 0x1000, 0x0, 16, 16, [600]⟩
/-- MOT_SP_KE.KE -/
def MOT_SP_KE_KE : Fld := ⟨0x50000C, 0x1000, 0x0, 0, 16, [1600]⟩
/-- MOT_SP_KE.J -/
def MOT_SP_KE_J : Fld := ⟨0x50000C, 0x1000, 0x0, 16, 16, [800]⟩
/-- MOT_SP_SCALE.I_FS -/
def MOT_SP_SCALE_I_FS : Fld := ⟨0x500010, 0x1000, 0x0, 0, 16, [20000]⟩
/-- MOT_SP_SCALE.V_FS -/
def MOT_SP_SCALE_V_FS : Fld := ⟨0x500010, 0x1000, 0x0, 16, 16, [40000]⟩
/-- MOT_SP_CUR.KP_I -/
def MOT_SP_CUR_KP_I : Fld := ⟨0x500014, 0x1000, 0x0, 0, 16, [2048]⟩
/-- MOT_SP_CUR.KI_I -/
def MOT_SP_CUR_KI_I : Fld := ⟨0x500014, 0x1000, 0x0, 16, 16, [128]⟩
/-- MOT_SP_SPD.KP_S -/
def MOT_SP_SPD_KP_S : Fld := ⟨0x500018, 0x1000, 0x0, 0, 16, [1024]⟩
/-- MOT_SP_SPD.KI_S -/
def MOT_SP_SPD_KI_S : Fld := ⟨0x500018, 0x1000, 0x0, 16, 16, [16]⟩
/-- MOT_SP_LIM.I_MAX -/
def MOT_SP_LIM_I_MAX : Fld := ⟨0x50001C, 0x1000, 0x0, 0, 16, [3000]⟩
/-- MOT_SP_LIM.I_TRIP -/
def MOT_SP_LIM_I_TRIP : Fld := ⟨0x50001C, 0x1000, 0x0, 16, 16, [8000]⟩
/-- MOT_SP_SPEED.READ_RPM -/
def MOT_SP_SPEED_READ_RPM : Fld := ⟨0x500020, 0x1000, 0x0, 0, 16, [10000]⟩
/-- MOT_SP_SPEED.BURN_RPM -/
def MOT_SP_SPEED_BURN_RPM : Fld := ⟨0x500020, 0x1000, 0x0, 16, 16, [7500]⟩
/-- MOT_SP_RAMP.ACCEL -/
def MOT_SP_RAMP_ACCEL : Fld := ⟨0x500024, 0x1000, 0x0, 0, 16, [2500]⟩
/-- MOT_SP_RAMP.DECEL -/
def MOT_SP_RAMP_DECEL : Fld := ⟨0x500024, 0x1000, 0x0, 16, 16, [2000]⟩
/-- MOT_SP_START.HANDOVER -/
def MOT_SP_START_HANDOVER : Fld := ⟨0x500028, 0x1000, 0x0, 0, 12, [600]⟩
/-- MOT_SP_START.ALIGN_T -/
def MOT_SP_START_ALIGN_T : Fld := ⟨0x500028, 0x1000, 0x0, 12, 8, [200]⟩
/-- MOT_SP_START.START_TRIES -/
def MOT_SP_START_START_TRIES : Fld := ⟨0x500028, 0x1000, 0x0, 20, 4, [3]⟩
/-- MOT_SP_START.PLL_BW -/
def MOT_SP_START_PLL_BW : Fld := ⟨0x500028, 0x1000, 0x0, 24, 8, [20]⟩
/-- MOT_SP_START2.ALIGN_I -/
def MOT_SP_START2_ALIGN_I : Fld := ⟨0x50002C, 0x1000, 0x0, 0, 16, [1500]⟩
/-- MOT_SP_START2.RAMP_ACC -/
def MOT_SP_START2_RAMP_ACC : Fld := ⟨0x50002C, 0x1000, 0x0, 16, 16, [2000]⟩
/-- MOT_SP_PROBE.PROBE_T -/
def MOT_SP_PROBE_PROBE_T : Fld := ⟨0x500030, 0x1000, 0x0, 0, 8, [100]⟩
/-- MOT_SP_PROBE.PROBE_MIN -/
def MOT_SP_PROBE_PROBE_MIN : Fld := ⟨0x500030, 0x1000, 0x0, 8, 8, [8]⟩
/-- MOT_SP_PROBE.SHORT_I_LIM -/
def MOT_SP_PROBE_SHORT_I_LIM : Fld := ⟨0x500030, 0x1000, 0x0, 16, 16, [2000]⟩
/-- MOT_SP_BUS.CHOP_ON -/
def MOT_SP_BUS_CHOP_ON : Fld := ⟨0x500034, 0x1000, 0x0, 0, 8, [224]⟩
/-- MOT_SP_BUS.ESC -/
def MOT_SP_BUS_ESC : Fld := ⟨0x500034, 0x1000, 0x0, 8, 8, [236]⟩
/-- MOT_SP_BUS.TRIP -/
def MOT_SP_BUS_TRIP : Fld := ⟨0x500034, 0x1000, 0x0, 16, 8, [248]⟩
/-- MOT_SP_BUS.UV -/
def MOT_SP_BUS_UV : Fld := ⟨0x500034, 0x1000, 0x0, 24, 8, [160]⟩
/-- MOT_SP_BRAKE.BRK_I_MIN -/
def MOT_SP_BRAKE_BRK_I_MIN : Fld := ⟨0x500038, 0x1000, 0x0, 0, 16, [500]⟩
/-- MOT_SP_STATUS.STATE -/
def MOT_SP_STATUS_STATE : Fld := ⟨0x500040, 0x1000, 0x0, 0, 3, [0]⟩
/-- MOT_SP_STATUS.DIR -/
def MOT_SP_STATUS_DIR : Fld := ⟨0x500040, 0x1000, 0x0, 3, 1, [0]⟩
/-- MOT_SP_STATUS.GRANT -/
def MOT_SP_STATUS_GRANT : Fld := ⟨0x500040, 0x1000, 0x0, 4, 1, [0]⟩
/-- MOT_SP_STATUS.REQ -/
def MOT_SP_STATUS_REQ : Fld := ⟨0x500040, 0x1000, 0x0, 5, 1, [0]⟩
/-- MOT_SP_STATUS.AT_SPEED -/
def MOT_SP_STATUS_AT_SPEED : Fld := ⟨0x500040, 0x1000, 0x0, 6, 1, [0]⟩
/-- MOT_SP_STATUS.SRC -/
def MOT_SP_STATUS_SRC : Fld := ⟨0x500040, 0x1000, 0x0, 7, 2, [0]⟩
/-- MOT_SP_STATUS.CHOP -/
def MOT_SP_STATUS_CHOP : Fld := ⟨0x500040, 0x1000, 0x0, 9, 1, [0]⟩
/-- MOT_SP_STATUS.DECEL_CUT -/
def MOT_SP_STATUS_DECEL_CUT : Fld := ⟨0x500040, 0x1000, 0x0, 10, 1, [0]⟩
/-- MOT_SP_RPM.SPEED -/
def MOT_SP_RPM_SPEED : Fld := ⟨0x500044, 0x1000, 0x0, 0, 16, [0]⟩
/-- MOT_SP_RPM.TARGET -/
def MOT_SP_RPM_TARGET : Fld := ⟨0x500044, 0x1000, 0x0, 16, 16, [0]⟩
/-- MOT_SP_VBUS.VBUS -/
def MOT_SP_VBUS_VBUS : Fld := ⟨0x500048, 0x1000, 0x0, 0, 16, [0]⟩
/-- MOT_SP_VBUS.IQ -/
def MOT_SP_VBUS_IQ : Fld := ⟨0x500048, 0x1000, 0x0, 16, 16, [0]⟩
/-- MOT_SP_KEM.KE_MEAS -/
def MOT_SP_KEM_KE_MEAS : Fld := ⟨0x50004C, 0x1000, 0x0, 0, 16, [0]⟩
/-- MOT_SP_ERR.DESAT -/
def MOT_SP_ERR_DESAT : Fld := ⟨0x500050, 0x1000, 0x0, 0, 1, [0]⟩
/-- MOT_SP_ERR.OVERCURRENT -/
def MOT_SP_ERR_OVERCURRENT : Fld := ⟨0x500050, 0x1000, 0x0, 1, 1, [0]⟩
/-- MOT_SP_ERR.OVERVOLT -/
def MOT_SP_ERR_OVERVOLT : Fld := ⟨0x500050, 0x1000, 0x0, 2, 1, [0]⟩
/-- MOT_SP_ERR.UNDERVOLT -/
def MOT_SP_ERR_UNDERVOLT : Fld := ⟨0x500050, 0x1000, 0x0, 3, 1, [0]⟩
/-- MOT_SP_ERR.KE -/
def MOT_SP_ERR_KE : Fld := ⟨0x500050, 0x1000, 0x0, 4, 1, [0]⟩
/-- MOT_SP_ERR.START_FAIL -/
def MOT_SP_ERR_START_FAIL : Fld := ⟨0x500050, 0x1000, 0x0, 5, 1, [0]⟩
/-- MOT_SP_ERR.FOC_MISS -/
def MOT_SP_ERR_FOC_MISS : Fld := ⟨0x500050, 0x1000, 0x0, 6, 1, [0]⟩
/-- MOT_SP_ERR.OWN_LOST -/
def MOT_SP_ERR_OWN_LOST : Fld := ⟨0x500050, 0x1000, 0x0, 7, 1, [0]⟩
/-- MOT_SP_ERR.MOD_STUCK -/
def MOT_SP_ERR_MOD_STUCK : Fld := ⟨0x500050, 0x1000, 0x0, 8, 1, [0]⟩
/-- MOT_SP_ERR.CHOP_FAULT -/
def MOT_SP_ERR_CHOP_FAULT : Fld := ⟨0x500050, 0x1000, 0x0, 9, 1, [0]⟩
/-- MOT_SP_ERR.SPEED_ERR -/
def MOT_SP_ERR_SPEED_ERR : Fld := ⟨0x500050, 0x1000, 0x0, 10, 1, [0]⟩
/-- MOT_SP_ERR.SAT -/
def MOT_SP_ERR_SAT : Fld := ⟨0x500050, 0x1000, 0x0, 11, 1, [0]⟩
/-- MOT_SP_CNT.FOC_MISS -/
def MOT_SP_CNT_FOC_MISS : Fld := ⟨0x500054, 0x1000, 0x0, 0, 16, [0]⟩
/-- MOT_SP_CNT.CATCH -/
def MOT_SP_CNT_CATCH : Fld := ⟨0x500054, 0x1000, 0x0, 16, 16, [0]⟩
/-- MOT_AX_CFG.STEP -/
def MOT_AX_CFG_STEP : Fld := ⟨0x508000, 0x800, 0x400, 0, 16, [2344, 2000]⟩
/-- MOT_AX_CFG.KOF -/
def MOT_AX_CFG_KOF : Fld := ⟨0x508000, 0x800, 0x400, 16, 4, [3]⟩
/-- MOT_AX_CFG.CUR_MISS_MAX -/
def MOT_AX_CFG_CUR_MISS_MAX : Fld := ⟨0x508000, 0x800, 0x400, 20, 4, [4]⟩
/-- MOT_AX_CFG.D_CH -/
def MOT_AX_CFG_D_CH : Fld := ⟨0x508000, 0x800, 0x400, 24, 3, [4]⟩
/-- MOT_AX_VA.V_MAX -/
def MOT_AX_VA_V_MAX : Fld := ⟨0x508004, 0x800, 0x400, 0, 16, [5333, 62]⟩
/-- MOT_AX_VA.A_MAX -/
def MOT_AX_VA_A_MAX : Fld := ⟨0x508004, 0x800, 0x400, 16, 16, [3333, 80]⟩
/-- MOT_AX_LIM.MIN_POS -/
def MOT_AX_LIM_MIN_POS : Fld := ⟨0x508008, 0x800, 0x400, 0, 16, [0, 63786]⟩
/-- MOT_AX_LIM.MAX_POS -/
def MOT_AX_LIM_MAX_POS : Fld := ⟨0x508008, 0x800, 0x400, 16, 16, [14592, 1750]⟩
/-- MOT_AX_CUR.I_RUN -/
def MOT_AX_CUR_I_RUN : Fld := ⟨0x50800C, 0x800, 0x400, 0, 12, [1536]⟩
/-- MOT_AX_CUR.HOLD_PCT -/
def MOT_AX_CUR_HOLD_PCT : Fld := ⟨0x50800C, 0x800, 0x400, 12, 8, [64]⟩
/-- MOT_AX_CUR.HYST -/
def MOT_AX_CUR_HYST : Fld := ⟨0x50800C, 0x800, 0x400, 20, 12, [32]⟩
/-- MOT_AX_HOME.HOME_V -/
def MOT_AX_HOME_HOME_V : Fld := ⟨0x508010, 0x800, 0x400, 0, 16, [20000, 1000]⟩
/-- MOT_AX_HOME.HOME_PCT -/
def MOT_AX_HOME_HOME_PCT : Fld := ⟨0x508010, 0x800, 0x400, 16, 8, [128]⟩
/-- MOT_AX_HOME.STANDSTILL_T -/
def MOT_AX_HOME_STANDSTILL_T : Fld := ⟨0x508010, 0x800, 0x400, 24, 8, [200]⟩
/-- MOT_AX_HOME2.HOME_DIST -/
def MOT_AX_HOME2_HOME_DIST : Fld := ⟨0x508014, 0x800, 0x400, 0, 16, [15360, 3600]⟩
/-- MOT_AX_HOME2.HOME_POS -/
def MOT_AX_HOME2_HOME_POS : Fld := ⟨0x508014, 0x800, 0x400, 16, 16, [65472, 63722]⟩
/-- MOT_AX_OFF.OFF_DB -/
def MOT_AX_OFF_OFF_DB : Fld := ⟨0x508018, 0x800, 0x400, 0, 16, [1024]⟩
/-- MOT_AX_OFF.OFF_GAIN -/
def MOT_AX_OFF_OFF_GAIN : Fld := ⟨0x508018, 0x800, 0x400, 16, 16, [256]⟩
/-- MOT_AX_OFFV.OFF_V -/
def MOT_AX_OFFV_OFF_V : Fld := ⟨0x50801C, 0x800, 0x400, 0, 16, [2000, 200]⟩
/-- MOT_AX_OFFV.POS_TOL -/
def MOT_AX_OFFV_POS_TOL : Fld := ⟨0x50801C, 0x800, 0x400, 16, 16, [16]⟩
/-- MOT_AX_STATUS.STATE -/
def MOT_AX_STATUS_STATE : Fld := ⟨0x508040, 0x800, 0x400, 0, 3, [0]⟩
/-- MOT_AX_STATUS.HOMED -/
def MOT_AX_STATUS_HOMED : Fld := ⟨0x508040, 0x800, 0x400, 3, 1, [0]⟩
/-- MOT_AX_STATUS.DIR -/
def MOT_AX_STATUS_DIR : Fld := ⟨0x508040, 0x800, 0x400, 4, 1, [0]⟩
/-- MOT_AX_STATUS.REDUCED -/
def MOT_AX_STATUS_REDUCED : Fld := ⟨0x508040, 0x800, 0x400, 5, 1, [0]⟩
/-- MOT_AX_STATUS.COORD -/
def MOT_AX_STATUS_COORD : Fld := ⟨0x508040, 0x800, 0x400, 6, 1, [0]⟩
/-- MOT_AX_POS.POS -/
def MOT_AX_POS_POS : Fld := ⟨0x508044, 0x800, 0x400, 0, 32, [0]⟩
/-- MOT_AX_TGT.TARGET -/
def MOT_AX_TGT_TARGET : Fld := ⟨0x508048, 0x800, 0x400, 0, 32, [0]⟩
/-- MOT_AX_VEL.VEL -/
def MOT_AX_VEL_VEL : Fld := ⟨0x50804C, 0x800, 0x400, 0, 32, [0]⟩
/-- MOT_AX_SLOPE1.S_UP -/
def MOT_AX_SLOPE1_S_UP : Fld := ⟨0x508050, 0x800, 0x400, 0, 16, [16]⟩
/-- MOT_AX_SLOPE1.S_SD -/
def MOT_AX_SLOPE1_S_SD : Fld := ⟨0x508050, 0x800, 0x400, 16, 16, [4]⟩
/-- MOT_AX_SLOPE2.S_UP -/
def MOT_AX_SLOPE2_S_UP : Fld := ⟨0x508054, 0x800, 0x400, 0, 16, [16]⟩
/-- MOT_AX_SLOPE2.S_SD -/
def MOT_AX_SLOPE2_S_SD : Fld := ⟨0x508054, 0x800, 0x400, 16, 16, [4]⟩
/-- MOT_AX_SLOPE_F.S_FD1 -/
def MOT_AX_SLOPE_F_S_FD1 : Fld := ⟨0x508058, 0x800, 0x400, 0, 16, [16]⟩
/-- MOT_AX_SLOPE_F.S_FD2 -/
def MOT_AX_SLOPE_F_S_FD2 : Fld := ⟨0x508058, 0x800, 0x400, 16, 16, [16]⟩
/-- MOT_AX_ERR.CHOP_MISS -/
def MOT_AX_ERR_CHOP_MISS : Fld := ⟨0x508060, 0x800, 0x400, 0, 1, [0]⟩
/-- MOT_AX_ERR.CUR_MISSING -/
def MOT_AX_ERR_CUR_MISSING : Fld := ⟨0x508060, 0x800, 0x400, 1, 1, [0]⟩
/-- MOT_AX_ERR.LIMIT -/
def MOT_AX_ERR_LIMIT : Fld := ⟨0x508060, 0x800, 0x400, 2, 1, [0]⟩
/-- MOT_AX_ERR.NOT_HOMED -/
def MOT_AX_ERR_NOT_HOMED : Fld := ⟨0x508060, 0x800, 0x400, 3, 1, [0]⟩
/-- MOT_AX_ERR.POS_MISMATCH -/
def MOT_AX_ERR_POS_MISMATCH : Fld := ⟨0x508060, 0x800, 0x400, 4, 1, [0]⟩
/-- MOT_AX_CNT.CHOP_MISS -/
def MOT_AX_CNT_CHOP_MISS : Fld := ⟨0x508064, 0x800, 0x400, 0, 16, [0]⟩
/-- MOT_AX_CNT.CUR_MISS -/
def MOT_AX_CNT_CUR_MISS : Fld := ⟨0x508064, 0x800, 0x400, 16, 16, [0]⟩
/-- CAL_CFG.DRIFT_EN -/
def CAL_CFG_DRIFT_EN : Fld := ⟨0x600000, 0x0, 0x0, 0, 1, [1]⟩
/-- CAL_CFG.HARVEST_EN -/
def CAL_CFG_HARVEST_EN : Fld := ⟨0x600000, 0x0, 0x0, 1, 1, [1]⟩
/-- CAL_CFG.WS_EN -/
def CAL_CFG_WS_EN : Fld := ⟨0x600000, 0x0, 0x0, 2, 1, [1]⟩
/-- CAL_CFG.APPLY_REVS -/
def CAL_CFG_APPLY_REVS : Fld := ⟨0x600000, 0x0, 0x0, 4, 4, [4]⟩
/-- CAL_CFG.DRIFT -/
def CAL_CFG_DRIFT : Fld := ⟨0x600000, 0x0, 0x0, 8, 8, [64]⟩
/-- CAL_CFG.TSEP -/
def CAL_CFG_TSEP : Fld := ⟨0x600000, 0x0, 0x0, 16, 8, [80]⟩
/-- CAL_TOL.TOL_FOC -/
def CAL_TOL_TOL_FOC : Fld := ⟨0x600004, 0x0, 0x0, 0, 8, [4]⟩
/-- CAL_TOL.TOL_GAIN -/
def CAL_TOL_TOL_GAIN : Fld := ⟨0x600004, 0x0, 0x0, 8, 8, [8]⟩
/-- CAL_TOL.TOL_TAP -/
def CAL_TOL_TOL_TAP : Fld := ⟨0x600004, 0x0, 0x0, 16, 8, [64]⟩
/-- CAL_SUM_TGT.SUM -/
def CAL_SUM_TGT_SUM : Fld := ⟨0x600008, 0x0, 0x0, 0, 16, [512]⟩
/-- CAL_STATUS.BUSY -/
def CAL_STATUS_BUSY : Fld := ⟨0x60000C, 0x0, 0x0, 0, 16, [0]⟩
/-- CAL_STATUS.VALID -/
def CAL_STATUS_VALID : Fld := ⟨0x60000C, 0x0, 0x0, 16, 16, [0]⟩
/-- CAL_ERR.DISAGREE -/
def CAL_ERR_DISAGREE : Fld := ⟨0x600010, 0x0, 0x0, 0, 1, [0]⟩
/-- CAL_ERR.NO_BAND -/
def CAL_ERR_NO_BAND : Fld := ⟨0x600010, 0x0, 0x0, 1, 1, [0]⟩
/-- CAL_ERR.TEMP_RANGE -/
def CAL_ERR_TEMP_RANGE : Fld := ⟨0x600010, 0x0, 0x0, 2, 1, [0]⟩
/-- CAL_ERR.ABORTED -/
def CAL_ERR_ABORTED : Fld := ⟨0x600010, 0x0, 0x0, 3, 1, [0]⟩
/-- CAL_ERR.STORE_FAIL -/
def CAL_ERR_STORE_FAIL : Fld := ⟨0x600010, 0x0, 0x0, 4, 1, [0]⟩
/-- CAL_CNT.RUNS -/
def CAL_CNT_RUNS : Fld := ⟨0x600020, 0x0, 0x0, 0, 16, [0]⟩
/-- CAL_CNT.DISAGREE -/
def CAL_CNT_DISAGREE : Fld := ⟨0x600020, 0x0, 0x0, 16, 16, [0]⟩
/-- CAL_PK_TEMP.NOW -/
def CAL_PK_TEMP_NOW : Fld := ⟨0x600100, 0x4, 0x0, 0, 12, [0]⟩
/-- CAL_PK_TEMP.LAST -/
def CAL_PK_TEMP_LAST : Fld := ⟨0x600100, 0x4, 0x0, 12, 12, [0]⟩
/-- CAL_PK_TEMP.POINTS -/
def CAL_PK_TEMP_POINTS : Fld := ⟨0x600100, 0x4, 0x0, 24, 3, [0]⟩
/-- CAL_PK_TEMP.PENDING -/
def CAL_PK_TEMP_PENDING : Fld := ⟨0x600100, 0x4, 0x0, 27, 1, [0]⟩
/-- CAL_PK_WS.WS -/
def CAL_PK_WS_WS : Fld := ⟨0x600140, 0x4, 0x0, 0, 16, [0]⟩
/-- SAL_CFG.GC_LOW -/
def SAL_CFG_GC_LOW : Fld := ⟨0x700000, 0x0, 0x0, 0, 8, [4]⟩
/-- SAL_CFG.GC_HIGH -/
def SAL_CFG_GC_HIGH : Fld := ⟨0x700000, 0x0, 0x0, 8, 8, [8]⟩
/-- SAL_CFG.RD_THR -/
def SAL_CFG_RD_THR : Fld := ⟨0x700000, 0x0, 0x0, 16, 8, [60]⟩
/-- SAL_CFG.COMMIT_FILL -/
def SAL_CFG_COMMIT_FILL : Fld := ⟨0x700000, 0x0, 0x0, 24, 7, [75]⟩
/-- SAL_TIME.RESID_H -/
def SAL_TIME_RESID_H : Fld := ⟨0x700004, 0x0, 0x0, 0, 16, [72]⟩
/-- SAL_TIME.CKPT_INT -/
def SAL_TIME_CKPT_INT : Fld := ⟨0x700004, 0x0, 0x0, 16, 16, [1000]⟩
/-- SAL_STATUS.STATE -/
def SAL_STATUS_STATE : Fld := ⟨0x700008, 0x0, 0x0, 0, 3, [0]⟩
/-- SAL_STATUS.INDEX_READY -/
def SAL_STATUS_INDEX_READY : Fld := ⟨0x700008, 0x0, 0x0, 3, 1, [0]⟩
/-- SAL_STATUS.FULL -/
def SAL_STATUS_FULL : Fld := ⟨0x700008, 0x0, 0x0, 4, 1, [0]⟩
/-- SAL_STATUS.GC -/
def SAL_STATUS_GC : Fld := ⟨0x700008, 0x0, 0x0, 5, 1, [0]⟩
/-- SAL_STATUS.CE -/
def SAL_STATUS_CE : Fld := ⟨0x700008, 0x0, 0x0, 6, 3, [0]⟩
/-- SAL_STATUS.LUNS -/
def SAL_STATUS_LUNS : Fld := ⟨0x700008, 0x0, 0x0, 9, 2, [0]⟩
/-- SAL_GEOM.PAGES -/
def SAL_GEOM_PAGES : Fld := ⟨0x70000C, 0x0, 0x0, 0, 16, [0]⟩
/-- SAL_GEOM.SEGS -/
def SAL_GEOM_SEGS : Fld := ⟨0x70000C, 0x0, 0x0, 16, 9, [0]⟩
/-- SAL_SB.TOTAL -/
def SAL_SB_TOTAL : Fld := ⟨0x700010, 0x0, 0x0, 0, 16, [0]⟩
/-- SAL_SB.FREE -/
def SAL_SB_FREE : Fld := ⟨0x700010, 0x0, 0x0, 16, 16, [0]⟩
/-- SAL_STAGED.LBS -/
def SAL_STAGED_LBS : Fld := ⟨0x700014, 0x0, 0x0, 0, 32, [0]⟩
/-- SAL_ADMIT.LBS -/
def SAL_ADMIT_LBS : Fld := ⟨0x700018, 0x0, 0x0, 0, 32, [0]⟩
/-- SAL_IDX.SIZE_LOG2 -/
def SAL_IDX_SIZE_LOG2 : Fld := ⟨0x70001C, 0x0, 0x0, 0, 6, [0]⟩
/-- SAL_OLDEST.HOURS -/
def SAL_OLDEST_HOURS : Fld := ⟨0x700020, 0x0, 0x0, 0, 16, [0]⟩
/-- SAL_JRNL.SEQ -/
def SAL_JRNL_SEQ : Fld := ⟨0x700024, 0x0, 0x0, 0, 32, [0]⟩
/-- SAL_CKPT.SEQ -/
def SAL_CKPT_SEQ : Fld := ⟨0x700028, 0x0, 0x0, 0, 32, [0]⟩
/-- SAL_ERR.PROG_FAIL -/
def SAL_ERR_PROG_FAIL : Fld := ⟨0x70002C, 0x0, 0x0, 0, 1, [0]⟩
/-- SAL_ERR.ERASE_FAIL -/
def SAL_ERR_ERASE_FAIL : Fld := ⟨0x70002C, 0x0, 0x0, 1, 1, [0]⟩
/-- SAL_ERR.READ_THR -/
def SAL_ERR_READ_THR : Fld := ⟨0x70002C, 0x0, 0x0, 2, 1, [0]⟩
/-- SAL_ERR.READ_UNCORR -/
def SAL_ERR_READ_UNCORR : Fld := ⟨0x70002C, 0x0, 0x0, 3, 1, [0]⟩
/-- SAL_ERR.CKPT_OLD -/
def SAL_ERR_CKPT_OLD : Fld := ⟨0x70002C, 0x0, 0x0, 4, 1, [0]⟩
/-- SAL_ERR.JRNL_END -/
def SAL_ERR_JRNL_END : Fld := ⟨0x70002C, 0x0, 0x0, 5, 1, [0]⟩
/-- SAL_ERR.RESIDENCY -/
def SAL_ERR_RESIDENCY : Fld := ⟨0x70002C, 0x0, 0x0, 6, 1, [0]⟩
/-- SAL_ERR.GEOMETRY -/
def SAL_ERR_GEOMETRY : Fld := ⟨0x70002C, 0x0, 0x0, 7, 1, [0]⟩
/-- SAL_ERR.RETIRED -/
def SAL_ERR_RETIRED : Fld := ⟨0x70002C, 0x0, 0x0, 8, 1, [0]⟩
/-- SAL_ERR.KEY -/
def SAL_ERR_KEY : Fld := ⟨0x70002C, 0x0, 0x0, 9, 1, [0]⟩
/-- SAL_CNT_PROG.COUNT -/
def SAL_CNT_PROG_COUNT : Fld := ⟨0x700030, 0x0, 0x0, 0, 32, [0]⟩
/-- SAL_CNT_GC.COUNT -/
def SAL_CNT_GC_COUNT : Fld := ⟨0x700034, 0x0, 0x0, 0, 32, [0]⟩
/-- SAL_CNT_ERR.UNCORR -/
def SAL_CNT_ERR_UNCORR : Fld := ⟨0x700038, 0x0, 0x0, 0, 16, [0]⟩
/-- SAL_CNT_ERR.BAD -/
def SAL_CNT_ERR_BAD : Fld := ⟨0x700038, 0x0, 0x0, 16, 16, [0]⟩
/-- SAL_CNT_MISC.REL_WAIT -/
def SAL_CNT_MISC_REL_WAIT : Fld := ⟨0x70003C, 0x0, 0x0, 0, 16, [0]⟩
/-- SAL_CNT_MISC.CUT -/
def SAL_CNT_MISC_CUT : Fld := ⟨0x70003C, 0x0, 0x0, 16, 16, [0]⟩
/-- SET_CFG.RESERVE -/
def SET_CFG_RESERVE : Fld := ⟨0x780000, 0x0, 0x0, 0, 10, [64]⟩
/-- SET_CFG.FAIL_UNREAD -/
def SET_CFG_FAIL_UNREAD : Fld := ⟨0x780000, 0x0, 0x0, 10, 8, [16]⟩
/-- SET_CFG.SPARE_AUTO -/
def SET_CFG_SPARE_AUTO : Fld := ⟨0x780000, 0x0, 0x0, 18, 1, [1]⟩
/-- SET_CFG.REBUILD_EN -/
def SET_CFG_REBUILD_EN : Fld := ⟨0x780000, 0x0, 0x0, 19, 1, [1]⟩
/-- SET_CFG.REBUILD_AHEAD -/
def SET_CFG_REBUILD_AHEAD : Fld := ⟨0x780000, 0x0, 0x0, 20, 4, [4]⟩
/-- SET_STATUS.SETS -/
def SET_STATUS_SETS : Fld := ⟨0x780004, 0x0, 0x0, 0, 9, [0]⟩
/-- SET_STATUS.REBUILDS -/
def SET_STATUS_REBUILDS : Fld := ⟨0x780004, 0x0, 0x0, 9, 3, [0]⟩
/-- SET_STATUS.RESHAPE -/
def SET_STATUS_RESHAPE : Fld := ⟨0x780004, 0x0, 0x0, 12, 1, [0]⟩
/-- SET_LOST.ENTRIES -/
def SET_LOST_ENTRIES : Fld := ⟨0x780008, 0x0, 0x0, 0, 15, [0]⟩
/-- SET_ERR.SEAL_INGEST -/
def SET_ERR_SEAL_INGEST : Fld := ⟨0x78000C, 0x0, 0x0, 0, 1, [0]⟩
/-- SET_ERR.SEAL_SALTERN -/
def SET_ERR_SEAL_SALTERN : Fld := ⟨0x78000C, 0x0, 0x0, 1, 1, [0]⟩
/-- SET_ERR.SEAL_BURN -/
def SET_ERR_SEAL_BURN : Fld := ⟨0x78000C, 0x0, 0x0, 2, 1, [0]⟩
/-- SET_ERR.SEAL_DISC -/
def SET_ERR_SEAL_DISC : Fld := ⟨0x78000C, 0x0, 0x0, 3, 1, [0]⟩
/-- SET_ERR.SEAL_DELIVERY -/
def SET_ERR_SEAL_DELIVERY : Fld := ⟨0x78000C, 0x0, 0x0, 4, 1, [0]⟩
/-- SET_ERR.MEMBER_FAILED -/
def SET_ERR_MEMBER_FAILED : Fld := ⟨0x78000C, 0x0, 0x0, 5, 1, [0]⟩
/-- SET_ERR.SPARE_NONE -/
def SET_ERR_SPARE_NONE : Fld := ⟨0x78000C, 0x0, 0x0, 6, 1, [0]⟩
/-- SET_ERR.STRIPE_LOST -/
def SET_ERR_STRIPE_LOST : Fld := ⟨0x78000C, 0x0, 0x0, 7, 1, [0]⟩
/-- SET_ERR.RESERVE_OUT -/
def SET_ERR_RESERVE_OUT : Fld := ⟨0x78000C, 0x0, 0x0, 8, 1, [0]⟩
/-- SET_ERR.JOURNAL_SOURCE -/
def SET_ERR_JOURNAL_SOURCE : Fld := ⟨0x78000C, 0x0, 0x0, 9, 1, [0]⟩
/-- SET_CNT_STRIPES.COUNT -/
def SET_CNT_STRIPES_COUNT : Fld := ⟨0x780020, 0x0, 0x0, 0, 32, [0]⟩
/-- SET_CNT_RECOV.COUNT -/
def SET_CNT_RECOV_COUNT : Fld := ⟨0x780024, 0x0, 0x0, 0, 32, [0]⟩
/-- SET_CNT_SEAL.COUNT -/
def SET_CNT_SEAL_COUNT : Fld := ⟨0x780028, 0x0, 0x0, 0, 32, [0]⟩
/-- SET_CNT_LOST.COUNT -/
def SET_CNT_LOST_COUNT : Fld := ⟨0x78002C, 0x0, 0x0, 0, 32, [0]⟩
/-- SET_CNT_REMAP.COUNT -/
def SET_CNT_REMAP_COUNT : Fld := ⟨0x780030, 0x0, 0x0, 0, 32, [0]⟩

end Reg

/-- Part 0 of the register table, in offset order. -/
def regPart0 : List RegDef := [
  ⟨"GLB_ID", 0x0, 0x0, 1, 0x0, 1, [⟨0, 16, .ro, [33120], false⟩, ⟨16, 4, .ro, [0], false⟩, ⟨20, 8, .ro, [161], false⟩]⟩,
  ⟨"GLB_SETUP_LOCK", 0x4, 0x0, 1, 0x0, 1, [⟨0, 1, .w1s, [0], false⟩]⟩,
  ⟨"GLB_SERIAL_LO", 0x8, 0x0, 1, 0x0, 1, [⟨0, 32, .ro, [0], false⟩]⟩,
  ⟨"GLB_SERIAL_HI", 0xC, 0x0, 1, 0x0, 1, [⟨0, 32, .ro, [0], false⟩]⟩,
  ⟨"GLB_FW_VER", 0x10, 0x0, 1, 0x0, 1, [⟨0, 32, .ro, [0], false⟩]⟩,
  ⟨"GLB_NODE", 0x14, 0x0, 1, 0x0, 1, [⟨0, 14, .ro, [0], false⟩, ⟨14, 1, .ro, [0], false⟩]⟩,
  ⟨"CLK_STATUS", 0x10000, 0x0, 1, 0x0, 1, [⟨0, 1, .ro, [0], false⟩, ⟨1, 1, .ro, [0], false⟩, ⟨2, 1, .ro, [0], false⟩, ⟨3, 1, .ro, [0], false⟩, ⟨4, 1, .ro, [1], false⟩, ⟨5, 1, .ro, [0], false⟩]⟩,
  ⟨"CLK_ERR", 0x10004, 0x0, 1, 0x0, 1, [⟨0, 1, .w1c, [0], false⟩, ⟨1, 1, .w1c, [0], false⟩, ⟨2, 1, .w1c, [0], false⟩, ⟨3, 1, .w1c, [0], false⟩, ⟨4, 1, .w1c, [0], false⟩, ⟨5, 1, .w1c, [0], false⟩, ⟨6, 1, .w1c, [0], false⟩, ⟨7, 1, .w1c, [0], false⟩, ⟨8, 1, .w1c, [0], false⟩, ⟨9, 1, .w1c, [0], false⟩]⟩,
  ⟨"CLK_GATE", 0x10008, 0x0, 1, 0x0, 1, [⟨0, 14, .rw, [16383], false⟩]⟩,
  ⟨"CLK_GATE_ST", 0x1000C, 0x0, 1, 0x0, 1, [⟨0, 14, .ro, [16383], false⟩, ⟨16, 14, .ro, [0], false⟩]⟩,
  ⟨"CLK_AUTO", 0x10010, 0x0, 1, 0x0, 1, [⟨0, 14, .rw, [0], false⟩, ⟨16, 8, .rw, [16], false⟩]⟩,
  ⟨"CLK_OUT", 0x10014, 0x0, 1, 0x0, 1, [⟨0, 1, .rw, [0], false⟩, ⟨1, 3, .rw, [0], false⟩, ⟨4, 8, .rw, [0], false⟩]⟩,
  ⟨"CLK_RST", 0x10018, 0x0, 1, 0x0, 1, [⟨0, 8, .rw, [0], false⟩, ⟨8, 1, .w1s, [0], false⟩]⟩,
  ⟨"CLK_STRAP", 0x1001C, 0x0, 1, 0x0, 1, [⟨0, 1, .ro, [0], false⟩, ⟨1, 4, .ro, [0], false⟩]⟩,
  ⟨"CLK_MON", 0x10020, 0x0, 1, 0x0, 1, [⟨0, 4, .rwl, [3], false⟩, ⟨4, 1, .rwl, [0], false⟩]⟩,
  ⟨"CLK_MON_CNT", 0x10024, 0x0, 1, 0x0, 1, [⟨0, 16, .ro, [0], false⟩, ⟨16, 16, .ro, [0], false⟩]⟩,
  ⟨"TG_SNAP_LO", 0x20000, 0x0, 1, 0x0, 1, [⟨0, 32, .ro, [0], false⟩]⟩,
  ⟨"TG_SNAP_HI", 0x20004, 0x0, 1, 0x0, 1, [⟨0, 32, .ro, [0], false⟩]⟩,
  ⟨"TG_CTL", 0x20008, 0x0, 1, 0x0, 1, [⟨0, 1, .w1s, [0], false⟩, ⟨1, 1, .w1s, [0], false⟩, ⟨2, 1, .rw, [0], false⟩, ⟨3, 1, .rw, [0], false⟩]⟩,
  ⟨"TG_NEXT_SEC", 0x2000C, 0x0, 1, 0x0, 1, [⟨0, 32, .rw, [0], false⟩]⟩,
  ⟨"TG_STATUS", 0x20010, 0x0, 1, 0x0, 1, [⟨0, 1, .ro, [0], false⟩, ⟨1, 1, .ro, [0], false⟩, ⟨2, 1, .ro, [0], false⟩, ⟨3, 1, .ro, [0], false⟩, ⟨4, 1, .ro, [0], false⟩]⟩,
  ⟨"TG_EVENT", 0x20014, 0x0, 1, 0x0, 1, [⟨0, 1, .w1c, [0], false⟩, ⟨1, 1, .w1c, [0], false⟩, ⟨2, 1, .w1c, [0], false⟩, ⟨3, 1, .w1c, [0], false⟩, ⟨4, 1, .w1c, [0], false⟩, ⟨5, 1, .w1c, [0], false⟩, ⟨6, 4, .w1c, [0], false⟩]⟩,
  ⟨"TG_PPS_ERR", 0x20018, 0x0, 1, 0x0, 1, [⟨0, 32, .ro, [0], false⟩]⟩,
  ⟨"TG_RATE", 0x2001C, 0x0, 1, 0x0, 1, [⟨0, 32, .ro, [0], false⟩]⟩]

/-- Part 1 of the register table, in offset order. -/
def regPart1 : List RegDef := [
  ⟨"TG_TAMPER_LO", 0x20020, 0x0, 1, 0x0, 1, [⟨0, 32, .ro, [0], false⟩]⟩,
  ⟨"TG_TAMPER_HI", 0x20024, 0x0, 1, 0x0, 1, [⟨0, 32, .ro, [0], false⟩]⟩,
  ⟨"TG_LOAD_LO", 0x20028, 0x0, 1, 0x0, 1, [⟨0, 32, .rw, [0], false⟩]⟩,
  ⟨"TG_LOAD_HI", 0x2002C, 0x0, 1, 0x0, 1, [⟨0, 32, .rw, [0], false⟩]⟩,
  ⟨"TG_RST_CAUSE", 0x20030, 0x0, 1, 0x0, 1, [⟨0, 3, .ro, [0], false⟩]⟩,
  ⟨"TG_BOOT", 0x20034, 0x0, 1, 0x0, 1, [⟨0, 2, .rw, [0], false⟩]⟩,
  ⟨"TG_CMP_LO", 0x20040, 0x8, 4, 0x0, 1, [⟨0, 32, .rw, [0], false⟩]⟩,
  ⟨"TG_CMP_HI", 0x20044, 0x8, 4, 0x0, 1, [⟨0, 32, .rw, [0], false⟩]⟩,
  ⟨"TG_CMP_CTL", 0x20060, 0x0, 1, 0x0, 1, [⟨0, 4, .rw, [0], false⟩, ⟨4, 8, .rw, [0], false⟩]⟩,
  ⟨"MEM_STATUS", 0x30000, 0x0, 1, 0x0, 1, [⟨0, 1, .ro, [0], false⟩, ⟨1, 1, .ro, [0], false⟩, ⟨2, 2, .ro, [0], false⟩, ⟨4, 1, .ro, [0], false⟩, ⟨5, 1, .ro, [0], false⟩, ⟨6, 1, .ro, [0], false⟩]⟩,
  ⟨"MEM_ERR", 0x30004, 0x0, 1, 0x0, 1, [⟨0, 1, .w1c, [0], false⟩, ⟨1, 1, .w1c, [0], false⟩, ⟨2, 1, .w1c, [0], false⟩, ⟨3, 1, .w1c, [0], false⟩, ⟨4, 1, .w1c, [0], false⟩, ⟨5, 1, .w1c, [0], false⟩, ⟨6, 1, .w1c, [0], false⟩, ⟨7, 1, .w1c, [0], false⟩, ⟨8, 1, .w1c, [0], false⟩, ⟨9, 1, .w1c, [0], false⟩, ⟨10, 1, .w1c, [0], false⟩]⟩,
  ⟨"MEM_CFG", 0x30008, 0x0, 1, 0x0, 1, [⟨0, 1, .rwl, [1], false⟩, ⟨8, 8, .rwl, [10], false⟩, ⟨16, 4, .rwl, [2], false⟩]⟩,
  ⟨"MEM_UE_LOC", 0x3000C, 0x0, 1, 0x0, 1, [⟨0, 4, .ro, [0], false⟩, ⟨4, 28, .ro, [0], false⟩]⟩,
  ⟨"MEM_CE_LOC", 0x30010, 0x0, 1, 0x0, 1, [⟨0, 4, .ro, [0], false⟩, ⟨4, 28, .ro, [0], false⟩]⟩,
  ⟨"MEM_CNT_CE", 0x30014, 0x0, 1, 0x0, 1, [⟨0, 32, .ro, [0], true⟩]⟩,
  ⟨"MEM_CNT_UE", 0x30018, 0x0, 1, 0x0, 1, [⟨0, 16, .ro, [0], true⟩, ⟨16, 16, .ro, [0], true⟩]⟩,
  ⟨"MEM_CNT_VOTE", 0x3001C, 0x0, 1, 0x0, 1, [⟨0, 16, .ro, [0], true⟩, ⟨16, 16, .ro, [0], true⟩]⟩,
  ⟨"MEM_SPARE_MAX", 0x30020, 0x0, 1, 0x0, 1, [⟨0, 5, .ro, [0], false⟩, ⟨8, 10, .ro, [0], false⟩, ⟨18, 4, .ro, [0], false⟩]⟩,
  ⟨"MEM_RETIRED", 0x30024, 0x0, 1, 0x0, 1, [⟨0, 7, .ro, [0], false⟩]⟩,
  ⟨"MEM_DMA_WAIT", 0x30028, 0x0, 1, 0x0, 1, [⟨0, 8, .ro, [0], false⟩]⟩,
  ⟨"BRC_STATUS", 0x40000, 0x0, 1, 0x0, 1, [⟨0, 2, .ro, [0], false⟩, ⟨2, 1, .ro, [1], false⟩]⟩,
  ⟨"BRC_WAY", 0x40004, 0x0, 1, 0x0, 1, [⟨0, 16, .ro, [65535], false⟩, ⟨16, 16, .ro, [0], false⟩]⟩,
  ⟨"BRC_WAY_ST", 0x40008, 0x0, 1, 0x0, 1, [⟨0, 16, .ro, [0], false⟩, ⟨16, 16, .ro, [0], false⟩]⟩,
  ⟨"BRC_CFG", 0x4000C, 0x0, 1, 0x0, 1, [⟨0, 8, .rwl, [16], false⟩, ⟨8, 8, .rwl, [60], false⟩, ⟨16, 1, .rwl, [1], false⟩]⟩]

/-- Part 2 of the register table, in offset order. -/
def regPart2 : List RegDef := [
  ⟨"BRC_DIRTY", 0x40010, 0x0, 1, 0x0, 1, [⟨0, 19, .ro, [0], false⟩]⟩,
  ⟨"BRC_DRAIN_POS", 0x40014, 0x0, 1, 0x0, 1, [⟨0, 14, .ro, [0], false⟩, ⟨14, 4, .ro, [0], false⟩]⟩,
  ⟨"BRC_ERR", 0x40018, 0x0, 1, 0x0, 1, [⟨0, 1, .w1c, [0], false⟩, ⟨1, 1, .w1c, [0], false⟩, ⟨2, 1, .w1c, [0], false⟩, ⟨3, 1, .w1c, [0], false⟩, ⟨4, 1, .w1c, [0], false⟩, ⟨5, 1, .w1c, [0], false⟩, ⟨6, 1, .w1c, [0], false⟩, ⟨7, 1, .w1c, [0], false⟩]⟩,
  ⟨"BRC_LINE_ADDR", 0x4001C, 0x0, 1, 0x0, 1, [⟨0, 29, .ro, [0], false⟩]⟩,
  ⟨"BRC_CNT_HIT", 0x40020, 0x0, 1, 0x0, 1, [⟨0, 32, .ro, [0], true⟩]⟩,
  ⟨"BRC_CNT_MISS", 0x40024, 0x0, 1, 0x0, 1, [⟨0, 32, .ro, [0], true⟩]⟩,
  ⟨"BRC_CNT_WB", 0x40028, 0x0, 1, 0x0, 1, [⟨0, 32, .ro, [0], true⟩]⟩,
  ⟨"BRC_CNT_CE", 0x4002C, 0x0, 1, 0x0, 1, [⟨0, 16, .ro, [0], true⟩, ⟨16, 16, .ro, [0], true⟩]⟩,
  ⟨"HIF_STATUS", 0x50000, 0x0, 1, 0x0, 1, [⟨0, 1, .ro, [0], false⟩, ⟨1, 2, .ro, [0], false⟩, ⟨3, 1, .ro, [0], false⟩, ⟨4, 1, .ro, [0], false⟩, ⟨5, 1, .ro, [0], false⟩, ⟨6, 1, .ro, [0], false⟩]⟩,
  ⟨"HIF_CFG", 0x50004, 0x0, 1, 0x0, 1, [⟨0, 1, .rwl, [1], false⟩, ⟨1, 1, .rwl, [1], false⟩, ⟨4, 8, .rwl, [10], false⟩, ⟨12, 4, .rwl, [2], false⟩]⟩,
  ⟨"HIF_ERR", 0x50008, 0x0, 1, 0x0, 1, [⟨0, 1, .w1c, [0], false⟩, ⟨1, 1, .w1c, [0], false⟩, ⟨2, 1, .w1c, [0], false⟩, ⟨3, 1, .w1c, [0], false⟩, ⟨4, 1, .w1c, [0], false⟩, ⟨5, 1, .w1c, [0], false⟩, ⟨6, 1, .w1c, [0], false⟩]⟩,
  ⟨"HIF_BOOT", 0x5000C, 0x0, 1, 0x0, 1, [⟨0, 4, .ro, [0], false⟩, ⟨4, 1, .ro, [0], false⟩, ⟨5, 1, .ro, [0], false⟩, ⟨6, 1, .ro, [0], false⟩, ⟨7, 2, .ro, [0], false⟩]⟩,
  ⟨"HIF_FW_ADDR_LO", 0x50010, 0x0, 1, 0x0, 1, [⟨0, 32, .rw, [0], false⟩]⟩,
  ⟨"HIF_FW_ADDR_HI", 0x50014, 0x0, 1, 0x0, 1, [⟨0, 20, .rw, [0], false⟩]⟩,
  ⟨"HIF_FW_LEN", 0x50018, 0x0, 1, 0x0, 1, [⟨0, 25, .rw, [0], false⟩]⟩,
  ⟨"HIF_FW_CTL", 0x5001C, 0x0, 1, 0x0, 1, [⟨0, 1, .w1s, [0], false⟩, ⟨1, 2, .ro, [0], false⟩]⟩,
  ⟨"HIF_CNT_REPLAY", 0x50020, 0x0, 1, 0x0, 1, [⟨0, 32, .ro, [0], true⟩]⟩,
  ⟨"HIF_CNT_CPL_ERR", 0x50024, 0x0, 1, 0x0, 1, [⟨0, 32, .ro, [0], true⟩]⟩,
  ⟨"HIF_CNT_HOLD", 0x50028, 0x0, 1, 0x0, 1, [⟨0, 32, .ro, [0], true⟩]⟩,
  ⟨"MMU_AS0_ROOT_LO", 0x60000, 0x0, 1, 0x0, 1, [⟨0, 1, .rwl, [0], false⟩, ⟨12, 20, .rwl, [0], false⟩]⟩,
  ⟨"MMU_AS0_ROOT_HI", 0x60004, 0x0, 1, 0x0, 1, [⟨0, 20, .rwl, [0], false⟩]⟩,
  ⟨"MMU_STATUS", 0x60008, 0x0, 1, 0x0, 1, [⟨0, 9, .ro, [0], false⟩, ⟨9, 9, .ro, [0], false⟩]⟩,
  ⟨"MMU_ERR", 0x6000C, 0x0, 1, 0x0, 1, [⟨0, 6, .w1c, [0], false⟩, ⟨6, 1, .w1c, [0], false⟩, ⟨7, 1, .w1c, [0], false⟩]⟩,
  ⟨"MMU_SELF_FAULT", 0x60010, 0x0, 1, 0x0, 1, [⟨0, 16, .ro, [0], false⟩, ⟨16, 3, .ro, [0], false⟩, ⟨19, 1, .ro, [0], false⟩, ⟨20, 1, .ro, [0], false⟩]⟩]

/-- Part 3 of the register table, in offset order. -/
def regPart3 : List RegDef := [
  ⟨"MMU_SELF_VA_LO", 0x60014, 0x0, 1, 0x0, 1, [⟨0, 32, .ro, [0], false⟩]⟩,
  ⟨"MMU_SELF_VA_HI", 0x60018, 0x0, 1, 0x0, 1, [⟨0, 16, .ro, [0], false⟩]⟩,
  ⟨"MMU_CNT_HIT", 0x60020, 0x0, 1, 0x0, 1, [⟨0, 32, .ro, [0], true⟩]⟩,
  ⟨"MMU_CNT_MISS", 0x60024, 0x0, 1, 0x0, 1, [⟨0, 32, .ro, [0], true⟩]⟩,
  ⟨"MMU_CNT_FAULT", 0x60028, 0x0, 1, 0x0, 1, [⟨0, 32, .ro, [0], true⟩]⟩,
  ⟨"MMU_CNT_INV", 0x6002C, 0x0, 1, 0x0, 1, [⟨0, 32, .ro, [0], true⟩]⟩,
  ⟨"MMU_AS_ROOT_LO", 0x60808, 0x8, 255, 0x0, 1, [⟨0, 1, .ro, [0], false⟩, ⟨1, 11, .ro, [0], false⟩, ⟨12, 20, .ro, [0], false⟩]⟩,
  ⟨"MMU_AS_ROOT_HI", 0x6080C, 0x8, 255, 0x0, 1, [⟨0, 20, .ro, [0], false⟩]⟩,
  ⟨"QUE_CTL", 0x70000, 0x0, 1, 0x0, 1, [⟨0, 1, .rw, [0], false⟩]⟩,
  ⟨"QUE_STATUS", 0x70004, 0x0, 1, 0x0, 1, [⟨0, 1, .ro, [0], false⟩, ⟨1, 1, .ro, [0], false⟩, ⟨2, 1, .ro, [0], false⟩, ⟨3, 12, .ro, [0], false⟩]⟩,
  ⟨"QUE_DB_BASE_LO", 0x70008, 0x0, 1, 0x0, 1, [⟨0, 32, .rwl, [0], false⟩]⟩,
  ⟨"QUE_DB_BASE_HI", 0x7000C, 0x0, 1, 0x0, 1, [⟨0, 16, .rwl, [0], false⟩]⟩,
  ⟨"QUE_RING_LO", 0x70010, 0x8, 4, 0x0, 1, [⟨0, 32, .rwl, [0], false⟩]⟩,
  ⟨"QUE_RING_HI", 0x70014, 0x8, 4, 0x0, 1, [⟨0, 16, .rwl, [0], false⟩, ⟨16, 16, .rwl, [0], false⟩]⟩,
  ⟨"QUE_VEC", 0x70030, 0x0, 1, 0x0, 1, [⟨0, 10, .rwl, [0], false⟩, ⟨10, 10, .rwl, [0], false⟩, ⟨20, 10, .rwl, [0], false⟩]⟩,
  ⟨"QUE_POLL", 0x70034, 0x0, 1, 0x0, 1, [⟨0, 10, .rw, [10], false⟩]⟩,
  ⟨"QUE_ERR", 0x70038, 0x0, 1, 0x0, 1, [⟨0, 1, .w1c, [0], false⟩, ⟨1, 1, .w1c, [0], false⟩, ⟨2, 1, .w1c, [0], false⟩]⟩,
  ⟨"QUE_ADMIN_FAULT", 0x7003C, 0x0, 1, 0x0, 1, [⟨0, 1, .w1s, [0], false⟩, ⟨1, 1, .ro, [0], false⟩, ⟨2, 3, .ro, [0], false⟩, ⟨5, 1, .ro, [0], false⟩]⟩,
  ⟨"QUE_ADMIN_VA_LO", 0x70040, 0x0, 1, 0x0, 1, [⟨0, 32, .ro, [0], false⟩]⟩,
  ⟨"QUE_ADMIN_VA_HI", 0x70044, 0x0, 1, 0x0, 1, [⟨0, 16, .ro, [0], false⟩]⟩,
  ⟨"QUE_CTX", 0x70048, 0x0, 1, 0x0, 1, [⟨0, 15, .ro, [0], false⟩, ⟨16, 15, .ro, [0], false⟩]⟩,
  ⟨"QUE_CNT_FETCH", 0x70050, 0x0, 1, 0x0, 1, [⟨0, 32, .ro, [0], true⟩]⟩,
  ⟨"QUE_CNT_CPL", 0x70054, 0x0, 1, 0x0, 1, [⟨0, 32, .ro, [0], true⟩]⟩,
  ⟨"QUE_CNT_STOP", 0x70058, 0x0, 1, 0x0, 1, [⟨0, 16, .ro, [0], true⟩, ⟨16, 16, .ro, [0], true⟩]⟩]

/-- Part 4 of the register table, in offset order. -/
def regPart4 : List RegDef := [
  ⟨"REC_STATUS", 0x80000, 0x0, 1, 0x0, 1, [⟨0, 15, .ro, [0], false⟩]⟩,
  ⟨"REC_OLDEST_LO", 0x80004, 0x0, 1, 0x0, 1, [⟨0, 32, .ro, [0], false⟩]⟩,
  ⟨"REC_OLDEST_HI", 0x80008, 0x0, 1, 0x0, 1, [⟨0, 16, .ro, [0], false⟩]⟩,
  ⟨"REC_NEXT_LO", 0x8000C, 0x0, 1, 0x0, 1, [⟨0, 32, .ro, [0], false⟩]⟩,
  ⟨"REC_NEXT_HI", 0x80010, 0x0, 1, 0x0, 1, [⟨0, 16, .ro, [0], false⟩]⟩,
  ⟨"REC_OVERWRITE", 0x80014, 0x0, 1, 0x0, 1, [⟨0, 32, .ro, [0], true⟩]⟩,
  ⟨"REC_CLEAR_CNT", 0x80018, 0x0, 1, 0x0, 1, [⟨0, 32, .ro, [0], false⟩]⟩,
  ⟨"LCS_STATUS", 0x90000, 0x0, 1, 0x0, 1, [⟨0, 3, .ro, [0], false⟩, ⟨3, 1, .ro, [0], false⟩, ⟨4, 1, .ro, [0], false⟩, ⟨5, 6, .ro, [0], false⟩]⟩,
  ⟨"LCS_CFG", 0x90004, 0x0, 1, 0x0, 1, [⟨0, 2, .rwl, [0], false⟩]⟩,
  ⟨"LCS_TRANS_CNT", 0x90008, 0x0, 1, 0x0, 1, [⟨0, 32, .ro, [0], false⟩]⟩,
  ⟨"LCS_ERR", 0x9000C, 0x0, 1, 0x0, 1, [⟨0, 1, .w1c, [0], false⟩, ⟨1, 1, .w1c, [0], false⟩, ⟨2, 1, .w1c, [0], false⟩, ⟨3, 1, .w1c, [0], false⟩]⟩,
  ⟨"PEER_CFG", 0xA0000, 0x0, 1, 0x0, 1, [⟨0, 8, .rwl, [255], false⟩, ⟨8, 1, .rwl, [1], false⟩, ⟨9, 1, .rwl, [0], false⟩, ⟨12, 4, .rwl, [3], false⟩]⟩,
  ⟨"PEER_STATUS", 0xA0004, 0x0, 1, 0x0, 1, [⟨0, 1, .ro, [0], false⟩, ⟨1, 1, .ro, [0], false⟩, ⟨2, 1, .ro, [0], false⟩, ⟨3, 1, .ro, [0], false⟩]⟩,
  ⟨"PEER_NODE", 0xA0008, 0x0, 1, 0x0, 1, [⟨0, 14, .ro, [0], false⟩, ⟨16, 14, .ro, [100], false⟩]⟩,
  ⟨"PEER_OWN", 0xA000C, 0x0, 1, 0x0, 1, [⟨0, 8, .ro, [0], false⟩, ⟨8, 16, .ro, [0], false⟩]⟩,
  ⟨"PEER_ERR", 0xA0010, 0x0, 1, 0x0, 1, [⟨0, 1, .w1c, [0], false⟩, ⟨1, 1, .w1c, [0], false⟩, ⟨2, 1, .w1c, [0], false⟩, ⟨3, 1, .w1c, [0], false⟩, ⟨4, 1, .w1c, [0], false⟩]⟩,
  ⟨"PEER_CNT_HB", 0xA0014, 0x0, 1, 0x0, 1, [⟨0, 32, .ro, [0], true⟩]⟩,
  ⟨"PEER_CNT_MIRROR", 0xA0018, 0x0, 1, 0x0, 1, [⟨0, 32, .ro, [0], true⟩]⟩,
  ⟨"PEER_CNT_LOSS", 0xA001C, 0x0, 1, 0x0, 1, [⟨0, 16, .ro, [0], true⟩, ⟨16, 16, .ro, [0], true⟩]⟩,
  ⟨"SOR_CFG", 0x100000, 0x1000, 16, 0x0, 1, [⟨0, 1, .rwl, [0], false⟩, ⟨1, 1, .rwl, [1], false⟩, ⟨4, 4, .rwl, [3], false⟩, ⟨8, 3, .rwl, [0], false⟩]⟩,
  ⟨"SOR_STATUS", 0x100004, 0x1000, 16, 0x0, 1, [⟨0, 3, .ro, [0], false⟩, ⟨4, 8, .ro, [0], false⟩, ⟨12, 2, .ro, [0], false⟩, ⟨14, 2, .ro, [3], false⟩, ⟨16, 1, .ro, [0], false⟩]⟩,
  ⟨"SOR_ERR", 0x100008, 0x1000, 16, 0x0, 1, [⟨0, 1, .w1c, [0], false⟩, ⟨1, 1, .w1c, [0], false⟩, ⟨2, 1, .w1c, [0], false⟩, ⟨3, 1, .w1c, [0], false⟩, ⟨4, 1, .w1c, [0], false⟩, ⟨5, 1, .w1c, [0], false⟩, ⟨6, 1, .w1c, [0], false⟩, ⟨7, 1, .w1c, [0], false⟩, ⟨8, 1, .w1c, [0], false⟩, ⟨9, 1, .w1c, [0], false⟩, ⟨10, 1, .w1c, [0], false⟩, ⟨11, 1, .w1c, [0], false⟩, ⟨12, 1, .w1c, [0], false⟩]⟩,
  ⟨"SOR_TIMING", 0x10000C, 0x1000, 16, 0x0, 1, [⟨0, 16, .ro, [0], false⟩, ⟨16, 16, .ro, [0], false⟩]⟩,
  ⟨"SOR_FEC_CORR", 0x100010, 0x1000, 16, 0x0, 1, [⟨0, 32, .ro, [0], true⟩]⟩]

/-- Part 5 of the register table, in offset order. -/
def regPart5 : List RegDef := [
  ⟨"SOR_FEC_UNCORR", 0x100014, 0x1000, 16, 0x0, 1, [⟨0, 32, .ro, [0], true⟩]⟩,
  ⟨"SOR_COUNT", 0x100018, 0x1000, 16, 0x0, 1, [⟨0, 16, .ro, [0], true⟩, ⟨16, 16, .ro, [0], true⟩]⟩,
  ⟨"SOR_FE_ID_LO", 0x100020, 0x1000, 16, 0x0, 1, [⟨0, 32, .ro, [0], false⟩]⟩,
  ⟨"SOR_FE_ID_HI", 0x100024, 0x1000, 16, 0x0, 1, [⟨0, 32, .ro, [0], false⟩]⟩,
  ⟨"SOR_LANE_POL", 0x100028, 0x1000, 16, 0x0, 1, [⟨0, 8, .ro, [0], false⟩]⟩,
  ⟨"RCH_CFG", 0x200000, 0x0, 1, 0x0, 1, [⟨0, 4, .rwl, [10], false⟩, ⟨4, 4, .rwl, [12], false⟩, ⟨8, 4, .rwl, [13], false⟩, ⟨12, 4, .rwl, [13], false⟩, ⟨16, 4, .rwl, [14], false⟩, ⟨20, 4, .rwl, [3], false⟩, ⟨24, 4, .rwl, [2], false⟩]⟩,
  ⟨"RCH_TIMING", 0x200004, 0x0, 1, 0x0, 1, [⟨0, 5, .rwl, [6], false⟩, ⟨5, 5, .rwl, [14], false⟩, ⟨10, 5, .rwl, [4], false⟩, ⟨15, 5, .rwl, [10], false⟩, ⟨20, 8, .rwl, [10], false⟩]⟩,
  ⟨"RCH_DEFECT", 0x200008, 0x0, 1, 0x0, 1, [⟨0, 6, .rwl, [26], false⟩, ⟨6, 6, .rwl, [22], false⟩, ⟨12, 3, .rwl, [3], false⟩, ⟨16, 8, .rwl, [16], false⟩, ⟨24, 8, .rwl, [64], false⟩]⟩,
  ⟨"RCH_SYNC", 0x20000C, 0x0, 1, 0x0, 1, [⟨0, 4, .rwl, [8], false⟩, ⟨4, 7, .rwl, [64], false⟩, ⟨11, 5, .rwl, [4], false⟩, ⟨16, 4, .rwl, [1], false⟩]⟩,
  ⟨"RCH_FLY", 0x200010, 0x0, 1, 0x0, 1, [⟨0, 16, .rwl, [2048], false⟩, ⟨16, 8, .rwl, [4], false⟩]⟩,
  ⟨"RCH_TARGET_LO", 0x200014, 0x0, 1, 0x0, 1, [⟨0, 8, .rwl, [16], false⟩, ⟨8, 8, .rwl, [32], false⟩, ⟨16, 8, .rwl, [32], false⟩, ⟨24, 8, .rwl, [16], false⟩]⟩,
  ⟨"RCH_TARGET_HI", 0x200018, 0x0, 1, 0x0, 1, [⟨0, 8, .rwl, [0], false⟩]⟩,
  ⟨"RCH_ERR", 0x20001C, 0x0, 1, 0x0, 1, [⟨0, 1, .w1c, [0], false⟩, ⟨1, 1, .w1c, [0], false⟩, ⟨2, 1, .w1c, [0], false⟩, ⟨3, 1, .w1c, [0], false⟩, ⟨4, 1, .w1c, [0], false⟩]⟩,
  ⟨"RCH_SP_STATE", 0x210004, 0x100, 512, 0x0, 1, [⟨0, 3, .ro, [0], false⟩, ⟨3, 1, .ro, [0], false⟩, ⟨4, 1, .ro, [0], false⟩, ⟨5, 5, .ro, [0], false⟩, ⟨10, 1, .ro, [0], false⟩, ⟨11, 1, .ro, [0], false⟩]⟩,
  ⟨"RCH_SP_BASE", 0x210008, 0x100, 512, 0x0, 1, [⟨0, 16, .ro, [0], false⟩]⟩,
  ⟨"RCH_SP_GAIN", 0x21000C, 0x100, 512, 0x0, 1, [⟨0, 16, .ro, [4096], false⟩, ⟨16, 16, .ro, [0], false⟩]⟩,
  ⟨"RCH_SP_RATIO", 0x210010, 0x100, 512, 0x0, 1, [⟨0, 32, .ro, [0], false⟩]⟩,
  ⟨"RCH_SP_POS", 0x210014, 0x100, 512, 0x0, 1, [⟨0, 24, .ro, [0], false⟩, ⟨24, 6, .ro, [0], false⟩]⟩,
  ⟨"RCH_SP_EQ", 0x210020, 0x100, 512, 0x4, 8, [⟨0, 16, .ro, [0], false⟩, ⟨16, 16, .ro, [0], false⟩]⟩,
  ⟨"RCH_SP_XT", 0x210040, 0x100, 512, 0x4, 10, [⟨0, 16, .ro, [0], false⟩, ⟨16, 16, .ro, [0], false⟩]⟩,
  ⟨"RCH_SP_CNT_DEF", 0x210080, 0x100, 512, 0x0, 1, [⟨0, 16, .ro, [0], true⟩, ⟨16, 16, .ro, [0], true⟩]⟩,
  ⟨"RCH_SP_CNT_SYNC", 0x210084, 0x100, 512, 0x0, 1, [⟨0, 16, .ro, [0], true⟩, ⟨16, 16, .ro, [0], true⟩]⟩,
  ⟨"RCH_SP_CNT_SHIFT", 0x210088, 0x100, 512, 0x0, 1, [⟨0, 16, .ro, [0], true⟩, ⟨16, 16, .ro, [0], true⟩]⟩,
  ⟨"RCH_SP_CNT_ALIGN", 0x21008C, 0x100, 512, 0x0, 1, [⟨0, 16, .ro, [0], true⟩, ⟨16, 16, .ro, [0], true⟩]⟩]

/-- Part 6 of the register table, in offset order. -/
def regPart6 : List RegDef := [
  ⟨"YAR_CFG", 0x300000, 0x0, 1, 0x0, 1, [⟨0, 4, .rwl, [2], false⟩, ⟨4, 5, .rwl, [8], false⟩, ⟨9, 5, .rwl, [12], false⟩, ⟨14, 4, .rwl, [6], false⟩, ⟨18, 4, .rwl, [3], false⟩, ⟨22, 1, .rwl, [1], false⟩, ⟨23, 1, .rwl, [1], false⟩]⟩,
  ⟨"YAR_BUDGET", 0x300004, 0x0, 1, 0x0, 1, [⟨0, 12, .rwl, [256], false⟩, ⟨12, 12, .rwl, [2048], false⟩]⟩,
  ⟨"YAR_DEC", 0x300008, 0x0, 1, 0x0, 1, [⟨0, 3, .rwl, [2], false⟩, ⟨3, 5, .rwl, [12], false⟩, ⟨8, 8, .rwl, [64], false⟩, ⟨16, 4, .rwl, [12], false⟩]⟩,
  ⟨"YAR_OUTER", 0x30000C, 0x0, 1, 0x0, 1, [⟨0, 2, .rwl, [3], false⟩, ⟨2, 4, .rwl, [4], false⟩, ⟨6, 1, .rwl, [1], false⟩]⟩,
  ⟨"YAR_STATUS", 0x300010, 0x0, 1, 0x0, 1, [⟨0, 7, .ro, [0], false⟩, ⟨8, 11, .ro, [0], false⟩, ⟨19, 11, .ro, [0], false⟩]⟩,
  ⟨"YAR_ERR", 0x300014, 0x0, 1, 0x0, 1, [⟨0, 1, .w1c, [0], false⟩, ⟨1, 1, .w1c, [0], false⟩, ⟨2, 1, .w1c, [0], false⟩, ⟨3, 1, .w1c, [0], false⟩, ⟨4, 1, .w1c, [0], false⟩, ⟨5, 1, .w1c, [0], false⟩, ⟨6, 1, .w1c, [0], false⟩, ⟨7, 1, .w1c, [0], false⟩, ⟨8, 1, .w1c, [0], false⟩]⟩,
  ⟨"YAR_ENG_FAULT_LO", 0x300018, 0x0, 1, 0x0, 1, [⟨0, 32, .ro, [0], false⟩]⟩,
  ⟨"YAR_ENG_FAULT_HI", 0x30001C, 0x0, 1, 0x0, 1, [⟨0, 32, .ro, [0], false⟩]⟩,
  ⟨"YAR_CNT_FRAMES", 0x300020, 0x0, 1, 0x0, 1, [⟨0, 32, .ro, [0], true⟩]⟩,
  ⟨"YAR_CNT_CONV1", 0x300024, 0x0, 1, 0x0, 1, [⟨0, 32, .ro, [0], true⟩]⟩,
  ⟨"YAR_CNT_CONVJ", 0x300028, 0x0, 1, 0x0, 1, [⟨0, 32, .ro, [0], true⟩]⟩,
  ⟨"YAR_CNT_FAILED", 0x30002C, 0x0, 1, 0x0, 1, [⟨0, 32, .ro, [0], true⟩]⟩,
  ⟨"YAR_CNT_DROPPED", 0x300030, 0x0, 1, 0x0, 1, [⟨0, 32, .ro, [0], true⟩]⟩,
  ⟨"YAR_CNT_CUT", 0x300034, 0x0, 1, 0x0, 1, [⟨0, 32, .ro, [0], true⟩]⟩,
  ⟨"YAR_CNT_ITER", 0x300038, 0x0, 1, 0x0, 1, [⟨0, 32, .ro, [0], true⟩]⟩,
  ⟨"YAR_CNT_CLU_RECOV", 0x30003C, 0x0, 1, 0x0, 1, [⟨0, 32, .ro, [0], true⟩]⟩,
  ⟨"YAR_CNT_CLU_FAIL", 0x300040, 0x0, 1, 0x0, 1, [⟨0, 32, .ro, [0], true⟩]⟩,
  ⟨"YAR_PK_EPOCH", 0x300100, 0x4, 16, 0x0, 1, [⟨0, 9, .ro, [0], false⟩, ⟨9, 1, .ro, [0], false⟩]⟩,
  ⟨"YAR_SP_JX", 0x310000, 0x40, 512, 0x4, 10, [⟨0, 16, .ro, [0], false⟩, ⟨16, 16, .ro, [0], false⟩]⟩,
  ⟨"YAR_SP_CNT_A", 0x310028, 0x40, 512, 0x0, 1, [⟨0, 16, .ro, [0], true⟩, ⟨16, 16, .ro, [0], true⟩]⟩,
  ⟨"YAR_SP_CNT_B", 0x31002C, 0x40, 512, 0x0, 1, [⟨0, 16, .ro, [0], true⟩, ⟨16, 16, .ro, [0], true⟩]⟩,
  ⟨"YAR_SP_CNT_C", 0x310030, 0x40, 512, 0x0, 1, [⟨0, 16, .ro, [0], true⟩, ⟨16, 16, .ro, [0], true⟩]⟩,
  ⟨"YAR_SP_ITER", 0x310034, 0x40, 512, 0x0, 1, [⟨0, 16, .ro, [0], false⟩]⟩,
  ⟨"WCH_CFG", 0x380000, 0x0, 1, 0x0, 1, [⟨0, 1, .rwl, [1], false⟩, ⟨1, 1, .rwl, [0], false⟩]⟩]

/-- Part 7 of the register table, in offset order. -/
def regPart7 : List RegDef := [
  ⟨"WCH_DRAW", 0x380004, 0x0, 1, 0x0, 1, [⟨0, 5, .rwl, [6], false⟩, ⟨5, 16, .rwl, [256], false⟩]⟩,
  ⟨"WCH_LEAD", 0x380008, 0x0, 1, 0x0, 1, [⟨0, 2, .rwl, [1], false⟩, ⟨2, 2, .rwl, [1], false⟩, ⟨4, 2, .rwl, [1], false⟩, ⟨6, 2, .rwl, [1], false⟩, ⟨8, 2, .rwl, [1], false⟩, ⟨10, 2, .rwl, [1], false⟩, ⟨12, 2, .rwl, [1], false⟩, ⟨14, 2, .rwl, [1], false⟩, ⟨16, 2, .rwl, [1], false⟩, ⟨18, 2, .rwl, [1], false⟩, ⟨20, 2, .rwl, [1], false⟩, ⟨22, 2, .rwl, [1], false⟩, ⟨24, 2, .rwl, [1], false⟩, ⟨26, 2, .rwl, [1], false⟩, ⟨28, 2, .rwl, [1], false⟩, ⟨30, 2, .rwl, [1], false⟩]⟩,
  ⟨"WCH_TRAIL", 0x38000C, 0x0, 1, 0x0, 1, [⟨0, 2, .rwl, [0], false⟩, ⟨2, 2, .rwl, [1], false⟩, ⟨4, 2, .rwl, [2], false⟩, ⟨6, 2, .rwl, [2], false⟩, ⟨8, 2, .rwl, [2], false⟩]⟩,
  ⟨"WCH_FIFO", 0x380010, 0x0, 1, 0x0, 1, [⟨0, 12, .rwl, [2048], false⟩, ⟨12, 12, .rwl, [3584], false⟩]⟩,
  ⟨"WCH_STATUS", 0x380014, 0x0, 1, 0x0, 1, [⟨0, 16, .ro, [0], false⟩, ⟨16, 16, .ro, [0], false⟩]⟩,
  ⟨"WCH_ERR", 0x380018, 0x0, 1, 0x0, 1, [⟨0, 1, .w1c, [0], false⟩, ⟨1, 1, .w1c, [0], false⟩, ⟨2, 1, .w1c, [0], false⟩, ⟨3, 1, .w1c, [0], false⟩, ⟨4, 1, .w1c, [0], false⟩]⟩,
  ⟨"WCH_CNT_FRAMES", 0x380020, 0x0, 1, 0x0, 1, [⟨0, 32, .ro, [0], true⟩]⟩,
  ⟨"WCH_CNT_VFAIL", 0x380024, 0x0, 1, 0x0, 1, [⟨0, 32, .ro, [0], true⟩]⟩,
  ⟨"WCH_CNT_REPL", 0x380028, 0x0, 1, 0x0, 1, [⟨0, 32, .ro, [0], true⟩]⟩,
  ⟨"WCH_CNT_MISS", 0x38002C, 0x0, 1, 0x0, 1, [⟨0, 32, .ro, [0], true⟩]⟩,
  ⟨"WCH_PK_CNT", 0x380100, 0x4, 16, 0x0, 1, [⟨0, 16, .ro, [0], true⟩, ⟨16, 16, .ro, [0], true⟩]⟩,
  ⟨"SVO_STATE", 0x400000, 0x4000, 16, 0x0, 1, [⟨0, 3, .ro, [0], false⟩, ⟨3, 2, .ro, [0], false⟩, ⟨5, 1, .ro, [0], false⟩, ⟨6, 1, .ro, [0], false⟩, ⟨7, 1, .ro, [0], false⟩, ⟨8, 1, .ro, [0], false⟩, ⟨9, 1, .ro, [0], false⟩]⟩,
  ⟨"SVO_MODE", 0x400004, 0x4000, 16, 0x0, 1, [⟨0, 2, .ro, [0], false⟩, ⟨2, 2, .ro, [0], false⟩, ⟨4, 2, .ro, [0], false⟩, ⟨6, 2, .ro, [0], false⟩, ⟨8, 2, .ro, [0], false⟩]⟩,
  ⟨"SVO_ERR", 0x400008, 0x4000, 16, 0x0, 1, [⟨0, 1, .w1c, [0], false⟩, ⟨1, 1, .w1c, [0], false⟩, ⟨2, 1, .w1c, [0], false⟩, ⟨3, 1, .w1c, [0], false⟩, ⟨4, 1, .w1c, [0], false⟩, ⟨5, 1, .w1c, [0], false⟩, ⟨6, 1, .w1c, [0], false⟩, ⟨7, 1, .w1c, [0], false⟩, ⟨8, 1, .w1c, [0], false⟩, ⟨9, 1, .w1c, [0], false⟩, ⟨10, 1, .w1c, [0], false⟩, ⟨11, 1, .w1c, [0], false⟩, ⟨12, 1, .w1c, [0], false⟩, ⟨13, 1, .w1c, [0], false⟩]⟩,
  ⟨"SVO_TARGET", 0x40000C, 0x4000, 16, 0x0, 1, [⟨0, 19, .ro, [0], false⟩, ⟨19, 2, .ro, [0], false⟩, ⟨21, 1, .ro, [0], false⟩]⟩,
  ⟨"SVO_POS", 0x400010, 0x4000, 16, 0x0, 1, [⟨0, 19, .ro, [0], false⟩, ⟨19, 12, .ro, [0], false⟩, ⟨31, 1, .ro, [0], false⟩]⟩,
  ⟨"SVO_PW", 0x400014, 0x4000, 16, 0x0, 1, [⟨0, 24, .ro, [0], false⟩]⟩,
  ⟨"SVO_WEDGE", 0x400018, 0x4000, 16, 0x0, 1, [⟨0, 9, .ro, [0], false⟩, ⟨16, 8, .ro, [0], false⟩]⟩,
  ⟨"SVO_TE_RMS", 0x40001C, 0x4000, 16, 0x0, 1, [⟨0, 16, .ro, [0], false⟩, ⟨16, 16, .ro, [0], false⟩]⟩,
  ⟨"SVO_BN", 0x400020, 0x4000, 16, 0x0, 1, [⟨0, 24, .rwl, [20000], false⟩]⟩,
  ⟨"SVO_SUM_E", 0x400024, 0x4000, 16, 0x0, 1, [⟨0, 16, .rwl, [256], false⟩]⟩,
  ⟨"SVO_IDX_OFS", 0x400030, 0x4000, 16, 0x4, 4, [⟨0, 18, .ro, [0], false⟩, ⟨31, 1, .ro, [0], false⟩]⟩,
  ⟨"SVO_TRK_THR", 0x400040, 0x4000, 16, 0x0, 1, [⟨0, 8, .rwl, [80], false⟩, ⟨8, 8, .rwl, [48], false⟩, ⟨16, 4, .rwl, [2], false⟩]⟩,
  ⟨"SVO_WR_THR", 0x400044, 0x4000, 16, 0x0, 1, [⟨0, 10, .rwl, [160], false⟩, ⟨10, 10, .rwl, [200], false⟩, ⟨20, 4, .rwl, [2], false⟩, ⟨24, 8, .rwl, [5], false⟩]⟩]

/-- Part 8 of the register table, in offset order. -/
def regPart8 : List RegDef := [
  ⟨"SVO_PLAUS", 0x400048, 0x4000, 16, 0x0, 1, [⟨0, 4, .rwl, [4], false⟩, ⟨4, 4, .rwl, [4], false⟩, ⟨8, 8, .rwl, [128], false⟩]⟩,
  ⟨"SVO_WEDGE_CFG", 0x40004C, 0x4000, 16, 0x0, 1, [⟨0, 4, .rwl, [8], false⟩, ⟨4, 4, .rwl, [2], false⟩, ⟨8, 8, .rwl, [64], false⟩, ⟨16, 4, .rwl, [4], false⟩]⟩,
  ⟨"SVO_HOLD", 0x400050, 0x4000, 16, 0x0, 1, [⟨0, 8, .rwl, [64], false⟩, ⟨8, 4, .rwl, [8], false⟩]⟩,
  ⟨"SVO_LEARN", 0x400054, 0x4000, 16, 0x0, 1, [⟨0, 4, .rwl, [5], false⟩, ⟨4, 4, .rwl, [1], false⟩, ⟨8, 4, .rwl, [8], false⟩, ⟨12, 1, .rwl, [1], false⟩]⟩,
  ⟨"SVO_MOVE", 0x400058, 0x4000, 16, 0x0, 1, [⟨0, 4, .rwl, [8], false⟩, ⟨4, 4, .rwl, [4], false⟩, ⟨8, 12, .rwl, [256], false⟩, ⟨20, 4, .rwl, [3], false⟩]⟩,
  ⟨"SVO_SEEK", 0x40005C, 0x4000, 16, 0x0, 1, [⟨0, 10, .rwl, [200], false⟩, ⟨10, 6, .rwl, [16], false⟩]⟩,
  ⟨"SVO_FACQ", 0x400060, 0x4000, 16, 0x0, 1, [⟨0, 16, .rwl, [16], false⟩, ⟨16, 4, .rwl, [3], false⟩, ⟨20, 8, .rwl, [32], false⟩]⟩,
  ⟨"SVO_LJUMP", 0x400064, 0x4000, 16, 0x0, 1, [⟨0, 16, .rwl, [2048], false⟩, ⟨16, 8, .rwl, [32], false⟩, ⟨24, 8, .rwl, [49], false⟩]⟩,
  ⟨"SVO_TBL_ADDR", 0x400080, 0x4000, 16, 0x0, 1, [⟨0, 9, .rw, [0], false⟩, ⟨9, 2, .rw, [0], false⟩, ⟨11, 2, .rw, [0], false⟩, ⟨13, 1, .rw, [0], false⟩, ⟨14, 2, .rw, [0], false⟩]⟩,
  ⟨"SVO_TBL_DATA", 0x400084, 0x4000, 16, 0x0, 1, [⟨0, 16, .ro, [0], false⟩, ⟨16, 1, .ro, [0], false⟩]⟩,
  ⟨"SVO_CNT_A", 0x4000C0, 0x4000, 16, 0x0, 1, [⟨0, 16, .ro, [0], true⟩, ⟨16, 16, .ro, [0], true⟩]⟩,
  ⟨"SVO_CNT_B", 0x4000C4, 0x4000, 16, 0x0, 1, [⟨0, 16, .ro, [0], true⟩, ⟨16, 16, .ro, [0], true⟩]⟩,
  ⟨"SVO_CNT_C", 0x4000C8, 0x4000, 16, 0x0, 1, [⟨0, 16, .ro, [0], true⟩, ⟨16, 16, .ro, [0], true⟩]⟩,
  ⟨"SVO_CNT_D", 0x4000CC, 0x4000, 16, 0x0, 1, [⟨0, 16, .ro, [0], true⟩, ⟨16, 16, .ro, [0], true⟩]⟩,
  ⟨"SVO_L_PI", 0x400100, 0x4000, 16, 0x40, 5, [⟨0, 16, .rwl, [1536, 2048, 256, 256, 1024], false⟩, ⟨16, 16, .rwl, [64, 64, 4, 4, 16], false⟩]⟩,
  ⟨"SVO_L_D", 0x400104, 0x4000, 16, 0x40, 5, [⟨0, 16, .rwl, [6144, 6144, 0, 0, 2048], false⟩, ⟨16, 16, .rwl, [49152], false⟩]⟩,
  ⟨"SVO_L_N0A", 0x400108, 0x4000, 16, 0x40, 5, [⟨0, 16, .rwl, [16384], false⟩, ⟨16, 16, .rwl, [0], false⟩]⟩,
  ⟨"SVO_L_N0B", 0x40010C, 0x4000, 16, 0x40, 5, [⟨0, 16, .rwl, [0], false⟩, ⟨16, 16, .rwl, [0], false⟩]⟩,
  ⟨"SVO_L_N01", 0x400110, 0x4000, 16, 0x40, 5, [⟨0, 16, .rwl, [0], false⟩, ⟨16, 16, .rwl, [16384], false⟩]⟩,
  ⟨"SVO_L_N1A", 0x400114, 0x4000, 16, 0x40, 5, [⟨0, 16, .rwl, [0], false⟩, ⟨16, 16, .rwl, [0], false⟩]⟩,
  ⟨"SVO_L_N1B", 0x400118, 0x4000, 16, 0x40, 5, [⟨0, 16, .rwl, [0], false⟩, ⟨16, 16, .rwl, [0], false⟩]⟩,
  ⟨"SVO_L_LIM", 0x40011C, 0x4000, 16, 0x40, 5, [⟨0, 16, .rwl, [32767], false⟩, ⟨16, 16, .rwl, [2048], false⟩]⟩,
  ⟨"SVO_L_OBS_A", 0x400120, 0x4000, 16, 0x40, 5, [⟨0, 16, .rwl, [31948], false⟩, ⟨16, 16, .rwl, [49808], false⟩]⟩,
  ⟨"SVO_L_OBS_B", 0x400124, 0x4000, 16, 0x40, 5, [⟨0, 16, .rwl, [256], false⟩, ⟨16, 16, .rwl, [16384], false⟩]⟩]

/-- Part 9 of the register table, in offset order. -/
def regPart9 : List RegDef := [
  ⟨"SVO_L_RES", 0x400128, 0x4000, 16, 0x40, 5, [⟨0, 16, .rwl, [160, 120, 0, 0, 100], false⟩]⟩,
  ⟨"MOT_SP_CFG", 0x500000, 0x1000, 8, 0x0, 1, [⟨0, 4, .rwl, [4], false⟩, ⟨4, 8, .rwl, [40], false⟩, ⟨12, 8, .rwl, [59], false⟩]⟩,
  ⟨"MOT_SP_DUTY", 0x500004, 0x1000, 8, 0x0, 1, [⟨0, 12, .rwl, [164], false⟩, ⟨12, 12, .rwl, [3512], false⟩]⟩,
  ⟨"MOT_SP_MOTOR", 0x500008, 0x1000, 8, 0x0, 1, [⟨0, 16, .rwl, [500], false⟩, ⟨16, 16, .rwl, [600], false⟩]⟩,
  ⟨"MOT_SP_KE", 0x50000C, 0x1000, 8, 0x0, 1, [⟨0, 16, .rwl, [1600], false⟩, ⟨16, 16, .rwl, [800], false⟩]⟩,
  ⟨"MOT_SP_SCALE", 0x500010, 0x1000, 8, 0x0, 1, [⟨0, 16, .rwl, [20000], false⟩, ⟨16, 16, .rwl, [40000], false⟩]⟩,
  ⟨"MOT_SP_CUR", 0x500014, 0x1000, 8, 0x0, 1, [⟨0, 16, .rwl, [2048], false⟩, ⟨16, 16, .rwl, [128], false⟩]⟩,
  ⟨"MOT_SP_SPD", 0x500018, 0x1000, 8, 0x0, 1, [⟨0, 16, .rwl, [1024], false⟩, ⟨16, 16, .rwl, [16], false⟩]⟩,
  ⟨"MOT_SP_LIM", 0x50001C, 0x1000, 8, 0x0, 1, [⟨0, 16, .rwl, [3000], false⟩, ⟨16, 16, .rwl, [8000], false⟩]⟩,
  ⟨"MOT_SP_SPEED", 0x500020, 0x1000, 8, 0x0, 1, [⟨0, 16, .rwl, [10000], false⟩, ⟨16, 16, .rwl, [7500], false⟩]⟩,
  ⟨"MOT_SP_RAMP", 0x500024, 0x1000, 8, 0x0, 1, [⟨0, 16, .rwl, [2500], false⟩, ⟨16, 16, .rwl, [2000], false⟩]⟩,
  ⟨"MOT_SP_START", 0x500028, 0x1000, 8, 0x0, 1, [⟨0, 12, .rwl, [600], false⟩, ⟨12, 8, .rwl, [200], false⟩, ⟨20, 4, .rwl, [3], false⟩, ⟨24, 8, .rwl, [20], false⟩]⟩,
  ⟨"MOT_SP_START2", 0x50002C, 0x1000, 8, 0x0, 1, [⟨0, 16, .rwl, [1500], false⟩, ⟨16, 16, .rwl, [2000], false⟩]⟩,
  ⟨"MOT_SP_PROBE", 0x500030, 0x1000, 8, 0x0, 1, [⟨0, 8, .rwl, [100], false⟩, ⟨8, 8, .rwl, [8], false⟩, ⟨16, 16, .rwl, [2000], false⟩]⟩,
  ⟨"MOT_SP_BUS", 0x500034, 0x1000, 8, 0x0, 1, [⟨0, 8, .rwl, [224], false⟩, ⟨8, 8, .rwl, [236], false⟩, ⟨16, 8, .rwl, [248], false⟩, ⟨24, 8, .rwl, [160], false⟩]⟩,
  ⟨"MOT_SP_BRAKE", 0x500038, 0x1000, 8, 0x0, 1, [⟨0, 16, .rwl, [500], false⟩]⟩,
  ⟨"MOT_SP_STATUS", 0x500040, 0x1000, 8, 0x0, 1, [⟨0, 3, .ro, [0], false⟩, ⟨3, 1, .ro, [0], false⟩, ⟨4, 1, .ro, [0], false⟩, ⟨5, 1, .ro, [0], false⟩, ⟨6, 1, .ro, [0], false⟩, ⟨7, 2, .ro, [0], false⟩, ⟨9, 1, .ro, [0], false⟩, ⟨10, 1, .ro, [0], false⟩]⟩,
  ⟨"MOT_SP_RPM", 0x500044, 0x1000, 8, 0x0, 1, [⟨0, 16, .ro, [0], false⟩, ⟨16, 16, .ro, [0], false⟩]⟩,
  ⟨"MOT_SP_VBUS", 0x500048, 0x1000, 8, 0x0, 1, [⟨0, 16, .ro, [0], false⟩, ⟨16, 16, .ro, [0], false⟩]⟩,
  ⟨"MOT_SP_KEM", 0x50004C, 0x1000, 8, 0x0, 1, [⟨0, 16, .ro, [0], false⟩]⟩,
  ⟨"MOT_SP_ERR", 0x500050, 0x1000, 8, 0x0, 1, [⟨0, 1, .w1c, [0], false⟩, ⟨1, 1, .w1c, [0], false⟩, ⟨2, 1, .w1c, [0], false⟩, ⟨3, 1, .w1c, [0], false⟩, ⟨4, 1, .w1c, [0], false⟩, ⟨5, 1, .w1c, [0], false⟩, ⟨6, 1, .w1c, [0], false⟩, ⟨7, 1, .w1c, [0], false⟩, ⟨8, 1, .w1c, [0], false⟩, ⟨9, 1, .w1c, [0], false⟩, ⟨10, 1, .w1c, [0], false⟩, ⟨11, 1, .w1c, [0], false⟩]⟩,
  ⟨"MOT_SP_CNT", 0x500054, 0x1000, 8, 0x0, 1, [⟨0, 16, .ro, [0], true⟩, ⟨16, 16, .ro, [0], true⟩]⟩,
  ⟨"MOT_AX_CFG", 0x508000, 0x800, 16, 0x400, 2, [⟨0, 16, .rwl, [2344, 2000], false⟩, ⟨16, 4, .rwl, [3], false⟩, ⟨20, 4, .rwl, [4], false⟩, ⟨24, 3, .ro, [4], false⟩]⟩,
  ⟨"MOT_AX_VA", 0x508004, 0x800, 16, 0x400, 2, [⟨0, 16, .rwl, [5333, 62], false⟩, ⟨16, 16, .rwl, [3333, 80], false⟩]⟩]

/-- Part 10 of the register table, in offset order. -/
def regPart10 : List RegDef := [
  ⟨"MOT_AX_LIM", 0x508008, 0x800, 16, 0x400, 2, [⟨0, 16, .rwl, [0, 63786], false⟩, ⟨16, 16, .rwl, [14592, 1750], false⟩]⟩,
  ⟨"MOT_AX_CUR", 0x50800C, 0x800, 16, 0x400, 2, [⟨0, 12, .rwl, [1536], false⟩, ⟨12, 8, .rwl, [64], false⟩, ⟨20, 12, .rwl, [32], false⟩]⟩,
  ⟨"MOT_AX_HOME", 0x508010, 0x800, 16, 0x400, 2, [⟨0, 16, .rwl, [20000, 1000], false⟩, ⟨16, 8, .rwl, [128], false⟩, ⟨24, 8, .rwl, [200], false⟩]⟩,
  ⟨"MOT_AX_HOME2", 0x508014, 0x800, 16, 0x400, 2, [⟨0, 16, .rwl, [15360, 3600], false⟩, ⟨16, 16, .rwl, [65472, 63722], false⟩]⟩,
  ⟨"MOT_AX_OFF", 0x508018, 0x800, 16, 0x400, 2, [⟨0, 16, .rwl, [1024], false⟩, ⟨16, 16, .rwl, [256], false⟩]⟩,
  ⟨"MOT_AX_OFFV", 0x50801C, 0x800, 16, 0x400, 2, [⟨0, 16, .rwl, [2000, 200], false⟩, ⟨16, 16, .rwl, [16], false⟩]⟩,
  ⟨"MOT_AX_STATUS", 0x508040, 0x800, 16, 0x400, 2, [⟨0, 3, .ro, [0], false⟩, ⟨3, 1, .ro, [0], false⟩, ⟨4, 1, .ro, [0], false⟩, ⟨5, 1, .ro, [0], false⟩, ⟨6, 1, .ro, [0], false⟩]⟩,
  ⟨"MOT_AX_POS", 0x508044, 0x800, 16, 0x400, 2, [⟨0, 32, .ro, [0], false⟩]⟩,
  ⟨"MOT_AX_TGT", 0x508048, 0x800, 16, 0x400, 2, [⟨0, 32, .ro, [0], false⟩]⟩,
  ⟨"MOT_AX_VEL", 0x50804C, 0x800, 16, 0x400, 2, [⟨0, 32, .ro, [0], false⟩]⟩,
  ⟨"MOT_AX_SLOPE1", 0x508050, 0x800, 16, 0x400, 2, [⟨0, 16, .ro, [16], false⟩, ⟨16, 16, .ro, [4], false⟩]⟩,
  ⟨"MOT_AX_SLOPE2", 0x508054, 0x800, 16, 0x400, 2, [⟨0, 16, .ro, [16], false⟩, ⟨16, 16, .ro, [4], false⟩]⟩,
  ⟨"MOT_AX_SLOPE_F", 0x508058, 0x800, 16, 0x400, 2, [⟨0, 16, .ro, [16], false⟩, ⟨16, 16, .ro, [16], false⟩]⟩,
  ⟨"MOT_AX_ERR", 0x508060, 0x800, 16, 0x400, 2, [⟨0, 1, .w1c, [0], false⟩, ⟨1, 1, .w1c, [0], false⟩, ⟨2, 1, .w1c, [0], false⟩, ⟨3, 1, .w1c, [0], false⟩, ⟨4, 1, .w1c, [0], false⟩]⟩,
  ⟨"MOT_AX_CNT", 0x508064, 0x800, 16, 0x400, 2, [⟨0, 16, .ro, [0], true⟩, ⟨16, 16, .ro, [0], true⟩]⟩,
  ⟨"CAL_CFG", 0x600000, 0x0, 1, 0x0, 1, [⟨0, 1, .rwl, [1], false⟩, ⟨1, 1, .rwl, [1], false⟩, ⟨2, 1, .rwl, [1], false⟩, ⟨4, 4, .rwl, [4], false⟩, ⟨8, 8, .rwl, [64], false⟩, ⟨16, 8, .rwl, [80], false⟩]⟩,
  ⟨"CAL_TOL", 0x600004, 0x0, 1, 0x0, 1, [⟨0, 8, .rwl, [4], false⟩, ⟨8, 8, .rwl, [8], false⟩, ⟨16, 8, .rwl, [64], false⟩]⟩,
  ⟨"CAL_SUM_TGT", 0x600008, 0x0, 1, 0x0, 1, [⟨0, 16, .rwl, [512], false⟩]⟩,
  ⟨"CAL_STATUS", 0x60000C, 0x0, 1, 0x0, 1, [⟨0, 16, .ro, [0], false⟩, ⟨16, 16, .ro, [0], false⟩]⟩,
  ⟨"CAL_ERR", 0x600010, 0x0, 1, 0x0, 1, [⟨0, 1, .w1c, [0], false⟩, ⟨1, 1, .w1c, [0], false⟩, ⟨2, 1, .w1c, [0], false⟩, ⟨3, 1, .w1c, [0], false⟩, ⟨4, 1, .w1c, [0], false⟩]⟩,
  ⟨"CAL_CNT", 0x600020, 0x0, 1, 0x0, 1, [⟨0, 16, .ro, [0], true⟩, ⟨16, 16, .ro, [0], true⟩]⟩,
  ⟨"CAL_PK_TEMP", 0x600100, 0x4, 16, 0x0, 1, [⟨0, 12, .ro, [0], false⟩, ⟨12, 12, .ro, [0], false⟩, ⟨24, 3, .ro, [0], false⟩, ⟨27, 1, .ro, [0], false⟩]⟩,
  ⟨"CAL_PK_WS", 0x600140, 0x4, 16, 0x0, 1, [⟨0, 16, .ro, [0], false⟩]⟩,
  ⟨"SAL_CFG", 0x700000, 0x0, 1, 0x0, 1, [⟨0, 8, .rwl, [4], false⟩, ⟨8, 8, .rwl, [8], false⟩, ⟨16, 8, .rwl, [60], false⟩, ⟨24, 7, .rwl, [75], false⟩]⟩]

/-- Part 11 of the register table, in offset order. -/
def regPart11 : List RegDef := [
  ⟨"SAL_TIME", 0x700004, 0x0, 1, 0x0, 1, [⟨0, 16, .rwl, [72], false⟩, ⟨16, 16, .rwl, [1000], false⟩]⟩,
  ⟨"SAL_STATUS", 0x700008, 0x0, 1, 0x0, 1, [⟨0, 3, .ro, [0], false⟩, ⟨3, 1, .ro, [0], false⟩, ⟨4, 1, .ro, [0], false⟩, ⟨5, 1, .ro, [0], false⟩, ⟨6, 3, .ro, [0], false⟩, ⟨9, 2, .ro, [0], false⟩]⟩,
  ⟨"SAL_GEOM", 0x70000C, 0x0, 1, 0x0, 1, [⟨0, 16, .ro, [0], false⟩, ⟨16, 9, .ro, [0], false⟩]⟩,
  ⟨"SAL_SB", 0x700010, 0x0, 1, 0x0, 1, [⟨0, 16, .ro, [0], false⟩, ⟨16, 16, .ro, [0], false⟩]⟩,
  ⟨"SAL_STAGED", 0x700014, 0x0, 1, 0x0, 1, [⟨0, 32, .ro, [0], false⟩]⟩,
  ⟨"SAL_ADMIT", 0x700018, 0x0, 1, 0x0, 1, [⟨0, 32, .ro, [0], false⟩]⟩,
  ⟨"SAL_IDX", 0x70001C, 0x0, 1, 0x0, 1, [⟨0, 6, .ro, [0], false⟩]⟩,
  ⟨"SAL_OLDEST", 0x700020, 0x0, 1, 0x0, 1, [⟨0, 16, .ro, [0], false⟩]⟩,
  ⟨"SAL_JRNL", 0x700024, 0x0, 1, 0x0, 1, [⟨0, 32, .ro, [0], false⟩]⟩,
  ⟨"SAL_CKPT", 0x700028, 0x0, 1, 0x0, 1, [⟨0, 32, .ro, [0], false⟩]⟩,
  ⟨"SAL_ERR", 0x70002C, 0x0, 1, 0x0, 1, [⟨0, 1, .w1c, [0], false⟩, ⟨1, 1, .w1c, [0], false⟩, ⟨2, 1, .w1c, [0], false⟩, ⟨3, 1, .w1c, [0], false⟩, ⟨4, 1, .w1c, [0], false⟩, ⟨5, 1, .w1c, [0], false⟩, ⟨6, 1, .w1c, [0], false⟩, ⟨7, 1, .w1c, [0], false⟩, ⟨8, 1, .w1c, [0], false⟩, ⟨9, 1, .w1c, [0], false⟩]⟩,
  ⟨"SAL_CNT_PROG", 0x700030, 0x0, 1, 0x0, 1, [⟨0, 32, .ro, [0], true⟩]⟩,
  ⟨"SAL_CNT_GC", 0x700034, 0x0, 1, 0x0, 1, [⟨0, 32, .ro, [0], true⟩]⟩,
  ⟨"SAL_CNT_ERR", 0x700038, 0x0, 1, 0x0, 1, [⟨0, 16, .ro, [0], true⟩, ⟨16, 16, .ro, [0], true⟩]⟩,
  ⟨"SAL_CNT_MISC", 0x70003C, 0x0, 1, 0x0, 1, [⟨0, 16, .ro, [0], true⟩, ⟨16, 16, .ro, [0], true⟩]⟩,
  ⟨"SET_CFG", 0x780000, 0x0, 1, 0x0, 1, [⟨0, 10, .rwl, [64], false⟩, ⟨10, 8, .rwl, [16], false⟩, ⟨18, 1, .rwl, [1], false⟩, ⟨19, 1, .rwl, [1], false⟩, ⟨20, 4, .rwl, [4], false⟩]⟩,
  ⟨"SET_STATUS", 0x780004, 0x0, 1, 0x0, 1, [⟨0, 9, .ro, [0], false⟩, ⟨9, 3, .ro, [0], false⟩, ⟨12, 1, .ro, [0], false⟩]⟩,
  ⟨"SET_LOST", 0x780008, 0x0, 1, 0x0, 1, [⟨0, 15, .ro, [0], false⟩]⟩,
  ⟨"SET_ERR", 0x78000C, 0x0, 1, 0x0, 1, [⟨0, 1, .w1c, [0], false⟩, ⟨1, 1, .w1c, [0], false⟩, ⟨2, 1, .w1c, [0], false⟩, ⟨3, 1, .w1c, [0], false⟩, ⟨4, 1, .w1c, [0], false⟩, ⟨5, 1, .w1c, [0], false⟩, ⟨6, 1, .w1c, [0], false⟩, ⟨7, 1, .w1c, [0], false⟩, ⟨8, 1, .w1c, [0], false⟩, ⟨9, 1, .w1c, [0], false⟩]⟩,
  ⟨"SET_CNT_STRIPES", 0x780020, 0x0, 1, 0x0, 1, [⟨0, 32, .ro, [0], true⟩]⟩,
  ⟨"SET_CNT_RECOV", 0x780024, 0x0, 1, 0x0, 1, [⟨0, 32, .ro, [0], true⟩]⟩,
  ⟨"SET_CNT_SEAL", 0x780028, 0x0, 1, 0x0, 1, [⟨0, 32, .ro, [0], true⟩]⟩,
  ⟨"SET_CNT_LOST", 0x78002C, 0x0, 1, 0x0, 1, [⟨0, 32, .ro, [0], true⟩]⟩,
  ⟨"SET_CNT_REMAP", 0x780030, 0x0, 1, 0x0, 1, [⟨0, 32, .ro, [0], true⟩]⟩]

/-- Every register of the device (Table 17-11), in offset order. -/
def regTable : List RegDef :=
  regPart0 ++ regPart1 ++ regPart2 ++ regPart3 ++ regPart4 ++ regPart5 ++ regPart6 ++ regPart7 ++ regPart8 ++ regPart9 ++ regPart10 ++ regPart11

end Sys2Proof.Machine
end

