-- ==== Sys2Proof/Machine/SMap.lean ====
section
/-! DEFINITION. Sparse maps: lists of key and value pairs in one canonical form (keys strictly rising, no
entry equal to the default of its key), so that equal maps are equal data. -/

namespace Sys2Proof.Machine

/-- The value at key `k`; `d` is what an unlisted key reads as. -/
def mget {α : Type} (m : List (Nat × α)) (d : α) (k : Nat) : α :=
  match m with
  | [] => d
  | (k', v) :: t => if k' = k then v else mget t d k

/-- The map without key `k`. -/
def merase {α : Type} (m : List (Nat × α)) (k : Nat) : List (Nat × α) :=
  match m with
  | [] => []
  | (k', v) :: t => if k' = k then merase t k else (k', v) :: merase t k

/-- Inserts a key that the map does not hold, in order. -/
def mins {α : Type} (m : List (Nat × α)) (k : Nat) (v : α) : List (Nat × α) :=
  match m with
  | [] => [(k, v)]
  | (k', w) :: t => if k' < k then (k', w) :: mins t k v else (k, v) :: (k', w) :: t

/-- The map with value `v` at key `k`; a value equal to the default `d` is not listed. -/
def mset {α : Type} [DecidableEq α] (m : List (Nat × α)) (d : α) (k : Nat) (v : α) : List (Nat × α) :=
  if v = d then merase m k else mins (merase m k) k v

/-- The canonical form of a map whose default at key `k` is `d k`. -/
def mwf {α : Type} [DecidableEq α] (d : Nat → α) (m : List (Nat × α)) : Bool :=
  match m with
  | [] => true
  | (k, v) :: t => decide (v ≠ d k) && (t.all fun e => decide (k < e.1)) && mwf d t

end Sys2Proof.Machine
end

