-- ==== Sys2Proof/Machine/State.lean ====
section
/-! DEFINITION. The state of the block: plain data, everything the spec gives the part.

Register fields live in `Dev.fv` (their one home, keyed by bit address in BAR0, with the reset values of
the register tables); the structures below hold what no register shows. -/

namespace Sys2Proof.Machine

/-- A fault stops the model; no rule of the spec makes a step of this block stop, so the type has one
constructor that no meaning raises (safe). -/
inductive Fault where
  /-- Raised by nothing: kept so that the type is inhabited (safe). -/
  | never
deriving DecidableEq, Repr

/-- Why a command has no next state. -/
inductive Refusal where
  /-- Raised by an arm of `exec` whose command has no meaning in the model (safe: it stops). -/
  | notModelled (mnemonic : String)
deriving DecidableEq, Repr

/-! ## Outputs -/

/-- A CONTROL command (Table 3-8). -/
inductive CtlOp where
  | identify
  | readReg (addr : Nat)
  /-- a claim or a takeover, with the node identifier of argument B -/
  | ownRequest (takeover : Bool) (node : Nat)
  | ownRelease
  | writeStart (mask : Nat) (index : Nat)
  | writeAbort (mask : Nat)
  | laneRetrain (lane : Nat) (down : Bool)
  | trim (index code : Nat)
  | resume
deriving DecidableEq, Repr

/-- A cell or control block that a port sends downstream (R85, R95 to R100). -/
inductive DownCell where
  /-- the superframe start block of superframe `s` on a lane, or with code 0x1E the training marker (Table 3-1): its offset in
  PAM4 symbols and next_cell -/
  | sfs (lane code s offset nextCell : Nat)
  /-- ACTUATOR of a superframe (Table 3-4), on the downstream lanes of a mask (R97) -/
  | actuator (lanes sf : Nat) (hold readOn writeEn : Bool) (focus track tiltRad tiltTan yaw : Int)
      (readPower writeScale writeInc : Nat)
  /-- WRITE: write spot, gate, sequence number and symbols (R95) -/
  | write (spot : Nat) (gate : Bool) (seq : Nat) (symbols : List Nat)
  /-- CHOPPER: the lanes, the slot and the four decisions (R99) -/
  | chopper (lanes slot : Nat) (decisions : List Nat)
  /-- CONTROL: the lane, the tag and the command (R100) -/
  | control (lane tag : Nat) (op : CtlOp)
  /-- the pattern of a training step on the lanes of a mask: 1 and 2 PRBS13, from 4 on framed; or electrical idle
  (Table 3-6, R620) -/
  | training (lanes step : Nat)
  /-- the test pattern of SOR_CFG.TEST on both lanes: 1 PRBS13, 2 PRBS31 (Table 3-10) -/
  | pattern (test : Nat)
  | idle
deriving DecidableEq, Repr

/-- An operation of the Saltern controller on the flash (R489). -/
inductive FlashOp where
  /-- a page program: superblock, page, what the page stands for, and its main area, metadata and spare area as programmed -/
  | program (sb page : Nat) (p : FlashPage) (image : List Byte × List Byte × List Byte)
  /-- a journal page, programmed to a LUN on channel `q` and to one on channel `q + 6` (R504) -/
  | journal (q seq : Nat) (recs : List (BitVec 128))
  | checkpoint (seq : Nat)
  | erase (sb : Nat)
  | read (lsn page : Nat)
  | boot (kind : Nat)
deriving DecidableEq, Repr

/-- What a command makes the part put on an interface. -/
inductive Out where
  /-- a posted write to host memory at a host physical address; `ro` is the relaxed-ordering attribute (R444) -/
  | hostWrite (addr : Nat) (bytes : List Byte) (ro : Bool := false)
  /-- a read request of transfer `x` (R442) -/
  | hostRead (x : Nat) (addr : Nat) (len : Nat)
  /-- the untranslated fetch of R428 -/
  | fwFetch (addr : Nat) (len : Nat)
  /-- an MSI-X message -/
  | msix (vec : Nat)
  /-- a vendor-defined sideband message (R422) -/
  | sideband (code : Nat) (payload : Nat)
  /-- a completion of a sideband register access; `ur` is Unsupported Request (R421) -/
  | sbReply (ur : Bool) (value : Word)
  /-- a block or cell on the downstream lanes of port `p` -/
  | down (p : Nat) (c : DownCell)
  /-- a Nerindian message with its link sequence and its 8-byte header (R562) -/
  | ner (seq : BitVec 16) (m : NerMsg) (header : List Byte)
  /-- the training of the four Nerindian lanes; `first` is the end that sends first (R561) -/
  | nerTraining (first : Bool)
  /-- the Nerindian transmitters are idle (R363) -/
  | nerIdle
  /-- an acknowledgement of a Nerindian sequence outside a HEARTBEAT (R562) -/
  | nerAck (seq : BitVec 16)
  /-- a flash operation -/
  | flash (o : FlashOp)
  /-- the blocks of a ledger band, with their seals, that pickup `p` burns as commit `commit` (R521, R523) -/
  | ledger (p commit : Nat) (blocks : List (List Byte))
  /-- the completion entry made for a command, before its ring write (R474): SQ, cid, status, result -/
  | completed (sq cid status : Nat) (result : BitVec 64)
  /-- the response of the I²C target to its address (R599) -/
  | i2cAck (ack : Bool)
  /-- bytes that the host of the I²C bus reads from the pointer on (R599) -/
  | i2cData (bytes : List Nat)
  /-- the test data register that the instruction selects, as captured: its length and value (R600) -/
  | jtagData (length value : Nat)
  /-- a scratchpad word delivered to its requester, with its poison mark (R395) -/
  | memData (user : MemUser) (addr : Nat) (value : BitVec 64) (poison : Bool)
deriving DecidableEq, Repr

/-! ## The event recorder (R576, Table 16-3) -/

/-- A record as the recorder holds it; its CRC is computed from these fields. -/
structure EvRec where
  seq : BitVec 48
  time : BitVec 64
  node : BitVec 14
  unit : Nat
  code : BitVec 16
  sev : Nat
  payload : List Byte
deriving DecidableEq, Repr

/-- An event queue entry that waits for space in the ring (R472, Table 13-4). -/
structure EqEnt where
  seq : BitVec 48
  unit : Nat
  sev : Nat
  cls : Nat
  code : BitVec 16
  node : BitVec 14
  count : Nat
  object : Nat
  argument : Nat
  time : BitVec 64
deriving DecidableEq, Repr

/-- A record to be made, with what its event queue entry carries. -/
structure RecReq where
  code : BitVec 16
  unit : Nat
  sev : Nat
  payload : List Byte
  cls : Nat
  count : Nat
  object : Nat
  argument : Nat
  /-- posted whatever the filter (R472) -/
  force : Bool
  time : BitVec 64
  node : BitVec 14
deriving DecidableEq, Repr

/-- What a meaning asks of the recorder and the interfaces, in order. -/
inductive Emit where
  | record (r : RecReq)
  /-- a reset; `clear` for the causes that clear the recorder, `tg` for the one that resets TG_ (Table 10-4) -/
  | reset (clear tg : Bool)
  /-- step 8: the START record, then the latched events (R576) -/
  | start (r : RecReq)
  /-- fallback: the recorder runs and events are entered at once (R576) -/
  | live
  /-- RECORDER CLEAR up to and including a sequence (R580) -/
  | clear (last : BitVec 48)
  /-- SET FEATURE EVENT_FILTER (R472) -/
  | filter (n : Nat)
  /-- DIAGNOSTIC clears REC_OVERWRITE (R589) -/
  | zeroOverwrite
  | out (o : Out)
deriving DecidableEq, Repr

/-- The event recorder (array 8). -/
structure Recorder where
  /-- held records, oldest first -/
  held : List EvRec
  /-- the sequence of the next record -/
  next : BitVec 48
  /-- records overwritten, saturating (REC_OVERWRITE) -/
  overwrite : Nat
  /-- RECORDER CLEAR commands made (REC_CLEAR_CNT) -/
  clears : Nat
  /-- step 8 reached, or fallback: records are made at once (R576) -/
  live : Bool
  /-- events that arose before step 8, in order -/
  latched : List RecReq
  /-- event queue entries waiting for space (R472) -/
  waiting : List EqEnt
  /-- the lowest severity posted (EVENT_FILTER; reset 3, R577) -/
  filter : Nat
deriving DecidableEq, Repr

/-! ## Host attachment, translation and DMA -/

/-- What a transfer is for, and what happens when it can proceed (Table 12-6 source). -/
inductive Purpose where
  | sqFetch (q : Nat)
  | cqPost (c : Nat)
  | dataRead (ctx : Nat)
  | dataWrite (ctx : Nat)
  | sealRead (ctx : Nat)
  | sealWrite (ctx : Nat)
  | hlmFill (line : Nat)
  | hlmBack (line : Nat)
  | eventPost
  | faultPost
  | headMirror (q : Nat)
deriving DecidableEq, Repr

/-- Where a transfer stands. -/
inductive XSt where
  /-- waiting for one of the 32 walkers (R433) -/
  | ready
  /-- a walk is running -/
  | walking
  /-- a read request is on the link (R442) -/
  | issued (len : Nat)
  /-- parked on an open fault (R436) -/
  | parked (fault : Nat)
  /-- parked by the withdrawal of bus mastering (R445) -/
  | noBus
  /-- every byte moved -/
  | done
deriving DecidableEq, Repr

/-- A transfer between the device and host memory (R429, R436). -/
structure Xfer where
  id : Nat
  what : Purpose
  cls : Nat
  write : Bool
  asid : Nat
  va : Nat
  left : Nat
  sq : Nat
  cid : Nat
  ctx : Nat
  st : XSt
deriving DecidableEq, Repr

/-- A leaf translation of the TLB (R433). -/
structure Tlb where
  asid : Nat
  /-- base address of the page in the address space -/
  va : Nat
  /-- page size in bytes: 4 KiB, 2 MiB or 1 GiB -/
  size : Nat
  frame : Nat
  r : Bool
  w : Bool
deriving DecidableEq, Repr

/-- An entry of the walk cache: the table that serves `va` at `level` (R433). -/
structure WalkEnt where
  asid : Nat
  level : Nat
  va : Nat
  table : Nat
  r : Bool
  w : Bool
deriving DecidableEq, Repr

/-- An open translation fault (R436, R437). `posted = false` waits for a fault record to free. -/
structure OpenFault where
  id : Nat
  type : Nat
  level : Nat
  write : Bool
  cls : Nat
  src : Nat
  asid : Nat
  va : Nat
  sq : Nat
  cid : Nat
  ctx : Nat
  left : Nat
  time : BitVec 64
deriving DecidableEq, Repr

/-- A ring that the device writes: the fault queue or the event queue (R456, R457). -/
structure DevRing where
  tail : Nat
  phase : Bool
  head : Nat
  /-- stopped by ABORT of a fault on it (Table 12-7) -/
  stopped : Bool
deriving DecidableEq, Repr

/-- The translation and DMA unit. -/
structure Mmu where
  tlb : List Tlb
  walks : List WalkEnt
  xfers : List Xfer
  nextX : Nat
  faults : List OpenFault
  nextFault : Nat
  /-- fault entries not yet written to the fault ring, oldest first -/
  toPost : List OpenFault
  /-- faults that wait for a fault record to free (R437) -/
  spill : List OpenFault
  /-- self faults waiting behind the latched one (R441): queue, type and VA -/
  selfWait : List (Bool × Nat × Nat)
  /-- the host-lent memory grant: ASID, VA base and size (R446) -/
  hlm : Option (Nat × Nat × Nat)
  faultRing : DevRing
  eventRing : DevRing
deriving DecidableEq, Repr

/-! ## Queues and commands -/

/-- A submission queue (R456 to R471); the admin SQ has identifier 0. -/
structure Sq where
  state : Nat
  asid : Nat
  prio : Nat
  cq : Nat
  size : Nat
  base : Nat
  limit : Nat
  /-- index of the next entry to fetch -/
  fetch : Nat
  /-- published head (R458) -/
  head : Nat
  /-- last tail read -/
  tail : Nat
  /-- latched index and cause of an error stop -/
  latched : Nat
  cause : Nat
  /-- fetched entries from the published head on: true once the completion is posted -/
  slots : List Bool
  discarded : Nat
  ended : Nat
deriving DecidableEq, Repr

/-- A completion entry (Table 13-6) that waits to be written. -/
structure Cqe where
  result : BitVec 64
  sq : Nat
  cid : Nat
  status : Nat
  dnr : Bool
  notify : Bool
  slot : Nat
  ctx : Nat
deriving DecidableEq, Repr

/-- A completion queue; the admin CQ has identifier 0. -/
structure Cq where
  err : Bool
  asid : Nat
  vector : Nat
  size : Nat
  base : Nat
  tail : Nat
  phase : Bool
  head : Nat
  held : List Cqe
  /-- entries written and not yet signalled (R475) -/
  unsig : Nat
  count : Nat
  timeUs : Nat
deriving DecidableEq, Repr

/-- What a started command waits for. -/
inductive Wait where
  /-- fetched, not started -/
  | fresh
  /-- ended; its completion entry is made and waits for its ring -/
  | finished
  /-- being served within a step -/
  | run
  | atSpeed (n : Nat)
  | spOff (n : Nat)
  | grantOff (n : Nat)
  | axes (l : List Nat)
  | homed (a : Nat)
  | focused (p : Nat)
  | facqEnd (p : Nat)
  | onTrack (p : Nat)
  /-- a seek that waits for FOCUSED or ON_TRACK (R262) -/
  | seekLater (p : Nat) (layer track : Nat)
  /-- a SERVO MODE start that takes effect when a move ends (R262) -/
  | servoLater (p layer : Nat)
  | calib (mask : Nat)
  | queueOff (q : Nat)
  | invalidated (reqs : List Nat)
  | cacheOff
  | hlmBack
  | deep
  | admission
  | ingest
  | durable
  | deliver
  | verify
  | staging
  | recorded
  | media (sp : Nat)
  | unload (sp : Nat)
  | setCommit (vol : Nat)
  | takeover (pk : Nat) (sp : Nat)
  /-- a takeover that waits for the peer to release what it holds of the named mechanisms (R573) -/
  | release (pk : Nat) (sp : Nat)
  | bufWrite
deriving DecidableEq, Repr

/-- A command context (R461). -/
structure Ctx where
  sq : Nat
  slot : Nat
  e : Sqe
  wait : Wait
  /-- the completion is suppressed (DISABLING, R469) -/
  mute : Bool
  /-- bytes received for, or still to be moved by, the command -/
  buf : List Byte
  seals : List Byte
  /-- LBs of the command still to be dealt with: their LBAs -/
  todo : List Nat
  /-- the two halves of the result while it is gathered -/
  acc0 : Nat
  acc1 : Nat
  /-- blocks gathered for delivery, by LBA -/
  got : List (Nat × StagedLb)
  /-- the LBA before which delivery stops, and the status that the command will complete with -/
  stop : Option Nat
  st : Nat
  /-- LBs that wait for the ingest of an earlier WRITE (R477): LBA and its context -/
  after : List (Nat × Nat)
  /-- order of fetch (R476) -/
  order : Nat
deriving DecidableEq, Repr

/-- The queue engine. -/
structure Que where
  sqs : List (Nat × Option Sq)
  cqs : List (Nat × Option Cq)
  ctxs : List (Nat × Option Ctx)
  /-- the generation counters as last read (R453) -/
  gens : List (Nat × Nat)
  weights : List Nat
  credits : List Nat
  last : List Nat
  nextOrder : Nat
deriving DecidableEq, Repr

/-- A background operation (R485, Table 13-11). -/
structure BgOp where
  type : Nat
  state : Nat
  step : Nat
  done : Nat
  object : Nat
  /-- the command's scope (SANITISE), one more than the spindle (disc FORMAT), or the member (rebuild) -/
  arg : Nat
  /-- the new set of a reshape: k, p, cross-pair and members -/
  plan : List Nat
deriving DecidableEq, Repr

/-! ## Clocks, Tidegate, start-up and the fuses -/

/-- The fuses (R380, R397, R581, R586) and what provisioning puts into them. -/
structure Fuses where
  /-- 0 SYV8160-AA, 1 SYV8160-AB -/
  variant : Nat
  serial : BitVec 64
  /-- node identifier bits [13:4] -/
  nidHi : BitVec 10
  lifeCycle : Nat
  transCnt : Nat
  secVer : Nat
  subVendor : BitVec 16
  subId : BitVec 16
  ownerKey : List Byte
  ownerRevoked : Bool
  /-- factory remap entries: array, bank, word -/
  remaps : List (Nat × Nat × Nat)
  revokedKeys : List Nat
deriving DecidableEq, Repr

/-- The clock, reset and Tidegate unit beyond its registers. -/
structure Clk where
  /-- device time in 1/65536 ns (R369) -/
  time : BitVec 80
  /-- CORE cycles since reset -/
  cyc : Nat
  tideOk : Bool
  mainOk : Bool
  deep : Bool
  /-- start-up stopped (R403, R405) or held in the boot ROM (R382) -/
  stopped : Bool
  /-- a trip waits for fallback or relock (R366) -/
  tripped : Bool
  relocks : Nat
  fboPeriods : Nat
  /-- what is left to slew out, in 1/65536 ns (R371) -/
  slew : Int
  /-- how much of the TIDE period now running device time does not yet hold, in 1/65536 ns (R369) -/
  tide : Nat
  tenM : Bool
  secArmed : Bool
  /-- sensed VDDQ_ONF in mV (R604) -/
  vddqMv : Nat
  onfOk : Bool
  /-- a tamper latched through OFF waits for step 8 (R585) -/
  tamperLatched : Bool
  /-- comparator matches remembered in OFF (R374) -/
  cmpLatched : BitVec 4
  xtalBad : Bool
  /-- the CLKOUT pin is driven (R358, R598) -/
  clkout : Bool
  sensors : List Int
  thermN : Bool
  thermLatch : Bool
  thermHold : Bool
  i2cPtr : Nat
  jtagIr : Nat
  powerFail : Bool
  /-- automatic gating has stopped these units' clocks (R357) -/
  autoOff : BitVec 14
  /-- a request to enter DEEP is accepted (R36) -/
  entering : Bool
deriving DecidableEq, Repr

/-- Firmware slots and what runs (R586 to R588); slots 0 and 1 and the recovery image (record type 9). -/
structure FwSlot where
  loaded : Nat
  /-- the parts loaded so far (R587) -/
  image : List Byte
  header : Option FwHeader
  valid : Bool
deriving DecidableEq, Repr

/-- The management complex beyond its registers. -/
structure Mgmt where
  slots : List FwSlot
  recovery : FwSlot
  active : Nat
  nextActive : Nat
  running : Option FwHeader
  activated : Bool
  authFails : Nat
  lockout : Bool
  service : Bool
  /-- PEER CONFIGURE flags: mirror ingest, mirror journal -/
  mirrorIngest : Bool
  mirrorJournal : Bool
  /-- key handles of the secure part in use (R585) -/
  handles : Bool
  /-- a reset that waits for the completion of FIRMWARE ACTIVATE to be posted (Table 13-9) -/
  resetDue : Bool
  bgNext : Nat
  bgOps : List (Nat × Option BgOp)
deriving DecidableEq, Repr

/-- The memory system beyond its registers (R396 to R399). -/
structure MemSys where
  /-- remapped words: key array·2^32 + bank·2^20 + word -/
  remaps : List (Nat × Nat)
  /-- corrected errors per word since start-up -/
  ceCount : List (Nat × Nat)
  /-- remaps made in service, saved to the boot area (R397) -/
  service : List Nat
  /-- the critical store: value of each word (R399) -/
  critical : List (Nat × Nat)
  retired : List Nat
  /-- the scratchpad words, those of converted ways too, as their 72 stored bits (R391); unlisted: zero -/
  words : List (Nat × Nat)
  /-- their valid rows, keyed by the first word of the row, as their 72 stored bits (R391); unlisted: zero -/
  rows : List (Nat × Nat)
  /-- words that hold poison (R396) -/
  poisoned : List Nat
  /-- scratchpad requests that wait for their bank, with the cycles that they have waited (R385) -/
  queue : List (MemReq × Nat)
deriving DecidableEq, Repr

/-- A line of the Brine cache (R406). -/
structure Line where
  tag : Nat
  dirty : Bool
  /-- locked in place by a faulting eviction (R408) -/
  stuck : Bool
  data : List Byte
deriving DecidableEq, Repr

/-- The Brine cache beyond its registers; lines are keyed by set·16 + way. -/
structure Brine where
  lines : List (Nat × Option Line)
  /-- pseudo-LRU tree of each set, 15 bits -/
  plru : List (Nat × Nat)
  /-- corrected errors per way within AUTO_WIN: way, time in s -/
  wayCe : List (Nat × Nat)
deriving DecidableEq, Repr

/-! ## Saltern staging -/

/-- A segment map entry (Table 14-4). -/
structure SegEnt where
  sb : Nat
  seg : Nat
  state : Nat
  mirror : Bool
  live : Nat
  gen : Nat
  opseq : Nat
deriving DecidableEq, Repr

/-- An entry of the superblock table (R506). -/
structure SbEnt where
  state : Nat
  erases : Nat
  bad : List Nat
  reads : Nat
deriving DecidableEq, Repr

/-- A staged LB of the index (R500). -/
structure IdxEnt where
  vol : Nat
  lba : Nat
  lsn : Nat
  slot : Nat
  gen : Nat
  mirror : Bool
deriving DecidableEq, Repr

/-- A write stream (R499): its open segment and superblock, the next segment of that superblock, and the
next page of the segment. -/
structure Stream where
  lsn : Option Nat
  sb : Option Nat
  seg : Nat
  page : Nat
deriving DecidableEq, Repr

/-- A page program asked for (R501), with the contexts whose WRITE waits for it. -/
structure Prog where
  stream : Nat
  /-- the LUN of its page; none: no superblock was free for its LBs, which wait for one -/
  lun : Option Nat
  /-- the operation has been given to its LUN (Table 1-2) -/
  issued : Bool
  sb : Nat
  seg : Nat
  pg : FlashPage
  ctxs : List Nat
  /-- for a mirrored page, the sender's page sequence, which its MIRROR ACK names -/
  ack : Nat
deriving DecidableEq, Repr

/-- What a page read in flight is for: a READ or VERIFY of a context, the read-out of a band for its burn, a segment copy, or
a fetch by the peer. -/
inductive ReadFor where
  | host (ctx : Nat)
  | burn
  | gc
  | peer (volume lba : Nat)
deriving DecidableEq, Repr

/-- A page read asked for. -/
structure PRead where
  id : Nat
  lun : Option Nat
  /-- the operation has been given to its LUN (Table 1-2) -/
  issued : Bool
  lsn : Nat
  page : Nat
  why : ReadFor
  /-- the page as it stood when the read was issued (R477) -/
  pg : Option FlashPage
deriving DecidableEq, Repr

/-- A release range (R506): volume, LBA, count, generation, highest open sequence at release. -/
structure Rel where
  vol : Nat
  lba : Nat
  count : Nat
  gen : Nat
  opseq : Nat
  mirror : Bool
deriving DecidableEq, Repr

/-- A checkpoint in the journal area (R506). -/
structure Ckpt where
  seq : Nat
  map : List (Nat × Option SegEnt)
  sbs : List (Nat × SbEnt)
  rels : List Rel
  streams : List Stream
  /-- the last open sequence given -/
  opseq : Nat
  firstJournal : Nat
deriving DecidableEq, Repr

/-- The boot area (Table 14-9). -/
structure Boot where
  formatted : Bool
  keyGen : Nat
  discCounter : BitVec 34
  remaps : List Nat
  ways : BitVec 16
  /-- peer node, mirror ingest, mirror journal, heartbeat interval, HOME_SP (type 10) -/
  peer : Option (Nat × Bool × Bool × Nat × Nat)
  tamperHold : Bool
  ops : List (Nat × Option BgOp)
deriving DecidableEq, Repr

/-- What the parameter page of a target says (R490). -/
structure Target where
  pageBytes : Nat
  spareBytes : Nat
  pagesPerBlock : Nat
  blocks : Nat
  luns : Nat
deriving DecidableEq, Repr

/-- The staging flash: what survives without power. Pages are keyed by
(superblock·512 + segment)·2048 + page. -/
structure Flash where
  ce : Nat
  luns : Nat
  pagesPerBlock : Nat
  blocks : Nat
  pageBytes : Nat
  spareBytes : Nat
  /-- the targets, by channel · 8 + chip enable, whose parameter page says something else -/
  oddTargets : List (Nat × Target)
  /-- the LUNs whose factory marks say that a block is bad, by superblock (R492) -/
  factoryBad : List (Nat × List Nat)
  pages : List (Nat × Option FlashPage)
  journal : List (Nat × List (BitVec 128))
  ckpts : List Ckpt
  boot : Boot
  /-- the calibration area (R338): the committed sets by quantity and scope, as (temperature, values) points -/
  cal : List (Nat × List (Int × List Int))
deriving DecidableEq, Repr

/-- The Saltern controller beyond its registers. -/
structure Sal where
  map : List (Nat × Option SegEnt)
  sbs : List (Nat × SbEnt)
  idx : List IdxEnt
  streams : List Stream
  progs : List Prog
  reads : List PRead
  nextRead : Nat
  pend : List (BitVec 128)
  jseq : Nat
  ckptSeq : Nat
  pageSeq : Nat
  opseq : Nat
  rels : List Rel
  gcVictim : Option Nat
  /-- the segment in copy and its target segment (Table 14-7) -/
  gcLsn : Option (Nat × Nat × Nat)
  /-- superblocks whose erase is asked for and not yet issued -/
  erasing : List Nat
  scheduled : List Nat
  /-- own-stream pages not yet covered by a MIRROR ACK: page sequence and contexts -/
  unacked : List (Nat × List Nat × FlashPage)
  /-- key pair in the secure part -/
  keyGen : Option Nat
  /-- volumes and stripes moved to the front of the burn order (R515) -/
  priority : List (Nat × Nat)
  /-- segments whose residency record is made (R515) -/
  aged : List Nat
  /-- LBs asked of the peer under R514: volume and LBA -/
  fetching : List (Nat × Nat)
  /-- the controller has not reached step 8 and does not use the flash yet -/
  wpAll : Bool
  /-- ONFn_WP_N is low: nothing has been programmed or erased since the reset (R363) -/
  wpLow : Bool
  /-- what recovery finds, while it waits for VDDQ_ONF to agree (R604) -/
  scan : Option SalternScan
deriving DecidableEq, Repr

/-! ## Disc sets and discs -/

/-- A volume's set (Table 15-8). Members are (disc identifier, node). -/
structure DiscSet where
  k : Nat
  p : Nat
  cross : Bool
  gen : Nat
  reserve : Nat
  members : List (Nat × Nat)
  /-- failed members (vacant slots) -/
  failed : List Nat
  /-- the failed members to which a spare has been assigned -/
  spared : List Nat
  /-- clusters of each member recovered since it was loaded -/
  unread : List (Nat × Nat)
  offline : Bool
  dead : Bool
  rebuilding : List Nat
  reshaping : Bool
  sealedVol : Bool
  reserveNext : Nat
  /-- ledger commits owed to complete a command: member·2 + side -/
  owed : List Nat
  /-- the MEMBER records of changes that no ledger of the set holds yet (R546) -/
  unwritten : List (BitVec 128)
  /-- the descriptor's destroyed flag is to be committed (R532) -/
  destroyed : Bool
  home : Bool
  created : BitVec 64
deriving DecidableEq, Repr

/-- A stripe that is in flight or recorded (R545): its slot, the members that have burned and recorded
it, the LBs (by index in the stripe) closed as pad LBs (R541), and the write generations other than 0 of
what was burned. -/
structure Stripe where
  slot : Nat
  burned : Nat
  recorded : Nat
  released : Bool
  closed : Bool
  /-- burned once, with newer LBs staged: to be placed anew (R519) -/
  anew : Bool
  pads : List Nat
  gens : List (Nat × Nat)
deriving DecidableEq, Repr

/-- A stripe run of a ledger (Table 14-11): stripes of a volume from `first` on in the order of its side, on a member, from a
packed cluster address on, recorded by a commit. -/
structure LedgerRun where
  volume : Nat
  member : Nat
  first : Nat
  count : Nat
  slot : Nat
  commit : Nat
deriving DecidableEq, Repr

/-- A disc loaded on a spindle (R524, R525). -/
structure Disc where
  id : Nat
  epoch : Nat
  blank : Bool
  foreign : Bool
  formatted : Bool
  /-- the set it belongs to: volume and member -/
  member : Option (Nat × Nat)
  /-- next commit of each side -/
  commits : List Nat
  /-- band states other than blank: side, layer, band → 1 burned, 2 with replacements, 3 damaged, 4 started -/
  bands : List (Nat × Nat)
  spare : Bool
  /-- next unused spare cluster of each side, layer and zone (R517) -/
  spares : List (Nat × Nat)
  /-- the stripe runs that its ledgers record (Table 14-11) -/
  runs : List LedgerRun
  /-- the sealed volumes that its ledgers record: side, volume, commit -/
  seals : List (Nat × Nat × Nat)
deriving DecidableEq, Repr

/-- A disc of which nothing is recorded. -/
def Disc.empty : Disc :=
  { id := 0, epoch := 0, blank := true, foreign := false, formatted := false, member := none, commits := [0, 0], bands := [],
    spare := false, spares := [], runs := [], seals := [] }

/-- A lost-stripe list entry (Table 15-7). -/
structure Lost where
  vol : Nat
  cause : Nat
  stripe : Nat
  count : Nat
  dmask : Nat
  lbmask : Nat
deriving DecidableEq, Repr

/-- A stripe remap or a cluster replacement of a disc (Table 14-11). -/
structure Remap where
  vol : Nat
  stripe : Nat
  old : Nat
  new : Nat
  cause : Nat
  /-- the member of a replacement; none for a stripe remap -/
  member : Option Nat
  committed : Bool
  /-- the commit that made it durable -/
  commit : Nat
deriving DecidableEq, Repr

/-- A cluster being recovered from set parity (R540, R553): its volume, stripe and member, the clusters of
other members read so far, the members found unavailable, and the READs that wait. -/
structure Recov where
  vol : Nat
  stripe : Nat
  member : Nat
  got : List (Nat × List (List Byte))
  bad : List Nat
  ctxs : List Nat
deriving DecidableEq, Repr

/-- The parity frames that a pickup's pre-pass has formed for one band: the bodies of roles 16 and 17 of each cluster,
by the cluster's packed address (R224). -/
structure PrePass where
  pickup : Nat
  disc : Nat
  layer : Nat
  band : Nat
  /-- the clusters that it read, 16 words each -/
  words : List (Nat × List (List Byte))
  parity : List (Nat × List Byte × List Byte)
deriving DecidableEq, Repr

/-- The Crystalliser and set engine beyond its registers. -/
structure SetEng where
  /-- by volume; a reshape's new set is kept under its volume + 65,536 until the switch, and the set that it
  replaces under volume + 131,072 until its members' ledgers say that it is destroyed -/
  sets : List (Nat × Option DiscSet)
  /-- by volume·2^32 + stripe -/
  stripes : List (Nat × Option Stripe)
  /-- the disc loaded on each spindle -/
  discs : List (Nat × Option Disc)
  /-- the spare pool: disc identifier and node, oldest first -/
  pool : List (Nat × Nat)
  lost : List Lost
  remaps : List Remap
  /-- clusters to be burned that no stripe here supplies: those received from the home, and those recovered for a
  spare: disc, packed address, words -/
  guest : List (Nat × Nat × List (List Byte))
  /-- clusters to be read: disc, packed cluster address, contexts that wait -/
  wants : List (Nat × Nat × List Nat)
  recovs : List Recov
  /-- LBs read from disc for a stripe placed anew (R519): volume, LBA, block -/
  held : List (Nat × Nat × StagedLb)
  /-- media requests posted and not yet met: volume, member -/
  asked : List (Nat × Nat)
  /-- frames that a stall or a busy slot has missed, to be re-read: disc and packed address (R163, R165) -/
  missed : List (Nat × Nat)
  /-- clusters to be re-read, as the outer decoders report them: disc, address, attempt (R202) -/
  rereads : List (Nat × Nat × Nat)
  /-- parity frames that the write channel's pre-pass has put into host-lent memory (R224) -/
  prepass : List PrePass
deriving DecidableEq, Repr

/-! ## Peer -/

/-- The Nerindian peer unit beyond its registers. -/
structure Peer where
  txSeq : BitVec 16
  /-- sent and unacknowledged -/
  unacked : List (BitVec 16 × NerMsg)
  /-- received good sequences to acknowledge -/
  toAck : List (BitVec 16)
  /-- sequences received (duplicates are discarded) -/
  seen : List (BitVec 16)
  training : Bool
  hbRun : Nat
  lost : Bool
  last : Option Heartbeat
  claimed : Nat
  waitClaim : Bool
  /-- mechanisms asked for in a takeover and not yet granted: spindles, pickups -/
  wantSp : Nat
  wantPk : Nat
deriving DecidableEq, Repr

/-! ## Sorrel ports -/

/-- A CONTROL cell without its response: tag, command and timeouts so far (R116). -/
structure CtlWait where
  tag : Nat
  op : CtlOp
  tries : Nat
deriving DecidableEq, Repr

/-- A Sorrel port beyond its registers. -/
structure Port where
  /-- the training step in progress, 1 to 6 (Table 3-6); 0 outside training -/
  step : Nat
  /-- failed trainings since training was started -/
  tries : Nat
  /-- superframes since the framed phase of the last full training (R86) -/
  sf : Nat
  /-- consecutive uncorrectable codewords of each upstream lane (R80) -/
  runs : List Nat
  /-- superframes in a row without an SFS on each upstream lane (R80) -/
  quiet : List Nat
  /-- the delineation of each upstream lane, in 16-bit units, as the last SFS left it; none before the first (R84) -/
  delin : List (Option Nat)
  /-- lanes lost or retraining -/
  lostUp : BitVec 8
  lostDn : BitVec 2
  nextTag : Nat
  ctl : List CtlWait
  /-- commands held until UP, in order, with their timeouts so far (R116) -/
  heldCtl : List (CtlOp × Nat)
  /-- the port of the front-end that this is, from the SFS: 0 A, 1 B -/
  fePort : Nat
  /-- control blocks discarded for a reserved code (R83) -/
  discards : Nat
  /-- SERVO channels decoded for the tick: channel·2 + half, and the 32 samples (R91, R92) -/
  servo : List (Nat × List Int)
  /-- the tick of this superframe has been computed or has missed its cutoff (R236) -/
  ticked : Bool
  /-- winding currents of the last CURRENT cell (R93): slot, then the four values -/
  curSlot : Option Nat
  cur : List Int
  laserFault : BitVec 9
  underruns : BitVec 8
  /-- held drives read after a takeover: address and value (R122) -/
  heldDrives : List (Nat × Nat)
  /-- the last ACTUATOR cell sent, repeated on a miss (R237) -/
  lastCell : Option DownCell
  /-- the round trip for which D_CH was set (R325) -/
  chRtt : Nat
  /-- the cells handed to each downstream lane and not sent in full by its last SFS, in order: 16-bit units left (R83) -/
  queue : List (List Nat)
deriving DecidableEq, Repr

/-! ## Read channel -/

/-- A frame in a spot buffer slot: the descriptor and the stored extent (Tables 4-5, 4-6). -/
structure SFrame where
  addr : Nat
  spot : Nat
  zone : Nat
  /-- 0 = 10,000 rpm, 1 = 7,500 rpm -/
  speed : Nat
  inferred : Bool
  near : Bool
  slip : Bool
  uncertain : Bool
  training : Bool
  land : Bool
  draw : Bool
  delta : Int
  dist : Nat
  time : BitVec 64
  /-- time of the last sample in CORE cycles -/
  cyc : Nat
  defects : Nat
  /-- the slot that holds it, 0 or 1 (R161) -/
  slot : Nat
  /-- the frame's start P_f and the position of the slot's first sample, both in the present count -/
  pf : Int
  start : Int
  /-- the sync decision has been made (R156) -/
  synced : Bool
  /-- samples y2 of positions P_f − 12 on, each with its erased tag -/
  samples : List (Int × Bool)
deriving DecidableEq, Repr

/-- The tag of an input sample (R123). -/
inductive STag where
  /-- a sample of the data field -/
  | data
  /-- a sample inside a wedge gap -/
  | gap
  /-- a sample that carries no information -/
  | erased
deriving DecidableEq, Repr

/-- A canceller output: its position, its value, the erased tag and the neighbour samples that it used, by tap. -/
structure Y2 where
  k : Int
  y : Int
  er : Bool
  ns : List (Nat × Int)
deriving DecidableEq, Repr

/-- A spot channel beyond its registers (R123 to R170). Samples are in 1/256 LSB. -/
structure Spot where
  /-- the next cell sequence, and the absolute index of its first sample; none before the first cell -/
  next : Option (Nat × Nat)
  /-- its cells have stopped: 1 with their lane or their port, 2 long enough for a stall (R114, R115) -/
  hush : Nat
  /-- recentred samples, newest first, since the last gap -/
  xs : List Int
  /-- conditioned samples with their tags, newest first -/
  zs : List (Int × STag)
  /-- index of the first sample after the last wedge gap -/
  gapEnd : Int
  /-- groups (u, a, z) of four samples that the loops have not consumed, oldest first (R134) -/
  lag : List (List (Int × Int × Int))
  /-- loop accumulators: b · 2^24, g · 2^28, β · 2^30, q · 2^24, the peak envelopes · 2^16 -/
  bA : Int
  gA : Int
  betaA : Int
  qA : Int
  pPos : Int
  pNeg : Int
  /-- the largest and the smallest z of the first half of an 8-sample block (R130) -/
  half : Option (Int × Int)
  /-- the envelope E · 256, and the block that feeds it -/
  env : Int
  envHi : Int
  envLo : Int
  envN : Nat
  /-- position of the next baud sample in input samples · 2^28, and the ratio -/
  mu : Int
  om : Int
  /-- stream position of the next baud sample, and the next wedge -/
  pos : Int
  seg : Nat
  /-- inside a wedge gap -/
  gap : Bool
  /-- interpolator output, newest first, from position `pos − 1` down -/
  vs : List (Int × Bool)
  /-- alignment FIFO: position, y, erased, newest first (R150) -/
  fifo : List (Int × Int × Bool)
  /-- next position of the canceller, and its output, newest first -/
  canc : Int
  y2s : List Y2
  /-- tentative detector: the path cost and the survivor of each state, newest bit first (R154) -/
  paths : List (Int × List Bool)
  /-- tentative decisions: position, bit, erased, newest first -/
  dec : List (Int × Bool × Bool)
  /-- equaliser and canceller taps · 2^30, and the moment that R149 restores -/
  eqA : List Int
  eqM : Int
  xtA : List Int
  /-- baud samples left with acquisition gains, and samples left with boosted steps (R136) -/
  acq : Nat
  boost : Nat
  /-- in a defect: samples since a criterion last held, samples that must still pass, baud periods so far -/
  hang : Nat
  keep : Nat
  defLen : Nat
  /-- the defect began with a discontinuity (R138) -/
  disc : Bool
  /-- frozen by a criterion in ACQUIRE (R34) -/
  frz : Bool
  /-- positions of triggers that the placer has not reached (Table 4-6) -/
  defs : List Int
  /-- position of the last good wedge check, and the position below which a slip erases (R144) -/
  good : Int
  slipTo : Option Int
  /-- correction to apply at the next frame boundary (R158) -/
  corr : Int
  /-- frames being written, oldest first, and frames complete and not yet handed over -/
  wr : List SFrame
  full : List SFrame
  /-- the last frame boundary and the last frame start that the canceller has passed, in frames of the present count,
  and whether a boundary has passed since the anchor -/
  edge : Int
  opened : Int
  begun : Bool
  /-- the slot of the next frame, and the slots in the Yarrow pool with the deadlines of their frames (R161, R162) -/
  nextSlot : Nat
  away : List (Nat × Nat)
  /-- in a band read: the frame-on-track at which the spot's revolution began, and its end, 1 in TRACK and 2 in
  DEFECT (R53) -/
  firstSlot : Option Nat
  fin : Nat
  /-- positions placed in the revolution, and how many of them erased (Table 9-3) -/
  placed : Nat
  erasedN : Nat
  /-- the first frame-on-track that a stall or a late anchor has missed (R165) -/
  missFrom : Option Nat
  /-- put into IDLE while STALLED: it goes there when its cells resume -/
  park : Bool
  /-- frames of preamble training left (R168) -/
  train : Nat
  /-- the next frame opens its window with SYNC_WIN_ACQ (R145) -/
  first : Bool
  /-- scope of the seed in force: side, layer, zone, speed, track type (R166) -/
  seed : Option (List Nat)
  /-- side, layer, band, track-in-band, speed, and whether frames are written and marked draw -/
  home : List Nat
  writes : Bool
  draw : Bool
deriving DecidableEq, Repr

/-! ## Yarrow -/

/-- A pass-1 or joint job that waits for an engine (R173, R184). -/
structure Job where
  fr : SFrame
  joint : Bool
  /-- deadline in CORE cycles -/
  dl : Nat
  /-- a joint job's wait for neighbour records ends at this cycle, and whether it is eligible -/
  wait : Nat
  elig : Bool
  /-- a frame of a held cluster in a re-read (R202) -/
  boost : Bool
  /-- the shift of pass 1, and its soft state, if a buffer was free (R195) -/
  shift : Int
  soft : Option (List Int)
  /-- LDPC iterations of pass 1 -/
  iters : Nat
deriving DecidableEq, Repr

/-- The stage that an engine is in (Table 5-1). -/
inductive Stage where
  | load | detect | iterate | screen | output
deriving DecidableEq, Repr

/-- An engine at work. -/
structure Work where
  job : Job
  stage : Stage
  /-- when the stage ends, in CORE cycles -/
  ends : Nat
  iters : Nat
  limit : Nat
  /-- detector output of the frame's positions, at shift 0, and that of pass 1 -/
  det : List Int
  /-- decoder: block LLRs and check messages -/
  l : List (List Int)
  r : List (List (List Int))
  weight : Nat
  stall : Nat
  conv : Bool
  shift : Int
  screened : Bool
  cut : Bool
  /-- the interference of a joint job, from the records present at its start (R184) -/
  minus : List Int
  /-- the neighbours that take part in a joint job, fixed at its start: tap group and decisions (R184) -/
  near : List (Nat × List Int)
  /-- stopped at its deadline (R188) -/
  stopped : Bool
deriving DecidableEq, Repr

/-- The decision record of a frame (R181): its address, and its decisions in halves, 0 where erased. -/
structure DRec where
  addr : Nat
  d : List Int
deriving DecidableEq, Repr

/-- A cluster at an outer decoder (R196 to R203). -/
structure Clu where
  pk : Nat
  disc : Nat
  addr : Nat
  attempt : Nat
  /-- an accumulator pair was free (R201) -/
  acc : Bool
  a0 : List Byte
  a1 : List Byte
  got : List Nat
  bad : List Nat
  /-- accepted data bodies, by role -/
  words : List (Nat × List Byte)
  /-- held for re-read (R202) -/
  held : Bool
deriving DecidableEq, Repr

/-- The Yarrow pool beyond its registers. -/
structure Yar where
  jobs : List Job
  eng : List (Nat × Option Work)
  /-- decision records by spot (R181) -/
  recs : List (Nat × DRec)
  /-- σ² of each spot in 1/256 -/
  sig : List (Nat × Int)
  /-- iterations of the last frames of each spot, newest first -/
  iters : List (Nat × List Nat)
  clus : List Clu
  /-- clusters to be re-read that no decoder holds: disc, address, attempt -/
  again : List (Nat × Nat × Nat)
  /-- register bits that have made their record in this revolution: bit address and instance -/
  made : List (Nat × Nat)
  /-- pickups whose position is to be verified at the next decoded wedge (Table 2-6) -/
  recheck : List Nat
  /-- clusters that have closed in the present revolution: pickup and address (R202) -/
  closed : List (Nat × Nat)
  /-- frames that found no soft-state buffer (R195), and clusters whose locator pointed at a parity role (R199) -/
  noSoft : Nat
  parityLoc : Nat
deriving DecidableEq, Repr

/-! ## Pickups: reads and burns -/

/-- A band read revolution (R53): disc, side, layer, band, start slot. -/
structure ReadRev where
  disc : Nat
  side : Nat
  layer : Nat
  band : Nat
  slot : Nat
deriving DecidableEq, Repr

/-- A frame that a write spot has encoded and not yet emitted in full: its slot, its first symbol since WRITE START and
the one after its last, the running digital sum before it, and the channel bit of each of its periods, none over a
wedge (R214, R226). -/
structure WFrame where
  slot : Nat
  first : Nat
  last : Nat
  rds : Int
  bits : List (Option Bool)
deriving DecidableEq, Repr

/-- A write spot of a burning pickup (R221 to R226, R232). -/
structure WSpot where
  /-- frames of the revolution encoded so far -/
  enc : Nat
  /-- the running digital sum of the track with what is encoded (R214) -/
  rds : Int
  /-- history of periods for the symbol choice, newest first -/
  past : List Bool
  /-- periods encoded and not yet sent: frame slot (none: a wedge or ungated period) and symbol -/
  buf : List (Option Nat × Nat)
  /-- WRITE cell sequence number, symbols sent and symbols emitted since WRITE START -/
  seq : Nat
  sent : Nat
  /-- emission: symbols · 2^32 since WRITE START, and the sample index of WRITE START -/
  emitted : Nat
  start : Nat
  /-- emission as far as write_en was 1: symbols · 2^32 since WRITE START (R214) -/
  written : Nat
  /-- frames encoded and not yet emitted in full, in order -/
  ends : List WFrame
  /-- stopped after WRITE ABORT until it resumes -/
  off : Bool
  /-- frames emitted in full, and frames that failed, of this revolution: frame slots -/
  done : List Nat
  lost : List Nat
deriving DecidableEq, Repr

/-- A band burn (R224 to R231). -/
structure Burn where
  disc : Nat
  vol : Nat
  member : Nat
  side : Nat
  layer : Nat
  band : Nat
  /-- a spare band (R231) -/
  spare : Bool
  /-- the start slot of revolution 0, once it has started -/
  slot0 : Option Nat
  rev : Nat
  /-- the revolution is being written -/
  on : Bool
  /-- the clusters of the band, 16 words of 4,112 bytes each -/
  clusters : List (Nat × List (List Byte))
  /-- what the pre-pass has computed of the parity frames of roles 16 and 17, by cluster (R224) -/
  parity : List (Nat × List Byte × List Byte)
  spots : List WSpot
  /-- judged frames: packed frame address and cause; frames passed -/
  failed : List (Nat × Nat)
  passed : List Nat
  /-- changed bits of the passing frames -/
  flips : Nat
deriving DecidableEq, Repr

/-! ## Calibration -/

/-- A calibrated value in force on a pickup: applied, target, and steps left (R346). -/
structure CalVal where
  applied : Int
  target : Int
  left : Nat
deriving DecidableEq, Repr

/-- A calibration run: whether it is full, the steps left (quantity, layer, zone, speed, track type) with the
runs of the first made so far, whether a suspension is asked for, and whether it is suspended (R341); by set, the means agreed
so far, which are committed at its end (R342, Table 9-4); what each revolution over the band in hand has read; and the commands
that it serves. -/
structure CalRun where
  full : Bool
  steps : List (List Nat)
  runs : List (List Int)
  asked : Bool
  paused : Bool
  found : List (Nat × List Int)
  read : List (List (Nat × List Int))
  serves : List Nat
deriving DecidableEq, Repr

/-- The calibration unit for one pickup. -/
structure CalPk where
  /-- temperatures of the last status cells, newest first (R335) -/
  temps : List Int
  evalAt : Option Int
  /-- pending run: 0 none, 1 drift, 2 full -/
  due : Nat
  /-- fully calibrated since power-up, disc load and takeover (Table 9-3) -/
  ready : Bool
  run : Option CalRun
  vals : List (Nat × Option CalVal)
  /-- the harvests of each scope that are not committed yet: temperature and values (R344, R345) -/
  harvest : List (Nat × List (Int × List Int))
  /-- write-scale steps of each layer and zone in 1/256, and quiet bands in a row (R348) -/
  ws : List (Nat × (Int × Nat))
  /-- the detector-offset codes last written, and those that the sets give: written once every spot is IDLE (R334, R346) -/
  codes : List Int
  aim : List Int
deriving DecidableEq, Repr

/-- The calibration unit: the working sets (R338), by quantity and scope, as points (temperature, values) in
rising temperature. -/
structure CalEng where
  sets : List (Nat × List (Int × List Int))
  pk : List (Nat × CalPk)
deriving DecidableEq, Repr

/-! ## Spindles and axes -/

/-- The pattern of a spindle's six phase gates over a PWM period, latched at count 0: all off; the duties of the three
phases, in 1/4096 (R294); or the zero vector, with the low sides closed below a count in the first and in the second half
of the period (R304, R307). -/
inductive GatePattern
  | off
  | pwm (duties : List Int)
  | zero (first second : Int)
deriving DecidableEq, Repr

/-- A spindle beyond its registers: currents in mA, voltages in mV, angles in 1/65536 electrical turn. -/
structure Spin where
  /-- a start is in force (R302) -/
  start : Bool
  /-- speed reference in 1/65536 rpm -/
  ref : Int
  /-- halvings of the deceleration (R313) -/
  cuts : Nat
  /-- consecutive speed updates within n*/1,024 (R301) -/
  near : Nat
  /-- duties in force and computed for the next period, in 1/4096 -/
  duties : List Int
  next : List Int
  /-- consecutive FOC misses -/
  misses : Nat
  /-- integrators of the current loops in 1/65536 mV, and periods with vq clamped in a row -/
  di : Int
  qi : Int
  clamped : Nat
  /-- iq_ref in mA, and the integrator of the speed loop in 1/65536 mA -/
  iqRef : Int
  si : Int
  /-- angle, electrical speed in 1/65536 turn per period scaled by 65536, and the observer's own state (R299) -/
  theta : Int
  we : Int
  obs : List Int
  /-- forced angle, scaled by 65536, and forced speed in 1/65536 rpm (R308) -/
  fAng : Int
  fSpd : Int
  /-- periods in a row with the observer within 30° -/
  lock : Nat
  /-- periods left of the angle blend -/
  blend : Nat
  /-- periods in the state -/
  period : Nat
  /-- catch probes, newest first: current magnitude and electrical angle (R304) -/
  probes : List (Int × Int)
  tries : Nat
  /-- between two start attempts, with the gates off (R309) -/
  pause : Bool
  /-- braking fraction in sixteenths (R307) -/
  short : Int
  /-- revolutions in a row with KE out of limits; the part of a revolution turned since the last check, in 1/65536 rpm times
  10 ns, the speed of the last update in 1/65536 rpm, and whether the speed was steady so far (R310) -/
  keBad : Nat
  turned : Int
  was : Int
  steady : Bool
  /-- the chopper response latched until the next start, and the bus stream stuck (R312, R314) -/
  esc : Bool
  stuck : Bool
  /-- the last bus output was above CHOP_ON (R313) -/
  rose : Bool
  /-- outputs of the bus filter in a row above ESC, and with low brake current, with the chopper commanded, and below UV (R312) -/
  escRun : Nat
  lowRun : Nat
  uvRun : Nat
  /-- the last bits of the modulators of phase A, phase B, bus and brake current, the newest in bit 0 (R290) -/
  histA : BitVec 600
  histB : BitVec 600
  histV : BitVec 96
  histR : BitVec 96
  /-- of each stream the last bit, the clocks since its last transition, and the most without one in the latest sample -/
  quiet : List (Bool × Nat × Nat)
  /-- the braking fraction in force, and periods in a row with the current below PROBE_MIN (R307) -/
  shortNow : Int
  calm : Nat
  /-- the period of the state whose probe is the latest (R304) -/
  probeAt : Nat
  /-- the parameters that the observer gains were derived from when the port was enabled (R299) -/
  gains : List Int
  /-- offsets of the current filters (Table 9-2) -/
  offA : Int
  offB : Int
  /-- sums of the filter outputs over the first 64 periods of OFF -/
  sumA : Int
  sumB : Int
  /-- the gate pattern of the period (R289, R294) -/
  gates : GatePattern
deriving DecidableEq, Repr

/-- A stepper axis beyond its registers: position and velocity in 1/65536 microstep (per s). -/
structure Axis where
  pos : Int
  vel : Int
  /-- speed limit of the move in microsteps/s, and what it is: 0 none, 1 MOTION, 2 offload, 3 seek, 4 homing
  toward the stop, 5 homing move, 6 coming to rest -/
  vmax : Int
  kind : Nat
  /-- the move that starts once the current has risen (R322): target, speed and kind, and slots left -/
  next : Option (Int × Int × Nat)
  rise : Nat
  /-- the position at the planner update before the last, from which the slots interpolate (R316) -/
  back : Int
  /-- a mismatch of the sled asks for homing at the next idle (R321) -/
  again : Bool
  /-- slots of the current reduction done, 0 to 1,024, and whether it runs (R322) -/
  low : Nat
  lowering : Bool
  /-- at the homing stop, waiting 50 ms -/
  wait : Bool
deriving DecidableEq, Repr

/-- A coordinated move (R318): axes, start positions in 1/65536 microstep, distances in microsteps, the path
parameter and its speed in 2^-40, whether it decelerates for a new target, and the next targets. -/
structure Coord where
  axes : List Nat
  x0 : List Int
  dist : List Int
  lam : Int
  lv : Int
  halt : Bool
  goal : List Int
  /-- members that a later move takes once the group is at rest (R318) -/
  leave : List Nat
deriving DecidableEq, Repr

/-- The chopper of a pickup's four windings: the slot, the currents received or taken (slot and values,
newest first), the decisions sent (slot and values, newest first), and slots lost and received in a row. -/
structure Chop where
  slot : Nat
  meas : List (Nat × List Int)
  dec : List (Nat × List Nat)
  lost : Nat
  got : Nat
  /-- chopper slots since the last planner update (R316) -/
  part : Nat
  /-- frozen under R329 -/
  frozen : Bool
deriving DecidableEq, Repr

/-! ## Servo engines -/

/-- A servo loop: outputs in 1/65536 output unit, errors in 1/65536 of 0.25 nm or µrad. -/
structure Loop where
  i : Int
  d : Int
  ePrev : Int
  uPrev : Int
  /-- notch states x1, x2, y1, y2 -/
  n0 : List Int
  n1 : List Int
  /-- observer: x[n−1], x[n−2] and u[n−1], u[n−2]; its estimate; the last FF term (R257) -/
  xs : List Int
  us : List Int
  est : Int
  ffPrev : Int
  /-- value in MANUAL -/
  man : Int
  /-- ticks in a row at OUT_LIM, and in BRIDGE -/
  sat : Nat
  run : Nat
  /-- a transfer under R261 is made at the next tick -/
  bump : Bool
  /-- the measurement of the last tick was plausible (R258) -/
  ok : Bool
deriving DecidableEq, Repr

/-- A feed-forward table (Table 7-4): valid, revolutions since, entries that are not 0. -/
structure Tab where
  valid : Bool
  rev : Nat
  ents : List (Nat × Int)
deriving DecidableEq, Repr

/-- What a servo procedure is doing. -/
inductive Phase where
  /-- none: the loops run as the engine state says -/
  | none
  /-- focus acquisition: waiting with the laser on, sweeping, returning, captured -/
  | laser | sweep | retract | capture
  /-- layer jump: kick, coast, brake pulse, settling, waiting for wedges -/
  | kick | coast | brake | settle | wedges
  /-- seek: sled move, coil seek, move profile, settling after it, waiting for a wedge to seek from -/
  | sled | fine | profile | land | restart
  /-- takeover: waiting for the held drives (R266) -/
  | takeover
deriving DecidableEq, Repr

/-- The push-pull errors of spots 0, 16 and 31 in the tick of superframe `sf`, before their offsets; none where a channel
was missing (R243). -/
structure TickPp where
  sf : Nat
  p0 : Option Int
  p16 : Option Int
  p31 : Option Int
deriving DecidableEq, Repr

/-- A servo engine beyond its registers. -/
structure Servo where
  loops : List Loop
  o0 : Int
  o16 : Int
  o31 : Int
  /-- tracking and yaw are held (FOCUSED) -/
  held : Bool
  teRun : Nat
  feRun : Nat
  /-- consecutive tick misses, and ticks with a focus channel missing -/
  misses : Nat
  chRun : Nat
  /-- last measurements: TE, FE, yaw error, and the push-pull errors before their offsets -/
  te : Int
  fe : Int
  yaw : Int
  pp16 : Int
  pp0 : Int
  pp31 : Int
  /-- the push-pull errors of the last ticks before their offsets, newest first (R243) -/
  pps : List TickPp
  /-- the zone whose calibration values are in use (R239, R262) -/
  zone : Nat
  /-- focus was plausible on the last tick -/
  focOk : Bool
  slips : Nat
  wrongs : Nat
  pair : Nat
  /-- wedges examined in a search (R245) -/
  search : Option Nat
  /-- syncs of decoded wedges of spot 16, newest first: wedge count and time in 1/16 sample (R247) -/
  syncs : List (Nat × Nat)
  wcount : Nat
  wtime : Nat
  /-- P_w rests on one decoded revolution -/
  based : Bool
  phase : Phase
  t : Nat
  /-- S-curve recognition: stage, and curves counted -/
  sc : Nat
  curves : Nat
  /-- layers of the jump: the next one and the last -/
  jump : Option (Nat × Nat)
  /-- move profile: tracks (signed), half length, amplitude, ticks done -/
  mvN : Int
  mvH : Nat
  mvA : Int
  mvK : Nat
  /-- tracks left of a fine seek, and the sign of the last push-pull sample -/
  left : Int
  ppPos : Bool
  /-- seek tries, acquisition tries -/
  tries : Nat
  facq : Nat
  /-- the move was made on its own (R281) -/
  own : Bool
  /-- cause of HOLD (1 tick miss, 2 bridge, 3 channels, 4 search), ticks without it, ticks in HOLD -/
  cause : Nat
  absent : Nat
  hticks : Nat
  /-- the cell for the next superframe: outputs and write_en -/
  cell : List Int
  we : Bool
  /-- the last superframe whose tick met R271 -/
  okSf : Nat
  tabs : List (Nat × Option Tab)
  /-- learning sums of this revolution, by table and entry: sum and count -/
  acc : List (Nat × (Int × Nat))
  /-- loops that left AUTO in this revolution -/
  broke : List Nat
  /-- RMS of TE: sum of squares, ticks, and the sum of SUM -/
  teSq : Int
  teN : Nat
  sumTot : Int
  /-- superframes until RESUME is sent (R270) -/
  resume : Nat
  /-- focus acquisition asked for, and its layer -/
  want : Option Nat
  /-- held drives of a takeover: those still to be read -/
  drives : List Nat
  /-- SERVO MODE changes that take effect when the move ends (R262): loop (5: stop), mode and value -/
  later : List (Nat × Nat × Int)
  /-- layer and track to seek back to after the calibration of a takeover (R266) -/
  back : Option (Nat × Nat)
  /-- the last wedge before a layer jump or side change: index, time, layer (R276) -/
  before : Option (Nat × Nat × Nat)
  /-- application time of the last profile command, in samples (R623) -/
  mark : Nat
  /-- the read power and the spherical trim applied (R346) -/
  power : Int
  sphere : Int
  /-- the engine told the read channel that it is on track -/
  told : Bool
  /-- wedges whose tick is still to come: spot, superframe and e_w (R243) -/
  ofsWait : List (Nat × Nat × Int)
  /-- cells with hold = 1 are sent until the front-end watchdog expires (R270) -/
  faulting : Bool
  /-- ticks of the layer jump in progress (R277) -/
  jticks : Nat
  /-- a sled seek: position of the last accepted wedge in 1/65536 track, and the axis position then (R279) -/
  sledBase : Int
  sledAt : Int
  /-- the whole distance of a fine seek in tracks (R280) -/
  seekN : Int
  /-- a spindle has stopped under the engine (R303): 1 until its next tick, 2 until the cell of that tick has been sent -/
  leaving : Nat
  /-- SVO_ERR bits recorded in this revolution: bit address and time in ns (R287) -/
  errAt : List (Nat × Nat)
deriving DecidableEq, Repr

/-! ## The whole device -/

/-- Everything but the command queue, the recorder and the outputs. -/
structure Dev where
  /-- register fields by bit address (BAR0 offset · 8 + lowest bit), where they differ from their reset values -/
  fv : List (Nat × Nat)
  /-- the MSI-X table, four words a vector (R448), where it differs from its reset -/
  msixTab : List (Nat × Nat)
  /-- pending bits of the MSI-X pending-bit array -/
  pba : List Nat
  clk : Clk
  fuse : Fuses
  mgmt : Mgmt
  mem : MemSys
  brine : Brine
  mmu : Mmu
  que : Que
  /-- open miss windows (R28): row·65536 + instance → end of window in ns, further misses -/
  windows : List (Nat × Option (BitVec 64 × Nat))
  flash : Flash
  sal : Sal
  set : SetEng
  peer : Peer
  ports : List (Nat × Port)
  spots : List (Nat × Spot)
  yar : Yar
  reads : List (Nat × Option ReadRev)
  burns : List (Nat × Option Burn)
  cal : CalEng
  spins : List (Nat × Spin)
  axes : List (Nat × Axis)
  coords : List Coord
  chops : List (Nat × Chop)
  servos : List (Nat × Servo)
  /-- draws of the free values (the model's own field, assumption 2) -/
  freeCtr : Nat
  /-- what the command in progress asks of the recorder and the interfaces -/
  out : List Emit
deriving DecidableEq, Repr

/-- The state of the block. -/
structure State where
  dev : Dev
  evr : Recorder
  /-- what the last command put on the part's interfaces -/
  sent : List Out
  /-- the commands that wait, first in, first out -/
  pending : List Instr
deriving DecidableEq, Repr

/-! ## Reset -/

/-- The fuses of an unprovisioned SYV8160-AA (assumption 4). -/
def Fuses.reset : Fuses :=
  { variant := 0, serial := 0, nidHi := 0, lifeCycle := 0, transCnt := 0, secVer := 0, subVendor := 0,
    subId := 0, ownerKey := [], ownerRevoked := false, remaps := [], revokedKeys := [] }

/-- The clock unit when Tidegate releases its power-on reset with the main supplies in range (R605). -/
def Clk.reset : Clk :=
  { time := 0, cyc := 0, tideOk := true, mainOk := true, deep := false, stopped := false, tripped := false,
    relocks := 0, fboPeriods := 0, slew := 0, tide := 0, tenM := false, secArmed := false,
    vddqMv := 0, onfOk := true, tamperLatched := false, cmpLatched := 0, xtalBad := false, clkout := false,
    sensors := List.replicate 16 0, thermN := false, thermLatch := false, thermHold := false, i2cPtr := 0,
    jtagIr := 0x02, powerFail := false, autoOff := 0, entering := false }

/-- An empty firmware slot. -/
def FwSlot.empty : FwSlot := { loaded := 0, image := [], header := none, valid := false }

/-- The management complex after reset. -/
def Mgmt.reset : Mgmt :=
  { slots := [FwSlot.empty, FwSlot.empty], recovery := FwSlot.empty, active := 0, nextActive := 0,
    running := none, activated := false, authFails := 0, lockout := false, service := false,
    mirrorIngest := false, mirrorJournal := false, handles := false, resetDue := false, bgNext := 0, bgOps := [] }

/-- The memory system after reset. -/
def MemSys.reset : MemSys :=
  { remaps := [], ceCount := [], service := [], critical := [], retired := [], words := [], rows := [], poisoned := [],
    queue := [] }

/-- The Brine cache after reset: OFF and empty. -/
def Brine.reset : Brine := { lines := [], plru := [], wayCe := [] }

/-- An empty device ring. -/
def DevRing.reset : DevRing := { tail := 0, phase := true, head := 0, stopped := false }

/-- The translation and DMA unit after reset. -/
def Mmu.reset : Mmu :=
  { tlb := [], walks := [], xfers := [], nextX := 0, faults := [], nextFault := 0, toPost := [], spill := [],
    selfWait := [], hlm := none, faultRing := DevRing.reset, eventRing := DevRing.reset }

/-- The queue engine after reset: no queue; the default weights of R462. -/
def Que.reset : Que :=
  { sqs := [], cqs := [], ctxs := [], gens := [], weights := [8, 4, 1], credits := [8, 4, 1],
    last := [0, 0, 0, 0], nextOrder := 0 }

/-- An erased, unformatted staging flash (assumption 5). -/
def Flash.reset : Flash :=
  { ce := 8, luns := 2, pagesPerBlock := 1536, blocks := 2048, pageBytes := 16384, spareBytes := 1952, oddTargets := [], factoryBad := [], pages := [], journal := [],
    ckpts := [],
    boot := { formatted := false, keyGen := 0, discCounter := 0, remaps := [], ways := 0, peer := none,
              tamperHold := false, ops := [] },
    cal := [] }

/-- A write stream with no open segment. -/
def Stream.reset : Stream := { lsn := none, sb := none, seg := 0, page := 0 }

/-- A superblock that nothing has used. -/
def SbEnt.free : SbEnt := { state := 0, erases := 0, bad := [], reads := 0 }

/-- The Saltern controller after reset. -/
def Sal.reset : Sal :=
  { map := [], sbs := [], idx := [], streams := [Stream.reset, Stream.reset, Stream.reset], progs := [],
    reads := [], nextRead := 0, pend := [], jseq := 0, ckptSeq := 0, pageSeq := 0, opseq := 0, rels := [],
    gcVictim := none, gcLsn := none, erasing := [], scheduled := [], unacked := [], keyGen := none, priority := [], aged := [],
    fetching := [], wpAll := true, wpLow := true, scan := none }

/-- The set engine with no set known. -/
def SetEng.reset : SetEng :=
  { sets := [], stripes := [], discs := [], pool := [], lost := [], remaps := [], guest := [], wants := [],
    recovs := [], held := [], asked := [], missed := [], rereads := [], prepass := [] }

/-- The peer unit after reset. -/
def Peer.reset : Peer :=
  { txSeq := 0, unacked := [], toAck := [], seen := [], training := false, hbRun := 0, lost := false,
    last := none, claimed := 0, waitClaim := false, wantSp := 0, wantPk := 0 }

/-- The recorder when it is cleared (Table 10-4, R577). -/
def Recorder.reset : Recorder :=
  { held := [], next := 0, overwrite := 0, clears := 0, live := false, latched := [], waiting := [], filter := 3 }

/-- A port after reset. -/
def Port.reset : Port :=
  { step := 0, tries := 0, sf := 0, runs := List.replicate 8 0, quiet := List.replicate 8 0,
    delin := List.replicate 8 none, lostUp := 0, lostDn := 0, nextTag := 0,
    ctl := [], heldCtl := [], fePort := 0, discards := 0, servo := [], ticked := false, curSlot := none, cur := [0, 0, 0, 0],
    laserFault := 0, underruns := 0, heldDrives := [], lastCell := none, chRtt := 0, queue := [[], []] }

/-- A spot channel after reset. -/
def Spot.reset : Spot :=
  { next := none, hush := 0, xs := [], zs := [], gapEnd := 0, lag := [], bA := 0, gA := 2 ^ 28, betaA := 0, qA := 0, pPos := 0,
    pNeg := 0, half := none, env := 0, envHi := 0, envLo := 0, envN := 0, mu := 0, om := 0, pos := 0, seg := 0, gap := false,
    vs := [], fifo := [], canc := 0, y2s := [], paths := [], dec := [], eqA := [], eqM := 0, xtA := [],
    acq := 0, boost := 0, hang := 0, keep := 0, defLen := 0, disc := false, frz := false, defs := [], good := 0,
    slipTo := none, corr := 0, wr := [], full := [], edge := 0, opened := 0, begun := false, nextSlot := 0, away := [],
    firstSlot := none, fin := 0, placed := 0, erasedN := 0, missFrom := none, park := false, train := 0, first := false, seed := none, home := [], writes := false, draw := false }

/-- The Yarrow pool after reset: no record, soft state or accumulator (R205). -/
def Yar.reset : Yar :=
  { jobs := [], eng := [], recs := [], sig := [], iters := [], clus := [], again := [], made := [], recheck := [],
    closed := [], noSoft := 0, parityLoc := 0 }

/-- A pickup that nothing has calibrated. -/
def CalPk.reset : CalPk :=
  { temps := [], evalAt := none, due := 0, ready := false, run := none, vals := [], harvest := [], ws := [],
    codes := [], aim := [] }


/-- A spindle after reset: OFF. -/
def Spin.reset : Spin :=
  { start := false, ref := 0, cuts := 0, near := 0, duties := [0, 0, 0], next := [0, 0, 0], misses := 0, di := 0,
    qi := 0, clamped := 0, iqRef := 0, si := 0, theta := 0, we := 0, obs := [], fAng := 0, fSpd := 0, lock := 0,
    blend := 0, period := 0, probes := [], tries := 0, pause := false, short := 4, keBad := 0, turned := 0, was := 0, steady := false, esc := false,
    stuck := false, rose := false, escRun := 0, lowRun := 0, uvRun := 0, histA := 0, histB := 0, histV := 0, histR := 0,
    quiet := List.replicate 4 (false, 0, 0), shortNow := 4, calm := 0, probeAt := 0, gains := [], offA := 0, offB := 0, sumA := 0, sumB := 0, gates := .off }

/-- An axis after reset: unhomed, at rest. -/
def Axis.reset : Axis :=
  { pos := 0, vel := 0, vmax := 0, kind := 0, next := none, rise := 0, back := 0, again := false, low := 0, lowering := false,
    wait := false }

/-- A chopper after reset. -/
def Chop.reset : Chop := { slot := 0, meas := [], dec := [], lost := 0, got := 0, part := 0, frozen := false }

/-- A loop at rest. -/
def Loop.reset : Loop :=
  { i := 0, d := 0, ePrev := 0, uPrev := 0, n0 := [0, 0, 0, 0], n1 := [0, 0, 0, 0], xs := [0, 0], us := [0, 0],
    est := 0, ffPrev := 0, man := 0, sat := 0, run := 0, bump := false, ok := false }

/-- A servo engine after reset: OFF. -/
def Servo.reset : Servo :=
  { loops := List.replicate 5 Loop.reset, o0 := 0, o16 := 0, o31 := 0, held := true, teRun := 0, feRun := 0,
    misses := 0, chRun := 0, te := 0, fe := 0, yaw := 0, pp16 := 0, pp0 := 0, pp31 := 0, focOk := true, slips := 0,
    wrongs := 0, pair := 0, search := none, syncs := [], wcount := 0, wtime := 0, based := false, phase := .none,
    t := 0, sc := 0, curves := 0, jump := none, mvN := 0, mvH := 0, mvA := 0, mvK := 0, left := 0, ppPos := true,
    tries := 0, facq := 0, own := false, cause := 0, absent := 0, hticks := 0, cell := [0, 0, 0, 0, 0], we := false,
    okSf := 0, pps := [], zone := 0, tabs := [], acc := [], broke := [], teSq := 0, teN := 0, sumTot := 0, resume := 0, want := none,
    drives := [], later := [], back := none, before := none, mark := 0, power := 0, sphere := 0, told := false,
    ofsWait := [], faulting := false, jticks := 0, sledBase := 0, sledAt := 0, seekN := 0, leaving := 0, errAt := [] }
/-- The device after reset. -/
def Dev.reset : Dev :=
  { fv := [], msixTab := [], pba := [], clk := Clk.reset, fuse := Fuses.reset, mgmt := Mgmt.reset,
    mem := MemSys.reset, brine := Brine.reset, mmu := Mmu.reset, que := Que.reset, windows := [],
    flash := Flash.reset, sal := Sal.reset, set := SetEng.reset, peer := Peer.reset,
    ports := [], spots := [], yar := Yar.reset, reads := [], burns := [],
    cal := { sets := [], pk := [] },
    spins := [], axes := [], coords := [], chops := [], servos := [],
    freeCtr := 0, out := [] }

/-- The machine right after the reset of cause TIDE_POR (Table 10-4), before step 1 of start-up. -/
def State.reset : State := { dev := Dev.reset, evr := Recorder.reset, sent := [], pending := [] }

end Sys2Proof.Machine
end

