-- ==== Sys2Proof/Machine/Ops.lean ====
section
/-! DEFINITION. The operations every meaning is built from: register fields, time, records, error bits,
deadline misses, free values and the numbers of inexact formulas. -/

namespace Sys2Proof.Machine

open Sys2Proof

/-! ## Bytes -/

/-- Byte `k` of a number, little-endian (R619). -/
def leByte (v k : Nat) : Byte := BitVec.ofNat 8 (v / 256 ^ k)

/-- The `n` bytes of a number, little-endian. -/
def leBytes (n v : Nat) : List Byte := (List.range n).map (leByte v)

/-- The number that bytes spell, little-endian. -/
def ofBytes : List Byte → Nat
  | [] => 0
  | b :: t => b.toNat + 256 * ofBytes t

/-- A signed value as its two's complement in `w` bits. -/
def toBits (w : Nat) (v : Int) : Nat := (v % (2 ^ w : Int)).toNat

/-- The signed value of `w` bits. -/
def ofBits (w v : Nat) : Int :=
  let u := v % 2 ^ w
  if u < 2 ^ (w - 1) then u else (u : Int) - 2 ^ w

/-- A value clamped to a range. -/
def clampI (lo hi v : Int) : Int := if v < lo then lo else if hi < v then hi else v

/-- A quotient where the spec gives the formula and no rounding: exact when it divides, else one of its
two neighbours, which of them left open (assumption 3). -/
def divR (n d : Int) : Int :=
  if d = 0 then 0
  else if n % d = 0 then n / d
  else if Config.roundUp n d then n / d + 1 else n / d

/-! ## Register fields -/

/-- The bit address of a field instance. -/
def Fld.key (f : Fld) (i j : Nat) : Nat := (f.base + f.sa * i + f.sb * j) * 8 + f.lo

/-- The reset value of a field instance. -/
def Fld.dflt (f : Fld) (j : Nat) : Nat := f.rst.getD j (f.rst.headD 0)

/-- The value of a register field. -/
def Dev.rd (d : Dev) (f : Fld) (i : Nat := 0) (j : Nat := 0) : Nat := mget d.fv (f.dflt j) (f.key i j)

/-- The device with a register field set; bits above the field's width are dropped. -/
def Dev.wr (d : Dev) (f : Fld) (v : Nat) (i : Nat := 0) (j : Nat := 0) : Dev :=
  { d with fv := mset d.fv (f.dflt j) (f.key i j) (v % 2 ^ f.w) }

/-- The signed value of a register field. -/
def Dev.rdS (d : Dev) (f : Fld) (i : Nat := 0) (j : Nat := 0) : Int := ofBits f.w (d.rd f i j)

/-- The device with a signed register field set. -/
def Dev.wrS (d : Dev) (f : Fld) (v : Int) (i : Nat := 0) (j : Nat := 0) : Dev := d.wr f (toBits f.w v) i j

/-- A saturating counter raised by `n`. -/
def Dev.bump (d : Dev) (f : Fld) (n : Nat := 1) (i : Nat := 0) (j : Nat := 0) : Dev :=
  d.wr f (min (2 ^ f.w - 1) (d.rd f i j + n)) i j

/-- A single-bit field as a truth value. -/
def Dev.flag (d : Dev) (f : Fld) (i : Nat := 0) (j : Nat := 0) : Bool := d.rd f i j != 0

/-! The windows of the axes lie 0x400 apart, and their reset values alternate between a sled and its yaw axis (R330): the
fields of axis `a` are those of pair `a / 2` and place `a % 2`. -/

def Dev.rdAx (d : Dev) (f : Fld) (a : Nat) : Nat := d.rd f (a / 2) (a % 2)
def Dev.rdAxS (d : Dev) (f : Fld) (a : Nat) : Int := d.rdS f (a / 2) (a % 2)
def Dev.wrAx (d : Dev) (f : Fld) (v a : Nat) : Dev := d.wr f v (a / 2) (a % 2)
def Dev.wrAxS (d : Dev) (f : Fld) (v : Int) (a : Nat) : Dev := d.wrS f v (a / 2) (a % 2)
def Dev.flagAx (d : Dev) (f : Fld) (a : Nat) : Bool := d.flag f (a / 2) (a % 2)
def Dev.bumpAx (d : Dev) (f : Fld) (a : Nat) : Dev := d.bump f 1 (a / 2) (a % 2)

/-! ## Free values -/

/-- Draws a free value below `2 ^ w` (assumption 2). -/
def Dev.draw (d : Dev) (w : Nat) : Nat × Dev :=
  (Config.freeValue d.freeCtr % 2 ^ w, { d with freeCtr := d.freeCtr + 1 })

/-! ## Time, records and outputs -/

/-- Device time in ns (R369). -/
def Dev.now (d : Dev) : BitVec 64 := (d.clk.time >>> 16).truncate 64

/-- Asks for an output or a record. -/
def Dev.emit (d : Dev) (e : Emit) : Dev := { d with out := d.out ++ [e] }

/-- Puts something on an interface. -/
def Dev.send (d : Dev) (o : Out) : Dev := d.emit (.out o)

/-- The 40 payload bytes of a record from (position, length, value) parts; the rest is 0 (R577). -/
def payload (parts : List (Nat × Nat × Nat)) : List Byte :=
  (List.range 40).map fun i =>
    match parts.find? (fun q => decide (q.1 ≤ i) && decide (i < q.1 + q.2.1)) with
    | some q => leByte q.2.2 (i - q.1)
    | none => 0

/-- A record request of this node at the present time. -/
def Dev.recReq (d : Dev) (code unit sev : Nat) (pl : List Byte) (cls count object argument : Nat)
    (force : Bool) : RecReq :=
  { code := BitVec.ofNat 16 code, unit := unit, sev := sev, payload := pl, cls := cls, count := count,
    object := object, argument := argument, force := force, time := d.now,
    node := BitVec.ofNat 14 (d.rd Reg.GLB_NODE_NID) }

/-- Makes an event record (R576). -/
def Dev.record (d : Dev) (code unit sev : Nat) (pl : List Byte) (cls count object argument : Nat := 0)
    (force : Bool := false) : Dev :=
  d.emit (.record (d.recReq code unit sev pl cls count object argument force))

/-- The subsystem that owns a BAR0 offset (Table 1-1, Table 17-11); 1 outside every block (R626). -/
def unitOf (off : Nat) : Nat :=
  if off < 0x10000 then 16 else if off < 0x30000 then 14 else if off < 0x50000 then 13
  else if off < 0x60000 then 1 else if off < 0x70000 then 2 else if off < 0x80000 then 3
  else if off < 0xA0000 then 16 else if off < 0xB0000 then 15
  else if 0x100000 ≤ off && off < 0x110000 then 4
  else if 0x200000 ≤ off && off < 0x230000 then 5
  else if 0x300000 ≤ off && off < 0x318000 then 6
  else if 0x380000 ≤ off && off < 0x390000 then 7
  else if 0x400000 ≤ off && off < 0x440000 then 8
  else if 0x500000 ≤ off && off < 0x510000 then 9
  else if 0x600000 ≤ off && off < 0x610000 then 10
  else if 0x700000 ≤ off && off < 0x710000 then 11
  else if 0x780000 ≤ off && off < 0x790000 then 12
  else 1

/-- The severity of the record of a register bit: 4, TG_EVENT bits 2 except TAMPER at 5 (Table 16-4). -/
def errSev (f : Fld) (k : Nat) : Nat :=
  if f.base = 0x20014 then (if f.lo + k = 1 then 5 else 2) else 4

/-- Sets bit `k` of an _ERR or _EVENT field and makes its record (R577, R627): `inst` is the instance of
Table 16-4a (0xFFFF for none), `addr` the packed address or 0, `further` the values from byte 9. -/
def Dev.setErrAt (d : Dev) (f : Fld) (k i j inst addr : Nat) (further : List (Nat × Nat × Nat)) (force : Bool) : Dev :=
  let v := d.rd f i j
  (d.wr f (v ||| 2 ^ k) i j).record (f.lo + k) (unitOf f.base) (errSev f k)
    (payload ([(0, 1, f.base / 0x10000), (1, 2, f.base % 0x1000), (3, 2, inst), (5, 4, addr)] ++ further))
    0 0 (if addr = 0 then inst else addr) 0 force

/-- Sets a bit of a field with one index. -/
def Dev.setErr (d : Dev) (f : Fld) (k : Nat := 0) (i : Nat := 0) (inst : Nat := 0xFFFF) (addr : Nat := 0)
    (further : List (Nat × Nat × Nat) := []) (force : Bool := false) : Dev :=
  d.setErrAt f k i 0 inst addr further force

/-! ## Deadline misses (R28) -/

/-- 1 ms in ns. -/
def missWindow : BitVec 64 := 1000000

/-- The subsystem whose deadline row `r` of Table 1-3 is. -/
def missUnit (r : Nat) : Nat :=
  match r with
  | 0 => 8 | 1 => 9 | 2 => 9 | 3 => 4 | 4 => 6 | 5 => 7 | 6 => 6 | _ => 1

/-- The class of row `r` of Table 1-3: 1 for H, 2 for F. -/
def missClass (r : Nat) : Nat := if r < 4 then 1 else 2

/-- The record of a miss window (code 0x1000 + r). -/
def Dev.missRecord (d : Dev) (r inst count : Nat) (until_ : BitVec 64) : Dev :=
  d.record (0x1000 + r) (missUnit r) (if r < 4 then 5 else 3)
    (payload [(0, 1, missClass r), (1, 2, inst), (3, 4, count), (7, 8, until_.toNat)])
    (missClass r) count inst 0

/-- A miss of deadline row `r` of instance `inst` (R28). -/
def Dev.miss (d : Dev) (r inst : Nat) : Dev :=
  let key := r * 65536 + inst
  match mget d.windows none key with
  | none =>
    let e := d.now + missWindow
    ({ d with windows := mset d.windows none key (some (e, 0)) }).missRecord r inst 1 e
  | some (e, n) => { d with windows := mset d.windows none key (some (e, n + 1)) }

/-- The end of the miss window of row `r` and instance `inst` (R28). -/
def Dev.missEnd (d : Dev) (r inst : Nat) : Dev :=
  let key := r * 65536 + inst
  match mget d.windows none key with
  | none => d
  | some (e, n) =>
    let d := { d with windows := mset d.windows none key none }
    if n = 0 then d else d.missRecord r inst n e

/-! ## Variant and presence (R4, R5) -/

/-- SYV8160-AB: half the resources are fused off. -/
def Dev.isAB (d : Dev) : Bool := d.fuse.variant != 0

/-- A port, pickup or servo engine that the variant has. -/
def Dev.hasPk (d : Dev) (p : Nat) : Bool := p < (if d.isAB then 8 else 16)

/-- A spindle that the variant has. -/
def Dev.hasSp (d : Dev) (n : Nat) : Bool := n < (if d.isAB then 4 else 8)

/-- An axis that the variant has. -/
def Dev.hasAx (d : Dev) (a : Nat) : Bool := a < (if d.isAB then 16 else 32)

/-- A global spot that the variant has. -/
def Dev.hasSpot (d : Dev) (g : Nat) : Bool := g < (if d.isAB then 256 else 512)

/-- Folds an operation over the instances `0 … n - 1`. -/
def Dev.each (d : Dev) (n : Nat) (f : Dev → Nat → Dev) : Dev := (List.range n).foldl f d

end Sys2Proof.Machine
end

