-- ==== Sys2Proof/Machine/Geometry.lean ====
section
/-! DEFINITION. The recorded format: zones, bands, placement, packed addresses and frame headers
(R42 to R74), and the slot sequences of a set member (R534 to R536). -/

namespace Sys2Proof.Machine

open Sys2Proof

/-- Frames per track of each zone (Table 2-1). -/
def zoneFrames : List Nat :=
  [98, 104, 109, 115, 121, 127, 133, 138, 144, 150, 156, 161]
    ++ [167, 173, 179, 185, 190, 196, 202, 208, 214, 219, 225, 231]

/-- Bands of a layer (R44). -/
def bandCount : Nat := 8856

/-- Tracks of a layer (R42). -/
def trackCount : Nat := 283392

/-- The zone of a band (R45). -/
def zoneOf (band : Nat) : Nat := band / 369

/-- `F_z` of a zone. -/
def framesOf (z : Nat) : Nat := zoneFrames.getD z 0

/-- `C_z = floor(32 F_z / 18)`, clusters per band (R60). -/
def clustersOf (z : Nat) : Nat := 32 * framesOf z / 18

/-- Even tracks are groove, odd tracks land (R43). -/
def isLand (track : Nat) : Bool := track % 2 == 1

/-- The sign of a track type: +1 over groove, −1 over land (R239). -/
def sigma (track : Nat) : Int := if isLand track then -1 else 1

/-- The spindle of a pickup and the side that it serves (R38). -/
def spindleOf (p : Nat) : Nat := p / 2
def sideOf (p : Nat) : Nat := p % 2

/-- Channel bit positions of a frame (R54). -/
def frameBits : Nat := 37424

/-- Where band frame `n` lies: track-in-band and frame-on-track (R60). -/
def placeFrame (z n : Nat) : Nat × Nat :=
  let t := n % 32
  (t, (n / 32 + 3 * t) % framesOf z)

/-- The band frame number at a track-in-band and frame-on-track: the inverse of `placeFrame`. -/
def frameNumber (z t f : Nat) : Nat :=
  let fz := framesOf z
  (f + 3 * fz - 3 * t % fz) % fz * 32 + t

/-- The role of a band frame: 0 to 17, or 31 for fill (R59, R60). -/
def roleOf (z n : Nat) : Nat := if n < 18 * clustersOf z then n % 18 else 31

/-- A packed frame address (Table 2-9). -/
def packFrame (side layer band t f : Nat) : Nat :=
  f + t * 2 ^ 8 + band * 2 ^ 13 + layer * 2 ^ 27 + side * 2 ^ 29

/-- A packed cluster address (Table 2-9). -/
def packCluster (side layer band c : Nat) : Nat :=
  c + band * 2 ^ 9 + layer * 2 ^ 23 + side * 2 ^ 25 + 2 ^ 30

def caCluster (a : Nat) : Nat := a % 512
def caBand (a : Nat) : Nat := a / 2 ^ 9 % 2 ^ 14
def caLayer (a : Nat) : Nat := a / 2 ^ 23 % 4
def caSide (a : Nat) : Nat := a / 2 ^ 25 % 2
def faFrame (a : Nat) : Nat := a % 256
def faTrack (a : Nat) : Nat := a / 2 ^ 8 % 32
def faBand (a : Nat) : Nat := a / 2 ^ 13 % 2 ^ 14
def faLayer (a : Nat) : Nat := a / 2 ^ 27 % 4
def faSide (a : Nat) : Nat := a / 2 ^ 29 % 2

/-- A packed cluster address that R74 accepts. -/
def clusterOk (a : Nat) : Bool :=
  a / 2 ^ 30 == 1 && a / 2 ^ 26 % 16 == 0 && decide (caBand a < bandCount)
    && decide (caCluster a < clustersOf (zoneOf (caBand a)))

/-- A packed frame address that R74 accepts. -/
def frameOk (a : Nat) : Bool :=
  a / 2 ^ 30 == 0 && decide (faBand a < bandCount) && decide (faFrame a < framesOf (zoneOf (faBand a)))

/-- The 64-bit frame header (Table 2-5). -/
def frameHeader (side layer band t f role version epoch : Nat) : Nat :=
  side + layer * 2 + band * 2 ^ 3 + t * 2 ^ 17 + f * 2 ^ 22 + role * 2 ^ 30 + version * 2 ^ 35 + epoch * 2 ^ 39

/-- The Gray code of a track number in a wedge, and its inverse (R50). -/
def gray (t : Nat) : Nat := t ^^^ (t / 2)

/-- The number whose Gray code is `g`, from its highest bit down. -/
def unGray : Nat → Nat → Nat
  | 0, _ => 0
  | n + 1, g =>
    let h := unGray n (g / 2)
    h * 2 + (h + g) % 2

/-- Wedge intervals carry `S_z = F_z · 37,424 / 512` channel bits (R52): the data segment of a stream
position, and the position, in 1/512 bit, at which segment `m` starts. -/
def segmentOf (z k : Nat) : Nat := k * 512 / (framesOf z * frameBits)
def segmentStart (z m : Nat) : Nat := m * (framesOf z * frameBits)

/-! ## Slot sequences of a set member (R534, R535) -/

/-- User bands of a zone that the reserve of `r` bands takes on L3. -/
def reservedIn (r z : Nat) : Nat := min 361 (r - (23 - z) * 361)

/-- The first user band of a zone on a layer, and how many of its bands the side sequence holds. -/
def userBands (r layer z : Nat) : Nat × Nat :=
  if layer = 0 && z = 0 then (8, 353)
  else if layer = 3 then (369 * z, 361 - reservedIn r z)
  else (369 * z, 361)

/-- The layers and zones in the order of a side sequence. -/
def sequenceOrder : List (Nat × Nat) :=
  (List.range 4).flatMap fun l => (List.range 24).map fun z => (l, z)

/-- Position `pos` of a side sequence as layer, band and cluster. -/
def slotIn (r : Nat) : List (Nat × Nat) → Nat → Option (Nat × Nat × Nat)
  | [], _ => none
  | (l, z) :: t, pos =>
    let (b, n) := userBands r l z
    let c := clustersOf z
    if pos < n * c then some (l, b + pos / c, pos % c) else slotIn r t (pos - n * c)

/-- The reserve's zones, lowest first, with their first reserve band and count. -/
def reserveBands (r z : Nat) : Nat × Nat := (369 * z + 361 - reservedIn r z, reservedIn r z)

/-- Position `pos` of a side's reserve as band and cluster on L3. -/
def reserveIn (r : Nat) : List Nat → Nat → Option (Nat × Nat)
  | [], _ => none
  | z :: t, pos =>
    let (b, n) := reserveBands r z
    let c := clustersOf z
    if pos < n * c then some (b + pos / c, pos % c) else reserveIn r t (pos - n * c)

/-- Slots of one side sequence with a reserve of `r` bands. -/
def slotsPerSide (r : Nat) : Nat :=
  sequenceOrder.foldl (fun s q => s + (userBands r q.1 q.2).2 * clustersOf q.2) 0

/-- Slots of one side's reserve. -/
def reservePerSide (r : Nat) : Nat := (List.range 24).foldl (fun s z => s + (reserveBands r z).2 * clustersOf z) 0

/-- The slot of stripe `n`, as a packed cluster address (R534). -/
def stripeSlot (r n : Nat) : Option Nat :=
  (slotIn r sequenceOrder (n / 2)).map fun q => packCluster (n % 2) q.1 q.2.1 q.2.2

/-- Reserve slot number `n`, as a packed cluster address (R535). -/
def reserveSlot (r n : Nat) : Option Nat :=
  (reserveIn r (List.range 24) (n / 2)).map fun q => packCluster (n % 2) 3 q.1 q.2

/-- The volume capacity `16 k S` in LBs (R536). -/
def capacityOf (k r : Nat) : Nat := 16 * k * (2 * slotsPerSide r)

/-- Whether a band is a spare band (R63), or a ledger band of its side (R62). -/
def isSpareBand (b : Nat) : Bool := decide (361 ≤ b % 369)
def isLedgerBand (layer b : Nat) : Bool := layer == 0 && decide (b < 8)

/-- Whether a band lies in the reserve of a set. -/
def isReserveBand (r layer b : Nat) : Bool :=
  layer == 3 && decide ((reserveBands r (zoneOf b)).1 ≤ b) && !isSpareBand b

end Sys2Proof.Machine
end

