-- ==== Sys2Proof/Machine/CalKeys.lean ====
section
/-! DEFINITION. The quantities of calibration and the keys of their sets (R331). -/

namespace Sys2Proof.Machine

/-- The quantities, numbered by the rows of Table 9-1 from 0 (Table 16-4a). -/
def qOffsets : Nat := 0
def qReadPower : Nat := 1
def qSum : Nat := 2
def qFocus : Nat := 3
def qSphere : Nat := 4
def qKfe : Nat := 5
def qGains : Nat := 6
def qTrkOfs : Nat := 7
def qFocOfs : Nat := 8
def qYawOfs : Nat := 9
def qJumpAmp : Nat := 10
def qSled : Nat := 11
def qSeed : Nat := 12
def qJoint : Nat := 13
def qStrategy : Nat := 14
def qScale : Nat := 15

/-- The key of a set: quantity, pickup, layer, zone, speed and track type; what the quantity's scope does not
name is 0. -/
def calKey (q p : Nat) (layer zone speed land : Nat := 0) : Nat :=
  ((((q * 16 + p) * 4 + layer) * 24 + zone) * 2 + speed) * 2 + land

end Sys2Proof.Machine
end

