-- ==== Sys2Proof/Machine/Codes.lean ====
section
/-! DEFINITION. The codes of the spec that need no state: CRC-32C (R618), the seal's CRC-64 (R543), and
the field GF(2^8) of the outer code and of set parity (R210, R538). -/

namespace Sys2Proof.Machine

/-- One bit of a reflected CRC-32C. -/
def crc32cBit (c : BitVec 32) : BitVec 32 :=
  if c.getLsbD 0 then (c >>> 1) ^^^ 0x82F63B78#32 else c >>> 1

/-- One byte of a reflected CRC-32C. -/
def crc32cByte (c : BitVec 32) (b : Byte) : BitVec 32 :=
  let x := c ^^^ b.setWidth 32
  crc32cBit (crc32cBit (crc32cBit (crc32cBit (crc32cBit (crc32cBit (crc32cBit (crc32cBit x)))))))

/-- CRC-32C of bytes in order of increasing address (R618). -/
def crc32c (l : List Byte) : BitVec 32 := (l.foldl crc32cByte 0xFFFFFFFF#32) ^^^ 0xFFFFFFFF#32

/-- One bit of the seal's CRC-64, most significant bit first. -/
def crc64Bit (c : BitVec 64) : BitVec 64 :=
  if c.getLsbD 63 then (c <<< 1) ^^^ 0x42F0E1EBA9EA3693#64 else c <<< 1

/-- One byte of the seal's CRC-64. -/
def crc64Byte (c : BitVec 64) (b : Byte) : BitVec 64 :=
  let x := c ^^^ ((b.setWidth 64) <<< 56)
  crc64Bit (crc64Bit (crc64Bit (crc64Bit (crc64Bit (crc64Bit (crc64Bit (crc64Bit x)))))))

/-- The CRC-64 of ECMA-182 of a seal's guard: initial value 0, no reflection, no final XOR (R543). -/
def crc64 (l : List Byte) : BitVec 64 := l.foldl crc64Byte 0

/-- Multiplication by α in GF(2^8) with polynomial 0x11D (R210). -/
def gfX (a : BitVec 8) : BitVec 8 := if a.getLsbD 7 then (a <<< 1) ^^^ 0x1D#8 else a <<< 1

/-- The product in GF(2^8), by the bits of `b` from the lowest. -/
def gfMulAux : Nat → BitVec 8 → BitVec 8 → BitVec 8
  | 0, _, _ => 0
  | n + 1, a, b => (if b.getLsbD 0 then a else 0) ^^^ gfMulAux n (gfX a) (b >>> 1)

/-- The product in GF(2^8). -/
def gfMul (a b : BitVec 8) : BitVec 8 := gfMulAux 8 a b

/-- The power `a ^ n` in GF(2^8). -/
def gfPow (a : BitVec 8) : Nat → BitVec 8
  | 0 => 1
  | n + 1 => gfMul a (gfPow a n)

/-- α to the power `n`; its order is 255. -/
def gfAlpha (n : Nat) : BitVec 8 := gfPow 2 (n % 255)

/-- The inverse in GF(2^8), `a ^ 254`. -/
def gfInv (a : BitVec 8) : BitVec 8 := gfPow a 254

/-- The bytewise sum of two blocks. -/
def gfAdd (a b : List Byte) : List Byte := List.zipWith (· ^^^ ·) a b

/-- A block scaled by a field element. -/
def gfScale (c : BitVec 8) (a : List Byte) : List Byte := a.map (gfMul c)

end Sys2Proof.Machine
end

