-- ==== Sys2Proof/Machine/Record.lean ====
section
/-! DEFINITION. The event recorder (R576 to R580): how records are made, latched before step 8, cleared,
and handed to the event queue (R472). -/

namespace Sys2Proof.Machine

open Sys2Proof

/-- The recorder holds at most this many records (R576). -/
def recorderSize : Nat := 16384

/-- Whether a record has an event queue entry (R472): its severity reaches the filter, or it is a
deadline miss, an error stop, a media request or event, the end of an operation, or a forced one. -/
def Recorder.posts (r : Recorder) (q : RecReq) : Bool :=
  let c := q.code.toNat
  decide (r.filter ≤ q.sev) || q.force || c / 0x1000 == 1 || c == 0x4001 || c == 0x3001 || c == 0x3002
    || c == 0x7001

/-- The event queue entry of a record (Table 13-4). -/
def eqOf (seq : BitVec 48) (q : RecReq) : EqEnt :=
  { seq := seq, unit := q.unit, sev := q.sev, cls := q.cls, code := q.code, node := q.node,
    count := q.count, object := q.object, argument := q.argument, time := q.time }

/-- Enters a record with the next sequence; a full recorder overwrites its oldest record, whose waiting
event queue entry is discarded (R576, R580). -/
def Recorder.append (r : Recorder) (q : RecReq) : Recorder :=
  let e : EvRec := { seq := r.next, time := q.time, node := q.node, unit := q.unit, code := q.code,
                     sev := q.sev, payload := q.payload }
  let w := if r.posts q then r.waiting ++ [eqOf r.next q] else r.waiting
  if r.held.length < recorderSize then
    { r with held := r.held ++ [e], next := r.next + 1, waiting := w }
  else
    { r with held := r.held.tail ++ [e], next := r.next + 1,
             overwrite := min (2 ^ 32 - 1) (r.overwrite + 1),
             waiting := w.filter fun x => some x.seq != (r.held.head?).map (·.seq) }

/-- Whether two requests are for the same register bit: such a bit makes one record before step 8 (R576). -/
def sameBit (a b : RecReq) : Bool :=
  a.code == b.code && a.code.toNat / 0x1000 == 0 && a.payload.take 5 == b.payload.take 5

/-- Makes a record: at once when the recorder runs, else latched for step 8 (R576). -/
def Recorder.push (r : Recorder) (q : RecReq) : Recorder :=
  if r.live then r.append q
  else if r.latched.any (sameBit q) then r
  else { r with latched := r.latched ++ [q] }

/-- Enters several records in order. -/
def Recorder.appendAll (r : Recorder) : List RecReq → Recorder
  | [] => r
  | q :: t => (r.append q).appendAll t

/-- One request to the recorder. -/
def Recorder.take (r : Recorder) : Emit → Recorder
  | .record q => r.push q
  | .reset clear tg =>
    { (if clear then { r with held := [], next := 0, waiting := [] } else r) with
      overwrite := 0, clears := 0, live := false, filter := 3,
      latched := if tg then [] else if clear then r.latched.filter fun q => q.payload.head? == some 0x02#8 else r.latched }
  | .start q => ({ r with live := true, latched := [] }.append q).appendAll r.latched
  | .live => { r with live := true }
  | .clear last =>
    let n := (r.next - last).toNat - 1
    let kept := r.held.drop (r.held.length - n)
    { r with held := kept, clears := r.clears + 1,
             waiting := r.waiting.filter fun x => kept.any fun e => e.seq == x.seq }
  | .filter n => { r with filter := n }
  | .zeroOverwrite => { r with overwrite := 0 }
  | .out _ => r

/-- All requests of a step, in order. -/
def Recorder.absorb (r : Recorder) : List Emit → Recorder
  | [] => r
  | e :: t => (r.take e).absorb t

/-- The 60 bytes of a record that its CRC covers (Table 16-3). -/
def EvRec.body (e : EvRec) : List Byte :=
  leBytes 6 e.seq.toNat ++ leBytes 8 e.time.toNat ++ leBytes 2 e.node.toNat ++ leBytes 1 e.unit
    ++ leBytes 2 e.code.toNat ++ leBytes 1 e.sev ++ (e.payload ++ List.replicate 40 0).take 40

/-- The 64 bytes of a record (Table 16-3). -/
def EvRec.bytes (e : EvRec) : List Byte := e.body ++ leBytes 4 (crc32c e.body).toNat

/-- The oldest held sequence, or the next sequence when none is held. -/
def Recorder.oldest (r : Recorder) : BitVec 48 :=
  match r.held with
  | [] => r.next
  | e :: _ => e.seq

/-- The 32 bytes of an event queue entry (Table 13-4). -/
def EqEnt.bytes (e : EqEnt) (phase : Bool) : List Byte :=
  leBytes 6 e.seq.toNat ++ leBytes 1 e.unit ++ leBytes 1 (e.sev + e.cls * 8 + if phase then 128 else 0)
    ++ leBytes 2 e.code.toNat ++ leBytes 2 e.node.toNat ++ leBytes 4 e.count ++ leBytes 4 e.object
    ++ leBytes 4 e.argument ++ leBytes 8 e.time.toNat

end Sys2Proof.Machine
end

