-- ==== Sys2Proof/Machine/Dma.lean ====
section
/-! DEFINITION. Translation and DMA: page walks, the TLB, transfers, faults, MSI-X, and the rings the
device writes (R429 to R448, R456 to R458, R472). -/

namespace Sys2Proof.Machine

open Sys2Proof

/-! ## Contexts, queues and small accessors -/

/-- The command in a context. -/
def Dev.ctx (d : Dev) (c : Nat) : Option Ctx := mget d.que.ctxs none c

/-- Sets or frees a context. -/
def Dev.setCtx (d : Dev) (c : Nat) (x : Option Ctx) : Dev :=
  { d with que := { d.que with ctxs := mset d.que.ctxs none c x } }

/-- A submission queue. -/
def Dev.sq (d : Dev) (q : Nat) : Option Sq := mget d.que.sqs none q

/-- Sets or deletes a submission queue. -/
def Dev.setSq (d : Dev) (q : Nat) (x : Option Sq) : Dev :=
  { d with que := { d.que with sqs := mset d.que.sqs none q x } }

/-- A completion queue. -/
def Dev.cq (d : Dev) (q : Nat) : Option Cq := mget d.que.cqs none q

/-- Sets or deletes a completion queue. -/
def Dev.setCq (d : Dev) (q : Nat) (x : Option Cq) : Dev :=
  { d with que := { d.que with cqs := mset d.que.cqs none q x } }

/-- Bus Master Enable (R445). -/
def Dev.bme (d : Dev) : Bool := d.flag Reg.HIF_STATUS_BME

/-- Sends the MSI-X message of a vector, or sets its pending bit while it is masked or bus mastering is
withdrawn (R445, R448). -/
def Dev.msix (d : Dev) (vec : Nat) : Dev :=
  if d.bme && mget d.msixTab 1 (4 * vec + 3) % 2 == 0 then d.send (.msix vec)
  else { d with pba := if d.pba.contains vec then d.pba else d.pba ++ [vec] }

/-- The root table of an address space (R432). -/
def Dev.root (d : Dev) (asid : Nat) : Option Nat :=
  if asid = 0 then
    if d.flag Reg.MMU_AS0_ROOT_LO_VALID then
      some (d.rd Reg.MMU_AS0_ROOT_LO_ADDR * 4096 + d.rd Reg.MMU_AS0_ROOT_HI_ADDR * 2 ^ 32)
    else none
  else if d.flag Reg.MMU_AS_ROOT_LO_VALID (asid - 1) then
    some (d.rd Reg.MMU_AS_ROOT_LO_ADDR (asid - 1) * 4096 + d.rd Reg.MMU_AS_ROOT_HI_ADDR (asid - 1) * 2 ^ 32)
  else none

/-! ## Page walks (R430, R431, R435) -/

/-- The size of the page that a leaf at a level maps (Table 12-3). -/
def leafSize (level : Nat) : Nat := if level = 3 then 2 ^ 30 else if level = 2 then 2 ^ 21 else 2 ^ 12

/-- How a walk ends: with a leaf and the tables it passed, or with a fault type and level. -/
inductive WalkRes where
  | leaf (t : Tlb) (path : List WalkEnt)
  | fail (type level : Nat)
deriving DecidableEq, Repr

/-- The walk from `level` with the permissions met so far and the entries read, one per level
(a failed read ends it). -/
def walk (asid va : Nat) (write : Bool) : Nat → Bool → Bool → List TableRead → WalkRes
  | 0, _, _, _ => .fail 4 0
  | n + 1, r, w, reads =>
    let level := n + 1
    match reads with
    | [] => .fail 4 level
    | .failed _ :: _ => .fail 4 level
    | .entry e :: rest =>
      let v := e.toNat
      let addr := (v / 4096 % 2 ^ 40) * 4096
      let ps := e.getLsbD 7
      let r' := r && e.getLsbD 1
      let w' := w && e.getLsbD 2
      if !e.getLsbD 0 then .fail 0 level
      else if v / 8 % 16 != 0 || v / 2 ^ 52 != 0 then .fail 2 level
      else if ps && (level == 4 || level == 1) then .fail 2 level
      else if (if write then !w' else !r') then .fail 1 level
      else if level == 1 || ps then
        let size := leafSize level
        if addr % size != 0 then .fail 2 level
        else .leaf { asid := asid, va := va / size * size, size := size, frame := addr, r := r', w := w' } []
      else
        match walk asid va write n r' w' rest with
        | .leaf t path => .leaf t ({ asid := asid, level := n, va := va / 2 ^ (12 + 9 * n) * 2 ^ (12 + 9 * n),
                                     table := addr, r := r', w := w' } :: path)
        | f => f

/-- The level, and the permissions met above it, at which a walk starts: the deepest table that the walk
cache holds, else the root. -/
def Dev.walkFrom (d : Dev) (asid va : Nat) : Nat × Bool × Bool :=
  let hit (l : Nat) := d.mmu.walks.find? fun e =>
    e.asid == asid && e.level == l && e.va == va / 2 ^ (12 + 9 * l) * 2 ^ (12 + 9 * l)
  match hit 1, hit 2, hit 3 with
  | some e, _, _ => (1, e.r, e.w)
  | none, some e, _ => (2, e.r, e.w)
  | none, none, some e => (3, e.r, e.w)
  | none, none, none => (4, true, true)

/-- The host physical address of an access that the TLB translates. -/
def Dev.tlbHit (d : Dev) (asid va : Nat) (write : Bool) : Option Nat :=
  match d.mmu.tlb.find? (fun t => t.asid == asid && decide (t.va ≤ va) && decide (va < t.va + t.size)
      && (if write then t.w else t.r)) with
  | some t => some (t.frame + (va - t.va))
  | none => none

/-- A list without its element at an index. -/
def dropAt {α : Type} (l : List α) (i : Nat) : List α := l.take i ++ l.drop (i + 1)

/-- Enters a leaf in the TLB: 4,096 entries in sets of 8, the displaced entry left open by the spec
(assumption 6). -/
def Dev.tlbAdd (d : Dev) (t : Tlb) : Dev :=
  let keep := d.mmu.tlb.filter fun e => !(e.asid == t.asid && e.va == t.va && e.size == t.size)
  let (v, d) := d.draw 16
  let n := keep.length
  let keep := if n < 8 then keep else if n < 4096 then dropAt keep (v % (n + 1)) else dropAt keep (v % n)
  { d with mmu := { d.mmu with tlb := keep ++ [t] } }

/-- Enters the tables of a walk in the walk cache of 128 entries. -/
def Dev.walkAdd (d : Dev) (path : List WalkEnt) : Dev :=
  path.foldl (fun d e =>
    if d.mmu.walks.contains e then d
    else
      let n := d.mmu.walks.length
      let (v, d) := d.draw 16
      let keep := if n < 128 then d.mmu.walks else dropAt d.mmu.walks (v % n)
      { d with mmu := { d.mmu with walks := keep ++ [e] } }) d

/-! ## Faults (R436, R437, R441) -/

/-- The source code of a transfer in a fault entry (Table 12-6). -/
def Purpose.src : Purpose → Nat
  | .sqFetch _ => 0 | .cqPost _ => 1 | .dataRead _ => 2 | .dataWrite _ => 3 | .sealRead _ => 4
  | .sealWrite _ => 5 | .hlmFill _ => 6 | .hlmBack _ => 7 | .eventPost => 8 | .faultPost => 9
  | .headMirror _ => 1

/-- Replaces a transfer. -/
def Dev.putX (d : Dev) (x : Xfer) : Dev :=
  { d with mmu := { d.mmu with xfers := d.mmu.xfers.map fun y => if y.id == x.id then x else y } }

/-- Removes a transfer. -/
def Dev.dropX (d : Dev) (id : Nat) : Dev :=
  { d with mmu := { d.mmu with xfers := d.mmu.xfers.filter fun y => y.id != id } }

/-- A transfer whose fault cannot be posted to the fault queue (R441). -/
def Purpose.isSelf : Purpose → Bool
  | .faultPost => true
  | .cqPost c => c == 0
  | _ => false

/-- The mark of a transfer parked behind a latched self fault (R441). -/
def selfParked : Nat := 65536

/-- Whether a self fault on a page joins the one that is latched (R436, R441). -/
def Dev.joinsSelf (d : Dev) (va : Nat) : Bool :=
  (d.rd Reg.MMU_SELF_VA_LO_VA + 2 ^ 32 * d.rd Reg.MMU_SELF_VA_HI_VA) / 4096 == va % 2 ^ 48 / 4096

/-- Latches a self fault and signals vector 0 (R441). -/
def Dev.latchSelf (d : Dev) (isCq : Bool) (type va : Nat) : Dev :=
  let id := d.mmu.nextFault
  let d := { d with mmu := { d.mmu with nextFault := (id + 1) % 65536 } }
  let d := ((((d.wr Reg.MMU_SELF_FAULT_ID id).wr Reg.MMU_SELF_FAULT_TYPE type).wr
    Reg.MMU_SELF_FAULT_VALID 1).wr Reg.MMU_SELF_FAULT_QUEUE (if isCq then 1 else 0))
  let d := (d.wr Reg.MMU_SELF_VA_LO_VA (va % 2 ^ 32)).wr Reg.MMU_SELF_VA_HI_VA (va / 2 ^ 32)
  (d.setErr Reg.MMU_ERR_FQ_SELF).msix 0

/-- A self fault (R441): it is latched, joins the latched one, or waits while another is latched. -/
def Dev.selfFault (d : Dev) (x : Xfer) (type : Nat) : Dev :=
  let isCq := match x.what with | .cqPost _ => true | _ => false
  if d.flag Reg.MMU_SELF_FAULT_VALID then
    if d.joinsSelf x.va then d.putX { x with st := .parked (d.rd Reg.MMU_SELF_FAULT_ID) }
    else
      let d := d.putX { x with st := .parked selfParked }
      { d with mmu := { d.mmu with selfWait := d.mmu.selfWait ++ [(isCq, type, x.va)] } }
  else (d.putX { x with st := .parked d.mmu.nextFault }).latchSelf isCq type x.va

/-- A read of the doorbell area or of the admin SQ faults (R455): polling stops, the fault is latched, and vector 0 is
sent. Source: 0 doorbell area, 1 admin SQ. -/
def Dev.adminFault (d : Dev) (source type va : Nat) : Dev :=
  let d := ((((d.wr Reg.QUE_STATUS_POLL_STOPPED 1).wr Reg.QUE_ADMIN_FAULT_VALID 1).wr Reg.QUE_ADMIN_FAULT_TYPE type).wr
    Reg.QUE_ADMIN_FAULT_SOURCE source)
  let d := (d.wr Reg.QUE_ADMIN_VA_LO_VA (va % 2 ^ 32)).wr Reg.QUE_ADMIN_VA_HI_VA (va / 2 ^ 32)
  (d.setErr Reg.QUE_ERR_ADMIN_FAULT).msix 0

/-- Opens a fault: its entry is to be posted (R436, R437). -/
def Dev.openFault (d : Dev) (f : OpenFault) : Dev :=
  ({ d with mmu := { d.mmu with faults := d.mmu.faults ++ [f], toPost := d.mmu.toPost ++ [f] } }).bump
    Reg.MMU_CNT_FAULT_COUNT

/-- Parks a transfer on a fault: joins an open fault of the same address space, page and access, or opens
a new one (R436, R437). -/
def Dev.fault (d : Dev) (x : Xfer) (type level : Nat) : Dev :=
  if x.what.isSelf then d.selfFault x type
  else if x.what == .sqFetch 0 then (d.dropX x.id).adminFault 1 type x.va
  else
    match (d.mmu.faults ++ d.mmu.spill).find? (fun f => f.asid == x.asid && f.va / 4096 == x.va % 2 ^ 48 / 4096
        && f.write == x.write) with
    | some f => d.putX { x with st := .parked f.id }
    | none =>
      let id := d.mmu.nextFault
      let f : OpenFault := {
        id := id, type := type, level := level, write := x.write, cls := x.cls,
        src := x.what.src, asid := x.asid, va := x.va % 2 ^ 48, sq := x.sq, cid := x.cid, ctx := x.ctx,
        left := x.left, time := d.now }
      let d := { d with mmu := { d.mmu with nextFault := (id + 1) % 65536 } }
      let d := (d.putX { x with st := .parked id }).setErr Reg.MMU_ERR_TYPE type
      if d.mmu.faults.length < 256 then d.openFault f
      else
        ({ d with mmu := { d.mmu with spill := d.mmu.spill ++ [f] } }).setErr Reg.MMU_ERR_FQ_OVERFLOW

/-- The 32 bytes of a fault queue entry (Table 12-6). -/
def OpenFault.bytes (f : OpenFault) (phase : Bool) : List Byte :=
  leBytes 2 f.id ++ leBytes 1 (f.type + 8 * f.level)
    ++ leBytes 1 ((if f.write then 1 else 0) + 2 * f.cls + 8 * f.src + (if phase then 128 else 0))
    ++ leBytes 1 f.asid ++ leBytes 1 0 ++ leBytes 2 f.sq ++ leBytes 8 f.va ++ leBytes 2 f.cid
    ++ leBytes 2 f.ctx ++ leBytes 4 f.left ++ leBytes 8 f.time.toNat

/-! ## Transfers (R436, R442) -/

/-- The bytes that a device write moves next, taken from what it carries. -/
def Dev.takeBytes (d : Dev) (x : Xfer) (n : Nat) : List Byte × Dev :=
  match x.what with
  | .dataWrite c =>
    match d.ctx c with
    | some k => (k.buf.take n, d.setCtx c (some { k with buf := k.buf.drop n }))
    | none => ([], d)
  | .sealWrite c =>
    match d.ctx c with
    | some k => (k.seals.take n, d.setCtx c (some { k with seals := k.seals.drop n }))
    | none => ([], d)
  | .hlmBack line =>
    match mget d.brine.lines none line with
    | some l => (l.data.take n, d)
    | none => ([], d)
  | .headMirror q =>
    match d.sq q with
    | some s => (leBytes 8 (s.head + s.state * 65536), d)
    | none => ([], d)
  | _ => ([], d)

/-- A transfer that only opens the way for a ring entry or a head mirror: it ends once its page
translates, and the entry is written by `Dev.flush`. -/
def Purpose.marker : Purpose → Bool
  | .cqPost _ => true
  | .eventPost => true
  | .faultPost => true
  | _ => false

/-- The end of a transfer whose bytes are all moved. -/
def Dev.endX (d : Dev) (x : Xfer) : Dev :=
  match x.what with
  | .headMirror _ => d.dropX x.id
  | _ => d.putX { x with st := .done }

/-- Non-posted requests of a class outstanding: data reads and table reads; C2 and C3 count as one (R443). -/
def Dev.tagsOf (d : Dev) (cls : Nat) : Nat :=
  (d.mmu.xfers.filter fun y => min 2 y.cls == min 2 cls && (match y.st with
    | .issued _ => true | .walking => true | _ => false)).length

/-- Whether a class may have another non-posted request outstanding: of 1,024, 64 are the share of C0, 256 that of C1, and
C2 and C3 share the rest (R443). -/
def Dev.tagFree (d : Dev) (cls : Nat) : Bool :=
  decide (d.tagsOf cls < match cls with | 0 => 64 | 1 => 256 | _ => 704)

/-- Whether the writes of a transfer may carry the relaxed-ordering attribute: data and seals do, entries of rings, head
mirrors and lines of host-lent memory do not (R444; DEDUCED for the last two, assumption 94). -/
def Purpose.relaxed : Purpose → Bool
  | .dataWrite _ | .sealWrite _ => true
  | _ => false

/-- The bytes that the next TLP of a transfer moves: a read request up to 4 KiB that crosses no page, a write up to 512
(R442). -/
def Xfer.chunk (x : Xfer) : Nat := min x.left (if x.write then 512 - x.va % 512 else 4096 - x.va % 4096)

/-- Moves a transfer TLP by TLP until it is done, needs a walk, waits for read data, faults, or finds
bus mastering withdrawn. -/
def Dev.drive : Nat → Dev → Xfer → Dev
  | 0, d, x => d.putX x
  | k + 1, d, x =>
    if x.left = 0 then d.endX x
    else if !d.bme then d.putX { x with st := .noBus }
    else
      match d.tlbHit x.asid x.va x.write with
      | some phys =>
        -- the writing of a ring's entries counts their hits
        if x.what.marker then d.dropX x.id
        else
        let d := d.bump Reg.MMU_CNT_HIT_COUNT
        let n := x.chunk
        if x.write then
          let (bytes, d) := d.takeBytes x n
          Dev.drive k (d.send (.hostWrite phys bytes (x.what.relaxed && d.flag Reg.HIF_CFG_RO_EN))) { x with va := x.va + n, left := x.left - n }
        else if d.tagFree x.cls then (d.send (.hostRead x.id phys n)).putX { x with st := .issued n }
        else d.putX { x with st := .ready }
      | none =>
        if 2 ^ 48 ≤ x.va then d.fault x 2 0
        else if (d.root x.asid).isNone then d.fault x 3 0
        else if (d.mmu.xfers.filter fun y => y.st == .walking).length < 32 && d.tagFree x.cls then
          (d.bump Reg.MMU_CNT_MISS_COUNT).putX { x with st := .walking }
        else d.putX { x with st := .ready }

/-- Moves transfer `id` on. -/
def Dev.go (d : Dev) (id : Nat) : Dev :=
  match d.mmu.xfers.find? (fun y => y.id == id) with
  | some x => Dev.drive (x.left / 512 + 3) d x
  | none => d

/-- Starts a transfer (R429). -/
def Dev.start (d : Dev) (what : Purpose) (cls : Nat) (write : Bool) (asid va len : Nat)
    (sq : Nat := 0xFFFF) (cid : Nat := 0) (ctx : Nat := 0) : Dev :=
  let x : Xfer := { id := d.mmu.nextX, what := what, cls := cls, write := write, asid := asid, va := va,
                    left := len, sq := sq, cid := cid, ctx := ctx, st := .ready }
  Dev.drive (len / 512 + 3) { d with mmu := { d.mmu with xfers := d.mmu.xfers ++ [x], nextX := x.id + 1 } } x

/-- Transfers in the order of Table 1-2: C0, C1, C2, C3, and the oldest first within a class. What a transfer moves in one
step is not cut by another: a step knows all that is ready when it begins (assumption 117). -/
def byClass (l : List Xfer) : List Xfer := (List.range 4).flatMap fun c => l.filter fun x => x.cls == c

/-- Moves on every transfer in a state, in that order. -/
def Dev.wake (d : Dev) (sel : Xfer → Bool) : Dev := (byClass (d.mmu.xfers.filter sel)).foldl (fun d x => d.go x.id) d

/-- A request has ended: the transfers that waited for one go on. -/
def Dev.tagBack (d : Dev) : Dev := d.wake fun y => y.st == .ready

/-- The end of the walk of transfer `id` with the entries read from its starting level (R433). -/
def Dev.walkDone (d : Dev) (id : Nat) (reads : List TableRead) : Dev :=
  match d.mmu.xfers.find? (fun y => y.id == id && y.st == .walking) with
  | none => d
  | some x =>
    let (level, r, w) := d.walkFrom x.asid x.va
    match (if (d.root x.asid).isNone then .fail 3 0 else walk x.asid x.va x.write level r w reads) with
    | .leaf t path =>
      let d := (d.walkAdd path).tlbAdd t
      (d.go id).wake fun y => y.st == .ready
    | .fail type level => (d.fault x type level).wake fun y => y.st == .ready

/-! ## The rings the device writes -/

/-- The size in entries of ring `r` of QUE_RING (0 admin SQ, 1 admin CQ, 2 fault, 3 event). -/
def Dev.ringSize (d : Dev) (r : Nat) : Nat := d.rd Reg.QUE_RING_HI_SIZE r + 1

/-- The base of ring `r`. -/
def Dev.ringBase (d : Dev) (r : Nat) : Nat := d.rd Reg.QUE_RING_LO_VA r + d.rd Reg.QUE_RING_HI_VA r * 2 ^ 32

/-- Starts the one transfer of a ring that waits for its page, unless it already waits. -/
def Dev.askRing (d : Dev) (what : Purpose) (asid va len : Nat) : Dev :=
  if d.mmu.xfers.any (fun y => y.what == what) then d else d.start what 0 true asid va len

/-- The ring after one more entry: the tail wraps and inverts the phase (R457). -/
def DevRing.step (r : DevRing) (size : Nat) : DevRing :=
  if r.tail + 1 = size then { r with tail := 0, phase := !r.phase } else { r with tail := r.tail + 1 }

/-- Whether a device ring takes an entry now, and where: the host physical address of its slot. -/
def Dev.ringSlot (d : Dev) (n : Nat) (r : DevRing) : Option Nat :=
  if d.flag Reg.QUE_STATUS_ENABLED && d.bme && !r.stopped && (r.tail + 1) % d.ringSize n != r.head then
    d.tlbHit 0 (d.ringBase n + 32 * r.tail) true
  else none

/-- Whether the ring has space but its page does not translate yet. -/
def Dev.ringWants (d : Dev) (n : Nat) (r : DevRing) : Bool :=
  d.flag Reg.QUE_STATUS_ENABLED && !r.stopped && (r.tail + 1) % d.ringSize n != r.head
    && (d.tlbHit 0 (d.ringBase n + 32 * r.tail) true).isNone

/-- The write of a ring's entry or a head mirror whose page the TLB holds: a hit (Table 12-10). -/
def Dev.ringWrite (d : Dev) (phys : Nat) (bytes : List Byte) : Dev :=
  (d.bump Reg.MMU_CNT_HIT_COUNT).send (.hostWrite phys bytes)

/-- Writes fault entries to the fault ring while it has space (R437). -/
def postFaults (d : Dev) : List OpenFault → Dev
  | [] => { d with mmu := { d.mmu with toPost := [] } }
  | f :: t =>
    match d.ringSlot 2 d.mmu.faultRing with
    | some phys =>
      let r := d.mmu.faultRing
      let d := d.ringWrite phys (f.bytes r.phase)
      let d := { d with mmu := { d.mmu with faultRing := r.step (d.ringSize 2) } }
      postFaults (d.msix (d.rd Reg.QUE_VEC_FAULT)) t
    | none =>
      let d := { d with mmu := { d.mmu with toPost := f :: t } }
      if d.ringWants 2 d.mmu.faultRing then
        d.askRing .faultPost 0 (d.ringBase 2 + 32 * d.mmu.faultRing.tail) 32
      else d

/-- Writes event entries to the event ring while it has space; the rest waits (R472). -/
def postEvents (d : Dev) : List EqEnt → Dev × List EqEnt
  | [] => (d, [])
  | e :: t =>
    match d.ringSlot 3 d.mmu.eventRing with
    | some phys =>
      let r := d.mmu.eventRing
      let d := d.ringWrite phys (e.bytes r.phase)
      let d := { d with mmu := { d.mmu with eventRing := r.step (d.ringSize 3) } }
      postEvents (d.msix (d.rd Reg.QUE_VEC_EVENT)) t
    | none =>
      if d.ringWants 3 d.mmu.eventRing then
        (d.askRing .eventPost 0 (d.ringBase 3 + 32 * d.mmu.eventRing.tail) 32, e :: t)
      else (d, e :: t)

/-! ## Completions (R458, R474, R475) -/

/-- Drops the posted slots at the published head. -/
def Sq.advance (s : Sq) : List Bool → Sq
  | true :: t => ({ s with head := (s.head + 1) % s.size, slots := t }).advance t
  | l => { s with slots := l }

/-- The queue after the completion of the entry at ring index `slot` is posted (R458). -/
def Sq.posted (s : Sq) (slot : Nat) : Sq :=
  let l := s.slots.set ((slot + s.size - s.head) % s.size) true
  ({ s with slots := l }).advance l

/-- The 16 bytes of a completion entry (Table 13-6). -/
def Cqe.bytes (e : Cqe) (head : Nat) (phase : Bool) : List Byte :=
  leBytes 8 e.result.toNat ++ leBytes 2 e.sq ++ leBytes 2 head ++ leBytes 2 e.cid
    ++ leBytes 2 ((if phase then 1 else 0) + 2 * e.status + (if e.dnr then 512 else 0))

/-- The address of the head mirror of an SQ (Table 13-1). -/
def Dev.mirrorVa (d : Dev) (q : Nat) : Nat :=
  d.rd Reg.QUE_DB_BASE_LO_VA + d.rd Reg.QUE_DB_BASE_HI_VA * 2 ^ 32
    + (if q = 0 then 0x3080 else 0x2000 + 8 * (q - 1))

/-- Writes the head mirror of an SQ (R458). -/
def Dev.mirror (d : Dev) (q : Nat) : Dev :=
  match d.sq q, d.tlbHit 0 (d.mirrorVa q) true with
  | some s, some phys =>
    if d.bme then d.ringWrite phys (leBytes 8 (s.head + s.state * 65536))
    else d.askRing (.headMirror q) 0 (d.mirrorVa q) 8
  | some _, none => d.askRing (.headMirror q) 0 (d.mirrorVa q) 8
  | none, _ => d

/-- Posts the held completions of a CQ while its ring has space and its page translates. -/
def postCq (d : Dev) (c : Nat) : List Cqe → Dev
  | [] => d
  | e :: t =>
    match d.cq c with
    | none => d
    | some q =>
      let va := q.base + 16 * q.tail
      if q.err || (q.tail + 1) % q.size == q.head then d
      else
        match d.tlbHit q.asid va true with
        | none => d.askRing (.cqPost c) q.asid va 16
        | some phys =>
          if !d.bme then d
          else
            let old : Option Nat := (d.sq e.sq).map (·.head)
            let d := match d.sq e.sq with
              | some s => d.setSq e.sq (some (s.posted e.slot))
              | none => d
            let head := match d.sq e.sq with
              | some s => s.head
              | none => 0
            let d := d.ringWrite phys (e.bytes head q.phase)
            let wrap := q.tail + 1 == q.size
            let now := e.notify || q.count == 0 || decide (q.count ≤ q.unsig + 1)
            let d := d.setCq c (some { q with
              tail := if wrap then 0 else q.tail + 1,
              phase := if wrap then !q.phase else q.phase, held := t,
              unsig := if now then 0 else q.unsig + 1 })
            let d := (d.setCtx e.ctx none).bump Reg.QUE_CNT_CPL_COUNT
            -- the head mirror is written when the published head advances (R458)
            let d := if (d.sq e.sq).map (·.head) == old then d else d.mirror e.sq
            let d := if now then d.msix q.vector else d
            postCq d c t

/-- Everything that waits to be written to host memory, as far as the rings take it: fault entries, then
completions, then event entries. -/
def Dev.flush (d : Dev) (waiting : List EqEnt) : Dev × List EqEnt :=
  let d := if d.mmu.toPost.isEmpty then d else postFaults d d.mmu.toPost
  let d := d.que.cqs.foldl (fun d e =>
    match e.2 with
    | some q => postCq d e.1 q.held
    | none => d) d
  postEvents d waiting

end Sys2Proof.Machine
end

