-- ==== Sys2Proof/Machine/Run.lean ====
section
/-! DEFINITION. How every command ends: its requests are settled in the recorder and on the interfaces in
one place, so that what a meaning can do to them is said once. -/

namespace Sys2Proof.Machine

open Sys2Proof

/-- The outputs among the requests of a step. -/
def outsOf : List Emit → List Out
  | [] => []
  | .out o :: t => o :: outsOf t
  | _ :: t => outsOf t

/-- The state after a command whose meaning left the device at `d`: the records are made, then whatever
waits for a host ring is posted (R472), and the records that this makes in its turn are made. -/
def State.settle (s : State) (d : Dev) : State :=
  let r := s.evr.absorb d.out
  let p := Dev.flush { d with out := [] } r.waiting
  { dev := { p.1 with out := [] },
    evr := { r with waiting := p.2 }.absorb p.1.out,
    sent := outsOf d.out ++ outsOf p.1.out,
    pending := s.pending }

/-- The device at the start of a command: nothing is asked of the recorder and the interfaces yet. -/
def State.fresh (s : State) : Dev := { s.dev with out := [] }

/-- Runs a meaning over the device. -/
def State.run (s : State) (f : Dev → Dev) : Host.Outcome State Fault Refusal :=
  .next (s.settle (f s.fresh))

/-- Programs or erases in the flash: the first such operation after a reset ends the write protection (R363). -/
def Dev.flashWrite (d : Dev) (op : FlashOp) : Dev :=
  Dev.send { d with sal := { d.sal with wpLow := false } } (.flash op)

/-- Clears one bit of a field. -/
def Dev.clearBit (d : Dev) (f : Fld) (k : Nat) : Dev := d.wr f (d.rd f - d.rd f / 2 ^ k % 2 * 2 ^ k)

/-- Sets one bit of a field. -/
def Dev.setBit (d : Dev) (f : Fld) (k : Nat) : Dev := d.wr f (d.rd f ||| 2 ^ k)

/-- The unit's automatic gating is undone (R357). -/
def Dev.autoWake (d : Dev) (u : Nat) : Dev :=
  if d.clk.autoOff.getLsbD u then
    { d.setBit Reg.CLK_GATE_ST_RUN u with clk := { d.clk with autoOff := d.clk.autoOff &&& ~~~(1#14 <<< u) } }
  else d

/-- The safe latch is set (R363). -/
def Dev.safe (d : Dev) : Bool := d.flag Reg.CLK_STATUS_SAFE

/-- The clock of unit `u` of CLK_GATE runs, and the safe latch does not hold the unit in reset (R354, R364). -/
def Dev.clocked (d : Dev) (u : Nat) : Bool := (d.rd Reg.CLK_GATE_ST_RUN).testBit u && !d.safe

/-- Runs the meaning of a row that is a period of the clock of unit `u`: with that clock stopped there is none (R354). -/
def State.runTick (u : Nat) (s : State) (f : Dev → Dev) : Host.Outcome State Fault Refusal :=
  s.run fun d => if d.clocked u then f d else d

/-- Runs the meaning of a row that asks something of unit `u`: automatic gating is undone by it (R357), and with the clock
stopped by its enable the unit keeps its state and the request has no effect (R354, assumption 115). -/
def State.runUnit (u : Nat) (s : State) (f : Dev → Dev) : Host.Outcome State Fault Refusal :=
  s.run fun d =>
    if d.clocked u then f d
    else if d.clk.autoOff.getLsbD u && !d.safe then f (d.autoWake u)
    else d

/-- Runs a meaning that reads the recorder. -/
def State.runR (s : State) (f : Recorder → Dev → Dev) : Host.Outcome State Fault Refusal :=
  .next (s.settle (f s.evr s.fresh))

end Sys2Proof.Machine
end

