-- ==== Sys2Proof/Machine/Access.lean ====
section
/-! DEFINITION. Register access over the register map: finding a register by its BAR0 offset, reading it,
and what each access type does with a write (R11 to R16, R424, R616). -/

namespace Sys2Proof.Machine

open Sys2Proof

/-- The instance of a register that an offset names. -/
def RegDef.at? (r : RegDef) (off : Nat) : Option (Nat × Nat) :=
  if off < r.base then none
  else
    let rem := off - r.base
    let i := if r.sa = 0 then 0 else rem / r.sa
    let rem := if r.sa = 0 then rem else rem % r.sa
    let j := if r.sb = 0 then 0 else rem / r.sb
    let rem := if r.sb = 0 then rem else rem % r.sb
    if rem = 0 && decide (i < r.ca) && decide (j < r.cb) then some (i, j) else none

/-- The register at a BAR0 offset in a table, with its instance. -/
def findReg (off : Nat) : List RegDef → Option (RegDef × Nat × Nat)
  | [] => none
  | r :: t =>
    match r.at? off with
    | some (i, j) => some (r, i, j)
    | none => findReg off t

/-- The register at a BAR0 offset (R616). -/
def regAt (off : Nat) : Option (RegDef × Nat × Nat) := findReg off regTable

/-- The number of the unit that a BAR0 offset belongs to in CLK_GATE, if any (Table 10-7). -/
def gateOf (off : Nat) : Option Nat :=
  if 0x100000 ≤ off && off < 0x110000 then some ((off - 0x100000) / 0x4000)
  else if 0x200000 ≤ off && off < 0x230000 then some 4
  else if 0x300000 ≤ off && off < 0x318000 then some 5
  else if 0x380000 ≤ off && off < 0x390000 then some 6
  else if 0x400000 ≤ off && off < 0x440000 then some 7
  else if 0x500000 ≤ off && off < 0x510000 then some 8
  else if 0x600000 ≤ off && off < 0x610000 then some 9
  else if 0x700000 ≤ off && off < 0x710000 then some 10
  else if 0x780000 ≤ off && off < 0x790000 then some 11
  else if 0xA0000 ≤ off && off < 0xB0000 then some 12
  else if 0x40000 ≤ off && off < 0x50000 then some 13
  else none

/-- A BAR0 offset inside the window of a fused-off resource (R4). -/
def Dev.fusedOff (d : Dev) (off : Nat) : Bool :=
  d.isAB &&
    ((0x108000 ≤ off && off < 0x110000)
      || (0x210000 + 256 * 0x100 ≤ off && off < 0x230000)
      || (0x300120 ≤ off && off < 0x300140)
      || (0x310000 + 256 * 0x40 ≤ off && off < 0x318000)
      || (0x380120 ≤ off && off < 0x380140)
      || (0x420000 ≤ off && off < 0x440000)
      || (0x504000 ≤ off && off < 0x508000)
      || (0x508000 + 16 * 0x400 ≤ off && off < 0x510000)
      || (0x600120 ≤ off && off < 0x600140)
      || (0x600160 ≤ off && off < 0x600180))

/-- Counts the lines of the Brine cache that are dirty. -/
def Dev.dirtyLines (d : Dev) : Nat :=
  (d.brine.lines.filter fun e => match e.2 with | some l => l.dirty | none => false).length

/-- Segments and superblocks: the free data superblocks (SAL_SB.FREE). -/
def Dev.freeSbs (d : Dev) : Nat :=
  (List.range (d.flash.blocks - 12)).countP fun k =>
    match d.sal.sbs.find? (fun e => e.1 == k + 12) with
    | some e => e.2.state == 0
    | none => true

/-- The mask of the stages granted here, and of the front-ends owned here (PEER_OWN). -/
def Dev.grantMask (d : Dev) : Nat :=
  (List.range 8).foldl (fun m n => if d.flag Reg.MOT_SP_STATUS_GRANT n then m + 2 ^ n else m) 0
def Dev.ownMask (d : Dev) : Nat :=
  (List.range 16).foldl (fun m p => if d.rd Reg.SOR_STATUS_OWNER p = 1 then m + 2 ^ p else m) 0

/-- The key of a table: kind, loop (0 focus, 1 tracking, 2 radial tilt, 3 yaw), layer and speed. -/
def tabKey (kind loop layer speed : Nat) : Nat := ((kind * 4 + loop) * 4 + layer) * 2 + speed

/-- A table of an engine; one never written is invalid and reads as zero (R255). -/
def Servo.tab (x : Servo) (k : Nat) : Tab := (mget x.tabs none k).getD { valid := false, rev := 0, ents := [] }
def Tab.at (t : Tab) (i : Nat) : Int := if t.valid then mget t.ents 0 i else 0

/-- What SVO_TBL_DATA of an engine shows (Table 7-16): the entry that SVO_TBL_ADDR selects, or the valid bit. -/
def Dev.tblData (d : Dev) (key : Nat) : Option Nat :=
  let off := key / 32 * 4
  if off < 0x400084 || (off - 0x400084) % 0x4000 != 0 || 16 ≤ (off - 0x400084) / 0x4000 then none
  else
    let p := (off - 0x400084) / 0x4000
    let kind := d.rd Reg.SVO_TBL_ADDR_KIND p
    let t := (mget d.servos Servo.reset p).tab
      (if kind = 0 then tabKey 0 (d.rd Reg.SVO_TBL_ADDR_LOOP p) (d.rd Reg.SVO_TBL_ADDR_LAYER p) (d.rd Reg.SVO_TBL_ADDR_SPEED p)
       else tabKey kind 0 0 0)
    some (if key % 32 = 0 then toBits 16 (t.at (d.rd Reg.SVO_TBL_ADDR_ENTRY p)) else if t.valid then 1 else 0)

/-- CAL_PK_TEMP.POINTS of a pickup (Table 9-12): the points of the read seed set of its present scope. -/
def Dev.seedPoints (d : Dev) (key : Nat) : Option Nat :=
  ((List.range 16).find? fun p => key == Reg.CAL_PK_TEMP_POINTS.key p 0).map fun p =>
    (mget d.cal.sets [] (calKey qSeed p (d.rd Reg.SVO_STATE_LAYER p) (min 23 (zoneOf (d.rd Reg.SVO_TARGET_TRACK p / 32)))
      (d.rd Reg.SVO_STATE_SPEED p) (d.rd Reg.SVO_STATE_LAND p))).length

/-- SAL_OLDEST.HOURS (Table 14-13): the whole hours since the page time of the oldest live staged LB. -/
def Dev.oldestHours (d : Dev) : Nat :=
  let ages := d.sal.idx.filterMap fun e =>
    if e.mirror then none
    else (mget d.sal.map none e.lsn).bind fun g =>
      (mget d.flash.pages none ((g.sb * 512 + g.seg) * 2048 + e.slot / 4)).map fun p => (d.now - p.time).toNat
  min 65535 (ages.foldl max 0 / 3600000000000)

/-- The register fields that show state held elsewhere, by bit address. -/
def Dev.shown (d : Dev) (r : Recorder) (key : Nat) : Option Nat :=
  if key = Reg.REC_STATUS_HELD.key 0 0 then some r.held.length
  else if key = Reg.REC_OLDEST_LO_SEQ.key 0 0 then some (r.oldest.toNat % 2 ^ 32)
  else if key = Reg.REC_OLDEST_HI_SEQ.key 0 0 then some (r.oldest.toNat / 2 ^ 32)
  else if key = Reg.REC_NEXT_LO_SEQ.key 0 0 then some (r.next.toNat % 2 ^ 32)
  else if key = Reg.REC_NEXT_HI_SEQ.key 0 0 then some (r.next.toNat / 2 ^ 32)
  else if key = Reg.REC_OVERWRITE_COUNT.key 0 0 then some r.overwrite
  else if key = Reg.REC_CLEAR_CNT_COUNT.key 0 0 then some (r.clears % 2 ^ 32)
  else if key = Reg.QUE_STATUS_EQ_PENDING.key 0 0 then some (min 4095 r.waiting.length)
  else if key = Reg.QUE_CTX_IN_USE.key 0 0 then some d.que.ctxs.length
  else if key = Reg.MMU_STATUS_FAULTS_OPEN.key 0 0 then some (min 256 d.mmu.faults.length)
  else if key = Reg.MMU_STATUS_AS_VALID.key 0 0 then
    some ((List.range 256).countP fun a => (d.root a).isSome)
  else if key = Reg.BRC_DIRTY_LINES.key 0 0 then some d.dirtyLines
  else if key = Reg.BRC_STATUS_CLEAN.key 0 0 then some (if d.dirtyLines = 0 then 1 else 0)
  else if key = Reg.SAL_STAGED_LBS.key 0 0 then some (d.sal.idx.countP fun e => !e.mirror)
  else if key = Reg.SAL_OLDEST_HOURS.key 0 0 then some d.oldestHours
  else if key = Reg.SAL_SB_FREE.key 0 0 then some (if d.rd Reg.SAL_SB_TOTAL = 0 then 0 else d.freeSbs)
  else if key = Reg.SET_STATUS_SETS.key 0 0 then some (d.set.sets.countP fun e => decide (e.1 < 65536))
  else if key = Reg.SET_LOST_ENTRIES.key 0 0 then some d.set.lost.length
  else if key = Reg.PEER_OWN_SPINDLES.key 0 0 then some d.grantMask
  else if key = Reg.PEER_OWN_PICKUPS.key 0 0 then some d.ownMask
  else (d.seedPoints key).orElse fun _ => d.tblData key

/-- The value that a register field reads (R12, R15). -/
def Dev.fieldAt (d : Dev) (r : Recorder) (g : RegDef) (f : RField) (i j : Nat) : Nat :=
  let key := (g.base + g.sa * i + g.sb * j) * 8 + f.lo
  match d.shown r key with
  | some v => v
  | none => mget d.fv (f.rst.getD j (f.rst.headD 0)) key

/-- The word that a register reads: its fields, RSV bits 0 (R16). -/
def Dev.regWord (d : Dev) (r : Recorder) (g : RegDef) (i j : Nat) : Nat :=
  g.fields.foldl (fun w f => w + d.fieldAt r g f i j * 2 ^ f.lo) 0

/-- What a read of a BAR0 offset returns: 0 outside every register, in a fused-off window, and in a unit
whose clock is stopped (R4, R356, R424). Reads have no side effect (R15). -/
def Dev.readWord (d : Dev) (r : Recorder) (off : Nat) : Nat :=
  let off := off / 4 * 4
  if d.fusedOff off then 0
  else if (match gateOf off with
      | some u => !(d.rd Reg.CLK_GATE_ST_RUN).testBit u && !d.clk.autoOff.getLsbD u
      | none => false) then 0
  else if 0x58000 ≤ off && off < 0x5C000 then
    mget d.msixTab (if off % 16 = 12 then 1 else 0) ((off - 0x58000) / 4)
  else if 0x5C000 ≤ off && off < 0x5C080 then
    (List.range 32).foldl (fun w b => w + if d.pba.contains ((off - 0x5C000) * 8 + b) then 2 ^ b else 0) 0
  else
    match regAt off with
    | some (g, i, j) => d.regWord r g i j
    | none => 0

/-- A value that a field's description refuses (R14): a reserved value of LCS_CFG.TAMPER_ACTION, TG_BOOT.MARCH and
SOR_CFG.TEST, and CLK_RST.SW_RESET without its key. -/
def refused (key v word : Nat) : Bool :=
  (key == Reg.LCS_CFG_TAMPER_ACTION.key 0 0 && v == 3)
    || (key == Reg.TG_BOOT_MARCH.key 0 0 && v == 3)
    || ((List.range 16).any (fun p => key == Reg.SOR_CFG_TEST.key p 0) && decide (2 < v))
    || (key == Reg.CLK_RST_SW_RESET.key 0 0 && v == 1 && word % 256 != 0xC5)

/-- A write of one field under its access type (R12, R14): the device, and whether a differing value was
discarded. The CLK_GATE enables take writes under R355 instead. -/
def Dev.writeField (d : Dev) (r : Recorder) (g : RegDef) (i j : Nat) (val : Nat) (f : RField) : Dev × Bool :=
  let key := (g.base + g.sa * i + g.sb * j) * 8 + f.lo
  let dflt := f.rst.getD j (f.rst.headD 0)
  let cur := d.fieldAt r g f i j
  let v := val / 2 ^ f.lo % 2 ^ f.w
  let put (n : Nat) : Dev := { d with fv := mset d.fv dflt key n }
  if refused key v val then (d, true)
  else if key == Reg.CLK_GATE_EN.key 0 0 then (d, false)
  else
    match f.acc with
    | .ro => (d, v != cur)
    | .rw => (put v, false)
    | .rwl => if d.flag Reg.GLB_SETUP_LOCK_LOCK then (d, v != cur) else (put v, false)
    | .w1c => (put (cur - (cur &&& v)), false)
    | .w1s => (put (cur ||| v), false)

/-- A write of every field of a register. -/
def Dev.writeFields (d : Dev) (r : Recorder) (g : RegDef) (i j : Nat) (val : Nat) : List RField → Dev × Bool
  | [] => (d, false)
  | f :: t =>
    let p := d.writeField r g i j val f
    let q := p.1.writeFields r g i j val t
    (q.1, p.2 || q.2)

/-- The record of a discarded write (code 0x2001). -/
def Dev.discarded (d : Dev) (off val : Nat) : Dev :=
  d.record 0x2001 (unitOf off) 1 (payload [(0, 4, off), (4, 4, val)])

/-- A write whose byte enables do not cover a whole register (R424). -/
def Dev.badAccess (d : Dev) (off : Nat) : Dev := d.setErr Reg.HIF_ERR_BAD_ACCESS (further := [(9, 4, off)])

/-- A bit of HIF_ERR other than BAD_ACCESS: no offset applies to its record (R627). -/
def Dev.hifErr (d : Dev) (f : Fld) : Dev := d.setErr f (further := [(9, 4, 0xFFFFFFFF)])

/-- A write of the MSI-X table: a vector that is unmasked sends its pending message (R448). -/
def Dev.writeMsix (d : Dev) (off val : Nat) : Dev :=
  let w := (off - 0x58000) / 4
  let d := { d with msixTab := mset d.msixTab (if w % 4 = 3 then 1 else 0) w (if w % 4 = 3 then val % 2 else val) }
  if w % 4 = 3 && val % 2 = 0 && d.pba.contains (w / 4) && d.bme then
    { d.send (.msix (w / 4)) with pba := d.pba.filter (· != w / 4) }
  else d

/-- A block of a unit that the safe latch holds in reset (R364): all but those of the management complex, the clock unit and
Tidegate, and the recorder; HIF_BOOT is the management's own (R367). -/
def heldAt (off : Nat) : Bool :=
  !(decide (off < 0x40000) || (decide (0x90000 ≤ off) && decide (off < 0xA0000)) || off == 0x5000C)

/-- An access to a register of a unit that is gated automatically restarts its clock (R357). -/
def Dev.wakeAt (d : Dev) (off : Nat) : Dev := match gateOf off with | some u => d.autoWake u | none => d

/-- The field part of a host write to a BAR0 offset: the device, and whether a register took it (so that
an action of that register follows). -/
def Dev.hostFields (d : Dev) (r : Recorder) (off val : Nat) : Dev × Bool :=
  if off % 4 != 0 then (d.badAccess off, false)
  else if d.fusedOff off then (if val = 0 then d else d.discarded off val, false)
  else
    let d := d.wakeAt off
    if d.safe && heldAt off then (d, false)
    else if (match gateOf off with | some u => !(d.rd Reg.CLK_GATE_ST_RUN).testBit u | none => false) then (d, false)
    else if 0x58000 ≤ off && off < 0x5C000 then (d.writeMsix off val, false)
    else
      match regAt off with
      | none => (d, false)
      | some (g, i, j) =>
        let p := d.writeFields r g i j val g.fields
        (if p.2 then p.1.discarded off val else p.1, true)

end Sys2Proof.Machine
end

