-- ==== Sys2Proof/Machine/Command.lean ====
section
/-! DEFINITION. Commands in their contexts: fields, status codes, the order in which a command is judged,
completion, and the disabling of queues (R461 to R474, R482, R487). -/

namespace Sys2Proof.Machine

open Sys2Proof

/-! ## Status codes (Table 13-10) -/

namespace St

def success : Nat := 0x00
def invalidOpcode : Nat := 0x01
def invalidField : Nat := 0x02
def notPresent : Nat := 0x03
def invalidAddress : Nat := 0x04
def invalidState : Nat := 0x05
def busy : Nat := 0x06
def hlmNotGranted : Nat := 0x07
def internalError : Nat := 0x08
def lifeCycleDenied : Nat := 0x09
def authFailed : Nat := 0x0A
def notFormatted : Nat := 0x0B
def inProgress : Nat := 0x0C
def superseded : Nat := 0x0D
def queueInvalidId : Nat := 0x10
def queueInvalidSize : Nat := 0x11
def queueState : Nat := 0x12
def cqInUse : Nat := 0x13
def asidInvalid : Nat := 0x14
def faultNotOpen : Nat := 0x15
def vectorInvalid : Nat := 0x16
def translationFault : Nat := 0x20
def volumeNotFound : Nat := 0x30
def lbaOutOfRange : Nat := 0x31
def volumeSealed : Nat := 0x32
def sealGuard : Nat := 0x33
def sealReference : Nat := 0x34
def sealVolumeTag : Nat := 0x35
def lbaLost : Nat := 0x36
def setInvalid : Nat := 0x37
def spareNone : Nat := 0x38
def mediaError : Nat := 0x40
def mediaNotPresent : Nat := 0x41
def mediaNotBlank : Nat := 0x42
def mediaForeign : Nat := 0x43
def firmwareInvalid : Nat := 0x50
def peerUnavailable : Nat := 0x51
def ownershipDenied : Nat := 0x52
def notHomed : Nat := 0x53

/-- Whether a status sets DNR (Table 13-10). -/
def dnr (s : Nat) : Bool :=
  [0x01, 0x02, 0x03, 0x04, 0x09, 0x0A, 0x0B, 0x10, 0x11, 0x14, 0x15, 0x16, 0x30, 0x31, 0x32, 0x33, 0x34,
   0x35, 0x36, 0x37, 0x42, 0x43, 0x50].contains s

end St

/-! ## Fields of a submission entry (Table 13-5) -/

/-- Which common fields a command uses, and which of the bytes b40 to b63 (R473). -/
structure Uses where
  volume : Bool := false
  lba : Bool := false
  count : Bool := false
  xflags : Nat := 0
  data : Bool := false
  seals : Bool := false
  b : List Nat := []
deriving DecidableEq, Repr

end Sys2Proof.Machine

namespace Sys2Proof

open Sys2Proof.Machine

/-- Byte `k` (40 to 63) of an entry. -/
def Sqe.at (e : Sqe) (k : Nat) : Nat := (e.b.getD (k - 40) 0).toNat

/-- `n` bytes of an entry from byte `k`, little-endian. -/
def Sqe.le (e : Sqe) (k n : Nat) : Nat := ofBytes ((e.b.drop (k - 40)).take n)

/-- The opcode of an entry. -/
def Sqe.op (e : Sqe) : Nat := e.opcode.toNat

/-- SEALS. -/
def Sqe.seals (e : Sqe) : Bool := e.flags.getLsbD 0

/-- NOTIFY. -/
def Sqe.notify (e : Sqe) : Bool := e.flags.getLsbD 1

/-- Whether every field that the command does not use is 0 (R473), and the pointers that it uses are
8-byte aligned. -/
def Sqe.unusedZero (e : Sqe) (u : Uses) : Bool :=
  (u.volume || e.volume == 0) && (u.lba || e.lba == 0) && (u.count || e.count == 0)
    && e.xflags.toNat / 2 ^ u.xflags == 0 && (u.data || e.data == 0)
    && (if u.seals && e.seals then e.sealPtr.toNat % 8 == 0 else e.sealPtr == 0)
    && (u.seals || !e.seals) && e.flags.toNat / 4 == 0 && e.rsv == 0 && e.data.toNat % 8 == 0
    && ((List.range 24).all fun i => u.b.contains (40 + i) || (e.b.getD i 0) == 0)

end Sys2Proof

namespace Sys2Proof.Machine

open Sys2Proof

/-! ## Which commands are permitted (Table 16-8, R628) -/

/-- The life-cycle state (LCS_STATUS.STATE): 0 BLANK, 1 PROVISIONED, 2 FIELD, 3 SERVICE, 4 RETIRED. -/
def Dev.lifeCycle (d : Dev) : Nat := d.rd Reg.LCS_STATUS_STATE

/-- An opcode that Tables 13-7 to 13-9 define. -/
def knownOp (op : Nat) : Bool :=
  [0x01, 0x02, 0x03, 0x04, 0x05, 0x06, 0x08, 0x09, 0x0A, 0x0C, 0x10, 0x11, 0x12, 0x13, 0x18, 0x19, 0x1A,
   0x1B, 0x1C, 0x20, 0x24, 0x25, 0x28, 0x29, 0x2A, 0x30, 0x31, 0x38, 0x3C, 0x40, 0x41, 0x80, 0x81, 0x82,
   0x83, 0x84, 0x85].contains op

/-- Whether a command is permitted in a life-cycle state (Table 16-8). -/
def permitted (l : Nat) (e : Sqe) : Bool :=
  let op := e.op
  if op == 0x24 || op == 0x25 then l != 4
  else if op == 0x41 && e.at 41 == 3 then l == 1 || l == 3
  else if [0x2A, 0x0A, 0x10, 0x11, 0x12, 0x20, 0x40, 0x41, 0x30, 0x31].contains op then
    l == 1 || l == 2 || l == 3
  else if (0x18 ≤ op && op ≤ 0x1C) || 0x80 ≤ op then l == 2 || l == 3
  else true

/-- Whether the tamper hold denies a command (R628). -/
def heldBack (e : Sqe) : Bool :=
  let op := e.op
  0x80 ≤ op || op == 0x20 || op == 0x18 || op == 0x19 || op == 0x1A
    || (op == 0x40 && e.at 40 == 0 && e.at 42 != 0)
    || (op == 0x41 && (e.at 41 == 0 || e.at 41 == 2 || e.at 41 == 4))
    || (op == 0x11 && e.at 40 == 1)

/-- The verdict of the checks that precede a command's own (R482): the status of the first that fails. -/
def Dev.verdict (d : Dev) (e : Sqe) : Option Nat :=
  if !knownOp e.op then some St.invalidOpcode
  else if !permitted d.lifeCycle e then some St.lifeCycleDenied
  else if d.flag Reg.LCS_STATUS_TAMPER_HOLD && heldBack e then some St.lifeCycleDenied
  else if d.flag Reg.HIF_BOOT_ROM && e.op != 0x24 then some St.invalidState
  else none

/-! ## Completion -/

/-- The completion queue that serves an SQ. -/
def Dev.cqOf (d : Dev) (q : Nat) : Nat := match d.sq q with | some s => s.cq | none => 0

/-- Makes the completion entry of a context; it is written to its ring as the ring takes it (R474). -/
def Dev.completeRaw (d : Dev) (c status : Nat) (result : Nat := 0) : Dev :=
  match d.ctx c with
  | none => d
  | some k =>
    let e : Cqe := { result := BitVec.ofNat 64 result, sq := k.sq, cid := k.e.cid.toNat, status := status,
                     dnr := St.dnr status, notify := k.e.notify, slot := k.slot, ctx := c }
    let d := d.send (.completed k.sq k.e.cid.toNat status (BitVec.ofNat 64 result))
    match d.cq (d.cqOf k.sq) with
    | some q =>
      if q.err then d.setCtx c none
      else (d.setCtx c (some { k with wait := .finished })).setCq (d.cqOf k.sq)
        (some { q with held := q.held ++ [e] })
    | none => d.setCtx c none

/-- The contexts that commands of an SQ hold. -/
def Dev.ctxsOf (d : Dev) (q : Nat) : List Nat :=
  (d.que.ctxs.filter fun e => match e.2 with | some k => k.sq == q | none => false).map (·.1)

/-- The context of a DISABLE QUEUE that waits for SQ `q`. -/
def Dev.disabler (d : Dev) (q : Nat) : Option Nat :=
  ((d.que.ctxs.find? fun e => match e.2 with | some k => k.wait == .queueOff q | none => false).map (·.1))

/-- An SQ in DISABLING with no command left is DISABLED, and its DISABLE QUEUE completes (R469). -/
def Dev.checkDisabled (d : Dev) (q : Nat) : Dev :=
  match d.sq q with
  | none => d
  | some s =>
    if s.state = 1 && (d.ctxsOf q).isEmpty then
      let d := (d.setSq q (some { s with state := 2, slots := [] })).mirror q
      match d.disabler q with
      | some c => d.completeRaw c St.success (s.head + 65536 * s.discarded + 2 ^ 32 * s.ended)
      | none => d
    else d

/-- Ends a command of a queue that is being disabled: no completion is posted (R469). -/
def Dev.endMuted (d : Dev) (c : Nat) : Dev :=
  match d.ctx c with
  | none => d
  | some k =>
    let d := d.setCtx c none
    let d := match d.sq k.sq with
      | some s => d.setSq k.sq (some { s with ended := s.ended + 1 })
      | none => d
    d.checkDisabled k.sq

/-- Completes a command with a status and a result; the completion of a command whose queue is being
disabled is suppressed (R469). -/
def Dev.complete (d : Dev) (c status : Nat) (result : Nat := 0) : Dev :=
  match d.ctx c with
  | none => d
  | some k =>
    if k.wait == .finished then d
    else if k.mute then d.endMuted c
    else d.completeRaw c status result

/-- Lets a started command wait. -/
def Dev.await (d : Dev) (c : Nat) (w : Wait) : Dev :=
  match d.ctx c with
  | some k => d.setCtx c (some { k with wait := w })
  | none => d

/-- The contexts whose commands wait as `p` says. -/
def Dev.waiting (d : Dev) (p : Wait → Bool) : List Nat :=
  (d.que.ctxs.filter fun e => match e.2 with | some k => p k.wait | none => false).map (·.1)

/-- Completes every command that waits as `p` says. -/
def Dev.completeAll (d : Dev) (p : Wait → Bool) (status : Nat) (result : Nat := 0) : Dev :=
  (d.waiting p).foldl (fun d c => d.complete c status result) d

/-- Writes a buffer of a command to host memory, and completes the command once it is written. -/
def Dev.reply (d : Dev) (c : Nat) (bytes : List Byte) (result : Nat := 0) : Dev :=
  match d.ctx c with
  | none => d
  | some k =>
    let asid := match d.sq k.sq with | some s => s.asid | none => 0
    let d := d.setCtx c (some { k with wait := .bufWrite, buf := bytes, acc0 := result })
    d.start (.dataWrite c) 1 true asid k.e.data.toNat bytes.length k.sq k.e.cid.toNat c

/-- A command row: the command in context `c`, if it is the row's and has not started, is judged
(R482) and then served. While a power-fail warning stands no command starts (R376). -/
def Dev.command (d : Dev) (c : Nat) (mine : Sqe → Bool) (u : Uses) (serve : Dev → Ctx → Dev) : Dev :=
  match d.ctx c with
  | none => d
  | some k =>
    if k.wait != .fresh || !mine k.e || d.clk.powerFail then d
    else
      let d := d.await c .run
      match d.verdict k.e with
      | some st => d.complete c st
      | none => if !k.e.unusedZero u then d.complete c St.invalidField else serve d k

/-- Deals with the transfers that have moved every byte: a command buffer written completes its command. -/
def Dev.reapBufs (d : Dev) : Dev :=
  (d.mmu.xfers.filter fun x => x.st == .done).foldl (fun d x =>
    match x.what with
    | .dataWrite c =>
      match d.ctx c with
      | some k => if k.wait == .bufWrite then (d.dropX x.id).complete c St.success k.acc0 else d
      | none => d.dropX x.id
    | _ => d) d

/-- Writes a command's buffer and takes the completion that follows. -/
def Dev.replyNow (d : Dev) (c : Nat) (bytes : List Byte) (result : Nat := 0) : Dev :=
  (d.reply c bytes result).reapBufs

end Sys2Proof.Machine
end

