-- ==== Sys2Proof/Machine/Pages.lean ====
section
/-! DEFINITION. A Saltern page as it stands at the flash interface: its layout, header and encryption (R493 to R495, R497); the
bodies of the messages that carry pages and records (R562). -/

namespace Sys2Proof.Machine

open Sys2Proof

/-- 16 bytes from (position, value) parts. -/
def recBits (l : List (Nat × Nat)) : BitVec 128 := BitVec.ofNat 128 (l.foldl (fun a q => a + q.2 * 2 ^ q.1) 0)

/-- The page header (Table 14-3), never encrypted. -/
def pageHeader (p : FlashPage) : List Byte :=
  let b := leBytes 1 p.kind ++ leBytes 1 ((if p.mirror then 1 else 0) + (if p.gcCopy then 2 else 0)) ++ leBytes 3 p.lsn
    ++ leBytes 2 p.page ++ leBytes 1 p.gen ++ leBytes 8 p.seq ++ leBytes 8 p.time.toNat ++ leBytes 4 p.opseq
  b ++ leBytes 4 (crc32c b).toNat

/-- The identity of an occupied slot (R493): volume, LBA, and bit 63. -/
def identity (vol lba : Nat) : List Byte := leBytes 8 (vol % 2 ^ 16 + lba % 2 ^ 40 * 2 ^ 16 + 2 ^ 63)

/-- The LB in slot `i` of a page. -/
def slotAt (p : FlashPage) (i : Nat) : Option (Nat × Nat × StagedLb) :=
  (p.slots.find? fun q => q.1 % 4 == i).map (·.2)

/-- The tweaks of R495: of an LB slot, of the metadata of a page, and of a summary page. -/
def slotTweak (lsn slot : Nat) : Nat := lsn * 2 ^ 13 + slot
def metaTweak (lsn page : Nat) : Nat := 2 ^ 63 + lsn * 2 ^ 13 + page
def summaryTweak (lsn page : Nat) : Nat := 2 ^ 62 + lsn * 2 ^ 13 + page

/-- The four LB slots of a data page, each encrypted on its own; a free slot holds zero (assumption 8). -/
def dataMain (key : Nat) (p : FlashPage) : List Byte :=
  (List.range 4).flatMap fun i =>
    Config.aesXts key (slotTweak p.lsn (4 * p.page + i))
      (match slotAt p i with | some q => q.2.2.data | none => List.replicate 4096 0)

/-- A summary page: its part of the identities of the segment in slot order, 2,048 to a page (R497). -/
def summaryMain (key : Nat) (p : FlashPage) (ids : List (List Byte)) : List Byte :=
  let l := ((ids.drop (2048 * (p.page - 2044))).take 2048).flatten
  Config.aesXts key (summaryTweak p.lsn p.page) (l ++ List.replicate (16384 - l.length) 0)

/-- A journal page of the peer: 32 bytes of header, then the records, padded with zeros (R504, R505, R566), laid out and
encrypted as the four slots of a page (assumption 96). -/
def journalMain (key : Nat) (p : FlashPage) : List Byte :=
  let l := pageHeader p ++ p.recs.flatMap fun r => leBytes 16 r.toNat
  let l := l ++ List.replicate (16384 - l.length) 0
  (List.range 4).flatMap fun i =>
    Config.aesXts key (slotTweak p.lsn (4 * p.page + i)) ((l.drop (4096 * i)).take 4096)

/-- The metadata of a page: the header, and the seal and identity of each slot, encrypted (Table 14-2). -/
def pageMeta (key : Nat) (p : FlashPage) : List Byte :=
  pageHeader p ++ Config.aesXts key (metaTweak p.lsn p.page) ((List.range 4).flatMap fun i =>
    match slotAt p i with
    | some q => q.2.2.tag ++ identity q.1 q.2.1
    | none => List.replicate 24 0)

/-- The spare area: the parity of the eight codewords of the main area and of the metadata (R493). -/
def pageSpare (main md : List Byte) : List Byte :=
  ((List.range 8).flatMap fun i => Config.flashParity ((main.drop (2048 * i)).take 2048) 208) ++ Config.flashParity md 64

/-- The identities of the 8,176 slots of a segment, from its pages as programmed and as asked for; the pages of an earlier
segment of the same number have another open sequence. -/
def segmentIds (f : Flash) (progs : List Prog) (lsn opseq : Nat) : List (List Byte) :=
  let pages := (f.pages.filterMap (·.2)) ++ progs.map (·.pg)
  let slots := (pages.filter fun p => p.lsn == lsn && p.opseq == opseq && p.kind == 1).flatMap (·.slots)
  (List.range 8176).map fun i => match slots.find? fun q => q.1 == i with
    | some q => identity q.2.1 q.2.2.1
    | none => leBytes 8 0

/-- A page as programmed: main area, metadata and spare area. -/
def pageImage (f : Flash) (progs : List Prog) (p : FlashPage) : List Byte × List Byte × List Byte :=
  let key := f.boot.keyGen
  let main := if p.kind = 2 then summaryMain key p (segmentIds f progs p.lsn p.opseq) else if p.kind = 3 then journalMain key p
    else dataMain key p
  let md := pageMeta key p
  (main, md, pageSpare main md)

/-- A page of the part as programmed. -/
def Dev.pageImage (d : Dev) (p : FlashPage) : List Byte × List Byte × List Byte :=
  Machine.pageImage d.flash d.sal.progs p

/-- Records in order, 16 bytes each, little-endian (R504, R619). -/
def recordBytes (l : List (BitVec 128)) : List Byte := l.flatMap fun r => leBytes 16 r.toNat

/-- A range of a MIRROR RELEASE, in the format of a RELEASE record (Tables 14-5, 16-1). -/
def releaseBytes (r : ReleaseRange) : List Byte :=
  recordBytes [recBits [(0, 4), (8, r.volume % 2 ^ 16), (24, r.lba % 2 ^ 40), (64, r.count % 2 ^ 16), (80, r.gen % 2 ^ 16),
    (96, Config.nerOpseq r % 2 ^ 32)]]

/-- What of the body of a message other rules give bytes for (Table 16-1): the page as programmed (Table 14-2), the flushed
page of records padded with zeros (R505), release ranges, information words, records, and LBs with their seals. -/
def nerContent (f : Flash) (progs : List Prog) : NerMsg → List Byte
  | .mirrorData p => let q := pageImage f progs p; q.1 ++ q.2.1 ++ q.2.2
  | .journal recs => let l := recordBytes recs; l ++ List.replicate (16352 - l.length) 0
  | .mirrorRelease rs => rs.flatMap releaseBytes
  | .cluster _ _ words => words.flatten
  | .burnReport recs => recordBytes recs
  | .fetchData _ _ lbs => lbs.flatMap fun b => match b with | some b => b.data ++ b.tag | none => []
  | .heartbeat _ | .mirrorAck _ | .fetch _ _ _ | .releaseRequest _ _ | .home _ _ _ => []

/-- The body of a message: the fields that no table lays out, then the content that rules give bytes for (the order is the
model's choice, assumption 114). -/
def nerBody (f : Flash) (progs : List Prog) (m : NerMsg) : List Byte := Config.nerFields m ++ nerContent f progs m

end Sys2Proof.Machine
end

