-- ==== Sys2Proof/Machine/Link.lean ====
section
/-! DEFINITION. Sending on the Nerindian link (R562), and the records of the peer unit. -/

namespace Sys2Proof.Machine

open Sys2Proof

/-- The peer's heartbeats arrive (PEER_STATUS.ALIVE). -/
def Dev.peerAlive (d : Dev) : Bool := d.flag Reg.PEER_STATUS_ALIVE

/-- The link is up (PEER_STATUS.LINK). -/
def Dev.linkUp (d : Dev) : Bool := d.flag Reg.PEER_STATUS_LINK

/-- The configured peer node. -/
def Dev.peerNode (d : Dev) : Nat := d.rd Reg.PEER_NODE_NID

/-- This node. -/
def Dev.node (d : Dev) : Nat := d.rd Reg.GLB_NODE_NID

/-- The type of a message (Table 16-1). -/
def nerType : NerMsg → Nat
  | .heartbeat _ => 0x01
  | .mirrorData _ => 0x02
  | .mirrorAck _ => 0x03
  | .journal _ => 0x04
  | .mirrorRelease _ => 0x05
  | .cluster _ _ _ => 0x06
  | .burnReport _ => 0x07
  | .fetch _ _ _ => 0x08
  | .fetchData _ _ _ => 0x09
  | .releaseRequest _ _ => 0x0A
  | .home _ _ _ => 0x0B

/-- The header of a message: type, length of the body, link sequence, and the low 16 bits of the CRC-32C of these and the
body (R562). -/
def nerHeader (f : Flash) (progs : List Prog) (seq : BitVec 16) (m : NerMsg) : List Byte :=
  let body := nerBody f progs m
  let h := leBytes 1 (nerType m) ++ leBytes 3 body.length ++ leBytes 2 seq.toNat
  h ++ leBytes 2 (crc32c (h ++ body)).toNat

/-- Sends a message with the next link sequence; it stays until it is acknowledged (R562). With the link
down nothing is sent. -/
def Dev.ner (d : Dev) (m : NerMsg) : Dev :=
  if d.linkUp then
    let seq := d.peer.txSeq
    ({ d with peer := { d.peer with txSeq := seq + 1, unacked := d.peer.unacked ++ [(seq, m)] } }).send
      (.ner seq m (nerHeader d.flash d.sal.progs seq m))
  else d

/-- Takes a message by its link sequence (R562): the sequence is to be acknowledged, and a message
received twice is discarded. -/
def Dev.nerTake (d : Dev) (seq : BitVec 16) (f : Dev → Dev) : Dev :=
  if !d.linkUp then d
  else
    let p := d.peer
    let d' := { d with peer := { p with toAck := if p.toAck.contains seq then p.toAck else p.toAck ++ [seq] } }
    if p.seen.contains seq then d'
    else f { d' with peer := { d'.peer with seen := ([seq] ++ p.seen).take 32768 } }

/-- Sets a PEER_ERR bit, with the peer node and the lane of the record. -/
def Dev.peerErr (d : Dev) (f : Fld) (lane : Nat := 0xFF) : Dev :=
  d.setErr f (further := [(9, 2, d.peerNode), (11, 1, lane)])

/-- A record of codes 0x6001 to 0x6004. -/
def Dev.peerRecord (d : Dev) (code : Nat) (sp pk volume : Nat := 0) : Dev :=
  d.record code 15 (if code == 0x6001 || code == 0x6003 then 3 else 2)
    (payload [(0, 2, d.peerNode), (2, 1, sp), (4, 2, pk), (6, 2, volume)]) 0 0 d.peerNode 0

end Sys2Proof.Machine
end

