-- ==== Sys2Proof/Machine/Seal.lean ====
section
/-! DEFINITION. Logical blocks and their seals (R543, R544). -/

namespace Sys2Proof.Machine

open Sys2Proof

/-- The 4,096 zero bytes of a pad LB, and its all-zero seal. -/
def zeroBlock : List Byte := List.replicate 4096 0
def zeroSeal : List Byte := List.replicate 16 0

/-- The seal of an LB (Table 15-2). -/
def sealBytes (vol lba gen : Nat) (data : List Byte) : List Byte :=
  leBytes 8 (crc64 data).toNat ++ leBytes 4 lba ++ leBytes 2 vol ++ leBytes 2 gen

/-- A pad LB: an all-zero seal over all-zero data passes every check (R543). -/
def isPad (data tag : List Byte) : Bool := tag == zeroSeal && data == zeroBlock

/-- Checks of a seal: the guard, the reference tag, the volume tag and the write generation. -/
def guardOk (data tag : List Byte) : Bool := tag.take 8 == leBytes 8 (crc64 data).toNat
def refOk (lba : Nat) (tag : List Byte) : Bool := (tag.drop 8).take 4 == leBytes 4 lba
def volOk (vol : Nat) (tag : List Byte) : Bool := (tag.drop 12).take 2 == leBytes 2 vol
def sealGen (tag : List Byte) : Nat := ofBytes (tag.drop 14)

/-- The first check that a seal fails at host ingest, as the status of R480. -/
def sealStatus (vol lba : Nat) (data tag : List Byte) : Option Nat :=
  if isPad data tag then none
  else if !guardOk data tag then some St.sealGuard
  else if !refOk lba tag then some St.sealReference
  else if !volOk vol tag then some St.sealVolumeTag
  else none

/-- Whether a block read from the staging flash passes (Table 15-3, Saltern read). -/
def stagedOk (vol lba gen : Nat) (lb : StagedLb) : Bool :=
  isPad lb.data lb.tag
    || (guardOk lb.data lb.tag && refOk lba lb.tag && volOk vol lb.tag && sealGen lb.tag == gen)

/-- Whether a block read from disc passes (Table 15-3, Disc read). -/
def discOk (vol lba : Nat) (data tag : List Byte) : Bool := (sealStatus vol lba data tag).isNone

/-- Sets a SET_ERR bit, with the volume, stripe, member and LBA of the record; all ones where one does
not apply (R560, R627). -/
def Dev.setErrRec (d : Dev) (f : Fld) (vol : Nat := 0xFFFF) (stripe : Nat := 0xFFFFFFFF) (member : Nat := 0xFF)
    (lba : Nat := 0xFFFFFFFFFFFFFFFF) : Dev :=
  d.setErr f (further := [(9, 2, vol), (11, 4, stripe), (15, 1, member), (16, 8, lba)])

/-- A failed seal check: the bit of the point, and its count (R544). -/
def Dev.sealFail (d : Dev) (f : Fld) (vol lba : Nat) : Dev :=
  (d.setErrRec f vol (lba := lba)).bump Reg.SET_CNT_SEAL_COUNT

end Sys2Proof.Machine
end

