-- ==== Sys2Proof/Machine/Saltern.lean ====
section
/-! DEFINITION. The Saltern: journal, segments, streams, the staging index, page programs, release and
garbage collection (R489 to R515). -/

namespace Sys2Proof.Machine

open Sys2Proof

/-! ## Geometry and small accessors -/

/-- LUNs of the staging flash: 12 channels of equal targets (R490). -/
def Dev.luns (d : Dev) : Nat := 12 * d.flash.ce * d.flash.luns

/-- What the parameter pages show at FORMAT (R490): every target of the 12 channels reports the same geometry, with pages of
16,384 bytes, at least 1,856 spare bytes, and 1 to 8 chip enables. -/
def Flash.geometryOk (f : Flash) : Bool :=
  let usual : Target := { pageBytes := f.pageBytes, spareBytes := f.spareBytes, pagesPerBlock := f.pagesPerBlock,
                          blocks := f.blocks, luns := f.luns }
  f.pageBytes == 16384 && decide (1856 ≤ f.spareBytes) && decide (1 ≤ f.ce) && decide (f.ce ≤ 8)
    && f.oddTargets.all fun q => q.2 == usual

/-- The channel, chip enable and LUN of a LUN index (R491: in that order). -/
def Dev.lunAt (d : Dev) (i : Nat) : Nat × Nat × Nat :=
  (i / (d.flash.ce * d.flash.luns), i / d.flash.luns % d.flash.ce, i % d.flash.luns)

/-- A superblock of the table. -/
def Dev.sb (d : Dev) (b : Nat) : SbEnt := mget d.sal.sbs SbEnt.free b

/-- Sets a superblock of the table. -/
def Dev.setSb (d : Dev) (b : Nat) (x : SbEnt) : Dev := { d with sal := { d.sal with sbs := mset d.sal.sbs SbEnt.free b x } }

/-- Segments that a superblock holds across its good blocks (R492, R497). -/
def Dev.segsOf (d : Dev) (b : Nat) : Nat :=
  min 512 ((d.luns - (d.sb b).bad.length) * d.flash.pagesPerBlock / 2048)

/-- The LUN index of a page of a superblock (R491). -/
def Dev.lunOf (d : Dev) (b seg page : Nat) : Nat :=
  let good := (List.range d.luns).filter fun i => !(d.sb b).bad.contains i
  good.getD ((seg * 2048 + page) % good.length) 0

/-- A map entry. -/
def Dev.seg (d : Dev) (lsn : Nat) : Option SegEnt := mget d.sal.map none lsn

/-- Sets or frees a map entry. -/
def Dev.setSeg (d : Dev) (lsn : Nat) (x : Option SegEnt) : Dev :=
  { d with sal := { d.sal with map := mset d.sal.map none lsn x } }

/-- The flash key of a page. -/
def pageKey (sb seg page : Nat) : Nat := (sb * 512 + seg) * 2048 + page

/-- A page as it stands on the flash. -/
def Dev.page (d : Dev) (sb seg page : Nat) : Option FlashPage := mget d.flash.pages none (pageKey sb seg page)

/-- A page of a mapped segment. -/
def Dev.pageOf (d : Dev) (lsn page : Nat) : Option FlashPage :=
  match d.seg lsn with
  | some e => d.page e.sb e.seg page
  | none => none

/-- The controller may issue ONFI operations: flash is not write-protected (R364) and VDDQ_ONF agrees with
ONF_RATE (R604). -/
def Dev.flashOk (d : Dev) : Bool := !d.sal.wpAll && d.clk.onfOk

/-- SAL_STATUS.STATE: 0 unformatted, 1 recovering, 2 ready, 3 formatting, 4 sanitising. -/
def Dev.salState (d : Dev) : Nat := d.rd Reg.SAL_STATUS_STATE

/-- Sets a SAL_ERR bit, with superblock, channel, chip enable and LUN (R528). -/
def Dev.salErr (d : Dev) (f : Fld) (sb : Nat := 0xFFFF) (lun : Option Nat := none) : Dev :=
  let (c, e, l) := match lun with
    | some i => d.lunAt i
    | none => (0xFF, 0xFF, 0xFF)
  d.setErr f (further := [(9, 2, sb), (11, 1, c), (12, 1, e), (13, 1, l)])

/-! ## Journal (R504, R505) -/

/-- A map entry in its 8 bytes (Table 14-4). -/
def SegEnt.bits (e : SegEnt) : Nat :=
  e.sb + e.seg * 2 ^ 16 + e.state * 2 ^ 25 + (if e.mirror then 2 ^ 28 else 0) + e.live * 2 ^ 29 + e.gen * 2 ^ 42

/-- The records of Table 14-5. -/
def recMap (lsn : Nat) (e : Option SegEnt) : BitVec 128 :=
  recBits [(0, 1), (24, lsn), (64, match e with | some e => e.bits | none => 0)]
def recSb (b state erases : Nat) : BitVec 128 := recBits [(0, 2), (16, b), (32, state), (64, erases)]
def recRelease (mirror : Bool) (r : Rel) : BitVec 128 :=
  recBits [(0, if mirror then 4 else 3), (8, r.vol), (24, r.lba), (64, r.count), (80, r.gen), (96, r.opseq)]
def recBad (b c e l : Nat) : BitVec 128 := recBits [(0, 5), (16, b), (32, c), (36, e), (39, l)]
def recBandStart (disc addr : Nat) : BitVec 128 := recBits [(0, 6), (8, disc), (64, addr)]
def recStripe (kind vol : Nat) (l : List (Nat × Nat)) : BitVec 128 := recBits ([(0, 7), (8, kind), (12, vol % 65536)] ++ l)
def recCkpt (seq first : Nat) : BitVec 128 := recBits [(0, 8), (8, seq), (72, first)]
def recOpen (stream lsn opseq : Nat) : BitVec 128 := recBits [(0, 9), (8, stream), (24, lsn), (64, opseq)]

/-- Bits of a record. -/
def recAt (r : BitVec 128) (pos w : Nat) : Nat := r.toNat / 2 ^ pos % 2 ^ w

/-- Programs the page of pending records (R505) on channels q and q + 6, the six pairs taking turns (DESIGN CHOICE, assumption
95); with mirror journal set it also goes to the peer (R566). -/
def Dev.flushJournal (d : Dev) : Dev :=
  if d.sal.pend.isEmpty || !d.flashOk then d
  else
    let seq := d.sal.jseq + 1
    let recs := d.sal.pend
    let d := { d with
      flash := { d.flash with journal := d.flash.journal ++ [(seq, recs)] },
      sal := { d.sal with jseq := seq, pend := [] } }
    let d := (d.wr Reg.SAL_JRNL_SEQ seq).flashWrite (.journal (seq % 6) seq recs)
    if d.mgmt.mirrorJournal && d.peerAlive then d.ner (.journal recs) else d

/-- Appends a record; 256 pending records are flushed (R505). -/
def Dev.journal (d : Dev) (r : BitVec 128) : Dev :=
  let d := { d with sal := { d.sal with pend := d.sal.pend ++ [r] } }
  if 256 ≤ d.sal.pend.length then d.flushJournal else d

/-- Appends a record that is flushed before the action that it records (R505, R545). -/
def Dev.journalForced (d : Dev) (r : BitVec 128) : Dev := (d.journal r).flushJournal

/-- Sets the state of a superblock and journals it. -/
def Dev.sbState (d : Dev) (b st : Nat) : Dev :=
  let x := d.sb b
  (d.setSb b { x with state := st }).journal (recSb b st x.erases)

/-! ## Segments -/

/-- The lowest free LSN. -/
def freeLsn : List (Nat × Option SegEnt) → Nat → Nat
  | [], n => n
  | e :: t, n => if e.1 = n then freeLsn t (n + 1) else n

/-- The lowest free data superblock. -/
def Dev.freeSb (d : Dev) : Option Nat :=
  ((List.range (d.flash.blocks - 12)).map (· + 12)).find? fun b => (d.sb b).state == 0

/-- Stream `s`: 0 own, 1 mirror, 2 GC (Table 14-5). -/
def Dev.stream (d : Dev) (s : Nat) : Stream := d.sal.streams.getD s Stream.reset

/-- Sets a stream. -/
def Dev.setStream (d : Dev) (s : Nat) (x : Stream) : Dev :=
  { d with sal := { d.sal with streams := d.sal.streams.set s x } }

/-- Takes a physical segment for a stream, opening a new superblock when the open one is full (R499). -/
def Dev.takeSeg (d : Dev) (s : Nat) : Option (Nat × Nat × Dev) :=
  let x := d.stream s
  match x.sb with
  | some b =>
    if x.seg < d.segsOf b then some (b, x.seg, d.setStream s { x with seg := x.seg + 1 })
    else
      let d := d.sbState b (if d.luns < 8 * (d.sb b).bad.length then 5 else 2)
      match d.freeSb with
      | some n => some (n, 0, (d.sbState n 1).setStream s { x with sb := some n, seg := 1 })
      | none => none
  | none =>
    match d.freeSb with
    | some n => some (n, 0, (d.sbState n 1).setStream s { x with sb := some n, seg := 1 })
    | none => none

/-- The open segment of a stream, opening a new one with the lowest free LSN and the next open sequence,
journalled with an OPEN record (R499). -/
def Dev.openSeg (d : Dev) (s : Nat) : Option (Nat × Dev) :=
  match (d.stream s).lsn with
  | some l => some (l, d)
  | none =>
    match d.takeSeg s with
    | none => none
    | some (b, g, d) =>
      let l := freeLsn d.sal.map 0
      let op := d.sal.opseq + 1
      let e : SegEnt := { sb := b, seg := g, state := 1, mirror := s == 1, live := 0, gen := 0, opseq := op }
      let d := { (d.setSeg l (some e)) with sal := { (d.setSeg l (some e)).sal with
        opseq := op, aged := d.sal.aged.filter (· != l) } }
      let d := (d.setStream s { d.stream s with lsn := some l, page := 0 }).journal (recOpen s l op)
      some (l, d)

/-! ## The order of service of the flash (Table 1-2) -/

/-- Whether a LUN holds an operation that has not ended. -/
def Dev.lunBusy (d : Dev) (l : Option Nat) : Bool :=
  l.isSome && (d.sal.progs.any (fun p => p.issued && p.lun == l) || d.sal.reads.any (fun r => r.issued && r.lun == l))

/-- Gives a program to its LUN unless the LUN is busy, or the LBs have no page yet. -/
def Dev.issueProg (d : Dev) (p : Prog) : Dev :=
  if p.issued || p.lun.isNone || d.lunBusy p.lun then d
  else
    ({ d with sal := { d.sal with progs := d.sal.progs.map fun q => if q == p then { p with issued := true } else q } }).flashWrite
      (.program p.sb (p.seg * 2048 + p.pg.page) p.pg (d.pageImage p.pg))

/-- Gives a read to its LUN unless the LUN is busy. -/
def Dev.issueRead (d : Dev) (r : PRead) : Dev :=
  if r.issued || d.lunBusy r.lun then d
  else
    ({ d with sal := { d.sal with reads := d.sal.reads.map fun q => if q == r then { r with issued := true } else q } }).send
      (.flash (.read r.lsn r.page))

/-- The operations that wait, and then erases, go to the LUNs that are free in the order of Table 1-2: the host path's
programs and reads, then burn read-out, and last what garbage collection does (R511). An operation in progress is not interrupted. An erase
waits while any other operation does (assumption 85). -/
def Dev.serve (d : Dev) : Dev :=
  let d := (d.sal.progs.filter fun p => p.stream != 2).foldl Dev.issueProg d
  let d := (d.sal.reads.filter fun r => r.why != .gc && r.why != .burn).foldl Dev.issueRead d
  let d := (d.sal.reads.filter fun r => r.why == .burn).foldl Dev.issueRead d
  let d := (d.sal.progs.filter fun p => p.stream == 2).foldl Dev.issueProg d
  let d := (d.sal.reads.filter fun r => r.why == .gc).foldl Dev.issueRead d
  if d.sal.progs.any (fun p => !p.issued && p.lun.isSome) || d.sal.reads.any (fun r => !r.issued) then d
  else
    d.sal.erasing.foldl (fun d b => d.flashWrite (.erase b)) { d with sal := { d.sal with erasing := [] } }

/-- Asks for a program. -/
def Dev.askProg (d : Dev) (p : Prog) : Dev :=
  ({ d with sal := { d.sal with progs := d.sal.progs ++ [p] } }).serve

/-- Asks for the erase of a superblock. -/
def Dev.askErase (d : Dev) (b : Nat) : Dev :=
  ({ d with sal := { d.sal with erasing := d.sal.erasing ++ [b] } }).serve

/-- Programs a page of a mapped segment, with the header of Table 14-3. -/
def Dev.programAt (d : Dev) (s kind lsn : Nat) (e : SegEnt) (page gen : Nat) (copy : Bool)
    (slots : List (Nat × Nat × Nat × StagedLb)) (ctxs : List Nat) (ack : Nat := 0) (recs : List (BitVec 128) := []) : Dev :=
  let q := d.sal.pageSeq + 1
  let lun := d.lunOf e.sb e.seg page
  let pg : FlashPage := {
    lun := lun, kind := kind, mirror := s == 1 || (copy && e.mirror), gcCopy := copy, lsn := lsn, page := page, gen := gen, seq := q, time := d.now,
    opseq := e.opseq, slots := slots, recs := recs }
  let p : Prog := { stream := s, lun := some lun, issued := false, sb := e.sb, seg := e.seg, pg := pg,
                    ctxs := ctxs, ack := ack }
  ({ d with sal := { d.sal with pageSeq := q, keyGen := some d.flash.boot.keyGen } }).askProg p

/-- Programs the next page of the open segment of a stream; after page 2,043 the four summary pages follow
and the segment closes (R497). `ack` is the page sequence that a MIRROR ACK will name, and a page with records is a journal
page of the peer, of type 3 (R566). `none`: no superblock is free. -/
def Dev.programNext (d : Dev) (s : Nat) (slots : List (Nat × Nat × StagedLb)) (ctxs : List Nat) (ack : Nat := 0)
    (recs : List (BitVec 128) := []) : Option Dev :=
  match d.openSeg s with
  | none => none
  | some (l, d) =>
    match d.seg l with
    | none => none
    | some e =>
      let n := (d.stream s).page
      let sl := (List.range slots.length).map fun i =>
        let q := slots.getD i (0, 0, { gen := 0, data := [], tag := [] })
        (4 * n + i, q.1, q.2.1, q.2.2)
      let d := d.programAt s (if recs.isEmpty then 1 else 3) l e n e.gen false sl ctxs ack recs
      if n = 2043 then
        let d := (List.range 4).foldl (fun d i => d.programAt s 2 l e (2044 + i) e.gen false [] []) d
        some (d.setStream s { d.stream s with lsn := none, page := 0 })
      else some (d.setStream s { d.stream s with page := n + 1 })

/-- Programs up to four LBs into the next page of a stream; with no superblock free they wait for one, and so do the
WRITEs on them (R18, R463). -/
def Dev.programOrWait (d : Dev) (s : Nat) (slots : List (Nat × Nat × StagedLb)) (ctxs : List Nat) (ack : Nat := 0)
    (recs : List (BitVec 128) := []) : Dev :=
  match d.programNext s slots ctxs ack recs with
  | some d => d
  | none =>
    let pg : FlashPage := {
      kind := if recs.isEmpty then 1 else 3, mirror := s == 1, gcCopy := false, lsn := 0, page := 0, gen := 0, seq := 0
      time := d.now, opseq := 0, slots := slots.map fun q => (0, q), recs := recs }
    { d with sal := { d.sal with progs := d.sal.progs ++
      [{ stream := s, lun := none, issued := false, sb := 0, seg := 0, pg := pg, ctxs := ctxs, ack := ack }] } }

/-- A superblock is free again: the LBs that waited for one are programmed, oldest first. -/
def Dev.placeWaiting (d : Dev) : Dev :=
  let l := d.sal.progs.filter fun p => p.lun.isNone
  l.foldl (fun d p => d.programOrWait p.stream (p.pg.slots.map (·.2)) p.ctxs p.ack p.pg.recs)
    { d with sal := { d.sal with progs := d.sal.progs.filter fun p => p.lun.isSome } }

/-- Writes LBs into a stream, four to a page; the last page may have free slots (assumption 8). -/
def Dev.stage (d : Dev) (s : Nat) (ctxs : List Nat) : Nat → List (Nat × Nat × StagedLb) → Dev
  | 0, _ => d
  | _, [] => d
  | k + 1, l => (d.programOrWait s (l.take 4) ctxs).stage s ctxs k (l.drop 4)

/-! ## Live slots and release (R503, R506) -/

/-- Takes one live slot off a segment; a full segment with none left is free without a copy (R503). -/
def Dev.unlive (d : Dev) (lsn : Nat) : Dev :=
  match d.seg lsn with
  | none => d
  | some e =>
    if e.live ≤ 1 && e.state == 2 then (d.setSeg lsn none).journal (recMap lsn none)
    else d.setSeg lsn (some { e with live := e.live - 1 })

/-- The index entry of a staged LB. -/
def Dev.idxOf (d : Dev) (vol lba : Nat) (mirror : Bool := false) : Option IdxEnt :=
  d.sal.idx.find? fun e => e.vol == vol && e.lba == lba && e.mirror == mirror

/-- Removes an LB from the index and its live slot from its segment. -/
def Dev.unstage (d : Dev) (e : IdxEnt) : Dev :=
  ({ d with sal := { d.sal with idx := d.sal.idx.filter (· != e) } }).unlive e.lsn

/-- Enters an LB in the index once its page is good (R501); what it displaces loses its slot. -/
def Dev.index (d : Dev) (e : IdxEnt) : Dev :=
  let d := match d.idxOf e.vol e.lba e.mirror with
    | some o => d.unstage o
    | none => d
  let d := { d with sal := { d.sal with idx := d.sal.idx ++ [e] } }
  match d.seg e.lsn with
  | some g => d.setSeg e.lsn (some { g with live := g.live + 1 })
  | none => d

/-- The release ranges that are still needed: those with a segment at or below their open sequence (R506). -/
def Dev.relsNeeded (d : Dev) : List Rel :=
  d.sal.rels.filter fun r => d.sal.map.any fun e =>
    match e.2 with
    | some g => g.mirror == r.mirror && decide (g.opseq ≤ r.opseq)
    | none => false

/-- Whether the release table takes another range (R506). -/
def Dev.canRelease (d : Dev) : Bool := decide (d.relsNeeded.length < 65536)

/-- Releases one range of LBs of a volume at a write generation (R503): they leave the index unless a newer
generation is staged. -/
def Dev.releaseRange (d : Dev) (mirror : Bool) (vol lba count gen : Nat) : Dev :=
  let r : Rel := { vol := vol, lba := lba, count := count, gen := gen, opseq := d.sal.opseq, mirror := mirror }
  let gone := d.sal.idx.filter fun e =>
    e.vol == vol && e.mirror == mirror && decide (lba ≤ e.lba) && decide (e.lba < lba + count) && decide (e.gen ≤ gen)
  let d := gone.foldl (fun d e => d.unstage e) d
  let d := { d with sal := { d.sal with rels := d.relsNeeded ++ [r] } }
  d.journal (recRelease mirror r)

/-! ## Page programs and reads (R501, R502, R513, R514) -/

/-- A block of a superblock turns bad (R492). -/
def Dev.badBlock (d : Dev) (f : Fld) (b lun : Nat) : Dev :=
  let x := d.sb b
  let bad := if x.bad.contains lun then x.bad else x.bad ++ [lun]
  let d := (d.setSb b { x with bad := bad }).salErr f b (some lun)
  let (c, e, l) := d.lunAt lun
  let d := (d.journal (recBad b c e l)).bump Reg.SAL_CNT_ERR_BAD
  if d.luns < 8 * bad.length && !(d.luns < 8 * x.bad.length) && decide (12 ≤ b) then
    let d := d.salErr Reg.SAL_ERR_RETIRED b
    if (d.sb b).state == 0 then d.sbState b 5 else d
  else d

/-- Whether a WRITE still waits for a program of its own or for a MIRROR ACK (R18, R567). -/
def Dev.writeOpen (d : Dev) (c : Nat) : Bool :=
  d.sal.progs.any (fun p => p.ctxs.contains c) || d.sal.unacked.any (fun u => u.2.1.contains c)

/-- Completes a WRITE that has become durable (R18). -/
def Dev.checkDurable (d : Dev) (c : Nat) : Dev :=
  match d.ctx c with
  | some k => if k.wait == .durable && !d.writeOpen c then d.complete c St.success else d
  | none => d

/-- A WRITE is to complete with the own copy alone (R568): PEER_STATUS.UNMIRRORED is set, and an event is posted as it
rises (assumption 84). -/
def Dev.setUnmirrored (d : Dev) : Dev :=
  if d.flag Reg.PEER_STATUS_UNMIRRORED then d else (d.wr Reg.PEER_STATUS_UNMIRRORED 1).peerRecord 0x6001

/-- Sends a page of the own stream to the peer once its own program is good (R566); the WRITEs on it then
wait for MIRROR ACK (R567). -/
def Dev.mirrorPage (d : Dev) (p : Prog) : Dev :=
  if p.stream = 0 && d.mgmt.mirrorIngest && p.pg.kind == 1 then
    if d.peerAlive then
      let d := { d with sal := { d.sal with unacked := d.sal.unacked ++ [(p.pg.seq, p.ctxs, p.pg)] } }
      d.ner (.mirrorData p.pg)
    else if d.flag Reg.PEER_CFG_MIRROR_REQUIRED then
      { d with sal := { d.sal with unacked := d.sal.unacked ++ [(p.pg.seq, p.ctxs, p.pg)] } }
    else
      ({ d with sal := { d.sal with unacked := d.sal.unacked ++ [(p.pg.seq, [], p.pg)] } }).setUnmirrored
  else d

/-- A page that reported good status: it stands on the flash and its LBs enter the index (R501). -/
def Dev.programGood (d : Dev) (p : Prog) : Dev :=
  let d := { d with flash := { d.flash with
    pages := mset d.flash.pages none (pageKey p.sb p.seg p.pg.page) (some p.pg) } }
  let d := d.bump Reg.SAL_CNT_PROG_COUNT
  let d := if p.stream = 2 then d
    else p.pg.slots.foldl (fun d q => d.index
      { vol := q.2.1, lba := q.2.2.1, lsn := p.pg.lsn, slot := q.1, gen := q.2.2.2.gen, mirror := p.stream == 1 }) d
  let d := if p.pg.page = 2047 && p.stream != 2 then
      match d.seg p.pg.lsn with
      | some e =>
        if e.live = 0 then (d.setSeg p.pg.lsn none).journal (recMap p.pg.lsn none)
        else d.setSeg p.pg.lsn (some { e with state := 2 })
      | none => d
    else d
  let d := d.mirrorPage p
  p.ctxs.foldl (fun d c => d.checkDurable c) d

/-! ## Garbage collection (R511 to R513) -/

/-- Live LB slots of a superblock. -/
def Dev.liveOf (d : Dev) (b : Nat) : Nat :=
  d.sal.map.foldl (fun n e => match e.2 with | some g => if g.sb = b then n + g.live else n | none => n) 0

/-- A superblock scheduled for rewriting is full, and so can be the next victim (R514). -/
def Dev.rewriteDue (d : Dev) : Bool := d.sal.scheduled.any fun b => (d.sb b).state == 2

/-- The victim: a superblock scheduled for rewriting, else the full superblock with the fewest live LBs. -/
def Dev.gcPick (d : Dev) : Option Nat :=
  match d.sal.scheduled.find? (fun b => (d.sb b).state == 2) with
  | some b => some b
  | none =>
    (((List.range (d.flash.blocks - 12)).map (· + 12)).filter fun b => (d.sb b).state == 2).foldl
      (fun o b => match o with
        | none => some b
        | some c => if d.liveOf b < d.liveOf c then some b else some c) none

/-- Starts a page read (R514). -/
def Dev.readPage (d : Dev) (lsn page : Nat) (why : ReadFor) : Dev :=
  let lun := (d.seg lsn).map fun e => match d.pageOf lsn page with
    | some p => p.lun
    | none => d.lunOf e.sb e.seg page
  let r : PRead := { id := d.sal.nextRead, lun := lun, issued := false, lsn := lsn, page := page, why := why,
                     pg := d.pageOf lsn page }
  ({ d with sal := { d.sal with nextRead := r.id + 1, reads := d.sal.reads ++ [r],
                                 keyGen := some d.flash.boot.keyGen } }).serve

/-- Copies the next live segment of the victim, or erases the victim once every segment is moved or free
(Table 14-7 steps 1 and 5). -/
def Dev.gcNext (d : Dev) : Dev :=
  match d.sal.gcVictim with
  | none => d
  | some b =>
    match d.sal.map.find? (fun e => match e.2 with | some g => g.sb == b | none => false) with
    | some (l, some g) =>
      match d.takeSeg 2 with
      | none => { d with sal := { d.sal with gcLsn := none } }
      | some (tb, ts, d) =>
        let d := d.setSeg l (some { g with state := 3 })
        let d := { d with sal := { d.sal with gcLsn := some (l, tb, ts) } }
        d.readPage l 0 .gc
    | _ =>
      let d := d.sbState b 4
      ({ d with sal := { d.sal with gcLsn := none } }).askErase b

/-- Starts garbage collection when the free superblocks are few or a rewrite is scheduled (R511). -/
def Dev.gcBegin (d : Dev) : Dev :=
  if !d.flashOk || d.salState != 2 then d
  else if d.sal.gcVictim.isSome then
    -- a copy that found no free superblock for its target goes on once there is one
    if d.sal.gcLsn.isNone && (match d.sal.gcVictim with | some b => (d.sb b).state == 3 | none => false) then d.gcNext else d
  else if d.freeSbs < d.rd Reg.SAL_CFG_GC_LOW || d.rewriteDue then
    match d.gcPick with
    | none => d
    | some b =>
      let d := (d.sbState b 3).wr Reg.SAL_STATUS_GC 1
      ({ d with sal := { d.sal with gcVictim := some b, scheduled := d.sal.scheduled.filter (· != b) } }).gcNext
  else d

/-- Programs the page of a copy that has been read (Table 14-7 step 2). -/
def Dev.gcCopy (d : Dev) (page : Nat) (slots : List (Nat × Nat × Nat × StagedLb)) : Dev :=
  match d.sal.gcLsn with
  | none => d
  | some (l, tb, ts) =>
    match d.seg l with
    | none => d
    | some g =>
      let src := d.pageOf l page
      let kind := match src with | some p => p.kind | none => 1
      let recs := match src with | some p => p.recs | none => []
      d.programAt 2 kind l { g with sb := tb, seg := ts } page ((g.gen + 1) % 256) true slots [] 0 recs

/-- A page of a copy is programmed (Table 14-7 steps 2 to 4). -/
def Dev.gcGood (d : Dev) (p : Prog) : Dev :=
  if p.pg.page < 2047 then d.readPage p.pg.lsn (p.pg.page + 1) .gc
  else
    let d := match d.seg p.pg.lsn with
      | some g =>
        -- a segment whose last live LB went while it was copied is free (R503)
        let e : Option SegEnt := if g.live = 0 then none
          else some { g with sb := p.sb, seg := p.seg, state := 2, gen := p.pg.gen }
        (d.setSeg p.pg.lsn e).journal (recMap p.pg.lsn e)
      | none => d
    (d.bump Reg.SAL_CNT_GC_COUNT).gcNext

/-- A page program that failed: the block is bad, and every LB of the page is written again at the next page
of the stream (R502); a copy restarts at page 0 of a new target segment (R513). -/
def Dev.programBad (d : Dev) (p : Prog) : Dev :=
  let d := d.badBlock Reg.SAL_ERR_PROG_FAIL p.sb p.pg.lun
  if p.stream = 2 then
    match d.takeSeg 2 with
    | none => { d with sal := { d.sal with gcLsn := none } }
    | some (tb, ts, d) =>
      ({ d with sal := { d.sal with gcLsn := some (p.pg.lsn, tb, ts) } }).readPage p.pg.lsn 0 .gc
  else if p.pg.kind == 2 then
    match d.seg p.pg.lsn with
    | some e => d.programAt p.stream 2 p.pg.lsn e p.pg.page e.gen false [] []
    | none => d
  else
    d.programOrWait p.stream (p.pg.slots.map fun q => q.2) p.ctxs p.ack p.pg.recs

/-- The oldest program in flight of a stream ends (R501). -/
def Dev.programDone (d : Dev) (s : Nat) (ok : Bool) : Dev :=
  match d.sal.progs.find? (fun p => p.stream == s && p.issued) with
  | none => d
  | some p =>
    if !d.flashOk then d
    else
      let d := ({ d with sal := { d.sal with progs := d.sal.progs.erase p } }).serve
      if !ok then d.programBad p
      else
        let d := d.programGood p
        if s = 2 then d.gcGood p else if s = 1 && p.pg.kind == 1 then d.ner (.mirrorAck p.ack) else d

/-- An erase ends (R511): a block that failed is bad; the superblock is free, or retired with more than one
eighth of its blocks bad. -/
def Dev.eraseDone (d : Dev) (b : Nat) (failed : Option Nat) : Dev :=
  if (d.sb b).state != 4 then d
  else
    let d := match failed with
      | some l => d.badBlock Reg.SAL_ERR_ERASE_FAIL b l
      | none => d
    let x := d.sb b
    let d := d.setSb b { x with erases := x.erases + 1, reads := 0 }
    let d := { d with flash := { d.flash with
      pages := d.flash.pages.filter fun e => e.1 / (512 * 2048) != b } }
    let d := (d.sbState b (if d.luns < 8 * x.bad.length then 5 else 0)).flushJournal.placeWaiting
    if d.sal.gcVictim == some b then
      let d := { d with sal := { d.sal with gcVictim := none } }
      if d.rd Reg.SAL_CFG_GC_HIGH ≤ d.freeSbs && !d.rewriteDue then d.wr Reg.SAL_STATUS_GC 0
      else
        match d.gcPick with
        | none => d.wr Reg.SAL_STATUS_GC 0
        | some v =>
          let d := d.sbState v 3
          ({ d with sal := { d.sal with gcVictim := some v, scheduled := d.sal.scheduled.filter (· != v) } }).gcNext
    else d

/-! ## Checkpoint (R506) -/

/-- Writes a checkpoint and its CKPT record; journal pages before the CKPT record that precedes it are no
longer needed (R546). What the set engine appends after it is in `Dev.checkpoint`. -/
def Dev.ckptBase (d : Dev) : Dev :=
  let d := d.flushJournal
  let seq := d.sal.ckptSeq + 1
  let d := { d with sal := { d.sal with ckptSeq := seq, rels := d.relsNeeded } }
  let k : Ckpt := { seq := seq, map := d.sal.map, sbs := d.sal.sbs, rels := d.sal.rels, streams := d.sal.streams,
                    opseq := d.sal.opseq, firstJournal := d.sal.jseq + 1 }
  let prev := match d.flash.ckpts with | [] => 0 | _ => (d.flash.ckpts.getLast?.map (·.firstJournal)).getD 0
  let d := { d with flash := { d.flash with
    ckpts := (d.flash.ckpts.drop (d.flash.ckpts.length - 1)) ++ [k],
    journal := d.flash.journal.filter fun j => decide (prev ≤ j.1) } }
  ((d.wr Reg.SAL_CKPT_SEQ seq).flashWrite (.checkpoint seq)).journal (recCkpt seq (d.sal.jseq + 1))

/-! ## Recovery (R507 to R512) -/

/-- Replays one journal record into the map, the superblock table and the release table. -/
def Dev.replay (d : Dev) (r : BitVec 128) : Dev :=
  match recAt r 0 8 with
  | 1 =>
    let l := recAt r 24 19
    let b := recAt r 64 64
    if b = 0 then d.setSeg l none
    else
      let op := match d.seg l with | some g => g.opseq | none => 0
      d.setSeg l (some {
        sb := b % 2 ^ 16, seg := b / 2 ^ 16 % 512, state := b / 2 ^ 25 % 8, mirror := (b / 2 ^ 28) % 2 == 1,
        live := b / 2 ^ 29 % 2 ^ 14, gen := b / 2 ^ 42 % 256, opseq := op })
  | 2 => d.setSb (recAt r 16 16) { d.sb (recAt r 16 16) with state := recAt r 32 8, erases := recAt r 64 32 }
  | 3 | 4 =>
    let x : Rel := { vol := recAt r 8 16, lba := recAt r 24 40, count := recAt r 64 16, gen := recAt r 80 16,
                     opseq := recAt r 96 32, mirror := recAt r 0 8 == 4 }
    { d with sal := { d.sal with rels := d.sal.rels ++ [x] } }
  | 5 =>
    let b := recAt r 16 16
    let lun := (recAt r 32 4 * d.flash.ce + recAt r 36 3) * d.flash.luns + recAt r 39 2
    let x := d.sb b
    d.setSb b { x with bad := if x.bad.contains lun then x.bad else x.bad ++ [lun] }
  | 9 =>
    let l := recAt r 24 19
    let s := recAt r 8 2
    let op := recAt r 64 32
    let d := { d with sal := { d.sal with opseq := max d.sal.opseq op } }
    if s = 2 then d
    else
      match d.flash.pages.find? (fun e => match e.2 with
          | some p => p.lsn == l && p.opseq == op && p.page == 0 | none => false) with
      | some (k, _) =>
        d.setSeg l (some { sb := k / (512 * 2048), seg := k / 2048 % 512, state := 1, mirror := s == 1, live := 0,
                           gen := 0, opseq := op })
      | none => d
  | _ => d

/-- Whether generation `a` is newer than `b`, modulo 256 (R499). -/
def newerGen (a b : Nat) : Bool :=
  let n := (a + 256 - b % 256) % 256
  decide (1 ≤ n) && decide (n ≤ 127)

/-- The superblocks whose headers the tag scan reads (R508): those open at the checkpoint, those opened in the journal since,
and those recorded free whose page 0 holds a header. -/
def Dev.scanned (d : Dev) (atCkpt : List (Nat × SbEnt)) (recs : List (BitVec 128)) : List Nat :=
  let opened := (atCkpt.filter fun e => e.2.state == 1).map (·.1)
    ++ recs.filterMap fun r => if recAt r 0 8 == 2 && recAt r 32 8 == 1 then some (recAt r 16 16) else none
  let free := ((d.flash.pages.filter fun e => e.1 % (512 * 2048) == 0).map (·.1 / (512 * 2048))).filter fun b =>
    (d.sb b).state == 0
  (opened ++ free).eraseDups

/-- The tag scan (R508) of some superblocks: a complete copy (page 2,047 programmed) newer than the mapped entry replaces it.
A segment opened after open sequence `known` has no OPEN record on the flash; its headers name it, so that the LBs of its
good pages stay durable (R501; assumption 110). -/
def Dev.tagScan (d : Dev) (scan : List Nat) (known : Nat) : Dev :=
  d.flash.pages.foldl (fun d e =>
    match e.2 with
    | none => d
    | some p =>
      let b := e.1 / (512 * 2048)
      let g := e.1 / 2048 % 512
      if !scan.contains b then d
      else if known < p.opseq && !p.gcCopy && !((d.seg p.lsn).any fun x => x.opseq == p.opseq) then
        (if (d.sb b).state == 0 then d.setSb b { d.sb b with state := 1 } else d).setSeg p.lsn (some {
          sb := b, seg := g, state := if p.page = 2047 then 2 else 1, mirror := p.mirror, live := 0, gen := p.gen,
          opseq := p.opseq })
      else if p.page = 2047 then
        match d.seg p.lsn with
        | some x =>
          if newerGen p.gen x.gen then d.setSeg p.lsn (some { x with sb := b, seg := g, state := 2, gen := p.gen })
          else if x.sb == b && x.seg == g then d.setSeg p.lsn (some { x with state := 2 })
          else d
        | none => d
      else d) d

/-- Programs a page of the copy that closes a segment at recovery, before the Saltern is ready. -/
def Dev.closePage (d : Dev) (b g : Nat) (pg : FlashPage) : Dev :=
  let q := d.sal.pageSeq + 1
  let pg := { pg with gcCopy := true, seq := q, time := d.now, lun := d.lunOf b g pg.page }
  let d := { d with
    flash := { d.flash with pages := mset d.flash.pages none (pageKey b g pg.page) (some pg) },
    sal := { d.sal with pageSeq := q } }
  (d.flashWrite (.program b (g * 2048 + pg.page) pg (d.pageImage pg))).bump Reg.SAL_CNT_PROG_COUNT

/-- Closes an open segment at its first failing page (R509): a GC copy of the pages before it ends with the summary of their
slots, and the original is dead. -/
def Dev.closeCut (d : Dev) (cuts : List (Nat × Nat)) (lsn : Nat) : Dev :=
  match d.seg lsn with
  | some g =>
    if g.state != 1 then d
    else
      let cut := ((cuts.find? fun q => q.1 == lsn).map (·.2)).getD 2048
      match d.takeSeg 2 with
      | none => d
      | some (tb, ts, d) =>
        let gen := (g.gen + 1) % 256
        let whole := (List.range (min cut 2044)).takeWhile fun n => (d.page g.sb g.seg n).isSome
        let d := whole.foldl (fun d n =>
          match d.page g.sb g.seg n with
          | some p => d.closePage tb ts { p with gen := gen }
          | none => d) d
        let d := (List.range 4).foldl (fun (d : Dev) i => d.closePage tb ts {
          kind := 2, mirror := g.mirror, gcCopy := true, lsn := lsn, page := 2044 + i, gen := gen, seq := 0, time := 0,
          opseq := g.opseq, slots := [] }) d
        let e : SegEnt := { g with sb := tb, seg := ts, state := 2, gen := gen }
        ((d.setSeg lsn (some e)).journal (recMap lsn (some e))).bump Reg.SAL_CNT_MISC_CUT
  | none => d

/-- The staged LBs that the summaries and metadata name (R510): a later open sequence, and then a later slot,
prevails; an LB covered by a release range of equal or newer generation is omitted. -/
def Dev.buildIndex (d : Dev) (mirror : Bool) : List IdxEnt :=
  let all := d.flash.pages.flatMap fun e =>
    match e.2 with
    | some p =>
      match d.seg p.lsn with
      | some g =>
        if p.kind == 1 && g.mirror == mirror && g.sb == e.1 / (512 * 2048) && g.seg == e.1 / 2048 % 512 then
          p.slots.map fun q => (g.opseq, (
            { vol := q.2.1, lba := q.2.2.1, lsn := p.lsn, slot := q.1, gen := q.2.2.2.gen, mirror := mirror } : IdxEnt))
        else []
      | none => []
    | none => []
  let later (a b : Nat × IdxEnt) : Bool := decide (b.1 < a.1) || (a.1 == b.1 && decide (b.2.slot < a.2.slot))
  (all.filter fun a =>
    !(all.any fun b => b.2.vol == a.2.vol && b.2.lba == a.2.lba && later b a)
      && !(d.sal.rels.any fun r => r.mirror == mirror && r.vol == a.2.vol && decide (r.lba ≤ a.2.lba)
        && decide (a.2.lba < r.lba + r.count) && decide (a.2.gen ≤ r.gen))).map (·.2)

/-- Inserts a page in order of page sequence. -/
def insPage (p : FlashPage) : List FlashPage → List FlashPage
  | [] => [p]
  | h :: t => if p.seq ≤ h.seq then p :: h :: t else h :: insPage p t

/-- The journal of the peer as the mirror stream keeps it (R566): the records of the pages of type 3 that the map reaches, in
the order of their page sequences. -/
def Dev.mirrorRecords (d : Dev) : List (BitVec 128) :=
  let pages := d.flash.pages.filterMap fun e => match e.2 with
    | some p =>
      match d.seg p.lsn with
      | some g => if p.kind == 3 && g.mirror && g.sb == e.1 / (512 * 2048) && g.seg == e.1 / 2048 % 512 then some p else none
      | none => none
    | none => none
  (pages.foldl (fun l p => insPage p l) []).flatMap (·.recs)

/-- Sets the live counts of the map from an index. -/
def Dev.recount (d : Dev) : Dev :=
  { d with sal := { d.sal with map := d.sal.map.map fun e =>
      match e.2 with
      | some g => (e.1, some { g with live := d.sal.idx.countP fun i => i.lsn == e.1 })
      | none => e } }

/-- A full segment in which no LB is live any more is free without a copy (R503). -/
def Dev.freeEmpty (d : Dev) : Dev :=
  (d.sal.map.filter fun e => match e.2 with | some g => g.state == 2 && g.live == 0 | none => false).foldl
    (fun (d : Dev) e => (d.setSeg e.1 none).journal (recMap e.1 none)) d

/-- The admission limit in LBs (R500): the segments of the data area, without those that bad blocks and retired superblocks
cost, less those of GC_HIGH full superblocks. -/
def Dev.admitLimit (d : Dev) : Nat :=
  let entries := 2 ^ d.rd Reg.SAL_IDX_SIZE_LOG2 / 16
  let full := d.rd Reg.SAL_GEOM_SEGS
  let gone := d.sal.sbs.foldl (fun n e =>
    if e.1 < 12 then n else n + (full - (if e.2.state = 5 then 0 else min full (d.segsOf e.1)))) 0
  min (entries * 3 / 4) (((d.rd Reg.SAL_SB_TOTAL - d.rd Reg.SAL_CFG_GC_HIGH) * full - gone) * 8176)

/-- The stream that programmed a page, from the flags of its header (Table 14-3): 0 own, 1 mirror, 2 GC. -/
def pageStream (p : FlashPage) : Nat := if p.gcCopy then 2 else if p.mirror then 1 else 0

/-- Where a stream stands after the scan of its pages (R508): in the open superblock that holds its last page, after the last
segment there that holds one; without a page, where the checkpoint had it. -/
def Dev.streamFound (d : Dev) (s : Nat) (x : Stream) : Stream :=
  let mine := d.flash.pages.filterMap fun e => match e.2 with
    | some p => if pageStream p == s && (d.sb (e.1 / (512 * 2048))).state == 1 then some (p.seq, e.1 / 2048) else none
    | none => none
  let still := match x.sb with | some b => (d.sb b).state == 1 | none => false
  let last := mine.foldl (fun (o : Option (Nat × Nat)) q => match o with
    | some a => if a.1 < q.1 then some q else o
    | none => some q) none
  let sb := match last with
    | some q => some (q.2 / 512)
    | none => if still then x.sb else none
  let next := mine.foldl (fun n q => if some (q.2 / 512) == sb then max n (q.2 % 512 + 1) else n) (if sb == x.sb then x.seg else 0)
  { sb := sb, seg := next, lsn := none, page := 0 }

/-- The superblocks recorded open that no stream continues are full. -/
def Dev.closeOthers (d : Dev) : Dev :=
  let left := d.sal.sbs.filter fun e => e.2.state == 1 && !(d.sal.streams.any fun x => x.sb == some e.1)
  left.foldl (fun (d : Dev) e => d.sbState e.1 2) d

/-- An open segment with no programmed page holds nothing and is discarded (R508). -/
def Dev.dropUnused (d : Dev) : Dev :=
  { d with sal := { d.sal with map := d.sal.map.filter fun e => match e.2 with
    | some g => g.state != 1 || d.flash.pages.any fun p => p.1 / 2048 == g.sb * 512 + g.seg
    | none => false } }

/-- Recovers the Saltern at step 8 (R507): the latest good checkpoint, the journal after it, the tag scan,
and the segments that were open. The set engine's records are replayed by the caller. -/
def Dev.recoverSaltern (d : Dev) (rd : SalternScan) : Dev :=
  let cs := d.flash.ckpts
  let d : Dev := if rd.ckptGood || cs.length < 2 then d else d.salErr Reg.SAL_ERR_CKPT_OLD
  let k? := if rd.ckptGood then cs.getLast? else (cs.dropLast).getLast?
  let d : Dev := match k? with
    | some k => { d with sal := { d.sal with map := k.map, sbs := k.sbs, rels := k.rels, streams := k.streams,
                                             ckptSeq := k.seq } }
    | none => d
  let first := match k? with | some k => k.firstJournal | none => 0
  let pages := d.flash.journal.filter fun j => decide (first ≤ j.1)
  let d : Dev := if rd.journalBad then d.salErr Reg.SAL_ERR_JRNL_END else d
  let pages := if rd.journalBad then pages.dropLast else pages
  let recs := pages.flatMap (·.2)
  let d : Dev := recs.foldl (fun d r => d.replay r) d
  let top := d.flash.pages.foldl (fun n e => match e.2 with | some p => max n p.seq | none => n) 0
  let known := max d.sal.opseq ((k?.map (·.opseq)).getD 0)
  let scan := d.scanned ((k?.map (·.sbs)).getD []) recs
  let op := d.flash.pages.foldl (fun n e => match e.2 with | some p => max n p.opseq | none => n) known
  let d : Dev := { d with sal := { d.sal with
    jseq := (d.flash.journal.getLast?.map (·.1)).getD 0, pend := [], progs := [], reads := [], erasing := [], gcVictim := none,
    gcLsn := none, pageSeq := top, opseq := op } }
  let d : Dev := d.tagScan scan known
  let d : Dev := { d with sal := { d.sal with streams := (d.sal.streams.zipIdx).map fun q => d.streamFound q.2 q.1 } }
  let d : Dev := d.dropUnused.closeOthers
  let d : Dev := (d.sal.map.map (·.1)).foldl (fun d l => d.closeCut rd.cuts l) d
  -- a full superblock that no map entry references is erased if its page 0 is programmed, and freed otherwise; one
  -- recorded free that holds pages of no kept segment is erased too (assumption 110)
  let unused (b : Nat) : Bool := !(d.sal.map.any fun m => match m.2 with | some g => g.sb == b | none => false)
  let idle := (d.sal.sbs.filter fun e => e.2.state == 2 || e.2.state == 3 || e.2.state == 4).map (·.1)
    ++ scan.filter fun b => (d.sb b).state == 0
  (idle.filter unused).foldl (fun d b =>
    if (d.page b 0 0).isSome then (d.sbState b 4).askErase b else d.sbState b 0) d

/-- An empty Saltern, as FORMAT leaves it (R486, R496): every page, map entry and journal page gone, no
calibration set, and the boot records other than format and keys kept. -/
def Dev.emptySaltern (d : Dev) : Dev :=
  let known := d.sal.sbs.filterMap fun e => if e.2.bad.isEmpty then none else some (e.1, { SbEnt.free with bad := e.2.bad })
  -- the factory marks are read at FORMAT (R492)
  let bads := d.flash.factoryBad.foldl (fun (m : List (Nat × SbEnt)) q =>
    let x := mget m SbEnt.free q.1
    mset m SbEnt.free q.1 { x with bad := x.bad ++ q.2.filter fun i => !x.bad.contains i }) known
  let fresh : Sal := { Sal.reset with
    sbs := bads, nextRead := d.sal.nextRead, keyGen := d.sal.keyGen, wpAll := d.sal.wpAll, wpLow := d.sal.wpLow, pageSeq := d.sal.pageSeq }
  { d with
    flash := { d.flash with pages := [], journal := [], ckpts := [], cal := [] },
    sal := fresh }

/-- Writes the geometry registers of a formatted flash. -/
def Dev.showGeometry (d : Dev) : Dev :=
  let segs := min 511 (d.luns * d.flash.pagesPerBlock / 2048)
  let d := (d.wr Reg.SAL_STATUS_CE (d.flash.ce - 1)).wr Reg.SAL_STATUS_LUNS (d.flash.luns - 1)
  let d := (d.wr Reg.SAL_GEOM_PAGES d.flash.pagesPerBlock).wr Reg.SAL_GEOM_SEGS segs
  d.wr Reg.SAL_SB_TOTAL (d.flash.blocks - 12)

/-- Draws a new key pair into the secure part and stores its wrap in the boot area (R496). -/
def Dev.newKey (d : Dev) : Dev :=
  let g := d.flash.boot.keyGen + 1
  { d with
    flash := { d.flash with boot := { d.flash.boot with keyGen := g } },
    sal := { d.sal with keyGen := some g } }

end Sys2Proof.Machine
end

