-- ==== Sys2Proof/Machine/Deliver.lean ====
section
/-! DEFINITION. Delivery of logical blocks to READ and VERIFY commands (R477 to R481, R544). -/

namespace Sys2Proof.Machine

open Sys2Proof

/-- The address space of an SQ. -/
def Dev.asidOf (d : Dev) (q : Nat) : Nat := match d.sq q with | some s => s.asid | none => 0

/-- The result of a READ or VERIFY (Table 13-7). -/
def Ctx.ioResult (k : Ctx) : Nat :=
  if k.e.op == 0x83 then k.acc1 + 2 ^ 32 * (match k.stop with | some a => a - k.e.lba.toNat | none => 0)
  else if k.st == St.lbaLost then k.stop.getD 0
  else k.acc0 + 2 ^ 32 * k.acc1

/-- The block gathered for an LBA. -/
def Ctx.block (k : Ctx) (lba : Nat) : StagedLb :=
  match k.got.find? (fun e => e.1 == lba) with
  | some e => e.2
  | none => { gen := 0, data := zeroBlock, tag := zeroSeal }

/-- The first LBA of a range whose block fails the guard at delivery (Table 15-3). -/
def Ctx.badGuard (k : Ctx) (n : Nat) : Option Nat :=
  ((List.range n).map (· + k.e.lba.toNat)).find? fun a =>
    !(isPad (k.block a).data (k.block a).tag) && !guardOk (k.block a).data (k.block a).tag

/-- Delivers what a READ has gathered: its LBs up to the first that stops it, and their seals with SEALS. -/
def Dev.finishRead (d : Dev) (c : Nat) : Dev :=
  match d.ctx c with
  | none => d
  | some k =>
    if !k.todo.isEmpty || k.wait != .staging then d
    else if k.e.op == 0x83 then d.complete c St.success k.ioResult
    else
      let lba := k.e.lba.toNat
      let n := match k.stop with | some a => a - lba | none => k.e.count.toNat
      let (n, k, d) := match k.badGuard n with
        | some a => (a - lba, { k with stop := some a, st := St.internalError },
                     d.sealFail Reg.SET_ERR_SEAL_DELIVERY k.e.volume.toNat a)
        | none => (n, k, d)
      if n = 0 then (d.setCtx c (some k)).complete c k.st k.ioResult
      else
        let blocks := (List.range n).map fun i => k.block (lba + i)
        let d := d.setCtx c (some { k with
          wait := .deliver, buf := blocks.flatMap (·.data), seals := blocks.flatMap (·.tag), got := [] })
        let asid := d.asidOf k.sq
        let d := if k.e.seals then
            d.start (.sealWrite c) 1 true asid k.e.sealPtr.toNat (16 * n) k.sq k.e.cid.toNat c
          else d
        d.start (.dataWrite c) 1 true asid k.e.data.toNat (4096 * n) k.sq k.e.cid.toNat c

/-- The mark of a transfer parked until a released cluster has been read again (R440). -/
def reread : Nat := 65537

/-- A released cluster is assembled again: the delivery that waited for it goes on (R440). -/
def Dev.deliverGo (d : Dev) (c : Nat) : Dev :=
  (d.mmu.xfers.filter fun x => x.ctx == c && x.st == .parked reread).foldl (fun d x =>
    (d.putX { x with st := .ready }).go x.id) d

/-- An LB of a released cluster is there again, or is lost by now: a READ without PARTIAL then ends before it, one with
PARTIAL goes on with zeros (R440, R479). -/
def Dev.rereadLb (d : Dev) (c : Nat) (k : Ctx) (lba : Nat) (ok : Bool) : Dev :=
  if !k.todo.contains lba then d
  else
    let k := { k with todo := k.todo.erase lba }
    if !ok && !k.e.xflags.getLsbD 0 then
      let d : Dev := { d with mmu := { d.mmu with xfers := d.mmu.xfers.filter fun x => x.ctx != c || x.sq != k.sq } }
      (d.setCtx c (some k)).complete c St.lbaLost lba
    else
      -- `buf` holds the bytes from the parked boundary to the end of the delivery
      let done := 4096 * (match k.stop with | some a => a - k.e.lba.toNat | none => k.e.count.toNat) - k.buf.length
      let lo := 4096 * (lba - k.e.lba.toNat)
      let k := if ok then k
        else if done ≤ lo then
          { k with acc1 := k.acc1 + 1, buf := k.buf.take (lo - done) ++ zeroBlock ++ k.buf.drop (lo - done + 4096) }
        else { k with acc1 := k.acc1 + 1, buf := List.replicate (4096 - (done - lo)) 0 ++ k.buf.drop (4096 - (done - lo)) }
      let d := d.setCtx c (some k)
      if k.todo.isEmpty then d.deliverGo c else d

/-- An LB that a READ or VERIFY waits for is there. -/
def Dev.gotLb (d : Dev) (c lba : Nat) (lb : StagedLb) : Dev :=
  match d.ctx c with
  | some k =>
    if k.wait == .deliver then d.rereadLb c k lba true
    else if k.todo.contains lba then
      (d.setCtx c (some { k with todo := k.todo.erase lba, got := k.got ++ [(lba, lb)] })).finishRead c
    else d
  | none => d

/-- An LB that a READ or VERIFY waits for is unwritten (R479). -/
def Dev.gotUnwritten (d : Dev) (c lba : Nat) : Dev :=
  match d.ctx c with
  | some k =>
    if k.wait == .deliver then d.rereadLb c k lba true
    else if k.todo.contains lba then
      (d.setCtx c (some { k with todo := k.todo.erase lba, acc0 := k.acc0 + 1 })).finishRead c
    else d
  | none => d

/-- An LB that a READ or VERIFY waits for is lost (R479): with PARTIAL a READ goes on with zeros; without
it the READ stops before the first lost LB. A VERIFY counts it. -/
def Dev.gotLost (d : Dev) (c lba : Nat) : Dev :=
  match d.ctx c with
  | some k =>
    if k.wait == .deliver then d.rereadLb c k lba false
    else if !k.todo.contains lba then d
    else
      let first := match k.stop with | some a => min a lba | none => lba
      let k := { k with todo := k.todo.erase lba }
      let k := if k.e.op == 0x83 then { k with acc1 := k.acc1 + 1, stop := some first }
        else if k.e.xflags.getLsbD 0 then { k with acc1 := k.acc1 + 1 }
        else { k with stop := some first, st := St.lbaLost, todo := k.todo.filter fun a => decide (a < first) }
      (d.setCtx c (some k)).finishRead c
  | none => d

end Sys2Proof.Machine
end

