-- ==== Sys2Proof/Machine/Sets.lean ====
section
/-! DEFINITION. Disc sets: stripes, parity and recovery, the lost-stripe list, stripes placed anew, member
failure and spares, and where a logical block is (R529 to R559). -/

namespace Sys2Proof.Machine

open Sys2Proof

/-! ## Sets and stripes -/

/-- The set of a volume. -/
def Dev.volSet (d : Dev) (vol : Nat) : Option DiscSet := mget d.set.sets none vol

/-- Sets or removes the set of a volume. -/
def Dev.putSet (d : Dev) (vol : Nat) (x : Option DiscSet) : Dev :=
  { d with set := { d.set with sets := mset d.set.sets none vol x } }

/-- The width of a set. -/
def DiscSet.w (s : DiscSet) : Nat := s.k + s.p

/-- The volume capacity in LBs (R536). -/
def DiscSet.cap (s : DiscSet) : Nat := capacityOf s.k s.reserve

/-- The key of a stripe. -/
def stripeKey (vol n : Nat) : Nat := vol * 2 ^ 32 + n

/-- The volume of a set key: a reshape's new set has the key volume + 65,536 (R556). -/
def srcVol (key : Nat) : Nat := key % 65536

/-- A stripe that has an entry: staged in part, in flight or recorded. -/
def Dev.stripe (d : Dev) (vol n : Nat) : Option Stripe := mget d.set.stripes none (stripeKey vol n)

/-- Sets a stripe. -/
def Dev.putStripe (d : Dev) (vol n : Nat) (x : Option Stripe) : Dev :=
  { d with set := { d.set with stripes := mset d.set.stripes none (stripeKey vol n) x } }

/-- A stripe that nothing has touched. -/
def Stripe.fresh (slot : Nat) : Stripe :=
  { slot := slot, burned := 0, recorded := 0, released := false, closed := false, anew := false, pads := [], gens := [] }

/-- The slot of a stripe: where it was placed anew, else its place in the side sequence (R534). -/
def Dev.slotOf (d : Dev) (s : DiscSet) (vol n : Nat) : Nat :=
  match d.stripe vol n with
  | some x => x.slot
  | none => (stripeSlot s.reserve n).getD 0

/-- Stripe, data member, LB in the cluster, and LB in the stripe of a volume LBA (R533). -/
def DiscSet.place (s : DiscSet) (lba : Nat) : Nat × Nat × Nat × Nat :=
  (lba / (16 * s.k), lba / 16 % s.k, lba % 16, lba % (16 * s.k))

/-- Whether an LB is covered by the lost-stripe list (R554). -/
def Dev.isListed (d : Dev) (s : DiscSet) (vol lba : Nat) : Bool :=
  let (n, i, j, _) := s.place lba
  d.set.lost.any fun l =>
    l.vol == vol && decide (l.stripe ≤ n) && decide (n < l.stripe + l.count) && l.dmask.testBit i && l.lbmask.testBit j

/-- Whether an LB is lost: the list covers it, or it has been burned on a failed data member of a set with more failed members
than parity (R552). -/
def Dev.isLost (d : Dev) (s : DiscSet) (vol lba : Nat) : Bool :=
  let (n, i, _, x) := s.place lba
  d.isListed s vol lba || (decide (s.p < s.failed.length) && s.failed.contains i && match d.stripe vol n with
    | some t => t.burned != 0 && !t.pads.contains x && !(s.rebuilding.contains i && t.burned.testBit i)
    | none => false)

/-- Whether an LB has been burned, and the write generation burned; an LB of a failed member is held by the members that
have burned its stripe (R553). -/
def Dev.burnedGen (d : Dev) (s : DiscSet) (vol lba : Nat) : Option Nat :=
  let (n, i, _, x) := s.place lba
  match d.stripe vol n with
  | some t => if (t.burned.testBit i || (s.failed.contains i && t.burned != 0)) && !t.pads.contains x then some (mget t.gens 0 x) else none
  | none => none

/-- The staged copy of an LB as it stands on the flash, or in a page being programmed. -/
def Dev.stagedBlock (d : Dev) (vol lba : Nat) : Option StagedLb :=
  match d.idxOf vol lba with
  | some e =>
    match d.pageOf e.lsn (e.slot / 4) with
    | some p => (p.slots.find? fun q => q.1 == e.slot).map (·.2.2.2)
    | none => none
  | none => none

/-- The newest copy of an LB in a page whose program is in flight. -/
def Dev.inFlight (d : Dev) (vol lba : Nat) : Option StagedLb :=
  (((d.sal.progs.filter fun p => p.stream == 0).flatMap fun p => p.pg.slots).reverse.find?
    fun q => q.2.1 == vol && q.2.2.1 == lba).map (·.2.2.2)

/-- LBs held in memory for a stripe placed anew (R519). -/
def Dev.heldBlock (d : Dev) (vol lba : Nat) : Option StagedLb :=
  (d.set.held.find? fun q => q.1 == vol && q.2.1 == lba).map (·.2.2)

/-- The state of a set (Table 15-10). -/
def DiscSet.stateOf (s : DiscSet) : Nat :=
  if s.offline then 4
  else if s.p < s.failed.length || s.dead then 5
  else if s.reshaping then 3
  else if !s.rebuilding.isEmpty then 2
  else if !s.failed.isEmpty then 1
  else 0

/-- Inserts a range in order of its start. -/
def insRange (r : Nat × Nat) : List (Nat × Nat) → List (Nat × Nat)
  | [] => [r]
  | h :: t => if r.1 ≤ h.1 then r :: h :: t else h :: insRange r t

/-- How many numbers lie in any of some ranges (start, length), in order of start, at or above `from_`. -/
def unionCount (from_ : Nat) : List (Nat × Nat) → Nat
  | [] => 0
  | (a, n) :: t =>
    let lo := max a from_
    let hi := max lo (a + n)
    (hi - lo) + unionCount hi t

/-- Stripes of a volume that any lost entry covers. -/
def Dev.lostStripes (d : Dev) (vol : Nat) : Nat :=
  unionCount 0 (((d.set.lost.filter fun l => l.vol == vol).map fun l => (l.stripe, l.count)).foldl
    (fun a r => insRange r a) [])

/-- SET_STATUS follows the sets. -/
def Dev.showSets (d : Dev) : Dev :=
  let n := d.set.sets.foldl (fun n e => match e.2 with | some s => n + s.rebuilding.length | none => n) 0
  let r := d.set.sets.any fun e => match e.2 with | some s => s.reshaping | none => false
  (d.wr Reg.SET_STATUS_REBUILDS (min 4 n)).wr Reg.SET_STATUS_RESHAPE (if r then 1 else 0)

/-! ## Discs -/

/-- The disc on a spindle. -/
def Dev.disc (d : Dev) (sp : Nat) : Option Disc := mget d.set.discs none sp

/-- Sets or removes the disc on a spindle. -/
def Dev.putDisc (d : Dev) (sp : Nat) (x : Option Disc) : Dev :=
  { d with set := { d.set with discs := mset d.set.discs none sp x } }

/-- The spindle that a disc is loaded on. -/
def Dev.spindleOfDisc (d : Dev) (id : Nat) : Option Nat :=
  (d.set.discs.find? fun e => match e.2 with | some x => x.id == id | none => false).map (·.1)

/-- The key of a band of a disc. -/
def bandKey (side layer band : Nat) : Nat := (side * 4 + layer) * bandCount + band

/-- The state of a band: 0 blank, 1 burned, 2 burned with replacements, 3 damaged, 4 started. -/
def Disc.band (x : Disc) (side layer band : Nat) : Nat := mget x.bands 0 (bandKey side layer band)

/-- A media record (codes 0x3001 request, 0x3002 event); the spec gives no numbers for its cause
(assumption 9). -/
def Dev.media (d : Dev) (code disc sp vol member : Nat) : Dev :=
  let (cause, d) := d.draw 8
  d.record code 12 2 (payload [(0, 6, disc), (6, 1, sp), (7, 2, vol), (9, 1, member), (10, 1, cause)]) 0 0 disc 0

/-- Asks for the disc of a member, once (R549). -/
def Dev.mediaRequest (d : Dev) (vol m : Nat) : Dev :=
  match d.volSet vol with
  | some s =>
    if d.set.asked.contains (vol, m) then d
    else ({ d with set := { d.set with asked := d.set.asked ++ [(vol, m)] } }).media 0x3001
      (s.members.getD m (0, 0)).1 0xFF vol m
  | none => d

/-! ## Lost stripes (R554, R555) -/

/-- A LOST or CLEARED record. -/
def lostRec (kind : Nat) (l : Lost) : BitVec 128 :=
  recStripe kind l.vol [(28, l.stripe), (60, l.count), (92, l.dmask), (106, l.cause), (110, l.lbmask)]

/-- Appends a STRIPE record; the volume field cannot tell a reshape's new set from the set that it replaces, so a key
above the volumes journals none (assumption 41). -/
def Dev.journalSet (d : Dev) (key : Nat) (r : BitVec 128) : Dev := if key < 65536 then d.journal r else d

/-- Appends a STRIPE record that is flushed before the action that it records. -/
def Dev.journalSetForced (d : Dev) (key : Nat) (r : BitVec 128) : Dev := if key < 65536 then d.journalForced r else d

/-- Makes a lost-stripe entry (R554). -/
def Dev.addLost (d : Dev) (l : Lost) : Dev :=
  let d := d.setErrRec Reg.SET_ERR_STRIPE_LOST l.vol l.stripe
  if d.set.lost.length < 16384 then
    (({ d with set := { d.set with lost := d.set.lost ++ [l] } }).bump Reg.SET_CNT_LOST_COUNT l.count).journalSetForced
      l.vol (lostRec 5 l)
  else
    match d.volSet l.vol with
    | some s => d.putSet l.vol (some { s with dead := true })
    | none => d

/-- An entry without one LB (data member `i`, LB `j` of stripe `n`): what remains of it (R555). -/
def Lost.without (l : Lost) (n i j : Nat) : List Lost :=
  let before := if l.stripe < n then [{ l with count := n - l.stripe }] else []
  let after := if n + 1 < l.stripe + l.count then [{ l with stripe := n + 1, count := l.stripe + l.count - (n + 1) }] else []
  let dm := l.dmask - 2 ^ i
  let lm := l.lbmask - 2 ^ j
  let others := if dm = 0 then [] else [{ l with stripe := n, count := 1, dmask := dm }]
  let same := if lm = 0 then [] else [{ l with stripe := n, count := 1, dmask := 2 ^ i, lbmask := lm }]
  before ++ others ++ same ++ after

/-- A WRITE to a lost LB: the covering entries no longer cover it (R555). -/
def Dev.clearLost (d : Dev) (s : DiscSet) (vol lba : Nat) : Dev :=
  let (n, i, j, _) := s.place lba
  let covers (l : Lost) : Bool :=
    l.vol == vol && decide (l.stripe ≤ n) && decide (n < l.stripe + l.count) && l.dmask.testBit i && l.lbmask.testBit j
  if d.set.lost.any covers then
    let d := { d with set := { d.set with
      lost := d.set.lost.flatMap fun l => if covers l then l.without n i j else [l] } }
    d.journal (lostRec 6 { vol := vol, cause := 0, stripe := n, count := 1, dmask := 2 ^ i, lbmask := 2 ^ j })
  else d

/-! ## Members and spares (R549, R550) -/

/-- A MEMBER record. -/
def memberRec (vol disc m node gen : Nat) : BitVec 128 :=
  recStripe 7 vol [(28, disc), (76, m), (80, node), (94, gen)]

/-- Chooses a spare for a failed member: the earliest disc of the pool on the member's node, else the
earliest of the other node of a cross-pair set (R550). -/
def Dev.selectSpare (d : Dev) (vol m : Nat) : Dev :=
  match d.volSet vol with
  | none => d
  | some s =>
    let (old, node) := s.members.getD m (0, 0)
    let pick := match d.set.pool.find? (fun q => q.2 == node) with
      | some q => some q
      | none => if s.cross then d.set.pool.head? else none
    match pick with
    | some q =>
      let sp := (d.spindleOfDisc old).getD 0xFF
      let d := { d with set := { d.set with pool := d.set.pool.erase q } }
      let d := d.putSet vol (some { s with members := s.members.set m q, spared := s.spared ++ [m] })
      d.media 0x3001 q.1 sp vol m
    | none => (d.setErrRec Reg.SET_ERR_SPARE_NONE vol (member := m)).media 0x3002 0 0xFF vol m

/-- Stripes of a volume that a rebuild has yet to burn on its spare: those burned on a survivor, in order of number. -/
def Dev.unbuilt (d : Dev) (s : DiscSet) (vol : Nat) : List Nat :=
  (d.set.stripes.filter fun e => decide (e.1 / 2 ^ 32 = vol) && (match e.2 with
    | some t => t.burned != 0 && s.rebuilding.any fun m => !t.burned.testBit m
    | none => false)).map fun e => e.1 % 2 ^ 32

/-- More members than the parity covers have failed during a rebuild: one entry covers every stripe not yet rebuilt
(R552). -/
def Dev.lostRest (d : Dev) (s : DiscSet) (vol : Nat) : Dev :=
  match d.unbuilt s vol with
  | [] => d
  | n :: t =>
    let lo := t.foldl min n
    let hi := t.foldl max n
    let mask := (s.failed.filter (· < s.k)).foldl (fun a m => a + 2 ^ m) 0
    d.addLost { vol := vol, cause := 0, stripe := lo, count := hi + 1 - lo, dmask := mask, lbmask := 0xFFFF }

/-- A member fails (R549). -/
def Dev.memberFail (d : Dev) (vol m : Nat) : Dev :=
  match d.volSet vol with
  | none => d
  | some s =>
    if s.failed.contains m then d
    else
      let (_, node) := s.members.getD m (0, 0)
      let mr := memberRec vol 0 m node s.gen
      let s' : DiscSet := { s with
        failed := s.failed ++ [m], spared := s.spared.filter (· != m), unwritten := s.unwritten ++ [mr] }
      let d := d.putSet vol (some s')
      let d := d.journalSetForced vol mr
      let d := d.setErrRec Reg.SET_ERR_MEMBER_FAILED vol (member := m)
      let d := if !s.rebuilding.isEmpty && decide (s.p < s'.failed.length) then d.lostRest s' vol else d
      if d.flag Reg.SET_CFG_SPARE_AUTO then d.selectSpare vol m else d

/-! ## Set parity (R538, R540) -/

/-- The bytewise sum of clusters (lists of LB words). -/
def clAdd (a b : List (List Byte)) : List (List Byte) := List.zipWith gfAdd a b

/-- A cluster scaled by a field element. -/
def clScale (c : BitVec 8) (a : List (List Byte)) : List (List Byte) := a.map (gfScale c)

/-- A cluster of pad LBs. -/
def clZero : List (List Byte) := List.replicate 16 (List.replicate 4112 0)

/-- P and Q of a stripe from its data clusters. -/
def parityP (l : List (List (List Byte))) : List (List Byte) := l.foldl clAdd clZero
def parityQ (l : List (List (List Byte))) : List (List Byte) :=
  (List.range l.length).foldl (fun a i => clAdd a (clScale (gfAlpha i) (l.getD i clZero))) clZero

/-- The cluster of member `a` of a stripe from the clusters of other members (R540); `none` when they do
not suffice. `got` maps members to clusters. -/
def solve (k a : Nat) (got : List (Nat × List (List Byte))) : Option (List (List Byte)) :=
  let at_ (m : Nat) : Option (List (List Byte)) := (got.find? fun q => q.1 == m).map (·.2)
  let missing := (List.range k).filter fun i => (at_ i).isNone
  let known := (List.range k).filterMap fun i => (at_ i).map fun x => (i, x)
  let p' := known.foldl (fun s q => clAdd s q.2) ((at_ k).getD clZero)
  let q' := known.foldl (fun s q => clAdd s (clScale (gfAlpha q.1) q.2)) ((at_ (k + 1)).getD clZero)
  if k ≤ a then
    if missing.isEmpty then
      some (if a = k then parityP (known.map (·.2)) else parityQ (known.map (·.2)))
    else none
  else
    match missing with
    | [x] =>
      if x != a then none
      else if (at_ k).isSome then some p'
      else if (at_ (k + 1)).isSome then some (clScale (gfInv (gfAlpha a)) q')
      else none
    | [x, y] =>
      if (at_ k).isSome && (at_ (k + 1)).isSome then
        let b := if x = a then y else x
        if x = a || y = a then
          some (clScale (gfInv (gfAlpha a ^^^ gfAlpha b)) (clAdd q' (clScale (gfAlpha b) p')))
        else none
      else none
    | _ => none

/-- The members whose clusters a recovery reads: the first `k` available ones, data members first, then P,
then Q (R540, R551). -/
def Recov.sources (r : Recov) (s : DiscSet) : Option (List Nat) :=
  let l := (List.range s.w).filter fun m => m != r.member && !r.bad.contains m && !s.failed.contains m
  if l.length < s.k then none else some (l.take s.k)

/-! ## Reading clusters from disc (R516, R553) -/

/-- Where a member holds its cluster of a stripe: its slot, through the replacement table (R516). -/
def Dev.clusterAt (d : Dev) (s : DiscSet) (vol n m : Nat) : Nat :=
  let slot := d.slotOf s vol n
  match d.set.remaps.find? (fun r => r.vol == vol && r.member == some m && r.old == slot) with
  | some r => r.new
  | none => slot

/-- Adds a cluster to those to be read. -/
def Dev.wantCluster (d : Dev) (disc addr : Nat) (ctxs : List Nat) : Dev :=
  let l := d.set.wants
  let l := if l.any (fun q => q.1 == disc && q.2.1 == addr) then
      l.map fun q => if q.1 == disc && q.2.1 == addr then (disc, addr, q.2.2 ++ ctxs.filter fun c => !q.2.2.contains c) else q
    else l ++ [(disc, addr, ctxs)]
  { d with set := { d.set with wants := l } }

/-- Asks for the cluster of a member of a stripe; an absent disc is asked for and the read waits. -/
def Dev.wantMember (d : Dev) (s : DiscSet) (vol n m : Nat) (ctxs : List Nat) : Dev :=
  let disc := (s.members.getD m (0, 0)).1
  let d := d.wantCluster disc (d.clusterAt s vol n m) ctxs
  if (d.spindleOfDisc disc).isNone then d.mediaRequest vol m else d

/-- A cluster recovered for a spare waits for its burn (R551). -/
def Dev.holdSpare (d : Dev) (s : DiscSet) (vol n m : Nat) (words : List (List Byte)) : Dev :=
  if s.rebuilding.contains m then
    let disc := (s.members.getD m (0, 0)).1
    let a := d.slotOf s vol n
    { d with set := { d.set with
      guest := (d.set.guest.filter fun g => !(g.1 == disc && g.2.1 == a)) ++ [(disc, a, words)] } }
  else d

/-- A lost cluster makes an entry unless its LBs are lost already (R554). -/
def Dev.addLostOnce (d : Dev) (s : DiscSet) (l : Lost) : Dev :=
  let all := (List.range s.k).all fun i => !l.dmask.testBit i ||
    (List.range 16).all fun j => !l.lbmask.testBit j || d.isListed s l.vol (16 * (s.k * l.stripe + i) + j)
  if all then d else d.addLost l

/-- Too few members are left to recover a spare's cluster (R552): the stripe is lost with cause 0, and the spare's cluster
is computed with every lost data cluster taken as pad LBs, once the others have been read. -/
def Dev.spareLost (d : Dev) (s : DiscSet) (r : Recov) (rest : List Recov) (gone : List Nat) (mask : Nat) : Dev :=
  let left := (List.range s.k).filter fun m => s.k ≤ r.member && !gone.contains m && !(r.got.any fun q => q.1 == m)
  if left.isEmpty then
    let d : Dev := { d with set := { d.set with recovs := rest } }
    let d := d.addLostOnce s { vol := r.vol, cause := 0, stripe := r.stripe, count := 1, dmask := mask, lbmask := 0xFFFF }
    let cl (i : Nat) : List (List Byte) := ((r.got.find? fun q => q.1 == i).map (·.2)).getD clZero
    let words := if r.member < s.k then clZero
      else if r.member = s.k then parityP ((List.range s.k).map cl) else parityQ ((List.range s.k).map cl)
    d.holdSpare s r.vol r.stripe r.member words
  else
    let d : Dev := { d with set := { d.set with recovs := rest ++ [r] } }
    left.foldl (fun d m => d.wantMember s r.vol r.stripe m []) d

/-- Starts, or goes on with, the recovery of a cluster: its sources are read, or, when too few members are
left, the LBs of the unavailable data clusters are lost (R540, R552, R554). -/
def Dev.recover (d : Dev) (r : Recov) : Dev :=
  match d.volSet r.vol with
  | none => d
  | some s =>
    let rest := d.set.recovs.filter fun q => !(q.vol == r.vol && q.stripe == r.stripe && q.member == r.member)
    match r.sources s with
    | some l =>
      let d := { d with set := { d.set with recovs := rest ++ [r] } }
      l.foldl (fun d m => if r.got.any (fun q => q.1 == m) then d else d.wantMember s r.vol r.stripe m []) d
    | none =>
      let gone := (List.range s.k).filter fun m => m == r.member || r.bad.contains m || s.failed.contains m
      let mask := gone.foldl (fun a m => a + 2 ^ m) 0
      let d := if s.rebuilding.contains r.member then d.spareLost s r rest gone mask
        else
          let d : Dev := { d with set := { d.set with recovs := rest } }
          d.addLost { vol := r.vol, cause := 1, stripe := r.stripe, count := 1, dmask := mask, lbmask := 0xFFFF }
      let base := 16 * s.k * r.stripe + 16 * r.member
      r.ctxs.foldl (fun d c => (List.range 16).foldl (fun d j => d.gotLost c (base + j)) d) d

/-- Reads a cluster for some READs: from its member, or by recovery when the member has failed (R553). -/
def Dev.readCluster (d : Dev) (s : DiscSet) (vol n m : Nat) (ctxs : List Nat) : Dev :=
  if s.failed.contains m then
    d.recover { vol := vol, stripe := n, member := m, got := [], bad := [], ctxs := ctxs }
  else d.wantMember s vol n m ctxs

/-- Hands the LBs of a data cluster to the READs that wait for them; an LB whose seal fails is unreadable
(R540, R544). -/
def Dev.deliverCluster (d : Dev) (s : DiscSet) (vol n m : Nat) (words : List (List Byte)) (ctxs : List Nat) : Dev :=
  let base := 16 * s.k * n + 16 * m
  ctxs.foldl (fun d c =>
    (List.range 16).foldl (fun d j =>
      let w := words.getD j []
      let data := w.take 4096
      let tag := w.drop 4096
      if isPad data tag then d.gotUnwritten c (base + j)
      else if discOk (srcVol vol) (base + j) data tag then d.gotLb c (base + j) { gen := sealGen tag, data := data, tag := tag }
      else d.gotLost c (base + j)) d) d

/-- Keeps the LBs of a data cluster that a stripe placed anew still needs (R519). -/
def Dev.holdAnew (d : Dev) (s : DiscSet) (vol n m : Nat) (words : List (List Byte)) : Dev :=
  match d.stripe vol n with
  | some t =>
    if !t.anew then d
    else
      let base := 16 * s.k * n + 16 * m
      (List.range 16).foldl (fun d j =>
        let w := words.getD j []
        if (d.idxOf vol (base + j)).isSome || (d.heldBlock vol (base + j)).isSome || t.pads.contains (16 * m + j)
            || isPad (w.take 4096) (w.drop 4096) then d
        else
          let lb : StagedLb := { gen := sealGen (w.drop 4096), data := w.take 4096, tag := w.drop 4096 }
          { d with set := { d.set with held := d.set.held ++ [(vol, base + j, lb)] } }) d
  | none => d

/-- Whether an LB of a stripe is at hand for a burn: staged, held, or a pad LB. -/
def Dev.lbReady (d : Dev) (s : DiscSet) (vol n x : Nat) : Bool :=
  let lba := 16 * s.k * n + x
  let v := srcVol vol
  ((d.idxOf v lba).isSome && !d.sal.fetching.contains (v, lba)) || (d.heldBlock vol lba).isSome
    || (match d.stripe vol n with | some t => t.pads.contains x | none => false)
    || (match d.volSet v with | some o => d.isListed o v lba | none => d.isListed s vol lba)

/-- Keeps the LBs of a data cluster of the old set that a reshape copies (R556): each that the new set has yet to burn and
that is not staged; a pad LB stays a pad LB. -/
def Dev.holdCopy (d : Dev) (s : DiscSet) (vol n m : Nat) (words : List (List Byte)) : Dev :=
  let key := vol + 65536
  match (if s.reshaping then d.volSet key else none) with
  | none => d
  | some t =>
    let base := 16 * s.k * n + 16 * m
    (List.range 16).foldl (fun (d : Dev) j =>
      let w := words.getD j []
      let (n', _, _, x') := t.place (base + j)
      let y := (d.stripe key n').getD (Stripe.fresh (d.slotOf t key n'))
      if y.burned != 0 || d.lbReady t key n' x' then d
      else if isPad (w.take 4096) (w.drop 4096) then d.putStripe key n' (some { y with pads := y.pads ++ [x'] })
      else
        let lb : StagedLb := { gen := sealGen (w.drop 4096), data := w.take 4096, tag := w.drop 4096 }
        { d with set := { d.set with held := d.set.held ++ [(key, base + j, lb)] } }) d

/-- The LBs of a recovered data cluster that pass the seal check may be used; one that fails is unreadable (R540): it is lost,
and a pad LB stands in its place. -/
def Dev.recovered (d : Dev) (s : DiscSet) (vol n m : Nat) (words : List (List Byte)) : List (List Byte) × Dev :=
  let bad (j : Nat) : Bool :=
    let w := words.getD j []
    decide (m < s.k) && !discOk (srcVol vol) (16 * s.k * n + 16 * m + j) (w.take 4096) (w.drop 4096)
  let l := (List.range 16).filter bad
  if l.isEmpty then (words, d)
  else
    let cause := if s.rebuilding.contains m then 0 else 1
    ((List.range 16).map fun j => if l.contains j then zeroBlock ++ zeroSeal else words.getD j [],
      d.addLostOnce s { vol := vol, cause := cause, stripe := n, count := 1, dmask := 2 ^ m,
                        lbmask := l.foldl (fun a j => a + 2 ^ j) 0 })

/-- The members that a recovery counts an unreadable cluster of: its own and those of the data clusters solved with it that no
recovery of their own counts; a failed member has none to count (R540, R549, example of Table 15-11). -/
def Recov.counted (r : Recov) (others : List Recov) (s : DiscSet) : List Nat :=
  (r.member :: r.bad.filter fun m => decide (m < s.k) && decide (r.member < s.k)
      && !(others.any fun q => q.vol == r.vol && q.stripe == r.stripe && q.member == m)).filter
    fun m => !s.failed.contains m

/-- One more cluster of a member has been recovered since it was loaded; at FAIL_UNREAD the member fails (R549). -/
def Dev.countUnread (d : Dev) (vol m : Nat) : Dev :=
  match d.volSet vol with
  | none => d
  | some s =>
    let n := mget s.unread 0 m + 1
    let d := d.putSet vol (some { s with unread := mset s.unread 0 m n })
    if d.rd Reg.SET_CFG_FAIL_UNREAD ≤ n then d.memberFail vol m else d

/-- A recovery that has every source solves its cluster and delivers it (R553); the recovery counts toward
the member's FAIL_UNREAD (R549). -/
def Dev.solveRecov (d : Dev) (r : Recov) : Dev :=
  match d.volSet r.vol with
  | none => d
  | some s =>
    match r.sources s with
    | none => d.recover r
    | some l =>
      if !(l.all fun m => r.got.any fun q => q.1 == m) then d
      else
        match solve s.k r.member r.got with
        | none => d
        | some words =>
          let d := { d with set := { d.set with recovs := d.set.recovs.filter (· != r) } }
          let d := d.bump Reg.SET_CNT_RECOV_COUNT
          let d := d.deliverCluster s r.vol r.stripe r.member words r.ctxs
          let (words, d) := d.recovered s r.vol r.stripe r.member words
          let d := d.holdAnew s r.vol r.stripe r.member words
          let d := (d.holdCopy s r.vol r.stripe r.member words).holdSpare s r.vol r.stripe r.member words
          (r.counted d.set.recovs s).foldl (fun d m => d.countUnread r.vol m) d

/-- The stripe, member and volume of a cluster of a loaded disc. -/
def Dev.stripeAt (d : Dev) (disc addr : Nat) : Option (Nat × DiscSet × Nat × Nat) :=
  match d.set.sets.find? (fun e => match e.2 with | some s => s.members.any (fun q => q.1 == disc) | none => false) with
  | some (vol, some s) =>
    match s.members.findIdx? (fun q => q.1 == disc) with
    | none => none
    | some m =>
      let slot := match d.set.remaps.find? (fun r => r.vol == vol && r.member == some m && r.new == addr) with
        | some r => r.old
        | none => addr
      match d.set.stripes.find? (fun e => decide (e.1 / 2 ^ 32 = vol) && (match e.2 with | some t => t.slot == slot | none => false)) with
      | some (k, _) => some (vol, s, k % 2 ^ 32, m)
      | none => none
  | _ => none

/-- Takes the contexts that wait for a cluster. -/
def Dev.takeWant (d : Dev) (disc addr : Nat) : List Nat × Dev :=
  match d.set.wants.find? (fun q => q.1 == disc && q.2.1 == addr) with
  | some q => (q.2.2, { d with set := { d.set with wants := d.set.wants.erase q } })
  | none => ([], d)

/-- A cluster of a disc has been read: 16 information words of 4,112 bytes (R196, R539). -/
def Dev.clusterRead (d : Dev) (disc addr : Nat) (words : List (List Byte)) : Dev :=
  let (ctxs, d) := d.takeWant disc addr
  match d.stripeAt disc addr with
  | none => d
  | some (vol, s, n, m) =>
    let d := if m < s.k then ((d.deliverCluster s vol n m words ctxs).holdAnew s vol n m words).holdCopy s vol n m words else d
    (d.set.recovs.filter fun r => r.vol == vol && r.stripe == n && r.member != m).foldl (fun d r =>
      let r' := { r with got := if r.got.any (fun q => q.1 == m) then r.got else r.got ++ [(m, words)] }
      ({ d with set := { d.set with recovs := d.set.recovs.map fun q => if q == r then r' else q } }).solveRecov r') d

/-- A cluster of a disc is unreadable (R203): its READs wait for recovery from set parity, and the
recoveries that needed it take another source. -/
def Dev.clusterUnreadable (d : Dev) (disc addr : Nat) : Dev :=
  let (ctxs, d) := d.takeWant disc addr
  match d.stripeAt disc addr with
  | none => d
  | some (vol, s, n, m) =>
    let d := (d.set.recovs.filter fun r => r.vol == vol && r.stripe == n && r.member != m).foldl (fun d r =>
      d.recover { r with bad := if r.bad.contains m then r.bad else r.bad ++ [m] }) d
    let anew := match d.stripe vol n with | some t => t.anew | none => false
    if ctxs.isEmpty && !anew && !s.reshaping then d
    else if s.k ≤ m then d
    else d.recover { vol := vol, stripe := n, member := m, got := [], bad := [], ctxs := ctxs }

/-! ## Where a logical block comes from (R478, R479, R514) -/

/-- A staged copy that no mirror copy replaces: the LB is lost, unless the disc holds the same generation (R514,
R548). -/
def Dev.stagedGone (d : Dev) (vol lba : Nat) : Dev :=
  match d.idxOf vol lba, d.volSet vol with
  | some e, some s =>
    let same := d.burnedGen s vol lba == some e.gen
    let d := d.unstage e
    if same then d
    else
      let (n, i, j, _) := s.place lba
      d.addLost { vol := vol, cause := 2, stripe := n, count := 1, dmask := 2 ^ i, lbmask := 2 ^ j }
  | some e, none => d.unstage e
  | none, _ => d

/-- A staged copy that cannot be read: the peer's mirror copy is fetched where there is one (R514). -/
def Dev.stagedBad (d : Dev) (vol lba : Nat) : Dev :=
  if (d.idxOf vol lba).isSome && (d.volSet vol).isSome && d.mgmt.mirrorIngest && d.peerAlive then
    if d.sal.fetching.contains (vol, lba) then d
    else ({ d with sal := { d.sal with fetching := d.sal.fetching ++ [(vol, lba)] } }).ner (.fetch vol lba 1)
  else d.stagedGone vol lba

/-- Finds an LB for a READ or VERIFY: in a page being programmed, staged, lost, burned or unwritten. -/
def Dev.sourceLb (d : Dev) (c vol lba : Nat) (discOnly : Bool := false) : Dev :=
  match d.volSet vol with
  | none => d.gotUnwritten c lba
  | some s =>
    let disk (d : Dev) : Dev :=
      if d.isLost s vol lba then d.gotLost c lba
      else
        match d.burnedGen s vol lba with
        | some _ =>
          let (n, i, _, _) := s.place lba
          d.readCluster s vol n i [c]
        | none => d.gotUnwritten c lba
    if discOnly then disk d
    else
      match d.inFlight vol lba with
      | some lb => d.gotLb c lba lb
      | none =>
        match d.idxOf vol lba with
        | some e =>
          if d.sal.fetching.contains (vol, lba) then d
          else if d.sal.reads.any (fun r => r.lsn == e.lsn && r.page == e.slot / 4 && r.why == .host c) then d
          else d.readPage e.lsn (e.slot / 4) (.host c)
        | none =>
          match d.heldBlock vol lba with
          | some lb => d.gotLb c lba lb
          | none => disk d

/-- The READs that waited for the ingest of a WRITE find their LBs (R477). -/
def Dev.afterWrite (d : Dev) (w : Nat) : Dev :=
  (d.que.ctxs.filter fun e => match e.2 with | some k => k.after.any (fun q => q.2 == w) | none => false).foldl
    (fun d e =>
      match d.ctx e.1 with
      | some k =>
        let l := (k.after.filter fun q => q.2 == w).map (·.1)
        let d := d.setCtx e.1 (some { k with after := k.after.filter fun q => q.2 != w })
        l.foldl (fun d a => d.sourceLb e.1 k.e.volume.toNat a) d
      | none => d) d

/-! ## Stripes in flight -/

/-- Marks the stripe of an LB that has been staged: a new entry, or a burned stripe that will be placed
anew (R519). -/
def Dev.touchStripe (d : Dev) (s : DiscSet) (vol lba : Nat) : Dev :=
  let (n, _, _, x) := s.place lba
  match d.stripe vol n with
  | none => d.putStripe vol n (some (Stripe.fresh (d.slotOf s vol n)))
  | some t =>
    if t.burned != 0 then
      d.putStripe vol n (some { t with anew := true, pads := t.pads.erase x })
    else d.putStripe vol n (some { t with pads := t.pads.erase x })

/-- A stripe is full (R541). -/
def Dev.stripeFull (d : Dev) (s : DiscSet) (vol n : Nat) : Bool :=
  (List.range (16 * s.k)).all fun x => d.lbReady s vol n x

/-- Closes a stripe: each LB that is not at hand becomes a pad LB (R541). -/
def Dev.closeStripe (d : Dev) (s : DiscSet) (vol n : Nat) : Dev :=
  let t := (d.stripe vol n).getD (Stripe.fresh (d.slotOf s vol n))
  if t.burned != 0 then d
  else
    let miss := (List.range (16 * s.k)).filter fun x => !d.lbReady s vol n x
    d.putStripe vol n (some { t with closed := true, pads := t.pads ++ miss })

/-- Reads the other LBs of a stripe that is to be placed anew (R519). -/
def Dev.gatherAnew (d : Dev) (s : DiscSet) (vol n : Nat) : Dev :=
  (List.range s.k).foldl (fun d m =>
    if (List.range 16).all fun j => d.lbReady s vol n (16 * m + j) then d
    else d.readCluster s vol n m []) d

/-- Reserve slots not yet assigned. -/
def DiscSet.reserveLeft (s : DiscSet) : Nat := 2 * reservePerSide s.reserve - s.reserveNext

/-- Places a stripe anew in the next unassigned reserve slot (R518 to R520, R535): 0 pseudo-overwrite,
1 damaged band, 2 spares exhausted. With none left the stripe stays staged (R537). -/
def Dev.placeAnew (d : Dev) (vol n cause : Nat) : Dev :=
  match d.volSet vol with
  | none => d
  | some s =>
    match (if s.reserveLeft = 0 then none else reserveSlot s.reserve s.reserveNext) with
    | none => (d.setErrRec Reg.SET_ERR_RESERVE_OUT vol n).media 0x3002 0 0xFF vol 0xFF
    | some new =>
      let old := d.slotOf s vol n
      let t := (d.stripe vol n).getD (Stripe.fresh old)
      let d := d.putSet vol (some { s with reserveNext := s.reserveNext + 1 })
      let r : Remap :=
        { vol := vol, stripe := n, old := old, new := new, cause := cause, member := none, committed := false, commit := 0 }
      let d := { d with set := { d.set with remaps := d.set.remaps ++ [r] } }
      let d := d.journalSetForced vol (recStripe 3 vol [(28, n), (60, old), (92, new), (124, cause)])
      (d.putStripe vol n (some { t with slot := new, burned := 0, recorded := 0, released := false, anew := false })).bump
        Reg.SET_CNT_REMAP_COUNT

/-- The block that a burn takes for an LB of a stripe: the staged copy, the held copy, or a pad LB. -/
def Dev.burnBlock (d : Dev) (vol lba : Nat) : StagedLb :=
  match d.stagedBlock (srcVol vol) lba with
  | some b => b
  | none => (d.heldBlock vol lba).getD { gen := 0, data := zeroBlock, tag := zeroSeal }

/-- The cluster of a member of a stripe: data, P or Q, as 16 words of 4,112 bytes (R533, R538). -/
def Dev.clusterWords (d : Dev) (s : DiscSet) (vol n m : Nat) : List (List Byte) :=
  let data (i : Nat) : List (List Byte) := (List.range 16).map fun j =>
    let b := d.burnBlock vol (16 * (s.k * n + i) + j)
    b.data ++ b.tag
  if m < s.k then data m
  else if m = s.k then parityP ((List.range s.k).map data)
  else parityQ ((List.range s.k).map data)

/-- Runs of equal values of `g` over `count` consecutive numbers from `a`. -/
def genRuns (g : Nat → Nat) : Nat → Nat → List (Nat × Nat × Nat)
  | _, 0 => []
  | a, n + 1 =>
    match genRuns g (a + 1) n with
    | (b, c, v) :: t => if v = g a then (a, c + 1, v) :: t else (a, 1, g a) :: (b, c, v) :: t
    | [] => [(a, 1, g a)]

/-- A COMMIT or SEAL VOLUME completes once the stripes it waits for are recorded on every member (R480). -/
def Dev.checkCommit (d : Dev) (vol : Nat) : Dev :=
  (d.waiting fun w => w == .recorded).foldl (fun d c =>
    match d.ctx c with
    | some k =>
      if k.e.volume.toNat != vol then d
      else
        let left := k.todo.filter fun n => match d.stripe vol n with | some t => !t.released | none => true
        let d := d.setCtx c (some { k with todo := left })
        if !left.isEmpty then d
        else if k.e.op == 0x85 then
          match d.volSet vol with
          | some s =>
            let owed := (List.range (2 * s.w)).filter fun i => !s.failed.contains (i / 2)
            (d.putSet vol (some { s with sealedVol := true, owed := owed })).await c (.setCommit vol)
          | none => d.complete c St.success
        else d.complete c St.success k.acc0
    | none => d) d

/-- Releases a stripe that the ledger of every member records, a failed member's only once its spare's ledger does (R19,
R503): its LBs leave the index, and the peer frees its mirror copies (R569). -/
def Dev.releaseStripe (d : Dev) (vol n : Nat) : Dev :=
  match d.volSet vol, d.stripe vol n with
  | some s, some t =>
    if !((List.range s.w).all t.recorded.testBit) || t.released then d
    else if !d.canRelease then d.bump Reg.SAL_CNT_MISC_REL_WAIT
    else
      let base := 16 * s.k * n
      let runs := genRuns (fun x => mget t.gens 0 x) 0 (16 * s.k)
      -- a reshape's staged LBs leave the index at the switch (assumption 41)
      let own := decide (vol < 65536)
      let d := if own then runs.foldl (fun d r => d.releaseRange false vol (base + r.1) r.2.1 r.2.2) d else d
      let d := { d with set := { d.set with held := d.set.held.filter fun q =>
        !(q.1 == vol && decide (base ≤ q.2.1) && decide (q.2.1 < base + 16 * s.k)) } }
      let d := (d.putStripe vol n (some { t with released := true })).bump Reg.SET_CNT_STRIPES_COUNT
      let d := if own && d.mgmt.mirrorIngest && d.peerAlive then
          d.ner (.mirrorRelease (runs.map fun r => { volume := vol, lba := base + r.1, count := r.2.1, gen := r.2.2 }))
        else d
      d.checkCommit vol
  | _, _ => d

/-- A member has burned its cluster of a stripe (BURNED record): what was burned gives the generations. -/
def Dev.burnedBy (d : Dev) (vol n m : Nat) : Dev :=
  match d.volSet vol, d.stripe vol n with
  | some s, some t =>
    let gens := if t.burned != 0 then t.gens
      else (List.range (16 * s.k)).foldl (fun g x =>
        let lba := 16 * s.k * n + x
        match d.idxOf (srcVol vol) lba with
        | some e => mset g 0 x e.gen
        | none => match d.heldBlock vol lba with | some b => mset g 0 x b.gen | none => g) []
    let d := d.putStripe vol n (some { t with
      burned := if t.burned.testBit m then t.burned else t.burned + 2 ^ m, gens := gens })
    d.journalSet vol (recStripe 1 vol [(28, n), (60, t.slot), (92, m)])
  | _, _ => d

/-- A member's ledger records its cluster of a stripe (RECORDED record, R19). -/
def Dev.recordedBy (d : Dev) (vol n m commit : Nat) : Dev :=
  match d.stripe vol n with
  | some t =>
    let d := d.putStripe vol n (some { t with recorded := if t.recorded.testBit m then t.recorded else t.recorded + 2 ^ m })
    (d.journalSet vol (recStripe 2 vol [(28, n), (60, t.slot), (92, m), (96, commit)])).releaseStripe vol n
  | none => d

/-- The STATE record of a stripe in flight. -/
def stateRec (vol n : Nat) (t : Stripe) : BitVec 128 :=
  recStripe 8 vol [(28, n), (60, t.slot), (92, t.burned), (108, t.recorded)]

/-- A checkpoint with what the set engine appends after its CKPT record (R506, R546). -/
def Dev.checkpoint (d : Dev) : Dev :=
  if !d.flashOk then d
  else
    let d := d.ckptBase
    let d := d.set.stripes.foldl (fun d e =>
      match e.2 with
      | some t => if t.released then d else d.journalSet (e.1 / 2 ^ 32) (stateRec (e.1 / 2 ^ 32) (e.1 % 2 ^ 32) t)
      | none => d) d
    let d := d.set.remaps.foldl (fun d r =>
      if r.committed then d
      else match r.member with
        | none => d.journalSet r.vol (recStripe 3 r.vol [(28, r.stripe), (60, r.old), (92, r.new), (124, r.cause)])
        | some m => d.journalSet r.vol (recStripe 4 r.vol [(28, r.stripe), (60, r.old), (92, r.new), (124, m)])) d
    let d := d.set.sets.foldl (fun d e => match e.2 with
      | some s => s.unwritten.foldl (fun d r => d.journalSet e.1 r) d
      | none => d) d
    let d := d.set.lost.foldl (fun d l => d.journalSet l.vol (lostRec 5 l)) d
    let d := d.flushJournal
    d.set.stripes.foldl (fun d e =>
      match e.2 with
      | some t => if t.released then d else d.releaseStripe (e.1 / 2 ^ 32) (e.1 % 2 ^ 32)
      | none => d) d

/-- The replacements of a member that lie in a band. -/
def Dev.replacedIn (d : Dev) (vol m side layer band : Nat) : List Remap :=
  d.set.remaps.filter fun r => r.vol == vol && r.member == some m && caSide r.new == side && caLayer r.new == layer
    && caBand r.new == band

/-- The words held for a cluster of a disc that no stripe here supplies. -/
def Dev.guestWords (d : Dev) (disc a : Nat) : Option (List (List Byte)) :=
  (d.set.guest.find? fun g => g.1 == disc && g.2.1 == a).map (·.2.2)

/-- The next unused spare cluster of a side, layer and zone (R517). -/
def Dev.takeSpare (d : Dev) (sp side layer zone : Nat) : Option (Nat × Dev) :=
  match d.disc sp with
  | none => none
  | some x =>
    let key := (side * 4 + layer) * 24 + zone
    let c := clustersOf zone
    let ok (n : Nat) : Bool := x.band side layer (369 * zone + 361 + n / c) == 0
    let n := mget x.spares 0 key
    let n := if n < 8 * c && !ok n then (n / c + 1) * c else n
    if 8 * c ≤ n then none
    else
      some (packCluster side layer (369 * zone + 361 + n / c) (n % c),
        d.putDisc sp (some { x with spares := mset x.spares 0 key (n + 1) }))

/-- A cluster of a member is replaced by the next spare cluster of its zone and layer; with the spares used
up its stripe is placed anew (R231, R517, R518). -/
def Dev.replaceCluster (d : Dev) (sp vol m n old : Nat) : Dev :=
  match d.takeSpare sp (caSide old) (caLayer old) (zoneOf (caBand old)) with
  | none => d.placeAnew vol n 2
  | some (new, d) =>
    let r : Remap :=
      { vol := vol, stripe := n, old := old, new := new, cause := 0, member := some m, committed := false, commit := 0 }
    let d : Dev := { d with set := { d.set with remaps := (d.set.remaps.filter fun (q : Remap) =>
      !(q.vol == vol && q.stripe == n && q.member == some m)) ++ [r] } }
    d.journalSetForced vol (recStripe 4 vol [(28, n), (60, old), (92, new), (124, m)])

/-- The cluster at `a` that a member has burned for stripe `n` fails: it is replaced (R231, R517), and the words of a cluster
that no stripe here supplies go with it to its replacement. -/
def Dev.replaceBurned (d : Dev) (sp disc vol m n a : Nat) (words : List (List Byte)) : Dev :=
  let old := match d.set.remaps.find? (fun r => r.vol == vol && r.member == some m && r.new == a) with
    | some r => r.old
    | none => a
  let d := d.replaceCluster sp vol m n old
  match (if (d.guestWords disc a).isSome then
      d.set.remaps.find? (fun r => r.vol == vol && r.member == some m && r.old == old && r.new != a) else none) with
  | some r => { d with set := { d.set with guest := d.set.guest ++ [(disc, r.new, words)] } }
  | none => d

/-- The words held for the clusters of a band are no longer needed. -/
def Dev.dropGuests (d : Dev) (disc side layer band : Nat) : Dev :=
  { d with set := { d.set with guest := d.set.guest.filter fun g =>
    !(g.1 == disc && caSide g.2.1 == side && caLayer g.2.1 == layer && caBand g.2.1 == band) } }

/-- A band whose burn began but did not verify is damaged (R520): its stripes are placed anew, and of a spare band each
replacement takes the next spare cluster, as one that fails verification does (R517; the model's reading, assumption 123). -/
def Dev.damageBand (d : Dev) (sp side layer band : Nat) : Dev :=
  match d.disc sp with
  | none => d
  | some x =>
    let d := d.putDisc sp (some { x with bands := mset x.bands 0 (bandKey side layer band) 3 })
    match x.member with
    | none => d
    | some (vol, m) =>
      let d := (d.replacedIn vol m side layer band).foldl (fun d r =>
        d.replaceBurned sp x.id vol m r.stripe r.new ((d.guestWords x.id r.new).getD [])) d
      let d := d.dropGuests x.id side layer band
      let hit := d.set.stripes.filter fun e =>
        decide (e.1 / 2 ^ 32 = vol) && (match e.2 with
          | some t => caSide t.slot == side && caLayer t.slot == layer && caBand t.slot == band && !t.released
          | none => false)
      hit.foldl (fun d e => d.placeAnew vol (e.1 % 2 ^ 32) 1) d

end Sys2Proof.Machine
end

