-- ==== Sys2Proof/Machine/Io.lean ====
section
/-! DEFINITION. The I/O commands READ, WRITE, COMMIT, VERIFY, LBA STATUS and SEAL VOLUME (R476 to R481),
the ingest of a WRITE (R18, R500, R501), and what the end of a DMA transfer does. -/

namespace Sys2Proof.Machine

open Sys2Proof

/-! ## Overlap (R476) -/

/-- Whether the LBA range of an entry holds an LBA. -/
def covers (e : Sqe) (vol lba : Nat) : Bool :=
  e.volume.toNat == vol && decide (e.lba.toNat ≤ lba) && decide (lba < e.lba.toNat + e.count.toNat)

/-- Whether two entries overlap. -/
def overlap (a b : Sqe) : Bool :=
  a.volume == b.volume && decide (a.lba.toNat < b.lba.toNat + b.count.toNat)
    && decide (b.lba.toNat < a.lba.toNat + a.count.toNat)

/-- A WRITE whose ingest is not complete. -/
def Ctx.ingesting (k : Ctx) : Bool :=
  k.e.op == 0x81 && (k.wait == .admission || k.wait == .ingest)

/-- The WRITEs not yet ingested that were fetched before order `o` and overlap an entry. -/
def Dev.earlierWrites (d : Dev) (o : Nat) (e : Sqe) : List (Nat × Ctx) :=
  d.que.ctxs.filterMap fun q =>
    match q.2 with
    | some k => if k.ingesting && decide (k.order < o) && overlap k.e e then some (q.1, k) else none
    | none => none

/-- The latest of some WRITEs that covers an LBA. -/
def latestOver (l : List (Nat × Ctx)) (vol lba : Nat) : Option Nat :=
  ((l.filter fun q => covers q.2.e vol lba).foldl (fun (o : Option (Nat × Ctx)) q =>
    match o with
    | some b => if b.2.order < q.2.order then some q else o
    | none => some q) none).map (·.1)

/-! ## The checks of a volume command (R480, R486) -/

/-- A SEAL VOLUME of a volume has started: WRITEs that come later are refused from then on (Table 13-7; assumption 145). -/
def Dev.sealing (d : Dev) (vol : Nat) : Bool :=
  d.que.ctxs.any fun q => match q.2 with
    | some k => k.e.op == 0x85 && k.wait == .recorded && !k.mute && k.e.volume.toNat == vol
    | none => false

/-- The status of the first check that an I/O command fails: FORMAT or SANITISE running, an unformatted
Saltern, the volume, its state, the count, the range. -/
def Dev.ioVerdict (d : Dev) (e : Sqe) (saltern countZero : Bool) : Option Nat :=
  if saltern && (d.salState == 3 || d.salState == 4) then some St.inProgress
  else if saltern && d.salState == 0 then some St.notFormatted
  else
    match d.volSet e.volume.toNat with
    | none => some St.volumeNotFound
    | some s =>
      if !s.home || s.destroyed then some St.volumeNotFound
      else if s.offline then some St.invalidState
      else if e.op == 0x81 && (s.sealedVol || d.sealing e.volume.toNat) then some St.volumeSealed
      else if e.count == 0 && !countZero then some St.invalidField
      else if s.cap < e.lba.toNat + e.count.toNat then some St.lbaOutOfRange
      else none

/-! ## WRITE (R501, R519, R537) -/

/-- The write generation that a WRITE gives an LB (R501, R519). -/
def Dev.writeGen (d : Dev) (s : DiscSet) (vol lba : Nat) : Nat :=
  let staged := match d.inFlight vol lba with
    | some b => some b.gen
    | none => (d.idxOf vol lba).map (·.gen)
  match staged, d.burnedGen s vol lba with
  | some g, some b => if g = b then g + 1 else g
  | some g, none => g
  | none, some b => b + 1
  | none, none => 0

/-- Whether a WRITE cannot be a pseudo-overwrite: an LB at generation 0xFFFF, or no reserve slot left. -/
def Dev.cannotOverwrite (d : Dev) (s : DiscSet) (e : Sqe) : Bool :=
  (List.range e.count.toNat).any fun i =>
    let lba := e.lba.toNat + i
    match d.burnedGen s e.volume.toNat lba with
    | some g => g == 0xFFFF || (s.reserveLeft == 0 && (d.idxOf e.volume.toNat lba).isNone)
    | none => s.reserveLeft == 0 && d.isLost s e.volume.toNat lba

/-- The pages that the own stream can still take. -/
def Dev.pagesLeft (d : Dev) : Nat :=
  let x := d.stream 0
  let here := match x.lsn with | some _ => 2044 - x.page | none => 0
  let sb := match x.sb with | some b => (d.segsOf b - x.seg) * 2044 | none => 0
  here + sb + d.freeSbs * d.rd Reg.SAL_GEOM_SEGS * 2044

/-- Whether a WRITE finds admission space (R500). -/
def Dev.admits (d : Dev) (e : Sqe) : Bool :=
  let fresh := (List.range e.count.toNat).countP fun i => (d.idxOf e.volume.toNat (e.lba.toNat + i)).isNone
  decide (d.sal.idx.countP (fun x => !x.mirror) + fresh ≤ d.rd Reg.SAL_ADMIT_LBS)
    && decide ((e.count.toNat + 3) / 4 ≤ d.pagesLeft)

/-- SAL_STATUS.FULL shows whether a WRITE waits for admission space. -/
def Dev.showFull (d : Dev) : Dev :=
  let any := d.que.ctxs.any fun q =>
    match q.2 with | some k => k.wait == .admission && k.e.op == 0x81 | none => false
  d.wr Reg.SAL_STATUS_FULL (if any && d.flag Reg.SAL_STATUS_INDEX_READY then 1 else 0)

/-- The LBs of a WRITE as they are staged: data, seal and generation. -/
def Dev.writeBlocks (d : Dev) (s : DiscSet) (k : Ctx) : List (Nat × Nat × StagedLb) :=
  let vol := k.e.volume.toNat
  (List.range k.e.count.toNat).map fun i =>
    let lba := k.e.lba.toNat + i
    let data := (k.buf.drop (4096 * i)).take 4096
    let given := (k.seals.drop (16 * i)).take 16
    let gen := d.writeGen s vol lba
    let tag := if k.e.seals && isPad data given then given else sealBytes vol lba gen data
    (vol, lba, { gen := gen, data := data, tag := tag })

/-- The first LB of a WRITE with SEALS whose seal fails, with the status (R480). -/
def Ctx.badSeal (k : Ctx) : Option (Nat × Nat) :=
  if !k.e.seals then none
  else (List.range k.e.count.toNat).findSome? fun i =>
    let lba := k.e.lba.toNat + i
    (sealStatus k.e.volume.toNat lba ((k.buf.drop (4096 * i)).take 4096) ((k.seals.drop (16 * i)).take 16)).map
      fun st => (lba, st)

/-- Ingests a WRITE whose data has arrived, unless an earlier overlapping WRITE has yet to be ingested
(R477): its seals are checked, its LBs go to the own stream, and it waits until they are durable (R18). -/
def Dev.ingest (d : Dev) (c : Nat) : Dev :=
  match d.ctx c with
  | none => d
  | some k =>
    let vol := k.e.volume.toNat
    if k.wait != .ingest || d.mmu.xfers.any (fun x => x.what == .dataRead c || x.what == .sealRead c)
        || !(d.earlierWrites k.order k.e).isEmpty then d
    else
      match d.volSet vol with
      | none => d.complete c St.volumeNotFound
      | some s =>
        match k.badSeal with
        | some (lba, st) => (d.sealFail Reg.SET_ERR_SEAL_INGEST vol lba).complete c st
        | none =>
          let l := d.writeBlocks s k
          match l.find? (fun q => !isPad q.2.2.data q.2.2.tag && !guardOk q.2.2.data q.2.2.tag) with
          | some q => (d.sealFail Reg.SET_ERR_SEAL_SALTERN vol q.2.1).complete c St.internalError
          | none =>
            let d := l.foldl (fun d q => (d.clearLost s vol q.2.1).touchStripe s vol q.2.1) d
            let d := d.setCtx c (some { k with wait := .durable, buf := [], seals := [] })
            let d := d.stage 0 [c] l.length l
            let anew := (l.map fun q => (s.place q.2.1).1).eraseDups
            let d := anew.foldl (fun d n =>
              if (match d.stripe vol n with | some t => t.anew | none => false) then d.gatherAnew s vol n else d) d
            d.checkDurable c

/-- Every WRITE whose data has arrived, in fetch order. -/
def Dev.ingestAll (d : Dev) : Dev :=
  (d.waiting fun w => w == .ingest).foldl (fun d c =>
    let was := d.ctx c
    let d := d.ingest c
    if d.ctx c == was then d else d.afterWrite c) d

/-- Starts the ingest of a WRITE that is admitted (R500). -/
def Dev.startWrite (d : Dev) (c : Nat) : Dev :=
  match d.ctx c with
  | none => d
  | some k =>
    if !d.flag Reg.SAL_STATUS_INDEX_READY || d.salState != 2 || !d.admits k.e then (d.await c .admission).showFull
    else
      let asid := d.asidOf k.sq
      let n := k.e.count.toNat
      let d := (d.await c .ingest).showFull
      let d := if k.e.seals then
          d.start (.sealRead c) 2 false asid k.e.sealPtr.toNat (16 * n) k.sq k.e.cid.toNat c
        else d
      d.start (.dataRead c) 2 false asid k.e.data.toNat (4096 * n) k.sq k.e.cid.toNat c

/-- WRITE (R480). -/
def Dev.serveWrite (d : Dev) (c : Nat) (k : Ctx) : Dev :=
  match d.ioVerdict k.e true false with
  | some st => d.complete c st
  | none =>
    match d.volSet k.e.volume.toNat with
    | none => d
    | some s => if d.cannotOverwrite s k.e then d.complete c St.invalidState else d.startWrite c

/-! ## READ and VERIFY -/

/-- Starts a READ or VERIFY: each LB waits for the latest overlapping WRITE before it, or is found at once
(R477). -/
def Dev.startRead (d : Dev) (c : Nat) : Dev :=
  match d.ctx c with
  | none => d
  | some k =>
    if !d.flag Reg.SAL_STATUS_INDEX_READY || d.salState != 2 then d.await c .admission
    else
      let vol := k.e.volume.toNat
      let lbas := (List.range k.e.count.toNat).map (· + k.e.lba.toNat)
      let discOnly := k.e.op == 0x83 && k.e.xflags.getLsbD 0
      let early := d.earlierWrites k.order k.e
      let later := lbas.filterMap fun a => (latestOver early vol a).map fun w => (a, w)
      let now := lbas.filter fun a => discOnly || !(later.any fun q => q.1 == a)
      let d := d.setCtx c (some { k with wait := .staging, todo := lbas, after := if discOnly then [] else later })
      now.foldl (fun d a => d.sourceLb c vol a discOnly) d

/-- READ and VERIFY (R480). -/
def Dev.serveRead (d : Dev) (c : Nat) (k : Ctx) : Dev :=
  match d.ioVerdict k.e (k.e.op == 0x80) false with
  | some st => d.complete c st
  | none => d.startRead c

/-! ## LBA STATUS (R481) -/

/-- The state of an LB (R481) and its write generation. -/
def Dev.lbState (d : Dev) (s : DiscSet) (vol lba : Nat) : Nat × Nat :=
  let staged := match d.inFlight vol lba with
    | some b => some b.gen
    | none => (d.idxOf vol lba).map (·.gen)
  match staged, d.burnedGen s vol lba with
  | some g, some _ => (3, g)
  | some g, none => (1, g)
  | none, b => if d.isLost s vol lba then (4, b.getD 0) else match b with | some g => (2, g) | none => (0, 0)

/-- Runs of one state over `n` LBs from `lba`: first LBA, count, state, generation of the first. -/
def Dev.lbRuns (d : Dev) (s : DiscSet) (vol : Nat) : Nat → Nat → List (Nat × Nat × Nat × Nat)
  | _, 0 => []
  | lba, n + 1 =>
    let (st, g) := d.lbState s vol lba
    match d.lbRuns s vol (lba + 1) n with
    | (a, c, st', g') :: t => if st' = st then (lba, c + 1, st, g) :: t else (lba, 1, st, g) :: (a, c, st', g') :: t
    | [] => [(lba, 1, st, g)]

/-- LBA STATUS: it orders as a READ does, so it waits for earlier overlapping WRITEs (R477). -/
def Dev.startStatus (d : Dev) (c : Nat) : Dev :=
  match d.ctx c with
  | none => d
  | some k =>
    match d.volSet k.e.volume.toNat with
    | none => d.complete c St.volumeNotFound
    | some s =>
      if !(d.earlierWrites k.order k.e).isEmpty then d.await c .admission
      else
        let l := d.lbRuns s k.e.volume.toNat k.e.lba.toNat k.e.count.toNat
        let most := k.e.le 40 4
        let bytes := (l.take most).flatMap fun q =>
          leBytes 8 q.1 ++ leBytes 4 q.2.1 ++ leBytes 1 q.2.2.1 ++ leBytes 1 0 ++ leBytes 2 q.2.2.2
        d.replyNow c bytes ((l.take most).length + (if most < l.length then 2 ^ 32 else 0))

/-- LBA STATUS (R480, R481). -/
def Dev.serveStatus (d : Dev) (c : Nat) (k : Ctx) : Dev :=
  match d.ioVerdict k.e false false with
  | some st => d.complete c st
  | none => if k.e.le 40 4 = 0 then d.complete c St.invalidField else d.startStatus c

/-! ## COMMIT and SEAL VOLUME -/

/-- The stripes of one band of a side sequence that hold stripe `n`. -/
def bandStripes (slot n : Nat) : List Nat :=
  let c0 := caCluster slot
  (List.range (clustersOf (zoneOf (caBand slot)))).filterMap fun c =>
    if n + 2 * c < 2 * c0 then none else some (n + 2 * c - 2 * c0)

/-- Closes the stripes of a range, and with them every stripe of the bands that they lie in (R541). -/
def Dev.closeRange (d : Dev) (s : DiscSet) (vol : Nat) (stripes : List Nat) : Dev :=
  stripes.foldl (fun d n =>
    let slot := d.slotOf s vol n
    let l := if isReserveBand s.reserve (caLayer slot) (caBand slot) then [n] else bandStripes slot n
    l.foldl (fun d m => if d.stripeFull s vol m then d else d.closeStripe s vol m) d) d

/-- COMMIT and SEAL VOLUME (R480): they complete when every LB that an earlier WRITE wrote in the range is
recorded in the ledger of every member. -/
def Dev.serveCommit (d : Dev) (c : Nat) (k : Ctx) (whole pad : Bool) : Dev :=
  match d.ioVerdict k.e false true with
  | some st => d.complete c st
  | none =>
    let vol := k.e.volume.toNat
    match d.volSet vol with
    | none => d
    | some s =>
      let lo := if whole then 0 else k.e.lba.toNat
      let hi := if whole then s.cap else lo + k.e.count.toNat
      let inRange (n : Nat) : Bool := decide (n * (16 * s.k) < hi) && decide (lo < (n + 1) * (16 * s.k))
      let known := (d.set.stripes.filterMap fun e =>
        match e.2 with
        | some t => if e.1 / 2 ^ 32 = vol && !t.released && inRange (e.1 % 2 ^ 32) then some (e.1 % 2 ^ 32) else none
        | none => none)
      let writes := d.que.ctxs.flatMap fun q =>
        match q.2 with
        | some w =>
          if w.ingesting && decide (w.order < k.order) && w.e.volume == k.e.volume then
            ((List.range w.e.count.toNat).map fun i => (s.place (w.e.lba.toNat + i)).1).eraseDups.filter inRange
          else []
        | none => []
      let todo := (known ++ writes).eraseDups
      let fresh := todo.countP fun n => match d.stripe vol n with | some t => t.burned == 0 | none => true
      let d := d.setCtx c (some { k with wait := .recorded, todo := todo, acc0 := fresh })
      let d := if pad then d.closeRange s vol todo else d
      d.checkCommit vol

/-! ## What the end of a transfer does -/

/-- A READ whose transfers are all done completes. -/
def Dev.delivered (d : Dev) (c : Nat) : Dev :=
  match d.ctx c with
  | some k =>
    if k.wait == .deliver && !(d.mmu.xfers.any fun x => x.what == .dataWrite c || x.what == .sealWrite c) then
      d.complete c k.st k.ioResult
    else d
  | none => d

/-- Takes the transfers that have moved every byte: command buffers, deliveries, ingests. -/
def Dev.reap (d : Dev) : Dev :=
  let d := d.reapBufs
  let fin := d.mmu.xfers.filter fun x => x.st == .done
  let d := fin.foldl (fun d x =>
    match x.what with
    | .dataWrite c => (d.dropX x.id).delivered c
    | .sealWrite c => (d.dropX x.id).delivered c
    | .dataRead _ => d.dropX x.id
    | .sealRead _ => d.dropX x.id
    | _ => d) d
  d.ingestAll

/-- Commands that waited for the index or for admission space try again (R500, R507). -/
def Dev.retryIo (d : Dev) (c : Nat) : Dev :=
  match d.ctx c with
  | some k =>
    if k.wait != .admission then d
    else if k.e.op == 0x81 then d.startWrite c
    else if k.e.op == 0x84 then d.startStatus c
    else d.startRead c
  | none => d

/-! ## The rows -/

/-- READ (R480). -/
def execRead (c : Nat) (s : State) : Host.Outcome State Fault Refusal :=
  State.runUnit 11 s fun d => (d.command c (fun e => e.op == 0x80)
    { volume := true, lba := true, count := true, xflags := 1, data := true, seals := true }
    fun d k => d.serveRead c k).reap

/-- WRITE (R480, R501). -/
def execWrite (c : Nat) (s : State) : Host.Outcome State Fault Refusal :=
  State.runUnit 10 s fun d => (d.command c (fun e => e.op == 0x81)
    { volume := true, lba := true, count := true, data := true, seals := true }
    fun d k => d.serveWrite c k).reap

/-- COMMIT (R480, R541): a count of 0 names the whole volume. -/
def execCommit (c : Nat) (s : State) : Host.Outcome State Fault Refusal :=
  State.runUnit 11 s fun d => d.command c (fun e => e.op == 0x82)
    { volume := true, lba := true, count := true, xflags := 1 }
    fun d k => d.serveCommit c k (k.e.count == 0) (k.e.xflags.getLsbD 0)

/-- VERIFY (R480). -/
def execVerify (c : Nat) (s : State) : Host.Outcome State Fault Refusal :=
  State.runUnit 11 s fun d => d.command c (fun e => e.op == 0x83)
    { volume := true, lba := true, count := true, xflags := 1 }
    fun d k => d.serveRead c k

/-- LBA STATUS (R481). -/
def execLbaStatus (c : Nat) (s : State) : Host.Outcome State Fault Refusal :=
  State.runUnit 11 s fun d => (d.command c (fun e => e.op == 0x84)
    { volume := true, lba := true, count := true, data := true, b := [40, 41, 42, 43] }
    fun d k => d.serveStatus c k).reap

/-- SEAL VOLUME (R480): COMMIT with PAD over the volume, then recorded as sealed in every ledger. -/
def execSealVolume (c : Nat) (s : State) : Host.Outcome State Fault Refusal :=
  State.runUnit 11 s fun d => d.command c (fun e => e.op == 0x85) { volume := true }
    fun d k => d.serveCommit c k true true

/-- A WRITE waiting for admission space starts its ingest (R500). -/
def execAdmissionGranted (c : Nat) (s : State) : Host.Outcome State Fault Refusal :=
  State.runUnit 10 s fun d => (d.retryIo c).reap

end Sys2Proof.Machine
end

