-- ==== Sys2Proof/Machine/Port.lean ====
section
/-! DEFINITION. The Sorrel port by itself: its state, CONTROL cells (R116) and cell and spot numbering. -/

namespace Sys2Proof.Machine

open Sys2Proof

/-- The state of port `p` beyond its registers. -/
def Dev.port (d : Dev) (p : Nat) : Port := mget d.ports Port.reset p

/-- Sets the state of port `p`. -/
def Dev.setPort (d : Dev) (p : Nat) (x : Port) : Dev := { d with ports := mset d.ports Port.reset p x }

/-- SOR_STATUS.STATE: 0 DOWN, 1 TRAIN, 2 UP, 3 DEGRADED, 4 FAULT. -/
def Dev.portState (d : Dev) (p : Nat) : Nat := d.rd Reg.SOR_STATUS_STATE p

/-- The port carries traffic: UP or DEGRADED. -/
def Dev.portUp (d : Dev) (p : Nat) : Bool := d.portState p == 2 || d.portState p == 3

/-- The port owns its front-end (SOR_STATUS.OWNER). -/
def Dev.owns (d : Dev) (p : Nat) : Bool := d.rd Reg.SOR_STATUS_OWNER p == 1

/-- Sets a SOR_ERR bit, with the lane of the record (10 and up: none, all ones). -/
def Dev.sorErr (d : Dev) (f : Fld) (p : Nat) (lane : Nat := 0xFF) (force : Bool := false) : Dev :=
  d.setErr f 0 p p 0 [(9, 1, lane)] force

/-- The number of a command in Table 3-8. -/
def CtlOp.code (op : CtlOp) : Nat :=
  match op with
  | .identify => 0x01 | .readReg _ => 0x02 | .ownRequest _ _ => 0x04 | .ownRelease => 0x05 | .writeStart _ _ => 0x06
  | .writeAbort _ => 0x07 | .laneRetrain _ _ => 0x08 | .trim _ _ => 0x0A | .resume => 0x0C

/-- Arguments A and B of a command (Table 3-8). -/
def CtlOp.args (op : CtlOp) : Nat × Nat :=
  match op with
  | .readReg a => (a, 0)
  | .ownRequest t n => (if t then 1 else 0, n % 2 ^ 14)
  | .writeStart m i => (m, i % 2 ^ 48)
  | .writeAbort m => (m, 0)
  | .laneRetrain l down => (l % 8 + if down then 8 else 0, 0)
  | .trim i c => (i % 2 ^ 16, c % 2 ^ 32)
  | .identify | .ownRelease | .resume => (0, 0)

/-- The 128 bits of a CONTROL cell: type 4 and the tag in its header, then opcode, flags and arguments (R87, R100). -/
def controlBits (tag : Nat) (op : CtlOp) : Nat :=
  4 * 2 ^ 13 + tag % 256 * 2 ^ 5 + op.code * 2 ^ 16 + (Config.controlFlags op.code).toNat * 2 ^ 24 + op.args.1 % 2 ^ 32 * 2 ^ 32
    + op.args.2 * 2 ^ 64

/-- The downstream lanes that carry cells: those not lost (R120). -/
def Dev.downLanes (d : Dev) (p : Nat) : Nat := 3 - (3 &&& (d.port p).lostDn.toNat)

/-- The downstream lanes, as a mask, that a cell takes of the stream, and its length in 16-bit units (Table 3-2). -/
def DownCell.place : DownCell → Nat × Nat
  | .actuator lanes _ _ _ _ _ _ _ _ _ _ _ _ => (lanes, 16)
  | .write w _ _ _ => (2 ^ (w / 4), 33)
  | .chopper lanes _ _ => (lanes, 2)
  | .control lane _ _ => (2 ^ lane, 8)
  | .sfs _ _ _ _ _ | .training _ _ | .pattern _ | .idle => (0, 0)

/-- Sends a cell or a block downstream. The cells of a lane leave in the order in which they arise, one behind the other, with
IDLE cells where none waits (assumption 83). In a test the lanes carry its pattern and nothing else (Table 3-10). -/
def Dev.sendDown (d : Dev) (p : Nat) (c : DownCell) : Dev :=
  if d.rd Reg.SOR_CFG_TEST p != 0 then d
  else
    let x := d.port p
    let (lanes, n) := c.place
    (d.setPort p { x with
      queue := x.queue.mapIdx fun l q => if lanes.testBit l then q ++ [n] else q }).send (.down p c)

/-- Sends a CONTROL cell: on D0, or on D1 while D0 is lost (R100). -/
def Dev.sendControl (d : Dev) (p tag : Nat) (op : CtlOp) : Dev :=
  d.sendDown p (.control (if (d.port p).lostDn.getLsbD 0 then 1 else 0) tag op)

/-- Sends a CONTROL cell with the next tag (R100), for a command with `tries` timeouts so far. -/
def Dev.ctlNow (d : Dev) (p : Nat) (op : CtlOp) (tries : Nat := 0) : Dev :=
  let x := d.port p
  (d.setPort p { x with
    nextTag := (x.nextTag + 1) % 256, ctl := x.ctl ++ [{ tag := x.nextTag, op := op, tries := tries }] }).sendControl p
    x.nextTag op

/-- Issues a CONTROL command: sent while the port is UP or DEGRADED, held while it is TRAIN or DOWN with
EN at 1, and failed at once otherwise (R116). -/
def Dev.ctl (d : Dev) (p : Nat) (op : CtlOp) : Dev :=
  if d.portUp p then d.ctlNow p op
  else if d.portState p == 1 || (d.portState p == 0 && d.flag Reg.SOR_CFG_EN p) then
    d.setPort p { d.port p with heldCtl := (d.port p).heldCtl ++ [(op, 0)] }
  else d

/-- Sends the commands held until UP, in order (R116). -/
def Dev.ctlRelease (d : Dev) (p : Nat) : Dev :=
  let l := (d.port p).heldCtl
  l.foldl (fun d q => d.ctlNow p q.1 q.2) (d.setPort p { d.port p with heldCtl := [] })

/-- Starts training from its first step (R105). -/
def Dev.train (d : Dev) (p : Nat) (tries : Nat) : Dev :=
  let x := d.port p
  let d := d.setPort p { x with
    step := 1, tries := tries, runs := List.replicate 8 0, quiet := List.replicate 8 0, delin := List.replicate 8 none,
    lostUp := 0, lostDn := 0, servo := [], queue := [[], []], ctl := x.ctl.filter fun w => w.op != .identify }
  ((d.wr Reg.SOR_STATUS_STATE 1 p).wr Reg.SOR_STATUS_UP_LOCK 0 p).sendDown p (.training 3 1)

end Sys2Proof.Machine
end

