-- ==== Sys2Proof/Machine/CalSets.lean ====
section
/-! DEFINITION. Calibration sets: their keys, their points and what they give at a temperature
(R331, R335 to R337). -/

namespace Sys2Proof.Machine

open Sys2Proof

/-- The points of a set. -/
def Dev.calPoints (d : Dev) (key : Nat) : List (Int × List Int) := mget d.cal.sets [] key

/-- The calibration state of a pickup. -/
def Dev.calPk (d : Dev) (p : Nat) : CalPk := mget d.cal.pk CalPk.reset p

/-- Sets the calibration state of a pickup. -/
def Dev.setCalPk (d : Dev) (p : Nat) (x : CalPk) : Dev :=
  { d with cal := { d.cal with pk := mset d.cal.pk CalPk.reset p x } }

/-- The temperature of a pickup: the mean of its last 8 status cells, in 0.0625 °C (R335). -/
def Dev.calTemp (d : Dev) (p : Nat) : Int :=
  let l := (d.calPk p).temps
  if l.isEmpty then 0 else divR l.sum l.length

/-- Linear interpolation of values between two points (R336). -/
def interpolate (t ta tb : Int) (va vb : List Int) : List Int :=
  List.zipWith (fun a b => a + divR ((b - a) * (t - ta)) (tb - ta)) va vb

/-- The value of a set at a temperature: none without a point, no extrapolation (R336). -/
def evalSet (t : Int) : List (Int × List Int) → Option (List Int)
  | [] => none
  | [p] => some p.2
  | a :: b :: r =>
    if t ≤ a.1 then some a.2
    else if t < b.1 then some (interpolate t a.1 b.1 a.2 b.2)
    else evalSet t (b :: r)

/-- The temperature of the last evaluation of a pickup, in OFF the present one (R336). -/
def Dev.evalTemp (d : Dev) (p : Nat) : Int := (d.calPk p).evalAt.getD (d.calTemp p)

/-- What a set gives as last evaluated (R336). A full run goes on with what it has found itself, which is committed at its end
(R343; DESIGN CHOICE, log entry 133). -/
def Dev.calNow (d : Dev) (p key : Nat) : Option (List Int) :=
  let fresh := match (d.calPk p).run with
    | some r => if r.full then (r.found.find? fun (e : Nat × List Int) => e.1 == key).map Prod.snd else none
    | none => none
  fresh.orElse fun _ => evalSet (d.evalTemp p) (d.calPoints key)

/-- The values of a quantity in a scope. -/
def Dev.calValue (d : Dev) (q p : Nat) (layer zone speed land : Nat := 0) : Option (List Int) :=
  d.calNow p (calKey q p layer zone speed land)

/-- The index of the point of a set that is nearest to a temperature. -/
def nearest (t : Int) (l : List (Int × List Int)) : Nat :=
  ((List.range l.length).foldl (fun (b : Nat × Nat) i =>
    let g := ((l.getD i (0, [])).1 - t).natAbs
    if g < b.2 then (i, g) else b) (0, ((l.getD 0 (0, [])).1 - t).natAbs)).1

/-- Inserts a point in order of temperature. -/
def insPoint (p : Int × List Int) : List (Int × List Int) → List (Int × List Int)
  | [] => [p]
  | h :: t => if p.1 ≤ h.1 then p :: h :: t else h :: insPoint p t

/-- A set with a committed measurement (R337). -/
def commitPoint (tsep : Nat) (t : Int) (v : List Int) (l : List (Int × List Int)) : List (Int × List Int) :=
  let i := nearest t l
  let near := !l.isEmpty && decide (((l.getD i (0, [])).1 - t).natAbs ≤ tsep)
  insPoint (t, v) (if near || decide (4 ≤ l.length) then l.take i ++ l.drop (i + 1) else l)

/-- Sets a CAL_ERR bit, with the further values of Table 16-4a: the quantity, what of the scope applies to
it, the index of a field or tap and three values. -/
def Dev.calErr (d : Dev) (f : Fld) (p : Nat) (key : Option Nat) (idx : Nat := 0xFFFF) (vals : List Int := []) : Dev :=
  let val (i : Nat) : Nat := match vals[i]? with | some v => toBits 32 v | none => 0xFFFFFFFF
  let more := match key with
    | none => [(9, 8, 2 ^ 64 - 1), (17, 4, 2 ^ 32 - 1), (21, 4, 2 ^ 32 - 1), (25, 4, 2 ^ 32 - 1)]
    | some k =>
      let q := k / 2 / 2 / 24 / 4 / 16
      let on (l : List Nat) (v : Nat) : Nat := if l.contains q then v else 0xFF
      [(9, 2, q), (11, 1, if q = qOffsets || q = qSled then 0xFF else k / 96 % 4),
       (12, 1, on [qFocOfs, qSeed, qJoint, qStrategy, qScale] (k / 4 % 24)),
       (13, 1, on [qJumpAmp, qSeed, qJoint] (k / 2 % 2)),
       (14, 1, on [qGains, qTrkOfs, qSeed, qJoint, qStrategy] (k % 2)),
       (15, 2, idx), (17, 4, val 0), (21, 4, val 1), (25, 4, val 2)]
  d.setErr f 0 0 p 0 more

/-- A calibration run is asked for (Table 9-3); a full one comes before the first command on the pickup. -/
def Dev.calAsk (d : Dev) (p : Nat) (full : Bool) : Dev :=
  let x := d.calPk p
  let x := if full then { x with due := 2, ready := false } else { x with due := max x.due 1 }
  (d.setCalPk p x).wr Reg.CAL_PK_TEMP_PENDING 1 p

/-- Whether focus may be acquired: the pickup is calibrated, or its full run has passed the focus sweep (Table 9-4). -/
def Dev.calSwept (d : Dev) (p : Nat) : Bool :=
  let x := d.calPk p
  x.ready || (match x.run with
    | some r => r.full && r.steps.all fun s => !([qOffsets, qFocus, qSphere, qKfe].contains (s.headD 0))
    | none => false)

/-- Keeps a set, and stores it in the Saltern's calibration area (R338); with the flash not available the store fails. -/
def Dev.calKeep (d : Dev) (p key : Nat) (l : List (Int × List Int)) : Dev :=
  let d := { d with cal := { d.cal with sets := mset d.cal.sets [] key l } }
  let d := d.wr Reg.CAL_STATUS_VALID (d.rd Reg.CAL_STATUS_VALID ||| 2 ^ p)
  if d.rd Reg.SAL_STATUS_STATE = 2 then
    { d with flash := { d.flash with cal := mset d.flash.cal [] key l } }
  else d.calErr Reg.CAL_ERR_STORE_FAIL p (some key)

/-- Commits a measurement to a set (R337). -/
def Dev.calStore (d : Dev) (p key : Nat) (t : Int) (v : List Int) : Dev :=
  d.calKeep p key (commitPoint (d.rd Reg.CAL_CFG_TSEP) t v (d.calPoints key))

end Sys2Proof.Machine
end

