-- ==== Sys2Proof/Machine/FrameCode.lean ====
section
/-! DEFINITION. From information word to channel bits and back: scrambling, the LDPC code, sequence
replacement, the frame's fixed fields and the write-strategy symbols (R209 to R219). -/

namespace Sys2Proof.Machine

open Sys2Proof

/-! ## Bits -/

/-- The bits of bytes in byte order, least significant bit first. -/
def bitsOf (l : List Byte) : List Bool := l.flatMap fun b => (List.range 8).map b.getLsbD

/-- The number that bits spell, least significant first. -/
def bitsNat : List Bool → Nat
  | [] => 0
  | b :: t => (if b then 1 else 0) + 2 * bitsNat t

/-- `n` bytes from bits. -/
def bytesOfBits : Nat → List Bool → List Byte
  | 0, _ => []
  | n + 1, l => BitVec.ofNat 8 (bitsNat (l.take 8)) :: bytesOfBits n (l.drop 8)

/-- Lists of `n` elements each. -/
def blocksOf {α : Type} (n : Nat) : Nat → List α → List (List α)
  | 0, _ => []
  | k + 1, l => l.take n :: blocksOf n k (l.drop n)

/-! ## Scrambling (R211) -/

/-- The sequence of x^23 + x^18 + 1 from a state, added to bits. -/
def scrambleFrom : BitVec 23 → List Bool → List Bool
  | _, [] => []
  | s, b :: t =>
    let o := s.getLsbD 22 ^^ s.getLsbD 17
    (b ^^ o) :: scrambleFrom ((s <<< 1) ||| (if o then 1#23 else 0#23)) t

/-- An information word scrambled, or unscrambled, with the seed of its packed frame address. -/
def scrambleWord (addr : Nat) (w : List Byte) : List Byte :=
  w.take 8 ++ bytesOfBits 4112 (scrambleFrom (BitVec.ofNat 23 (addr % 2 ^ 22 + 2 ^ 22)) (bitsOf (w.drop 8)))

/-! ## The LDPC code (R179, R212, R213) -/

/-- Base rows of an information column. -/
def infoRows (c : Nat) : List Nat :=
  [c % 13, (c + 4) % 13, (c + 9) % 13] ++ if c = 102 then [0, 3, 8, 12] else []

/-- The shift of an information entry. -/
def infoShift (b c : Nat) : Nat := (29 * (b + 1) * (c + 7) + 13 * b * b) % 320

/-- The entries of a base row: its columns and shifts. -/
def rowEntries (b : Nat) : List (Nat × Nat) :=
  (((List.range 103).filter fun c => (infoRows c).contains b).map fun c => (c, infoShift b c))
    ++ (if b = 0 then [] else [(102 + b, 0)]) ++ [(103 + b, 0)]

/-- Bitwise sum of blocks. -/
def xorBits (a b : List Bool) : List Bool := List.zipWith (· ^^ ·) a b

/-- A block of 320 zeros. -/
def zeroBits : List Bool := List.replicate 320 false

/-- The sum of some entries of a base row over a codeword's blocks. -/
def rowSum (blocks : List (List Bool)) (l : List (Nat × Nat)) : List Bool :=
  l.foldl (fun a e => xorBits a ((blocks.getD e.1 zeroBits).rotateLeft e.2)) zeroBits

/-- The parity blocks `p_b` from the row sums (a staircase). -/
def staircase : List Bool → List (List Bool) → List (List Bool)
  | _, [] => []
  | p, s :: t => let q := xorBits s p; q :: staircase q t

/-- The codeword of 32,960 information bits. -/
def ldpcEncode (info : List Bool) : List Bool :=
  let blocks := blocksOf 320 103 info
  let sums := (List.range 13).map fun b => rowSum blocks ((rowEntries b).filter fun e => decide (e.1 < 103))
  info ++ (staircase zeroBits sums).flatten

/-- The syndrome weight of a codeword's 4,160 checks. -/
def syndromeWeight (cw : List Bool) : Nat :=
  let blocks := blocksOf 320 116 cw
  ((List.range 13).map fun b => (rowSum blocks (rowEntries b)).count true).sum

/-! ## Sequence replacement (R215) -/

/-- The runs of a bit string: start, length and value. -/
def runsFrom : Nat → List Bool → List (Nat × Nat × Bool)
  | _, [] => []
  | n, b :: t =>
    match runsFrom (n + 1) t with
    | (s, l, v) :: r => if v = b then (n, l + 1, v) :: r else (n, 1, b) :: (s, l, v) :: r
    | [] => [(n, 1, b)]

/-- How many records a run of length `l` takes. -/
def recordsOf (l : Nat) : Nat := if l ≤ 13 then 0 else (l - 13 + 12) / 13

/-- The 13 bits of a replacement record after the bit `prev`. -/
def recordBits (prev more b : Bool) (p : Nat) : List Bool :=
  [!prev, more, b, p.testBit 7, p.testBit 6, p.testBit 5, p.testBit 4, !p.testBit 4,
   p.testBit 3, p.testBit 2, p.testBit 1, p.testBit 0, !p.testBit 0]

/-- The records of a block after the bit `prev`. -/
def recordsBits : Bool → List (Nat × Bool) → List Bool
  | _, [] => []
  | prev, (p, b) :: t => recordBits prev (!t.isEmpty) b p ++ recordsBits (!p.testBit 0) t

/-- The 257 bits of a 256-bit block after the bit `prev`. -/
def mapBlock (prev : Bool) (v : List Bool) : List Bool :=
  let runs := runsFrom 0 v
  let recs := runs.flatMap fun r => (List.range (recordsOf r.2.1)).map fun i => (r.1 + 13 * i, r.2.2)
  if recs.isEmpty then (!prev) :: v
  else
    let red := runs.flatMap fun r => List.replicate (r.2.1 - 13 * recordsOf r.2.1) r.2.2
    prev :: (recordsBits prev recs ++ red)

/-- The coded field of a codeword: 145 blocks, after the last bit of the sync mark. -/
def mapBlocks : Bool → List (List Bool) → List Bool
  | _, [] => []
  | prev, v :: t => let o := mapBlock prev v; o ++ mapBlocks (o.getLastD prev) t

/-- The records at the head of a block in replacement form, from position `n` on: the position that each gives and where
its value bit lies, and the position after the last. -/
def readRecords : Nat → Nat → List Bool → List (Nat × Nat) × Nat
  | 0, n, _ => ([], n)
  | k + 1, n, l =>
    let g (i : Nat) : Nat := if l.getD i false then 1 else 0
    let p := g 3 * 128 + g 4 * 64 + g 5 * 32 + g 6 * 16 + g 8 * 8 + g 9 * 4 + g 10 * 2 + g 11
    if l.getD 1 false then
      let (r, m) := readRecords k (n + 13) (l.drop 13)
      ((p, n + 2) :: r, m)
    else ([(p, n + 2)], n + 13)

/-- Where each of the 256 bits of a block comes from: its position in the coded block. The 13 bits that a record
replaces all come from its value bit. -/
def unmapBlock (prev : Bool) (o : List Bool) : List Nat :=
  if o.headD false != prev then (List.range 256).map (· + 1)
  else
    let (recs, n) := readRecords 19 1 (o.drop 1)
    let red := (List.range (257 - n)).map (n + ·)
    (recs.foldl (fun (l : List Nat) r => l.take r.1 ++ List.replicate 13 r.2 ++ l.drop r.1) red).take 256

/-- The sources of the codeword bits in the coded field, block after block from position `base`. -/
def unmapBlocks : Bool → Nat → List (List Bool) → List Nat
  | _, _, [] => []
  | prev, base, o :: t => ((unmapBlock prev o).map (base + ·)) ++ unmapBlocks (o.getLastD prev) (base + 257) t

/-! ## The frame (Tables 2-3, 6-1; R217) -/

/-- Fixed fields. -/
def preamble : List Bool := (List.replicate 24 [false, false, true, true]).flatten
def syncMark : List Bool :=
  (List.replicate 10 true) ++ (List.replicate 10 false)
    ++ [true, false, true, true, false, false, true, false, true, true, false, true]
def postamble (last : Bool) : List Bool :=
  (List.range 31).map fun i => if i % 4 < 2 then !last else last

/-- The information word of a role: its header, then 4,112 bytes. -/
def infoWord (header : Nat) (body : List Byte) : List Byte := leBytes 8 header ++ body

/-- The parity bodies of a cluster from its 16 data bodies (R210): roles 16 and 17. -/
def outerParity (data : List (List Byte)) : List Byte × List Byte :=
  let z := List.replicate 4112 (0 : Byte)
  let s0 := data.foldl gfAdd z
  let s1 := (List.range 16).foldl (fun a i => gfAdd a (gfScale (gfAlpha i) (data.getD i z))) z
  let v17 := gfScale (gfInv (gfAlpha 16 ^^^ gfAlpha 17)) (gfAdd s1 (gfScale (gfAlpha 16) s0))
  (gfAdd s0 v17, v17)

/-- The codeword of a frame's information word. -/
def frameCodeword (addr : Nat) (w : List Byte) : List Bool := ldpcEncode (bitsOf (scrambleWord addr w))

/-- The channel bits of a codeword: preamble, sync mark, coded field and postamble. -/
def frameChannel (cw : List Bool) : List Bool :=
  let coded := mapBlocks true (blocksOf 256 145 cw)
  preamble ++ syncMark ++ coded ++ postamble (coded.getLastD false)

/-- The digital sum of channel bits. -/
def digitalSum (l : List Bool) : Int := (l.map fun b => if b then (1 : Int) else -1).sum

/-- The polarity choice (R214): the channel bits that bring the running digital sum nearer zero. The sums compared are those
after the whole frame, postamble included (DESIGN CHOICE, assumption 86). -/
def frameBitsOf (dcEn : Bool) (rds : Int) (cw : List Bool) : List Bool :=
  let a := frameChannel cw
  if !dcEn then a
  else
    let b := frameChannel (cw.map (!·))
    if (rds + digitalSum b).natAbs < (rds + digitalSum a).natAbs then b else a

/-- The information word that a converged codeword spells: complemented when its reserved header bits are
all 1 (R57, R214), and unscrambled. -/
def decodedWord (addr : Nat) (cw : List Bool) : List Byte :=
  let w := bytesOfBits 4120 cw
  let w := if w.getD 6 0 = 0xFF && w.getD 7 0 = 0xFF then w.map (~~~ ·) else w
  scrambleWord addr w

/-! ## Write-strategy symbols (R218 to R220, Table 6-2) -/

/-- A channel bit of a period, or a wedge period, which counts as a long space. -/
inductive WBit where
  | bit (b : Bool)
  | wedge
deriving DecidableEq, Repr

/-- A mark bit. -/
def WBit.mark : WBit → Bool
  | .bit b => b
  | .wedge => false

/-- The length of the run of marks, or of spaces, at the head of a list, up to 5. -/
def runLen (m : Bool) : List WBit → Nat
  | [] => 0
  | b :: t => if b.mark = m then (match b with | .wedge => 5 | .bit _ => min 5 (1 + runLen m t)) else 0

/-- The symbol of a period (Table 6-2): `past` is the history, newest first; `rest` begins with the period. -/
def symbolOf (lead trail : Nat → Nat → Nat) (cool : Nat) (past rest : List WBit) : Nat :=
  match rest with
  | [] => 0
  | b :: _ =>
    if b.mark then
      if (past.headD (.bit false)).mark then 8
      else
        let m := runLen false past
        12 + lead (min 4 (runLen true rest)) (if m = 0 then 4 else min 4 m)
    else
      let gap := (past.takeWhile fun x => !x.mark).length
      if past.any WBit.mark then
        if gap = 0 then 4 + trail (min 4 (runLen true past)) 0
        else if gap = 1 then cool
        else 0
      else 0

/-- The symbols of consecutive periods. -/
def symbolsOf (lead trail : Nat → Nat → Nat) (cool : Nat) : List WBit → List WBit → List Nat
  | _, [] => []
  | past, b :: t =>
    symbolOf lead trail cool past (b :: t) :: symbolsOf lead trail cool ((b :: past).take 40) t

end Sys2Proof.Machine
end

