-- ==== Sys2Proof/Machine/Detect.lean ====
section
/-! DEFINITION. The arithmetic of detection: the trellis of the partial-response target, the soft-output
detector, the soft 256/257 mapping, layered LDPC decoding and the shift screen (R148, R175 to R182, R191).

An LLR is positive for bit 0, in LSBs of 0.25, between −31 and 31. -/

namespace Sys2Proof.Machine

open Sys2Proof

/-- Full scale of an LLR (R178). -/
def llrMax : Int := 31

/-- An LLR saturated (R178). -/
def satLlr (v : Int) : Int := clampI (-llrMax) llrMax v

/-! ## The trellis (R148, R154, R175) -/

/-- Bits of trellis state: 3 when T4 is 0, else 4. -/
def stateBits (t : List Int) : Nat := if t.getD 4 0 = 0 then 3 else 4

/-- `s = 2a − 1` of a bit of a number. -/
def sgn (n i : Nat) : Int := if n.testBit i then 1 else -1

/-- Twice the target level of the branch that enters bit `a` from a state whose bit 0 is the newest bit. -/
def branchLevel (t : List Int) (st : Nat) (a : Nat) : Int :=
  let n := st * 2 + a
  (List.range 5).foldl (fun s i => s + t.getD i 0 * sgn n i) 0

/-- One trellis step: the sample in 1/32,768 LSB, whether it is erased, and the a priori LLR. -/
structure TStep where
  y : Int
  erased : Bool
  ap : Int
deriving DecidableEq, Repr

/-- The cost of a branch, scaled so that a difference of `sig · 2^30` is one LLR LSB; `sig` is σ² in 1/256
(R176, R177). -/
def branchCost (t : List Int) (sig : Int) (x : TStep) (st a : Nat) : Int :=
  let e := 2 * x.y - branchLevel t st a * 32768
  (if x.erased then 0 else 128 * e * e) + (if a = 1 then max x.ap 0 else max (-x.ap) 0) * sig * 2 ^ 30

/-- The least of some numbers. -/
def minI : List Int → Int
  | [] => 0
  | [a] => a
  | a :: t => min a (minI t)

/-- State costs one step forward. -/
def fwdStep (t : List Int) (sig : Int) (al : List Int) (x : TStep) : List Int :=
  let n := al.length
  (List.range n).map fun j =>
    let p := j / 2
    let q := j / 2 + n / 2
    min (al.getD p 0 + branchCost t sig x p (j % 2)) (al.getD q 0 + branchCost t sig x q (j % 2))

/-- State costs one step backward. -/
def bwdStep (t : List Int) (sig : Int) (be : List Int) (x : TStep) : List Int :=
  let n := be.length
  (List.range n).map fun s =>
    min (branchCost t sig x s 0 + be.getD (s * 2 % n) 0) (branchCost t sig x s 1 + be.getD ((s * 2 + 1) % n) 0)

/-- The LLR of a step between its forward and backward costs. It includes the a priori input of the step: in a joint job
what goes to the LDPC decoder still holds the extrinsic values fed in, as R178 does not ask that they be taken off (the
model's choice, assumption 71). -/
def stepLlr (t : List Int) (sig : Int) (al be : List Int) (x : TStep) : Int :=
  let n := al.length
  let best (a : Nat) : Int :=
    minI ((List.range n).map fun s => al.getD s 0 + branchCost t sig x s a + be.getD ((s * 2 + a) % n) 0)
  satLlr (divR (best 1 - best 0) (sig * 2 ^ 30))

/-- Max-log-MAP detection over some steps: the backward costs at their start, and their LLRs (R175). -/
def mapDetect (t : List Int) (sig : Int) : List Int → List TStep → List Int × List Int
  | al, [] => (al.map fun _ => 0, [])
  | al, x :: r =>
    let q := mapDetect t sig (fwdStep t sig al x) r
    (bwdStep t sig q.1 x, stepLlr t sig al q.1 x :: q.2)

/-- The LLRs of a frame's 37,424 positions. -/
def detect (t : List Int) (sig : Int) (l : List TStep) : List Int :=
  (mapDetect t sig (List.replicate (2 ^ stateBits t) 0) l).2

/-- The a priori LLR of a known bit (R177). -/
def knownLlr (b : Bool) : Int := if b then -llrMax else llrMax

/-- The hard decision of an LLR. -/
def hardBit (v : Int) : Bool := v < 0

/-! ## The soft 256/257 mapping (R177) -/

/-- The sources of the codeword bits, from the hard decisions of the coded field. -/
def codeSources (coded : List Int) : List Nat := unmapBlocks true 0 (blocksOf 257 145 (coded.map hardBit))

/-- The LLRs of the codeword bits from the LLRs of the coded field: a replaced bit has that of the value bit of its
record, so that no soft information is lost. -/
def codeLlrs (src : List Nat) (coded : Array Int) : List Int := src.map fun i => coded.getD i 0

/-- What the codeword bits add to each of the 37,265 positions of the coded field: the sum over the bits that a
position gives. -/
def fieldSums (src : List Nat) (cw : List Int) : List Int :=
  ((List.zip src cw).foldl (fun (a : Array Int) q => a.setIfInBounds q.1 (a.getD q.1 0 + q.2))
    (List.replicate 37265 (0 : Int)).toArray).toList

/-! ## Layered LDPC decoding (R179, R180) -/

/-- The decoder's state: the LLRs of the 116 blocks, and the check messages of each layer's entries. -/
structure Ldpc where
  l : List (List Int)
  r : List (List (List Int))
deriving DecidableEq, Repr

/-- 320 zeros. -/
def zeroLlrs : List Int := List.replicate 320 0

/-- The decoder at its start. -/
def Ldpc.start (cw : List Int) : Ldpc :=
  { l := blocksOf 320 116 cw,
    r := (List.range 13).map fun b => (rowEntries b).map fun _ => zeroLlrs }

/-- The messages of one check to its bits: the sign product and the least magnitude of the others, less the
offset. -/
def checkOut (off : Int) (q : List Int) : List Int :=
  (List.range q.length).map fun i =>
    let others := dropAt' q i
    let neg := (others.filter hardBit).length % 2 == 1
    let m := max 0 (minI (others.map fun v => (v.natAbs : Int)) - off)
    if neg then -m else m
where
  /-- A list without its element `i`. -/
  dropAt' (l : List Int) (i : Nat) : List Int := l.take i ++ l.drop (i + 1)

/-- The columns of a matrix. -/
def transposeN (n : Nat) (m : List (List Int)) : List (List Int) :=
  (List.range n).map fun i => m.map fun r => r.getD i 0

/-- One layer of an iteration. -/
def Ldpc.layer (off : Int) (x : Ldpc) (b : Nat) : Ldpc :=
  let es := rowEntries b
  let rs := x.r.getD b []
  let qs := (List.range es.length).map fun i =>
    let e := es.getD i (0, 0)
    List.zipWith (fun a c => satLlr (a - c)) ((x.l.getD e.1 zeroLlrs).rotateLeft e.2) (rs.getD i zeroLlrs)
  let outs := transposeN es.length ((transposeN 320 qs).map (checkOut off))
  { l := (List.range es.length).foldl (fun l i =>
      let e := es.getD i (0, 0)
      let v := List.zipWith (fun a c => satLlr (a + c)) (qs.getD i zeroLlrs) (outs.getD i zeroLlrs)
      l.set e.1 (v.rotateRight e.2)) x.l,
    r := x.r.set b outs }

/-- One layered iteration: layers 0 to 12 in order. -/
def Ldpc.iterate (off : Int) (x : Ldpc) : Ldpc := (List.range 13).foldl (fun x b => x.layer off b) x

/-- The hard decisions. -/
def Ldpc.hard (x : Ldpc) : List Bool := x.l.flatten.map hardBit

/-! ## Shifts (R191, R192) -/

/-- A list of LLRs read `s` positions later; what lies outside is erased. -/
def shiftLlrs (s : Int) (l : List Int) : List Int :=
  if s < 0 then List.replicate s.natAbs 0 ++ l.take (l.length - s.natAbs)
  else l.drop s.natAbs ++ List.replicate s.natAbs 0

/-- The coded field of a frame's LLRs. -/
def codedField (l : List Int) : List Int := (l.drop 128).take 37265

/-- The syndrome weight of the hard decisions of a frame's LLRs. -/
def weightOf (l : List Int) : Nat :=
  let c := codedField l
  syndromeWeight ((codeLlrs (codeSources c) c.toArray).map hardBit)

/-- The trial shifts, in order. -/
def trialShifts : List Int := [1, -1, 2, -2, 3, -3, 4, -4]

/-- The trial shift of least weight, the earlier on a tie, with its weight. -/
def bestShift (l : List Int) : Int × Nat :=
  (trialShifts.map fun s => (s, weightOf (shiftLlrs s l))).foldl
    (fun b q => if q.2 < b.2 then q else b) (0, 4161)

/-! ## Decision records (R181) -/

/-- The decision of a frame bit in halves: ±2 when it is reliable, else ±1. -/
def decisionOf (thr : Nat) (v : Int) : Int :=
  (if thr ≤ v.natAbs then 2 else 1) * (if hardBit v then 1 else -1)

/-- The decisions of known bits. -/
def knownDecisions (l : List Bool) : List Int := l.map fun b => if b then 2 else -2

end Sys2Proof.Machine
end

