-- ==== Sys2Proof/Machine/Optics.lean ====
section
/-! DEFINITION. Radii and delays of the rows of spots, and the arctangent (R42, R66 to R70, R223, R242). -/

namespace Sys2Proof.Machine

open Sys2Proof

/-! ## Delays along a track -/

/-- π · 10^29, truncated. A quotient that it enters is irrational, so that its two neighbours are known. -/
def piFix : Nat := 314159265358979323846264338327

/-- `ρ(T) = 24.000 mm + T · 0.12 µm`, in nm (R42). -/
def trackRadius (track : Nat) : Nat := 24000000 + 120 * track

/-- The spindle speeds in rpm: 0 is 10,000, 1 is 7,500. -/
def rpmOf (speed : Nat) : Nat := if speed = 0 then 10000 else 7500

/-- The delay of `dist` nm along a track in samples of 3.125 GS/s, `dist / (2π ρ N / 60)`, as a quotient. -/
def delayQuot (dist : Int) (track speed : Nat) : Int × Int :=
  (dist * (60 * 3125000000 * 10 ^ 29 : Nat), (2 * piFix * trackRadius track * rpmOf speed : Nat))

/-- The time in which a point `dist` nm further along a track reaches a place, `dist / (2π ρ N / 60)`, in 1/65536
sample of 3.125 GS/s (R67, R223). -/
def delayOf (dist track speed : Nat) : Int :=
  let q := delayQuot dist track speed
  divR (q.1 * 65536) q.2

/-- The delay τ between adjacent read spots, d = 1.955 µm apart (R66, R67). -/
def spotDelay (track speed : Nat) : Int := delayOf 1955 track speed

/-- How far write spot `w` lies behind read spot 16 along the track, in nm: read spot 4w by `4w − 16` spacings of d, and
the write spot 40.0 µm ahead of it (R69, R70, R223). -/
def writeOffset (w : Nat) : Int := ((4 * w : Nat) - 16 : Int) * 1955 - 40000

/-! ## The arctangent -/

/-- `arctan (y / x)` for `0 ≤ y < x`, in radians · 2^80, by Euler's series: each term is the last times
`2(n+1)/(2n+3) · y²/(x² + y²)`. -/
def arctanSeries (x y : Nat) : Nat :=
  let s := x * x + y * y
  let go := (List.range 90).foldl (fun (q : Nat × Nat) n =>
    (q.1 + q.2, q.2 * (2 * (n + 1)) * (y * y) / ((2 * n + 3) * s))) (0, 2 ^ 100 * x * y / s)
  go.1 / 2 ^ 20

/-- The angle of a vector in the first octant in 1/65536 turn: exact on the axis and the diagonal, else one of its
two neighbours (assumption 3). -/
def octant (x y : Nat) : Int :=
  if y = 0 then 0
  else if y = x then 8192
  else divR (arctanSeries x y * 10 ^ 29 : Nat) (2 * piFix * 2 ^ 64 : Nat)

/-- `atan2(y, x)` in 1/65536 turn, in (−1/2, 1/2] turn; the zero vector has no angle and takes an open value (R242). -/
def arctan2 (y x : Int) : Int :=
  let a := x.natAbs
  let b := y.natAbs
  if a = 0 && b = 0 then clampI (-32767) 32768 Config.angleOfZero
  else
    let q := if b ≤ a then octant a b else 16384 - octant b a
    let h := if x < 0 then 32768 - q else q
    if y < 0 then -h else h

/-! ## Sine, cosine and square root -/

/-- `sin (2π k / 65536)` in 1/2^100 for `0 < k < 16384`, by its power series. -/
def sineSeries (k : Nat) : Int :=
  let x : Int := (k * 2 * piFix * 2 ^ 100 / (65536 * 10 ^ 29) : Nat)
  ((List.range 30).foldl (fun (q : Int × Int) n =>
    (q.1 + q.2, -(q.2 * x * x / (2 ^ 200 * ((2 * n + 2) * (2 * n + 3) : Nat))))) (0, x)).1

/-- The sine of an angle of the first quadrant in 1/65536 turn, scaled by 2^15: exact at its ends, else one of its two
neighbours (assumption 3). -/
def sineQuarter (k : Nat) : Int :=
  if k = 0 then 0 else if k = 16384 then 32768 else divR (sineSeries k * 32768) (2 ^ 100)

/-- The sine of an angle in 1/65536 turn, scaled by 2^15. -/
def sine (a : Int) : Int :=
  let u := (a % 65536).toNat
  if u ≤ 16384 then sineQuarter u
  else if u ≤ 32768 then sineQuarter (32768 - u)
  else if u ≤ 49152 then -sineQuarter (u - 32768)
  else -sineQuarter (65536 - u)

/-- The cosine of an angle in 1/65536 turn, scaled by 2^15. -/
def cosine (a : Int) : Int := sine (a + 16384)

/-- The integer part of a square root, bit by bit from bit `k − 1` down. -/
def rootBits (n : Nat) : Nat → Nat → Nat
  | 0, r => r
  | k + 1, r => rootBits n k (if (r + 2 ^ k) * (r + 2 ^ k) ≤ n then r + 2 ^ k else r)

/-- A square root: exact for a square, else one of its two neighbours (assumption 3). -/
def squareRoot (n : Nat) : Nat :=
  let r := rootBits n (n.log2 / 2 + 1) 0
  if r * r = n then r else if Config.rootUp n then r + 1 else r

end Sys2Proof.Machine
end

