-- ==== Sys2Proof/Machine/Spot.lean ====
section
/-! DEFINITION. The spot channel of the read channel (R123 to R172): conditioning, defects, timing,
equaliser, crosstalk canceller, tentative detector, frame placement and stalls.

Samples and filter outputs are in 1/256 LSB. -/

namespace Sys2Proof.Machine

open Sys2Proof

/-! ## Parameters and accessors -/

/-- ω_n of each zone at 10,000 rpm, in 1/10,000 (Table 4-4). -/
def omegaTable : List Nat :=
  [49847, 46971, 44816, 42478, 40372, 38465, 36729, 35398, 33924, 32567, 31314, 30342]
    ++ [29251, 28237, 27290, 26405, 25710, 24923, 24183, 23486, 22827, 22306, 21711, 21147]

/-- ω_n of a zone and a speed as a fraction: 7,500 rpm gives 4/3 of it (R141, R146). -/
def omegaN (zone speed : Nat) : Nat × Nat :=
  let w := omegaTable.getD zone 0
  if speed = 0 then (w, 10000) else (4 * w, 30000)

/-- ω_n in 2^-28. -/
def omegaFix (zone speed : Nat) : Int := divR ((omegaN zone speed).1 * 2 ^ 28) (omegaN zone speed).2

/-- A value times a power of two with a signed exponent. -/
def scaleBy (v : Int) (e : Int) : Int := if 0 ≤ e then v * 2 ^ e.toNat else divR v (2 ^ (-e).toNat)

/-- The registers that govern every spot channel, with the zone and the speed of one. -/
structure SCfg where
  kb : Int
  kg : Int
  ka : Int
  ke : Int
  kx : Int
  kp : Int
  ki : Int
  kpAcq : Int
  kiAcq : Int
  clamp : Int
  drop : Int
  shift : Int
  clip : Nat
  wd : Nat
  target : List Int
  zone : Nat
  speed : Nat
deriving DecidableEq, Repr

/-- The target taps (R148). -/
def Dev.target (d : Dev) : List Int :=
  [d.rd Reg.RCH_TARGET_LO_T0, d.rd Reg.RCH_TARGET_LO_T1, d.rd Reg.RCH_TARGET_LO_T2, d.rd Reg.RCH_TARGET_LO_T3,
   d.rd Reg.RCH_TARGET_HI_T4].map fun v => ofBits 8 v

/-- The spot channel of a global spot. -/
def Dev.spot (d : Dev) (g : Nat) : Spot := mget d.spots Spot.reset g

/-- RCH_SP_STATE.MODE: 0 IDLE, 1 ACQUIRE, 2 TRACK, 3 DEFECT, 4 STALLED. -/
def Dev.mode (d : Dev) (g : Nat) : Nat := d.rd Reg.RCH_SP_STATE_MODE g

/-- Sets the state of a spot channel. -/
def Dev.setMode (d : Dev) (g m : Nat) : Dev := d.wr Reg.RCH_SP_STATE_MODE m g

/-- The interpolator's phase: `round(64 · frac(μ)) mod 64` (R139). -/
def Spot.phase (x : Spot) : Nat := ((x.mu % 2 ^ 28 + 2 ^ 21) / 2 ^ 22 % 64).toNat

/-- Sets a spot channel, and shows its loop state in its registers (Table 4-16). -/
def Dev.setSpot (d : Dev) (g : Nat) (x : Spot) : Dev :=
  let d := { d with spots := mset d.spots Spot.reset g x }
  let d := ((d.wrS Reg.RCH_SP_BASE_B (x.bA / 2 ^ 16) g).wr Reg.RCH_SP_GAIN_G (x.gA / 2 ^ 16).toNat g).wrS
    Reg.RCH_SP_GAIN_BETA (x.betaA / 2 ^ 16) g
  let d := ((d.wr Reg.RCH_SP_RATIO_OMEGA x.om.toNat g).wr Reg.RCH_SP_POS_POS x.pos.toNat g).wr
    Reg.RCH_SP_POS_PHASE x.phase g
  let d := d.each 8 fun d i =>
    let d := d.wrS Reg.RCH_SP_EQ_EVEN (x.eqA.getD (2 * i) 0 / 2 ^ 16) g i
    if i < 7 then d.wrS Reg.RCH_SP_EQ_ODD (x.eqA.getD (2 * i + 1) 0 / 2 ^ 16) g i else d
  d.each 10 fun d i =>
    (d.wrS Reg.RCH_SP_XT_EVEN (x.xtA.getD (2 * i) 0 / 2 ^ 16) g i).wrS Reg.RCH_SP_XT_ODD
      (x.xtA.getD (2 * i + 1) 0 / 2 ^ 16) g i

/-- The exponents and thresholds in force for a channel (R136, R168, R169). -/
def Dev.scfg (d : Dev) (g : Nat) : SCfg :=
  let x := d.spot g
  let zone := d.rd Reg.RCH_SP_STATE_ZONE g
  let speed := x.home.getD 4 0
  let acq : Int := if d.mode g = 1 || d.flag Reg.RCH_SP_STATE_TRAINING g then d.rd Reg.RCH_CFG_ACQ_BOOST else 0
  let res : Int := if x.boost = 0 then 0 else d.rd Reg.RCH_CFG_RESUME_BOOST
  let train : Int := if d.flag Reg.RCH_SP_STATE_TRAINING g then d.rd Reg.RCH_CFG_ACQ_BOOST else 0
  let (n, m) := omegaN zone speed
  let late := x.acq != 0 || d.flag Reg.RCH_SP_STATE_TIMING_UNCERTAIN g
  { kb := d.rd Reg.RCH_CFG_KB - acq - res, kg := d.rd Reg.RCH_CFG_KG - acq - res,
    ka := d.rd Reg.RCH_CFG_KA - acq - res, ke := d.rd Reg.RCH_CFG_KE - train, kx := d.rd Reg.RCH_CFG_KX - train,
    kp := (if late then d.rd Reg.RCH_TIMING_KP_ACQ else d.rd Reg.RCH_TIMING_KP) - acq,
    ki := (if late then d.rd Reg.RCH_TIMING_KI_ACQ else d.rd Reg.RCH_TIMING_KI) - acq,
    kpAcq := d.rd Reg.RCH_TIMING_KP_ACQ, kiAcq := d.rd Reg.RCH_TIMING_KI_ACQ,
    clamp := d.rd Reg.RCH_TIMING_CLAMP, drop := d.rd Reg.RCH_DEFECT_DROP_THR,
    shift := d.rd Reg.RCH_DEFECT_SHIFT_THR, clip := d.rd Reg.RCH_DEFECT_CLIP_CNT,
    wd := (d.rd Reg.RCH_DEFECT_DROP_BITS * n + m - 1) / m, target := d.target, zone := zone, speed := speed }

/-- Sets an error bit whose record is made at most once per revolution by `who`: a global spot, or 1,000 +
pickup (R170, R208). -/
def Dev.errOnce (d : Dev) (f : Fld) (who inst addr : Nat) : Dev :=
  let key := f.key 0 0
  if d.yar.made.contains (key, who) then d.wr f 1
  else
    let d := d.setErr f 0 0 inst addr
    { d with yar := { d.yar with made := d.yar.made ++ [(key, who)] } }

/-- A new revolution of a pickup: its bits may make records again. -/
def Dev.newRevolution (d : Dev) (p : Nat) : Dev :=
  { d with yar := { d.yar with made := d.yar.made.filter fun q => !(q.2 == 1000 + p || q.2 == 3000 + p || q.2 / 32 == p) } }

/-- Stream positions of a whole track (R52). -/
def trackLen (zone : Nat) : Int := framesOf zone * frameBits

/-- The frame-on-track and the offset in the frame of a stream position. -/
def frameAt (zone : Nat) (k : Int) : Nat × Nat :=
  let q := (k % trackLen zone).toNat
  (q / frameBits, q % frameBits)

/-- The packed address of the frame under a spot. -/
def Dev.frameUnder (d : Dev) (g : Nat) : Nat :=
  let x := d.spot g
  let h (i : Nat) : Nat := x.home.getD i 0
  packFrame (h 0) (h 1) (h 2) (h 3) (frameAt (d.rd Reg.RCH_SP_STATE_ZONE g) x.pos).1

/-- An RCH_ERR bit of a spot. -/
def Dev.rchErr (d : Dev) (f : Fld) (g : Nat) : Dev := d.errOnce f g g (d.frameUnder g)

/-! ## Conditioning and its loops (R129, R130) -/

/-- The corrections of a sample: u, a and z, in 1/256. -/
def Spot.condition (x : Spot) (xc : Int) : Int × Int × Int :=
  let u := xc * 256 - x.bA / 2 ^ 16
  let a := divR (x.gA / 2 ^ 16 * u) 4096
  (u, a, a - divR (x.betaA / 2 ^ 16 * (divR (a * a) 32768 - x.qA / 2 ^ 16)) 16384)

/-- The decay of a peak envelope by 1/256 of its value. -/
def peakDecay (p : Int) : Int := p - divR p 256

/-- The peak envelopes after one cycle: both decay, and the second half of an 8-sample block brings the block's largest
and smallest z, in 1/256. -/
def Spot.peaks (x : Spot) (hi lo : Int) : Spot :=
  match x.half with
  | none => { x with pPos := peakDecay x.pPos, pNeg := peakDecay x.pNeg, half := some (hi, lo) }
  | some (h, l) => { x with
      pPos := max (peakDecay x.pPos) (max h hi * 256), pNeg := min (peakDecay x.pNeg) (min l lo * 256), half := none }

/-- The loops after the data samples of one cycle that the detector judged clean. -/
def Spot.consume (c : SCfg) (x : Spot) (l : List (Int × Int × Int)) : Spot :=
  if l.isEmpty then x
  else
    let us := l.map (·.1)
    let as := l.map (·.2.1)
    let zs := l.map (·.2.2)
    let y := x.peaks (zs.foldl max (zs.headD 0)) (zs.foldl min (zs.headD 0))
    let sq := (as.map fun a => divR (a * a) 32768 - x.qA / 2 ^ 16).sum
    { y with
      bA := x.bA + scaleBy us.sum (16 - c.kb),
      gA := clampI 0 (2 ^ 32 - 1) (x.gA + scaleBy ((as.map fun a => 48 * 256 - (a.natAbs : Int)).sum) (20 - c.kg)),
      betaA := clampI (-(2 ^ 31)) (2 ^ 31 - 1) (x.betaA + scaleBy (y.pPos + y.pNeg) (14 - c.ka)),
      qA := x.qA + scaleBy sq (16 - c.kb), boost := if x.boost = 0 then 0 else max 1 (x.boost - l.length) }

/-! ## Defects (R131 to R138) -/

/-- The largest less the smallest of some samples. -/
def spread (l : List Int) : Int := l.foldl max (l.headD 0) - l.foldl min (l.headD 0)

/-- Whether a criterion of Table 4-3 other than a lost cell or a discontinuity holds for the newest sample. -/
def Spot.criterion (c : SCfg) (x : Spot) : Bool :=
  let w := x.xs.take c.wd
  let e := x.xs.take 8
  (decide (w.length = c.wd) && decide (spread w * 256 * 64 < c.drop * x.env))
    || (decide (e.length = 8) && decide (c.shift * x.env < ((e.sum * 32 - x.bA / 2 ^ 16).natAbs : Int) * 64))
    || (decide (e.length = 8) && decide (c.clip ≤ e.countP fun v => v == -128 || v == 127))

/-- The envelope after a sample (R132). -/
def Spot.envelope (x : Spot) (xc : Int) : Spot :=
  let hi := if x.envN = 0 then xc else max x.envHi xc
  let lo := if x.envN = 0 then xc else min x.envLo xc
  if x.envN = 255 then
    { x with env := x.env + divR ((hi - lo) * 256 - x.env) 16, envHi := hi, envLo := lo, envN := 0 }
  else { x with envHi := hi, envLo := lo, envN := x.envN + 1 }

/-- A sample of a cell: its recentred value, whether its cell is lost, whether it is the first of a cell with the
discontinuity bit, and whether it lies in a wedge gap. -/
structure SIn where
  xc : Int
  lost : Bool
  jump : Bool
  gap : Bool
deriving DecidableEq, Repr

/-- Takes a data sample into the windows and judges it: the channel, and whether a criterion holds. A sample of a wedge
gap is not judged, and the windows restart after it (R131, R142). -/
def Spot.judge (c : SCfg) (x : Spot) (s : SIn) : Spot × Bool :=
  if s.gap then ({ x with xs := [] }, false)
  else
    let x := { x with xs := (s.xc :: x.xs).take 256 }
    (x, s.lost || s.jump || x.criterion c)

/-- The envelope follows the data samples in ACQUIRE, and in TRACK those before a trigger (R132). That it follows
through a freeze in ACQUIRE is the model's choice: from E = 0 no loop could start otherwise (assumption 68). -/
def Spot.follow (live : Bool) (x : Spot) (s : SIn) : Spot := if live && !s.gap then x.envelope s.xc else x

/-- The position count that the interpolator reaches at an input sample. -/
def Spot.posAt (x : Spot) (n : Int) : Int := x.pos + (n * 2 ^ 28 - x.mu) / x.om

/-- The tag of the samples of a cycle. -/
def SIn.tag (bad : Bool) (s : SIn) : STag := if bad then .erased else if s.gap then .gap else .data

/-- The index of the newest conditioned sample. -/
def Spot.newest (x : Spot) : Int := match x.next with | some (_, n) => (n : Int) - 1 | none => 0

/-- A cycle of four samples in normal running, the first with index `n`: the channel, and whether it met a criterion.
A trigger erases from the sample 16 before it on (R134). `left` samples of the cell follow. -/
def Spot.group (c : SCfg) (acq : Bool) (x : Spot) (n : Int) (l : List SIn) (left : Nat) : Spot × Bool :=
  let vals := l.map fun s => x.condition s.xc
  let q := (List.range l.length).foldl (fun (q : Spot × Option Nat) i =>
    let s := l.getD i ⟨0, false, false, true⟩
    let r := q.1.judge c s
    let hit := match q.2 with | some j => some j | none => if r.2 then some i else none
    (r.1.follow (acq || hit.isNone) s, hit)) (x, none)
  let x := q.1
  let fresh (bad : Bool) : List (Int × STag) := (List.zipWith (fun v s => (v.2.2, s.tag bad)) vals l).reverse
  match q.2 with
  | some i =>
    let old := (x.zs.take (16 - i)).map (fun z => (z.1, STag.erased)) ++ x.zs.drop (16 - i)
    ({ x with zs := (fresh true ++ old).take 2048, lag := [], hang := 0, defLen := 0, disc := l.any (·.jump),
              defs := x.defs ++ [x.posAt (n + i)],
              keep := if l.any (fun s => s.lost || s.jump) then left else 0 }, true)
  | none =>
    let lag := x.lag ++ [((List.zip vals l).filter fun q => !q.2.gap).map (·.1)]
    let x := { x with zs := (fresh false ++ x.zs).take 2048 }
    if 4 < lag.length then (({ x with lag := lag.drop 1 }).consume c (lag.headD []), false)
    else ({ x with lag := lag }, false)

/-- A cycle of four samples while the channel is frozen: every sample is erased, and the data samples without a
criterion are counted. -/
def Spot.frozenGroup (c : SCfg) (acq : Bool) (x : Spot) (l : List SIn) (left : Nat) : Spot :=
  let vals := l.map fun s => x.condition s.xc
  let x := l.foldl (fun x s =>
    let r := x.judge c s
    let y := r.1.follow acq s
    if r.2 then { y with hang := 0 } else if s.gap then y else { y with hang := y.hang + 1 }) x
  let keep := if l.any (fun s => s.lost || s.jump) then left else x.keep - 4
  { x with zs := ((List.zipWith (fun v s => (v.2.2, SIn.tag true s)) vals l).reverse ++ x.zs).take 2048, keep := keep,
           disc := x.disc || l.any (·.jump) }

/-! ## Resampling and equaliser (R139 to R142, R147) -/

/-- A conditioned sample by its index. -/
def Spot.zAt (x : Spot) (i : Int) : Int × Bool :=
  if x.newest < i then (0, true)
  else match x.zs[(x.newest - i).toNat]? with | some z => (z.1, z.2 == .erased) | none => (0, true)

/-- Input samples, in 2^-28, that a wedge lasts: `W_z · ω` with `W_z = S_z / 39`. -/
def wedgeSpan (zone : Nat) (om : Int) : Int := divR (om * trackLen zone) (512 * 39)

/-- Where the next wedge gap begins, in input samples · 2^28: there the count reaches `m · S_z` (R142). -/
def Spot.gapStart (zone : Nat) (x : Spot) : Int := x.mu + divR ((x.seg * trackLen zone - x.pos * 512) * x.om) 512

/-- Whether an input sample lies in a wedge gap: in the last one passed, or in the next one of a channel that keeps
position (R123, R142). -/
def Spot.inGap (zone : Nat) (track : Bool) (x : Spot) (n : Int) : Bool :=
  decide (n < x.gapEnd)
    || (track && decide (x.gapStart zone ≤ n * 2 ^ 28) && decide (n * 2 ^ 28 < x.gapStart zone + wedgeSpan zone x.om))

/-- The equaliser's output for the position seven before the newest interpolator output. -/
def Spot.equalise (x : Spot) : Int :=
  divR ((List.range 15).foldl (fun s i => s + x.eqA.getD i 0 / 2 ^ 16 * (x.vs.getD i (0, true)).1) 0) (2 ^ 14)

/-- One baud sample: interpolation, equaliser and alignment FIFO. -/
def Spot.baud (x : Spot) (bad : Bool) : Spot :=
  let i0 := x.mu / 2 ^ 28
  let ins := (List.range 8).map fun (i : Nat) => x.zAt (i0 - 3 + (i : Int))
  let v := divR ((List.range 8).foldl (fun s i => s + Config.interpCoef x.phase i * (ins.getD i (0, true)).1) 0) (2 ^ 14)
  let er := bad || ins.any (·.2)
  let x := { x with vs := ((v, er) :: x.vs).take 512, pos := x.pos + 1, mu := x.mu + x.om,
                    acq := if 1 < x.acq then x.acq - 1 else x.acq, defLen := x.defLen + 1 }
  if x.vs.length < 15 then x
  else { x with fifo := ((x.pos - 8, x.equalise, (x.vs.getD 7 (0, true)).2) :: x.fifo).take 256 }

/-- Produces the baud samples that the input allows, up to the next wedge when the channel keeps position. -/
def Spot.produce (zone : Nat) (track bad : Bool) : Nat → Spot → Spot
  | 0, x => x
  | n + 1, x =>
    if x.gap then x
    else if track && decide (x.seg * trackLen zone ≤ x.pos * 512) then { x with gap := true }
    else if x.newest < x.mu / 2 ^ 28 + 20 then x
    else (x.baud bad).produce zone track bad n

/-! ## Canceller, tentative detector and adaptation (R149 to R154) -/

/-- An entry of a FIFO by its position. -/
def atPos (l : List (Int × Int × Bool)) (k : Int) : Option (Int × Bool) :=
  (l.find? fun q => q.1 == k).map (·.2)

/-- The neighbours of spot `j`: −2, −1, +1 and +2, as tap group and global spot. -/
def neighbours (g : Nat) : List (Nat × Nat) :=
  let j := g % 32
  ((if 2 ≤ j then [(0, g - 2)] else []) ++ (if 1 ≤ j then [(1, g - 1)] else [])
    ++ (if j + 1 < 32 then [(2, g + 1)] else []) ++ (if j + 2 < 32 then [(3, g + 2)] else []))

/-- A channel that runs: not IDLE. -/
def Dev.spotRuns (d : Dev) (g : Nat) : Bool := d.mode g != 0

/-- A spot whose FIFO serves its neighbours: it has its position and runs, or has just ended its revolution of a band
read, so that the last entries are still to be consumed (R150). -/
def Dev.spotServes (d : Dev) (g : Nat) : Bool :=
  let m := d.mode g
  m == 2 || m == 3 || m == 4 || (m == 0 && (d.spot g).fin != 0)

/-- Whether position `a` of a track lies at or after position `b`, less than half a track ahead. -/
def atOrAfter (zone : Nat) (a b : Int) : Bool := decide ((a - b) % trackLen zone * 2 < trackLen zone)

/-- Whether a spot has written position `k` (R151). -/
def Dev.written (d : Dev) (g : Nat) (k : Int) : Bool :=
  d.spotServes g && match (d.spot g).fifo with
    | q :: _ => atOrAfter (d.rd Reg.RCH_SP_STATE_ZONE g) q.1 k
    | [] => false

/-- Whether the canceller may process a position: the later neighbours that run have written it plus 2. A channel
in ACQUIRE has no position yet and waits for none. -/
def Dev.cancelReady (d : Dev) (g : Nat) (k : Int) : Bool :=
  d.mode g == 1 || (neighbours g).all fun n => n.2 < g || !d.spotRuns n.2 || d.written n.2 (k + 2)

/-- The neighbour samples at a position, by tap: each tap group with the neighbour's samples k − 2 to k + 2. A neighbour
that has not written k + 2 is absent (R151, R152); positions wrap at the index wedge. -/
def Dev.neighbourhood (d : Dev) (g : Nat) (k : Int) : List (Nat × Int) :=
  if d.mode g = 1 then []
  else
    let len := trackLen (d.rd Reg.RCH_SP_STATE_ZONE g)
    (neighbours g).flatMap fun n =>
      if !d.spotServes n.2 || (decide (g < n.2) && !d.written n.2 (k + 2)) then []
      else
        let f := (d.spot n.2).fifo
        (List.range 5).filterMap fun (m : Nat) =>
          match f.find? fun q => (q.1 - (k + (m : Int) - 2)) % len == 0 with
          | some (_, y, false) => some (5 * n.1 + m, y)
          | _ => none

/-- The level `r` of a position from the tentative decisions, doubled. -/
def Spot.level (t : List Int) (x : Spot) (k : Int) : Option Int :=
  let s (i : Nat) : Option Int :=
    (x.dec.find? fun q => q.1 == k - (i : Int)).map fun q => if q.2.1 then 1 else -1
  (List.range 5).foldl (fun o i =>
    match o with
    | none => none
    | some a => if t.getD i 0 = 0 then some a else (s i).map fun v => a + t.getD i 0 * v) (some 0)

/-- The known bit at a position: of the preamble, the sync mark or the postamble, which follows from the decision
of the last coded bit (R168, R217). -/
def Spot.knownBit (zone : Nat) (x : Spot) (k : Int) : Option Bool :=
  let off := (frameAt zone k).2
  if off < 128 then (preamble ++ syncMark)[off]?
  else if off < 37393 then none
  else
    match x.dec.find? fun q => q.1 == k - (off - 37392 : Nat) with
    | some q => (postamble q.2.1)[off - 37393]?
    | none => none

/-- The level of a position whose last bits are all known, doubled (R168). At the first three postamble positions the level spans
coded bits, which no pattern gives: R168 names no level there, and the model skips the adaptation (DESIGN CHOICE, assumption 140). -/
def Spot.knownLevel (zone : Nat) (t : List Int) (x : Spot) (k : Int) : Option Int :=
  (List.range 5).foldl (fun o i =>
    match o with
    | none => none
    | some a =>
      if t.getD i 0 = 0 then some a
      else (x.knownBit zone (k - (i : Int))).map fun b => a + t.getD i 0 * (if b then 1 else -1)) (some 0)

/-- The timing loop at a position (R140). -/
def Spot.timing (c : SCfg) (x : Spot) (y0 y1 r0 r1 : Int) : Spot :=
  let e := y0 * r1 - y1 * r0
  let w := omegaFix c.zone c.speed
  let lim := divR (w * c.clamp) 1024
  { x with om := clampI (w - lim) (w + lim) (x.om + scaleBy e (7 - c.ki)), mu := x.mu + scaleBy e (7 - c.kp) }

/-- The equaliser at a position: least mean squares on every tap but the centre, with the moment restored, in accumulators of
32 bits, which hold at their limits (R149). `vs` are the interpolator outputs from position k + 7 down. -/
def Spot.adaptEq (c : SCfg) (x : Spot) (e2 : Int) (vs : List Int) : Spot :=
  let l := (List.range 15).map fun i =>
    if i = 7 then x.eqA.getD 7 0 else x.eqA.getD i 0 - scaleBy (e2 * vs.getD i 0) (14 - c.ke)
  let m := (List.range 7).foldl (fun s (i : Nat) => s + ((i : Int) + 1) * (l.getD (8 + i) 0 - l.getD (6 - i) 0)) 0
  let fix := divR (x.eqM - m) 56
  { x with eqA := (List.range 15).map fun i =>
      if i = 7 then l.getD 7 0
      else clampI (-(2 ^ 31)) (2 ^ 31 - 1) (if i < 7 then l.getD i 0 - fix else l.getD i 0 + fix) }

/-- The canceller taps at a position (R152). -/
def Spot.adaptXt (c : SCfg) (x : Spot) (e2 : Int) (ns : List (Nat × Int)) : Spot :=
  { x with xtA := ns.foldl (fun l q =>
      l.set q.1 (clampI (-(2 ^ 31)) (2 ^ 31 - 1) (l.getD q.1 0 + scaleBy (e2 * q.2) (14 - c.kx)))) x.xtA }

/-- One step of the tentative detector: path costs and survivors (R154). -/
def viterbi (t : List Int) (paths : List (Int × List Bool)) (y : Int) (erased : Bool) : List (Int × List Bool) :=
  let n := paths.length
  let cost (st a : Nat) : Int :=
    if erased then 0 else (2 * y - 256 * branchLevel t st a) * (2 * y - 256 * branchLevel t st a)
  (List.range n).map fun j =>
    let p := paths.getD (j / 2) (0, [])
    let q := paths.getD (j / 2 + n / 2) (0, [])
    let cp := p.1 + cost (j / 2) (j % 2)
    let cq := q.1 + cost (j / 2 + n / 2) (j % 2)
    if cp ≤ cq then (cp, ((j % 2 == 1) :: p.2).take 32) else (cq, ((j % 2 == 1) :: q.2).take 32)

/-- The survivor of the best state. -/
def bestPath : List (Int × List Bool) → List Bool
  | [] => []
  | p :: t => (t.foldl (fun b q => if q.1 < b.1 then q else b) p).2

/-- A canceller output by its position. -/
def y2At (l : List Y2) (k : Int) : Option Y2 := l.find? fun q => q.k == k

/-- The loops of a channel at a position decided 24 bits late (R140, R149, R152). While TIMING_UNCERTAIN is set every
sample is erased (R137), and R134 and R140 bar the timing loop on erased samples: ω is held until the wedge check and no
update runs, though R137 also names acquisition gains (the model's choice, assumption 69). -/
def Dev.adapt (d : Dev) (g : Nat) (k : Int) : Dev :=
  let x := d.spot g
  let c := d.scfg g
  let m := d.mode g
  if (m != 1 && m != 2) || x.frz then d
  else
    match y2At x.y2s k, y2At x.y2s (k - 1), x.level c.target k, x.level c.target (k - 1) with
    | some a, some b, some r1, some r0 =>
      if a.er then d
      else
        let x1 := x.timing c b.y a.y r0 r1
        let r := if d.flag Reg.RCH_SP_STATE_TRAINING g then x.knownLevel c.zone c.target k else some r1
        let x2 := match r with
          | some r =>
            if m != 2 then x1
            else
              let e2 := a.y - 128 * r
              let vs := (List.range 15).map fun i => (x1.vs.getD ((x1.pos - 1 - (k + 7)).toNat + i) (0, true)).1
              (x1.adaptEq c e2 vs).adaptXt c e2 a.ns
          | none => x1
        d.setSpot g x2
    | _, _, _, _ => d

/-! ## Frame placement (R155 to R163) -/

/-- Renumbers every position that a channel holds by `s`, frames apart. -/
def Spot.renumber (x : Spot) (s : Int) : Spot :=
  { x with pos := x.pos + s, canc := x.canc + s, good := x.good + s, slipTo := x.slipTo.map (· + s),
           defs := x.defs.map (· + s), fifo := x.fifo.map fun q => (q.1 + s, q.2),
           y2s := x.y2s.map fun q => { q with k := q.k + s }, dec := x.dec.map fun q => (q.1 + s, q.2) }

/-- The extent of a frame moved by `s` positions of the count: its slot goes on as it is. -/
def SFrame.shifted (f : SFrame) (s : Int) : SFrame := { f with start := f.start + s }

/-- A sample written to byte `i` of a slot; bytes passed over are erased, and what lies outside the extent is not
held. -/
def SFrame.put (f : SFrame) (i : Int) (v : Int × Bool) : SFrame :=
  let n := i.toNat
  if i < 0 || 37448 ≤ n then f
  else if n < f.samples.length then { f with samples := f.samples.set n v }
  else { f with samples := f.samples ++ List.replicate (n - f.samples.length) (0, true) ++ [v] }

/-- A slot whose contents move by `s` bytes toward its start (R158, R159). -/
def SFrame.slid (f : SFrame) (s : Int) : SFrame :=
  { f with samples := if 0 ≤ s then f.samples.drop s.toNat else List.replicate s.natAbs (0, true) ++ f.samples }

/-- The sync candidates of a window: positions, in order, with their Hamming distances (R156). -/
def Spot.candidates (x : Spot) (p w : Int) (thr : Nat) : List (Int × Nat) :=
  (List.range (2 * w.toNat + 1)).filterMap fun (i : Nat) =>
    let c := p - w + (i : Int)
    let bits := (List.range 32).map fun (j : Nat) => x.dec.find? fun q => q.1 == c + (j : Int)
    if bits.all fun b => match b with | some q => !q.2.2 | none => false then
      let dist := ((List.zip bits syncMark).filter fun q =>
        match q.1 with | some b => b.2.1 != q.2 | none => true).length
      if dist ≤ thr then some (c, dist) else none
    else none

/-- The candidate chosen (R157): the nearest to the prediction, then the least distance, then the earlier. -/
def pickSync (p : Int) : List (Int × Nat) → Option (Int × Nat)
  | [] => none
  | q :: t => some (t.foldl (fun b q =>
      let n := (q.1 - p).natAbs
      let m := (b.1 - p).natAbs
      if n < m || (n = m && q.2 < b.2) then q else b) q)

/-- The sync decision of a frame, once, when the newest decision closes its window (R156, R157, R160). A correction
of the count takes the frames in progress with it, so that it moves only the frames that follow. -/
def Dev.syncDecide (d : Dev) (g : Nat) (k : Int) : Dev :=
  let x := d.spot g
  let w : Nat := if x.first then d.rd Reg.RCH_SYNC_SYNC_WIN_ACQ else d.rd Reg.RCH_SYNC_SYNC_WIN
  match x.wr.find? fun s => !s.synced && decide (s.pf + (127 + w : Nat) ≤ k) with
  | none => d
  | some s =>
    let p := s.pf + 96
    let cs := x.candidates p w (d.rd Reg.RCH_SYNC_SYNC_THR)
    let put (x : Spot) (s' : SFrame) : Spot :=
      { x with wr := x.wr.map (fun q => if q.addr = s.addr then { s' with synced := true } else q), first := false }
    match pickSync p cs with
    | none => (d.setSpot g (put x { s with inferred := true, dist := 31 })).bump Reg.RCH_SP_CNT_SYNC_INFERRED 1 g
    | some (c, dist) =>
      let delta := c - p
      let near := cs.any fun q => decide (q.1 < c)
      let y := put x { s with delta := delta, dist := dist, near := near }
      let y :=
        if delta.natAbs ≤ d.rd Reg.RCH_SYNC_ACCEPT then
          { y.renumber (-delta) with wr := y.wr.map fun q => q.shifted (-delta) }
        else y
      let d := d.setSpot g y
      if near then d.bump Reg.RCH_SP_CNT_SYNC_NEAR 1 g else d

/-- Preamble training ends after TRAIN_FRAMES frames (R168). -/
def Dev.trainFrame (d : Dev) (g : Nat) : Dev :=
  let x := d.spot g
  if x.train = 0 then d
  else
    let d := { d with spots := mset d.spots Spot.reset g { x with train := x.train - 1 } }
    if x.train = 1 then d.wr Reg.RCH_SP_STATE_TRAINING 0 g else d

/-- The canceller reaches a frame boundary: a frame of training has passed, and a correction that the Yarrow pool has
reported moves the count (R158, R159). The frame that begins here keeps its place in the new count. -/
def Dev.frameEdge (d : Dev) (g : Nat) : Dev :=
  let x := d.spot g
  let m := d.mode g
  let n := x.canc / (frameBits : Int)
  if (m != 2 && m != 3) || decide (n ≤ x.edge) then d
  else
    let c := x.corr
    let y := { x with edge := n, begun := true, corr := 0 }
    let y :=
      if c = 0 then y
      else { y.renumber (-c) with
        wr := y.wr.map fun s => if s.pf = n * frameBits then s.slid c else s.shifted (-c) }
    let d := d.setSpot g y
    if x.begun then d.trainFrame g else d

/-- A value as a stored 8-bit sample. -/
def stored (v : Int) : Int := clampI (-128) 127 (divR v 256)

/-- The disc under a pickup, and the address of a frame of a spot's track. -/
def Dev.discUnder (d : Dev) (g : Nat) : Nat := match mget d.set.discs none (spindleOf (g / 32)) with | some x => x.id | none => 0
def Spot.addrOf (x : Spot) (f : Nat) : Nat :=
  let h (i : Nat) : Nat := x.home.getD i 0
  packFrame (h 0) (h 1) (h 2) (h 3) f

/-- Frames that were not read are reported to the Crystalliser by address, for a later revolution (R163, R165). -/
def Dev.missFrames (d : Dev) (g : Nat) (l : List Nat) : Dev :=
  let x := d.spot g
  let new := (l.map fun f => (d.discUnder g, x.addrOf f)).filter fun q => !d.set.missed.contains q
  { d with set := { d.set with missed := d.set.missed ++ new } }

/-- The frames missed between a stall and frame-on-track `f`. -/
def Dev.missUntil (d : Dev) (g f : Nat) : Dev :=
  let x := d.spot g
  match x.missFrom with
  | none => d
  | some m =>
    let fz := framesOf (d.rd Reg.RCH_SP_STATE_ZONE g)
    let l := (List.range ((f + fz - m % fz) % fz)).map fun i => (m + i) % fz
    let d := d.missFrames g l
    d.setSpot g { d.spot g with missFrom := none }

/-- Whether the revolution of a spot in a band read has come back to where it began, at frame-on-track `f` (R53). -/
def Spot.lapped (x : Spot) (fz f : Nat) : Bool :=
  match x.firstSlot with
  | none => false
  | some f0 =>
    f == f0 || match x.missFrom with
      | some m => decide ((f + fz - f0) % fz < (m + fz - f0) % fz)
      | none => false

/-- A slot that the Yarrow pool still holds; it comes back by the deadline of its frame (R162). -/
def Spot.slotAway (x : Spot) (slot cyc : Nat) : Bool := x.away.any fun q => q.1 == slot && decide (cyc < q.2)

/-- The frame-on-track at which the revolution of a spot begins, as its frame `f` begins: in a band read the first frame that it
takes (R53); in a burn the start slot of the revolution being written, unless `f` still lies before it (R225, R623). -/
def Dev.revBegin (d : Dev) (g f : Nat) : Option Nat :=
  let x := d.spot g
  let fz := framesOf (d.rd Reg.RCH_SP_STATE_ZONE g)
  match x.firstSlot, x.draw with
  | some f0, _ => some f0
  | none, false => if (mget d.reads none (g / 32)).isSome then some f else none
  | none, true =>
    match mget d.burns none (g / 32) with
    | some b =>
      match b.slot0 with
      | some s => if b.on && decide (2 * ((f + fz - (s + b.rev) % fz) % fz) < fz) then some ((s + b.rev) % fz) else none
      | none => none
    | none => none

/-- The extent of frame `n` of the count begins (R155, R161): it takes the next slot; in a band read or a burn the revolution
of the spot ends where it began. A slot that is still away costs the frame (R163). -/
def Dev.openFrame (d : Dev) (g : Nat) (n : Int) : Dev :=
  let x := { d.spot g with opened := n }
  let zone := d.rd Reg.RCH_SP_STATE_ZONE g
  let f := (n % (framesOf zone : Int)).toNat
  let start := d.revBegin g f
  if !x.writes || x.fin != 0 || (x.draw && start.isNone) then d.setSpot g x
  else if start.isSome && x.lapped (framesOf zone) f then
    let d := (d.setSpot g x).missUntil g (x.firstSlot.getD f)
    d.setSpot g { d.spot g with fin := if d.mode g = 2 then 1 else 2 }
  else
    let x := { x with firstSlot := start }
    let d := (d.setSpot g x).missUntil g f
    let x := d.spot g
    let addr := x.addrOf f
    if x.slotAway x.nextSlot d.clk.cyc then
      ((d.setSpot g { x with nextSlot := 1 - x.nextSlot }).errOnce Reg.RCH_ERR_SLOT_BUSY g g addr).missFrames g [f]
    else
      let s : SFrame :=
        { addr := addr, spot := g, zone := zone, speed := x.home.getD 4 0, inferred := false, near := false, slip := false,
          uncertain := false, training := false, land := d.flag Reg.RCH_SP_STATE_LAND g, draw := x.draw, delta := 0,
          dist := 0, time := 0, cyc := 0, defects := 0, slot := x.nextSlot, pf := n * frameBits,
          start := n * frameBits - 12, synced := false, samples := [] }
      d.setSpot g { x with wr := x.wr ++ [s], nextSlot := 1 - x.nextSlot }

/-- A frame after the sample of position `k`. -/
def SFrame.take (s : SFrame) (k : Int) (v : Int × Bool) (unc training slip : Bool) (trig : Nat) : SFrame :=
  { s.put (k - s.start) v with
    uncertain := s.uncertain || unc, slip := s.slip || slip, defects := s.defects + trig,
    training := s.training || (training && decide (s.pf ≤ k) && decide (k < s.pf + frameBits)) }

/-- A frame complete at the present time: its slot is filled to its end. -/
def SFrame.closed (s : SFrame) (time : BitVec 64) (cyc : Nat) : SFrame :=
  { s with time := time, cyc := cyc,
           samples := (s.samples ++ List.replicate (37448 - s.samples.length) (0, true)).take 37448 }

/-- The erasure map of a slot: bit i is set when any of positions 8i to 8i + 7 of the extent is erased (Table 4-5). -/
def SFrame.map (s : SFrame) : List Bool := (blocksOf 8 4681 s.samples).map fun b => b.any (·.2)

/-- The extent as the slot gives it to the Yarrow pool: its samples, erased as the map says (Table 4-5). -/
def SFrame.mapped (s : SFrame) : List (Int × Bool) :=
  (blocksOf 8 4681 s.samples).flatMap fun b => b.map fun q => (q.1, b.any (·.2))

/-- The frame descriptor of a slot (Table 4-6). -/
def SFrame.descriptor (s : SFrame) : List Byte :=
  let bit (b : Bool) (i : Nat) : Nat := if b then 2 ^ i else 0
  leBytes 4 s.addr
    ++ leBytes 4 (bit s.inferred 0 + bit s.near 1 + bit s.slip 2 + bit s.uncertain 3 + bit s.training 4 + bit s.land 5
      + bit s.draw 6 + s.speed % 2 * 2 ^ 7 + s.zone % 32 * 2 ^ 8 + (s.delta % 256).toNat * 2 ^ 16 + s.dist % 32 * 2 ^ 24)
    ++ leBytes 8 s.time.toNat ++ leBytes 2 (s.samples.countP (·.2)) ++ leBytes 2 s.defects ++ leBytes 2 (s.spot % 512)
    ++ List.replicate 42 0

/-- The bytes of a slot from `at_` on that Table 4-5 gives: the samples, the descriptor and the erasure map. -/
def SFrame.bytesAt (s : SFrame) (at_ : Nat) : List Byte :=
  if at_ = 0 then s.samples.map fun q => BitVec.ofInt 8 q.1
  else if at_ = 37504 then s.descriptor
  else if at_ = 37568 then
    (blocksOf 8 586 s.map).map fun b => BitVec.ofNat 8 ((b.mapIdx fun i v => if v then 2 ^ i else 0).sum)
  else []

/-- A spot whose revolution of a band read is over, and whose last frame is complete, goes to IDLE (R53, R127). -/
def Dev.spotDone (d : Dev) (g : Nat) : Dev :=
  let x := d.spot g
  if x.fin != 0 && x.wr.isEmpty then (d.setSpot g { x with gap := false }).setMode g 0 else d

/-- A cancelled sample is written to the frames whose extent holds it (R155), `slip` for one that a slip has erased (R144); a
frame is complete with position P_f + 37,435 (R162). -/
def Dev.place (d : Dev) (g : Nat) (k y : Int) (er slip : Bool) : Dev :=
  let m := d.mode g
  if m != 2 && m != 3 then d
  else
    let n := (k + 12) / (frameBits : Int)
    let d := if (d.spot g).opened < n then d.openFrame g n else d
    let x := d.spot g
    let unc := d.flag Reg.RCH_SP_STATE_TIMING_UNCERTAIN g
    let training := d.flag Reg.RCH_SP_STATE_TRAINING g
    let trig := x.defs.countP (decide <| · ≤ k)
    let l := x.wr.map fun s => s.take k (stored y, er) unc training slip trig
    let ended (s : SFrame) : Bool := decide (s.pf + 37435 ≤ k)
    let full := (l.filter ended).map fun s => s.closed d.now d.clk.cyc
    let x := { x with
      wr := l.filter (fun s => !ended s), full := x.full ++ full, defs := x.defs.filter fun p => decide (k < p),
      placed := x.placed + 1, erasedN := x.erasedN + (if er then 1 else 0) }
    (d.setSpot g x).spotDone g

/-- The canceller, the detector and the placer at the canceller's next position. -/
def Dev.cancelOne (d : Dev) (g : Nat) : Dev :=
  let x := d.spot g
  let k := x.canc
  match atPos x.fifo k with
  | none => d.setSpot g { x with canc := k + 1 }
  | some (yj, bad) =>
    let slip := match x.slipTo with | some q => decide (k < q) | none => false
    let er := bad || slip
    let ns := d.neighbourhood g k
    let y := yj - divR (ns.foldl (fun s q => s + x.xtA.getD q.1 0 / 2 ^ 16 * q.2) 0) (2 ^ 14)
    let t := d.target
    let paths := if x.paths.isEmpty then List.replicate (2 ^ stateBits t) (0, []) else x.paths
    let paths := viterbi t paths y er
    let kd := k - 24
    let bit := (bestPath paths)[24]?
    let x := { x with canc := k + 1, y2s := (⟨k, y, er, ns⟩ :: x.y2s).take 64, paths := paths,
                      slipTo := if slip then x.slipTo else none }
    let x := match bit, y2At x.y2s kd with
      | some b, some q => { x with dec := ((kd, b, q.er) :: x.dec).take 512 }
      | _, _ => x
    let d := (d.setSpot g x).place g k y er slip
    match bit with
    | some _ => (d.adapt g kd).syncDecide g kd
    | none => d

/-- Runs a canceller as far as it goes; `force` lets it pass one position without its neighbours (R151). -/
def Dev.cancel (d : Dev) (g : Nat) (force : Bool := false) : Nat → Dev
  | 0 => d
  | n + 1 =>
    let d := d.frameEdge g
    match (d.spot g).fifo with
    | [] => d
    | q :: _ =>
      let k := (d.spot g).canc
      if q.1 < k + 2 then d
      else if force || d.cancelReady g k then (d.cancelOne g).cancel g false n
      else d

/-- After new samples of a spot, its own canceller and those that waited for it. -/
def Dev.cancelAround (d : Dev) (g : Nat) : Dev :=
  ([g] ++ (if 1 ≤ g % 32 then [g - 1] else []) ++ (if 2 ≤ g % 32 then [g - 2] else [])).foldl
    (fun d n => if d.spotRuns n then d.cancel n false 512 else d) d

/-! ## Cells -/

/-- The state after a trigger (R133): DEFECT from TRACK, counted; a freeze in ACQUIRE (R34). -/
def Dev.trigger (d : Dev) (g : Nat) : Dev :=
  if d.mode g = 2 then (d.setMode g 3).bump Reg.RCH_SP_CNT_DEF_DEFECTS 1 g
  else d.setSpot g { d.spot g with frz := true }

/-- One cycle of four samples of a running channel. A criterion freezes every loop of the channel in ACQUIRE as in TRACK
(R34, R133); a freeze that outlasts the anchor goes on as a defect. -/
def Dev.spotGroup (d : Dev) (g : Nat) (l : List SIn) (left : Nat) : Dev :=
  let x := d.spot g
  let c := d.scfg g
  let m := d.mode g
  let n := x.newest + 1
  let l := (List.range l.length).zipWith (fun (i : Nat) s => { s with gap := x.inGap c.zone (m == 2 || m == 3) (n + i) }) l
  let x := match x.next with | some (s, n) => { x with next := some (s, n + l.length) } | none => x
  if m = 3 || x.frz then
    let d := d.setSpot g { x.frozenGroup c (m == 1) l left with frz := m == 1 }
    if m = 2 then d.trigger g else d
  else
    let r := x.group c (m == 1) n l left
    if r.2 then (d.setSpot g r.1).trigger g else d.setSpot g r.1

/-- A cell of a running channel, cycle by cycle. -/
def Dev.spotGroups (d : Dev) (g : Nat) : List (List SIn) → Dev
  | [] => d
  | l :: t =>
    let d := d.spotGroup g l (4 * t.length)
    let bad := d.mode g == 3 || d.flag Reg.RCH_SP_STATE_TIMING_UNCERTAIN g
    let x := (d.spot g).produce (d.rd Reg.RCH_SP_STATE_ZONE g) (d.mode g == 2 || d.mode g == 3) bad 8
    ((d.setSpot g x).cancelAround g).spotGroups g t

/-- The 64 samples of a cell as the channel takes them. -/
def cellIns (samples : List Byte) (lost jump : Bool) : List (List SIn) :=
  blocksOf 4 16 ((List.range 64).map fun i =>
    { xc := if lost then 0 else ((samples.getD i 0).toNat : Int) - 128, lost := lost, jump := jump && i == 0, gap := false })

/-! ## Seeds and states (R126 to R128, R165 to R169) -/

/-- The tap moment that R149 keeps. -/
def eqMoment (l : List Int) : Int :=
  (List.range 7).foldl (fun s (i : Nat) => s + ((i : Int) + 1) * (l.getD (8 + i) 0 - l.getD (6 - i) 0)) 0

/-- The joint coefficients and σ² of a spot from a set, or their start values: zero, and 64 (R176, R183). -/
def Dev.seedJoint (d : Dev) (g : Nat) (h : List Int) : Dev :=
  let d := d.each 10 fun d i =>
    (d.wrS Reg.YAR_SP_JX_EVEN (h.getD (2 * i) 0) g i).wrS Reg.YAR_SP_JX_ODD (h.getD (2 * i + 1) 0) g i
  { d with yar := { d.yar with sig := mset d.yar.sig 16384 g (max 1 (h.getD 20 16384)) } }

/-- The canceller taps of a spot from those of a set: the taps of a neighbour that does not exist stay at zero (R152). -/
def tapsOf (g : Nat) (l : List Int) : List Int :=
  l.mapIdx fun i v => if (neighbours g).any fun n => n.1 == i / 5 then v else 0

/-- Takes the seed of a scope from its calibration set (R166), or starts in preamble training (R168). A channel that
still has the seed of the scope keeps its adapted state (R167). -/
def Dev.seedSpot (d : Dev) (g side layer zone speed land : Nat) : Dev :=
  let p := g / 32
  let x := d.spot g
  let scope := [side, layer, zone, speed, land]
  if x.seed == some scope then d
  else
    let x := { x with bA := 0, om := omegaFix zone speed, mu := x.mu / 2 ^ 28 * 2 ^ 28, seed := some scope }
    match d.calValue qSeed p layer zone speed land with
    | some v =>
      let eq := ((v.drop 2).take 15).map (· * 2 ^ 16)
      let d := d.setSpot g { x with
        gA := v.getD 0 0 * 2 ^ 16, betaA := v.getD 1 0 * 2 ^ 16, eqA := eq, eqM := eqMoment eq,
        xtA := tapsOf g (((v.drop 17).take 20).map (· * 2 ^ 16)), train := 0 }
      let d := (d.wr Reg.RCH_SP_STATE_SEEDED 1 g).wr Reg.RCH_SP_STATE_TRAINING 0 g
      match d.calValue qJoint p layer zone speed land with
      | some h => d.seedJoint g h
      | none => d.seedJoint g []
    | none =>
      let eq := (List.range 15).map fun i => if i = 7 then (2 ^ 30 : Int) else 0
      let n := d.rd Reg.RCH_FLY_TRAIN_FRAMES
      let d := d.setSpot g { x with
        gA := 2 ^ 28, betaA := 0, eqA := eq, eqM := 0, xtA := List.replicate 20 0, train := n }
      let d := d.seedJoint g []
      let d := (d.wr Reg.RCH_SP_STATE_SEEDED 0 g).wr Reg.RCH_SP_STATE_TRAINING (if n = 0 then 0 else 1) g
      let key := Reg.RCH_ERR_SEED_MISSING.key 0 0
      let who := 10000 + (p * 4 + layer) * 24 + zone
      if d.yar.made.contains (key, who) then d.wr Reg.RCH_ERR_SEED_MISSING 1
      else
        let d := d.setErr Reg.RCH_ERR_SEED_MISSING 0 0 g (d.frameUnder g)
        { d with yar := { d.yar with made := d.yar.made ++ [(key, who)] } }

/-- The seed of a channel is void. -/
def Dev.seedVoid (d : Dev) (g : Nat) : Dev := { d with spots := mset d.spots Spot.reset g { d.spot g with seed := none } }

/-- The seeds of a pickup's channels are void: a zone, layer, speed or track type has changed (R166). -/
def Dev.seedsVoid (d : Dev) (p : Nat) : Dev := d.each 32 fun d j => d.seedVoid (32 * p + j)

/-! ## Decision records and joint jobs (R181, R184) -/

/-- YAR_STATUS follows the pool. -/
def Dev.showYar (d : Dev) : Dev :=
  ((d.wr Reg.YAR_STATUS_BUSY (d.yar.eng.countP (·.2.isSome))).wr Reg.YAR_STATUS_QUEUED
    (d.yar.jobs.countP fun j => !j.joint)).wr Reg.YAR_STATUS_JOINT_QUEUED
    (d.yar.jobs.countP fun j => j.joint && j.elig)

/-- Sets the waiting jobs. -/
def Dev.setJobs (d : Dev) (l : List Job) : Dev := ({ d with yar := { d.yar with jobs := l } }).showYar

/-- The address of the frame with the same number on a neighbouring track. -/
def beside (addr : Nat) (n : Int) : Nat := ((addr : Int) + n * 256).toNat

/-- The decision record of a neighbour for a frame. -/
def Dev.recordFor (d : Dev) (s : SFrame) (g : Nat) : Option DRec :=
  (d.yar.recs.find? fun r => r.1 == g && r.2.addr == beside s.addr ((g : Int) - s.spot)).map (·.2)

/-- A joint job that waits or runs may read a decision record of spot `g` (R181). -/
def Yar.needs (y : Yar) (g : Nat) (r : DRec) : Bool :=
  (y.jobs ++ y.eng.filterMap fun q => q.2.map (·.job)).any fun j => j.joint && (neighbours j.fr.spot).any (fun n => n.2 == g)
    && r.addr == beside j.fr.addr ((g : Int) - j.fr.spot)

/-- A channel that runs in the revolution under R128, though its own may be over already. -/
def Dev.spotReads (d : Dev) (g : Nat) : Bool := d.spotRuns g || (d.spot g).fin != 0

/-- A joint job becomes eligible once every running neighbour has written its record (R184). -/
def Dev.checkJoint (d : Dev) : Dev :=
  d.setJobs (d.yar.jobs.map fun j =>
    if j.joint && !j.elig && (neighbours j.fr.spot).all (fun n => !d.spotReads n.2 || (d.recordFor j.fr n.2).isSome) then
      { j with elig := true } else j)

/-! ## IDLE and ACQUIRE (R127, R165, R166) -/

/-- The frames of a revolution that a stall has missed, when the revolution ends before the channel is back in TRACK: those from
the first of them to where the revolution began, all of it if it began nowhere yet (R165). -/
def Dev.missRest (d : Dev) (g : Nat) : Dev :=
  let x := d.spot g
  match x.missFrom with
  | none => d
  | some m =>
    let fz := framesOf (d.rd Reg.RCH_SP_STATE_ZONE g)
    let n := (x.firstSlot.getD (m % fz) + fz - m % fz) % fz
    let d := d.missFrames g ((List.range (if n = 0 then fz else n)).map fun i => (m + i) % fz)
    d.setSpot g { d.spot g with missFrom := none }

/-- Puts a channel into IDLE; its state is retained (R127). A STALLED channel stays STALLED, since it leaves that state
only through ACQUIRE, although R127 also names IDLE for every channel of a pickup that leaves its track: it passes through
ACQUIRE to IDLE when its cells resume (assumption 70). -/
def Dev.spotIdle (d : Dev) (g : Nat) : Dev :=
  if d.mode g = 0 then d
  else
    let stalled := d.mode g == 4
    let d := d.missRest g
    let d := d.setSpot g { d.spot g with wr := [], gap := false, fin := 0, park := stalled }
    if stalled then d else (d.setMode g 0).checkJoint

/-- Puts a channel into ACQUIRE over a track (R127, R166). Its decision records are of no more use (R205). -/
def Dev.spotAcquire (d : Dev) (g side layer band t speed : Nat) (writes draw : Bool) : Dev :=
  let zone := zoneOf band
  let land := if isLand (32 * band + t) then 1 else 0
  let d := (d.wr Reg.RCH_SP_STATE_ZONE zone g).wr Reg.RCH_SP_STATE_LAND land g
  let d := { d with yar := { d.yar with recs := d.yar.recs.filter fun r => r.1 != g || d.yar.needs g r.2 } }
  let x := d.spot g
  let d := d.setSpot g { x with
    home := [side, layer, band, t, speed], writes := writes, draw := draw, wr := [], gap := false, gapEnd := 0, vs := [],
    fifo := [], y2s := [], dec := [], paths := [], zs := [], xs := [], mu := (x.newest + 4) * 2 ^ 28, canc := x.pos, lag := [],
    half := none, acq := 0, boost := 0, corr := 0, frz := false, defs := [], slipTo := none, fin := 0 }
  let d := d.seedSpot g side layer zone speed land
  let x := d.spot g
  (d.setSpot g { x with om := omegaFix zone speed }).setMode g 1

/-- A channel begins a new revolution of a band read or a burn; a STALLED channel begins it when its cells resume (R165). -/
def Dev.spotBegin (d : Dev) (g side layer band t speed : Nat) (writes draw : Bool) : Dev :=
  let d := d.missRest g
  let d :=
    if d.mode g = 4 then
      d.setSpot g { d.spot g with home := [side, layer, band, t, speed], writes := writes, draw := draw, park := false, fin := 0 }
    else d.spotAcquire g side layer band t speed writes draw
  d.setSpot g { d.spot g with firstSlot := none, placed := 0, erasedN := 0 }

/-- The spots of a pickup. -/
def spotsOf (p : Nat) : List Nat := (List.range 32).map (32 * p + ·)

/-- Puts every channel of a pickup into IDLE. -/
def Dev.spotsIdle (d : Dev) (p : Nat) : Dev := (spotsOf p).foldl (fun d g => d.spotIdle g) d

/-- The cells of a spot have stopped, with their lane or their port. -/
def Dev.cellsStop (d : Dev) (g : Nat) : Dev :=
  let x := d.spot g
  if x.next.isSome && x.hush = 0 then d.setSpot g { x with hush := 1 } else d

/-- The cells of a spot have stopped: its channel is STALLED, or they stopped while it was not. -/
def Dev.hushed (d : Dev) (g : Nat) : Bool := d.mode g == 4 || (d.spot g).hush != 0

/-- A running channel stalls (R164): the frame in progress is discarded, and the frames from it on are missed. -/
def Dev.channelStall (d : Dev) (g : Nat) : Dev :=
  let m := d.mode g
  let x := d.spot g
  let fz : Int := framesOf (d.rd Reg.RCH_SP_STATE_ZONE g)
  let from_ : Option Nat := match x.missFrom, x.wr with
    | some f, _ => some f
    | none, s :: _ => some (faFrame s.addr)
    | none, [] => if x.writes && (m == 2 || m == 3) then some ((x.opened + 1) % fz).toNat else none
  let d := (d.setSpot g { x with wr := [], gap := false, lag := [], frz := false, missFrom := from_ }).setMode g 4
  let d := d.bump Reg.RCH_SP_CNT_DEF_STALLS 1 g
  if x.wr.isEmpty then d else d.bump Reg.RCH_SP_CNT_ALIGN_DISCARD x.wr.length g

/-- A spot stall (R114), declared once until the cells resume; a channel that runs goes to STALLED. -/
def Dev.spotStall (d : Dev) (g : Nat) : Dev :=
  let m := d.mode g
  if m = 4 || (d.spot g).hush = 2 then d
  else
    let d := d.setSpot g { d.spot g with hush := 2 }
    let d := (if m = 0 then d else d.channelStall g).bump Reg.SOR_COUNT_STALLS 1 (g / 32)
    d.sorErr Reg.SOR_ERR_STALL (g / 32) (g % 32 / 4)

/-- Stalls every running channel of a port (R114). -/
def Dev.stallPort (d : Dev) (p : Nat) : Dev :=
  (spotsOf p).foldl (fun d g => if d.mode g = 0 then d else d.spotStall g) d

/-- Cells resume after a gap (R115): the gap, in samples, is counted and recorded, and a stalled channel enters
ACQUIRE again (R165). -/
def Dev.resumeCells (d : Dev) (g gap : Nat) : Dev :=
  let addr := d.frameUnder g
  let d := (d.bump Reg.SOR_COUNT_GAP 1 (g / 32)).record 0x8001 4 1
    (payload [(0, 2, g), (2, 6, gap), (8, 4, addr)]) 0 0 g 0
  if d.mode g != 4 then d
  else if (d.spot g).park then (d.setSpot g { d.spot g with park := false }).setMode g 0
  else
    let h (i : Nat) : Nat := (d.spot g).home.getD i 0
    d.spotAcquire g (h 0) (h 1) (h 2) (h 3) (h 4) (d.spot g).writes (d.spot g).draw

/-- The index of a spot's first sample in a cell, from the sequence number and the SFS timing (R86, R115): the cell with
that number that lies nearest to the start of the superframe in progress. -/
def firstIndex (sf seq : Nat) : Nat :=
  let base := sf * 4000 / 64
  let ahead := (seq + 1024 - base % 1024) % 1024
  64 * (if ahead < 512 then base + ahead else base + ahead - 1024)

/-- The samples of a cell whose first has index `start`. -/
def Dev.takeCell (d : Dev) (g seq start : Nat) (samples : List Byte) (lost jump : Bool) : Dev :=
  let x := d.spot g
  let off := d.mode g = 0 || d.mode g = 4
  let d := d.setSpot g { x with next := some ((seq + 1) % 1024, if off then start + 64 else start) }
  if off then d else d.spotGroups g (cellIns samples lost jump)

/-- The SAMPLE cell of a spot with its sequence number (R86, R89, R90, R115). After a stall or a lane loss its index is that of
the SFS timing, and the cells resume. Cells missing before it in a running channel are lost cells; a cell that lies before
the one expected is not taken. After a full training the length of the gap is not known: the record holds a free value. -/
def Dev.sampleCell (d : Dev) (g seq : Nat) (samples : List Byte) (lost jump : Bool) : Dev :=
  let x := d.spot g
  let stopped := d.hushed g
  let sfs := firstIndex (d.port (g / 32)).sf seq
  let take (d : Dev) (start : Nat) : Dev := d.takeCell g seq start samples lost jump
  let resume (d : Dev) (start gap : Nat) : Dev :=
    (d.setSpot g { x with next := some (seq, start), hush := 0 }).resumeCells g gap
  match x.next with
  | none => if stopped then let q := d.draw 48; take (resume q.2 sfs q.1) sfs else take d sfs
  | some (s, n) =>
    let m := (seq + 1024 - s) % 1024
    let start := if stopped then sfs else n + 64 * m
    if start < n || (!stopped && 512 ≤ m) then d
    else if d.mode g = 4 || d.mode g = 0 then
      take (if stopped || m != 0 then resume d start (start - n) else d) start
    else
      let d := if start = n then d.setSpot g { x with hush := 0 } else resume d n (start - n)
      take ((List.range ((start - n) / 64)).foldl (fun d i => d.takeCell g ((s + i) % 1024) (n + 64 * i) [] true false) d) start

end Sys2Proof.Machine
end

