-- ==== Sys2Proof/Machine/Draw.lean ====
section
/-! DEFINITION. Burns as the DRAW checker sees them: what each frame of a band was written with, and the
judgement of its read-back (R224, R229 to R231). -/

namespace Sys2Proof.Machine

open Sys2Proof

/-- The band burn of a pickup. -/
def Dev.burn (d : Dev) (p : Nat) : Option Burn := mget d.burns none p

/-- Sets or ends the band burn of a pickup; WCH_STATUS shows the pickups that burn. -/
def Dev.setBurn (d : Dev) (p : Nat) (b : Option Burn) : Dev :=
  let d := { d with burns := mset d.burns none p b }
  let bit (v : Nat) (on : Bool) : Nat := if on then v ||| 2 ^ p else v - (v &&& 2 ^ p)
  (d.wr Reg.WCH_STATUS_BURNING (bit (d.rd Reg.WCH_STATUS_BURNING) b.isSome)).wr Reg.WCH_STATUS_REPLACING
    (bit (d.rd Reg.WCH_STATUS_REPLACING) (match b with | some x => x.spare | none => false))

/-- The epoch of the disc that a burn writes. -/
def Dev.burnEpoch (d : Dev) (b : Burn) : Nat :=
  match d.spindleOfDisc b.disc with
  | some sp => match d.disc sp with | some x => x.epoch | none => 0
  | none => 0

/-- The 16 data bodies of a cluster of a burn; a cluster not given holds pad LBs. -/
def Burn.cluster (b : Burn) (c : Nat) : List (List Byte) :=
  match b.clusters.find? (fun q => q.1 == c) with
  | some q => q.2
  | none => clZero

/-- The parity bodies of a cluster of a burn, from the pre-pass where it has run (R224). -/
def Burn.parityOf (b : Burn) (c : Nat) : List Byte × List Byte :=
  match b.parity.find? (fun q => q.1 == c) with
  | some q => q.2
  | none => outerParity (b.cluster c)

/-- The information word of a frame of a burn (Tables 2-4, 2-5; R210). -/
def Dev.burnWord (d : Dev) (b : Burn) (t f : Nat) : List Byte :=
  let z := zoneOf b.band
  let n := frameNumber z t f
  let role := roleOf z n
  let h := frameHeader b.side b.layer b.band t f role 1 (d.burnEpoch b)
  infoWord h (if role < 16 then (b.cluster (n / 18)).getD role (List.replicate 4112 0)
    else if role = 16 then (b.parityOf (n / 18)).1
    else if role = 17 then (b.parityOf (n / 18)).2
    else List.replicate 4112 0)

/-- The cluster of a frame of a band, if the frame is no fill frame. -/
def clusterOfFrame (addr : Nat) : Option Nat :=
  let z := zoneOf (faBand addr)
  let n := frameNumber z (faTrack addr) (faFrame addr)
  if roleOf z n = 31 then none else some (n / 18)

/-- The failed frames of a cluster of a burn. -/
def Burn.failsOf (b : Burn) (c : Nat) : Nat := b.failed.countP fun q => clusterOfFrame q.1 == some c

/-- The clusters of a burn that are to be replaced (R231). -/
def Burn.toReplace (b : Burn) (tol : Nat) : List Nat :=
  (b.clusters.map (·.1)).filter fun c => decide (tol < b.failsOf c)

/-- A frame fails verification with a cause of Table 6-3; a cluster with more than DRAW_TOL failed frames is
marked for replacement (R230, R231), unless the burn has ended and its clusters are burned anew (R228). -/
def Dev.drawFail (d : Dev) (p addr cause : Nat) (replace : Bool := true) : Dev :=
  match d.burn p with
  | none => d
  | some b =>
    if b.failed.any (fun q => q.1 == addr) then d
    else
      let tol := d.rd Reg.WCH_CFG_DRAW_TOL
      let b' := { b with failed := b.failed ++ [(addr, cause)], passed := b.passed.erase addr }
      let d := ((d.setBurn p (some b')).setErr Reg.WCH_ERR_VERIFY_FAIL 0 0 p addr).bump Reg.WCH_CNT_VFAIL_COUNT
      let d := d.bump Reg.WCH_PK_CNT_VFAIL 1 p
      match clusterOfFrame addr with
      | some c =>
        if replace && b'.failsOf c == tol + 1 then (d.bump Reg.WCH_CNT_REPL_COUNT).bump Reg.WCH_PK_CNT_REPL 1 p else d
      | none => d

/-- The judgement of a read-back frame (R229): the first failing row of Table 6-3. -/
def drawCause (conv header data : Bool) (iters iterMax flips flipMax : Nat) : Nat :=
  if !conv then 2 else if !header then 3 else if !data then 4
  else if iterMax < iters then 5 else if flipMax < flips then 6 else 0

/-- A read-back frame of a burn is judged by convergence, header, CRC-32C, iterations and changed bits. -/
def Dev.drawJudge (d : Dev) (p addr : Nat) (conv header : Bool) (word : List Byte) (iters flips : Nat) : Dev :=
  match d.burn p with
  | none => d
  | some b =>
    if b.failed.any (fun q => q.1 == addr) then d
    else
      let same := crc32c word == crc32c (d.burnWord b (faTrack addr) (faFrame addr))
      let cause := drawCause conv header same iters (d.rd Reg.WCH_DRAW_ITER_MAX) flips (d.rd Reg.WCH_DRAW_FLIP_MAX)
      if cause = 0 then d.setBurn p (some { b with passed := b.passed ++ [addr], flips := b.flips + flips })
      else d.drawFail p addr cause

end Sys2Proof.Machine
end

