-- ==== Sys2Proof/Machine/Ledger.lean ====
section
/-! DEFINITION. The ledger of a disc: its blocks and seals, the header of Table 14-10, the sections of Tables 14-11, 15-8
and 15-9, as a commit writes them and as the load of a disc reads them (R521 to R525, R547, R557, R558). -/

namespace Sys2Proof.Machine

open Sys2Proof

/-! ## Building a commit -/

/-- The first word of the magic of a ledger header (Table 14-10). -/
def ledgerMagic : Nat := 0x314744454C565953

/-- The 2-bit states of the bands of a side, L0 first in band order, four to a byte; a band begun and not verified is written
as damaged. -/
def bandMapBytes (x : Disc) (side : Nat) : List Byte :=
  (List.range bandCount).map fun i =>
    BitVec.ofNat 8 ((List.range 4).foldl (fun a j =>
      a + min 3 (mget x.bands 0 (bandKey side ((4 * i + j) / bandCount) ((4 * i + j) % bandCount))) * 4 ^ j) 0)

/-- The entry of a stripe run (type 2). -/
def LedgerRun.bytes (r : LedgerRun) : List Byte :=
  leBytes 2 r.volume ++ leBytes 2 r.member ++ leBytes 8 r.first ++ leBytes 4 r.count ++ leBytes 4 r.slot ++ leBytes 2 r.commit
    ++ List.replicate 10 0

/-- The entry of a replacement (type 3). -/
def replacementBytes (r : Remap) : List Byte :=
  leBytes 4 r.old ++ leBytes 4 r.new ++ leBytes 2 r.commit ++ leBytes 1 r.cause ++ List.replicate 5 0

/-- The entry of a stripe remap (type 4), with the generation that its burn took (assumption 90). -/
def remapBytes (r : Remap) (gen : Nat) : List Byte :=
  leBytes 2 r.vol ++ leBytes 6 r.stripe ++ leBytes 4 r.old ++ leBytes 4 r.new ++ leBytes 2 gen ++ leBytes 2 r.cause
    ++ List.replicate 4 0

/-- The descriptor of a set on a member's ledger (Table 15-8): a vacant slot has no disc (R549). -/
def Dev.descriptor (d : Dev) (key : Nat) (s : DiscSet) (m : Nat) : List Byte :=
  let flags := (if s.cross then 1 else 0) + (if s.destroyed then 2 else 0) + (if 65536 ≤ key && key < 131072 then 4 else 0)
  let entry (i : Nat) : List Byte :=
    if i < s.w then
      let q := s.members.getD i (0, 0)
      leBytes 6 (if s.failed.contains i && !s.rebuilding.contains i then 0 else q.1) ++ leBytes 2 q.2
    else leBytes 8 0
  leBytes 2 (key % 65536) ++ leBytes 1 s.k ++ leBytes 1 s.p ++ leBytes 1 flags ++ leBytes 1 m ++ leBytes 2 s.gen
    ++ leBytes 2 s.reserve ++ leBytes 1 s.stateOf ++ leBytes 1 0 ++ leBytes 4 (d.lostStripes key) ++ leBytes 8 s.created.toNat
    ++ leBytes 8 s.cap ++ (List.range 16).flatMap entry ++ List.replicate 96 0

/-- An entry of the stripe journal copy (Table 15-9). -/
def copyBytes (vol kind stripe a b c cause : Nat) : List Byte :=
  leBytes 2 (vol % 65536) ++ leBytes 1 kind ++ leBytes 1 0 ++ leBytes 4 stripe ++ leBytes 4 a ++ leBytes 2 b ++ leBytes 2 c
    ++ leBytes 1 cause ++ List.replicate 15 0

/-- The stripe journal copy of a set (R547): every stripe in flight and every lost entry. -/
def Dev.journalCopy (d : Dev) (key : Nat) : List (List Byte) :=
  (d.set.stripes.filterMap fun e => match e.2 with
    | some t =>
      if e.1 / 2 ^ 32 = key && !t.released then some (copyBytes key 0 (e.1 % 2 ^ 32) t.slot t.burned t.recorded 0) else none
    | none => none)
  ++ (d.set.lost.filter fun l => l.vol == key).map fun l => copyBytes key 1 l.stripe l.count l.dmask l.lbmask l.cause

/-- Whether stripe `n` at `slot` goes on a run: the next stripe of its side, and each of the two in its place in the side
sequence (R534; assumption 90). -/
def runGoesOn (reserve : Nat) (r : LedgerRun) (n slot : Nat) : Bool :=
  n == r.first + 2 * r.count && stripeSlot reserve r.first == some r.slot && stripeSlot reserve n == some slot

/-- Stripes, in ascending order, joined to runs of one commit. -/
def addRuns (reserve vol m commit : Nat) (l : List (Nat × Nat)) : List LedgerRun :=
  (l.foldl (fun (a : List LedgerRun) q =>
    match a with
    | r :: t =>
      if runGoesOn reserve r q.1 q.2 then { r with count := r.count + 1 } :: t
      else { volume := vol, member := m, first := q.1, count := 1, slot := q.2, commit := commit } :: a
    | [] => [{ volume := vol, member := m, first := q.1, count := 1, slot := q.2, commit := commit }]) []).reverse

/-- The sections of a commit of a side (Table 14-11): type and entries. -/
def Dev.sections (d : Dev) (x : Disc) (side commit : Nat) : List (Nat × Nat × List Byte) :=
  let common := [(1, 4 * bandCount, bandMapBytes x side)]
  match x.member with
  | none => common
  | some (key, m) =>
    let runs := x.runs.filter fun r => caSide r.slot == side
    let here := d.set.remaps.filter fun r => r.vol == key && caSide r.new == side
    let repl := here.filter fun r => r.member == some m
    let moved := here.filter fun r => r.member.isNone
    let stamp (r : Remap) : Remap := if r.committed then r else { r with commit := commit }
    let gen (r : Remap) : Nat := match d.stripe key r.stripe with
      | some t => t.gens.foldl (fun a q => max a q.2) 0
      | none => 0
    let seals := x.seals.filter fun q => q.1 == side
    let desc := match d.volSet key with | some s => [d.descriptor key s m] | none => []
    let copy := d.journalCopy key
    common
      ++ [(2, runs.length, runs.flatMap LedgerRun.bytes),
        (3, repl.length, repl.flatMap fun r => replacementBytes (stamp r)),
        (4, moved.length, moved.flatMap fun r => remapBytes r (gen r)),
        (5, seals.length, seals.flatMap fun q => leBytes 2 q.2.1 ++ leBytes 2 q.2.2 ++ leBytes 4 0),
        (6, desc.length, desc.flatten),
        (7, copy.length, copy.flatten)]

/-- Bytes in blocks of 4,096, the last filled with zero. -/
def sectionBlocks : Nat → List Byte → List (List Byte)
  | 0, _ => []
  | k + 1, l => if l.isEmpty then [] else (l.take 4096 ++ List.replicate (4096 - l.length) 0) :: sectionBlocks k (l.drop 4096)

/-- The header of a commit (Table 14-10), with the directory of its sections. -/
def ledgerHeader (x : Disc) (node side commit time : Nat) (dir : List (Nat × Nat × Nat × Nat)) : List Byte :=
  let head := leBytes 8 ledgerMagic ++ leBytes 1 1 ++ leBytes 1 side ++ leBytes 2 commit ++ leBytes 6 x.id
    ++ leBytes 2 (x.epoch % 512) ++ leBytes 2 node ++ leBytes 2 0 ++ leBytes 8 time ++ List.replicate 32 0
    ++ ((dir.take 16).flatMap fun e => leBytes 2 e.1 ++ leBytes 2 e.2.1 ++ leBytes 2 e.2.2.1 ++ leBytes 4 e.2.2.2 ++ leBytes 6 0)
  let body := head ++ List.replicate (4088 - head.length) 0
  body ++ leBytes 8 (crc64 body).toNat

/-- A block with its seal: reference tag the block number, volume tag 0xFFFF, write generation the commit (R523). -/
def sealedBlock (commit i : Nat) (b : List Byte) : List Byte := b ++ sealBytes 0xFFFF i commit b

/-- The directory of the sections that hold entries, and their blocks, from block `i` on. -/
def layOut : Nat → List (Nat × Nat × List Byte) → List (Nat × Nat × Nat × Nat) × List (List Byte)
  | _, [] => ([], [])
  | i, (t, n, bytes) :: rest =>
    if n = 0 then layOut i rest
    else
      let bl := sectionBlocks 2784 bytes
      let r := layOut (i + bl.length) rest
      ((t, i, bl.length, n) :: r.1, bl ++ r.2)

/-- The blocks of a commit of a side, sealed; the blocks after them are zero (R523). -/
def Dev.ledgerBlocks (d : Dev) (x : Disc) (side commit : Nat) : List (List Byte) :=
  let (dir, bl) := layOut 1 (d.sections x side commit)
  let head := ledgerHeader x d.node side commit d.now.toNat dir
  ((head :: bl).zipIdx).map fun q => sealedBlock commit q.2 q.1

/-! ## Reading a commit (R524) -/

/-- What a ledger says of its disc. -/
structure LedgerInfo where
  /-- each side has a commit whose header and blocks are good -/
  readable : Bool
  blank : Bool
  version : Nat
  /-- the two sides name one disc and one epoch -/
  agree : Bool
  epoch : Nat
  disc : Nat
  /-- volume, member and set generation of its descriptor -/
  member : Option (Nat × Nat × Nat)
  destroyed : Bool
  commits : List Nat
  /-- bands that are not blank: side·4 + layer, band, state -/
  bands : List (Nat × Nat × Nat)
  probed : List (Nat × Nat)
  runs : List LedgerRun
  /-- replacements and remaps, with member none for a remap; the volume of a replacement is that of the descriptor -/
  remaps : List Remap
  seals : List (Nat × Nat × Nat)
  /-- stripes in flight: volume, stripe, slot, burned, recorded -/
  flight : List (Nat × Nat × Nat × Nat × Nat)
  lost : List Lost
deriving DecidableEq, Repr

/-- The data of a block as read: its seal passes, or it is none (R544); a block that is all zero with its seal is unused. -/
def ledgerBlock (commit i : Nat) (w : Option (List Byte)) : Option (List Byte) :=
  match w with
  | none => none
  | some x =>
    let b := x.take 4096
    let t := x.drop 4096
    if isPad b t || (guardOk b t && refOk i t && volOk 0xFFFF t && sealGen t == commit) then some b else none

/-- The blocks of a commit, if every one is recovered and the CRC of the header passes. -/
def goodCommit (commit : Nat) (l : List (Option (List Byte))) : Option (List (List Byte)) :=
  let bl := (l.zipIdx).map fun q => ledgerBlock commit q.2 q.1
  if bl.any Option.isNone then none
  else
    match bl.map (·.getD []) with
    | h :: t =>
      if ofBytes (h.take 8) = ledgerMagic && ofBytes (h.drop 4088) = (crc64 (h.take 4088)).toNat then some (h :: t) else none
    | [] => none

/-- The highest good commit of a side: its number and blocks. -/
def sideCommit (l : LedgerSide) : Option (Nat × List (List Byte)) :=
  (l.bands.zipIdx).foldl (fun o q => match goodCommit q.2 q.1 with | some b => some (q.2, b) | none => o) none

/-- A little-endian field of bytes. -/
def fieldAt (l : List Byte) (i n : Nat) : Nat := ofBytes ((l.drop i).take n)

/-- The entries of `n` bytes of the sections of a type. -/
def entriesOf (blocks : List (List Byte)) (type n : Nat) : List (List Byte) :=
  let h := blocks.headD []
  (List.range 16).flatMap fun i =>
    let e := (h.drop (64 + 16 * i)).take 16
    if fieldAt e 0 2 = type && fieldAt e 4 2 != 0 then
      let bytes := ((blocks.drop (fieldAt e 2 2)).take (fieldAt e 4 2)).flatten
      (List.range (min (fieldAt e 6 4) (bytes.length / n))).map fun j => (bytes.drop (n * j)).take n
    else []

/-- The bands that are not blank of a band state map, from band number `i` of the side on. -/
def bandStates (side : Nat) : Nat → List Byte → List (Nat × Nat × Nat)
  | _, [] => []
  | i, b :: t =>
    (if b = 0 then []
      else (List.range 4).filterMap fun j =>
        let st := b.toNat / 4 ^ j % 4
        if st = 0 || 4 * bandCount ≤ i + j then none else some (4 * side + (i + j) / bandCount, (i + j) % bandCount, st))
      ++ bandStates side (i + 4) t

/-- The band state map of a commit. -/
def bandMapOf (side : Nat) (blocks : List (List Byte)) : List (Nat × Nat × Nat) :=
  let h := blocks.headD []
  (List.range 16).flatMap fun i =>
    let e := (h.drop (64 + 16 * i)).take 16
    if fieldAt e 0 2 = 1 then bandStates side 0 (((blocks.drop (fieldAt e 2 2)).take (fieldAt e 4 2)).flatten) else []

/-- What the sections of one side say, added to what is known. -/
def LedgerInfo.takeSide (x : LedgerInfo) (side : Nat) (bl : List (List Byte)) : LedgerInfo :=
  let desc := entriesOf bl 6 256
  let live := desc.filter fun e => fieldAt e 4 1 / 2 % 2 == 0
  let member := match x.member with
    | some q => some q
    | none => (live.head?).map fun e => (fieldAt e 0 2, fieldAt e 5 1, fieldAt e 6 2)
  let vol := match member with | some q => q.1 | none => 0xFFFF
  let m := match member with | some q => q.2.1 | none => 0xFF
  let copy := entriesOf bl 7 32
  { x with
    member := member, destroyed := x.destroyed || (!desc.isEmpty && live.isEmpty)
    bands := x.bands ++ bandMapOf side bl
    runs := x.runs ++ (entriesOf bl 2 32).map fun e =>
      { volume := fieldAt e 0 2, member := fieldAt e 2 2, first := fieldAt e 4 8, count := fieldAt e 12 4,
        slot := fieldAt e 16 4, commit := fieldAt e 20 2 }
    remaps := x.remaps
      ++ ((entriesOf bl 3 16).map fun e =>
        { vol := vol, stripe := 0, old := fieldAt e 0 4, new := fieldAt e 4 4, cause := fieldAt e 10 1, member := some m,
          committed := true, commit := fieldAt e 8 2 })
      ++ (entriesOf bl 4 24).map fun e =>
        { vol := fieldAt e 0 2, stripe := fieldAt e 2 6, old := fieldAt e 8 4, new := fieldAt e 12 4, cause := fieldAt e 18 2,
          member := none, committed := true, commit := 0 }
    seals := x.seals ++ (entriesOf bl 5 8).map fun e => (side, fieldAt e 0 2, fieldAt e 2 2)
    flight := x.flight ++ (copy.filter fun e => fieldAt e 2 1 == 0).map fun e =>
      (fieldAt e 0 2, fieldAt e 4 4, fieldAt e 8 4, fieldAt e 12 2, fieldAt e 14 2)
    lost := x.lost ++ (copy.filter fun e => fieldAt e 2 1 == 1).map fun e =>
      { vol := fieldAt e 0 2, cause := fieldAt e 16 1, stripe := fieldAt e 4 4, count := fieldAt e 8 4,
        dmask := fieldAt e 12 2, lbmask := fieldAt e 14 2 } }

/-- What a ledger says (R524): each side by its highest good commit. A disc whose ledger bands are all blank is blank. -/
def ledgerInfo (l : LedgerRead) : LedgerInfo :=
  let a := sideCommit l.a
  let b := sideCommit l.b
  let head (o : Option (Nat × List (List Byte))) : List Byte := match o with | some q => q.2.headD [] | none => []
  let (ha, hb) := (head a, head b)
  let ver (h : List Byte) : Nat := fieldAt h 8 1
  let x : LedgerInfo :=
    { readable := a.isSome && b.isSome, blank := l.a.bands.isEmpty && l.b.bands.isEmpty,
      version := if ver ha = 1 then ver hb else ver ha
      agree := fieldAt ha 12 6 == fieldAt hb 12 6 && fieldAt ha 18 2 == fieldAt hb 18 2
      epoch := fieldAt ha 18 2 % 512, disc := fieldAt ha 12 6, member := none, destroyed := false
      commits := [l.a.bands.length, l.b.bands.length], bands := []
      probed := l.a.probed ++ l.b.probed.map (fun q => (4 + q.1, q.2)), runs := [], remaps := [], seals := [], flight := [],
      lost := [] }
  let x := match a with | some q => x.takeSide 0 q.2 | none => x
  match b with | some q => x.takeSide 1 q.2 | none => x

end Sys2Proof.Machine
end

