-- ==== Sys2Proof/Machine/Staging.lean ====
section
/-! DEFINITION. The steps of the Saltern and of the ledgers: index build, page programs, erases and reads,
journal flush, checkpoint, garbage collection, residency and ledger commits (R500 to R523). -/

namespace Sys2Proof.Machine

open Sys2Proof

/-! ## Page reads (R514) -/

/-- The slots of a page that the index still names, with their entries. -/
def Dev.liveSlots (d : Dev) (lsn : Nat) (pg : FlashPage) (mirror : Bool) : List (IdxEnt × StagedLb) :=
  pg.slots.filterMap fun q =>
    match d.idxOf q.2.1 q.2.2.1 mirror with
    | some e => if e.lsn == lsn && e.slot == q.1 then some (e, q.2.2.2) else none
    | none => none

/-- A READ takes the LBs of a page that it waits for; an LB whose seal fails is handled as an uncorrectable
read (R514, R544). -/
def Dev.takePage (d : Dev) (c : Nat) (r : PRead) (pg : FlashPage) : Dev :=
  match d.ctx c with
  | none => d
  | some k =>
    (pg.slots.filter fun q => q.2.1 == k.e.volume.toNat && k.todo.contains q.2.2.1).foldl (fun d q =>
      let (vol, lba, lb) := q.2
      let gen := match d.idxOf vol lba with
        | some e => if e.lsn == r.lsn && e.slot == q.1 then e.gen else lb.gen
        | none => lb.gen
      if stagedOk vol lba gen lb then d.gotLb c lba lb
      else ((d.sealFail Reg.SET_ERR_SEAL_SALTERN vol lba).stagedBad vol lba).sourceLb c vol lba) d

/-- A page read of the flash ends (R514). -/
def Dev.pageRead (d : Dev) (id : Nat) (res : FlashRead) : Dev :=
  match d.sal.reads.find? (fun r => r.id == id && r.issued) with
  | none => d
  | some r =>
    let d := ({ d with sal := { d.sal with reads := d.sal.reads.erase r } }).serve
    let (b, lun) := ((d.seg r.lsn).map (·.sb)).elim (0xFFFF, none) fun b => (b, r.lun)
    let pg := match r.pg with
      | some p => p
      | none => { kind := 1, mirror := false, gcCopy := false, lsn := r.lsn, page := r.page, gen := 0, seq := 0, time := 0,
                  opseq := 0, slots := [] }
    match res with
    | .good n =>
      let d := if d.rd Reg.SAL_CFG_RD_THR < n then
          let d := d.salErr Reg.SAL_ERR_READ_THR b lun
          if d.sal.scheduled.contains b then d else { d with sal := { d.sal with scheduled := d.sal.scheduled ++ [b] } }
        else d
      match r.why with
      | .host c => d.takePage c r pg
      | .burn => d
      | .gc => d.gcCopy r.page pg.slots
      | .peer vol lba =>
        let lb := (pg.slots.find? fun q => q.2.1 == vol && q.2.2.1 == lba).map (·.2.2.2)
        d.ner (.fetchData vol lba [lb])
    | .uncorrectable =>
      let d := (d.salErr Reg.SAL_ERR_READ_UNCORR b lun).bump Reg.SAL_CNT_ERR_UNCORR
      let d := if b = 0xFFFF then d else d.setSb b { d.sb b with reads := (d.sb b).reads + 1 }
      let d := (d.liveSlots r.lsn pg false).foldl (fun d q => d.stagedBad q.1.vol q.1.lba) d
      let d := (d.liveSlots r.lsn pg true).foldl (fun d q => d.unstage q.1) d
      match r.why with
      | .host c =>
        match d.ctx c with
        | some k => (k.todo.filter fun a => pg.slots.any fun q => q.2.1 == k.e.volume.toNat && q.2.2.1 == a).foldl
            (fun d a => d.sourceLb c k.e.volume.toNat a) d
        | none => d
      | .burn => d
      | .gc => d.gcCopy r.page []
      | .peer vol lba => d.ner (.fetchData vol lba [none])

/-! ## Residency (R515) -/

/-- The age in ns of the oldest live LB of a segment. -/
def Dev.ageOf (d : Dev) (lsn : Nat) : Nat :=
  let times := d.sal.idx.filterMap fun e =>
    if e.lsn == lsn && !e.mirror then (d.pageOf lsn (e.slot / 4)).map fun p => (d.now - p.time).toNat else none
  times.foldl max 0

/-- One hour in ns. -/
def hourNs : Nat := 3600000000000

/-- The stripes with LBs in a segment. -/
def Dev.stripesIn (d : Dev) (lsn : Nat) : List (Nat × Nat) :=
  (d.sal.idx.filterMap fun e =>
    if e.lsn == lsn && !e.mirror then (d.volSet e.vol).map fun s => (e.vol, (s.place e.lba).1) else none).eraseDups

/-! ## Ledger commits (R519 to R523) -/

/-- Whether the ledger side of a disc takes no further commit (R521). -/
def Disc.sideClosed (x : Disc) (side : Nat) : Bool := decide (8 ≤ x.commits.getD side 0)

/-- The stripes that a member has burned on a side and not recorded. -/
def Dev.unrecorded (d : Dev) (vol m side : Nat) : List Nat :=
  d.set.stripes.filterMap fun e =>
    match e.2 with
    | some t =>
      if e.1 / 2 ^ 32 = vol && t.burned.testBit m && !t.recorded.testBit m && caSide t.slot == side then some (e.1 % 2 ^ 32)
      else none
    | none => none

/-- Whether every user band of some layer of a side has been burned or is damaged (R522). -/
def Disc.layerDone (x : Disc) (reserve side : Nat) : Bool :=
  (List.range 4).any fun l => (List.range 24).all fun z =>
    let (b, n) := userBands reserve l z
    (List.range n).all fun i => x.band side l (b + i) != 0

/-- Whether a commit trigger of R522 holds for a member side. -/
def Dev.commitDue (d : Dev) (sp side : Nat) : Bool :=
  match d.disc sp with
  | none => false
  | some x =>
    match x.member with
    | none => false
    | some (vol, m) =>
      match d.volSet vol with
      | none => false
      | some s =>
        let l := d.unrecorded vol m side
        let staged := d.sal.idx.countP fun e => !e.mirror
        s.owed.contains (2 * m + side)
          || (!l.isEmpty && decide (65536 ≤ vol) && !(d.set.stripes.any fun e => match e.2 with
              | some t => decide (e.1 / 2 ^ 32 = vol) && (List.range s.w).any fun i => !t.burned.testBit i
              | none => false))
          || (!l.isEmpty && (x.layerDone s.reserve side
            || d.que.ctxs.any (fun q => match q.2 with
                | some k => k.wait == .recorded && k.e.volume.toNat == vol && k.todo.any (fun n => l.contains n)
                | none => false)
            || decide (d.rd Reg.SAL_CFG_COMMIT_FILL * d.rd Reg.SAL_ADMIT_LBS < 100 * staged)
            || d.sal.map.any (fun e => decide (3 * d.rd Reg.SAL_TIME_RESID_H * hourNs ≤ 4 * d.ageOf e.1)
                && (d.stripesIn e.1).any (fun q => q.1 == vol && l.contains q.2))
            || !(d.waiting fun w => w == .unload sp).isEmpty))

/-- Whether nothing holds a disc on its spindle (R482, R522): the spindle is OFF, both sides are committed or closed, and no
command, burn, recovery or background operation needs the disc. -/
def Dev.unloadReady (d : Dev) (sp : Nat) : Bool :=
  d.rd Reg.MOT_SP_STATUS_STATE sp == 0 && match d.disc sp with
    | none => true
    | some x =>
      !(d.set.wants.any fun q => q.1 == x.id) && !((d.burns.any fun e => e.1 / 2 == sp && e.2.isSome))
        && !(d.mgmt.bgOps.any fun e => match e.2 with
          | some o => o.type == 1 && o.arg == sp + 1 && o.state == 0
          | none => false)
        && match x.member with
          | none => true
          | some (vol, m) => match d.volSet vol with
            | none => true
            | some s => !s.rebuilding.contains m && (List.range 2).all fun side =>
              x.sideClosed side || (!s.owed.contains (2 * m + side) && (d.unrecorded vol m side).isEmpty)

/-- A disc leaves its spindle. -/
def Dev.dropDisc (d : Dev) (sp : Nat) : Dev :=
  ((d.putDisc sp none).wr Reg.YAR_PK_EPOCH_VALID 0 (2 * sp)).wr Reg.YAR_PK_EPOCH_VALID 0 (2 * sp + 1)

/-- An UNLOAD that waits for nothing any more completes. -/
def Dev.checkUnload (d : Dev) (sp : Nat) : Dev :=
  if (d.waiting fun w => w == .unload sp).isEmpty || !d.unloadReady sp then d
  else (d.completeAll (fun w => w == .unload sp) St.success).dropDisc sp

/-- A set is gone: its stripes, remaps and lost entries with it, and its discs belong to no set (R532). -/
def Dev.dropSet (d : Dev) (key : Nat) : Dev :=
  let d := d.putSet key none
  { d with set := { d.set with
    stripes := d.set.stripes.filter fun e => e.1 / 2 ^ 32 != key
    remaps := d.set.remaps.filter fun r => r.vol != key
    lost := d.set.lost.filter fun l => l.vol != key
    recovs := d.set.recovs.filter fun r => r.vol != key
    held := d.set.held.filter fun q => q.1 != key
    asked := d.set.asked.filter fun q => q.1 != key
    discs := d.set.discs.map fun e => (e.1, e.2.map fun (x : Disc) => match x.member with
      | some q => if q.1 = key then { x with member := none } else x
      | none => x) } }

/-- The commits that a set still owes: those of closed sides are not made (R521). With none left the commands that wait for
them complete, and a set that is destroyed is gone (R531, R532). -/
def Dev.settleOwed (d : Dev) (key : Nat) : Dev :=
  match d.volSet key with
  | none => d
  | some s =>
    let owed := s.owed.filter fun i =>
      match (d.spindleOfDisc (s.members.getD (i / 2) (0, 0)).1).bind d.disc with
      | some x => !x.sideClosed (i % 2)
      | none => true
    let d := d.putSet key (some { s with owed := owed })
    if owed.isEmpty then
      let d := if s.destroyed then d.dropSet key else d
      (d.waiting fun w => w == .setCommit key).foldl (fun d c =>
        match d.ctx c with
        | some k => d.complete c St.success k.acc0
        | none => d) d
    else d

/-- The disc as the next commit of a side leaves it: its ledger band is used, and a commit that verifies records the stripes
that the member has burned there and a sealed volume (R521, R523). -/
def Dev.ledgerAfter (d : Dev) (sp side : Nat) (verified : Bool) : Disc :=
  let x := (d.disc sp).getD Disc.empty
  let n := x.commits.getD side 0
  let x := { x with
    commits := x.commits.set side (n + 1), bands := mset x.bands 0 (bandKey side 0 n) (if verified then 1 else 3) }
  match x.member with
  | none => x
  | some (key, m) =>
    match d.volSet key with
    | none => x
    | some s =>
      if !verified then x
      else
        let mine := (d.unrecorded key m side).map fun i => (i, d.slotOf s key i)
        { x with
          runs := x.runs ++ addRuns s.reserve key m n mine
          seals := if s.sealedVol && !(x.seals.any fun q => q.1 == side && q.2.1 == key) then x.seals ++ [(side, key, n)]
            else x.seals }

/-- The burn of the next commit of a side: the blocks of a snapshot that takes the commit to verify (R521). -/
def Dev.burnLedger (d : Dev) (sp side : Nat) : Dev :=
  let n := ((d.disc sp).getD Disc.empty).commits.getD side 0
  d.send (.ledger (2 * sp + side) n (d.ledgerBlocks (d.ledgerAfter sp side true) side n))

/-- A commit of a side has been burned and read back: the next ledger band is used; a valid commit records
what the member has burned on that side (R19, R521), and what a command waits for is complete. -/
def Dev.sideCommitted (d : Dev) (sp side : Nat) (verified : Bool) : Dev :=
  match d.disc sp with
  | none => d
  | some x =>
    let n := x.commits.getD side 0
    let x' := d.ledgerAfter sp side verified
    let d := (d.putDisc sp (some x')).media 0x3002 x.id sp (match x.member with | some q => q.1 | none => 0)
      (match x.member with | some q => q.2 | none => 0xFF)
    match x.member with
    | none => d
    | some (vol, m) =>
      let d := if verified then
          let mine := d.unrecorded vol m side
          let d := mine.foldl (fun d i => d.recordedBy vol i m n) d
          -- a set homed at the peer: the home learns what its member has recorded (R542)
          let d := match d.volSet vol with
            | some s =>
              if s.home || mine.isEmpty then d
              else d.ner (.burnReport (mine.map fun i =>
                recStripe 2 vol [(28, i), (60, d.slotOf s vol i), (92, m), (96, n)]))
            | none => d
          let d := match d.volSet vol with
            | some s => d.putSet vol (some { s with unwritten := [] })
            | none => d
          { d with set := { d.set with remaps := d.set.remaps.map fun r =>
              if r.vol == vol && caSide r.new == side && (r.member == some m || r.member == none) && !r.committed then
                { r with committed := true, commit := n }
              else r } }
        else d
      match d.volSet vol with
      | none => d
      | some s =>
        if s.owed.isEmpty then d
        else
          let owed := if verified then s.owed.filter (· != 2 * m + side) else s.owed
          (d.putSet vol (some { s with owed := owed })).settleOwed vol

/-- A ledger commit, after which a waiting UNLOAD may complete (R522). -/
def Dev.ledgerCommit (d : Dev) (sp side : Nat) (verified : Bool) : Dev :=
  ((d.burnLedger sp side).sideCommitted sp side verified).checkUnload sp

/-! ## The rows -/

/-- The staging index is built once memory is lent (R510): the commands that wait for it start. -/
def execIndexBuild (s : State) : Host.Outcome State Fault Refusal :=
  State.runUnit 10 s fun d =>
    if d.mmu.hlm.isNone || d.salState != 2 || d.flag Reg.SAL_STATUS_INDEX_READY then d
    else
      let idx : List IdxEnt := d.buildIndex false ++ d.sal.idx.filter (·.mirror)
      let d : Dev := { d with sal := { d.sal with idx := idx } }
      let d := (d.recount.freeEmpty.wr Reg.SAL_STATUS_INDEX_READY 1).wr Reg.SAL_ADMIT_LBS d.admitLimit
      ((d.waiting fun w => w == .admission).foldl (fun d c => d.retryIo c) d).reap

/-- The oldest page program of a stream reports its status (R501, R502). -/
def execPageProgramDone (u : Fin 3) (ok : Bool) (s : State) : Host.Outcome State Fault Refusal :=
  s.run fun d => d.programDone u.val ok

/-- A superblock erase ends (R492, R511): `failed` names the LUN whose block failed. -/
def execBlockEraseDone (sb : Nat) (failed : Option Nat) (s : State) : Host.Outcome State Fault Refusal :=
  s.run fun d => d.eraseDone sb failed

/-- A Saltern read reports the most bits corrected, or an uncorrectable codeword (R514). -/
def execPageReadDone (id : Nat) (r : FlashRead) (s : State) : Host.Outcome State Fault Refusal :=
  s.run fun d => (d.pageRead id r).reap

/-- The pending journal page is programmed (R505). -/
def execJournalFlush (s : State) : Host.Outcome State Fault Refusal :=
  State.runUnit 10 s fun d => d.flushJournal

/-- A checkpoint is written (R506). -/
def execCheckpoint (s : State) : Host.Outcome State Fault Refusal :=
  State.runUnit 10 s fun d => if d.salState = 2 then d.checkpoint else d

/-- Garbage collection starts with few free superblocks, or one scheduled for rewriting (R511). -/
def execGcStart (s : State) : Host.Outcome State Fault Refusal :=
  State.runUnit 10 s fun d => d.gcBegin

/-- At three quarters of RESID_H the segment's stripes move to the front of the burn order (R515). -/
def execResidencyPriority (lsn : Nat) (s : State) : Host.Outcome State Fault Refusal :=
  State.runUnit 10 s fun d =>
    if 3 * d.rd Reg.SAL_TIME_RESID_H * hourNs ≤ 4 * d.ageOf lsn && (d.seg lsn).isSome then
      let l := d.stripesIn lsn
      { d with sal := { d.sal with priority := l ++ d.sal.priority.filter fun q => !l.contains q } }
    else d

/-- At RESID_H the bound is reported, once per segment (R515). -/
def execResidencyBound (lsn : Nat) (s : State) : Host.Outcome State Fault Refusal :=
  State.runUnit 10 s fun d =>
    match d.seg lsn with
    | some e =>
      if d.rd Reg.SAL_TIME_RESID_H * hourNs ≤ d.ageOf lsn && !d.sal.aged.contains lsn then
        ({ d with sal := { d.sal with aged := d.sal.aged ++ [lsn] } }).salErr Reg.SAL_ERR_RESIDENCY e.sb
      else d
    | none => d

/-- A commit trigger burns a snapshot of a side into its next ledger band (R521, R522); no burn starts on a power-fail
warning or under the tamper hold (R376, R628). -/
def execLedgerCommit (p : Pk) (verified : Bool) (s : State) : Host.Outcome State Fault Refusal :=
  s.run fun d =>
    let sp := spindleOf p.val
    let side := sideOf p.val
    match d.disc sp with
    | some x =>
      if x.sideClosed side || !d.commitDue sp side || d.clk.powerFail || d.flag Reg.LCS_STATUS_TAMPER_HOLD then d
      else d.ledgerCommit sp side verified
    | none => d

end Sys2Proof.Machine
end

