-- ==== Sys2Proof/Machine/Burning.lean ====
section
/-! DEFINITION. The write channel at work: symbols of the frames of a band, their supply over the link, write
cuts, supply misses and the end of a burn (R209 to R233). -/

namespace Sys2Proof.Machine

open Sys2Proof

/-! ## Where periods fall (R221) -/

/-- The write-clock period of stream position `k`, counted from the start of the revolution. -/
def periodOf (z k : Nat) : Nat := k + (segmentOf z k + 1) * (framesOf z * frameBits) / (512 * 39)

/-- The write-clock periods without a stream position just before position `k`. -/
def gapBefore (z k : Nat) : Nat := if k = 0 then periodOf z 0 else periodOf z k - periodOf z (k - 1) - 1

/-- The periods of a frame's bits from stream position `k`: wedge periods before the first bit are not gated. A wedge that
opens the slot comes before the position at which WRITE START begins (R223), so that the first frame after it drops
those periods. -/
def framePeriods (z : Nat) : Nat → Bool → List Bool → List (Bool × WBit)
  | _, _, [] => []
  | k, first, b :: t =>
    List.replicate (gapBefore z k) (!first, .wedge) ++ (true, .bit b) :: framePeriods z (k + 1) false t

/-! ## Strategy and write clock -/

/-- The write strategy of a layer, zone and track type: LEAD, TRAIL and COOL of the calibration set, or of the
registers with NO_SET (R220). -/
def Dev.strategy (d : Dev) (p layer zone land addr : Nat) : List Nat × Dev :=
  match d.calValue qStrategy p layer zone 0 land with
  | some v => (v.map Int.toNat, d)
  | none =>
    let key := Reg.WCH_ERR_NO_SET.key 0 0
    let who := 10000 + (p * 4 + layer) * 24 + zone
    let d := if d.yar.made.contains (key, who) then d.wr Reg.WCH_ERR_NO_SET 1
      else
        let d := d.setErr Reg.WCH_ERR_NO_SET 0 0 p addr
        { d with yar := { d.yar with made := d.yar.made ++ [(key, who)] } }
    let lead := [Reg.WCH_LEAD_LEAD0, Reg.WCH_LEAD_LEAD1, Reg.WCH_LEAD_LEAD2, Reg.WCH_LEAD_LEAD3,
      Reg.WCH_LEAD_LEAD4, Reg.WCH_LEAD_LEAD5, Reg.WCH_LEAD_LEAD6, Reg.WCH_LEAD_LEAD7, Reg.WCH_LEAD_LEAD8,
      Reg.WCH_LEAD_LEAD9, Reg.WCH_LEAD_LEAD10, Reg.WCH_LEAD_LEAD11, Reg.WCH_LEAD_LEAD12,
      Reg.WCH_LEAD_LEAD13, Reg.WCH_LEAD_LEAD14, Reg.WCH_LEAD_LEAD15]
    let trail := [Reg.WCH_TRAIL_TRAIL1, Reg.WCH_TRAIL_TRAIL2, Reg.WCH_TRAIL_TRAIL3, Reg.WCH_TRAIL_TRAIL4,
      Reg.WCH_TRAIL_COOL]
    ((lead ++ trail).map fun f => d.rd f, d)

/-- `write_inc` of a zone at the measured wedge period in 1/256 sample, rounded to nearest (R222). -/
def writeInc (z pw : Nat) : Nat :=
  let n := 2 ^ 32 * 40 * framesOf z * frameBits * 256
  let q := 39 * 512 * pw
  if q = 0 then 0 else (2 * n + q) / (2 * q) % 2 ^ 32

/-! ## Encoding ahead (R224) -/

/-- The track-in-band and the packed address of a frame that a write spot burns. -/
def Burn.track (b : Burn) (w : Nat) : Nat := 4 * w + b.rev
def Burn.addr (b : Burn) (t f : Nat) : Nat := packFrame b.side b.layer b.band t f

/-- The frame slot that a write spot encodes next. -/
def Burn.slotAt (b : Burn) (enc : Nat) : Nat := (b.slot0.getD 0 + b.rev + enc) % framesOf (zoneOf b.band)

/-- A period as a channel bit, if it carries one. -/
def WBit.bit? (b : WBit) : Option Bool := match b with | .bit v => some v | .wedge => none

/-- Encodes the next frame of a write spot behind what it has encoded. -/
def Dev.encodeFrame (d : Dev) (p : Nat) (b : Burn) (w : Nat) (x : WSpot) : WSpot × Dev :=
  let z := zoneOf b.band
  let f := b.slotAt x.enc
  let t := b.track w
  let addr := b.addr t f
  let cw := frameCodeword addr (d.burnWord b t f)
  let bits := frameBitsOf (d.flag Reg.WCH_CFG_DC_EN) x.rds cw
  let at0 := x.sent + x.buf.length
  let all := framePeriods z (f * frameBits) true bits
  let ps := if at0 = 0 then all.dropWhile fun q => !q.1 else all
  let (v, d) := d.strategy p b.layer z (if isLand (32 * b.band + t) then 1 else 0) addr
  let sy := symbolsOf (fun n m => v.getD (4 * (n - 1) + (m - 1)) 1) (fun n _ => v.getD (16 + (n - 1)) 0) (v.getD 20 2)
    (x.past.map .bit) (ps.map (·.2))
  ({ x with
    enc := x.enc + 1, rds := x.rds + digitalSum bits, past := ((ps.map fun q => q.2.mark).reverse ++ x.past).take 40,
    buf := x.buf ++ List.zipWith (fun (q : Bool × WBit) y => (if q.1 then some f else none, y)) ps sy,
    ends := x.ends ++ [⟨f, at0, at0 + ps.length, x.rds, ps.map fun q => q.2.bit?⟩] }, d)

/-- Keeps at least one whole frame encoded ahead (R224). -/
def Dev.encodeAhead (d : Dev) (p : Nat) (b : Burn) (w : Nat) : Nat → WSpot → WSpot × Dev
  | 0, x => (x, d)
  | n + 1, x =>
    if x.enc < framesOf (zoneOf b.band) && decide (x.buf.length < frameBits + 4096) then
      let (x, d) := d.encodeFrame p b w x
      d.encodeAhead p b w n x
    else (x, d)

/-- Sends the WRITE cells of a write spot that bring it to HI symbols ahead of emission, so that it holds more than LO as
long as symbols are encoded (R95, R226). The last cell of a revolution is filled with ungated periods. A cell has one
gate for 128 periods: where it holds gated and ungated ones the model gives it gate 1 (the model's choice,
assumption 76). -/
def Dev.sendCells (d : Dev) (p w : Nat) : Nat → WSpot → WSpot × Dev
  | 0, x => (x, d)
  | n + 1, x =>
    if x.buf.isEmpty || decide (d.rd Reg.WCH_FIFO_HI < x.sent + 128 - x.emitted / 2 ^ 32) then (x, d)
    else
      let l := x.buf.take 128
      let cell := (l.map (·.2)) ++ List.replicate (128 - l.length) 0
      let d := d.sendDown p (.write w (l.any fun q => q.1.isSome) x.seq cell)
      d.sendCells p w n { x with buf := x.buf.drop 128, seq := (x.seq + 1) % 512, sent := x.sent + 128 }

/-- The write spot `w` of a burn. -/
def emptyWSpot : WSpot :=
  { enc := 0, rds := 0, past := [], buf := [], seq := 0, sent := 0, emitted := 0, start := 0, written := 0, ends := [],
    off := true, done := [], lost := [] }
def Burn.ws (b : Burn) (w : Nat) : WSpot := b.spots.getD w emptyWSpot
def Burn.setWs (b : Burn) (w : Nat) (x : WSpot) : Burn := { b with spots := b.spots.set w x }

/-! ## Where the write spots are (R223) -/

/-- The servo engine of a pickup. -/
def Dev.svo (d : Dev) (p : Nat) : Servo := mget d.servos Servo.reset p

/-- Sets the servo engine of a pickup. -/
def Dev.setSvo (d : Dev) (p : Nat) (x : Servo) : Dev := { d with servos := mset d.servos Servo.reset p x }

/-- The speed of a pickup's disc: 1 is burn speed. -/
def Dev.svoSpeed (d : Dev) (p : Nat) : Nat := d.rd Reg.SVO_STATE_SPEED p

/-- The sample index at which write spot `w` reaches a stream position of its track, from the last wedge of spot 16,
rounded once to the nearest (R145, R223). -/
def Dev.writeReaches (d : Dev) (p w zone track k : Nat) : Nat :=
  let seg := segmentOf zone k
  let pw : Int := d.rd Reg.SVO_PW_PW p
  let ahead : Int := (seg + 512 - d.rd Reg.SVO_WEDGE_INDEX p) % 512
  -- the data segment fills 39/40 of the interval after its wedge
  let whole : Int := (framesOf zone * frameBits : Nat)
  let n := (((d.svo p).wtime : Int) * 16 + ahead * pw) * (40 * whole)
    + pw * (whole + 39 * ((k : Int) * 512 - (seg : Int) * whole))
  let m := 40 * whole * 256
  let q := delayQuot (writeOffset w) track (d.svoSpeed p)
  ((2 * (n * q.2 + q.1 * m) + m * q.2) / (2 * m * q.2)).toNat

/-! ## Failures -/

/-- A frame whose emission has begun. -/
def WSpot.begun (x : WSpot) (e : WFrame) : Bool := decide (e.first * 2 ^ 32 < x.emitted)

/-- A write spot stops: what it has encoded beyond the frame in emission is taken back, and the running digital sum is
that of the bits written (R214): bits that fell in a superframe without write_en are none. -/
def WSpot.stopped (x : WSpot) : WSpot :=
  let now := x.written / 2 ^ 32
  let cut := x.ends.filter x.begun
  let rds := match x.ends with
    | [] => x.rds
    | e :: _ => e.rds + (cut.map fun e => digitalSum ((e.bits.take (now - e.first)).filterMap id)).sum
  { x with enc := x.enc - (x.ends.length - cut.length), rds := rds, past := [], buf := [], ends := [], off := true,
           lost := x.lost ++ cut.map (·.slot) }

/-- A write spot stops, and the frame that it has begun and not emitted in full fails (R227, R232). -/
def Dev.failUnfinished (d : Dev) (p w : Nat) : Dev :=
  match d.burn p with
  | none => d
  | some b =>
    let x := b.ws w
    let l := (x.ends.filter x.begun).map (·.slot)
    let d := d.setBurn p (some (b.setWs w x.stopped))
    l.foldl (fun d f => d.drawFail p (b.addr (b.track w) f) 1) d

/-- The frame that a write spot is at: the one in emission, or the next to be emitted. -/
def Burn.frameAt (b : Burn) (w : Nat) : Nat :=
  let x := b.ws w
  b.addr (b.track w) (match x.ends with | e :: _ => e.slot | [] => b.slotAt x.enc)

/-- A write-symbol supply miss of write spot `w` is reported (R232, R233): a reported underrun, or a lane that is lost, sets
UNDERRUN in place of SUPPLY_MISS. -/
def Dev.missReport (d : Dev) (p w addr : Nat) (underrun : Bool) : Dev :=
  let d := d.setErr (if underrun then Reg.WCH_ERR_UNDERRUN else Reg.WCH_ERR_SUPPLY_MISS) 0 0 p addr
  (d.bump Reg.WCH_CNT_MISS_COUNT).miss 5 (8 * p + w)

/-- WRITE ABORT for write spots of a pickup: a CONTROL cell of its owner (R265). -/
def Dev.writeAbort (d : Dev) (p mask : Nat) : Dev := if d.owns p then d.ctl p (.writeAbort mask) else d

/-- A write-symbol supply miss of write spot `w` (R232, R233): the spot is aborted, its unfinished frame fails and the
miss is reported. -/
def Dev.supplyMiss (d : Dev) (p w : Nat) (underrun : Bool) : Dev :=
  match d.burn p with
  | none => d
  | some b =>
    if (b.ws w).off then d
    else ((d.writeAbort p (2 ^ w)).failUnfinished p w).missReport p w (b.frameAt w) underrun

/-- Whether the pass of write spot `w` over frame slot `f` of its track overlaps the samples from `a` to `b`: the time since
the frame's first bit last passed the spot, against the length of the window and of the frame. -/
def Dev.sweeps (d : Dev) (p w zone track f a b : Nat) : Bool :=
  let rev : Int := (2 * d.rd Reg.SVO_PW_PW p : Nat)
  let first : Int := d.writeReaches p w zone track (f * frameBits)
  let last : Int := d.writeReaches p w zone track ((f + 1) * frameBits - 1)
  rev != 0 && decide (((b : Int) - first) % rev ≤ (b : Int) - a + (last - first) % rev)

/-- write_en has fallen (R227): every frame left incomplete fails, and every frame of an adjacent track already
written that overlaps the angle from superframe `okSf`, the last within tracking limits, to the ACTUATOR cell of
superframe `sf`, which clears write_en at microslot 1 (R97); WRITE ABORT goes to the pickup. A frame cut is recorded: the
record names the first. -/
def Dev.writeCut (d : Dev) (p okSf sf : Nat) : Dev :=
  match d.burn p with
  | none => d
  | some b =>
    if !b.on then d
    else
      let z := zoneOf b.band
      let cut := (List.range 8).find? fun w => (b.ws w).ends.any (b.ws w).begun
      let near (w : Nat) : List (Nat × Nat) :=
        let t := b.track w
        let hit := (List.range (framesOf z)).filter fun f =>
          d.sweeps p w z (32 * b.band + t) f (4000 * okSf) (4000 * sf + 500)
        ((if 0 < b.rev then [t - 1] else []) ++ (if b.rev = 3 && t < 31 then [t + 1] else [])).flatMap fun u =>
          hit.map fun f => (u, f)
      let adj := (List.range 8).flatMap near
      let d := d.writeAbort p 0xFF
      let d := match cut with
        | some w => d.setErr Reg.WCH_ERR_WRITE_CUT 0 0 p (b.frameAt w)
        | none => d
      let d := d.each 8 fun d w => d.failUnfinished p w
      adj.foldl (fun d q => d.drawFail p (b.addr q.1 q.2) 1) d

/-- A burn ends before its band is complete (R228): every frame not yet verified fails, and the band is
damaged (R520). -/
def Dev.burnEnd (d : Dev) (p : Nat) : Dev :=
  match d.burn p with
  | none => d
  | some b =>
    let z := zoneOf b.band
    let d := (List.range 32).foldl (fun d t => (List.range (framesOf z)).foldl (fun d f =>
      match d.burn p with
      | some b' => if b'.passed.contains (b.addr t f) then d else d.drawFail p (b.addr t f) 1 false
      | none => d) d) d
    let d := (d.setBurn p none).wr Reg.SVO_STATE_BURN 0 p
    let d := match d.spindleOfDisc b.disc with
      | some sp => d.damageBand sp b.side b.layer b.band
      | none => d
    d.checkpoint

/-- Emission goes on at the write clock through superframe `sf`. -/
def WSpot.emit (x : WSpot) (sf inc : Nat) : WSpot :=
  { x with emitted := x.emitted + min 4000 (4000 * (sf + 1) - x.start) * inc }

/-- The supply of write spot `w` at the start of superframe `sf` (R226): emission goes on at the write clock, and
symbols that superframe `sf` emits must have been sent before it. A superframe without write_en cuts the frame that it
falls in (R227). -/
def Dev.supply (d : Dev) (p sf w : Nat) (late we : Bool) : Dev :=
  match d.burn p with
  | none => d
  | some b =>
    let x := b.ws w
    if !b.on || x.off then d
    else
      let y := x.emit sf (writeInc (zoneOf b.band) (d.rd Reg.SVO_PW_PW p))
      let y := if we then { y with written := min y.emitted (x.sent * 2 ^ 32) } else y
      let ended := x.buf.isEmpty && decide (framesOf (zoneOf b.band) ≤ x.enc)
      if late || (!ended && decide (x.sent * 2 ^ 32 < y.emitted)) then
        (d.setBurn p (some (b.setWs w { y with emitted := min y.emitted (x.sent * 2 ^ 32) }))).supplyMiss p w false
      else if !we then
        let d := d.setBurn p (some (b.setWs w y))
        if y.ends.any y.begun then
          ((d.writeAbort p (2 ^ w)).setErr Reg.WCH_ERR_WRITE_CUT 0 0 p (b.frameAt w)).failUnfinished p w
        else d
      else
        let fin := y.ends.filter fun q => decide (q.last * 2 ^ 32 ≤ y.emitted)
        let x := { y with done := (fin.map (·.slot)).reverse ++ y.done,
                          ends := y.ends.filter fun q => decide (y.emitted < q.last * 2 ^ 32) }
        let d := d.bump Reg.WCH_CNT_FRAMES_COUNT fin.length
        let (x, d) := d.encodeAhead p b w 4 x
        let (x, d) := d.sendCells p w 64 x
        match d.burn p with
        | some b => d.setBurn p (some (b.setWs w x))
        | none => d

/-- Emission of every write spot through a superframe that carries no symbols (R27, R227). -/
def Dev.emitOnly (d : Dev) (p sf : Nat) : Dev :=
  match d.burn p with
  | none => d
  | some b =>
    if !b.on then d
    else
      let inc := writeInc (zoneOf b.band) (d.rd Reg.SVO_PW_PW p)
      d.setBurn p (some { b with spots := b.spots.map fun x => if x.off then x else x.emit sf inc })

/-- Write spot `w` starts writing at frame slot `slot` with its first bit at sample index `start` (R223, R225): its FIFO is
filled and WRITE START is sent, once it holds the symbols of the whole frame and LO more (R232). On a lost downstream
lane the burst is a supply miss (R120). -/
def Dev.writeStart (d : Dev) (p w slot start : Nat) : Dev :=
  match d.burn p with
  | none => d
  | some b =>
    let fz := framesOf (zoneOf b.band)
    let x := { b.ws w with
      enc := (slot + fz - b.slotAt 0) % fz, off := false, past := [], buf := [], ends := [], sent := 0, emitted := 0,
      start := start, written := 0 }
    if (d.port p).lostDn.getLsbD (w / 4) then d.missReport p w (b.addr (b.track w) slot) true
    else
      let (x, d) := d.encodeAhead p b w 4 x
      let whole := match x.ends with | e :: _ => e.last | [] => 0
      if x.buf.length < whole + d.rd Reg.WCH_FIFO_LO && decide (x.enc < fz) then d
      else
        let d := d.ctl p (.writeStart (2 ^ w) (start % 2 ^ 48))
        let (x, d) := d.sendCells p w 64 x
        match d.burn p with
        | some b => d.setBurn p (some (b.setWs w x))
        | none => d

/-! ## Which band is burned next (R224, R517, R535, R541, R542) -/

/-- The position in the side sequence of the first slot of a user band. -/
def slotBase (r layer band : Nat) : List (Nat × Nat) → Nat → Nat
  | [], n => n
  | (l, z) :: t, n =>
    let (b, k) := userBands r l z
    if l = layer && z = zoneOf band then n + (band - b) * clustersOf z else slotBase r layer band t (n + k * clustersOf z)

/-- The stripe at a slot of a volume: one placed there, or the one that the sequence puts there. -/
def Dev.stripeOfSlot (d : Dev) (s : DiscSet) (vol slot : Nat) : Option Nat :=
  match d.set.stripes.find? (fun e => decide (e.1 / 2 ^ 32 = vol) && (match e.2 with | some t => t.slot == slot | none => false)) with
  | some e => some (e.1 % 2 ^ 32)
  | none =>
    if isReserveBand s.reserve (caLayer slot) (caBand slot) then none
    else
      let n := 2 * (slotBase s.reserve (caLayer slot) (caBand slot) sequenceOrder 0 + caCluster slot) + caSide slot
      if d.slotOf s vol n = slot then some n else none

/-- The user bands of a side in burn order. -/
def userBandOrder (r : Nat) : List (Nat × Nat) :=
  sequenceOrder.flatMap fun q =>
    let (b, n) := userBands r q.1 q.2
    (List.range n).map fun i => (q.1, b + i)

/-- The slots of a band. -/
def bandSlots (side layer band : Nat) : List Nat :=
  (List.range (clustersOf (zoneOf band))).map fun c => packCluster side layer band c

/-- Whether the stripes of the slots of a band are full; a slot that no stripe uses any more is dead. -/
def Dev.bandFull (d : Dev) (s : DiscSet) (vol : Nat) (slots : List Nat) : Bool :=
  slots.all fun a => match d.stripeOfSlot s vol a with
    | some n => d.stripeFull s vol n
    | none => true

/-- A COMMIT or SEAL VOLUME waits for a commit on this side (R517, R522). -/
def Dev.commitWaits (d : Dev) (vol : Nat) : Bool :=
  (d.waiting fun w => w == .recorded || w == .setCommit vol).any fun c =>
    match d.ctx c with | some k => k.e.volume.toNat == vol | none => false

/-- The clusters of a band as a member burns them, by cluster number. -/
def Dev.bandClusters (d : Dev) (s : DiscSet) (vol m side layer band : Nat) : List (Nat × List (List Byte)) :=
  let zero (c : Nat) : Nat × List (List Byte) := (c, clZero)
  if isSpareBand band then
    (d.replacedIn vol m side layer band).map fun r => (caCluster r.new, d.clusterWords s vol r.stripe m)
  else
    (bandSlots side layer band).map fun a =>
      match d.stripeOfSlot s vol a with
      | some n => (caCluster a, d.clusterWords s vol n m)
      | none => zero (caCluster a)

/-- The next band that the Crystalliser presents for a side of a disc: a spare band that is due, a reserve band
that is due, or the next blank user band whose stripes are full. -/
def Dev.nextBand (d : Dev) (x : Disc) (s : DiscSet) (vol m side : Nat) : Option (Nat × Nat) :=
  -- the last replaced and anew stripes of a reshape's new set wait for nothing else
  let waits := d.commitWaits vol || (decide (65536 ≤ vol) && d.set.stripes.all fun e => match e.2 with
    | some t => e.1 / 2 ^ 32 != vol || t.burned != 0 || isReserveBand s.reserve (caLayer t.slot) (caBand t.slot)
    | none => true)
  let spares := (d.set.remaps.filter fun r => r.vol == vol && r.member == some m && caSide r.new == side
    && x.band side (caLayer r.new) (caBand r.new) == 0).map fun r => (caLayer r.new, caBand r.new)
  let spare := spares.find? fun q => waits
    || decide ((d.replacedIn vol m side q.1 q.2).length = clustersOf (zoneOf q.2))
  let reserve := ((List.range 24).flatMap fun z => let (b, n) := reserveBands s.reserve z; (List.range n).map (b + ·)).find?
    fun b => x.band side 3 b == 0
  let resDue := match reserve with
    | none => none
    | some b =>
      let used := (bandSlots side 3 b).filter fun a => (d.stripeOfSlot s vol a).isSome
      if used.isEmpty || !d.bandFull s vol used then none
      else if waits || used.length = clustersOf (zoneOf b) then some (3, b) else none
  let user := (userBandOrder s.reserve).find? fun q => x.band side q.1 q.2 == 0
  match spare with
  | some q => some q
  | none =>
    match resDue with
    | some q => some q
    | none =>
      match user with
      | some q => if d.bandFull s vol (bandSlots side q.1 q.2) then some q else none
      | none => none

/-! ## Rebuilds (R551) -/

/-- The bands of a side that a rebuild has yet to burn on its spare, in band order, the reserve last: those with a stripe
burned on a survivor and not on the spare. -/
def Dev.rebuildLeft (d : Dev) (x : Disc) (s : DiscSet) (vol m side : Nat) : List (Nat × Nat) :=
  let slots := d.set.stripes.filterMap fun e =>
    match e.2 with
    | some t =>
      if e.1 / 2 ^ 32 = vol && t.burned != 0 && !t.burned.testBit m && caSide t.slot == side then
        some (caLayer t.slot, caBand t.slot)
      else none
    | none => none
  let reserve := (List.range 24).flatMap fun z =>
    let (b, n) := reserveBands s.reserve z
    (List.range n).map fun i => (3, b + i)
  (userBandOrder s.reserve ++ reserve).filter fun q => slots.contains q && x.band side q.1 q.2 == 0

/-- The stripes of a band that the spare's cluster is recovered for: those that a survivor has burned. -/
def Dev.rebuildStripesIn (d : Dev) (s : DiscSet) (vol side layer band : Nat) : List (Nat × Nat) :=
  (bandSlots side layer band).filterMap fun a =>
    match d.stripeOfSlot s vol a with
    | some n => (match d.stripe vol n with | some t => if t.burned != 0 then some (a, n) else none | none => none)
    | none => none

/-- A rebuild reads ahead of the spare's burn: the clusters of the next bands of each side are recovered (R551). -/
def Dev.rebuildWant (d : Dev) (vol m : Nat) : Dev :=
  match d.volSet vol with
  | none => d
  | some s =>
    let disc := (s.members.getD m (0, 0)).1
    match d.spindleOfDisc disc with
    | none => d.mediaRequest vol m
    | some sp =>
      match d.disc sp with
      | none => d
      | some x =>
        (List.range 2).foldl (fun d side =>
          ((d.rebuildLeft x s vol m side).take (d.rd Reg.SET_CFG_REBUILD_AHEAD + 1)).foldl (fun d q =>
            (d.rebuildStripesIn s vol side q.1 q.2).foldl (fun d r =>
              if (d.guestWords disc r.1).isSome
                  || d.set.recovs.any (fun q => q.vol == vol && q.stripe == r.2 && q.member == m) then d
              else d.recover { vol := vol, stripe := r.2, member := m, got := [], bad := [], ctxs := [] }) d) d) d

/-- The band that a rebuild presents for a side of its spare: a spare band that is due, or the next band once every cluster
of it is recovered. A slot that holds no stripe burns as pad LBs. -/
def Dev.rebuildBand (d : Dev) (x : Disc) (s : DiscSet) (vol m side : Nat) :
    Option (Nat × Nat × List (Nat × List (List Byte))) :=
  let left := d.rebuildLeft x s vol m side
  let spare := (d.set.remaps.filter fun r => r.vol == vol && r.member == some m && caSide r.new == side
    && x.band side (caLayer r.new) (caBand r.new) == 0).find? fun r => left.isEmpty || decide
      ((d.replacedIn vol m side (caLayer r.new) (caBand r.new)).length = clustersOf (zoneOf (caBand r.new)))
  match spare with
  | some r => some (caLayer r.new, caBand r.new, (d.replacedIn vol m side (caLayer r.new) (caBand r.new)).map fun q =>
      (caCluster q.new, (d.guestWords x.id q.new).getD clZero))
  | none =>
    match left with
    | [] => none
    | (l, b) :: _ =>
      if (d.rebuildStripesIn s vol side l b).all fun r => (d.guestWords x.id r.1).isSome then
        some (l, b, (bandSlots side l b).map fun a => (caCluster a, (d.guestWords x.id a).getD clZero))
      else none

/-- A rebuild has burned every stripe of its survivors on the spare, and every replacement. -/
def Dev.rebuildDone (d : Dev) (x : Disc) (s : DiscSet) (vol m : Nat) : Bool :=
  (List.range 2).all fun side => (d.rebuildLeft x s vol m side).isEmpty
    && d.set.remaps.all fun r => r.vol != vol || r.member != some m || x.band (caSide r.new) (caLayer r.new) (caBand r.new) != 0

/-! ## The copy of a reshape (R556) -/

/-- One more than the last stripe of the new set that holds an LB of the volume. -/
def Dev.copyTop (d : Dev) (s t : DiscSet) (vol : Nat) : Nat :=
  let burned := d.set.stripes.map fun e => match e.2 with
    | some y => if e.1 / 2 ^ 32 = vol && y.burned != 0 then (t.place (16 * s.k * (e.1 % 2 ^ 32 + 1) - 1)).1 + 1 else 0
    | none => 0
  let staged := d.sal.idx.map fun e => if e.vol = vol && !e.mirror then (t.place e.lba).1 + 1 else 0
  (burned ++ staged).foldl max 0

/-- The next band of a side of the new set that some member has yet to burn, among those that hold a stripe to copy. -/
def Dev.copyBand (d : Dev) (t : DiscSet) (key top side : Nat) : Option (Nat × Nat) :=
  if top = 0 then none
  else (userBandOrder t.reserve).find? fun q => (bandSlots side q.1 q.2).any fun a =>
    match d.stripeOfSlot t key a with
    | some n =>
      decide (n < top) && (match d.stripe key n with
        | some y => (List.range t.w).any fun m => !y.burned.testBit m
        | none => true)
    | none => false

/-- Gathers a stripe of the new set: each LB that is not staged is read from the old set, and one that was never written
is a pad LB. -/
def Dev.copyStripe (d : Dev) (s t : DiscSet) (vol n : Nat) : Dev :=
  let key := vol + 65536
  (List.range (16 * t.k)).foldl (fun (d : Dev) x =>
    let lba := 16 * t.k * n + x
    let y := (d.stripe key n).getD (Stripe.fresh (d.slotOf t key n))
    if y.burned != 0 || d.lbReady t key n x then d
    else
      match d.burnedGen s vol lba with
      | some _ =>
        let (n', i, _, _) := s.place lba
        d.readCluster s vol n' i []
      | none => d.putStripe key n (some { y with pads := y.pads ++ [x] })) d

/-- A reshape gathers the next band of each side of the new set. -/
def Dev.reshapeWant (d : Dev) (vol : Nat) : Dev :=
  let key := vol + 65536
  match d.volSet vol, d.volSet key with
  | some s, some t =>
    let d := (List.range t.w).foldl (fun d m =>
      if (d.spindleOfDisc (t.members.getD m (0, 0)).1).isNone then d.mediaRequest key m else d) d
    let top := d.copyTop s t vol
    (List.range 2).foldl (fun d side =>
      match d.copyBand t key top side with
      | some (l, b) => (bandSlots side l b).foldl (fun d a =>
          match d.stripeOfSlot t key a with
          | some n => d.copyStripe s t vol n
          | none => d) d
      | none => d) d
  | _, _ => d

/-- Every new stripe is recorded on every new member. -/
def Dev.reshapeDone (d : Dev) (vol : Nat) : Bool :=
  let key := vol + 65536
  match d.volSet vol, d.volSet key with
  | some s, some t =>
    let top := d.copyTop s t vol
    (d.copyBand t key top 0).isNone && (d.copyBand t key top 1).isNone
      && d.set.stripes.all fun e => match e.2 with | some y => e.1 / 2 ^ 32 != key || y.released | none => true
  | _, _ => false

/-- The band that the Crystalliser presents for a pickup, with the member and the clusters: a band of its own set,
or of a disc of a set homed at the peer, once the peer has sent every cluster (R542). -/
def Dev.presented (d : Dev) (p : Nat) (x : Disc) : Option (Nat × Nat × Nat × Nat × List (Nat × List (List Byte))) :=
  match x.member with
  | none => none
  | some (vol, m) =>
    match d.volSet vol with
    | none => none
    | some s =>
      if s.offline || s.reshaping || x.sideClosed (sideOf p) || x.foreign then none
      else if s.rebuilding.contains m then
        (d.rebuildBand x s vol m (sideOf p)).map fun q => (vol, m, q.1, q.2.1, q.2.2)
      else if s.failed.contains m then none
      else if s.home then
        (d.nextBand x s vol m (sideOf p)).map fun q => (vol, m, q.1, q.2, d.bandClusters s vol m (sideOf p) q.1 q.2)
      else
        let mine := d.set.guest.filter fun g => g.1 == x.id && caSide g.2.1 == sideOf p
        match mine with
        | [] => none
        | g :: _ =>
          let layer := caLayer g.2.1
          let band := caBand g.2.1
          let l := mine.filter fun q => caLayer q.2.1 == layer && caBand q.2.1 == band
          let whole := if isSpareBand band then (d.replacedIn vol m (sideOf p) layer band).length else clustersOf (zoneOf band)
          if x.band (sideOf p) layer band == 0 && decide (l.length = whole) then
            some (vol, m, layer, band, l.map fun q => (caCluster q.2.1, q.2.2))
          else none

end Sys2Proof.Machine
end

