-- ==== Sys2Proof/Machine/ServoBase.lean ====
section
/-! DEFINITION. What others do to a servo engine: its state and errors, and how it stops (R263 to R272, R303,
R342). -/

namespace Sys2Proof.Machine

open Sys2Proof

/-- The state of Table 7-5. -/
def Dev.svoState (d : Dev) (p : Nat) : Nat := d.rd Reg.SVO_STATE_STATE p

/-- Sets the state of Table 7-5. -/
def Dev.setSvoState (d : Dev) (p st : Nat) : Dev := d.wr Reg.SVO_STATE_STATE st p

/-- The engine runs: states 1 to 6. -/
def Dev.svoRuns (d : Dev) (p : Nat) : Bool := decide (1 ≤ d.svoState p) && decide (d.svoState p ≤ 6)

/-- The mode field of a loop (Table 7-11). -/
def modeFld (l : Nat) : Fld :=
  match l with
  | 0 => Reg.SVO_MODE_LOOP0 | 1 => Reg.SVO_MODE_LOOP1 | 2 => Reg.SVO_MODE_LOOP2 | 3 => Reg.SVO_MODE_LOOP3
  | _ => Reg.SVO_MODE_LOOP4

/-- The mode of a loop: 0 OFF, 1 MANUAL, 2 AUTO, 3 BRIDGE. -/
def Dev.loopMode (d : Dev) (p l : Nat) : Nat := d.rd (modeFld l) p

/-- Sets the mode of a loop. -/
def Dev.setLoopMode (d : Dev) (p l m : Nat) : Dev :=
  let d := d.wr (modeFld l) m p
  if m = 2 then d
  else
    let x := d.svo p
    d.setSvo p { x with broke := if x.broke.contains l then x.broke else x.broke ++ [l] }

/-- A loop of an engine. -/
def Servo.loop (x : Servo) (l : Nat) : Loop := x.loops.getD l Loop.reset

/-- Sets a loop of an engine. -/
def Servo.setLoop (x : Servo) (l : Nat) (v : Loop) : Servo := { x with loops := x.loops.set l v }

/-- Puts a loop into MANUAL at a value in 1/65536 output unit. -/
def Dev.manual (d : Dev) (p l : Nat) (v : Int) : Dev :=
  let d := d.setLoopMode p l 1
  let x := d.svo p
  d.setSvo p (x.setLoop l { x.loop l with man := v, bump := false })

/-- The packed frame address of spot 16 as the engine knows it: side and layer, the track of the last burst position, and the
frame that the last wedge lies in. -/
def Dev.svoFrame (d : Dev) (p : Nat) : Nat :=
  let t := d.rd Reg.SVO_POS_TRACK p
  packFrame (d.rd Reg.SVO_STATE_SIDE p) (d.rd Reg.SVO_STATE_LAYER p) (t / 32) (t % 32)
    (d.rd Reg.SVO_WEDGE_INDEX p * framesOf (min 23 (zoneOf (t / 32))) / 512)

/-- Sets an SVO_ERR bit: at most one record per pickup and revolution, with the packed frame address of spot 16 (R287). A
revolution ends at the index wedge, and without one after the time of 512 wedge periods: 0.64 ns for each 1/256 sample of P_w.
-/
def Dev.svoErr (d : Dev) (f : Fld) (p : Nat) : Dev :=
  let key := f.key p 0
  let x := d.svo p
  let now := d.now.toNat
  let pw := d.rd Reg.SVO_PW_PW p
  let rev := 64 * (if pw = 0 then 12500000 else pw) / 100
  if x.errAt.any fun q => q.1 == key && decide (now < q.2 + rev) then d.wr f 1 p
  else
    let d := d.setErr f 0 p p (d.svoFrame p)
    d.setSvo p { d.svo p with errAt := ((d.svo p).errAt.filter fun q => q.1 != key) ++ [(key, now)] }

/-- T* and VERIFIED. -/
def Dev.svoTarget (d : Dev) (p : Nat) : Nat := d.rd Reg.SVO_TARGET_TRACK p
def Dev.verified (d : Dev) (p : Nat) : Bool := d.flag Reg.SVO_POS_VERIFIED p
def Dev.setVerified (d : Dev) (p : Nat) (v : Bool) : Dev := d.wr Reg.SVO_POS_VERIFIED (if v then 1 else 0) p
def Dev.svoBurn (d : Dev) (p : Nat) : Bool := d.flag Reg.SVO_STATE_BURN p

/-- write_en falls (R272): while the write channel requests writing, WRITE_OFF is set and counted, and the
write channel acts under R227. The ACTUATOR cell of superframe `sf` clears it. -/
def Dev.writeOffAt (d : Dev) (p sf : Nat) : Dev :=
  let x := d.svo p
  if !x.we then d
  else
    let d := d.setSvo p { x with we := false }
    if d.svoBurn p then
      ((d.svoErr Reg.SVO_ERR_WRITE_OFF p).bump Reg.SVO_CNT_D_WRITE_OFF 1 p).writeCut p x.okSf sf
    else d

/-- write_en falls with the next ACTUATOR cell. -/
def Dev.writeOff (d : Dev) (p : Nat) : Dev := d.writeOffAt p ((d.port p).sf + 1)

/-- The pickup is reported off track. -/
def Dev.offTrack (d : Dev) (p : Nat) : Dev :=
  let d := (d.writeOff p).spotsIdle p
  d.setSvo p { d.svo p with told := false }

/-! ## Commands that wait on a pickup -/

/-- Whether a wait is on pickup `p`. -/
def waitsOn (p : Nat) (w : Wait) : Bool :=
  match w with
  | .focused q | .facqEnd q | .onTrack q => q == p
  | .seekLater q _ _ => q == p
  | .servoLater q _ => q == p
  | .calib m => m.testBit p
  | _ => false

/-- The commands waiting on a pickup complete with a status: those that wait for its servo or calibration,
and the READs that wait for clusters of its side. -/
def Dev.failPickup (d : Dev) (p st : Nat) : Dev :=
  let d := d.completeAll (waitsOn p) st
  match d.disc (spindleOf p) with
  | none => d
  | some x =>
    let mine := d.set.wants.filter fun q => q.1 == x.id && caSide q.2.1 == sideOf p
    let rest := d.set.wants.map fun (q : Nat × Nat × List Nat) =>
      if q.1 == x.id && caSide q.2.1 == sideOf p then (q.1, q.2.1, []) else q
    let d : Dev := { d with set := { d.set with wants := rest } }
    (mine.flatMap fun q => q.2.2).foldl (fun d c => d.complete c st) d

/-! ## Stopping -/

/-- A calibration run ends at once and commits nothing; its trigger stays pending (R342). -/
def Dev.calAbort (d : Dev) (p : Nat) : Dev :=
  let x := d.calPk p
  match x.run with
  | none => d
  | some r =>
    let d := d.setCalPk p { x with run := none, due := max x.due (if r.full then 2 else 1) }
    let busy := d.rd Reg.CAL_STATUS_BUSY
    let d := (d.wr Reg.CAL_STATUS_BUSY (busy - (busy &&& 2 ^ p))).wr Reg.CAL_PK_TEMP_PENDING 1 p
    d.calErr Reg.CAL_ERR_ABORTED p none

/-- The engine goes to OFF: every loop OFF, the read laser off, the spots idle. -/
def Dev.svoOff (d : Dev) (p : Nat) : Dev :=
  let d := (d.offTrack p).setSvoState p 0
  let d := d.each 5 fun d l => d.setLoopMode p l 0
  let x := d.svo p
  let d := d.setSvo p { x with
    phase := .none, t := 0, misses := 0, chRun := 0, held := true, search := none, pair := 0, cause := 0, want := none, resume := 0,
    jump := none, drives := [], later := [], cell := [0, 0, 0, 0, 0], faulting := false, leaving := 0 }
  -- the quantities are evaluated anew when the engine runs again (R336)
  let d := d.setCalPk p { d.calPk p with evalAt := none }
  let d := (d.setVerified p false).wr Reg.SVO_TARGET_VALID 0 p
  if x.leaving = 0 then d else d.burnEnd p

/-- The engine enters FAULT (R270): no loop runs, the waiting commands complete with MEDIA_ERROR, a calibration
run ends, and a burn ends with the watchdog's expiry (R228). -/
def Dev.svoFault (d : Dev) (p : Nat) : Dev :=
  if d.svoState p = 7 then d
  else
    let d := ((d.svoErr Reg.SVO_ERR_FAULT p).svoOff p).setSvoState p 7
    ((d.calAbort p).burnEnd p).failPickup p St.mediaError

/-- A servo procedure has failed: the waiting commands complete with MEDIA_ERROR (R483). -/
def Dev.svoFailed (d : Dev) (p : Nat) : Dev := d.failPickup p St.mediaError

/-- A spindle has stopped under the pickups (R303, R624): runs of calibration end, and the waiting commands complete with a
status. An engine that runs clears write_en with its next tick and goes to OFF once the cell of that tick is sent; its burn ends
then. -/
def Dev.spindleLost (d : Dev) (n st : Nat) : Dev :=
  [2 * n, 2 * n + 1].foldl (fun d p =>
    if d.hasPk p then
      let d := d.calAbort p
      let d := if d.svoRuns p then d.setSvo p { d.svo p with leaving := max 1 (d.svo p).leaving } else d.burnEnd p
      d.failPickup p st
    else d) d

/-- A HOLD cause holds (R267, R268). -/
def Dev.hold (d : Dev) (p cause : Nat) : Dev :=
  if d.svoState p = 6 || !d.svoRuns p then d
  else
    let d := d.offTrack p
    let d := ((d.setSvoState p 6).svoErr Reg.SVO_ERR_HOLD p).bump Reg.SVO_CNT_B_HOLD 1 p
    let x := d.svo p
    (d.setSvo p { x with cause := cause, absent := 0, hticks := 0, phase := .none, held := true }).setVerified p false

end Sys2Proof.Machine
end

