-- ==== Sys2Proof/Machine/Axes.lean ====
section
/-! DEFINITION. The stepper axes: planner, homing, coordinated moves, offload and the choppers (R315 to R329). -/

namespace Sys2Proof.Machine

open Sys2Proof

/-- An axis. -/
def Dev.axis (d : Dev) (a : Nat) : Axis := mget d.axes Axis.reset a

/-- Sets an axis; its position and velocity registers show it. -/
def Dev.setAxis (d : Dev) (a : Nat) (x : Axis) : Dev :=
  let d := { d with axes := mset d.axes Axis.reset a x }
  let d := ((d.wrAxS Reg.MOT_AX_POS_POS (x.pos / 65536) a).wrAxS Reg.MOT_AX_VEL_VEL (x.vel / 65536) a)
  if x.vel = 0 then d else d.wrAx Reg.MOT_AX_STATUS_DIR (if x.vel < 0 then 1 else 0) a

/-- MOT_AX_STATUS.STATE: 0 IDLE, 1 HOMING, 2 MOVING, 3 STOPPING, 4 FROZEN. -/
def Dev.axState (d : Dev) (a : Nat) : Nat := d.rdAx Reg.MOT_AX_STATUS_STATE a
def Dev.setAxState (d : Dev) (a st : Nat) : Dev :=
  -- a frozen axis stays so, whatever its move becomes, until it resumes (R329)
  if (mget d.chops Chop.reset (a / 2)).frozen then d.wrAx Reg.MOT_AX_STATUS_STATE 4 a else d.wrAx Reg.MOT_AX_STATUS_STATE st a

/-- An axis is homed (R320). -/
def Dev.homed (d : Dev) (a : Nat) : Bool := d.flagAx Reg.MOT_AX_STATUS_HOMED a

/-- Sets a MOT_AX_ERR bit. -/
def Dev.axErr (d : Dev) (f : Fld) (a : Nat) : Dev := d.setErrAt f 0 (a / 2) (a % 2) (0x100 + a) 0 [] false

/-- The target of an axis in microsteps. -/
def Dev.axTarget (d : Dev) (a : Nat) : Int := d.rdAxS Reg.MOT_AX_TGT_TARGET a

/-- A target clipped to the soft limits; LIMIT is set for one outside (R319). -/
def Dev.clipTarget (d : Dev) (a : Nat) (t : Int) : Int × Dev :=
  let lo := d.rdAxS Reg.MOT_AX_LIM_MIN_POS a
  let hi := d.rdAxS Reg.MOT_AX_LIM_MAX_POS a
  let t' := clampI lo hi t
  (t', if t' = t then d else d.axErr Reg.MOT_AX_ERR_LIMIT a)

/-- The winding current of an axis moves from reduced to I_RUN (R322): at full current a move may start. -/
def Axis.atCurrent (x : Axis) : Bool := x.low == 0

/-- Starts a profile to a target at once, or once the current has risen (R322). -/
def Dev.startMove (d : Dev) (a : Nat) (t vmax : Int) (kind : Nat) : Dev :=
  let x := d.axis a
  if x.atCurrent then
    let d := (d.setAxis a { x with vmax := vmax, kind := kind, next := none, lowering := false, rise := 0 }).wrAxS
      Reg.MOT_AX_TGT_TARGET t a
    d.setAxState a (if kind = 4 || kind = 5 then 1 else 2)
  else d.setAxis a { x with next := some (t, vmax, kind), rise := if x.rise = 0 then 1024 else x.rise, lowering := false }

/-- V_MAX in microsteps/s. -/
def Dev.vMax (d : Dev) (a : Nat) : Int := 16 * d.rdAx Reg.MOT_AX_VA_V_MAX a

/-- Commands that wait for an axis to arrive. -/
def axisWait (a : Nat) (w : Wait) : Bool := match w with | .axes l => l.contains a | _ => false

/-- A MOTION whose axis is retargeted completes with SUPERSEDED (R483). -/
def Dev.supersede (d : Dev) (a : Nat) : Dev := d.completeAll (axisWait a) St.superseded

/-- The coordinated move that an axis belongs to. -/
def Dev.groupOf (d : Dev) (a : Nat) : Option Coord := d.coords.find? fun c => c.axes.contains a

/-- A new target of an axis for a move of its kind: an unhomed axis refuses it (R320); a member of a
coordinated move makes the group come to rest and plan anew (R318). -/
def Dev.axisMove (d : Dev) (a : Nat) (t vmax : Int) (kind : Nat) : Dev :=
  if !d.homed a then d.axErr Reg.MOT_AX_ERR_NOT_HOMED a
  else
    let (t, d) := d.clipTarget a t
    match d.groupOf a with
    | none => d.startMove a t vmax kind
    | some g =>
      let goal := List.zipWith (fun b v => if b = a then t else v) g.axes g.goal
      let d := (d.wrAxS Reg.MOT_AX_TGT_TARGET t a).setAxState a 3
      { d with coords := d.coords.map fun c => if c == g then { g with halt := true, goal := goal } else c }

/-- Removes the coordinated moves of an axis. -/
def Dev.dropGroup (d : Dev) (a : Nat) : Dev :=
  match d.groupOf a with
  | none => d
  | some g =>
    let d := g.axes.foldl (fun d b => d.wrAx Reg.MOT_AX_STATUS_COORD 0 b) d
    { d with coords := d.coords.filter fun c => !c.axes.contains a }

/-- An axis becomes unhomed: its moves end, from motion at A_MAX as velocity is continuous (R316), and the commands that wait for
it complete with a status (R320). -/
def Dev.unhome (d : Dev) (a st : Nat) : Dev :=
  let d := d.dropGroup a
  let x := d.axis a
  let d := d.setAxis a { x with kind := if x.vel = 0 then 0 else 6, next := none, wait := false }
  let d := d.setAxState a (if x.vel = 0 then 0 else 3)
  let d := d.wrAx Reg.MOT_AX_STATUS_HOMED 0 a
  (d.completeAll (axisWait a) st).completeAll (fun w => w == .homed a) st

/-- HOME (R320): toward the negative stop for HOME_DIST microsteps at HOME_V, from the present velocity. -/
def Dev.home (d : Dev) (a : Nat) : Dev :=
  let d := ((d.dropGroup a).supersede a).wrAx Reg.MOT_AX_STATUS_HOMED 0 a
  let x := d.axis a
  let d := d.setAxis a { x with low := 0, lowering := false, next := none, rise := 0, wait := false, again := false }
  let d := d.wrAx Reg.MOT_AX_STATUS_REDUCED 0 a
  d.startMove a (x.pos / 65536 - d.rdAx Reg.MOT_AX_HOME2_HOME_DIST a) (d.rdAx Reg.MOT_AX_HOME_HOME_V a) 4

/-! ## The planner (R316, R317) -/

/-- What a velocity in 1/65536 microstep/s moves in one update of 20.48 µs. -/
def travel (v : Int) : Int := divR (v * 2048) 100000000

/-- One update of a trapezoidal profile toward a target (R317). All in 1/65536: position, velocity, target, speed limit; `a` is
the change of velocity in one update, which no update exceeds (R316): a target nearer than the stopping distance is passed, and
the profile comes back to it. -/
def profileStep (pos vel tgt vmax a : Int) : Int × Int :=
  let stop (v : Int) : Int := if a = 0 then 0 else divR (v * travel v) (2 * a)
  let s : Int := if tgt < pos then -1 else 1
  let along := vel * s
  if along < 0 then
    -- moving away: to rest first
    let v := if -along ≤ a then 0 else vel + s * a
    (pos + travel v, v)
  else
    let left := (tgt - pos) * s
    -- the velocity that reaches the target in this update
    let need := left * 100000000 / 2048
    if need ≤ a && along ≤ need + a then (tgt, s * need)
    else
      let up := if along ≤ vmax then min vmax (along + a) else max vmax (along - a)
      let v := if stop up + travel up ≤ left then up
        else if along ≤ vmax && stop along + travel along ≤ left then along
        else max (min a vmax) (along - a)
      (pos + s * travel v, s * v)

/-- The change of velocity in one update at A_MAX, in 1/65536 microstep/s. -/
def Dev.aStep (d : Dev) (a : Nat) : Int := divR ((d.rdAx Reg.MOT_AX_VA_A_MAX a : Int) * 256 * 65536 * 2048) 100000000

/-- An axis that moves by itself comes to rest at A_MAX. -/
def Dev.brakeAxis (d : Dev) (a : Nat) : Dev :=
  let x := d.axis a
  let s := d.aStep a
  let v := if x.vel.natAbs ≤ s then 0 else x.vel - s * x.vel.sign
  d.setAxis a { x with pos := x.pos + travel v, vel := v }

/-- An axis has arrived (R483): the commands that wait for it alone complete; homing ends or waits at the stop. -/
def Dev.arrived (d : Dev) (a : Nat) : Dev :=
  let x := d.axis a
  let d := d.setAxis a { x with kind := 0, vel := 0, wait := x.kind == 4 }
  if x.kind = 4 then d
  else
    let d := d.setAxState a 0
    let d := if x.kind = 5 then
        (d.wrAx Reg.MOT_AX_STATUS_HOMED 1 a).completeAll (fun w => w == .homed a) St.success
      else d
    (d.waiting (axisWait a)).foldl (fun d c =>
      match d.ctx c with
      | some k =>
        match k.wait with
        | .axes l => if l.all (· == a) then d.complete c St.success else d.await c (.axes (l.filter (· != a)))
        | _ => d
      | none => d) d

/-- The planner advances one axis that moves by itself. -/
def Dev.planAxis (d : Dev) (a : Nat) : Dev :=
  let x := d.axis a
  if x.kind = 0 || x.wait || d.axState a = 4 || (d.groupOf a).isSome then d
  else if x.kind = 6 then
    let d := d.brakeAxis a
    if (d.axis a).vel = 0 then (d.setAxis a { d.axis a with kind := 0 }).setAxState a 0 else d
  else
    let t := d.axTarget a * 65536
    let (pos, vel) := profileStep x.pos x.vel t (x.vmax * 65536) (d.aStep a)
    let d := d.setAxis a { x with pos := pos, vel := vel }
    if pos = t && vel = 0 then d.arrived a else d

/-- The limits of a coordinated move's path parameter, in 2^-40 per s and per update (R318). -/
def Dev.pathLimits (d : Dev) (g : Coord) : Int × Int :=
  let l := (List.zip g.axes g.dist).filter fun q => q.2 != 0
  let least (f : Nat × Int → Int) : Int := match l with | [] => 2 ^ 40 | q :: t => t.foldl (fun m r => min m (f r)) (f q)
  (least fun q => divR (d.vMax q.1 * 2 ^ 40) q.2.natAbs,
   least fun q => divR (d.aStep q.1 * 2 ^ 24) q.2.natAbs)

/-- A coordinated move from the present rest positions of its axes to targets. -/
def Dev.planGroup (d : Dev) (axes : List Nat) (goal : List Int) : Coord :=
  let x0 := axes.map fun a => (d.axis a).pos
  { axes := axes, x0 := x0, dist := List.zipWith (fun t x => t - x / 65536) goal x0, lam := 0, lv := 0, halt := false, goal := goal, leave := [] }

/-- A coordinated move of axes to targets (R318): it starts once they are at rest and at full current. A group that has some of
them comes to rest under its own limit and gives them up; what is left of it then goes on to its own targets. -/
def Dev.startGroup (d : Dev) (axes : List Nat) (goal : List Int) : Dev :=
  let d := axes.foldl (fun d a => d.supersede a) d
  let take (c : Coord) : Coord :=
    if c.axes.any axes.contains then
      { c with halt := true, leave := c.leave ++ axes.filter fun a => c.axes.contains a && !c.leave.contains a }
    else c
  let d := { d with coords := d.coords.map take }
  let d := (List.zip axes goal).foldl (fun d q =>
    let x := d.axis q.1
    let d := d.setAxis q.1 { x with
      kind := 1, next := none, vmax := d.vMax q.1, lowering := false,
      rise := if x.atCurrent then 0 else if x.rise = 0 then 1024 else x.rise }
    let d := (d.wrAxS Reg.MOT_AX_TGT_TARGET q.2 q.1).wrAx Reg.MOT_AX_STATUS_COORD 1 q.1
    d.setAxState q.1 2) d
  { d with coords := d.coords ++ [{
      axes := axes, x0 := axes.map fun a => (d.axis a).pos, dist := axes.map fun _ => 0, lam := 0, lv := 0, halt := true,
      goal := goal, leave := [] }] }

/-- A group at rest gives up the members that another move takes: two or more that are left go on together, one alone. -/
def Dev.splitGroup (d : Dev) (g : Coord) : Dev :=
  let l := (List.zip g.axes g.goal).filter fun q => !g.leave.contains q.1
  let axes := l.map (·.1)
  let d := g.axes.foldl (fun d a => d.setAxis a { d.axis a with vel := 0 }) d
  match axes with
  | [] => { d with coords := d.coords.filter (· != g) }
  | [a] =>
    let d : Dev := { d with coords := d.coords.filter (· != g) }
    (d.wrAx Reg.MOT_AX_STATUS_COORD 0 a).setAxState a 2
  | _ =>
    let n := d.planGroup axes (l.map (·.2))
    let d := axes.foldl (fun d a => d.setAxState a 2) d
    { d with coords := d.coords.map fun c => if c == g then n else c }

/-- The planner advances a coordinated move (R318). -/
def Dev.planCoord (d : Dev) (g : Coord) : Dev :=
  if g.axes.any fun a => d.axState a == 4 then d
  else
    let (vmax, a) := d.pathLimits g
    let (lam, lv) :=
      if g.halt then
        let v := max 0 (g.lv - a)
        (g.lam + travel v, v)
      else profileStep g.lam g.lv (2 ^ 40) vmax a
    let done := !g.halt && decide (lam = 2 ^ 40) && lv == 0
    let d := if g.halt && g.lv = 0 then g.axes.foldl (fun d b => if d.groupOf b == some g then d.brakeAxis b else d) d else (List.zip g.axes (List.zip g.x0 g.dist)).foldl (fun d q =>
      let x := d.axis q.1
      let pos := if done then (d.axTarget q.1) * 65536 else q.2.1 + divR (q.2.2 * 65536 * lam) (2 ^ 40)
      d.setAxis q.1 { x with pos := pos, vel := if done then 0 else divR (q.2.2 * 65536 * lv) (2 ^ 40) }) d
    let g' := { g with lam := lam, lv := lv }
    if done then
      let d := { d with coords := d.coords.filter (· != g) }
      g.axes.foldl (fun d a => (d.wrAx Reg.MOT_AX_STATUS_COORD 0 a).arrived a) d
    else if g.halt && lv = 0 then
      if !g.leave.isEmpty then d.splitGroup g
      else if g.axes.all fun a => (d.axis a).vel == 0 && (d.axis a).atCurrent && d.groupOf a == some g then
        let n := d.planGroup g.axes g.goal
        let d := g.axes.foldl (fun d a => d.setAxState a 2) d
        { d with coords := d.coords.map fun c => if c == g then n else c }
      else { d with coords := d.coords.map fun c => if c == g then g' else c }
    else { d with coords := d.coords.map fun c => if c == g then g' else c }

/-- The planner advances every axis (R316); the positions of the last update are those from which the slots interpolate. -/
def Dev.plan (d : Dev) : Dev :=
  let d := d.each 32 fun d a => if d.hasAx a then d.setAxis a { d.axis a with back := (d.axis a).pos } else d
  let d := d.each 16 fun d p => if d.hasPk p then { d with chops := mset d.chops Chop.reset p { mget d.chops Chop.reset p with part := 0 } } else d
  (d.coords.foldl (fun d g => d.planCoord g) d).each 32 fun d a => if d.hasAx a then d.planAxis a else d

/-! ## Sled position (R321), offload (R323) and table indices (R324) -/

/-- The sled position that the track and the coil imply, in microsteps: the reference and the coil's gain (nm per
output unit, in 1/65536) are calibrated. -/
def Dev.impliedSled (d : Dev) (p : Nat) : Int :=
  let v := (d.calValue qSled p).getD [Config.calDefault qSled 0, Config.calDefault qSled 1]
  let coil := divR (((d.svo p).loop 1).uPrev * v.getD 1 0) (65536 * 65536)
  v.getD 0 0 + divR (120 * (d.rd Reg.SVO_POS_TRACK p : Int) - coil) (d.rdAx Reg.MOT_AX_CFG_STEP (2 * p))

/-- On a verified track the sled position is rebased, or the axis is unhomed on a mismatch (R321). -/
def Dev.sledCheck (d : Dev) (p : Nat) : Dev :=
  let a := 2 * p
  if !(d.homed a && d.svoState p == 5 && d.verified p) then d
  else
    let x := d.axis a
    let want := d.impliedSled p
    let diff := want - x.pos / 65536
    if diff.natAbs ≤ d.rdAx Reg.MOT_AX_OFFV_POS_TOL a then
      -- the planner's position is corrected; a group that the axis moves in plans anew from where it comes to rest
      let pos := x.pos + diff * 65536
      let d := d.setAxis a { x with pos := pos, back := x.back + diff * 65536 }
      let d : Dev := { d with coords := d.coords.map fun (g : Coord) =>
        if diff != 0 && g.axes.contains a then
          { g with halt := true, x0 := List.zipWith (fun b v => if b = a then v + diff * 65536 else v) g.axes g.x0 }
        else g }
      if x.kind = 0 then d.wrAxS Reg.MOT_AX_TGT_TARGET want a else d
    else
      let d := (d.axErr Reg.MOT_AX_ERR_POS_MISMATCH a).unhome a St.mediaError
      d.setAxis a { d.axis a with again := true }

/-- An offload move for an integrator in 1/65536 output unit (R323). R323 starts one where no offload move is in flight; that it
waits for any other move of the axis too is the model's choice (DESIGN CHOICE, log entry 150). -/
def Dev.offload (d : Dev) (a : Nat) (i : Int) : Dev :=
  let x := d.axis a
  if !d.homed a || x.kind != 0 || x.next.isSome || (d.groupOf a).isSome || d.axState a == 4 then d
  else if i.natAbs ≤ 65536 * d.rdAx Reg.MOT_AX_OFF_OFF_DB a then d
  else
    let n := i * d.rdAx Reg.MOT_AX_OFF_OFF_GAIN a
    let steps := (2 * n + 2 ^ 32) / 2 ^ 33
    if steps = 0 then d else d.axisMove a (x.pos / 65536 + steps) (d.rdAx Reg.MOT_AX_OFFV_OFF_V a) 2

/-- The position commanded for the present chopper slot, in 1/65536 microstep: linear between the planner's updates, which
lie 125 slots apart (R316). -/
def Dev.slotPos (d : Dev) (a : Nat) : Int :=
  let x := d.axis a
  x.back + divR ((x.pos - x.back) * (mget d.chops Chop.reset (a / 2)).part) 125

/-- The indices of the friction and cogging tables (R324): direction, position bin and microstep phase, at the time of
application, 1.44 µs after the start of the superframe (R236). -/
def Dev.tableIndex (d : Dev) (a : Nat) : Nat × Nat × Nat :=
  let pos := (d.slotPos a + divR ((d.axis a).vel * 144) 100000000) / 65536
  let bin := (pos - d.rdAxS Reg.MOT_AX_LIM_MIN_POS a) * d.rdAx Reg.MOT_AX_CFG_STEP a / 531250
  (d.rdAx Reg.MOT_AX_STATUS_DIR a, (clampI 0 63 bin).toNat, (pos % 256).toNat)

/-! ## The choppers (R325 to R329) -/

/-- The chopper of a pickup. -/
def Dev.chop (d : Dev) (p : Nat) : Chop := mget d.chops Chop.reset p
def Dev.setChop (d : Dev) (p : Nat) (x : Chop) : Dev := { d with chops := mset d.chops Chop.reset p x }

/-- The axis of winding `w` (0 to 3) of a pickup, and the fields of its slopes. -/
def windingAxis (p w : Nat) : Nat := 2 * p + w / 2
def slopeFlds (w : Nat) : Fld × Fld × Fld :=
  if w % 2 = 0 then (Reg.MOT_AX_SLOPE1_S_UP, Reg.MOT_AX_SLOPE1_S_SD, Reg.MOT_AX_SLOPE_F_S_FD1)
  else (Reg.MOT_AX_SLOPE2_S_UP, Reg.MOT_AX_SLOPE2_S_SD, Reg.MOT_AX_SLOPE_F_S_FD2)

/-- The change of a current over a slot with a decision (R326): 0 slow decay, 1 drive positive, 2 drive
negative, 3 fast decay. -/
def Dev.chopStep (d : Dev) (p w : Nat) (i : Int) (dec : Nat) : Int :=
  let a := windingAxis p w
  let (up, sd, fd) := slopeFlds w
  match dec with
  | 1 => d.rdAx up a
  | 2 => -(d.rdAx up a : Int)
  | 0 => -(i.sign * d.rdAx sd a)
  | _ => -(i.sign * d.rdAx fd a)

/-- The decision sent for a slot. -/
def Chop.decAt (x : Chop) (n w : Nat) : Nat :=
  match x.dec.find? (fun q => q.1 == n) with | some q => q.2.getD w 0 | none => 0

/-- The current of a slot as received, or taken. -/
def Chop.measAt (x : Chop) (n w : Nat) : Option Int :=
  (x.meas.find? fun q => q.1 == n).map fun q => q.2.getD w 0

/-- The current at the end of slot `n + back` as the steps of the decisions after slot `n` carry it on from `i` (R326). -/
def Dev.carry (d : Dev) (p w : Nat) (x : Chop) (n : Nat) (i : Int) : Nat → Int
  | 0 => i
  | back + 1 =>
    let i := d.carry p w x n i back
    i + d.chopStep p w i (x.decAt ((n + back + 1) % 8192) w)

/-- The current predicted for the end of slot `n`, from the latest one known up to `back` slots earlier. -/
def Dev.predict (d : Dev) (p w : Nat) (x : Chop) : Nat → Nat → Int
  | 0, n => (x.measAt n w).getD 0
  | back + 1, n =>
    match x.measAt n w with
    | some i => i
    | none =>
      let i := d.predict p w x back (n + 8191)
      i + d.chopStep p w i (x.decAt n w)

/-- The present winding current amplitude of an axis (R315, R320, R322). -/
def Dev.amplitude (d : Dev) (a : Nat) : Int :=
  let x := d.axis a
  let run : Int := d.rdAx Reg.MOT_AX_CUR_I_RUN a
  if x.kind = 4 then divR (run * d.rdAx Reg.MOT_AX_HOME_HOME_PCT a) 256
  else
    let hold := divR (run * d.rdAx Reg.MOT_AX_CUR_HOLD_PCT a) 256
    run + divR ((hold - run) * x.low) 1024

/-- The target current of a winding (R315). -/
def Dev.windingTarget (d : Dev) (p w : Nat) : Int :=
  let a := windingAxis p w
  let phi := d.slotPos a / 65536 % 256 * 256
  let s := if w % 2 = 0 then sine phi else cosine phi
  divR (d.amplitude a * s) 32768

/-- The decision for a winding (R326). -/
def Dev.chopDecide (d : Dev) (p w : Nat) (x : Chop) (n : Nat) : Nat :=
  if x.frozen then 0
  else
    let a := windingAxis p w
    let dch := d.rdAx Reg.MOT_AX_CFG_D_CH a
    -- from the measured current of slot n − D_CH over the decisions since
    let k := (n + 8192 - dch) % 8192
    let ip := d.carry p w x k ((x.measAt k w).getD (d.predict p w x 8 k)) (dch - 1)
    let t := d.windingTarget p w
    let s : Int := if t = 0 then ip.sign else t.sign
    let m : Int := t.natAbs
    let v := s * ip
    let h : Int := d.rdAx Reg.MOT_AX_CUR_HYST a
    if m + h < v then 3
    else if 2 * m + h < 2 * v then 0
    else if 2 * v < 2 * m - h then (if 0 ≤ s then 1 else 2)
    else
      let last := x.decAt ((n + 8191) % 8192) w
      if last = 3 then 0 else last

/-- The current rises or falls by one slot between I_RUN and its reduced value (R322). -/
def Dev.currentSlot (d : Dev) (a : Nat) : Dev :=
  let x := d.axis a
  if x.lowering then
    let n := min 1024 (x.low + 1)
    (d.setAxis a { x with low := n, lowering := decide (n < 1024) }).wrAx Reg.MOT_AX_STATUS_REDUCED 1 a
  else if x.rise != 0 then
    d.setAxis a { x with low := x.low - 1, rise := x.rise - 1 }
  else d

/-- A chopper slot (R326, R328, R329): `ready` says that the decisions are in time, `lost` that both copies of
the CURRENT cell due by now are lost. -/
def Dev.chopperSlot (d : Dev) (p : Nat) (ready lost : Bool) : Dev :=
  let x := d.chop p
  let n := (x.slot + 1) % 8192
  let dch := d.rdAx Reg.MOT_AX_CFG_D_CH (2 * p)
  let due := (n + 8192 - dch) % 8192
  let d := [2 * p, 2 * p + 1].foldl (fun d a => d.currentSlot a) d
  let x := { x with part := min 125 (x.part + 1) }
  let d := d.setChop p x
  let (x, d) :=
    if lost then
      let vals := (List.range 4).map fun w => d.predict p w x 8 due
      ({ x with meas := ((due, vals) :: x.meas).take 8, lost := x.lost + 1, got := 0 },
       [2 * p, 2 * p + 1].foldl (fun d a => d.bumpAx Reg.MOT_AX_CNT_CUR_MISS a) d)
    else (x, d)
  let dec := (List.range 4).map fun w => d.chopDecide p w x n
  if ready then
    (d.setChop p { x with slot := n, dec := ((n, dec) :: x.dec).take 12 }).sendDown p (.chopper (d.downLanes p) n dec)
  else
    let d := d.setChop p { x with slot := n, dec := ((n, [0, 0, 0, 0]) :: x.dec).take 12 }
    let d := [2 * p, 2 * p + 1].foldl (fun d a =>
      (d.bumpAx Reg.MOT_AX_CNT_CHOP_MISS a).axErr Reg.MOT_AX_ERR_CHOP_MISS a) d
    d.miss 1 p

/-- The slope of the decision taken in slot `k` adapts to the measured change (R327). The field is unsigned and the rule gives no
limit: a slope that the step would carry below 0 becomes 0, and one beyond 16 bits 0xFFFF (DESIGN CHOICE, assumption 131). -/
def Dev.adaptSlope (d : Dev) (p w : Nat) (x : Chop) (k : Nat) (i : Int) : Dev :=
  match x.measAt ((k + 8191) % 8192) w with
  | none => d
  | some i0 =>
    let a := windingAxis p w
    let (up, sd, fd) := slopeFlds w
    let dec := x.decAt k w
    let c : Int := match dec with
      | 1 => i - i0
      | 2 => i0 - i
      | _ => i0.natAbs - i.natAbs
    let f := if dec = 1 || dec = 2 then up else if dec = 0 then sd else fd
    let s : Int := d.rdAx f a
    d.wrAx f (clampI 0 65535 (s + divR (c - s) (2 ^ d.rdAx Reg.MOT_AX_CFG_KOF a))).toNat a

/-- A CURRENT cell of slot `k` (R93, R327). -/
def Dev.currentCell (d : Dev) (p k : Nat) (vals : List Int) : Dev :=
  let x := d.chop p
  if (x.meas.any fun q => q.1 == k) then d
  else
    let d := d.each 4 fun d w => d.adaptSlope p w x k (vals.getD w 0)
    d.setChop p { x with meas := ((k, vals) :: x.meas).take 8, lost := 0, got := x.got + 1 }

/-! ## The rows -/

/-- 50 ms after the stop: the position is HOME_POS, and the axis moves to its home position (R320). -/
def execHomeStopWait (a : Ax) (s : State) : Host.Outcome State Fault Refusal :=
  s.run fun d =>
    let x := d.axis a
    if !x.wait then d
    else
      let at0 := d.rdAxS Reg.MOT_AX_HOME2_HOME_POS a * 65536
      let d := d.setAxis a { x with wait := false, pos := at0, back := at0, vel := 0 }
      d.startMove a (if a.val % 2 = 0 then d.rdAxS Reg.MOT_AX_LIM_MIN_POS a else 0) (d.rdAx Reg.MOT_AX_HOME_HOME_V a) 5

/-- An axis unmoved for STANDSTILL_T lowers its current (R322). -/
def execStandstillTimeout (a : Ax) (s : State) : Host.Outcome State Fault Refusal :=
  s.run fun d =>
    let x := d.axis a
    if d.hasAx a && x.kind = 0 && x.next.isNone && !x.wait && x.low = 0 && (d.groupOf a).isNone then
      (d.setAxis a { x with lowering := true, rise := 0 }).wrAx Reg.MOT_AX_STATUS_REDUCED 1 a
    else d

/-- After 1,024 slots of current rise the requested profile starts (R322). -/
def execCurrentRaiseDone (a : Ax) (s : State) : Host.Outcome State Fault Refusal :=
  s.run fun d =>
    let x := d.axis a
    match x.next with
    | none => if (d.groupOf a).isSome && x.rise != 0 then
        (d.setAxis a { x with low := 0, rise := 0, lowering := false }).wrAx Reg.MOT_AX_STATUS_REDUCED 0 a else d
    | some (t, v, k) =>
      ((d.setAxis a { x with low := 0, rise := 0, lowering := false }).wrAx Reg.MOT_AX_STATUS_REDUCED 0 a).startMove a t v k

/-- A chopper slot (R326). Slots are counted with the samples from the last full training on, whether or not decisions are
sent (R86, R93, R99); a port that is not up or does not own its front-end sends none. -/
def execChopperSlot (p : Pk) (ready lost : Bool) (s : State) : Host.Outcome State Fault Refusal :=
  State.runTick 8 s fun d =>
    if d.portUp p && d.owns p then d.chopperSlot p ready lost
    else if d.portUp p || (d.portState p == 1 && decide (4 ≤ (d.port p).step)) then
      d.setChop p { d.chop p with slot := ((d.chop p).slot + 1) % 8192 }
    else d

/-- CUR_MISS_MAX slots without CURRENT cells: the windings decay and the axes freeze (R329). Each axis window has a CUR_MISS_MAX
and the rule counts slots of the pickup: the model takes the sled's (DESIGN CHOICE, assumption 130). -/
def execCurrentMissLimit (p : Pk) (s : State) : Host.Outcome State Fault Refusal :=
  s.run fun d =>
    let x := d.chop p
    if x.frozen || x.lost < d.rdAx Reg.MOT_AX_CFG_CUR_MISS_MAX (2 * p.val) then d
    else
      let d := d.setChop p { x with frozen := true, got := 0 }
      [2 * p.val, 2 * p.val + 1].foldl (fun d a => (d.setAxState a 4).axErr Reg.MOT_AX_ERR_CUR_MISSING a) d

/-- 4 consecutive slots received: the axes resume and the sled is verified (R329). -/
def execCurrentResume (p : Pk) (s : State) : Host.Outcome State Fault Refusal :=
  s.run fun d =>
    let x := d.chop p
    if !x.frozen || x.got < 4 then d
    else
      let d := d.setChop p { x with frozen := false }
      let d := [2 * p.val, 2 * p.val + 1].foldl (fun d a =>
        let y := d.axis a
        let halting := y.kind == 6 || match d.groupOf a with | some g => g.halt && g.lv != 0 | none => false
        d.setAxState a (if y.wait || y.kind = 4 || y.kind = 5 then 1 else if halting then 3 else if y.kind = 0 then 0 else 2)) d
      d.sledCheck p

end Sys2Proof.Machine
end

