-- ==== Sys2Proof/Machine/ServoLoops.lean ====
section
/-! DEFINITION. The servo engine's arithmetic: measurements, observers, feed-forward tables, the control law and
the applied calibration values (R238 to R262). Errors are in 1/65536 of 0.25 nm (of 1 µrad for tilt and yaw),
outputs in 1/65536 of 1/32,768 of driver full scale. -/

namespace Sys2Proof.Machine

open Sys2Proof

/-! ## Calibration values in use (R331, R346) -/

/-- Layer, zone, speed and track type under spot 16 of a pickup. -/
def Dev.svoLayer (d : Dev) (p : Nat) : Nat := d.rd Reg.SVO_STATE_LAYER p
def Dev.svoZone (d : Dev) (p : Nat) : Nat := min 23 (zoneOf (d.svoTarget p / 32))
def Dev.svoLand (d : Dev) (p : Nat) : Nat := d.rd Reg.SVO_STATE_LAND p

/-- The key of a servo quantity in the present scope (Table 9-1). -/
def Dev.scopeKey (d : Dev) (p q zone : Nat) : Nat :=
  let land := if q = qGains || q = qTrkOfs then d.svoLand p else 0
  let speed := if q = qJumpAmp then d.svoSpeed p else 0
  calKey q p (if q = qSled || q = qOffsets then 0 else d.svoLayer p) zone speed land

/-- A field of a quantity as its sets give it; a quantity of zones 0, 12 and 23 is interpolated in the zone number (R331, R336).
Where only one of the two zones around has a set, R331 says nothing: that one serves (DESIGN CHOICE, log entry 134). -/
def Dev.calTarget (d : Dev) (p q i : Nat) : Option Int :=
  let at_ (z : Nat) : Option Int := (d.calNow p (d.scopeKey p q z)).map fun v => v.getD i 0
  if q = qFocOfs then
    let z := (d.svo p).zone
    let (a, b) := if z < 12 then (0, 12) else (12, 23)
    match at_ a, at_ b with
    | some u, some v => some (u + divR ((v - u) * ((z : Int) - a)) ((b : Int) - a))
    | some u, none => some u
    | none, some v => some v
    | none, none => none
  else at_ 0

/-- The key of an applied value. -/
def Dev.useKey (d : Dev) (p q i : Nat) : Nat := d.scopeKey p q (if q = qFocOfs then (d.svo p).zone else 0) * 32 + i

/-- The default of a quantity without points: for the read power 1/4 of the maximum (Table 9-4). -/
def calDefaultOf (q i : Nat) : Int := if q = qReadPower then 16384 else Config.calDefault q i

/-- The value of a quantity in use: the applied value, else what its sets give, else its default (R345, R346). -/
def Dev.calUse (d : Dev) (p q i : Nat) : Int :=
  match mget (d.calPk p).vals none (d.useKey p q i) with
  | some v => v.applied
  | none => (d.calTarget p q i).getD (calDefaultOf q i)

/-- The servo quantities with the number of their fields, and the two of the lasers and the optics. -/
def servoFields : List (Nat × Nat) :=
  [(qSum, 1), (qKfe, 1), (qGains, 3), (qTrkOfs, 1), (qFocOfs, 3), (qYawOfs, 1), (qJumpAmp, 1)]
def usedFields : List (Nat × Nat) := servoFields ++ [(qReadPower, 1), (qSphere, 1)]

/-- The loop that a field of a servo quantity acts on (Tables 7-2, 7-3, 9-1). -/
def loopOf (q i : Nat) : Nat :=
  if q = qKfe || q = qSum then 0
  else if q = qGains then (match i with | 0 => 1 | 1 => 4 | _ => 3)
  else if q = qFocOfs then (match i with | 0 => 0 | 1 => 2 | _ => 3)
  else if q = qYawOfs then 4 else 1

/-- The values that a quantity gives in the present scope come into use as they are, where none is in use yet. -/
def Dev.useNow (d : Dev) (p q n : Nat) : Dev :=
  d.each n fun d i =>
    let y := d.calPk p
    let k := d.useKey p q i
    if (mget y.vals none k).isSome then d
    else
      let v := d.calUse p q i
      d.setCalPk p { y with vals := mset y.vals none k (some { applied := v, target := v, left := 0 }) }

/-- Every quantity of the present scope is in use, and no other: what enters a scope takes its values at once. -/
def Dev.useScope (d : Dev) (p : Nat) : Dev :=
  let keys := usedFields.flatMap fun q => (List.range q.2).map fun i => d.useKey p q.1 i
  let y := d.calPk p
  let d := d.setCalPk p { y with vals := y.vals.filter fun e => keys.contains e.1 }
  usedFields.foldl (fun d q => d.useNow p q.1 q.2) d

/-- The values of a loop take their targets at once: a loop returns to AUTO with the current target (R347). -/
def Dev.takeTargets (d : Dev) (p l : Nat) : Dev :=
  servoFields.foldl (fun d q => d.each q.2 fun d i =>
    let y := d.calPk p
    let k := d.useKey p q.1 i
    match mget y.vals none k with
    | some v =>
      if loopOf q.1 i = l then d.setCalPk p { y with vals := mset y.vals none k (some { v with applied := v.target, left := 0 }) }
      else d
    | none => d) d

/-! ## Measurements (Table 7-2) -/

/-- The measurements of a tick. `ok c` says that channel `c` was received; the rest is meant where it was. -/
structure Meas where
  has : List Bool
  sum : Int
  fe : Int
  pp16 : Int
  te : Int
  tan : Int
  pp0 : Int
  pp31 : Int
  yaw : Int
  /-- crossings of the push-pull signal within the tick, and its last sign -/
  cross : Nat
  last : Bool
deriving DecidableEq, Repr

/-- Whether every channel of a list was received. -/
def Meas.got (m : Meas) (l : List Nat) : Bool := l.all fun c => m.has.getD c false

/-- Sign changes of a signal, from an initial sign. -/
def crossings : Bool → List Int → Nat × Bool
  | s, [] => (0, s)
  | s, v :: t =>
    let s' := if v = 0 then s else decide (0 < v)
    let (n, e) := crossings s' t
    (if s' = s then n else n + 1, e)

/-- The measurements of the channels decoded for a tick (R239). The sums run over 64 samples. -/
def Dev.measure (d : Dev) (p : Nat) : Meas :=
  let l := (d.port p).servo
  let half (c h : Nat) : Option (List Int) := (l.find? fun q => q.1 == 2 * c + h).map (·.2)
  let raw (c : Nat) : Option (List Int) := match half c 0, half c 1 with | some a, some b => some (a ++ b) | _, _ => none
  let has := (List.range 8).map fun c => (raw c).isSome
  let v (c : Nat) : Int := ((raw c).getD []).sum
  let x := d.svo p
  let s16 : Int := if d.svoLand p = 0 then 1 else -1
  let sum := v 0 + v 1 + v 2 + v 3
  let fe := divR (d.calUse p qKfe 0 * ((v 0 + v 2) - (v 1 + v 3))) sum - d.calUse p qFocOfs 0
  let pp16 := s16 * divR (d.calUse p qGains 0 * ((v 0 + v 3) - (v 1 + v 2))) sum - d.calUse p qTrkOfs 0
  let tan := divR (d.calUse p qGains 2 * ((v 0 + v 1) - (v 2 + v 3))) sum
  let pp (a b : Int) (s : Int) : Int := s * divR (d.calUse p qGains 1 * (b - a)) (b + a)
  let pp0 := pp (v 4) (v 5) s16
  let pp31 := pp (v 6) (v 7) (-s16)
  -- x_0 − x_31 over 60.72 µm: 0.25 nm over 60.72 µm is 4.1173 µrad
  let yaw := divR ((pp0 - x.o0 - (pp31 - x.o31)) * 25000) 6072
  let sig := List.zipWith (· + ·) ((raw 0).getD []) ((raw 3).getD [])
  let sub := List.zipWith (· + ·) ((raw 1).getD []) ((raw 2).getD [])
  let (n, last) := crossings x.ppPos (List.zipWith (· - ·) sig sub)
  { has := has, sum := sum, fe := fe, pp16 := pp16, te := pp16 - x.o16, tan := tan, pp0 := pp0, pp31 := pp31,
    yaw := yaw - d.calUse p qYawOfs 0, cross := n, last := last }

/-- The push-pull errors that the wedges of a tick are held against (R243). -/
def Meas.tickPp (m : Meas) (sf : Nat) : TickPp :=
  let has (l : List Nat) (v : Int) : Option Int := if m.got l then some v else none
  ⟨sf, has [4, 5] m.pp0, has [0, 1, 2, 3] m.pp16, has [6, 7] m.pp31⟩

/-- The error of a loop (Table 7-3). -/
def Meas.error (m : Meas) (x : Servo) (l : Nat) : Int :=
  match l with
  | 0 => m.fe | 1 => m.te | 2 => x.o16 | 3 => m.tan | _ => m.yaw

/-- The channels that a loop uses (R258): o_16, on which radial tilt works, comes from the push-pull signal of spot 16. -/
def loopChannels (l : Nat) : List Nat := if l = 4 then [4, 5, 6, 7] else [0, 1, 2, 3]

/-! ## Changes of a loop (R261) -/

/-- A loop goes to AUTO bumplessly, from OFF or MANUAL with the current calibration targets (R347). The transfer takes effect
at the next tick, with that tick's error and terms. -/
def Dev.auto (d : Dev) (p l : Nat) : Dev :=
  let d := if d.loopMode p l = 0 || d.loopMode p l = 1 then d.takeTargets p l else d
  let x := d.svo p
  (d.setSvo p (x.setLoop l { x.loop l with bump := true })).setLoopMode p l 2

/-- A change of a loop's coefficients, offsets or terms while in AUTO is made bumplessly. -/
def Dev.rebump (d : Dev) (p l : Nat) : Dev := if d.loopMode p l = 2 || d.loopMode p l = 3 then d.auto p l else d

/-! ## Feed-forward tables (R251 to R256) -/

/-- Sets a table of an engine. -/
def Servo.setTab (x : Servo) (k : Nat) (t : Tab) : Servo := { x with tabs := mset x.tabs none k (some t) }

/-- The runout loop of a loop. -/
def runoutLoop (l : Nat) : Option Nat := match l with | 0 => some 0 | 1 => some 1 | 2 => some 2 | 4 => some 3 | _ => none

/-- The sample at which the commands of the present tick are applied: microslot 1 of superframe `sf + 1`. -/
def applyAt (sf : Nat) : Nat := 4000 * (sf + 1) + 500

/-- The wedge angle at which the commands of the tick take effect, in 1/65536 wedge, modulo 512 (R252). -/
def Dev.theta (d : Dev) (p : Nat) : Int :=
  let x := d.svo p
  let dt := (applyAt (d.port p).sf : Int) * 16 - x.wtime
  ((d.rd Reg.SVO_WEDGE_INDEX p : Int) * 65536 + divR (dt * 65536 * 16) (d.rd Reg.SVO_PW_PW p)) % (512 * 65536)

/-- A runout table read at an angle, interpolated linearly, in 1/65536 output unit. -/
def Tab.runout (t : Tab) (th : Int) : Int :=
  let i := (th / 65536).toNat % 512
  let f := th % 65536
  t.at i * 65536 + (t.at ((i + 1) % 512) - t.at i) * f

/-- The key of the runout table of a loop in the present scope. -/
def Dev.runoutKey (d : Dev) (p r : Nat) : Nat := tabKey 0 r (d.svoLayer p) (d.svoSpeed p)

/-- FF of a loop (Table 7-4). -/
def Dev.ffTerm (d : Dev) (p l : Nat) : Int :=
  match runoutLoop l with
  | some r => ((d.svo p).tab (d.runoutKey p r)).runout (d.theta p)
  | none => 0

/-- FR and CG of a loop (Table 7-4, R324). -/
def Dev.frTerm (d : Dev) (p l : Nat) : Int :=
  let x := d.svo p
  match l with
  | 1 =>
    let (dir, bin, ph) := d.tableIndex (2 * p)
    65536 * ((x.tab (tabKey 1 0 0 0)).at (dir * 64 + bin) + (x.tab (tabKey 2 0 0 0)).at ph)
  | 4 => 65536 * (x.tab (tabKey 3 0 0 0)).at (d.tableIndex (2 * p + 1)).2.2
  | _ => 0

/-- Learning of an entry: the sum of w and the ticks of this revolution. -/
def Servo.learn (x : Servo) (key i : Nat) (w : Int) : Servo :=
  let k := key * 512 + i
  let (s, n) := mget x.acc (0, 0) k
  { x with acc := mset x.acc (0, 0) k (s + w, n + 1) }

/-- A learning tick: LEARN_EN, and the engine on a track or focused outside any procedure (R254). -/
def Dev.learns (d : Dev) (p : Nat) : Bool :=
  d.flag Reg.SVO_LEARN_LEARN_EN p && (d.svo p).phase == .none && (d.svoState p == 5 || d.svoState p == 2)

/-- One update of a table of loop `l` from the sums of a revolution (R253). -/
def Dev.updateTab (d : Dev) (p key l : Nat) : Dev :=
  let x := d.svo p
  let mine := x.acc.filter fun e => e.1 / 512 == key
  if mine.isEmpty then d
  else
    let t := x.tab key
    let rev := t.rev + 1
    let ramp := d.rd Reg.SVO_LEARN_RAMP_REVS p
    let step (w : Int) : Int :=
      if rev ≤ ramp then divR (w * rev) ((ramp : Int) * 2 ^ d.rd Reg.SVO_LEARN_KL_INIT p)
      else divR w (2 ^ d.rd Reg.SVO_LEARN_KL p)
    let ents := mine.foldl (fun m e =>
      let v := mget m 0 (e.1 % 512) + divR (step (divR e.2.1 e.2.2)) 65536
      mset m 0 (e.1 % 512) (clampI (-32768) 32767 v)) t.ents
    (d.setSvo p (x.setTab key { valid := true, rev := rev, ents := ents })).rebump p l

/-- At the index wedge every runout table whose loop ran in AUTO for the revolution is updated, and the friction
and cogging tables (R253); where nothing learns the sums of the revolution are dropped (R254). -/
def Dev.runoutLearn (d : Dev) (p : Nat) : Dev :=
  let x := d.svo p
  let d := if !d.learns p then d
    else
      let d := [(0, 0), (1, 1), (2, 2), (4, 3)].foldl (fun d q =>
        if x.broke.contains q.1 then d else d.updateTab p (d.runoutKey p q.2) q.1) d
      [(tabKey 1 0 0 0, 1), (tabKey 2 0 0 0, 1), (tabKey 3 0 0 0, 4)].foldl (fun d k => d.updateTab p k.1 k.2) d
  let auto (l : Nat) : Bool := d.loopMode p l == 2 || d.loopMode p l == 3
  d.setSvo p { d.svo p with acc := [], broke := (List.range 5).filter fun l => !auto l }

/-- A table rotated by an angle in 1/512 wedge. -/
def Tab.rotate (t : Tab) (ofs : Int) : Tab :=
  { valid := true, rev := 0, ents := (List.range 512).foldl (fun m i =>
      mset m 0 i (divR (t.runout (((i : Int) * 65536 + ofs * 128) % (512 * 65536))) 65536)) [] }

/-- The index offset of a layer from L0 of its side, in 1/512 wedge, and whether it is known (R276). -/
def Dev.idxOfs (d : Dev) (p l : Nat) : Int := if l = 0 then 0 else d.rd Reg.SVO_IDX_OFS_OFS p l
def Dev.idxKnown (d : Dev) (p l : Nat) : Bool := l == 0 || d.flag Reg.SVO_IDX_OFS_VALID p l

/-- An invalid runout table is seeded from another valid one of its loop before its first use (R256). -/
def Dev.seedTable (d : Dev) (p r : Nat) : Dev :=
  let x := d.svo p
  let layer := d.svoLayer p
  let speed := d.svoSpeed p
  let key := tabKey 0 r layer speed
  if (x.tab key).valid then d
  else
    match [0, 1, 2, 3].find? fun l => l != layer && (x.tab (tabKey 0 r l speed)).valid && d.idxKnown p l && d.idxKnown p layer with
    | some l => d.setSvo p (x.setTab key ((x.tab (tabKey 0 r l speed)).rotate (d.idxOfs p l - d.idxOfs p layer)))
    | none =>
      let t := x.tab (tabKey 0 r layer (1 - speed))
      if t.valid then
        -- multiplied by (N_new / N_old)²: 16/9 or 9/16
        let (a, b) := if speed = 0 then (16, 9) else (9, 16)
        d.setSvo p (x.setTab key { valid := true, rev := 0, ents := t.ents.map fun e => (e.1, clampI (-32768) 32767 (divR (e.2 * a) b)) })
      else
        let q := if p % 2 = 0 then p + 1 else p - 1
        let t := (d.svo q).tab key
        if (r = 1 || r = 3) && t.valid then
          -- an offset that this side has measured leads the other side; one measured there leads this side
          if d.flag Reg.SVO_IDX_OFS_VALID p 0 then
            d.setSvo p (x.setTab key (t.rotate (-(d.rd Reg.SVO_IDX_OFS_OFS p 0 : Int))))
          else if d.flag Reg.SVO_IDX_OFS_VALID q 0 then d.setSvo p (x.setTab key (t.rotate (d.rd Reg.SVO_IDX_OFS_OFS q 0)))
          else d
        else d

/-- The runout tables that come into use are seeded before it (R256). -/
def Dev.seedTables (d : Dev) (p : Nat) : Dev := [0, 1, 2, 3].foldl (fun d r => d.seedTable p r) d

/-- Every table of a pickup becomes invalid (R255). -/
def Dev.dropTables (d : Dev) (p : Nat) : Dev := d.setSvo p { d.svo p with tabs := [], acc := [] }

/-- A disc is loaded under a pickup (R41, R255): its tables are invalid, and the angles between its index wedges are to be
measured again. -/
def Dev.discTables (d : Dev) (p : Nat) : Dev := (d.dropTables p).each 4 fun d l => d.wr Reg.SVO_IDX_OFS_VALID 0 p l

/-! ## The control law (R249, R261) -/

/-- A biquad with coefficients 2.14: output and next state (x1, x2, y1, y2). -/
def biquad (b0 b1 b2 a1 a2 : Int) (st : List Int) (v : Int) : Int × List Int :=
  let y := divR (b0 * v + b1 * st.getD 0 0 + b2 * st.getD 1 0 - a1 * st.getD 2 0 - a2 * st.getD 3 0) 16384
  (y, [v, st.getD 0 0, y, st.getD 2 0])

/-- OUT_LIM and SLEW of a loop. -/
def Dev.outLim (d : Dev) (p l : Nat) : Int := 65536 * d.rd Reg.SVO_L_LIM_OUT_LIM p l
def Dev.slew (d : Dev) (p l : Nat) : Int := 65536 * d.rd Reg.SVO_L_LIM_SLEW p l

/-- An output moved toward a value within the slew and the limit. -/
def Dev.slewTo (d : Dev) (p l : Nat) (x : Loop) (v : Int) : Loop :=
  let u := clampI (-(d.outLim p l)) (d.outLim p l) v
  let s := d.slew p l
  let u := x.uPrev + clampI (-s) s (u - x.uPrev)
  { x with uPrev := u, us := [u, x.us.getD 0 0], sat := if d.outLim p l ≤ u.natAbs then x.sat + 1 else 0 }

/-- One tick of the control law in AUTO or BRIDGE: the loop and w. -/
def Dev.control (d : Dev) (p l : Nat) (x : Loop) (e terms : Int) (bridge : Bool) : Loop × Int :=
  let r (f : Fld) : Int := d.rdS f p l
  let lim := d.outLim p l
  let stuck := (lim ≤ x.uPrev && 0 < e) || (x.uPrev ≤ -lim && e < 0)
  let i := if bridge || stuck then x.i else x.i + divR (r Reg.SVO_L_PI_KI * e) 16384
  let dv := divR ((d.rd Reg.SVO_L_D_AD p l : Int) * x.d) 65536 + divR (r Reg.SVO_L_D_KD * (e - x.ePrev)) 4096
  let v := divR (r Reg.SVO_L_PI_KP * e) 4096 + i + dv
  let (v0, n0) := biquad (r Reg.SVO_L_N0A_B0) (r Reg.SVO_L_N0A_B1) (r Reg.SVO_L_N0B_B2) (r Reg.SVO_L_N0B_A1)
    (r Reg.SVO_L_N01_A2) x.n0 v
  let (w, n1) := biquad (r Reg.SVO_L_N01_N1_B0) (r Reg.SVO_L_N1A_B1) (r Reg.SVO_L_N1A_B2) (r Reg.SVO_L_N1B_A1)
    (r Reg.SVO_L_N1B_A2) x.n1 v0
  (d.slewTo p l { x with i := i, d := dv, ePrev := e, n0 := n0, n1 := n1 } (w + terms), w)

/-- The transfer of R261 with the error and the terms of the tick. -/
def Dev.bumpless (d : Dev) (p l : Nat) (x : Loop) (e terms : Int) : Loop :=
  let lim := d.outLim p l
  { x with d := 0, ePrev := e, bump := false, i := clampI (-lim) lim (x.uPrev - (divR (d.rdS Reg.SVO_L_PI_KP p l * e) 4096 + terms)) }

/-- Spot 16 is over groove or land: the polarity changes bumplessly (R261, R283). -/
def Dev.setLand (d : Dev) (p : Nat) (land : Bool) : Dev :=
  let v := if land then 1 else 0
  if d.svoLand p = v then d else ((((d.wr Reg.SVO_STATE_LAND v p).useScope p).rebump p 1).rebump p 3).rebump p 4

/-! ## Observers and plausibility (R257, R258) -/

/-- An observer step: the loop with its model advanced, the residual and the predicted error. -/
def Dev.observer (d : Dev) (p l : Nat) (x : Loop) (e ff : Int) : Loop × Int × Int :=
  let a1 := d.rdS Reg.SVO_L_OBS_A_A1 p l
  let a2 := d.rdS Reg.SVO_L_OBS_A_A2 p l
  let b0 := d.rdS Reg.SVO_L_OBS_B_B0 p l
  let xn := divR (a1 * x.xs.getD 0 0 + a2 * x.xs.getD 1 0 + b0 * x.us.getD 1 0) 16384
  let kdc := divR (b0 * (ff - x.ffPrev)) (16384 - a1 - a2)
  let pred := x.est + (xn - x.xs.getD 0 0) - kdc
  ({ x with xs := [xn, x.xs.getD 0 0], ffPrev := ff }, e - pred, pred)

/-- The calibrated SUM test of R258, over 64 samples: SUM below SUM_MIN/256. -/
def Dev.sumLow (d : Dev) (p : Nat) (sum : Int) (least : Nat) : Bool :=
  decide (sum * 256 < (least : Int) * d.calUse p qSum 0 * 64)

end Sys2Proof.Machine
end

