-- ==== Sys2Proof/Machine/Spindle.lean ====
section
/-! DEFINITION. The spindle ports: ownership, catch, start, field-oriented control, speed, braking, bus and
faults (R288 to R314, R624). -/

namespace Sys2Proof.Machine

open Sys2Proof

/-- A spindle. -/
def Dev.spin (d : Dev) (n : Nat) : Spin := mget d.spins Spin.reset n

/-- Sets a spindle. -/
def Dev.setSpin (d : Dev) (n : Nat) (x : Spin) : Dev := { d with spins := mset d.spins Spin.reset n x }

/-- MOT_SP_STATUS.STATE: 0 OFF, 1 CATCH, 2 BRAKE, 3 ALIGN, 4 RAMP, 5 RUN, 6 STOP, 7 FAULT. -/
def Dev.spState (d : Dev) (n : Nat) : Nat := d.rd Reg.MOT_SP_STATUS_STATE n

/-- Enters a state; the periods of the state count from 0. -/
def Dev.setSpState (d : Dev) (n st : Nat) : Dev :=
  (d.wr Reg.MOT_SP_STATUS_STATE st n).setSpin n { d.spin n with period := 0 }

/-- Sets a MOT_SP_ERR bit. -/
def Dev.spErr (d : Dev) (f : Fld) (n : Nat) : Dev := d.setErr f 0 n n

/-- The spindle no longer reports at speed. -/
def Dev.notAtSpeed (d : Dev) (n : Nat) : Dev :=
  (d.wr Reg.MOT_SP_STATUS_AT_SPEED 0 n).setSpin n { d.spin n with near := 0 }

/-- Commands that wait for a spindle to reach its speed, or OFF. -/
def spinWait (n : Nat) (w : Wait) : Bool := w == .atSpeed n || w == .spOff n

/-- The spindle goes to OFF: every gate low, SPn_EN low, and a stop completes (R311, R483). -/
def Dev.spToOff (d : Dev) (n : Nat) : Dev :=
  let d := (d.setSpState n 0).notAtSpeed n
  let d := ((d.wr Reg.MOT_SP_STATUS_CHOP 0 n).wr Reg.MOT_SP_RPM_SPEED 0 n).wr Reg.MOT_SP_STATUS_DECEL_CUT 0 n
  let x := d.spin n
  let d := d.setSpin n { x with duties := [0, 0, 0], next := [0, 0, 0], misses := 0, pause := false, cuts := 0, tries := 0, gates := .off }
  (d.completeAll (fun w => w == .spOff n) St.success).checkUnload n

/-- Entry to FAULT (R303): the phase gates are off, the engines of both pickups stop, and the commands waiting
on the spindle complete with MEDIA_ERROR. -/
def Dev.spFault (d : Dev) (n : Nat) : Dev :=
  if d.spState n = 7 then d
  else
    let d := ((d.setSpState n 7).notAtSpeed n).wr Reg.MOT_SP_RPM_SPEED 0 n
    let x := d.spin n
    let d := d.setSpin n { x with duties := [0, 0, 0], next := [0, 0, 0], misses := 0, pause := false, gates := .off }
    (d.completeAll (spinWait n) St.mediaError).spindleLost n St.mediaError

/-- A spindle fault sets its bit and enters FAULT (R314). -/
def Dev.spFaultErr (d : Dev) (f : Fld) (n : Nat) : Dev := (d.spErr f n).spFault n

/-- The stage is granted. -/
def Dev.granted (d : Dev) (n : Nat) : Bool := d.flag Reg.MOT_SP_STATUS_GRANT n

/-- Enters CATCH with the grant held (R304). -/
def Dev.spCatch (d : Dev) (n : Nat) : Dev :=
  -- leaving OFF enables the port: the observer gains are derived then (R299)
  let gains := if d.spState n = 0 then
      [(d.rd Reg.MOT_SP_MOTOR_RS n : Int), d.rd Reg.MOT_SP_MOTOR_LS n, d.rd Reg.MOT_SP_START_PLL_BW n]
    else (d.spin n).gains
  let d := (d.setSpState n 1).bump Reg.MOT_SP_CNT_CATCH 1 n
  d.setSpin n { d.spin n with
    gains := gains, probes := [], probeAt := 0, pause := false, misses := 0, esc := false, stuck := false, gates := .off, keBad := 0, turned := 0, steady := false }

/-- Requests the stage; with the grant held a start enters CATCH (R292, R302). -/
def Dev.spRequest (d : Dev) (n : Nat) : Dev :=
  let d := d.wr Reg.MOT_SP_STATUS_REQ 1 n
  if d.granted n && (d.spin n).start && (d.spState n == 0 || d.spState n == 7) then d.spCatch n else d

/-- Enters BRAKE (R307). -/
def Dev.spBrake (d : Dev) (n : Nat) : Dev :=
  let d := (d.setSpState n 2).notAtSpeed n
  (d.setSpin n { d.spin n with short := 4, calm := 0, misses := 0, pause := false }).wr Reg.MOT_SP_RPM_SPEED 0 n

/-- Enters ALIGN (R308). -/
def Dev.spAlign (d : Dev) (n : Nat) : Dev :=
  let d := d.setSpState n 3
  d.setSpin n { d.spin n with fAng := 0, fSpd := 0, lock := 0, di := 0, qi := 0, blend := 0, next := [] }

/-- The nominal wedge period in 1/256 sample (R247). -/
def nominalPw (speed : Nat) : Nat := if speed = 0 then 9375000 else 12500000

/-! ## The modulator streams (R290) -/

/-- The weight of the k-th of the `3r − 2` samples in the window of a sinc3 filter that decimates by `r`. -/
def sincWeight (r k : Nat) : Nat :=
  let t (m : Nat) : Nat := (m + 1) * (m + 2) / 2
  let j := min k (3 * r - 3 - k)
  if j < r then t j else t j - 3 * t (j - r)

/-- The output of a sinc3 filter whose window ends `back` clocks before the newest bit of a stream: ±2^15 is full scale. Half of
the bits set is 0 and all of them full scale (the family's modulators, assumption 129). -/
def sincOut (r hist back : Nat) : Int :=
  let y : Int := ((List.range (3 * r - 2)).map fun k => if hist.testBit (back + k) then sincWeight r k else 0).sum
  (2 * y - (r * r * r : Nat)) * 32768 / (r * r * r : Nat)

/-- A stream's last bit, the clocks since its last transition and the most without one, after further bits, oldest first. -/
def streamRun (q : Bool × Nat × Nat) (l : List Bool) : Bool × Nat × Nat :=
  l.foldl (fun (q : Bool × Nat × Nat) b =>
    let n := if b = q.1 then q.2.1 + 1 else 0
    (b, n, max q.2.2 n)) (q.1, q.2.1, q.2.1)

/-- The bits of a sample, oldest first. -/
def clocksOf {w : Nat} (v : BitVec w) : List Bool := (List.range w).map fun k => v.getLsbD (w - 1 - k)

/-- What a stream is known by: 0 phase A, 1 phase B, 2 bus, 3 brake current. -/
def Spin.stream (x : Spin) (k : Nat) : Bool × Nat × Nat := x.quiet.getD k (false, 0, 0)
def Spin.feed (x : Spin) (k : Nat) (l : List Bool) : Spin := { x with quiet := x.quiet.set k (streamRun (x.stream k) l) }

/-- A stream has had no transition for 64 clocks in its latest sample. -/
def Spin.stuckAt (x : Spin) (k : Nat) : Bool := decide (64 ≤ (x.stream k).2.2)

/-- The current streams of a period are clocked in. -/
def Dev.takeCurrents (d : Dev) (n : Nat) (m : FocSample) : Dev :=
  let x := ((d.spin n).feed 0 (clocksOf m.a)).feed 1 (clocksOf m.b)
  d.setSpin n { x with histA := (x.histA <<< 500) ||| m.a.setWidth 600, histB := (x.histB <<< 500) ||| m.b.setWidth 600 }

/-- The bus and brake streams up to an output are clocked in. -/
def Dev.takeBus (d : Dev) (n : Nat) (m : BusSample) : Dev :=
  let x := ((d.spin n).feed 2 (clocksOf m.bus)).feed 3 (clocksOf m.brake)
  d.setSpin n { x with histV := (x.histV <<< 32) ||| m.bus.setWidth 96, histR := (x.histR <<< 32) ||| m.brake.setWidth 96 }

/-- The output of the bus filter in mV, and that of the brake current filter in mA, at the full scale of the current filters. -/
def Dev.busMv (d : Dev) (n : Nat) : Nat :=
  (divR (sincOut 32 (d.spin n).histV.toNat 0 * d.rd Reg.MOT_SP_SCALE_V_FS n) 32768).toNat
def Dev.brakeMa (d : Dev) (n : Nat) : Int :=
  divR (sincOut 32 (d.spin n).histR.toNat 0 * d.rd Reg.MOT_SP_SCALE_I_FS n) 32768

/-! ## Currents (R297, R298) -/

/-- A current filter output in mA, less its offset in the filter's own unit: full scale I_FS over 2^15. -/
def Dev.milliamps (d : Dev) (n : Nat) (raw off : Int) : Int := divR ((raw - off) * d.rd Reg.MOT_SP_SCALE_I_FS n) 32768

/-- The currents of phases A and B at the filter output whose window ends `back` clocks before the newest bit. -/
def Dev.currentsAt (d : Dev) (n back : Nat) : Int × Int :=
  let x := d.spin n
  (d.milliamps n (sincOut 16 x.histA.toNat back) x.offA, d.milliamps n (sincOut 16 x.histB.toNat back) x.offB)

/-- The outputs of the current filters since the last period: every 16 clocks, counted from the one centred on count 0, which
500 clocks do not fill evenly (the model's choice, assumption 129). -/
def Dev.currentsOf (d : Dev) (n : Nat) : List (Int × Int) := (List.range 32).map fun k => d.currentsAt n (16 * k)

/-- The greatest current of any phase among the outputs, `i_C = −(i_A + i_B)` (R295, R314). -/
def Dev.phasePeak (d : Dev) (n : Nat) : Nat :=
  ((d.currentsOf n).map fun q => max q.1.natAbs (max q.2.natAbs (q.1 + q.2).natAbs)).foldl max 0

/-- The stator currents in the orthogonal frame, in mA: `i_α = ia`, `i_β = (ia + 2 ib)/√3`. -/
def clarke (ia ib : Int) : Int × Int := (ia, divR ((ia + 2 * ib) * 65536) 113512)

/-- A vector turned by an angle in 1/65536 turn. -/
def turnBy (a : Int) (v : Int × Int) : Int × Int :=
  let c := cosine a
  let s := sine a
  (divR (v.1 * c - v.2 * s) 32768, divR (v.1 * s + v.2 * c) 32768)

/-- The greatest squared magnitude of the current vector among the outputs. -/
def Dev.vectorPeak (d : Dev) (n : Nat) : Int :=
  ((d.currentsOf n).map fun q => let v := clarke q.1 q.2; v.1 * v.1 + v.2 * v.2).foldl max 0

/-- The magnitude of a vector. -/
def magnitude (v : Int × Int) : Int := (squareRoot (v.1 * v.1 + v.2 * v.2).toNat : Nat)

/-- One step of a PI controller: gains 4.12 and 2.14, integrator in 1/65536, held at the limit. -/
def piStep (kp ki e int lim : Int) : Int × Int :=
  let int' := int + ki * e * 4
  let out (i : Int) : Int := divR (kp * e) 4096 + divR i 65536
  let int' := if (lim < out int' && 0 < e) || (out int' < -lim && e < 0) then int else int'
  (out int', int')

/-- D_MAX as it applies (R296): only up to 1 − 2 (0.942 µs + SETTLE + DEADTIME) / 20.48 µs, in MOT cycles of 5.12 ns. -/
def Dev.dMax (d : Dev) (n : Nat) : Int :=
  let dead := d.rd Reg.MOT_SP_CFG_DEADTIME n + d.rd Reg.MOT_SP_CFG_SETTLE n
  min (d.rd Reg.MOT_SP_DUTY_D_MAX n) (4096 - (2 * 4096 * (184 + (dead : Int)) + 3999) / 4000)

/-- The duties for a voltage vector in mV (R298), each within D_MIN to D_MAX (R295). -/
def Dev.dutiesOf (d : Dev) (n : Nat) (v : Int × Int) (vbus : Int) : List Int :=
  let lo : Int := d.rd Reg.MOT_SP_DUTY_D_MIN n
  let hi := d.dMax n
  let va := v.1
  let vb := divR (-v.1) 2 + divR (v.2 * 113512) 131072
  let vc := divR (-v.1) 2 - divR (v.2 * 113512) 131072
  let vn := divR (max va (max vb vc) + min va (min vb vc)) 2
  [va, vb, vc].map fun x => clampI lo hi (divR (lo + hi) 2 + divR ((x - vn) * 4096) vbus)

/-- The control law of RUN and STOP for a period (R298); the same current control at a forced angle drives
ALIGN and RAMP (R308). -/
def Dev.focDrive (d : Dev) (n : Nat) (i : Int × Int) (vbus idRef iqRef angle lead : Int) : Dev :=
  let x := d.spin n
  let dq := turnBy (-angle) i
  let kp : Int := d.rdS Reg.MOT_SP_CUR_KP_I n
  let ki : Int := d.rdS Reg.MOT_SP_CUR_KI_I n
  let span : Int := d.dMax n - d.rd Reg.MOT_SP_DUTY_D_MIN n
  let lim := divR (span * vbus * 65536) (4096 * 113512)
  let (vd, di) := piStep kp ki (idRef - dq.1) x.di lim
  let vd := clampI (-lim) lim vd
  let ql : Int := (squareRoot (lim * lim - vd * vd).toNat : Nat)
  let (vq0, qi) := piStep kp ki (iqRef - dq.2) x.qi ql
  let vq := clampI (-ql) ql vq0
  let next := d.dutiesOf n (turnBy (angle + lead) (vd, vq)) vbus
  (d.setSpin n { x with di := di, qi := qi, next := next, clamped := if vq0 = vq then 0 else x.clamped + 1 }).wrS
    Reg.MOT_SP_VBUS_IQ dq.2 n

/-- One period of the back-EMF observer (R299): angle, electrical speed and its own state. -/
def Dev.observe (d : Dev) (n : Nat) (ia ib vbus : Int) : Dev :=
  let x := d.spin n
  let (th, w, st) := Config.observer (x.gains ++ [ia, ib, vbus]) x.duties (x.theta :: x.we :: x.obs)
  d.setSpin n { x with theta := th, we := w, obs := st }

/-! ## Catch (R304 to R306) -/

/-- The rotation found in the catch interval (R306): whether one was detected, its speed in rpm, and the electrical angle
extrapolated to the next count 0. -/
structure Rotation where
  found : Bool
  rpm : Int
  angle : Int
deriving DecidableEq, Repr

/-- Mechanical rpm of an electrical step per probe (4 periods, 81.92 µs) in 1/65536 turn times 65536. -/
def slopeRpm (poles step : Int) : Int := divR (step * 60 * 100000000) (65536 * 65536 * 8192 * poles)

/-- Successive angles made continuous: differences within half a turn. -/
def unwrap : Int → List Int → List Int
  | _, [] => []
  | a, b :: t =>
    let b' := a + ofBits 16 (toBits 16 (b - a))
    b' :: unwrap b' t

/-- The least-squares slope of equally spaced values, scaled by 65536. -/
def slope (l : List Int) : Int :=
  let n : Int := l.length
  let idx := (List.range l.length).map fun (i : Nat) => (i : Int)
  let sx := idx.sum
  let sxy := (List.zipWith (· * ·) idx l).sum
  let sxx := (idx.map fun i => i * i).sum
  divR ((n * sxy - sx * l.sum) * 65536) (n * sxx - sx * sx)

/-- The least-squares step of the angle from probe to probe over the last 128, in 1/65536 turn, scaled by 65536. -/
def Dev.probeStep (d : Dev) (n : Nat) : Int :=
  let l := ((d.spin n).probes.take 128).reverse.map (·.2)
  match l with
  | a :: b :: t => slope (a :: unwrap a (b :: t))
  | _ => 0

/-- The speed from the last 128 probes (R304). -/
def Dev.probeRpm (d : Dev) (n : Nat) : Int := slopeRpm (d.rd Reg.MOT_SP_CFG_POLES n) (d.probeStep n)

/-- Rotation is detected (R305). -/
def Dev.probeSeen (d : Dev) (n : Nat) : Bool :=
  decide (48 ≤ ((d.spin n).probes.take 64).countP fun q => decide ((d.rd Reg.MOT_SP_PROBE_PROBE_MIN n : Int) ≤ q.1))

/-- What the probes say at the end of the interval: the angle of the last one is carried on to the next count 0. -/
def Dev.rotation (d : Dev) (n : Nat) : Rotation :=
  let x := d.spin n
  let last := match x.probes with | q :: _ => q.2 | [] => 0
  { found := d.probeSeen n, rpm := d.probeRpm n,
    angle := (last + divR (d.probeStep n * ((x.period : Int) - x.probeAt + 1)) (4 * 65536)) % 65536 }

/-- The back-EMF in mV of a probe current in mA: `LS · i / (PROBE_T − 0.92 µs)` (R304). -/
def Dev.probeEmf (d : Dev) (n : Nat) (i : Int) : Int :=
  divR (i * d.rd Reg.MOT_SP_MOTOR_LS n * 10000) ((d.rd Reg.MOT_SP_PROBE_PROBE_T n * 4096 : Int) - 92000)

/-- The probe of period `k` of the catch interval (R304): its current and angle; the speed field shows the speed, and KE is
measured at or above HANDOVER (R305). -/
def Dev.probe (d : Dev) (n k : Nat) (i : Int × Int) : Dev :=
  let x := d.spin n
  let m := magnitude i
  let d := d.setSpin n { x with probeAt := k, probes := ((m, arctan2 (-i.2) (-i.1)) :: x.probes).take 128 }
  let rpm := d.probeRpm n
  let d := (d.wrS Reg.MOT_SP_RPM_SPEED rpm n).wr Reg.MOT_SP_STATUS_DIR (if rpm < 0 then 1 else 0) n
  if d.probeSeen n && decide (d.rd Reg.MOT_SP_START_HANDOVER n ≤ rpm.natAbs) then
    d.wr Reg.MOT_SP_KEM_KE_MEAS (divR (113512 * d.probeEmf n m * 1000) (65536 * rpm.natAbs)).toNat n
  else d

/-- A measured induced-voltage constant within ±15 % of KE (R306, R310). -/
def Dev.keOk (d : Dev) (n ke : Nat) : Bool :=
  let k := d.rd Reg.MOT_SP_KE_KE n
  decide (85 * k ≤ 100 * ke) && decide (100 * ke ≤ 115 * k)

/-- Moves an angle in 1/65536 turn of a forced rotation by one period at a mechanical speed in 1/65536 rpm;
the angle is scaled by 65536. -/
def forcedStep (poles spd : Int) : Int := divR (spd * poles * 65536 * 2048) (60 * 100000000)

/-- The pickups of a spindle take its commanded speed. At spin-up and at a change of speed P_w is nominal until one
revolution has been decoded (R247); a change voids the seeds of the spots (R166). -/
def Dev.takeSpeed (d : Dev) (n speed : Nat) : Dev :=
  [2 * n, 2 * n + 1].foldl (fun (d : Dev) p =>
    let same := d.rd Reg.SVO_STATE_SPEED p == speed
    let d := if same then d else d.seedsVoid p
    let d := d.wr Reg.SVO_STATE_SPEED speed p
    -- values and tables of the speed come into use, seeded before it (R256, R261)
    let d := if same then d else [0, 1, 2, 3, 4].foldl (fun d l => d.rebump p l) ((d.useScope p).seedTables p)
    if same && d.spState n == 5 then d
    else (d.setSvo p { d.svo p with syncs := [], based := false }).wr Reg.SVO_PW_PW (nominalPw speed) p) d

/-- A spindle taken over has a start in force and no commanded speed: it runs on at the nearer of its two speeds, or stops
when it does not turn forward fast enough to be caught (R571; the spec names no speed). -/
def Dev.takenSpeed (d : Dev) (n : Nat) (rot : Rotation) : Dev :=
  let read := d.rd Reg.MOT_SP_SPEED_READ_RPM n
  let burn := d.rd Reg.MOT_SP_SPEED_BURN_RPM n
  if !(d.spin n).start || d.rd Reg.MOT_SP_RPM_TARGET n != 0 then d
  else if rot.found && decide ((d.rd Reg.MOT_SP_START_HANDOVER n : Int) ≤ rot.rpm) then
    let near := decide ((rot.rpm - burn).natAbs ≤ (rot.rpm - read).natAbs)
    let d := d.takeSpeed n (if near then 1 else 0)
    d.wr Reg.MOT_SP_RPM_TARGET (if near then burn else read) n
  else d.setSpin n { d.spin n with start := false }

/-- The iq in mA whose torque matches a deceleration in rpm/s, from J in g·cm² and KE in mV per 1,000 rpm (R306): by the
worked example of the chapter the torque is `J · α`, and its constant 1.5 times the phase back-EMF over the speed in rad/s.
The factor is `√3 π² / 13.5` at the scale 10^30. -/
def torqueCurrent (j ke : Nat) (decel : Int) : Int :=
  divR (1266270835058679193684664655660 * j * decel) (10 ^ 30 * ke : Nat)

/-- The decision at the end of the catch interval (Table 8-4), with a stop in force as R311 says. -/
def Dev.catchDecide (d : Dev) (n : Nat) : Dev :=
  let rot := d.rotation n
  let d := d.takenSpeed n rot
  let x := d.spin n
  let ho : Int := d.rd Reg.MOT_SP_START_HANDOVER n
  let fast := rot.found && decide (ho ≤ (rot.rpm.natAbs : Int))
  if fast && !d.keOk n (d.rd Reg.MOT_SP_KEM_KE_MEAS n) then d.spFaultErr Reg.MOT_SP_ERR_KE n
  else if fast && decide (0 < rot.rpm) then
    -- the integrator is preset to the torque that matches the deceleration of the interval
    let decel := rpmDecel (x.probes.map (·.2)) (d.rd Reg.MOT_SP_CFG_POLES n)
    let iq := torqueCurrent (d.rd Reg.MOT_SP_KE_J n) (d.rd Reg.MOT_SP_KE_KE n) decel
    let x := { x with
      theta := rot.angle, we := forcedStep (d.rd Reg.MOT_SP_CFG_POLES n) (rot.rpm * 65536), obs := [], si := iq * 65536, iqRef := iq,
      ref := rot.rpm * 65536, near := 0, clamped := 0, di := 0, qi := 0, misses := 0, blend := 0, tries := 0, cuts := 0, next := [] }
    (d.setSpin n x).setSpState n (if x.start then 5 else 6)
  else if rot.found then d.spBrake n
  else if x.start then d.spAlign n
  else d.spToOff n
where
  /-- the deceleration in rpm/s over the interval, from the slopes of its halves (40 ms² apart) -/
  rpmDecel (l : List Int) (poles : Nat) : Int :=
    let h := l.length / 2
    let late := (l.take h).reverse
    let early := (l.drop h).reverse
    let s (l : List Int) : Int := match l with | a :: t => slopeRpm poles (slope (a :: unwrap a t)) | [] => 0
    divR ((s early - s late) * 100000000) (h * 8192)

/-! ## The FOC period (R297) -/

/-- The current offsets: the mean filter output over 64 periods in OFF (Table 9-2). -/
def Dev.currentOffset (d : Dev) (n : Nat) : Dev :=
  let x := d.spin n
  let ia := sincOut 16 x.histA.toNat 0
  let ib := sincOut 16 x.histB.toNat 0
  let (a, b) := if x.period = 1 then (ia, ib) else (x.sumA + ia, x.sumB + ib)
  if 64 < x.period then d
  else if x.period = 64 then d.setSpin n { x with sumA := a, sumB := b, offA := divR a 64, offB := divR b 64 }
  else d.setSpin n { x with sumA := a, sumB := b }

/-- The gate pattern of the period that begins, by the state (Table 8-3): the probes of CATCH in one period of 4, centred
on its count 0, the zero vector of BRAKE, the duties latched, or none. -/
def Dev.gatePattern (d : Dev) (n : Nat) : GatePattern :=
  let x := d.spin n
  let probe (k : Nat) : Int := if k % 4 = 0 then 4 * d.rd Reg.MOT_SP_PROBE_PROBE_T n else 0
  match d.spState n with
  | 1 => if x.pause then .off else .zero (probe x.period) (probe (x.period + 1))
  | 2 => .zero (125 * x.shortNow) (125 * x.shortNow)
  | 3 | 4 | 5 | 6 => if x.pause || x.duties.isEmpty then .off else .pwm x.duties
  | _ => .off

/-- Count 0 of a period: the duties and the braking fraction computed before are latched, and with them the gate pattern
(R289, R294). -/
def Dev.latch (d : Dev) (n : Nat) (late : Bool) : Dev :=
  let x := d.spin n
  let d := d.setSpin n { x with
    duties := x.next, shortNow := x.short, period := x.period + 1, misses := if late then x.misses else 0 }
  d.setSpin n { d.spin n with gates := d.gatePattern n }

/-- The currents of a period are taken, and the next period's drive is computed as the state says (R297 to R311). -/
def Dev.focStep (d : Dev) (n : Nat) : Dev :=
  let st := d.spState n
  let x := d.spin n
  let (ia, ib) := d.currentsAt n 0
  -- the latest bus voltage is taken (Table 8-2)
  let vbus : Int := d.rd Reg.MOT_SP_VBUS_VBUS n
  let trip : Int := d.rd Reg.MOT_SP_LIM_I_TRIP n
  let i := clarke ia ib
  if st != 0 && st != 7 && decide (trip < d.phasePeak n) then d.spFaultErr Reg.MOT_SP_ERR_OVERCURRENT n
  else
    match st with
    | 0 => d.currentOffset n
    | 1 =>
      -- the output that ends with the probe of the last period, PROBE_T/2 clocks after its count 0
      if x.period % 4 = 1 && 1 < x.period && !x.pause then
        let q := d.currentsAt n (523 - d.rd Reg.MOT_SP_PROBE_PROBE_T n / 2)
        d.probe n (x.period - 1) (clarke q.1 q.2)
      else d
    | 2 =>
      let peak := d.vectorPeak n
      let above (r : Fld) : Bool := decide ((d.rd r n : Int) * d.rd r n < peak)
      let low := decide (peak < (d.rd Reg.MOT_SP_PROBE_PROBE_MIN n : Int) * d.rd Reg.MOT_SP_PROBE_PROBE_MIN n)
      d.setSpin n { x with
        short := clampI 3 16 (if above Reg.MOT_SP_PROBE_SHORT_I_LIM then x.short - 1 else x.short + 1),
        calm := if low then x.calm + 1 else 0 }
    | 3 =>
      let total : Int := d.rd Reg.MOT_SP_START_ALIGN_T n * 48828
      let ramp := divR (d.rd Reg.MOT_SP_START2_ALIGN_I n * x.period * 4000) total
      let d := if x.period % 8 = 0 then d.wrS Reg.MOT_SP_RPM_SPEED (divR x.fSpd 65536) n else d
      d.focDrive n i vbus (min ramp (d.rd Reg.MOT_SP_START2_ALIGN_I n)) 0 0 0
    | 4 =>
      if x.pause then d
      else
        let poles : Int := d.rd Reg.MOT_SP_CFG_POLES n
        let spd := x.fSpd + divR (d.rd Reg.MOT_SP_START2_RAMP_ACC n * 65536 * 2048) 100000000
        let ang := x.fAng + forcedStep poles spd
        let d := (d.setSpin n { x with fSpd := spd, fAng := ang }).observe n ia ib vbus
        let x := d.spin n
        let a := divR ang 65536
        let off := ofBits 16 (toBits 16 (x.theta - a))
        let d := d.setSpin n { x with lock := if off.natAbs ≤ 5461 then x.lock + 1 else 0 }
        let d := if x.period % 8 = 0 then d.wrS Reg.MOT_SP_RPM_SPEED (divR spd 65536) n else d
        d.focDrive n i vbus (d.rd Reg.MOT_SP_START2_ALIGN_I n) 0 a 0
    | 5 | 6 =>
      let d := d.observe n ia ib vbus
      let x := d.spin n
      let poles : Int := d.rd Reg.MOT_SP_CFG_POLES n
      -- during the blend θ moves from the forced angle to the observer angle (R308)
      let a := if x.blend = 0 then x.theta
        else
          let f := divR x.fAng 65536
          f + divR (ofBits 16 (toBits 16 (x.theta - f)) * (64 - (x.blend : Int))) 64
      let d := if x.blend = 0 then d
        else d.setSpin n { x with fAng := x.fAng + forcedStep poles x.fSpd, blend := x.blend - 1 }
      (d.focDrive n i vbus 0 (d.spin n).iqRef a (divR (3 * x.we) (2 * 65536)))
    | _ => d

/-- A PWM period: its streams, what it latches, and its step. -/
def Dev.focPeriod (d : Dev) (n : Nat) (m : FocSample) : Dev := ((d.takeCurrents n m).latch n m.late).focStep n

/-- The states whose drive is computed each period, in which the FOC deadline applies (R297). -/
def Dev.focDue (d : Dev) (n : Nat) : Bool := [2, 3, 4, 5, 6].contains (d.spState n)

/-- A FOC compute has missed its cutoff: the duties and the braking fraction are repeated; a second miss in a row turns the gates off
(R297, Table 1-3). -/
def Dev.focMiss (d : Dev) (n : Nat) : Dev :=
  if !d.focDue n then d
  else
    let d := (d.bump Reg.MOT_SP_CNT_FOC_MISS 1 n).miss 2 n
    let x := d.spin n
    let d := d.setSpin n { x with misses := x.misses + 1, next := x.duties, short := x.shortNow }
    if 2 ≤ x.misses + 1 then d.spFaultErr Reg.MOT_SP_ERR_FOC_MISS n else d

/-! ## Speed (R300, R301, R310, R313) -/

/-- The speed in 1/65536 rpm of the wedges of a pickup that reports a P_w based on one revolution (R300). -/
def Dev.wedgeRpm (d : Dev) (p : Nat) : Option Int :=
  let pw := d.rd Reg.SVO_PW_PW p
  if d.svoRuns p && (d.svo p).based && pw != 0 then some (divR (3662109375 * 256 * 65536) (10 * pw)) else none

/-- The observer speed in 1/65536 rpm, from the electrical speed in 1/65536 turn per period scaled by 65536 (R299). -/
def Dev.observerRpm (d : Dev) (n : Nat) : Int :=
  divR ((d.spin n).we * (60 * 100000000)) (65536 * 2048 * d.rd Reg.MOT_SP_CFG_POLES n)

/-- The speed of the speed loop (R300): its source, as MOT_SP_STATUS.SRC shows it, and its value in 1/65536 rpm. -/
def Dev.speedSource (d : Dev) (n : Nat) : Nat × Int :=
  match d.wedgeRpm (2 * n), d.wedgeRpm (2 * n + 1) with
  | some r, _ => (1, r)
  | none, some r => (2, r)
  | none, none => (0, d.observerRpm n)

/-- The check of the induced-voltage constant, once a revolution in which |dn/dt| stays below 100 rpm/s (R310): from the
observer's back-EMF in mV, as its two stator components, and the speed in 1/65536 rpm. -/
def Dev.keCheck (d : Dev) (n : Nat) (rpm : Int) (emf : Int × Int) : Dev :=
  let x := d.spin n
  let steady := x.steady && decide ((rpm - x.was).natAbs * 100000000 < 100 * 65536 * 16384)
  let turned := x.turned + rpm * 16384
  let whole : Int := 65536 * 60 * 100000000
  if turned < whole then d.setSpin n { x with turned := turned, was := rpm, steady := steady }
  else
    let d := d.setSpin n { x with turned := turned - whole, was := rpm, steady := true }
    if !steady then d
    else
      let k := (divR (113512 * magnitude emf * 1000) rpm).toNat
      let d := d.wr Reg.MOT_SP_KEM_KE_MEAS k n
      if d.keOk n k then d.setSpin n { d.spin n with keBad := 0 }
      else
        let b := x.keBad + 1
        let d := d.setSpin n { d.spin n with keBad := b }
        if 2 ≤ b then d.spFaultErr Reg.MOT_SP_ERR_KE n else d

/-- The reference moves toward a target by one update of 163.84 µs at a rate in rpm/s. -/
def rampRef (ref target : Int) (acc dec : Int) : Int :=
  let s (r : Int) : Int := divR (r * 65536 * 16384) 100000000
  if ref < target then min target (ref + s acc) else max target (ref - s dec)

/-- A speed-loop update (R300): the reference ramps, the speed is taken from the wedges or the observer, and
iq_ref follows; at-speed and the induced-voltage constant are judged (R301, R310). -/
def Dev.speedUpdate (d : Dev) (n : Nat) (emf : Int × Int) : Dev :=
  let st := d.spState n
  if st != 5 && st != 6 then d
  else
    let x := d.spin n
    let (src, rpm) := d.speedSource n
    let target : Int := if st = 5 then d.rd Reg.MOT_SP_RPM_TARGET n else 0
    let dec := divR (d.rd Reg.MOT_SP_RAMP_DECEL n) (2 ^ x.cuts)
    let ref := rampRef x.ref (target * 65536) (d.rd Reg.MOT_SP_RAMP_ACCEL n) dec
    let lim : Int := d.rd Reg.MOT_SP_LIM_I_MAX n
    let e := divR (ref - rpm) 65536
    -- a change of source presets the integrator so that iq_ref is unchanged
    let si := if src = d.rd Reg.MOT_SP_STATUS_SRC n then x.si
      else x.iqRef * 65536 - 16 * d.rdS Reg.MOT_SP_SPD_KP_S n * e - 4 * d.rdS Reg.MOT_SP_SPD_KI_S n * e
    let (iq, si) := piStep (d.rdS Reg.MOT_SP_SPD_KP_S n) (d.rdS Reg.MOT_SP_SPD_KI_S n) e si lim
    let off := (rpm - target * 65536).natAbs
    let near := decide (off * 1024 ≤ target.natAbs * 65536) && st == 5
    let lost := decide (4 * target.natAbs * 65536 < off * 1024)
    let x := { x with
      ref := ref, si := si, iqRef := clampI (-lim) lim iq, near := if near then x.near + 1 else 0,
      cuts := if ref = target * 65536 then 0 else x.cuts, fSpd := rpm }
    let d := (((d.setSpin n x).wrS Reg.MOT_SP_RPM_SPEED (divR rpm 65536) n).wr Reg.MOT_SP_STATUS_SRC src n).wr
      Reg.MOT_SP_STATUS_DIR (if rpm < 0 then 1 else 0) n
    let d := if ref = target * 65536 then d.wr Reg.MOT_SP_STATUS_DECEL_CUT 0 n else d
    let d := if lost && d.flag Reg.MOT_SP_STATUS_AT_SPEED n then d.wr Reg.MOT_SP_STATUS_AT_SPEED 0 n else d
    let d := if st = 5 then d.keCheck n rpm emf else d.setSpin n { d.spin n with keBad := 0, turned := 0, was := rpm, steady := true }
    if d.spState n = 6 && decide (rpm < (d.rd Reg.MOT_SP_START_HANDOVER n : Int) * 65536) then d.spBrake n else d

/-! ## The bus (R312, R313) -/

/-- An output of the bus filter: the chopper, the overvoltage trip and the cut of the deceleration. -/
def Dev.busOutput (d : Dev) (n : Nat) : Dev :=
  let st := d.spState n
  let mv := d.busMv n
  let d := d.wr Reg.MOT_SP_VBUS_VBUS mv n
  if st = 0 then d.setSpin n { d.spin n with escRun := 0, lowRun := 0, uvRun := 0 }
  else
    let on := 125 * d.rd Reg.MOT_SP_BUS_CHOP_ON n
    -- the chopper is forced on as long as the bus stream is stuck (R314)
    let x := { d.spin n with stuck := (d.spin n).stuckAt 2 }
    let chop := d.flag Reg.MOT_SP_STATUS_CHOP n
    let chop' := x.stuck || decide (on < mv) || (chop && (x.esc || !decide (mv < on - 1000)))
    let d := d.wr Reg.MOT_SP_STATUS_CHOP (if chop' then 1 else 0) n
    let falling := decide (((if st = 5 then d.rd Reg.MOT_SP_RPM_TARGET n else 0 : Nat) : Int) * 65536 < x.ref)
    let rise := decide (on < mv) && !x.rose && falling && (st == 5 || st == 6)
    let runs (b : Bool) (k : Nat) : Nat := if b then k + 1 else 0
    let d := d.setSpin n { x with
      escRun := runs (chop' && decide (125 * d.rd Reg.MOT_SP_BUS_ESC n < mv)) x.escRun,
      lowRun := runs (chop' && decide (d.brakeMa n < d.rd Reg.MOT_SP_BRAKE_BRK_I_MIN n)) x.lowRun,
      uvRun := runs (decide (mv < 125 * d.rd Reg.MOT_SP_BUS_UV n)) x.uvRun,
      rose := decide (on < mv), cuts := if rise then min 3 (x.cuts + 1) else x.cuts }
    let d := if rise then d.wr Reg.MOT_SP_STATUS_DECEL_CUT 1 n else d
    if decide (125 * d.rd Reg.MOT_SP_BUS_TRIP n < mv) then
      if st = 7 then d.spErr Reg.MOT_SP_ERR_OVERVOLT n else d.spFaultErr Reg.MOT_SP_ERR_OVERVOLT n
    else d

/-- A run of outputs of the bus filter, 1.31072 µs apart, lasts for a time in 10 ps. -/
def lasts (time outputs : Nat) : Bool := decide (time ≤ outputs * 131072)

/-! ## MOTION spin and release (R302, R311, R624) -/

/-- A spin that has not completed gives way to a later spin, stop or release (R483). -/
def Dev.supersedeSpin (d : Dev) (n : Nat) : Dev := d.completeAll (spinWait n) St.superseded

/-- A spin to a speed: context `c` completes at the at-speed report. -/
def Dev.spStart (d : Dev) (n rpm : Nat) : Dev :=
  let d := (d.notAtSpeed n).wr Reg.MOT_SP_RPM_TARGET rpm n
  let x := d.spin n
  -- what R312 latched ends with the next start
  let d := d.setSpin n { x with start := true, tries := 0, near := 0, esc := false }
  let speed := if rpm = d.rd Reg.MOT_SP_SPEED_BURN_RPM n then 1 else 0
  let d := d.takeSpeed n speed
  match d.spState n with
  | 0 | 7 => d.spRequest n
  | 6 => (d.setSpin n { d.spin n with ref := (d.spin n).fSpd }).setSpState n 5
  | _ => d

/-- A stop. -/
def Dev.spStop (d : Dev) (n : Nat) : Dev :=
  let d := (d.notAtSpeed n).wr Reg.MOT_SP_RPM_TARGET 0 n
  let d := d.setSpin n { d.spin n with start := false }
  match d.spState n with
  | 0 => d.completeAll (fun w => w == .spOff n) St.success
  | 3 | 4 => d.spBrake n
  | 5 => d.setSpState n 6
  | 7 => d.spToOff n
  | _ => d

/-- The stage of a spindle is released in any state (R624). -/
def Dev.spRelease (d : Dev) (n : Nat) : Dev :=
  let held := d.granted n
  let d := (d.setSpin n { d.spin n with start := false }).wr Reg.MOT_SP_RPM_TARGET 0 n
  let d := (d.spToOff n).wr Reg.MOT_SP_STATUS_REQ 0 n
  let d := d.spindleLost n St.ownershipDenied
  if held then d else d.completeAll (fun w => w == .grantOff n) St.success

/-! ## The rows -/

/-- Count 0 of a PWM period (R297). -/
def execFocPeriod (n : Spn) (m : FocSample) (s : State) : Host.Outcome State Fault Refusal :=
  State.runTick 8 s fun d => if d.hasSp n then d.focPeriod n m else d

/-- A FOC compute misses its cutoff (R297). -/
def execFocCutoff (n : Spn) (s : State) : Host.Outcome State Fault Refusal := State.runTick 8 s fun d => d.focMiss n

/-- A speed-loop update (R300), with the back-EMF that the observer shows at it (R299, R310). -/
def execSpeedLoopUpdate (n : Spn) (emfAlpha emfBeta : Int) (s : State) : Host.Outcome State Fault Refusal :=
  State.runTick 8 s fun d => d.speedUpdate n (emfAlpha, emfBeta)

/-- 64 consecutive speed updates near the commanded speed report the spindle at speed (R301). -/
def execAtSpeedReport (n : Spn) (s : State) : Host.Outcome State Fault Refusal :=
  s.run fun d =>
    if d.spState n = 5 && decide (64 ≤ (d.spin n).near) && !d.flag Reg.MOT_SP_STATUS_AT_SPEED n then
      let d := (d.wr Reg.MOT_SP_STATUS_AT_SPEED 1 n).completeAll (fun w => w == .atSpeed n.val) St.success
      -- the first spin-up after power-up asks for a full calibration (Table 9-3)
      [2 * n.val, 2 * n.val + 1].foldl (fun d p => if d.hasPk p && !(d.calPk p).ready then d.calAsk p true else d) d
    else d

/-- A spindle in RUN with a steady reference has not reported at speed for 2 s (R301). -/
def execSpeedErrTimeout (n : Spn) (s : State) : Host.Outcome State Fault Refusal :=
  s.run fun d =>
    if d.spState n = 5 && !d.flag Reg.MOT_SP_STATUS_AT_SPEED n
        && decide ((d.spin n).ref = (d.rd Reg.MOT_SP_RPM_TARGET n : Int) * 65536) then
      d.spErr Reg.MOT_SP_ERR_SPEED_ERR n
    else d

/-- vq clamped for 64 periods in a row (R298). -/
def execModulationLimit (n : Spn) (s : State) : Host.Outcome State Fault Refusal :=
  s.run fun d => if d.spState n = 5 && decide (64 ≤ (d.spin n).clamped) then d.spErr Reg.MOT_SP_ERR_SAT n else d

/-- The probe of the catch interval whose current comes with its end, if there is one (R304). -/
def Dev.lastProbe (d : Dev) (n : Nat) (last : Option (Int × Int)) : Dev :=
  match last with
  | some i => d.probe n (d.spin n).period i
  | none => d

/-- The catch interval ends (R306). -/
def execCatchEnd (n : Spn) (last : Option (Int × Int)) (s : State) : Host.Outcome State Fault Refusal :=
  s.run fun d => if d.spState n = 1 then (d.lastProbe n last).catchDecide n else d

/-- ALIGN_T has elapsed (R308). -/
def execAlignEnd (n : Spn) (s : State) : Host.Outcome State Fault Refusal :=
  s.run fun d => if d.spState n = 3 then d.setSpState n 4 else d

/-- Hand-over: the forced speed has reached HANDOVER and the observer has stayed within 30° for 32 periods
(R308). -/
def execHandover (n : Spn) (s : State) : Host.Outcome State Fault Refusal :=
  s.run fun d =>
    let x := d.spin n
    if d.spState n = 4 && !x.pause && decide (32 ≤ x.lock)
        && decide ((d.rd Reg.MOT_SP_START_HANDOVER n : Int) * 65536 ≤ x.fSpd) then
      let iq := d.rdS Reg.MOT_SP_VBUS_IQ n
      (d.setSpState n 5).setSpin n { x with
        period := 0, blend := 64, si := iq * 65536, iqRef := iq, ref := x.fSpd, near := 0, clamped := 0, tries := 0 }
    else d

/-- 64 periods of RUN after hand-over: θ is the observer angle (R308). -/
def execAngleBlendEnd (n : Spn) (s : State) : Host.Outcome State Fault Refusal :=
  s.run fun d => d.setSpin n { d.spin n with blend := 0 }

/-- No hand-over within 200 ms fails the attempt: the gates go off for 100 ms (R309). -/
def execHandoverTimeout (n : Spn) (s : State) : Host.Outcome State Fault Refusal :=
  s.run fun d =>
    let x := d.spin n
    if d.spState n = 4 && !x.pause && decide ((d.rd Reg.MOT_SP_START_HANDOVER n : Int) * 65536 ≤ x.fSpd) then
      d.setSpin n { x with pause := true, tries := x.tries + 1, next := [0, 0, 0], duties := [0, 0, 0], gates := .off }
    else d

/-- After 100 ms off the start repeats from CATCH; after START_TRIES failures the spindle enters FAULT (R309). -/
def execStartRetry (n : Spn) (s : State) : Host.Outcome State Fault Refusal :=
  s.run fun d =>
    let x := d.spin n
    if d.spState n = 4 && x.pause then
      if d.rd Reg.MOT_SP_START_START_TRIES n ≤ x.tries then d.spFaultErr Reg.MOT_SP_ERR_START_FAIL n
      else d.spCatch n
    else d

/-- The current has stayed below PROBE_MIN for 20 ms: braking ends (R307, R311). -/
def execBrakeEnd (n : Spn) (s : State) : Host.Outcome State Fault Refusal :=
  s.run fun d =>
    if d.spState n != 2 || (d.spin n).calm * 2048 < 2000000 then d
    -- the response of R312 is latched until the next start (assumption 93)
    else if (d.spin n).esc then (d.setSpin n { d.spin n with start := false }).spToOff n
    else if (d.spin n).start then d.spAlign n
    else d.spToOff n

/-- An output of the bus filter (R312, R313). -/
def execBusFilterOutput (n : Spn) (m : BusSample) (s : State) : Host.Outcome State Fault Refusal :=
  State.runUnit 8 s fun d => if d.hasSp n then (d.takeBus n m).busOutput n else d

/-- 200 µs above ESC, or with low brake current, with the chopper commanded (R312). -/
def execEscTimeout (n : Spn) (s : State) : Host.Outcome State Fault Refusal :=
  s.run fun d =>
    let x := d.spin n
    if d.spState n = 0 || !d.flag Reg.MOT_SP_STATUS_CHOP n || !(lasts 20000000 x.escRun || lasts 20000000 x.lowRun) then d
    else
      let d := d.spErr Reg.MOT_SP_ERR_CHOP_FAULT n
      let d := d.setSpin n { d.spin n with esc := true }
      if d.spState n = 7 then d else d.spBrake n

/-- The bus has been below UV for 1 ms (R312). -/
def execUndervoltTimeout (n : Spn) (s : State) : Host.Outcome State Fault Refusal :=
  s.run fun d =>
    if d.spState n = 0 || !lasts 100000000 (d.spin n).uvRun then d
    else if d.spState n = 7 then d.spErr Reg.MOT_SP_ERR_UNDERVOLT n
    else d.spFaultErr Reg.MOT_SP_ERR_UNDERVOLT n

/-- SPn_DESAT_N low (R314): ignored in OFF; in FAULT only recorded. -/
def execDesat (n : Spn) (s : State) : Host.Outcome State Fault Refusal :=
  State.runUnit 8 s fun d =>
    if d.spState n = 0 then d
    else if d.spState n = 7 then d.spErr Reg.MOT_SP_ERR_DESAT n
    else d.spFaultErr Reg.MOT_SP_ERR_DESAT n

/-- A modulator stream is stuck (R290, R314): 0 current A, 1 current B, 2 bus voltage, 3 brake current. -/
def execModStuck (n : Spn) (stream : Fin 4) (s : State) : Host.Outcome State Fault Refusal :=
  State.runUnit 8 s fun d =>
    if d.spState n = 0 || !(d.spin n).stuckAt stream then d
    else
      let d := if d.spState n = 7 then d.spErr Reg.MOT_SP_ERR_MOD_STUCK n else d.spFaultErr Reg.MOT_SP_ERR_MOD_STUCK n
      if stream = 2 then (d.setSpin n { d.spin n with stuck := true }).wr Reg.MOT_SP_STATUS_CHOP 1 n else d

end Sys2Proof.Machine
end

