-- ==== Sys2Proof/Machine/Wedge.lean ====
section
/-! DEFINITION. The wedge reader: the fields and bursts of a wedge from its 128 cells (R49, R50, R51, R240, R242). -/

namespace Sys2Proof

/-- A wedge cell as the reader integrates it. -/
def WedgeRead.cell (w : WedgeRead) (i : Nat) : Int := w.cells.getD i 0

/-- Field bit `i`, counted from the most significant bit of the track number: cells 28 + 2i and 29 + 2i in biphase coding.
The model reads a first cell above the second as 1; the spec does not give the polarity (assumption 77). -/
def WedgeRead.fieldBit (w : WedgeRead) (i : Nat) : Bool := decide (w.cell (29 + 2 * i) < w.cell (28 + 2 * i))

/-- The 32 field bits, the most significant first: track number [31:13], layer [12:11], side [10], index [9:1], check
[0]. -/
def WedgeRead.bits (w : WedgeRead) : BitVec 32 :=
  BitVec.ofNat 32 ((List.range 32).foldl (fun v i => 2 * v + if w.fieldBit i then 1 else 0) 0)

/-- The integrated amplitude of burst `n`, 0 to 3 for A to D: its 8 cells from cell 92 + 8n on. The gain that the reader sets
on the preamble scales every cell alike, so that neither a biphase decision nor the angle of the bursts depends on it. -/
def WedgeRead.burst (w : WedgeRead) (n : Nat) : Int := ((List.range 8).map fun i => w.cell (92 + 8 * n + i)).sum

end Sys2Proof

namespace Sys2Proof.Machine

open Sys2Proof

/-- The even parity of the 32 field bits, check bit included (Table 2-2). -/
def wedgeCheck (b : BitVec 32) : Bool := (List.range 32).foldl (fun s i => s ^^ b.getLsbD i) false == false

/-- The burst position in 1/65536 track nearest to a position in 1/65536 track (R242): 2n + θ/π tracks. -/
def burstPos (w : WedgeRead) (near : Int) : Int :=
  let f := arctan2 (w.burst 2 - w.burst 3) (w.burst 0 - w.burst 1) * 2
  ((near - f + 65536) / 131072) * 131072 + f

end Sys2Proof.Machine
end

