-- ==== Sys2Proof/Machine/Servo.lean ====
section
/-! DEFINITION. Servo procedures: focus acquisition, layer jumps, seeks, moves, wedges and the tick
(R235 to R284, R622, R623). -/

namespace Sys2Proof.Machine

open Sys2Proof

/-! ## On track (R127, R128, R264) -/

/-- Starts the spot channels of a burn's revolution: those whose track is recorded; the others are IDLE, and take their seed
when they next run (R128, R167). -/
def Dev.spotsRow (d : Dev) (p layer band rev : Nat) : Dev :=
  (List.range 32).foldl (fun d j =>
    let g := 32 * p + j
    if 31 < j + rev || decide (rev < (j + rev) % 4) then (d.spotIdle g).seedVoid g
    else if d.mode g == 0 || d.mode g == 4 then
      d.spotBegin g (sideOf p) layer band (j + rev) (d.svoSpeed p) (j % 4 == 0) true
    else d) d

/-- Starts the spot channels of a pickup for the band read or the burn revolution that runs there (R127, R128):
in a read every spot, in revolution i of a burn the spots whose track is recorded. -/
def Dev.spotsRun (d : Dev) (p : Nat) : Dev :=
  let side := sideOf p
  let speed := d.svoSpeed p
  match d.burn p with
  | some b => if 4 ≤ b.rev then d else d.spotsRow p b.layer b.band b.rev
  | none =>
    match mget d.reads none p with
    | some r => (List.range 32).foldl (fun d j =>
        let g := 32 * p + j
        if d.mode g == 0 || d.mode g == 4 then d.spotBegin g side r.layer r.band j speed true false else d) d
    | none => d

/-- After the jump at the end of a band the channels of revolution 0 of the next band start where the Crystalliser presents the
band that the row has come to: their ACQUIRE begins with the end of the profile, before the burn itself does (R127, R623). -/
def Dev.spotsNext (d : Dev) (p : Nat) : Dev :=
  match (d.disc (spindleOf p)).bind fun x => d.presented p x with
  | some (_, _, layer, band, _) =>
    if layer = d.svoLayer p && 32 * band + 16 = d.svoTarget p then d.spotsRow p layer band 0 else d
  | none => d

/-- The wedge of spot 16 at time `t` may verify the position: in a burn one that passes at least 2 µs after the last command of
the profile was applied (R623). The channels of the next band's burn run already before it begins. -/
def Dev.lateWedge (d : Dev) (p t : Nat) : Bool :=
  !(d.svoBurn p || ((d.spot (32 * p)).draw && d.mode (32 * p) != 0)) || decide (((d.svo p).mark + 6250) * 16 ≤ t)

/-- The calibration values of the zone of T* come into use, bumplessly (R261, R262). -/
def Dev.takeZone (d : Dev) (p : Nat) : Dev :=
  let x := d.svo p
  if x.zone = d.svoZone p then d.useScope p
  else [0, 2, 3].foldl (fun d l => d.rebump p l) ((d.setSvo p { x with zone := d.svoZone p }).useScope p)

/-- The engine enters ON_TRACK: it is reported, and a seek completes (R264, R483). -/
def Dev.enterOnTrack (d : Dev) (p : Nat) : Dev :=
  let d := d.setSvoState p 5
  let x := d.svo p
  let d := d.setSvo p { x with phase := .none, held := false, search := none, pair := 0, told := true }
  (((d.takeZone p).spotsRun p).sledCheck p).completeAll (fun w => w == .onTrack p) St.success

/-! ## Moves, seeks and jumps (R275 to R284) -/

/-- The half length of a move of `n` tracks: the least `h` with `h ≥ JUMP_TICKS · sqrt(n/32)` (R282). -/
def moveHalf (jt n : Nat) : Nat :=
  ((List.range (jt + 1)).find? fun h => decide (jt * jt * n ≤ 32 * h * h)).getD jt

/-- What every procedure that leaves the track does first: write_en 0, spots idle, off track. -/
def Dev.leaveTrack (d : Dev) (p st : Nat) : Dev :=
  let d := ((d.offTrack p).setSvoState p st).setVerified p false
  d.setSvo p { d.svo p with teRun := 0, pair := 0, search := none, slips := 0, t := 0 }

/-- The profile of a move ends (R283): the polarity follows the target, tracking and then yaw close, and in a
burn the running spot channels enter ACQUIRE. -/
def Dev.profileEnd (d : Dev) (p : Nat) : Dev :=
  let x := d.svo p
  let d := d.setSvo p { x with phase := .land, t := 0, teRun := 0, pair := 0, held := false }
  let d := ((d.setLand p (isLand (d.svoTarget p))).auto p 1).auto p 4
  match d.burn p with
  | some b => if b.rev < 4 then d.spotsRun p else d.spotsNext p
  | none => if x.own && x.mvN == 29 && (mget d.reads none p).isNone then d.spotsNext p else d

/-- Tracking and yaw are under the engine's control as a seek begins, held as R278 and R282 say. -/
def Dev.engage (d : Dev) (p : Nat) : Dev :=
  [1, 4].foldl (fun d l => if d.loopMode p l = 0 || d.loopMode p l = 1 then d.auto p l else d) d

/-- A move of `n` tracks, at most 32 either way (R282); `own` for one made by itself (R281). One of no track has no profile. -/
def Dev.move (d : Dev) (p : Nat) (n : Int) (own : Bool) : Dev :=
  let d := (d.leaveTrack p 3).engage p
  let jt := d.rd Reg.SVO_MOVE_JUMP_TICKS p
  let m := n.natAbs
  let h := moveHalf jt m
  let a := divR (d.calUse p qJumpAmp 0 * m * jt * jt) (32 * h * h)
  let x := d.svo p
  if n = 0 then (d.setSvo p { x with own := own, mvN := 0, mvH := 0, mvA := 0, mvK := 0 }).profileEnd p
  else d.setSvo p { x with
    phase := .profile, own := own, mvN := n, mvH := h, mvA := if n < 0 then -a else a, mvK := 0 }

/-- The position of spot 16 in tracks: the track of the last burst position. -/
def Dev.svoTrack (d : Dev) (p : Nat) : Nat := d.rd Reg.SVO_POS_TRACK p

/-- The last burst position of spot 16 in 1/65536 track. -/
def Dev.svoPos (d : Dev) (p : Nat) : Int := d.rd Reg.SVO_POS_TRACK p * 65536 + divR (d.rdS Reg.SVO_POS_OFFSET p * 65536) 480

/-- A seek procedure has failed (R281): SEEK_FAIL, and HOLD. -/
def Dev.seekFail (d : Dev) (p : Nat) : Dev :=
  let d := d.svoErr Reg.SVO_ERR_SEEK_FAIL p
  (d.hold p 4).svoFailed p

/-- Goes to T* from the present position (R278): a move, a fine seek, or a sled seek first. -/
def Dev.toTarget (d : Dev) (p : Nat) : Dev :=
  let n : Int := (d.svoTarget p : Int) - d.svoTrack p
  if n.natAbs ≤ 32 then d.move p n true
  else
    let d := (d.leaveTrack p 3).engage p
    let x := d.svo p
    if n.natAbs ≤ d.rd Reg.SVO_MOVE_FINE_SEEK_MAX p then
      d.setSvo p { x with phase := .fine, own := false, left := n, seekN := n }
    else if !d.homed (2 * p) then (d.axErr Reg.MOT_AX_ERR_NOT_HOMED (2 * p)).seekFail p
    else
      let ax := d.axis (2 * p)
      let step : Int := d.rdAx Reg.MOT_AX_CFG_STEP (2 * p)
      let vmax := min (d.vMax (2 * p)) (divR (d.rd Reg.SVO_SEEK_SEEK_VMAX p * 1000000) step)
      let d := d.axisMove (2 * p) (ax.pos / 65536 + divR (n * 120) step) vmax 3
      d.setSvo p { d.svo p with
        phase := .sled, own := false, left := n, sledBase := d.svoPos p, sledAt := (d.axis (2 * p)).pos }

/-- A failed verification repeats the seek or move from the wedge position, up to SEEK_TRIES times (R281). -/
def Dev.retrySeek (d : Dev) (p : Nat) : Dev :=
  let x := d.svo p
  if d.rd Reg.SVO_MOVE_SEEK_TRIES p ≤ x.tries then d.seekFail p
  else ((d.bump Reg.SVO_CNT_D_MOVE_RETRY 1 p).setSvo p { x with tries := x.tries + 1 }).toTarget p

/-- A fine seek to T* from the position of a wedge (R245, R283). -/
def Dev.fineSeek (d : Dev) (p : Nat) : Dev :=
  let n : Int := (d.svoTarget p : Int) - d.svoTrack p
  let d := (d.leaveTrack p 3).engage p
  d.setSvo p { d.svo p with phase := .fine, own := false, left := n, seekN := n }

/-- A layer jump one layer toward `last` (R275). -/
def Dev.layerJump (d : Dev) (p last : Nat) : Dev :=
  let cur := d.svoLayer p
  let next := if cur < last then cur + 1 else cur - 1
  let d := (d.leaveTrack p 4).seedsVoid p
  let x := d.svo p
  -- the trim of the new layer is requested at once (Table 7-7)
  let code := ((d.calValue qSphere p next).getD [Config.calDefault qSphere next]).headD 0
  let d := d.ctl p (.trim (0x60 + next) code.toNat)
  d.setSvo p { x with
    sphere := code,
    phase := .kick, jump := some (next, last), sc := 0, jticks := 0,
    before := some (d.rd Reg.SVO_WEDGE_INDEX p, x.wtime, cur), wrongs := 0 }

/-- Verifies the position as after WEDGE_LOST (R245): FOCUSED, the loops as they are, and a search. -/
def Dev.beginSearch (d : Dev) (p : Nat) : Dev :=
  let d := d.leaveTrack p 2
  d.setSvo p { d.svo p with phase := .none, held := false, search := some 0, pair := 0 }

/-- Closes the loops that were held, bumplessly (R261, R269). -/
def Dev.closeHeld (d : Dev) (p : Nat) : Dev :=
  [1, 2, 3, 4].foldl (fun d l => if d.loopMode p l = 2 || d.loopMode p l = 3 then d.auto p l else d) d

/-- Sets T*: layer and track. A change of layer, zone or track type voids the seeds of the spots (R166). -/
def Dev.setTarget (d : Dev) (p layer track : Nat) : Dev :=
  let old := d.svoTarget p
  let same := d.rd Reg.SVO_TARGET_LAYER p == layer && zoneOf (old / 32) == zoneOf (track / 32) && isLand old == isLand track
  let d := if same then d else d.seedsVoid p
  ((d.wr Reg.SVO_TARGET_TRACK track p).wr Reg.SVO_TARGET_LAYER layer p).wr Reg.SVO_TARGET_VALID 1 p

/-- A seek of spot 16 to a track of a layer (R278). -/
def Dev.seek (d : Dev) (p layer track : Nat) : Dev :=
  let d := d.setTarget p layer track
  let d := d.setSvo p { d.svo p with tries := 0 }
  if layer = d.svoLayer p then d.toTarget p else d.layerJump p layer

/-- A seek that waited for FOCUSED or ON_TRACK starts (R262). -/
def Dev.startLater (d : Dev) (p : Nat) : Dev :=
  let later (w : Wait) : Option (Nat × Nat) := match w with | .seekLater q l t => if q = p then some (l, t) else none | _ => none
  match (d.waiting fun w => (later w).isSome) with
  | [] => d
  | c :: _ =>
    match d.ctx c with
    | some k =>
      match later k.wait with
      | some (l, t) => (d.await c (.onTrack p)).seek p l t
      | none => d
    | none => d

/-! ## Focus acquisition (R273, R274) -/

/-- The conditions of focus acquisition: speed, port, ownership; the axes are homed first (R320). -/
def Dev.facqReady (d : Dev) (p : Nat) : Bool :=
  d.flag Reg.MOT_SP_STATUS_AT_SPEED (spindleOf p) && d.portUp p && d.owns p && d.homed (2 * p) && d.homed (2 * p + 1)
    && d.calSwept p && (d.svo p).resume == 0

/-- The quantities take their targets at once in the scope that the pickup enters (R346). -/
def Dev.calAtOnce (d : Dev) (p : Nat) : Dev := (d.setCalPk p { d.calPk p with vals := [] }).useScope p

/-- The read power in use changes, and with it the trim of the read laser (Table 9-2). -/
def Dev.setPower (d : Dev) (p : Nat) (v : Int) : Dev :=
  let x := d.svo p
  if x.power = v then d else (d.setSvo p { x with power := v }).ctl p (.trim 0x30 (clampI 0 65535 v).toNat)

/-- Focus acquisition begins (Table 7-6): laser on, tilt and yaw MANUAL at calibrated values, tracking MANUAL at
0, focus fully retracted. -/
def Dev.facqBegin (d : Dev) (p layer : Nat) : Dev :=
  let d := (((d.leaveTrack p 1).wr Reg.SVO_STATE_LAYER layer p).wr Reg.SVO_STATE_SIDE (sideOf p) p).calAtOnce p
  let d := d.setPower p (d.calUse p qReadPower 0)
  let d := (d.manual p 0 (-(d.outLim p 0))).manual p 1 0
  let d := (d.manual p 2 (d.calUse p qFocOfs 1)).manual p 3 (d.calUse p qFocOfs 2)
  let d := d.manual p 4 (d.calUse p qYawOfs 0)
  let x := d.svo p
  d.setSvo p { x with
    phase := .laser, t := 0, sc := 0, curves := 0, facq := 0, want := none, held := true, jump := none, faulting := false }

/-- Focus acquisition is asked for: it waits until its conditions hold; the axes of the pickup are homed first. -/
def Dev.facqAsk (d : Dev) (p layer : Nat) : Dev :=
  let d := d.setSvo p { d.svo p with want := some layer }
  let d := [2 * p, 2 * p + 1].foldl (fun d a =>
    if d.homed a || (d.axis a).kind == 4 || (d.axis a).kind == 5 || (d.axis a).wait || !d.portUp p then d else d.home a) d
  if d.facqReady p then d.facqBegin p layer else d

/-- Focus acquisition of the current layer after a loss of focus: every loop MANUAL at centre first (R269). -/
def Dev.reacquire (d : Dev) (p layer : Nat) : Dev :=
  let d := d.each 5 fun d l => d.manual p l 0
  if d.facqReady p then d.facqBegin p layer else (d.svoOff p).facqAsk p layer

/-- S_PK and the focus window of a layer: (position, S_PK, FACQ_WIN), none without a set. -/
def Dev.focusSet (d : Dev) (p layer : Nat) : Option (List Int) :=
  d.calValue qFocus p layer

/-- Whether the S-curve of number `k` may be accepted at focus output `u` (R273): with a calibration set only within ±FACQ_WIN
of the focus position of its layer, k − 1; the entrance surface has none. -/
def Dev.curveOk (d : Dev) (p k : Nat) (u : Int) : Bool :=
  if k = 0 || 4 < k then true
  else
    match d.focusSet p (k - 1) with
    | some v => decide (((u - v.getD 0 0).natAbs : Int) ≤ v.getD 2 0)
    | none => true

/-- Follows the S-curves of a sweep (R273): stages 0 before, 1 above +S_PK, 2 below zero, 3 below zero in a curve that is
not accepted, and so not counted. The result says that a crossing has just been found, counting curves from 0 at the
entrance surface. -/
def Dev.sCurve (d : Dev) (p : Nat) (m : Meas) : Bool × Servo :=
  let x := d.svo p
  let layer := match x.jump with | some (n, _) => n | none => d.svoLayer p
  let pk := match d.focusSet p layer with | some v => v.getD 1 0 | none => Config.calDefault qFocus 1
  if d.sumLow p m.sum (d.rd Reg.SVO_FACQ_SUM_S_MIN p) then (false, { x with sc := 0 })
  else
    match x.sc with
    | 0 => (false, if pk < m.fe then { x with sc := 1 } else x)
    | 1 =>
      if 0 < m.fe then (false, x)
      else if x.jump.isSome || d.curveOk p x.curves (x.loop 0).uPrev then (true, { x with sc := 2 })
      else (false, { x with sc := 3 })
    | n => (false, if m.fe < -pk then { x with sc := 0, curves := if n = 2 then x.curves + 1 else x.curves } else x)

/-! ## The tick (R236, R249 to R272) -/

/-- How a loop is driven in a tick. -/
inductive Drive where
  | off | manual | auto
  /-- held at i + FF, with a further term -/
  | held (more : Int)
  /-- held at i alone, with a further term (R278) -/
  | seek (more : Int)
  /-- held at its last output -/
  | last
deriving DecidableEq, Repr

/-- MV of the profile at its present tick (R282). -/
def Servo.mv (x : Servo) : Int := if x.mvK < x.mvH then x.mvA else if x.mvK < 2 * x.mvH then -x.mvA else 0

/-- The drive of a fine seek's trapezoidal velocity profile (R280): one way over the ramp at its start, none while the speed
is constant, the other way over the ramp at its end. The spec gives neither the amplitude nor the length of the ramps: free
values of the distance (assumption 125). -/
def Servo.seekDrive (x : Servo) : Int :=
  let n := x.seekN.natAbs
  let ramp := min (Config.seekRamp n) (n / 2)
  let v := if n - x.left.natAbs < ramp then Config.seekAmp n else if x.left.natAbs ≤ ramp then -Config.seekAmp n else 0
  if x.left < 0 then -v else v

/-- JUMP_KICK in the direction of a jump, in 1/65536 output unit; the register is in 1/65536 of full scale. -/
def Dev.kickOf (d : Dev) (p : Nat) : Int :=
  let k : Int := 32768 * d.rd Reg.SVO_LJUMP_JUMP_KICK p
  match (d.svo p).jump with
  | some (n, _) => if n < d.svoLayer p then -k else k
  | none => k

/-- How loop `l` is driven. -/
def Dev.driveOf (d : Dev) (p l : Nat) (m : Meas) : Drive :=
  let x := d.svo p
  let mode := d.loopMode p l
  let jumping := [Phase.kick, .coast, .brake, .settle].contains x.phase
  let moving := [Phase.sled, .fine, .profile, .restart].contains x.phase
  if mode = 0 then .off
  else if mode = 1 then .manual
  else if (l = 2 || l = 3) && !m.got (loopChannels l) then .last
  else if l = 0 then
    match x.phase with
    | .kick => .held (d.kickOf p)
    | .coast => .held 0
    | .brake => .held (-(d.kickOf p))
    | _ => .auto
  else if d.svoState p = 6 || jumping then .held 0
  else if l = 1 || l = 4 then
    if moving then
      -- the feedback is held: in a seek tracking at its integrator alone (R278); else FF, FR and CG go on, with MV in a
      -- profile (R249, R282)
      let fr := d.frTerm p l
      if l = 4 then .held fr
      else match x.phase with
        | .profile => .held (fr + x.mv)
        | .fine => .seek x.seekDrive
        | _ => .seek 0
    else if x.held then .held 0 else .auto
  else .auto

/-- The feedback of a loop is open while the spot moves over tracks or through layers: the residual test of R258 has nothing to
hold the measurement against and is suspended (the model's choice, assumption 126). -/
def Dev.openLoop (d : Dev) (p : Nat) (v : Drive) : Bool :=
  match v with | .held _ | .seek _ => d.svoState p != 6 | _ => false

/-- What the ticks of a loop in AUTO teach its tables (R253, R254). -/
def Dev.learnTick (d : Dev) (p l : Nat) (out : Int) : Dev :=
  if !d.learns p then d
  else
    let th := ((d.theta p + 32768) / 65536).toNat % 512
    let x := d.svo p
    let x := match runoutLoop l with | some r => x.learn (d.runoutKey p r) th out | none => x
    let x := if l = 1 && (d.axis (2 * p)).vel != 0 then
        let (dir, bin, ph) := d.tableIndex (2 * p)
        (x.learn (tabKey 1 0 0 0) (dir * 64 + bin) out).learn (tabKey 2 0 0 0) ph out
      else x
    let x := if l = 4 && (d.axis (2 * p + 1)).vel != 0 then
        x.learn (tabKey 3 0 0 0) (d.tableIndex (2 * p + 1)).2.2 out
      else x
    d.setSvo p x

/-- One loop in one tick. A loop of AUTO with an implausible measurement is in BRIDGE for the tick (R259): focus, tracking and
yaw run on the estimate of their observer, the tilt loops, which have none, on their last plausible error (assumption 78). -/
def Dev.runLoop (d : Dev) (p : Nat) (m : Meas) (l : Nat) : Dev :=
  let v := (d.svo p).loop l
  let ff := d.ffTerm p l
  let fr := d.frTerm p l
  let e := m.error (d.svo p) l
  let drive := d.driveOf p l m
  let apart := d.openLoop p drive
  let observed := l = 0 || l = 1 || l = 4
  let (v, res, pred) := if observed then d.observer p l v e ff else (v, 0, v.est)
  let thr : Int := 65536 * d.rd Reg.SVO_L_RES_RES_THR p l
  let bad := (observed && !apart && thr != 0 && decide (thr < (res.natAbs : Int)))
    || d.sumLow p m.sum (d.rd Reg.SVO_PLAUS_SUM_MIN p) || !m.got (loopChannels l)
  let est := if bad then pred else if observed then pred + divR ((d.rd Reg.SVO_L_OBS_B_LGAIN p l : Int) * res) 65536 else e
  let err := if bad then est else e
  let v := { v with est := est, ok := !bad && !apart }
  let set (d : Dev) (w : Loop) : Dev := d.setSvo p ((d.svo p).setLoop l w)
  -- AUTO or BRIDGE as the measurement is
  let closed (w : Loop) : Dev :=
    if bad then ((set d { w with run := v.run + 1 }).bump Reg.SVO_CNT_B_BRIDGE 1 p).wr (modeFld l) 3 p
    else (set d { w with run := 0 }).wr (modeFld l) 2 p
  match drive with
  | .off => set d { v with uPrev := 0, us := [0, v.us.getD 0 0], run := 0, sat := 0, bump := false }
  | .manual => set d { d.slewTo p l v v.man with run := 0, bump := false }
  | .held more =>
    let v := if v.bump then d.bumpless p l v 0 (ff + fr) else v
    closed { d.slewTo p l v (v.i + ff + more) with ePrev := err }
  | .seek more =>
    let v := if v.bump then d.bumpless p l v 0 0 else v
    closed { d.slewTo p l v (v.i + more) with ePrev := err }
  | .last => closed (d.slewTo p l v v.uPrev)
  | .auto =>
    let v := if v.bump then d.bumpless p l v err (ff + fr) else v
    let (w, out) := d.control p l v err (ff + fr) bad
    let d := closed w
    if bad then d else d.learnTick p l out

/-- A CONTROL cell with a trim code is still to be confirmed. -/
def Dev.trimPending (d : Dev) (p code : Nat) : Bool :=
  let is (op : CtlOp) : Bool := match op with | .trim c _ => c == code | _ => false
  ((d.port p).ctl.any fun q => is q.op) || (d.port p).heldCtl.any fun q => is q.1

/-- The procedures of a tick, after the loops have run. -/
def Dev.procedure (d : Dev) (p : Nat) (m : Meas) : Dev :=
  let x := d.svo p
  let t := x.t + 1
  match x.phase with
  | .laser =>
    -- 1 ms is 782 ticks
    if t < 782 then d.setSvo p { x with t := t } else d.setSvo p { x with phase := .sweep, t := 0, sc := 0, curves := 0 }
  | .sweep =>
    let (hit, x) := d.sCurve p m
    if hit && x.curves == d.svoLayer p + 1 then
      (((d.setSvo p { x with phase := .capture, t := 0, feRun := 0 })).seedTables p).auto p 0
    else
      let rate : Int := 32768 * d.rd Reg.SVO_FACQ_SWEEP_RATE p
      let man := min (d.outLim p 0) ((x.loop 0).man + rate)
      d.setSvo p ({ x with t := t }.setLoop 0 { x.loop 0 with man := man })
  | .retract =>
    if (x.loop 0).uPrev = -(d.outLim p 0) then d.setSvo p { x with phase := .sweep, t := 0, sc := 0, curves := 0 }
    else d.setSvo p { x with t := t }
  | .capture =>
    let ok := decide (m.fe.natAbs ≤ 65536 * d.rd Reg.SVO_WR_THR_FOCUS_WRITE_LIM p)
    d.setSvo p { x with t := t, feRun := if ok then x.feRun + 1 else 0 }
  | .coast =>
    let (hit, x) := d.sCurve p m
    d.setSvo p { x with t := if hit then 0 else t, phase := if hit then .brake else .coast }
  | .brake =>
    if t < d.rd Reg.SVO_LJUMP_KICK_TICKS p then d.setSvo p { x with t := t }
    else (d.setSvo p { x with phase := .settle, t := 0 }).auto p 0
  | .settle =>
    let next := match x.jump with | some (n, _) => n | none => d.svoLayer p
    -- the 32 ticks begin once focus is captured and the trims are confirmed
    let ready := decide (m.fe.natAbs ≤ 65536 * d.rd Reg.SVO_WR_THR_FOCUS_WRITE_LIM p) && !d.trimPending p (0x60 + next)
    if x.t = 0 && !ready then d
    else if t < 32 then d.setSvo p { x with t := t }
    else
      let d := ((d.setSvo p { x with phase := .wedges, t := 0, held := false }).wr Reg.SVO_STATE_LAYER next p).calAtOnce p
      let d := (d.seedTables p).rebump p 0
      -- tracking closes, and what was not yet closed after the focus acquisition with it
      let d := [1, 4, 2, 3].foldl (fun d l => if l = 1 || x.held then d.auto p l else d.rebump p l) d
      -- tilt starts from the new layer's set
      [(2, 1), (3, 2)].foldl (fun d q =>
        if d.loopMode p q.1 = 2 || d.loopMode p q.1 = 3 then
          let x := d.svo p
          d.setSvo p (x.setLoop q.1 { x.loop q.1 with i := d.calUse p qFocOfs q.2, d := 0, bump := false })
        else d) d
  | .profile => d.setSvo p { x with mvK := x.mvK + 1, mark := applyAt (d.port p).sf }
  | .fine =>
    let n : Int := m.cross
    d.setSvo p { x with t := t, left := if x.left < 0 then min 0 (x.left + n) else max 0 (x.left - n) }
  | _ => d.setSvo p { x with t := t }

/-- Whether the cell for superframe s + 2 may carry write_en (R271). -/
def Dev.mayWrite (d : Dev) (p : Nat) (m : Meas) : Bool :=
  let x := d.svo p
  let pw := d.rd Reg.SVO_PW_PW p
  let nominal := 12500000
  d.svoBurn p && d.svoState p == 5 && d.verified p
    && decide (d.rd Reg.SVO_WEDGE_MISSED p ≤ d.rd Reg.SVO_WR_THR_WEDGE_WRITE_MAX p)
    && ((List.range 5).all fun l => d.loopMode p l == 2 && (x.loop l).sat == 0) && m.got (List.range 8)
    && decide (m.te.natAbs ≤ 65536 * d.rd Reg.SVO_TRK_THR_WRITE_OFFTRACK p)
    && decide (m.fe.natAbs ≤ 65536 * d.rd Reg.SVO_WR_THR_FOCUS_WRITE_LIM p)
    && decide (m.yaw.natAbs ≤ 65536 * d.rd Reg.SVO_WR_THR_YAW_WRITE_LIM p)
    && decide (((pw : Int) - nominal).natAbs * 1024 ≤ d.rd Reg.SVO_WR_THR_PW_TOL p * nominal)

/-- What the set of a quantity of one field has made the target of the value in use (R346); none without a set. -/
def Dev.calAim (d : Dev) (p q : Nat) : Option Int :=
  match d.calTarget p q 0, mget (d.calPk p).vals none (d.useKey p q 0) with
  | none, _ => none
  | _, some v => some v.target
  | some t, none => some t

/-- The spherical trim moves by at most one code per tick (R346). -/
def Dev.sphereStep (d : Dev) (p : Nat) : Dev :=
  let x := d.svo p
  let v := (d.calAim p qSphere).getD x.sphere
  if v = x.sphere then d
  else
    let c := x.sphere + clampI (-1) 1 (v - x.sphere)
    (d.setSvo p { x with sphere := c }).ctl p (.trim (0x60 + d.svoLayer p) c.toNat)

/-- Read power and spherical trim move by at most one code per tick, in FOCUSED or ON_TRACK outside moves (R346). -/
def Dev.powerStep (d : Dev) (p : Nat) : Dev :=
  let st := d.svoState p
  if st != 2 && st != 5 then d
  else
    let u := (d.svo p).power
    (d.setPower p (u + clampI (-1) 1 ((d.calAim p qReadPower).getD u - u))).sphereStep p

/-- The push-pull offset of a spot takes one step from the error of a tick (R243), bumplessly for its loop (R261). -/
def Dev.offsetStep (d : Dev) (p spot : Nat) (ew : Int) (q : TickPp) : Dev :=
  let x := d.svo p
  let step (o : Int) (e : Option Int) : Int :=
    match e with
    | some e => o + divR (e - ew) (2 ^ d.rd Reg.SVO_WEDGE_CFG_KO p)
    | none => o
  match spot with
  | 0 => (d.setSvo p { x with o0 := step x.o0 q.p0 }).rebump p 4
  | 1 => (d.setSvo p { x with o16 := step x.o16 q.p16 }).rebump p 1
  | _ => (d.setSvo p { x with o31 := step x.o31 q.p31 }).rebump p 4

/-- The wedges that waited for this tick take its errors (R243). -/
def Dev.offsetsDue (d : Dev) (p : Nat) (q : TickPp) : Dev :=
  let due := (d.svo p).ofsWait.filter fun w => w.2.1 == q.sf
  let d := d.setSvo p { d.svo p with ofsWait := (d.svo p).ofsWait.filter fun w => decide (q.sf < w.2.1) }
  due.foldl (fun d w => d.offsetStep p w.1 w.2.2 q) d

/-- The SERVO cells of a superframe are used or past: a later copy of it is refused (R236). -/
def Dev.tickTaken (d : Dev) (p : Nat) : Dev := d.setPort p { d.port p with servo := [], ticked := true }

/-- The detector offsets are written once every spot channel of the pickup is IDLE (R334, R346): the codes that differ. -/
def Dev.codesStep (d : Dev) (p : Nat) : Dev :=
  let y := d.calPk p
  if y.aim == y.codes || (spotsOf p).any (fun g => d.mode g != 0) then d
  else
    let d := d.setCalPk p { y with codes := y.aim }
    (List.range y.aim.length).foldl (fun d i =>
      if y.codes[i]? == y.aim[i]? then d
      else d.ctl p (.trim (if i < 32 then i else 0x20 + (i - 32)) (toBits 32 (y.aim.getD i 0)))) d

/-- What focus acquisition needs while it runs (R273). -/
def Dev.facqHolds (d : Dev) (p : Nat) : Bool :=
  d.flag Reg.MOT_SP_STATUS_AT_SPEED (spindleOf p) && d.portUp p && d.owns p

/-- The compute of a tick (R236). In OFF and FAULT no loop runs. An acquisition whose conditions no longer hold goes back to
OFF and waits for them (R273). -/
def Dev.tick (d : Dev) (p : Nat) : Dev :=
  if !d.svoRuns p then d.tickTaken p
  else if d.svoState p = 1 && !d.facqHolds p then
    let d := ((d.tickTaken p).svoOff p)
    d.setSvo p { d.svo p with want := some (d.svoLayer p) }
  else
    let m := d.measure p
    let miss := (List.range 8).filter fun c => !m.has.getD c false
    let d := d.tickTaken p
    let d := if miss.isEmpty then d else (d.svoErr Reg.SVO_ERR_CH_MISSING p).bump Reg.SVO_CNT_A_CH_MISS miss.length p
    let foc := m.got [0, 1, 2, 3]
    let x := d.svo p
    let teOk := foc && decide (m.te.natAbs ≤ 65536 * d.rd Reg.SVO_TRK_THR_ON_TRACK_THR p)
    let pp := m.tickPp ((d.port p).sf - 1)
    let d := d.setSvo p { x with
      misses := 0, chRun := if foc then 0 else x.chRun + 1, te := m.te, fe := m.fe, yaw := m.yaw, pp16 := m.pp16, pp0 := m.pp0,
      pp31 := m.pp31, pps := (pp :: x.pps).take 8, ppPos := m.last, teRun := if teOk then x.teRun + 1 else 0,
      jticks := x.jticks + 1 }
    let d := d.offsetsDue p pp
    let d := d.each 5 fun d l => d.runLoop p m l
    let x := d.svo p
    let d := d.setSvo p { x with focOk := (x.loop 0).run == 0 && foc }
    let d := d.procedure p m
    -- the cause of a HOLD
    let x := d.svo p
    let gone := match x.cause with
      | 2 => (List.range 5).all fun l => (x.loop l).run == 0
      | 3 => foc
      | 4 => false
      | _ => true
    let d := if d.svoState p = 6 then
        d.setSvo p { x with absent := if gone then x.absent + 1 else 0, hticks := x.hticks + 1 }
      else d
    let x := d.svo p
    let d := if (x.loop 1).ok && (d.loopMode p 1 == 2) then
        d.setSvo p { x with teSq := x.teSq + divR m.te 4096 * divR m.te 4096, teN := x.teN + 1, sumTot := x.sumTot + m.sum }
      else d
    let st := d.svoState p
    -- the integrators are offload demands but in seeks, moves and layer jumps (R250, R323)
    let d := if (st = 5 || st = 2 || st = 6) && (d.svo p).phase == .none then
        [(1, 2 * p), (4, 2 * p + 1)].foldl (fun d q =>
          if d.loopMode p q.1 = 2 || d.loopMode p q.1 = 3 then d.offload q.2 ((d.svo p).loop q.1).i else d) d
      else d
    let d := (d.powerStep p).codesStep p
    let ok := d.mayWrite p m
    let x := d.svo p
    let cell := x.loops.map fun v => clampI (-32768) 32767 (v.uPrev / 65536)
    let d := d.setSvo p { x with cell := cell, okSf := if ok then (d.port p).sf - 1 else x.okSf }
    if (d.svo p).leaving != 0 then (d.writeOff p).setSvo p { (d.writeOff p).svo p with leaving := 2 }
    else if ok then d.setSvo p { d.svo p with we := true }
    else d.writeOff p

/-! ## Wedges (R240 to R247) -/

/-- P − T* in 1/65536 track lies within half a track. -/
def Dev.onTarget (d : Dev) (p : Nat) (pos : Int) : Bool := decide ((pos - d.svoTarget p * 65536).natAbs ≤ 32768)

/-- Reports the burst position of spot 16. -/
def Dev.showPos (d : Dev) (p : Nat) (pos : Int) : Dev :=
  let t := clampI 0 (trackCount - 1) ((pos + 32768) / 65536)
  let off := clampI (-2048) 2047 (divR ((pos - t * 65536) * 480) 65536)
  (d.wr Reg.SVO_POS_TRACK t.toNat p).wrS Reg.SVO_POS_OFFSET off p

/-- P_w from the syncs: the latest and the one nearest to a revolution earlier (R247). -/
def Dev.updatePw (d : Dev) (p time : Nat) : Dev :=
  let x := d.svo p
  let d := d.setSvo p { x with syncs := ((x.wcount, time) :: x.syncs).take 600, wtime := time }
  let x := d.svo p
  let cand := x.syncs.filter fun q => decide (q.1 < x.wcount)
  let based := cand.any fun q => decide (q.1 + 512 ≤ x.wcount)
  if !based then d.wr Reg.SVO_PW_PW (nominalPw (d.svoSpeed p)) p
  else
    let dist (q : Nat × Nat) : Nat := ((q.1 : Int) + 512 - x.wcount).natAbs
    let b := cand.foldl (fun b q => if dist q < dist b then q else b) (cand.headD (0, 0))
    let k := x.wcount - b.1
    let pw := divR (((time : Int) - b.2) * 16) k
    (d.setSvo p { x with based := true }).wr Reg.SVO_PW_PW pw.toNat p

/-- One applied value takes a step toward its target (R346); a loop in MANUAL or OFF receives none (R347). -/
def Dev.applyStep (d : Dev) (p : Nat) : Dev :=
  let st := d.svoState p
  if st != 2 && st != 5 then d
  else
    servoFields.foldl (fun d q => d.each q.2 fun d i =>
      let l := loopOf q.1 i
      let y := d.calPk p
      let k := d.useKey p q.1 i
      match mget y.vals none k with
      | some v =>
        if v.left = 0 || d.loopMode p l = 0 || d.loopMode p l = 1 then d
        else
          let v := { v with applied := v.applied + divR (v.target - v.applied) v.left, left := v.left - 1 }
          (d.setCalPk p { y with vals := mset y.vals none k (some v) }).rebump p l
      | none => d) d

/-- A new value of a quantity in use becomes its target (R346). -/
def Dev.retarget (d : Dev) (p q i : Nat) : Dev :=
  match d.calTarget p q i with
  | none => d
  | some v =>
    let y := d.calPk p
    let k := d.useKey p q i
    let cur := mget y.vals none k
    match cur with
    | some c =>
      if c.target = v then d
      else d.setCalPk p { y with vals := mset y.vals none k (some { c with target := v, left := max 1 (d.rd Reg.CAL_CFG_APPLY_REVS) }) }
    | none => d.setCalPk p { y with vals := mset y.vals none k (some { applied := v, target := v, left := 0 }) }

/-- The sets of the quantities in use in the present scope (R336): those of the detectors, the servo with its focus acquisition
and sled reference, the lasers and the optics, of the read seeds and joint coefficients of both track types, and in a burn of the write strategy and write_scale. -/
def Dev.keysInUse (d : Dev) (p : Nat) : List Nat :=
  let z := (d.svo p).zone
  let lands (q speed : Nat) : List Nat := [0, 1].map fun t => calKey q p (d.svoLayer p) z speed t
  usedFields.flatMap (fun q =>
      if q.1 = qFocOfs then (if z < 12 then [0, 12] else [12, 23]).map fun a => d.scopeKey p q.1 a else [d.scopeKey p q.1 0])
    ++ [calKey qOffsets p, calKey qFocus p (d.svoLayer p), calKey qSled p] ++ lands qSeed (d.svoSpeed p) ++ lands qJoint (d.svoSpeed p)
    ++ if (d.burn p).isSome then lands qStrategy 0 ++ [calKey qScale p (d.svoLayer p) z] else []

/-- Whether the temperature lies more than DRIFT outside the points of a set (R336). -/
def Dev.outOfRange (d : Dev) (p key : Nat) : Bool :=
  let t := d.calTemp p
  let drift : Int := d.rd Reg.CAL_CFG_DRIFT
  match d.calPoints key with
  | [] => false
  | a :: l => decide (t < a.1 - drift) || decide (((a :: l).getLastD a).1 + drift < t)

/-- The quantities in use are evaluated at the present temperature (R336): what they give becomes the target of each (R346). -/
def Dev.evaluate (d : Dev) (p : Nat) : Dev :=
  let d := d.setCalPk p { d.calPk p with evalAt := some (d.calTemp p) }
  let y := d.calPk p
  let d := d.setCalPk p { y with aim := (d.calValue qOffsets p).getD y.aim }
  usedFields.foldl (fun d q => d.each q.2 fun d i => d.retarget p q.1 i) d

/-- At the index wedge the quantities in use are evaluated when the temperature differs by more than 0.5 °C from
the last evaluation (R336); each whose points it has left sets TEMP_RANGE. -/
def Dev.temperatureEval (d : Dev) (p : Nat) : Dev :=
  let y := d.calPk p
  let t := d.calTemp p
  let due := match y.evalAt with | none => true | some u => decide (8 < (t - u).natAbs)
  if !due || y.temps.isEmpty then d
  else
    let d := ((d.keysInUse p).filter fun k => d.outOfRange p k).foldl (fun d k => d.calErr Reg.CAL_ERR_TEMP_RANGE p (some k)) d
    d.evaluate p

/-- RMS of TE and the shot-noise floor, reported each revolution (R285). -/
def Dev.reportRms (d : Dev) (p : Nat) : Dev :=
  let x := d.svo p
  if x.teN = 0 then d
  else
    let rms := squareRoot (divR x.teSq x.teN).toNat
    let re := divR (x.sumTot * d.rd Reg.SVO_SUM_E_SUM_E p * 50000000) (64 * 256 * x.teN)
    let flo := divR (d.calUse p qGains 0 * squareRoot (divR (2 * d.rd Reg.SVO_BN_BN p * 2 ^ 40) re).toNat) (4096 * 2 ^ 20)
    let d := (d.wr Reg.SVO_TE_RMS_RMS (min 65535 rms) p).wr Reg.SVO_TE_RMS_FLOOR (clampI 0 65535 flo).toNat p
    d.setSvo p { d.svo p with teSq := 0, teN := 0, sumTot := 0 }

/-- The work at the index wedge (R253, R285, R336, R346). -/
def Dev.indexWedge (d : Dev) (p : Nat) : Dev :=
  let d := ((((d.runoutLearn p).temperatureEval p).applyStep p).reportRms p).newRevolution p
  d.setSvo p { d.svo p with errAt := [] }

/-- A decoded wedge updates the push-pull offset of its spot (R243): `time` of its sync, in 1/16 sample, names the tick
that contains it. A tick still to come is waited for; one that gave no push-pull error, or was missed, updates nothing. -/
def Dev.learnOffset (d : Dev) (p spot : Nat) (pos : Int) (time : Nat) : Dev :=
  let st := d.svoState p
  let x := d.svo p
  let sf := time / 64000
  let t : Int := d.svoTarget p + (match spot with | 0 => -16 | 1 => 0 | _ => 15)
  let ew := (pos - t * 65536) * 480
  if st != 5 && st != 6 then d
  else
    match x.pps.find? fun q => q.sf == sf with
    | some q => d.offsetStep p spot ew q
    | none =>
      if (d.port p).sf ≤ sf || ((d.port p).sf == sf + 1 && !(d.port p).ticked) then
        d.setSvo p { x with ofsWait := x.ofsWait ++ [(spot, sf, ew)] }
      else d

/-- The offset between index wedges at the first decoded wedge `m`, at time `t`, of the new layer `l` (R276). Where
the offset of the old layer from L0 has not been measured, R41 and R276 do not say what the new one's becomes: the model stores
none (DESIGN CHOICE, assumption 139). -/
def Dev.indexOffset (d : Dev) (p l m t : Nat) : Dev :=
  let x := d.svo p
  match x.before with
  | none => d
  | some (m0, t0, l0) =>
    let old := (m0 : Int) * 512 + divR (((t : Int) - t0) * 16 * 512) (d.rd Reg.SVO_PW_PW p)
    let delta := ((m : Int) * 512 - old) % 262144
    let d := d.setSvo p { x with before := none }
    if l = 0 || !d.idxKnown p l0 then d
    else (d.wr Reg.SVO_IDX_OFS_OFS ((d.idxOfs p l0 + delta) % 262144).toNat p l).wr Reg.SVO_IDX_OFS_VALID 1 p l

/-- The side offset, of L0 against the other side's L0, measured at the first access to a side while the other pickup of the
spindle is on track (R41, R276), on whatever layers the two lie once their offsets from L0 are known. -/
def Dev.sideOffset (d : Dev) (p m t : Nat) : Dev :=
  let q := if p % 2 = 0 then p + 1 else p - 1
  let l := d.svoLayer p
  let k := d.svoLayer q
  if d.flag Reg.SVO_IDX_OFS_VALID p 0 || d.svoState q != 5 || !d.idxKnown p l || !d.idxKnown q k then d
  else
    let y := d.svo q
    let other := (d.rd Reg.SVO_WEDGE_INDEX q : Int) * 512 + divR (((t : Int) - y.wtime) * 16 * 512) (d.rd Reg.SVO_PW_PW q)
    let ofs := ((m : Int) * 512 - d.idxOfs p l) - (other - d.idxOfs q k)
    (d.wr Reg.SVO_IDX_OFS_OFS (ofs % 262144).toNat p 0).wr Reg.SVO_IDX_OFS_VALID 1 p 0

/-- The end of a single layer jump at two wedges of the new layer: the next jump, the seek to T*, or FOCUSED. -/
def Dev.jumpDone (d : Dev) (p : Nat) : Dev :=
  match (d.svo p).jump with
  | none => d
  | some (n, last) =>
    let d := d.setSvo p { d.svo p with jump := none, phase := .none }
    if n != last then d.layerJump p last
    else if d.flag Reg.SVO_TARGET_VALID p then d.toTarget p
    else (d.setSvoState p 2).completeAll (fun w => w == .focused p) St.success

/-- A distance of the sled, in 1/65536 microstep, in 1/65536 track of 0.12 µm. -/
def Dev.sledTracks (d : Dev) (p : Nat) (v : Int) : Int := divR (v * d.rdAx Reg.MOT_AX_CFG_STEP (2 * p)) 120

/-- What a sled seek still plans to move, in 1/65536 track. -/
def Dev.sledToGo (d : Dev) (p : Nat) : Int :=
  d.sledTracks p (d.axTarget (2 * p) * 65536 - (d.axis (2 * p)).pos)

/-- The position of spot 16 that the engine predicts, in 1/65536 track (R242): by the profile in a move, by the crossings
counted in a fine seek, by the planned motion since the last accepted wedge in a sled seek, else the last burst position. -/
def Dev.predicted (d : Dev) (p : Nat) : Int :=
  let x := d.svo p
  let goal : Int := d.svoTarget p
  match x.phase with
  | .profile =>
    let h : Int := x.mvH
    let k : Int := x.mvK
    let done := if x.mvH = 0 then 65536 else if k ≤ h then divR (k * k * 65536) (2 * h * h)
      else 65536 - divR ((2 * h - k) * (2 * h - k) * 65536) (2 * h * h)
    (goal - x.mvN) * 65536 + x.mvN * done
  | .land => goal * 65536
  | .fine => (goal - x.left) * 65536
  | .sled => x.sledBase + d.sledTracks p ((d.axis (2 * p)).pos - x.sledAt)
  | _ => d.svoPos p

/-- After a takeover two decoded wedges of one track verify the position (R266): the engine goes to FOCUSED with tracking
held, both axes are homed, and the full calibration and the seek back follow. T* is the track that the wedges show
(assumption 92). -/
def Dev.takenVerify (d : Dev) (p : Nat) (on : Bool) : Dev :=
  let x := d.svo p
  if x.pair = 1 && on then
    let d := d.setSvo p { x with pair := 0, search := none, phase := .none, held := true,
                                 back := some (d.svoLayer p, d.svoTarget p) }
    (d.home (2 * p)).home (2 * p + 1)
  else ((d.setLand p (isLand (d.svoTrack p))).setTarget p (d.svoLayer p) (d.svoTrack p)).setSvo p { x with pair := 1 }

/-- What a decoded wedge of spot 16 at position `pos` does to the procedures that wait for one. -/
def Dev.wedgeSteps (d : Dev) (p : Nat) (pos : Int) (t : Nat) : Dev :=
  let x := d.svo p
  let on := d.onTarget p pos
  let pair := if on then x.pair + 1 else 0
  match d.svoState p with
  | 2 =>
    match x.search with
    | some _ =>
      if x.phase == .takeover then d.takenVerify p on
      else if !d.flag Reg.SVO_TARGET_VALID p then d.setSvo p { x with search := none }
      else if !on then d.fineSeek p
      else if 2 ≤ pair then ((d.setVerified p true).enterOnTrack p).startLater p
      else d.setSvo p { x with pair := pair }
    | none =>
      -- after focus acquisition: tracking on the nearest track, tilt and yaw AUTO (Table 7-6)
      -- but not while the axes are being homed, nor before the calibration that follows a takeover (R266, R321)
      if x.held && x.phase == .none && d.homed (2 * p) && d.homed (2 * p + 1) && x.back.isNone then
        let d := d.setLand p (isLand (d.svoTrack p))
        let d := [1, 4, 2, 3].foldl (fun d l => d.auto p l) d
        let d := d.setSvo p { d.svo p with held := false }
        if d.flag Reg.SVO_TARGET_VALID p && d.rd Reg.SVO_TARGET_LAYER p == d.svoLayer p then d.toTarget p
        else d.startLater p
      else d
  | 3 =>
    match x.phase with
    | .land =>
      let late := d.lateWedge p t
      -- only wedges since capture verify the position (R264)
      if x.teRun < d.rd Reg.SVO_TRK_THR_ON_TRACK_TICKS p then d
      else if on then
        let d := d.setSvo p { x with pair := pair }
        if d.svoBurn p && late && (x.own || decide (2 ≤ pair)) then
          (d.setSvo p { d.svo p with tries := 0 }).setVerified p true
        else d
      else d.retrySeek p
    | .restart => d.fineSeek p
    | .fine =>
      let n : Int := d.svoTarget p - (pos + 32768) / 65536
      d.setSvo p { x with left := n }
    | .sled =>
      let ax := d.axis (2 * p)
      let n : Int := d.svoTarget p * 65536 - pos
      let d := d.setSvo p { x with sledBase := pos, sledAt := ax.pos }
      if 64 * 65536 < (n - d.sledToGo p).natAbs then
        d.axisMove (2 * p) (divR (ax.pos + divR (n * 120) (d.rdAx Reg.MOT_AX_CFG_STEP (2 * p))) 65536) ax.vmax 3
      else d
    | _ => d
  | 4 =>
    if x.phase == .wedges then
      let d := if x.pair = 0 then d.setLand p (isLand (d.svoTrack p)) else d
      let d := d.setSvo p { d.svo p with pair := x.pair + 1 }
      if 2 ≤ x.pair + 1 then d.jumpDone p else d
    else d
  | 5 =>
    let slips := if on then 0 else x.slips + 1
    let d := d.setSvo p { x with slips := slips }
    let again := d.yar.recheck.contains p
    let d : Dev := { d with yar := { d.yar with recheck := d.yar.recheck.erase p } }
    if !d.verified p && on && !d.lateWedge p t then d
    else if on && !d.verified p then ((d.setSvo p { d.svo p with tries := 0 }).setVerified p true).sledCheck p
    else if !d.verified p then d.retrySeek p
    else if !on && again then d.fineSeek p
    else d
  | 6 =>
    let d := if x.cause = 4 then d.setSvo p { x with cause := 5 } else d
    if x.pair = 0 && on then d.setSvo p { d.svo p with pair := 1 } else d
  | _ => d

/-- The wedge index and time go on to the next wedge (R245, R247). -/
def Dev.nextWedge (d : Dev) (p : Nat) : Dev :=
  let x := d.svo p
  let s := match x.search with | some n => some (n + 1) | none => none
  d.setSvo p { x with wcount := x.wcount + 1, search := s }

/-- A wedge of spot 16 that gives no result is bridged by prediction (R245). -/
def Dev.bridgeWedge (d : Dev) (p : Nat) : Dev :=
  let d := d.nextWedge p
  let x := d.svo p
  let m := (d.rd Reg.SVO_WEDGE_INDEX p + 1) % 512
  let d := d.setSvo p { x with
    wtime := x.wtime + (d.rd Reg.SVO_PW_PW p + 8) / 16, pair := if x.search.isSome || x.phase == .land then 0 else x.pair, wrongs := 0 }
  let d := (d.wr Reg.SVO_WEDGE_INDEX m p).bump Reg.SVO_CNT_C_WEDGE_MISS 1 p
  let d := d.bump Reg.SVO_WEDGE_MISSED 1 p
  if m = 0 then d.indexWedge p else d

/-- The fields of a wedge with a good check. A track number past the layer's last is taken as not decoded: the spec names
only the sync and the check bit, so this is the model's choice (assumption 79). -/
structure WedgeFields where
  track : Nat
  layer : Nat
  side : Nat
  index : Nat
deriving DecidableEq, Repr

/-- Decodes the fields of a wedge whose sync was found (R49 to R51). -/
def WedgeFields.of (w : WedgeRead) : Option WedgeFields :=
  let b := w.bits.toNat
  let track := unGray 19 (b / 8192)
  if w.sync.isSome && wedgeCheck w.bits && decide (track < trackCount) then
    some ⟨track, b / 2048 % 4, b / 1024 % 2, b / 2 % 512⟩
  else none

/-- The reader's search window (R241): with the position verified the sync lies within ±4·WEDGE_WIN samples of its
prediction, which for spots 0 and 31 lies −16 and 15 spot delays from that of spot 16 (R145). -/
def Dev.inWindow (d : Dev) (p spot time : Nat) : Bool :=
  let x := d.svo p
  let pw : Int := d.rd Reg.SVO_PW_PW p / 16
  let tau := spotDelay (d.svoTarget p) (d.svoSpeed p)
  let win : Int := 64 * d.rd Reg.SVO_WEDGE_CFG_WEDGE_WIN p
  let off (n : Int) : Int :=
    let e := (time : Int) - x.wtime - divR (n * tau) 4096
    if pw = 0 then e else (e + pw / 2) % pw - pw / 2
  let dist : Int := match spot with
    | 1 => (time : Int) - ((x.wtime : Int) + pw)
    | 0 => off (-16)
    | _ => off 15
  !d.verified p || decide ((dist.natAbs : Int) ≤ win)

/-- Whether the decoded layer is one that the engine expects (R246): its own, and in a layer jump, until the wedges are
examined, also the one that the jump leads to. -/
def Dev.layerFits (d : Dev) (p layer : Nat) : Bool :=
  let x := d.svo p
  layer == d.svoLayer p || x.phase == .takeover
    || (d.svoState p == 4 && x.phase != .wedges && match x.jump with | some (n, _) => layer == n | none => false)

/-- A layer jump from the layer that the wedges show to the expected one (R246). Where they show the expected layer of the
other side, no layer lies between: the jump has no kick, and ends with its two wedges (the model's choice,
assumption 80). -/
def Dev.wrongJump (d : Dev) (p layer : Nat) : Dev :=
  let want := d.svoLayer p
  let d := (d.svoErr Reg.SVO_ERR_WRONG_LAYER p).writeOff p
  if want != layer then
    -- no prediction of the layer left is at hand
    let d := (d.wr Reg.SVO_STATE_LAYER layer p).layerJump p want
    d.setSvo p { d.svo p with before := none }
  else
    let d := d.leaveTrack p 4
    d.setSvo p { d.svo p with phase := .wedges, jump := some (want, want), before := none, wrongs := 0 }

/-- A decoded wedge of spot 16 on another layer or side (R246): it is not used, and the second in a row starts the jump to
the expected layer; in a jump it is that jump's failure (R277). -/
def Dev.wrongWedge (d : Dev) (p layer : Nat) : Dev :=
  let x := d.svo p
  let d := d.bridgeWedge p
  let n := x.wrongs + 1
  let d := d.setSvo p { d.svo p with wrongs := n }
  if n < 2 then d
  else if d.svoState p = 4 then
    (d.svoErr Reg.SVO_ERR_JUMP_FAIL p).reacquire p (match x.jump with | some q => q.2 | none => d.svoLayer p)
  else d.wrongJump p layer

/-- A decoded wedge of spot 16 (R242 to R247). In a sled seek it is held against the planned motion (R279). -/
def Dev.goodWedge (d : Dev) (p : Nat) (w : WedgeRead) (f : WedgeFields) (time : Nat) : Dev :=
  let x := d.svo p
  let pos := burstPos w (f.track * 65536)
  let accept := !(x.phase == .sled)
    || decide ((pos - d.predicted p).natAbs ≤ 65536 * d.rd Reg.SVO_SEEK_WEDGE_TOL p)
  if !accept then d.bridgeWedge p
  else
    let d := d.nextWedge p
    let d := d.setSvo p { d.svo p with wrongs := 0 }
    -- after a takeover the first wedge shows the layer
    let d := if x.phase == .takeover && d.svoLayer p != f.layer then (d.wr Reg.SVO_STATE_LAYER f.layer p).calAtOnce p else d
    -- the last wedge of the old layer, and the first of the new one (R276)
    let d := if d.svoState p != 4 then d
      else if x.phase != .wedges && f.layer == d.svoLayer p then
        d.setSvo p { d.svo p with before := some (f.index, time, f.layer) }
      else d.indexOffset p f.layer f.index time
    let d := ((d.wr Reg.SVO_WEDGE_INDEX f.index p).wr Reg.SVO_WEDGE_MISSED 0 p).updatePw p time
    let d := (d.showPos p pos).learnOffset p 1 pos time
    let jumping := d.svoState p == 4
    let d := d.wedgeSteps p pos time
    let d := if jumping then d else d.sideOffset p f.index time
    if f.index = 0 then d.indexWedge p else d

/-- A wedge result (R240 to R246). Spot 0 is the reader's spot 0, 1 its spot 16, 2 its spot 31. A wedge without its fields
still gives its burst position (R51, R242). -/
def Dev.wedge (d : Dev) (p : Nat) (w : WedgeRead) : Dev :=
  if !d.svoRuns p then d
  else
    match w.sync with
    | none => if w.spot = 1 then d.bridgeWedge p else d
    | some time =>
      if !d.inWindow p w.spot time then (if w.spot = 1 then d.bridgeWedge p else d)
      else
        match WedgeFields.of w, w.spot with
        | none, 1 =>
          -- until the position is verified only wedges whose check passes are accepted (R241)
          if d.verified p then (d.bridgeWedge p).showPos p (burstPos w (d.predicted p)) else d.bridgeWedge p
        | none, _ => d
        | some f, 1 =>
          if d.layerFits p f.layer && f.side == sideOf p then d.goodWedge p w f time else d.wrongWedge p f.layer
        | some f, n =>
          if d.layerFits p f.layer && f.side == sideOf p then d.learnOffset p n (burstPos w (f.track * 65536)) time else d

/-! ## SERVO MODE (R262, R483) -/

/-- A run of calibration is suspended where it stands; the step in hand begins anew at the next idle (R341). -/
def Dev.calPark (d : Dev) (p : Nat) : Dev :=
  let y := d.calPk p
  match y.run with
  | some r => d.setCalPk p { y with run := some { r with paused := true, runs := [], read := [] } }
  | none => d

/-- Stops an engine: a procedure that a command waits for has not succeeded (R483). -/
def Dev.servoStop (d : Dev) (p : Nat) : Dev :=
  if d.svoState p = 7 then d
  else
    let procedure (w : Wait) : Bool := match w with | .calib _ => false | w => waitsOn p w
    (((d.calPark p).svoOff p).completeAll procedure St.mediaError)

/-- Sets a loop to OFF, MANUAL or AUTO (R260). From AUTO the manual value is the output as it stands (R261), and the value of
the command is set in a loop that is not in AUTO (assumption 91). -/
def Dev.servoLoop (d : Dev) (p l mode : Nat) (v : Int) : Dev :=
  match mode with
  | 0 => d.setLoopMode p l 0
  | 1 => d.manual p l (if d.loopMode p l = 2 || d.loopMode p l = 3 then ((d.svo p).loop l).uPrev else 65536 * v)
  | _ => d.auto p l

/-- Starts focus acquisition for a command (R273): it is refused where the acquisition will not run. -/
def Dev.servoStart (d : Dev) (c p layer : Nat) (w : Wait) : Dev :=
  if d.portState p = 4 || !d.flag Reg.SOR_CFG_EN p then d.complete c St.mediaError
  else if d.portUp p && !d.owns p then d.complete c St.ownershipDenied
  else if d.svoState p = 0 then (d.await c w).facqAsk p layer
  else (d.await c w).reacquire p layer

/-- What SERVO MODE left for the end of a move takes effect, once the engine is in none (R262). -/
def Dev.servoDeferred (d : Dev) (p : Nat) : Dev :=
  if d.svoState p = 3 || d.svoState p = 4 then d
  else
    let x := d.svo p
    let d := if x.later.isEmpty then d
      else x.later.foldl (fun d q => if q.1 = 5 then d.servoStop p else d.servoLoop p q.1 q.2.1 q.2.2)
        (d.setSvo p { x with later := [] })
    (d.que.ctxs.map (·.1)).foldl (fun d c =>
      match d.ctx c with
      | some k =>
        match k.wait with
        | .servoLater q l => if q = p then d.servoStart c p l (.focused p) else d
        | _ => d
      | none => d) d

/-! ## The rows -/

/-- The compute of a tick (R236); changes take effect at its boundary (R261). -/
def execTickCompute (p : Pk) (s : State) : Host.Outcome State Fault Refusal := State.runTick 7 s fun d => (d.tick p).servoDeferred p

/-- A tick misses its cutoff (R237): the cell is repeated; a second miss in a row enters HOLD. -/
def execTickCutoff (p : Pk) (s : State) : Host.Outcome State Fault Refusal :=
  State.runTick 7 s fun d =>
    if !d.svoRuns p then d
    else
      let d := ((d.svoErr Reg.SVO_ERR_TICK_MISS p).bump Reg.SVO_CNT_A_TICK_MISS 1 p).miss 0 p
      let x := d.svo p
      let d := d.setSvo p { x with
        misses := x.misses + 1, absent := 0, hticks := if d.svoState p = 6 then x.hticks + 1 else x.hticks,
        ofsWait := x.ofsWait.filter fun w => decide ((d.port p).sf ≤ w.2.1) }
      let d := d.tickTaken p
      if 2 ≤ x.misses + 1 then d.hold p 1 else d

/-- BRIDGE_MAX consecutive ticks in BRIDGE (R259). -/
def execBridgeLimit (p : Pk) (loop : Fin 5) (s : State) : Host.Outcome State Fault Refusal :=
  s.run fun d =>
    if d.svoRuns p && d.svoState p != 6 && decide (d.rd Reg.SVO_PLAUS_BRIDGE_MAX p < ((d.svo p).loop loop).run + 1)
        && 0 < ((d.svo p).loop loop).run then
      (d.svoErr Reg.SVO_ERR_IMPLAUSIBLE p).hold p 2
    else d

/-- MISS_MAX consecutive ticks with a focus channel missing (R267). -/
def execMissMaxExpiry (p : Pk) (s : State) : Host.Outcome State Fault Refusal :=
  s.run fun d =>
    if d.svoRuns p && 0 < (d.svo p).chRun && decide (d.rd Reg.SVO_PLAUS_MISS_MAX p ≤ (d.svo p).chRun) then d.hold p 3 else d

/-- FAULT_MISS consecutive tick misses (R270): the ACTUATOR cells carry hold = 1 from now on, until the front-end's watchdog has
expired. -/
def execFaultMissExpiry (p : Pk) (s : State) : Host.Outcome State Fault Refusal :=
  s.run fun d =>
    if d.svoRuns p && 0 < (d.svo p).misses && decide (d.rd Reg.SVO_HOLD_FAULT_MISS p ≤ (d.svo p).misses) then
      let d := d.writeOff p
      d.setSvo p { d.svo p with faulting := true }
    else d

/-- A loop output at OUT_LIM for 64 ticks (R249). -/
def execOutputSaturation (p : Pk) (loop : Fin 5) (s : State) : Host.Outcome State Fault Refusal :=
  s.run fun d => if d.svoRuns p && decide (64 ≤ ((d.svo p).loop loop).sat) then d.svoErr Reg.SVO_ERR_SAT p else d

/-- ON_TRACK is entered (R264, R281): TE has settled, a burn is VERIFIED, and a seek of more than 32 tracks has two
good wedges in a row. -/
def execOnTrackEntry (p : Pk) (s : State) : Host.Outcome State Fault Refusal :=
  s.run fun d =>
    let x := d.svo p
    if d.svoState p = 3 && x.phase == .land && decide (d.rd Reg.SVO_TRK_THR_ON_TRACK_TICKS p ≤ x.teRun)
        && (!d.svoBurn p || d.verified p) && (x.own || decide (2 ≤ x.pair)) then
      (d.enterOnTrack p).startLater p
    else d

/-- HOLD is left after its cause has been absent for 4 ticks (R269). -/
def execHoldRecover (p : Pk) (s : State) : Host.Outcome State Fault Refusal :=
  s.run fun d => if d.svoState p = 6 && decide (4 ≤ (d.svo p).absent) then (d.closeHeld p).beginSearch p else d

/-- HOLD has lasted HOLD_MAX ticks (R269): a seek to T* with focus plausible, else a new acquisition. -/
def execHoldMaxExpiry (p : Pk) (s : State) : Host.Outcome State Fault Refusal :=
  s.run fun d =>
    if d.svoState p = 6 && decide (d.rd Reg.SVO_HOLD_HOLD_MAX p ≤ (d.svo p).hticks) then
      if (d.svo p).focOk then
        let d := ((d.setSvoState p 2).setSvo p { d.svo p with phase := .none, held := false, tries := 0 }).closeHeld p
        if d.flag Reg.SVO_TARGET_VALID p then d.toTarget p else d
      else d.reacquire p (d.svoLayer p)
    else d

/-- A wedge result (R240). -/
def execWedgeResult (p : Pk) (w : WedgeRead) (s : State) : Host.Outcome State Fault Refusal := s.run fun d => d.wedge p w

/-- SLIP_WEDGES consecutive decoded wedges off the target (R244). -/
def execTrackSlip (p : Pk) (s : State) : Host.Outcome State Fault Refusal :=
  s.run fun d =>
    if d.svoState p = 5 && 0 < (d.svo p).slips && decide (d.rd Reg.SVO_WEDGE_CFG_SLIP_WEDGES p ≤ (d.svo p).slips) then
      let d := ((d.svoErr Reg.SVO_ERR_SLIP p).bump Reg.SVO_CNT_C_SLIP 1 p).offTrack p
      if ((d.svoTarget p : Int) - d.svoTrack p).natAbs ≤ 32 then d.toTarget p else d.fineSeek p
    else d

/-- A wedge of spot 16 gives no result (R245). -/
def execWedgeBridge (p : Pk) (s : State) : Host.Outcome State Fault Refusal :=
  s.run fun d => if d.svoRuns p then d.bridgeWedge p else d

/-- WEDGE_MISS_MAX consecutive missing wedges (R245). -/
def execWedgeLost (p : Pk) (s : State) : Host.Outcome State Fault Refusal :=
  s.run fun d =>
    if d.svoState p = 5 && 0 < d.rd Reg.SVO_WEDGE_MISSED p
        && decide (d.rd Reg.SVO_WEDGE_CFG_WEDGE_MISS_MAX p ≤ d.rd Reg.SVO_WEDGE_MISSED p) then
      (d.svoErr Reg.SVO_ERR_WEDGE_LOST p).beginSearch p
    else d

/-- A wedge search has passed one revolution without an outcome (R245). -/
def execWedgeSearchEnd (p : Pk) (s : State) : Host.Outcome State Fault Refusal :=
  s.run fun d =>
    match (d.svo p).search with
    | some n => if 512 ≤ n && d.svoState p = 2 then d.seekFail p else d
    | none => d

/-- Focus acquisition begins once its conditions hold (R273). -/
def execFocusAcqStart (p : Pk) (s : State) : Host.Outcome State Fault Refusal :=
  State.runUnit 7 s fun d =>
    match (d.svo p).want with
    | some l => if d.svoState p = 0 && d.facqReady p then d.facqBegin p l else d.facqAsk p l
    | none => d

/-- |FE| within FOCUS_WRITE_LIM for 16 ticks (R273): FOCUSED. -/
def execFocusSettled (p : Pk) (s : State) : Host.Outcome State Fault Refusal :=
  s.run fun d =>
    if d.svoState p = 1 && (d.svo p).phase == .capture && decide (16 ≤ (d.svo p).feRun) then
      let d := d.setSvoState p 2
      let d := (d.setSvo p { d.svo p with phase := .none, held := true }).takeZone p
      let d := (d.seedTables p).rebump p 0
      d.completeAll (fun w => w == .focused p.val || w == .facqEnd p.val) St.success
    else d

/-- A sweep ends without capture (R274). -/
def execFocusSweepEnd (p : Pk) (s : State) : Host.Outcome State Fault Refusal :=
  s.run fun d =>
    let x := d.svo p
    if d.svoState p = 1 && x.phase == .sweep && decide (d.outLim p 0 ≤ (x.loop 0).uPrev) then
      if x.facq < d.rd Reg.SVO_FACQ_FACQ_RETRIES p then
        (d.setSvo p { x with facq := x.facq + 1, phase := .retract, t := 0, sc := 0, curves := 0 }).manual p 0 (-(d.outLim p 0))
      else ((d.svoErr Reg.SVO_ERR_FOCUS_FAIL p).svoOff p).svoFailed p
    else d

/-- KICK_TICKS have passed: the focus coasts to the next S-curve (R275). -/
def execKickEnd (p : Pk) (s : State) : Host.Outcome State Fault Refusal :=
  s.run fun d =>
    let x := d.svo p
    if x.phase == .kick && decide (d.rd Reg.SVO_LJUMP_KICK_TICKS p ≤ x.t) then
      d.setSvo p { x with phase := .coast, t := 0, sc := 0 }
    else d

/-- No S-curve by JUMP_TIMEOUT, in units of 8 ticks (R277), or, as Table 7-7 bounds the step with the same time, no capture with
its trims confirmed. -/
def execJumpTimeout (p : Pk) (s : State) : Host.Outcome State Fault Refusal :=
  s.run fun d =>
    let x := d.svo p
    if (x.phase == .kick || x.phase == .coast || (x.phase == .settle && x.t == 0))
        && decide (8 * d.rd Reg.SVO_LJUMP_JUMP_TIMEOUT p ≤ x.jticks) then
      let layer := match x.jump with | some q => q.2 | none => d.svoLayer p
      (d.svoErr Reg.SVO_ERR_JUMP_FAIL p).reacquire p layer
    else d

/-- The last command of the profile of a move has been applied (R282, R283). -/
def execMoveProfileEnd (p : Pk) (s : State) : Host.Outcome State Fault Refusal :=
  s.run fun d =>
    let x := d.svo p
    if x.phase == .profile && decide (2 * x.mvH ≤ x.mvK) then d.profileEnd p else d

/-- Capture not met within SETTLE_MAX ticks: a fine seek from the next decoded wedge (R283). -/
def execSettleTimeout (p : Pk) (s : State) : Host.Outcome State Fault Refusal :=
  s.run fun d =>
    let x := d.svo p
    if d.svoState p = 3 && x.phase == .land && decide (d.rd Reg.SVO_MOVE_SETTLE_MAX p ≤ x.t)
        && decide (x.teRun < d.rd Reg.SVO_TRK_THR_ON_TRACK_TICKS p) then
      d.setSvo p { x with phase := .restart, t := 0 }
    else d

/-- The sled has stopped: the fine seek starts (R279). -/
def execSledSeekDone (p : Pk) (s : State) : Host.Outcome State Fault Refusal :=
  s.run fun d =>
    if (d.svo p).phase == .sled && (d.axis (2 * p.val)).kind == 0 then
      let n : Int := (d.svoTarget p : Int) - d.svoTrack p
      d.setSvo p { d.svo p with phase := .fine, left := n, seekN := n, t := 0 }
    else d

/-- One track remains: the engine makes the final move (R280). -/
def execFineSeekDone (p : Pk) (s : State) : Host.Outcome State Fault Refusal :=
  s.run fun d =>
    let x := d.svo p
    if x.phase == .fine && decide (x.left.natAbs ≤ 1) then d.move p x.left false else d

end Sys2Proof.Machine
end

