-- ==== Sys2Proof/Machine/Outer.lean ====
section
/-! DEFINITION. The cluster outer decoders: accumulators, solving, re-reads and unreadable clusters
(R196 to R203). -/

namespace Sys2Proof.Machine

open Sys2Proof

/-- 4,112 zero bytes. -/
def zeroBody : List Byte := List.replicate 4112 0

/-- A cluster at the outer decoder of a pickup. -/
def Dev.clu (d : Dev) (p addr : Nat) : Option Clu := d.yar.clus.find? fun c => c.pk == p && c.addr == addr

/-- Sets or releases a cluster. -/
def Dev.putClu (d : Dev) (p addr : Nat) (c : Option Clu) : Dev :=
  let l := d.yar.clus.filter fun c => !(c.pk == p && c.addr == addr)
  { d with yar := { d.yar with clus := match c with | some c => l ++ [c] | none => l } }

/-- A cluster that has closed in the present revolution of its pickup: its later frames are discarded (R202). -/
def Dev.cluClosed (d : Dev) (p addr : Nat) : Bool := d.yar.closed.contains (p, addr)

/-- Marks a cluster closed for the rest of the revolution. -/
def Dev.cluClose (d : Dev) (p addr : Nat) : Dev :=
  if d.cluClosed p addr then d else { d with yar := { d.yar with closed := d.yar.closed ++ [(p, addr)] } }

/-- A revolution of a band read begins: clusters may be read again. -/
def Dev.clusReopen (d : Dev) (p : Nat) : Dev :=
  { d with yar := { d.yar with closed := d.yar.closed.filter fun q => q.1 != p } }

/-- The Crystalliser schedules the re-read of a cluster at an attempt, or no longer does (R202). -/
def Dev.noteReread (d : Dev) (disc addr : Nat) (attempt : Option Nat) : Dev :=
  let l := d.set.rereads.filter fun q => !(q.1 == disc && q.2.1 == addr)
  { d with set := { d.set with rereads := match attempt with | some n => l ++ [(disc, addr, n)] | none => l } }

/-- A YAR_ERR bit of a cluster event: the pickup is the instance (Table 16-4a). -/
def Dev.cluErr (d : Dev) (f : Fld) (p addr : Nat) : Dev := d.errOnce f (1000 + p) p addr

/-- The attempts made to read a cluster that no decoder holds. -/
def Dev.attemptsOf (d : Dev) (disc addr : Nat) : Nat :=
  match d.yar.again.find? (fun q => q.1 == disc && q.2.1 == addr) with
  | some q => q.2.2
  | none => 0

/-- Sets how many attempts have been made to read a cluster that no decoder holds; 0 forgets it. -/
def Dev.setAttempts (d : Dev) (disc addr n : Nat) : Dev :=
  let l := d.yar.again.filter fun q => !(q.1 == disc && q.2.1 == addr)
  { d with yar := { d.yar with again := if n = 0 then l else l ++ [(disc, addr, n)] } }

/-- Opens a cluster when its first frame is accepted or erased, with an accumulator pair if one of 1,536 is
free (R196, R201). -/
def Dev.openClu (d : Dev) (p disc addr : Nat) : Dev × Clu :=
  match d.clu p addr with
  | some c => (d, c)
  | none =>
    let acc := decide (d.yar.clus.countP (·.acc) < 1536)
    let c : Clu := { pk := p, disc := disc, addr := addr, attempt := d.attemptsOf disc addr, acc := acc,
                     a0 := zeroBody, a1 := zeroBody, got := [], bad := [], words := [], held := false }
    let d := if acc then d else d.cluErr Reg.YAR_ERR_ACC_FULL p addr
    (d.putClu p addr (some c), c)

/-- Adds a frame into the accumulators (R196). -/
def Clu.add (c : Clu) (role : Nat) (body : List Byte) : Clu :=
  { c with a0 := gfAdd c.a0 body, a1 := gfAdd c.a1 (gfScale (gfAlpha role) body), got := c.got ++ [role],
           bad := c.bad.erase role,
           words := if role < 16 then c.words ++ [(role, body)] else c.words }

/-- The 16 data bodies. -/
def Clu.data (c : Clu) : List (List Byte) :=
  (List.range 16).map fun i => match c.words.find? (fun q => q.1 == i) with | some q => q.2 | none => zeroBody

/-- Whether the Crystalliser takes a data frame: by its seal when the disc is a data member of a set, by the
header alone when it is a parity member (R539, R544); outside every stripe by the guard. -/
def Dev.sealPass (d : Dev) (disc addr role : Nat) (body : List Byte) : Bool :=
  let data := body.take 4096
  let tag := body.drop 4096
  match d.stripeAt disc addr with
  | some (vol, s, n, m) => if s.k ≤ m then true else discOk vol (16 * (s.k * n + m) + role) data tag
  | none => isPad data tag || guardOk data tag

/-- A failed seal check of a frame read from disc (SEAL_DISC). -/
def Dev.sealFailDisc (d : Dev) (disc addr role : Nat) : Dev :=
  match d.stripeAt disc addr with
  | some (vol, s, n, m) => d.sealFail Reg.SET_ERR_SEAL_DISC vol (16 * (s.k * n + m) + role)
  | none => d.sealFail Reg.SET_ERR_SEAL_DISC 0xFFFF 0xFFFFFFFFFFFFFFFF

/-- The role that every nonzero position of the syndromes locates (R199). -/
def locate (a0 a1 : List Byte) : Option Nat :=
  let l := (List.zip a0 a1).filter fun q => q.1 != 0 || q.2 != 0
  (List.range 18).find? fun i => l.all fun q => q.1 != 0 && q.2 == gfMul (gfAlpha i) q.1

/-- A cluster that failed (R200, R202, R203): it is reported with the attempt number for one more read, which
sets CLU_FAIL (Table 5-11), or is unreadable.
Its accumulators and erased roles are held for the re-read, if it has any and one of the 256 places is free. -/
def Dev.cluFail (d : Dev) (c : Clu) : Dev :=
  let d := (d.bump Reg.YAR_CNT_CLU_FAIL_COUNT).cluClose c.pk c.addr
  let n := c.attempt + 1
  if d.rd Reg.YAR_OUTER_REREAD_MAX < n then
    ((((d.cluErr Reg.YAR_ERR_UNREADABLE c.pk c.addr).putClu c.pk c.addr none).setAttempts c.disc c.addr 0).noteReread
      c.disc c.addr none).clusterUnreadable c.disc c.addr
  else
    let d := (d.cluErr Reg.YAR_ERR_CLU_FAIL c.pk c.addr).noteReread c.disc c.addr (some n)
    if c.acc && decide ((d.yar.clus.filter fun q => q.held && !(q.pk == c.pk && q.addr == c.addr)).length < 256) then
      d.putClu c.pk c.addr (some { c with held := true, attempt := n })
    else (d.putClu c.pk c.addr none).setAttempts c.disc c.addr n

/-- A cluster that closed well: its words go to the Crystalliser. -/
def Dev.cluGood (d : Dev) (c : Clu) : Dev :=
  ((((d.putClu c.pk c.addr none).cluClose c.pk c.addr).setAttempts c.disc c.addr 0).noteReread c.disc c.addr none).clusterRead
    c.disc c.addr c.data

/-- A frame of a cluster in a band read, by its role: the spot that reads it. -/
def cluSpot (p addr role : Nat) : Nat := 32 * p + (18 * caCluster addr + role) % 32

/-- A frame erased for a cause that the outer decoder or the Crystalliser finds (Table 5-3). -/
def Dev.countErased (d : Dev) (p addr role : Nat) : Dev :=
  (d.bump Reg.YAR_CNT_FAILED_COUNT).bump Reg.YAR_SP_CNT_B_FAILED 1 (cluSpot p addr role)

/-- The outer decoder solves a cluster with every frame accepted or erased (R198 to R200). YAR_CNT_CLU_RECOV counts the
clusters that close with one or two erasures; a frame rebuilt under MISCORR_FIX was no erasure and is not counted there
(the model's choice, assumption 75). -/
def Dev.cluSolve (d : Dev) (c : Clu) : Dev :=
  let put (role : Nat) (v : List Byte) (c : Clu) : Clu :=
    if role < 16 then { c with words := c.words.filter (fun q => q.1 != role) ++ [(role, v)] } else c
  let sealed (role : Nat) (v : List Byte) : Bool := decide (16 ≤ role) || d.sealPass c.disc c.addr role v
  let bad (d : Dev) (role : Nat) (v : List Byte) : Dev := if sealed role v then d else d.sealFailDisc c.disc c.addr role
  if !c.acc then (if c.bad.isEmpty then d.cluGood c else d.cluFail c)
  else
    match c.bad with
    | [] =>
      if c.a0 == zeroBody && c.a1 == zeroBody then d.cluGood c
      else
        match locate c.a0 c.a1 with
        | none => (d.cluErr Reg.YAR_ERR_INCONSISTENT c.pk c.addr).cluFail c
        | some i =>
          if 16 ≤ i then ({ d with yar := { d.yar with parityLoc := d.yar.parityLoc + 1 } }).cluGood c
          else if !d.flag Reg.YAR_OUTER_MISCORR_FIX then d.cluGood c
          else
            let v := gfAdd (c.data.getD i zeroBody) c.a0
            let d := d.cluErr Reg.YAR_ERR_SEAL_ESCAPE c.pk c.addr
            if sealed i v then d.cluGood (put i v c) else (bad d i v).cluFail c
    | [a] =>
      let v := c.a0
      if c.a1 != gfScale (gfAlpha a) v then (d.cluErr Reg.YAR_ERR_INCONSISTENT c.pk c.addr).cluFail c
      else if sealed a v then (d.bump Reg.YAR_CNT_CLU_RECOV_COUNT).cluGood (put a v c)
      else (bad d a v).cluFail c
    | [a, b] =>
      let va := gfScale (gfInv (gfAlpha a ^^^ gfAlpha b)) (gfAdd c.a1 (gfScale (gfAlpha b) c.a0))
      let vb := gfAdd c.a0 va
      if sealed a va && sealed b vb then (d.bump Reg.YAR_CNT_CLU_RECOV_COUNT).cluGood (put b vb (put a va c))
      else (bad (bad d a va) b vb).cluFail c
    | _ => d.cluFail c

/-- Closes a cluster once it may: all 18 frames decided, or a held cluster that a frame has left with two erasures or
fewer (R198, R202). -/
def Dev.cluCheck (d : Dev) (c : Clu) (accepted : Bool) : Dev :=
  if c.held then (if accepted && decide (c.bad.length ≤ 2) then d.cluSolve c else d)
  else if c.got.length + c.bad.length = 18 then d.cluSolve c
  else d

/-- A cluster with one role more among its erasures. -/
def Clu.erased (c : Clu) (role : Nat) : Clu := { c with bad := if c.bad.contains role then c.bad else c.bad ++ [role] }

/-- A decided frame of a cluster: accepted with its body, or an erasure (R196, R197, R202). -/
def Dev.cluFrame (d : Dev) (p disc addr role : Nat) (body : Option (List Byte)) : Dev :=
  if d.cluClosed p addr then d
  else
    let (d, c) := d.openClu p disc addr
    if c.got.contains role then d
    else
      match body with
      | some v =>
        if decide (16 ≤ role) || d.sealPass disc addr role v then
          let c := c.add role v
          (d.putClu p addr (some c)).cluCheck c true
        else
          let c := c.erased role
          (((d.countErased p addr role).sealFailDisc disc addr role).putClu p addr (some c)).cluCheck c false
      | none =>
        let c := c.erased role
        (d.putClu p addr (some c)).cluCheck c false

/-- At the timeout of a cluster the frames still missing become erasures (R198); a held cluster whose re-read
has not closed it fails again. -/
def Dev.cluTimeout (d : Dev) (p addr : Nat) : Dev :=
  match d.clu p addr with
  | none => d
  | some c =>
    if d.cluClosed p addr then d
    else if c.held then d.cluFail c
    else
      let miss := (List.range 18).filter fun r => !c.got.contains r && !c.bad.contains r
      (miss.foldl (fun d r => d.countErased p addr r) d).cluSolve (miss.foldl Clu.erased c)

end Sys2Proof.Machine
end

