-- ==== Sys2Proof/Machine/Yarrow.lean ====
section
/-! DEFINITION. The Yarrow pool: jobs, engines, stages, the extension test, decision records and decided
frames (R173 to R195, R204). -/

namespace Sys2Proof.Machine

open Sys2Proof

/-! ## Deadlines and costs (Tables 5-1, 5-2) -/

/-- Frame decode deadlines at 10,000 rpm in CORE cycles. -/
def deadlineTable : List Nat :=
  [93265, 87890, 83859, 79484, 75546, 71968, 68718, 66234, 63484, 60937, 58593, 56781]
    ++ [54734, 52843, 51062, 49406, 48109, 46640, 45250, 43953, 42718, 41734, 40625, 39562]

/-- The deadline of a zone and a speed (R190). -/
def deadlineOf (zone speed : Nat) : Nat :=
  let v := deadlineTable.getD zone 0
  if speed = 0 then v else v * 4 / 3

/-- CORE cycles of a stage. -/
def Stage.cost : Stage → Nat
  | .load => 586
  | .detect => 1200
  | .iterate => 416
  | .screen => 768
  | .output => 96

/-- The cost of the mandatory part of a pass-1 job (R174). -/
def Dev.rMin (d : Dev) : Nat := 586 + 1200 + d.rd Reg.YAR_CFG_N_MIN * 416 + 96

/-! ## Engines and jobs -/

/-- What an engine does. -/
def Dev.work (d : Dev) (e : Nat) : Option Work := mget d.yar.eng none e

/-- Sets what an engine does. -/
def Dev.setWork (d : Dev) (e : Nat) (w : Option Work) : Dev :=
  ({ d with yar := { d.yar with eng := mset d.yar.eng none e w } }).showYar

/-- An engine in service (R204). -/
def Dev.inService (d : Dev) (e : Nat) : Bool :=
  if e < 32 then !(d.rd Reg.YAR_ENG_FAULT_LO_FAULT).testBit e
  else !(d.rd Reg.YAR_ENG_FAULT_HI_FAULT).testBit (e - 32)

/-- Inserts a job in order of its deadline. -/
def insJob (j : Job) : List Job → List Job
  | [] => [j]
  | h :: t => if j.dl < h.dl then j :: h :: t else h :: insJob j t

/-- The queued pass-1 jobs in deadline order. -/
def Dev.pass1 (d : Dev) : List Job := (d.yar.jobs.filter fun j => !j.joint).foldl (fun l j => insJob j l) []

/-- The index of the least of some numbers. -/
def leastIdx (l : List Nat) : Nat :=
  ((List.range l.length).foldl (fun (b : Nat × Nat) i =>
    if l.getD i 0 < b.2 then (i, l.getD i 0) else b) (0, l.headD 0)).1

/-- Places queued jobs on free engines in deadline order, and tells whether each meets its deadline. -/
def fits (rMin margin : Nat) : List Nat → List Job → Bool
  | _, [] => true
  | free, q :: t =>
    let i := leastIdx free
    let f := free.getD i 0
    decide (f + rMin ≤ q.dl - margin) && fits rMin margin (free.set i (f + rMin)) t

/-- The extension test (R186). -/
def Dev.extension (d : Dev) (e cost dl : Nat) : Bool :=
  let now := d.clk.cyc
  let margin := d.rd Reg.YAR_BUDGET_MARGIN
  let free := ((List.range 64).filter d.inService).map fun k =>
    if k = e then now + cost + 96
    else match d.work k with
      | some w => w.ends + 96
      | none => now
  decide (now + cost + 96 ≤ dl - margin) && fits d.rMin margin free d.pass1

/-! ## Signals of a frame -/

/-- The pickup of a frame. -/
def SFrame.pk (s : SFrame) : Nat := s.spot / 32

/-- The samples of a frame's positions at a shift, 37,424 of them, erased as the slot's map says; outside the extent they are
erased (R175). -/
def SFrame.read (s : SFrame) (shift : Int) : List (Int × Bool) :=
  let o := 12 + s.delta + shift
  let l := if o < 0 then List.replicate o.natAbs (0, true) ++ s.mapped else s.mapped.drop o.toNat
  (l ++ List.replicate frameBits (0, true)).take frameBits

/-- σ² of a spot in 1/256 (R176). -/
def Dev.sigma2 (d : Dev) (g : Nat) : Int := mget d.yar.sig 16384 g

/-- The joint coefficients of a spot, in 2^-14. -/
def Dev.jointTaps (d : Dev) (g : Nat) : List Int :=
  (List.range 20).map fun i =>
    if i % 2 = 0 then d.rdS Reg.YAR_SP_JX_EVEN g (i / 2) else d.rdS Reg.YAR_SP_JX_ODD g (i / 2)

/-- The records of a frame's neighbours, by tap group. -/
def Dev.recordsFor (d : Dev) (s : SFrame) : List (Nat × Array Int) :=
  (neighbours s.spot).filterMap fun n => (d.recordFor s n.2).map fun r => (n.1, r.d.toArray)

/-- The interference of a frame's positions from some of its neighbours, in 2^-15 (R182). -/
def Dev.interference (d : Dev) (s : SFrame) (rs : List (Nat × Array Int)) : List Int :=
  let h := d.jointTaps s.spot
  (List.range frameBits).map fun (k : Nat) =>
    rs.foldl (fun a r => (List.range 5).foldl (fun a m =>
      if k + m < 2 then a else a + h.getD (5 * r.1 + m) 0 * r.2.getD (k + m - 2) 0) a) 0

/-- The trellis steps of a frame: its samples less the interference, and the a priori LLRs of the known bits
and of the coded field (R176 to R178). -/
def frameSteps (s : SFrame) (minus ap : List Int) (post : Bool) : List TStep :=
  let known := (preamble ++ syncMark).map knownLlr
  let tail := (postamble post).map knownLlr
  let aps := known ++ (ap ++ List.replicate 37265 0).take 37265 ++ tail
  (List.zip (List.zip (s.read 0) (minus ++ List.replicate frameBits 0)) aps).map fun q =>
    { y := q.1.1.1 * 32768 - q.1.2, erased := q.1.1.2, ap := q.2 }

/-- The forward cost of a frame under some steps. -/
def pathCost (t : List Int) (sig : Int) (l : List TStep) : Int :=
  minI (l.foldl (fwdStep t sig) (List.replicate (2 ^ stateBits t) 0))

/-- The detector's LLRs of a frame; of the two postambles it takes the one that fits better. -/
def Dev.detectFrame (d : Dev) (s : SFrame) (minus ap : List Int) : List Int :=
  let t := d.target
  let sig := d.sigma2 s.spot
  let a := frameSteps s minus ap false
  let b := frameSteps s minus ap true
  detect t sig (if pathCost t sig b < pathCost t sig a then b else a)

/-! ## Reports of a decided frame -/

/-- The conditions of Table 2-6 that a decoded header fails: 0 misplaced, 1 foreign, 2 unsupported, 3 reserved role.
Each one is recorded and acted on. A reserved role always differs from the placement rule and is not named twice: it is
condition 3 alone (the model's choice, assumption 72). -/
def headerFaults (addr epoch h : Nat) : List Nat :=
  let role := h / 2 ^ 30 % 32
  let want := frameHeader (faSide addr) (faLayer addr) (faBand addr) (faTrack addr) (faFrame addr) 0 0 0
  let place := h % 2 ^ 30 == want
    && role == roleOf (zoneOf (faBand addr)) (frameNumber (zoneOf (faBand addr)) (faTrack addr) (faFrame addr))
  (if 18 ≤ role && decide (role ≤ 30) then [3] else if place then [] else [0])
    ++ (if h / 2 ^ 39 % 512 != epoch then [1] else []) ++ (if h / 2 ^ 35 % 16 != 1 then [2] else [])

/-- The media event of a disc whose frames are foreign or of another format, once per disc and revolution: whichever of
its two pickups makes it, the next comes after that pickup's next revolution begins. -/
def Dev.headerEvent (d : Dev) (p c : Nat) : Dev :=
  if d.yar.made.any fun q => q.1 == c && q.2 / 2 == (3000 + p) / 2 then d
  else
    let sp := spindleOf p
    let (id, vol, m) := match d.disc sp with
      | some x => (x.id, (x.member.map (·.1)).getD 0xFFFF, (x.member.map (·.2)).getD 0xFF)
      | none => (0, 0xFFFF, 0xFF)
    let d := d.media 0x3002 id sp vol m
    { d with yar := { d.yar with made := d.yar.made ++ [(c, 3000 + p)] } }

/-- A failed header condition (Table 2-6): a record, and the servo verifies its position, or a media event. -/
def Dev.headerFail (d : Dev) (s : SFrame) (h c : Nat) : Dev :=
  let p := s.pk
  let got := packFrame (h % 2) (h / 2 % 4) (h / 8 % 2 ^ 14) (h / 2 ^ 17 % 32) (h / 2 ^ 22 % 256)
  let d := d.record 0x8002 6 3 (payload [(0, 2, s.spot), (2, 1, c), (4, 4, s.addr), (8, 4, got),
    (12, 2, h / 2 ^ 39 % 512), (14, 1, h / 2 ^ 35 % 16), (15, 1, h / 2 ^ 30 % 32)]) 0 0 s.addr 0
  if c = 0 || c = 3 then
    { d with yar := { d.yar with recheck := if d.yar.recheck.contains p then d.yar.recheck else d.yar.recheck ++ [p] } }
  else d.headerEvent p c

/-- The header check of a decoded frame (R58): a frame that fails is counted once. -/
def Dev.headerCheck (d : Dev) (s : SFrame) (word : List Byte) : Bool × Dev :=
  let h := ofBytes (word.take 8)
  let l := headerFaults s.addr (d.rd Reg.YAR_PK_EPOCH_EPOCH s.pk) h
  if l.isEmpty then (true, d)
  else (false, l.foldl (fun d c => d.headerFail s h c) (d.bump Reg.YAR_SP_CNT_C_HDR_FAIL 1 s.spot))

/-- The decode deadline of a frame in CORE cycles (R186). -/
def SFrame.deadline (s : SFrame) : Nat := s.cyc + deadlineOf s.zone s.speed

/-- The slot of a frame returns to its channel (R162, R195). -/
def Dev.slotBack (d : Dev) (s : SFrame) : Dev :=
  let x := d.spot s.spot
  { d with spots := mset d.spots Spot.reset s.spot { x with away := x.away.erase (s.slot, s.deadline) } }

/-- A frame of a cluster, decided; fill frames and read-back frames belong to none. -/
def Dev.toCluster (d : Dev) (s : SFrame) (body : Option (List Byte)) : Dev :=
  let p := s.pk
  let z := zoneOf (faBand s.addr)
  let n := frameNumber z (faTrack s.addr) (faFrame s.addr)
  if s.draw || roleOf z n = 31 then d
  else
    match d.disc (spindleOf p) with
    | some x => d.cluFrame p x.id (packCluster (faSide s.addr) (faLayer s.addr) (faBand s.addr) (n / 18)) (n % 18) body
    | none => d

/-- A frame erased for any cause (R197). -/
def Dev.eraseFrame (d : Dev) (s : SFrame) (cause : Nat := 1) : Dev :=
  let d := ((d.slotBack s).bump Reg.YAR_CNT_FAILED_COUNT).bump Reg.YAR_SP_CNT_B_FAILED 1 s.spot
  if s.draw then d.drawFail s.pk s.addr cause else d.toCluster s none

/-- The level of a position, doubled, from the channel bits of a frame after the four bits `pre` before it, newest first. -/
def levelAt (t : List Int) (pre : Nat) (bits : Array Bool) (k : Nat) : Int :=
  (List.range 5).foldl (fun s i =>
    s + t.getD i 0 * (if k < i then sgn pre (i - k - 1) else if bits.getD (k - i) false then 1 else -1)) 0

/-- The error of a position of a frame against its level, in 2^-15; none at an erased position. -/
def levelError (t : List Int) (pre : Nat) (bits : Array Bool) (ys : Array (Int × Bool)) (mi : Array Int) (k : Nat) : Option Int :=
  let q := ys.getD k (0, true)
  if q.2 then none else some (q.1 * 32768 - mi.getD k 0 - levelAt t pre bits k * 16384)

/-- The four bits before a frame, which the frame does not decide: those that fit its first four samples best, the
lowest of equals (the model's choice, assumption 73). -/
def headBits (t : List Int) (bits : Array Bool) (ys : Array (Int × Bool)) (mi : Array Int) : Nat :=
  let cost (pre : Nat) : Int := ((List.range 4).map fun k =>
    match levelError t pre bits ys mi k with | some e => e * e | none => 0).sum
  ((List.range 16).foldl (fun (b : Nat × Int) pre => if cost pre < b.2 then (pre, cost pre) else b) (0, cost 0)).1

/-- σ² after a converged frame (R176): `minus` is the interference that its job took off. R176 gives σ² no resolution: the model
holds it in 1/256 of a squared LSB and never below 1/256 (DESIGN CHOICE, assumption 121). -/
def Dev.learnSigma (d : Dev) (s : SFrame) (bits : List Bool) (minus : List Int) : Dev :=
  let t := d.target
  let b := bits.toArray
  let ys := (s.read 0).toArray
  let mi := minus.toArray
  let es := (List.range frameBits).filterMap (levelError t (headBits t b ys mi) b ys mi)
  let sig := d.sigma2 s.spot
  let mean := if es.isEmpty then sig else divR ((es.map fun v => v * v).sum) (es.length * 2 ^ 22)
  { d with yar := { d.yar with sig := mset d.yar.sig 16384 s.spot (max 1 (sig + divR (mean - sig) 16)) } }

/-- The joint coefficients after a converged frame (R183), from the neighbours `rs`: those of a joint job's start (R184), else
those with a record now. `inter` is I[k] with the coefficients of the time at which it was formed: it is held fixed while the
20 coefficients move from position to position (the model's choice, assumption 74). R183 gives every eighth position no phase:
the model takes the positions that 8 divides (DESIGN CHOICE, assumption 120). -/
def Dev.learnJoint (d : Dev) (s : SFrame) (bits : List Bool) (inter : List Int) (rs : List (Nat × Array Int)) : Dev :=
  if s.training || s.slip || s.uncertain then d
  else
    let t := d.target
    let b := bits.toArray
    let ys := (s.read 0).toArray
    let mi := inter.toArray
    let pre := headBits t b ys mi
    let kj : Int := d.rd Reg.YAR_DEC_KJ
    let h := (List.range (frameBits / 8)).foldl (fun (h : List Int) i =>
      match levelError t pre b ys mi (8 * i) with
      | none => h
      | some v => rs.foldl (fun (h : List Int) r => (List.range 5).foldl (fun (h : List Int) m =>
          let x := if 8 * i + m < 2 then 0 else r.2.getD (8 * i + m - 2) 0
          if x = 2 || x = -2 then
            h.set (5 * r.1 + m) (clampI (-32768) 32767 (h.getD (5 * r.1 + m) 0 + scaleBy (v * (x / 2)) (-1 - kj)))
          else h) h) h) (d.jointTaps s.spot)
    d.each 10 fun d i =>
      (d.wrS Reg.YAR_SP_JX_EVEN (h.getD (2 * i) 0) s.spot i).wrS Reg.YAR_SP_JX_ODD (h.getD (2 * i + 1) 0) s.spot i

/-- Reports a shift, or a placement beyond ACCEPT at which the frame decoded, to the read channel (R158,
R159, R192). -/
def Dev.reportShift (d : Dev) (s : SFrame) (shift : Int) : Dev :=
  let x := d.spot s.spot
  let extra := if d.rd Reg.RCH_SYNC_ACCEPT < s.delta.natAbs then s.delta else 0
  if shift = 0 && extra = 0 then d
  else
    let d := { d with spots := mset d.spots Spot.reset s.spot { x with corr := x.corr + shift + extra } }
    if shift = 0 then d else d.bump Reg.RCH_SP_CNT_SHIFT_SHIFTED 1 s.spot

/-- Writes the decision record of a frame (R181): it takes the place of the spot's record of the same frame parity,
unless a joint job that waits may still read that one. -/
def Dev.writeRecord (d : Dev) (s : SFrame) (shift : Int) (dec : List Int) : Dev :=
  let er := s.read shift
  let r : DRec := { addr := s.addr, d := List.zipWith (fun v q => if q.2 then 0 else v) dec er }
  let keep := d.yar.recs.filter fun q => q.1 != s.spot || (q.2.addr != s.addr
    && (faFrame q.2.addr % 2 != faFrame s.addr % 2 || d.yar.needs s.spot q.2))
  ({ d with yar := { d.yar with recs := keep ++ [(s.spot, r)] } }).checkJoint

/-- The iterations of a frame, of pass 1 and its joint job together, enter the mean (Table 5-15). With fewer than 256 frames it is
the mean of those there are, rounded down, and a frame that ended by a drop or an engine fault is not among them (DESIGN
CHOICE, assumption 122). -/
def Dev.countIters (d : Dev) (g n : Nat) : Dev :=
  let l := (n :: mget d.yar.iters [] g).take 256
  let d := { d with yar := { d.yar with iters := mset d.yar.iters [] g l } }
  d.wr Reg.YAR_SP_ITER_MEAN (16 * l.sum / l.length) g

/-! ## Outputs -/

/-- The decoder of an engine's work. -/
def Work.ldpc (w : Work) : Ldpc := { l := w.l, r := w.r }

/-- The iterations that a frame has had. -/
def Work.total (w : Work) : Nat := w.job.iters + w.iters

/-- The output of a converged frame (R194). -/
def Dev.outputGood (d : Dev) (w : Work) : Dev :=
  let s := w.job.fr
  let cw := w.ldpc.hard
  let word := decodedWord s.addr cw
  let bits := frameChannel cw
  let d := d.countIters s.spot w.total
  let d := if w.job.joint then (d.bump Reg.YAR_CNT_CONVJ_COUNT).bump Reg.YAR_SP_CNT_A_CONVJ 1 s.spot
    else (d.bump Reg.YAR_CNT_CONV1_COUNT).bump Reg.YAR_SP_CNT_A_CONV1 1 s.spot
  let d := (d.writeRecord s w.shift (knownDecisions bits)).reportShift s w.shift
  let s' := { s with delta := s.delta + w.shift }
  let rs := if w.job.joint then w.near.map fun q => (q.1, q.2.toArray) else d.recordsFor s
  let d := (d.learnSigma s' bits w.minus).learnJoint s' bits (if w.job.joint then w.minus else d.interference s rs) rs
  let (ok, d) := d.headerCheck s word
  if s.draw then
    let c := codedField (shiftLlrs w.shift w.det)
    let first := (codeLlrs (codeSources c) c.toArray).map hardBit
    let flips := (List.zip first cw).countP fun q => q.1 != q.2
    -- a frame that fails the header check is an erasure (R194, Table 5-3)
    let d := if ok then d else (d.bump Reg.YAR_CNT_FAILED_COUNT).bump Reg.YAR_SP_CNT_B_FAILED 1 s.spot
    (d.slotBack s).drawJudge s.pk s.addr true ok word w.total flips
  else if !ok then d.eraseFrame s
  else (d.slotBack s).toCluster s (some (word.drop 8))

/-- The decision record of a frame that did not converge: its decisions as they stand (R181). Without a detector pass
there are none, and no record is written. -/
def Dev.rawRecord (d : Dev) (w : Work) : Dev :=
  if w.det.isEmpty then d
  else
    let det := shiftLlrs w.shift w.det
    let c := codedField det
    let src := codeSources c
    let ext := List.zipWith (· - ·) w.ldpc.l.flatten (codeLlrs src c.toArray)
    let field := List.zipWith (fun a b => satLlr (a + b)) c (fieldSums src ext)
    let thr := d.rd Reg.YAR_DEC_REL_THR
    let last := hardBit (field.getLastD 0)
    d.writeRecord w.job.fr w.shift
      (knownDecisions (preamble ++ syncMark) ++ field.map (decisionOf thr) ++ knownDecisions (postamble last))

/-- The output of a pass-1 job that did not converge: its record, and a joint job or an erasure (R181, R185, R195).
What the joint job takes as a priori input is the extrinsic part of the LLRs, saturated (R178). -/
def Dev.outputPass1 (d : Dev) (w : Work) : Dev :=
  let s := w.job.fr
  let d := d.rawRecord w
  let z := zoneOf (faBand s.addr)
  let fill := roleOf z (frameNumber z (faTrack s.addr) (faFrame s.addr)) = 31
  if w.stopped || !d.flag Reg.YAR_CFG_JOINT_EN || s.draw || fill then (d.countIters s.spot w.total).eraseFrame s 2
  else
    let c := codedField (shiftLlrs w.shift w.det)
    let src := codeSources c
    let ext := List.zipWith (· - ·) w.ldpc.l.flatten (codeLlrs src c.toArray)
    let free := decide (d.yar.jobs.countP (fun j => j.soft.isSome) < 256)
    let d : Dev := if free then d else { d with yar := { d.yar with noSoft := d.yar.noSoft + 1 } }
    let j : Job := { w.job with
      joint := true, wait := d.clk.cyc + d.rd Reg.YAR_BUDGET_JOINT_WAIT, elig := false, shift := w.shift,
      soft := if free then some ((fieldSums src ext).map satLlr) else none, iters := w.total }
    (d.setJobs (d.yar.jobs ++ [j])).checkJoint

/-- The output of an engine's job. -/
def Dev.outputJob (d : Dev) (e : Nat) (w : Work) : Dev :=
  let d := d.setWork e none
  let d := if w.cut then d.bump Reg.YAR_CNT_CUT_COUNT else d
  if w.conv then d.outputGood w
  else if w.job.joint then (d.countIters w.job.fr.spot w.total).eraseFrame w.job.fr
  else d.outputPass1 w

/-! ## Stages (R174, R180, R186, R191, R192) -/

/-- The engine goes on with a stage. -/
def Dev.stage' (d : Dev) (e : Nat) (w : Work) (st : Stage) : Dev :=
  d.setWork e (some { w with stage := st, ends := d.clk.cyc + st.cost })

/-- The engine goes on with an extension stage if the test allows it, else straight to output. -/
def Dev.extend (d : Dev) (e : Nat) (w : Work) (st : Stage) : Dev :=
  if d.extension e st.cost w.job.dl then d.stage' e w st else d.stage' e { w with cut := true } .output

/-- The iteration limit of a job (R180, R202). -/
def Dev.limitOf (d : Dev) (j : Job) : Nat :=
  (if j.joint then d.rd Reg.YAR_CFG_N2_MAX else d.rd Reg.YAR_CFG_N1_MAX)
    + (if j.boost then d.rd Reg.YAR_OUTER_REREAD_BOOST else 0)

/-- The end of a detector pass. -/
def Dev.detectEnd (d : Dev) (e : Nat) (w : Work) : Dev :=
  let s := { w.job.fr with delta := w.job.fr.delta + w.shift }
  let det := if w.job.joint then d.detectFrame s w.minus (w.job.soft.getD []) else d.detectFrame s [] []
  let c := codedField det
  let x := Ldpc.start (codeLlrs (codeSources c) c.toArray)
  d.stage' e { w with det := det, l := x.l, r := x.r, weight := 4161 } .iterate

/-- The end of an LDPC iteration: convergence, stall, limit, the shift screen or a further iteration. -/
def Dev.iterateEnd (d : Dev) (e : Nat) (w : Work) : Dev :=
  let x := w.ldpc.iterate (d.rd Reg.YAR_DEC_OMS_OFFSET)
  let n := syndromeWeight x.hard
  let d := d.bump Reg.YAR_CNT_ITER_COUNT
  let w := { w with l := x.l, r := x.r, iters := w.iters + 1, weight := n, conv := n == 0,
                    stall := if n < w.weight then 0 else w.stall + 1 }
  let s := w.job.fr
  let z := zoneOf (faBand s.addr)
  let fill := roleOf z (frameNumber z (faTrack s.addr) (faFrame s.addr)) = 31
  if n = 0 then d.stage' e w .output
  else if !w.job.joint && decide (w.iters < d.rd Reg.YAR_CFG_N_MIN) then d.stage' e w .iterate
  else if d.rd Reg.YAR_CFG_STALL_ITER ≤ w.stall || w.limit ≤ w.iters then
    if !w.job.joint && !w.screened && !fill && d.flag Reg.YAR_CFG_SHIFT_EN then d.extend e w .screen
    else d.stage' e w .output
  else d.extend e w .iterate

/-- The end of a shift screen (R191, R192). -/
def Dev.screenEnd (d : Dev) (e : Nat) (w : Work) : Dev :=
  let (s, n) := bestShift w.det
  let w := { w with screened := true }
  if n * 256 < d.rd Reg.YAR_DEC_SHIFT_SYN_THR * 4160 && decide (2 * n < w.weight) then
    let c := codedField (shiftLlrs s w.det)
    let x := Ldpc.start (codeLlrs (codeSources c) c.toArray)
    let d := d.bump Reg.YAR_SP_CNT_B_SHIFTED 1 w.job.fr.spot
    let w := { w with shift := s, l := x.l, r := x.r, weight := 4161, stall := 0, limit := w.iters + d.rd Reg.YAR_CFG_N_SHIFT }
    if d.rd Reg.YAR_CFG_N_SHIFT = 0 then d.stage' e w .output else d.extend e w .iterate
  else d.stage' e w .output

/-- An engine fault (R204): its job ends as an erasure, and the engine leaves service. -/
def Dev.engineFault (d : Dev) (e : Nat) (w : Work) : Dev :=
  let d := d.setWork e none
  let d := if e < 32 then d.wr Reg.YAR_ENG_FAULT_LO_FAULT (d.rd Reg.YAR_ENG_FAULT_LO_FAULT ||| 2 ^ e)
    else d.wr Reg.YAR_ENG_FAULT_HI_FAULT (d.rd Reg.YAR_ENG_FAULT_HI_FAULT ||| 2 ^ (e - 32))
  (d.errOnce Reg.YAR_ERR_ENG_FAULT (1000 + w.job.fr.pk) w.job.fr.spot w.job.fr.addr).eraseFrame w.job.fr 2

/-! ## Command rows -/

/-- FRAME_HANDOVER (R162, R173): the oldest complete frame of a channel passes to the pool, its slot is away
and a pass-1 job is queued; in a band read its cluster opens. -/
def execFrameHandover (g : Sys2Proof.Spot) (s : State) : Host.Outcome State Fault Refusal :=
  s.run fun d =>
    let x := d.spot g
    match x.full with
    | [] => d
    | f :: t =>
      let x := { x with full := t, away := (x.away.filter fun q => q.1 != f.slot) ++ [(f.slot, f.deadline)] }
      let d := { d with spots := mset d.spots Spot.reset g x,
                        set := { d.set with missed := d.set.missed.filter fun q => q != (d.discUnder g, f.addr) } }
      let held := match clusterOfFrame f.addr with
        | some c => match d.clu f.pk (packCluster (faSide f.addr) (faLayer f.addr) (faBand f.addr) c) with
          | some q => q.held && !d.cluClosed f.pk q.addr
          | none => false
        | none => false
      let j : Job := { fr := f, joint := false, dl := f.deadline, wait := 0, elig := true,
                       boost := held, shift := 0, soft := none, iters := 0 }
      (d.setJobs (d.yar.jobs ++ [j])).bump Reg.YAR_CNT_FRAMES_COUNT

/-- ENGINE_JOB_START (R187): an idle engine in service takes the job with the earliest deadline; a joint job
starts only if its detector pass and first iteration pass the test of R186. -/
def execEngineJobStart (e : Eng) (s : State) : Host.Outcome State Fault Refusal :=
  s.run fun d =>
    if !d.inService e || (d.work e).isSome then d
    else
      match (d.yar.jobs.filter fun j => j.elig).foldl (fun l j => insJob j l) [] with
      | [] => d
      | j :: _ =>
        let d := d.setJobs (d.yar.jobs.erase j)
        let w : Work := { job := j, stage := .load, ends := d.clk.cyc + Stage.load.cost, iters := 0,
                          limit := d.limitOf j, det := [], l := [], r := [], weight := 4161, stall := 0, conv := false,
                          shift := j.shift, screened := false, cut := false,
                          minus := if j.joint then d.interference j.fr (d.recordsFor j.fr) else [],
                          near := if j.joint then (d.recordsFor j.fr).map fun q => (q.1, q.2.toList) else [], stopped := false }
        if j.joint && !d.extension e (1200 + 416) j.dl then d.outputJob e { w with cut := true }
        else d.setWork e (some w)

/-- ENGINE_STAGE_END (R186): the stage of an engine ends; `faulty` says that its checks failed (R204). -/
def execEngineStageEnd (e : Eng) (faulty : Bool) (s : State) : Host.Outcome State Fault Refusal :=
  s.run fun d =>
    match d.work e with
    | none => d
    | some w =>
      if faulty then d.engineFault e w
      else
        match w.stage with
        | .load => d.stage' e w .detect
        | .detect => d.detectEnd e w
        | .iterate => d.iterateEnd e w
        | .screen => d.screenEnd e w
        | .output => d.outputJob e w

/-- JOINT_WAIT_EXPIRY (R184): the joint job of a spot becomes eligible without the missing records. -/
def execJointWaitExpiry (g : Sys2Proof.Spot) (s : State) : Host.Outcome State Fault Refusal :=
  s.run fun d => d.setJobs (d.yar.jobs.map fun j => if j.joint && j.fr.spot == g.val then { j with elig := true } else j)

/-- JOB_DROP (R187): the earliest queued pass-1 job of a spot is dropped; a class F frame decode miss. -/
def execJobDrop (g : Sys2Proof.Spot) (s : State) : Host.Outcome State Fault Refusal :=
  s.run fun d =>
    match d.pass1.find? (fun j => j.fr.spot == g.val) with
    | none => d
    | some j =>
      let d := d.setJobs (d.yar.jobs.erase j)
      let d := (d.errOnce Reg.YAR_ERR_DROP (1000 + j.fr.pk) g j.fr.addr).miss 4 g
      ((d.bump Reg.YAR_CNT_DROPPED_COUNT).bump Reg.YAR_SP_CNT_C_DROPPED 1 g).eraseFrame j.fr

/-- HARD_STOP (R188): a job not at output by D − MARGIN goes straight to the output stage, and ends there as an erasure
unless its last iteration converged; a class F frame decode miss. -/
def execHardStop (e : Eng) (s : State) : Host.Outcome State Fault Refusal :=
  s.run fun d =>
    match d.work e with
    | none => d
    | some w =>
      if w.stage == .output then d
      else
        let g := w.job.fr.spot
        let d := (d.errOnce Reg.YAR_ERR_HARD_STOP (1000 + w.job.fr.pk) g w.job.fr.addr).miss 4 g
        let d := (d.bump Reg.YAR_CNT_DROPPED_COUNT).bump Reg.YAR_SP_CNT_C_DROPPED 1 g
        d.stage' e { w with stopped := true } .output

/-- CLUSTER_TIMEOUT (R198): the missing frames of a cluster become erasures and it is solved. -/
def execClusterTimeout (p : Pk) (addr : Word) (s : State) : Host.Outcome State Fault Refusal :=
  s.run fun d => d.cluTimeout p addr.toNat

/-- ASSEMBLY_DEADLINE_MISS (R200): a cluster not finished in time goes to re-read; a class F miss. -/
def execAssemblyDeadlineMiss (p : Pk) (addr : Word) (s : State) : Host.Outcome State Fault Refusal :=
  s.run fun d =>
    match d.clu p addr.toNat with
    | none => d
    | some c => ((d.cluErr Reg.YAR_ERR_ASSEMBLY_MISS p addr.toNat).miss 6 p).cluFail c

end Sys2Proof.Machine
end

