-- ==== Sys2Proof/Machine/WriteRows.lean ====
section
/-! DEFINITION. Band reads and burns: the rows that start and end revolutions and bands (R53, R70, R224 to R232,
R340, R348). -/

namespace Sys2Proof.Machine

open Sys2Proof

/-- The band read of a pickup. -/
def Dev.readRev (d : Dev) (p : Nat) : Option ReadRev := mget d.reads none p
def Dev.setReadRev (d : Dev) (p : Nat) (r : Option ReadRev) : Dev := { d with reads := mset d.reads none p r }

/-- Spot 16 of a pickup lies on track-in-band `t` of a band. -/
def Dev.overBand (d : Dev) (p layer band t : Nat) : Bool :=
  d.svoState p == 5 && d.svoLayer p == layer && d.svoTarget p == 32 * band + t

/-- A READ or WRITE that needs the pickup asks for the suspension of its drift run at the end of the step in hand
(R341). -/
def Dev.calSuspend (d : Dev) (p : Nat) : Dev :=
  let y := d.calPk p
  match y.run with
  | some r => if r.full then d else d.setCalPk p { y with run := some { r with asked := true } }
  | none => d

/-- Whether a calibration run holds the pickup: until the end of its step, where a suspension is asked for (R341). -/
def Dev.calHolds (d : Dev) (p : Nat) : Bool := match (d.calPk p).run with | some r => !r.paused | none => false

/-- I/O that needs a disc starts its spindle from OFF (Table 1-6), unless a hold or the tamper hold is in force (R628). -/
def Dev.ioSpin (d : Dev) (n rpm : Nat) : Dev :=
  if d.spState n == 0 && !(d.spin n).start && d.hasSp n && !d.clk.powerFail && !d.flag Reg.LCS_STATUS_TAMPER_HOLD then
    d.spStart n rpm
  else d

/-- A pickup begins a read revolution of a band (R53): on the band's track its spots start; from another track
it first seeks there. A pickup in a burn or a move does neither, nor one whose drift run has not come to the end of its step
(R341), nor one that has still to be calibrated (R340). A spindle in OFF is started for it in any case (R35). -/
def Dev.bandRead (d : Dev) (p layer band slot : Nat) : Dev :=
  match d.disc (spindleOf p) with
  | none => d
  | some x =>
    if (d.burn p).isSome || decide (bandCount ≤ band) then d
    else
      let d := ((d.calSuspend p).clusReopen p).ioSpin (spindleOf p) (d.rd Reg.MOT_SP_SPEED_READ_RPM (spindleOf p))
      let r : ReadRev := { disc := x.id, side := sideOf p, layer := layer, band := band, slot := slot % framesOf (zoneOf band) }
      if d.calHolds p || !(d.calPk p).ready then d
      else if d.overBand p layer band 16 then ((d.setReadRev p (some r)).spotsIdle p).spotsRun p
      else if d.svoState p == 5 || d.svoState p == 2 then
        ((d.setReadRev p (some r))).seek p layer (32 * band + 16)
      else d

/-- A read revolution of a band, for READ, re-read, rebuild or probe (R53). -/
def execBandReadStart (p : Pk) (layer : Fin 4) (band slot : Nat) (s : State) : Host.Outcome State Fault Refusal :=
  State.runUnit 4 s fun d => d.bandRead p layer band slot

/-! ## Burns -/

/-- The trims of the write levels, changed only between bands (Table 9-2, R346). -/
def Dev.levelTrims (d : Dev) (p layer zone : Nat) : Dev :=
  match d.calValue qStrategy p layer zone with
  | none => d
  | some v => (List.range 32).foldl (fun d i => d.ctl p (.trim (0x40 + i) (v.getD (21 + i) 0).toNat)) d

/-- write_scale of a layer and zone as its set gives it. -/
def Dev.scaleSet (d : Dev) (p layer zone : Nat) : Int :=
  ((d.calValue qScale p layer zone).getD [Config.calDefault qScale 0]).headD 0

/-- write_scale of a layer and zone: the set's value moved by the steps of R348. -/
def Dev.writeScale (d : Dev) (p layer zone : Nat) : Int :=
  d.scaleSet p layer zone + 256 * (mget (d.calPk p).ws (0, 0) (layer * 24 + zone)).1

/-- Reads the pages that hold the LBs of a band's stripes out of the flash for its burn (Table 1-2); what the reads bring is
in the band's words, and what they could not bring is the operand of the row (R224, R514). -/
def Dev.readOut (d : Dev) (vol side layer band : Nat) : Dev :=
  match d.volSet vol with
  | none => d
  | some s =>
    let pages := d.sal.idx.filterMap fun e =>
      if e.vol == srcVol vol && !e.mirror then
        match d.stripe vol (s.place e.lba).1 with
        | some t =>
          if caSide t.slot == side && caLayer t.slot == layer && caBand t.slot == band then some (e.lsn, e.slot / 4) else none
        | none => none
      else none
    pages.eraseDups.foldl (fun d q => d.readPage q.1 q.2 .burn) d

/-- The staged LBs of a band's stripes whose seal fails as their cluster is formed (Table 15-3). -/
def Dev.burnBad (d : Dev) (vol side layer band : Nat) : List Nat :=
  match d.volSet vol with
  | none => []
  | some s => d.sal.idx.filterMap fun e =>
    if e.vol != srcVol vol || e.mirror then none
    else
      match d.stripe vol (s.place e.lba).1, d.stagedBlock e.vol e.lba with
      | some t, some b =>
        if caSide t.slot == side && caLayer t.slot == layer && caBand t.slot == band && !stagedOk e.vol e.lba e.gen b then
          some e.lba
        else none
      | _, _ => none

/-- The channels of revolution 0 of a band's burn run (R127). -/
def Dev.rowRuns (d : Dev) (p layer band : Nat) : Bool :=
  (List.range 8).all fun w =>
    let g := 32 * p + 4 * w
    let x := d.spot g
    d.mode g != 0 && !x.park && x.draw && x.home == [sideOf p, layer, band, 4 * w, d.svoSpeed p]

/-- Starts the burn of a band (R224): the ledger's record is journalled first, and the pickup seeks the first track. -/
def Dev.burnStart (d : Dev) (p sp vol m layer band : Nat) (x : Disc) (cl : List (Nat × List (List Byte))) : Dev :=
  let side := sideOf p
  let d := d.journalForced (recBandStart x.id (packFrame side layer band 0 0))
  let d := d.putDisc sp (some { x with bands := mset x.bands 0 (bandKey side layer band) 4 })
  let d := d.levelTrims p layer (zoneOf band)
  let d := d.wr Reg.CAL_PK_WS_WS (d.writeScale p layer (zoneOf band)).toNat p
  let par := match d.set.prepass.find? (fun q => q.pickup == p && q.disc == x.id && q.layer == layer && q.band == band) with
    -- a cluster that has changed since the pre-pass is encoded anew
    | some q => q.parity.filter fun r => cl.any fun c => c.1 == r.1 && q.words.contains c
    | none => []
  let d : Dev := { d with set := { d.set with prepass := d.set.prepass.filter fun q => q.pickup != p } }
  let b : Burn :=
    { disc := x.id, vol := vol, member := m, side := side, layer := layer, band := band,
      spare := isSpareBand band, slot0 := none, rev := 0, on := false, clusters := cl, parity := par,
      spots := List.replicate 8 emptyWSpot, failed := [], passed := [], flips := 0 }
  let d := d.setBurn p (some b)
  let d := d.setReadRev p none
  let d := d.wr Reg.SVO_STATE_BURN 1 p
  if d.overBand p layer band 16 then
    -- the channels run already where the jump from the last band started them; else the position is verified anew
    if d.rowRuns p layer band then d
    else
      let d := d.setSvo p { d.svo p with mark := applyAt (d.port p).sf }
      ((d.setVerified p false).spotsIdle p).spotsRun p
  else d.seek p layer (32 * band + 16)

/-- Whether a pickup may start a burn: at burn speed, calibrated, on track or focused, not under a hold. -/
def Dev.mayBurn (d : Dev) (p : Nat) : Bool :=
  (d.burn p).isNone && d.portUp p && d.owns p && d.svoSpeed p == 1 && d.flag Reg.MOT_SP_STATUS_AT_SPEED (spindleOf p)
    && (d.svoState p == 5 || d.svoState p == 2) && !d.clk.powerFail && !d.flag Reg.LCS_STATUS_TAMPER_HOLD
    && (d.calPk p).ready

/-- The home sends the clusters of a band that the peer's members burn (R542). -/
def Dev.sendPeerBand (d : Dev) (vol side layer band : Nat) : Dev :=
  match d.volSet vol with
  | none => d
  | some s =>
    if !s.cross || !s.home then d
    else
      (List.range s.w).foldl (fun d m =>
        let q := s.members.getD m (0, 0)
        if q.2 = d.peerNode && d.peerNode != d.node then
          (d.bandClusters s vol m side layer band).foldl (fun d c =>
            d.ner (.cluster q.1 (BitVec.ofNat 32 (packCluster side layer band c.1)) c.2)) d
        else d) d

/-- The write channel starts a band once every cluster is presented and the ledger records the band blank (R224);
`bad` are the LBs whose staged copies turn out unreadable as they are fetched (R514), and every staged LB is checked against
its seal as its cluster is formed (Table 15-3). For a band that waits, a spindle in
OFF is started (R35). -/
def execBandBurnStart (p : Pk) (bad : List Nat) (s : State) : Host.Outcome State Fault Refusal :=
  State.runUnit 6 s fun d =>
    match d.disc (spindleOf p) with
    | none => d
    | some x =>
      if !d.mayBurn p then
        if (d.presented p x).isSome then d.ioSpin (spindleOf p) (d.rd Reg.MOT_SP_SPEED_BURN_RPM (spindleOf p)) else d
      else
        match d.presented p x with
        | none => d
        | some (vol, m, layer, band, cl) =>
          if d.calHolds p then d.calSuspend p
          -- a drift run that is due comes first, at the band boundary (Table 9-3)
          else if (d.calPk p).due != 0 && (d.calPk p).run.isNone then d
          else if !bad.isEmpty then (bad.foldl (fun d a => d.stagedBad (srcVol vol) a) d).reap
          else if !(d.burnBad vol (sideOf p) layer band).isEmpty then
            -- the stripe waits for the rewrite
            ((d.burnBad vol (sideOf p) layer band).foldl (fun (d : Dev) a =>
              (d.sealFail Reg.SET_ERR_SEAL_BURN (srcVol vol) a).stagedBad (srcVol vol) a) d).reap
          else ((d.sendPeerBand vol (sideOf p) layer band).readOut vol (sideOf p) layer band).burnStart p
            (spindleOf p) vol m layer band x cl

/-- The write spots start a revolution at a frame slot (R225): revolution 0 fixes the band's start slot, and
revolution i starts at slot s_0 + i. -/
def Dev.revolutionStart (d : Dev) (p slot : Nat) : Dev :=
  match d.burn p with
  | none => d
  | some b =>
    let z := zoneOf b.band
    let fz := framesOf z
    if b.on || decide (4 ≤ b.rev) || d.svoState p != 5 || !d.verified p then d
    else if b.slot0.isSome && (b.slot0.getD 0 + b.rev) % fz != slot % fz then d
    else
      let b := { b with slot0 := some (b.slot0.getD (slot % fz)), on := true, spots := List.replicate 8 emptyWSpot }
      let d := d.setBurn p (some b)
      (List.range 8).foldl (fun d w =>
        let t := b.track w
        d.writeStart p w (slot % fz) (d.writeReaches p w z (32 * b.band + t) (slot % fz * frameBits))) d

/-- A revolution of a burn starts (R225). -/
def execRevolutionStart (p : Pk) (slot : Nat) (s : State) : Host.Outcome State Fault Refusal :=
  s.run fun d => d.revolutionStart p slot

/-- Writing resumes with WRITE START at a frame slot for which write_en and the symbols are ready (R227, R232). The
slots skipped stay blank and fail. -/
def execWriteResume (p : Pk) (w : Fin 8) (slot : Nat) (s : State) : Host.Outcome State Fault Refusal :=
  s.run fun d =>
    match d.burn p with
    | none => d
    | some b =>
      let x := b.ws w
      let z := zoneOf b.band
      let fz := framesOf z
      if !b.on || !x.off || !(d.svo p).we || (d.port p).lostDn.getLsbD (w.val / 4) then d
      else
        let from_ := x.enc
        let upTo := (slot + fz - b.slotAt 0) % fz
        if upTo < from_ then d
        else
          let skipped := (List.range (upTo - from_)).map fun i => b.slotAt (from_ + i)
          let d := skipped.foldl (fun d f => d.drawFail p (b.addr (b.track w) f) 1) d
          d.writeStart p w (slot % fz) (d.writeReaches p w z (32 * b.band + b.track w) (slot % fz * frameBits))

/-! ## Harvest and write scale (R340, R348) -/

/-- What a band read gives for the read seed, at the scale of its registers, and the joint coefficients of a spot's
scope (R331). -/
def Dev.seedOf (d : Dev) (g : Nat) : List Int × List Int :=
  let x := d.spot g
  (([x.gA, x.betaA] ++ x.eqA ++ x.xtA).map (· / 2 ^ 16), d.jointTaps g ++ [d.sigma2 g])

/-- Agreement of two runs of a quantity (Table 9-5), field by field. The table does not name S_PK and FACQ_WIN, which take TOL_FOC
with their focus position, nor the sled track reference, which takes TOL_GAIN (DESIGN CHOICE, log entry 135). -/
def Dev.agree (d : Dev) (q : Nat) (a b : List Int) : Bool :=
  let gain (x y : Int) : Bool := decide (512 * (x - y).natAbs ≤ d.rd Reg.CAL_TOL_TOL_GAIN * (x + y).natAbs)
  let tap (x y : Int) : Bool := decide ((x - y).natAbs ≤ d.rd Reg.CAL_TOL_TOL_TAP)
  let foc (x y : Int) : Bool := decide ((x - y).natAbs ≤ d.rd Reg.CAL_TOL_TOL_FOC * 65536)
  let tilt (x y : Int) : Bool := decide ((x - y).natAbs ≤ 4 * d.rd Reg.CAL_TOL_TOL_FOC * 65536)
  let ok (i : Nat) (x y : Int) : Bool :=
    if q = qOffsets || q = qSphere then decide ((x - y).natAbs ≤ 2)
    else if q = qFocus || q = qTrkOfs then foc x y
    else if q = qFocOfs then (if i = 0 then foc x y else tilt x y)
    else if q = qYawOfs then tilt x y
    else if q = qSeed then (if i = 0 then gain x y else tap x y)
    else if q = qJoint then
      (if i + 1 = a.length then decide (8 * (x - y).natAbs ≤ (x + y).natAbs) else tap x y)
    else gain x y
  a.length == b.length && (List.zip (List.range a.length) (List.zip a b)).all fun r => ok r.1 r.2.1 r.2.2

/-- The mean of two runs. -/
def meanOf (a b : List Int) : List Int := List.zipWith (fun x y => divR (x + y) 2) a b

/-- How far two runs lie apart. -/
def runGap (a b : List Int) : Nat := ((List.zipWith (fun x y => (x - y).natAbs) a b).sum)

/-- The first field in which two runs differ most. -/
def worstField (a b : List Int) : Nat :=
  ((List.range a.length).foldl (fun (m : Nat × Nat) i =>
    let g := (a.getD i 0 - b.getD i 0).natAbs
    if m.2 < g then (i, g) else m) (0, 0)).1

/-- The closest of the three pairs of runs. -/
def closestPair (a b c : List Int) : List Int × List Int :=
  if runGap a b ≤ runGap a c && runGap a b ≤ runGap b c then (a, b)
  else if runGap a c ≤ runGap b c then (a, c) else (b, c)

/-- A quantity has failed: the previous points are kept (R345). -/
def Dev.calDisagree (d : Dev) (p : Nat) (a b c : List Int) (key : Nat) : Dev :=
  let i := worstField a b
  (d.calErr Reg.CAL_ERR_DISAGREE p (some key) (if a.length = 1 then 0xFFFF else i)
    [a.getD i 0, b.getD i 0, c.getD i 0]).bump Reg.CAL_CNT_DISAGREE

/-- One harvested value of a scope (R344, R345): with the harvest before it, at a temperature within TSEP, it forms the two
runs, and where they disagree the next such harvest is the third. -/
def Dev.harvestOne (d : Dev) (p q key : Nat) (v : List Int) : Dev :=
  let y := d.calPk p
  let t := d.calTemp p
  let kept := (mget y.harvest [] key).filter fun e => decide ((t - e.1).natAbs ≤ d.rd Reg.CAL_CFG_TSEP)
  let keep (l : List (Int × List Int)) : Dev := d.setCalPk p { y with harvest := mset y.harvest [] key l }
  match kept with
  | [] => keep [(t, v)]
  | [a] => if d.agree q a.2 v then (keep []).calStore p key t (meanOf a.2 v) else keep [a, (t, v)]
  | a :: b :: _ =>
    let (u, w) := closestPair a.2 b.2 v
    if d.agree q u w then (keep []).calStore p key t (meanOf u w) else (keep []).calDisagree p a.2 b.2 v key

/-- A band read whose every spot has read its whole track and ended in TRACK, with no spot erasing more than 1 % of its
positions, harvests the read seed, h and σ² of both track types, from spots 16 and 15 (R340). -/
def Dev.harvest (d : Dev) (p : Nat) : Dev :=
  let clean := (spotsOf p).all fun g => (d.spot g).fin == 1 && decide (100 * (d.spot g).erasedN ≤ (d.spot g).placed)
  if !d.flag Reg.CAL_CFG_HARVEST_EN || !clean then d
  else
    [32 * p + 16, 32 * p + 15].foldl (fun d g =>
      let h (i : Nat) : Nat := (d.spot g).home.getD i 0
      let land := if isLand (32 * h 2 + h 3) then 1 else 0
      let (seed, joint) := d.seedOf g
      let d := d.harvestOne p qSeed (calKey qSeed p (h 1) (zoneOf (h 2)) (h 4) land) seed
      d.harvestOne p qJoint (calKey qJoint p (h 1) (zoneOf (h 2)) (h 4) land) joint) d

/-- Whether a read revolution, or the read-back of a burn revolution, is still in progress on some of the spots: a channel
that keeps its position has not come back to where its revolution began (R53, R225). -/
def Dev.stillReads (d : Dev) (l : List Nat) : Bool := l.any fun g => d.mode g == 2 || d.mode g == 3

/-- The pre-pass of the band that will be presented next, during the burn of this one (R224): the parity frames of every
cluster go into host-lent memory. -/
def Dev.prepass (d : Dev) (p : Nat) : Dev :=
  match d.disc (spindleOf p) with
  | none => d
  | some x =>
    match d.presented p x with
    | none => d
    | some (_, _, layer, band, cl) =>
      let l := d.set.prepass.filter fun q => q.pickup != p
      let q : PrePass := ⟨p, x.id, layer, band, cl, cl.map fun c => (c.1, outerParity c.2)⟩
      { d with set := { d.set with prepass := l ++ [q] } }

/-- The row moves on after a burn revolution (R225): one track, or after revolution 3 the 29 tracks to the next band,
while the layer has one. -/
def Dev.burnStep (d : Dev) (p : Nat) (b : Burn) : Dev :=
  let d := d.setSvo p { d.svo p with tries := 0 }
  let n := if b.rev + 1 < 4 then 1 else 29
  if b.rev + 1 < 4 || decide (b.band + 1 < bandCount) then
    ((d.setTarget p b.layer (d.svoTarget p + n)).spotsIdle p).move p (n : Nat) true
  else d.spotsIdle p

/-- The write-scale step after a verified band (R348). -/
def Dev.writeScaleStep (d : Dev) (p : Nat) (b : Burn) : Dev :=
  if !d.flag Reg.CAL_CFG_WS_EN || b.passed.isEmpty then d
  else
    let z := zoneOf b.band
    let key := b.layer * 24 + z
    let y := d.calPk p
    let (n, quiet) := mget y.ws (0, 0) key
    let fm := d.rd Reg.WCH_DRAW_FLIP_MAX
    let cnt := b.passed.length
    let step : Int := if fm * cnt < 4 * b.flips then 1 else if 16 * b.flips < fm * cnt then -1 else 0
    let v := d.scaleSet p b.layer z
    let n' := if 16 * 256 * (n + step).natAbs ≤ v.natAbs then n + step else n
    if n' = n then
      if quiet + 1 = 2 then
        let v := d.writeScale p b.layer z
        (d.calStore p (calKey qScale p b.layer z) (d.calTemp p) [v]).setCalPk p { y with ws := mset y.ws (0, 0) key (0, 0) }
      else d.setCalPk p { y with ws := mset y.ws (0, 0) key (n, quiet + 1) }
    else d.setCalPk p { y with ws := mset y.ws (0, 0) key (n', 0) }

/-- The stripe whose cluster of member `m` lies at a packed cluster address of a burn. -/
def Dev.burnStripe (d : Dev) (b : Burn) (c : Nat) : Option Nat :=
  let a := packCluster b.side b.layer b.band c
  if b.spare then
    (d.set.remaps.find? fun r => r.vol == b.vol && r.member == some b.member && r.new == a).map (·.stripe)
  else match d.volSet b.vol with
    | some s => d.stripeOfSlot s b.vol a
    | none => none

/-- The band of a burn has been written and every frame judged (R230, R231): clusters with too many failed frames
take spare clusters, the others are burned, and write_scale takes its step. Frames not handed over have failed. -/
def Dev.bandEnd (d : Dev) (p : Nat) : Dev :=
  match d.burn p with
  | none => d
  | some b0 =>
    if b0.rev < 4 then d
    else
      let z := zoneOf b0.band
      let d := (List.range 32).foldl (fun d t => (List.range (framesOf z)).foldl (fun d f =>
        match d.burn p with
        | some b' => if b'.passed.contains (b0.addr t f) then d else d.drawFail p (b0.addr t f) 1
        | none => d) d) d
      let b := (d.burn p).getD b0
      let bad := b.toReplace (d.rd Reg.WCH_CFG_DRAW_TOL)
      let sp := (d.spindleOfDisc b.disc).getD (spindleOf p)
      let d := match d.disc sp with
        | some x => d.putDisc sp (some { x with bands := mset x.bands 0 (bandKey b.side b.layer b.band) (if bad.isEmpty then 1 else 2) })
        | none => d
      let home := match d.volSet b.vol with | some s => s.home | none => false
      let d := b.clusters.foldl (fun d q =>
        match d.burnStripe b q.1 with
        | none => d
        | some n =>
          let a := packCluster b.side b.layer b.band q.1
          if bad.contains q.1 then
            d.replaceBurned sp b.disc b.vol b.member n a q.2
          else if home then d.burnedBy b.vol n b.member
          else
            let t := (d.stripe b.vol n).getD (Stripe.fresh a)
            let t := { t with burned := if t.burned.testBit b.member then t.burned else t.burned + 2 ^ b.member }
            (d.putStripe b.vol n (some t)).ner (.burnReport [recStripe 1 b.vol [(28, n), (60, a), (92, b.member)]])) d
      let d := d.dropGuests b.disc b.side b.layer b.band
      let d := d.writeScaleStep p b
      (d.setBurn p none).wr Reg.SVO_STATE_BURN 0 p

/-- A band burned in four revolutions finishes verification (R231). -/
def execBandBurnEnd (p : Pk) (s : State) : Host.Outcome State Fault Refusal := s.run fun d => d.bandEnd p

end Sys2Proof.Machine
end

