-- ==== Sys2Proof/Machine/Calibration.lean ====
section
/-! DEFINITION. Calibration runs and the CALIBRATE command (R331 to R345). -/

namespace Sys2Proof.Machine

open Sys2Proof

/-! ## The steps of a run (Tables 9-1 and 9-4) -/

/-- A step: quantity, layer, zone, speed and track type, 0 where the quantity's scope names none. -/
def calStep (q : Nat) (layer zone speed land : Nat := 0) : List Nat := [q, layer, zone, speed, land]

/-- The key of a step's set. -/
def stepKey (p : Nat) (s : List Nat) : Nat :=
  calKey (s.getD 0 0) p (s.getD 1 0) (s.getD 2 0) (s.getD 3 0) (s.getD 4 0)

/-- The steps of one layer on a focused pickup. -/
def layerSteps (speed layer : Nat) : List (List Nat) :=
  [calStep qGains layer 0 0 0, calStep qGains layer 0 0 1, calStep qReadPower layer, calStep qSum layer,
   calStep qTrkOfs layer 0 0 0, calStep qTrkOfs layer 0 0 1, calStep qFocOfs layer 0, calStep qFocOfs layer 12,
   calStep qFocOfs layer 23, calStep qYawOfs layer, calStep qJumpAmp layer 0 speed]

/-- The steps that read the measurement band of each zone of a layer. -/
def seedSteps (speed layer : Nat) : List (List Nat) :=
  (List.range 24).flatMap fun z =>
    [calStep qSeed layer z speed 0, calStep qSeed layer z speed 1, calStep qJoint layer z speed 0, calStep qJoint layer z speed 1]

/-- A full calibration in the order of Table 9-4. -/
def fullSteps (speed : Nat) : List (List Nat) :=
  [calStep qOffsets] ++ (List.range 4).map (calStep qFocus ·) ++ (List.range 4).map (calStep qSphere ·)
    ++ (List.range 4).map (calStep qKfe ·)
    ++ ((List.range 4).flatMap fun l => layerSteps speed l ++ seedSteps speed l) ++ [calStep qSled]

/-- A drift run: the servo quantities of the current layer and the read seed of the current zone (Table 9-3). The quantities of
focus acquisition, which a sweep measures, are not among them (DESIGN CHOICE, log entry 136). -/
def driftSteps (speed layer zone : Nat) : List (List Nat) :=
  calStep qKfe layer :: ((layerSteps speed layer).filter fun s => s.headD 0 != qReadPower)
    ++ [calStep qSeed layer zone speed 0, calStep qSeed layer zone speed 1]

/-! ## The measurement band (R333) -/

/-- The recorded user band of a zone that is nearest to band-in-zone 180, from the disc ledger. -/
def Dev.measureBand (d : Dev) (p layer zone : Nat) : Option Nat :=
  match d.disc (spindleOf p) with
  | none => none
  | some x =>
    let side := sideOf p
    let cand := (List.range 361).filterMap fun i =>
      let b := 369 * zone + i
      let st := x.band side layer b
      if (st == 1 || st == 2) && !isLedgerBand layer b then some b else none
    let gap (b : Nat) : Nat := ((b : Int) - (369 * zone + 180)).natAbs
    match cand with
    | [] => none
    | a :: r => some (r.foldl (fun m b => if gap b < gap m then b else m) a)

/-- Whether a step reads recorded data, the equaliser's errors, the canceller's taps or the adapted state, and so a measurement
band (R333, Table 9-1). -/
def readsBand (s : List Nat) : Bool := [qFocOfs, qYawOfs, qSeed, qJoint].contains (s.headD 0)

/-- Whether a step takes the adapted state after a band read (Table 9-1). -/
def readsState (s : List Nat) : Bool := [qSeed, qJoint].contains (s.headD 0)

/-- The measurement band of a step. YAW_OFS has no zone: it takes the first of 0, 12 and 23 that has a band (DESIGN CHOICE, log
entry 137). -/
def Dev.stepBand (d : Dev) (p : Nat) (s : List Nat) : Option Nat :=
  let l := s.getD 1 0
  if s.headD 0 = qYawOfs then ([0, 12, 23].filterMap fun z => d.measureBand p l z).head? else d.measureBand p l (s.getD 2 0)

/-- Skips the steps of zones without a recorded user band, with NO_BAND for each zone (R333). -/
def Dev.calSkip (d : Dev) (p : Nat) : List (List Nat) → Dev × List (List Nat)
  | [] => (d, [])
  | s :: r =>
    if readsBand s && (d.stepBand p s).isNone then
      let same := match r with
        | s' :: _ => readsBand s' && s'.getD 1 0 == s.getD 1 0 && s'.getD 2 0 == s.getD 2 0
        | [] => false
      Dev.calSkip (if same then d else d.calErr Reg.CAL_ERR_NO_BAND p (some (stepKey p s))) p r
    else (d, s :: r)

/-! ## Runs -/

/-- A run of calibration ends: t_cal is taken, and each CALIBRATE that it served completes with its last pickup (R340). A trigger
that came during it stays due. -/
def Dev.calRunEnd (d : Dev) (p : Nat) (full : Bool) : Dev :=
  let y := d.calPk p
  let served := match y.run with | some r => r.serves | none => []
  let d := d.setCalPk p { y with run := none, ready := (y.ready || full) && y.due != 2 }
  let busy := d.rd Reg.CAL_STATUS_BUSY
  let d := d.wr Reg.CAL_STATUS_BUSY (busy - (busy &&& 2 ^ p))
  let d := d.wrS Reg.CAL_PK_TEMP_LAST (d.calTemp p) p
  let d := d.bump Reg.CAL_CNT_RUNS
  -- after a takeover the engine seeks back to T* (R266)
  let d := match (d.svo p).back with
    | some (l, t) => if full && (d.svoState p == 2 || d.svoState p == 5) then (d.setSvo p { d.svo p with back := none }).seek p l t else d
    | none => d
  served.foldl (fun d c =>
    match d.ctx c with
    | some k =>
      match k.wait with
      | .calib m => if m = 2 ^ p then d.complete c St.success else if m.testBit p then d.await c (.calib (m - 2 ^ p)) else d
      | _ => d
    | none => d) d

/-- At the end of a full calibration a set for 7,500 rpm without points is created from the 10,000 rpm set of the
same scope (R339). -/
def Dev.calCopySpeed (d : Dev) (p : Nat) : Dev :=
  let mine := d.cal.sets.filter fun e => e.1 / 96 / 4 % 16 == p && e.1 / 2 % 2 == 0
    && [qJumpAmp, qSeed, qJoint].contains (e.1 / 96 / 4 / 16)
  mine.foldl (fun d e =>
    if (d.calPoints (e.1 + 2)).isEmpty && !e.2.isEmpty then
      d.calKeep p (e.1 + 2) e.2
    else d) d

/-- Commits what a run has found, each set at the present temperature (R337), and stores it; a full one also for the other speed
(R339). What is in use moves to the new values by the steps of R346. -/
def Dev.calCommit (d : Dev) (p : Nat) (r : CalRun) : Dev :=
  let d := usedFields.foldl (fun d q => d.useNow p q.1 q.2) d
  let d := r.found.foldl (fun d e => d.calStore p e.1 (d.calTemp p) e.2) d
  (if r.full then d.calCopySpeed p else d).evaluate p

/-- Spot 16 goes to a band that a step reads, and its channels run there. -/
def Dev.calBandGo (d : Dev) (p layer band : Nat) : Dev :=
  match d.disc (spindleOf p) with
  | none => d
  | some x =>
    let d := d.setReadRev p (some { disc := x.id, side := sideOf p, layer := layer, band := band, slot := 0 })
    if d.overBand p layer band 16 then (d.spotsIdle p).spotsRun p else d.seek p layer (32 * band + 16)

/-- The pickup goes to where a step measures (Table 9-1): to its measurement band, to its layer with tracking open for the
crossing gains, else on track; the sweep of a full run is made in OFF with the read laser on at the stored power, or 1/4 of the
maximum (Table 9-4). -/
def Dev.calGo (d : Dev) (p : Nat) (s : List Nat) : Dev :=
  let st := d.svoState p
  let layer := s.getD 1 0
  let q := s.headD 0
  if st = 0 then
    if q = qFocus then d.setPower p (((d.calValue qReadPower p 0).getD [calDefaultOf qReadPower 0]).headD 0) else d
  else if st != 2 && st != 5 then d
  else if readsBand s then
    match d.stepBand p s with
    | some b => d.calBandGo p layer b
    | none => d
  else if q = qSled then (if st = 5 then d else d.seek p (d.svoLayer p) (d.svoTarget p))
  else if d.svoLayer p != layer then d.seek p layer (d.svoTarget p)
  else if q = qGains then
    if st = 2 then d
    else
      let d := d.leaveTrack p 2
      d.setSvo p { d.svo p with phase := .none, held := true }
  else if st = 5 || q = qKfe then d
  else d.seek p layer (d.svoTarget p)

/-- Prepares the step in hand of a run; after the sweep of a full one layer 0 is acquired (Table 9-4). -/
def Dev.calPrepare (d : Dev) (p : Nat) (r : CalRun) (s : List Nat) : Dev :=
  if r.full && d.calSwept p && d.svoState p == 0 then (if (d.svo p).want.isNone then d.facqAsk p 0 else d) else d.calGo p s

/-- The remaining steps of a run: the next is prepared, or the run ends with its commit. -/
def Dev.calNext (d : Dev) (p : Nat) (rest : List (List Nat)) : Dev :=
  let d := (d.setReadRev p none).spotsIdle p
  let (d, rest) := d.calSkip p rest
  match (d.calPk p).run with
  | none => d
  | some r =>
    let r := { r with steps := rest, runs := [], read := [], paused := r.asked }
    let d := d.setCalPk p { d.calPk p with run := some r }
    match rest with
    | [] => (d.calCommit p r).calRunEnd p r.full
    -- a suspended run goes on at the next idle (R341)
    | s :: _ => if r.asked then d else d.calPrepare p r s

/-- Whether the pickup is where a step measures (Tables 9-1 and 9-4): dark samples in OFF with every spot IDLE (R334), the
focus sweep in OFF, band steps over their measurement band, crossings with tracking open, the sled on a verified track, the
rest on track on the step's layer. -/
def Dev.calPlaced (d : Dev) (p : Nat) (s : List Nat) : Bool :=
  let st := d.svoState p
  let q := s.headD 0
  let here := d.svoLayer p == s.getD 1 0
  if q = qOffsets then st == 0 && (spotsOf p).all fun g => d.mode g == 0
  else if q = qFocus || q = qSphere then st == 0
  else if q = qKfe then st == 0 || ((st == 2 || st == 5) && here)
  else if readsBand s then
    match d.stepBand p s with | some b => d.overBand p (s.getD 1 0) b 16 | none => false
  else if q = qSled then st == 5 && d.verified p
  else if q = qGains then st == 2 && here
  else st == 5 && here

/-- The conditions of a run: port UP, ownership and speed; a full run takes the pickup from any state but FAULT, a
drift run comes at the next idle of a focused pickup. -/
def Dev.calMayRun (d : Dev) (p : Nat) (full : Bool) : Bool :=
  d.portUp p && d.owns p && d.flag Reg.MOT_SP_STATUS_AT_SPEED (spindleOf p) && (d.burn p).isNone
    && (d.readRev p).isNone && d.svoState p != 7 && !d.flag Reg.LCS_STATUS_TAMPER_HOLD && (full || d.svoState p == 2 || d.svoState p == 5)

/-- Whether a full calibration is in progress (R341). -/
def Dev.calFull (d : Dev) (p : Nat) : Bool := match (d.calPk p).run with | some r => r.full | none => false

/-- Whether a command on the pickup waits for a full calibration: one in progress, or one that is due and can run (R340, R341). -/
def Dev.calFirst (d : Dev) (p : Nat) : Bool := d.calFull p || ((d.calPk p).due == 2 && d.calMayRun p true)

/-- A run begins, for the commands that wait for one: a full one with both lasers off. -/
def Dev.calBegin (d : Dev) (p : Nat) (full : Bool) : Dev :=
  let d := if full && d.svoState p != 0 then d.svoOff p else d
  let d := (d.wr Reg.CAL_STATUS_BUSY (d.rd Reg.CAL_STATUS_BUSY ||| 2 ^ p)).wr Reg.CAL_PK_TEMP_PENDING 0 p
  let sp := d.svoSpeed p
  let steps := if full then fullSteps sp else driftSteps sp (d.svoLayer p) (d.svoZone p)
  let serves := d.waiting fun w => match w with | .calib m => m.testBit p | _ => false
  let d := d.setCalPk p { d.calPk p with
    due := 0
    run := some { full := full, steps := steps, runs := [], asked := false, paused := false, found := [], read := [], serves := serves } }
  d.calNext p steps

/-- A run in progress whose pickup is idle elsewhere than its step measures goes there again. -/
def Dev.calAgain (d : Dev) (p : Nat) (r : CalRun) : Dev :=
  match r.steps with
  | s :: _ => if (d.svo p).phase == .none && !d.calPlaced p s then d.calPrepare p r s else d
  | [] => d

/-- A pending run starts, or a suspended one goes on, at the next idle or band boundary (R340, R341). -/
def execCalibrationStart (p : Pk) (s : State) : Host.Outcome State Fault Refusal :=
  State.runUnit 9 s fun d =>
    let y := d.calPk p
    match y.run with
    | some r =>
      if !r.paused then d.calAgain p r
      else if d.calMayRun p r.full then
        (d.setCalPk p { y with run := some { r with asked := false } }).calNext p r.steps
      else d
    | none =>
      if y.due = 0 || !d.calMayRun p (y.due == 2) then d
      else
        -- both axes are homed before a full run (R266, R320, R571)
        let away := [2 * p.val, 2 * p.val + 1].filter fun a => !d.homed a
        if y.due = 2 && !away.isEmpty then
          (away.filter fun a => (d.axis a).kind != 4 && (d.axis a).kind != 5 && !(d.axis a).wait).foldl (fun d a => d.home a) d
        else d.calBegin p (y.due == 2)

/-! ## Measurements (R344, R345) -/

/-- The mean of two agreeing runs of a step is kept for the commit. In a full run it becomes the target of what is in use, and
detector offsets are written (Table 9-4). -/
def Dev.calFound (d : Dev) (p : Nat) (s : List Nat) (a b : List Int) : Dev :=
  let v := meanOf a b
  let y := d.calPk p
  match y.run with
  | none => d
  | some r =>
    let q := s.headD 0
    let d := usedFields.foldl (fun d q => d.useNow p q.1 q.2) d
    let d := d.setCalPk p { d.calPk p with run := some { r with found := mset r.found [] (stepKey p s) v } }
    if !r.full then d
    else if q = qOffsets then (d.setCalPk p { d.calPk p with aim := v, codes := [] }).codesStep p
    else if usedFields.any (fun e => e.1 == q) && s.getD 1 0 == d.svoLayer p then
      (List.range v.length).foldl (fun d i => d.retarget p q i) d
    else d

/-- The two or three runs of a step so far: its outcome (R344, R345), none where a third is needed. -/
def Dev.calJudge (d : Dev) (p : Nat) (s : List Nat) (runs : List (List Int)) : Option Dev :=
  let q := s.headD 0
  match runs with
  | a :: b :: l =>
    if d.agree q a b then some (d.calFound p s a b)
    else
      match l with
      | [] => none
      | c :: _ =>
        let (u, w) := closestPair a b c
        some (if d.agree q u w then d.calFound p s u w else d.calDisagree p a b c (stepKey p s))
  | _ => none

/-- One run of the step in hand has been measured: two agreeing runs make its result, else a third decides. -/
def Dev.calMeasured (d : Dev) (p : Nat) (v : List Int) : Dev :=
  let y := d.calPk p
  match y.run with
  | none => d
  | some r =>
    match r.steps with
    | [] => d
    | s :: rest =>
      if r.paused || readsState s || !d.calPlaced p s then d
      else
        match d.calJudge p s (r.runs ++ [v]) with
        | some d => d.calNext p rest
        | none => d.setCalPk p { y with run := some { r with runs := r.runs ++ [v] } }

/-- What a revolution over a band has left in the channels of spots 16 and 15, the two track types (Table 9-1): by set, the read
seed and the joint coefficients. -/
def Dev.calReading (d : Dev) (p : Nat) : List (Nat × List Int) :=
  [32 * p + 16, 32 * p + 15].flatMap fun g =>
    let h (i : Nat) : Nat := (d.spot g).home.getD i 0
    let land := if isLand (32 * h 2 + h 3) then 1 else 0
    let (seed, joint) := d.seedOf g
    [(calKey qSeed p (h 1) (zoneOf (h 2)) (h 4) land, seed), (calKey qJoint p (h 1) (zoneOf (h 2)) (h 4) land, joint)]

/-- The steps that the readings of a band decide, in order; the rest. -/
def Dev.calBand (d : Dev) (p : Nat) (read : List (List (Nat × List Int))) : List (List Nat) → Dev × List (List Nat)
  | [] => (d, [])
  | s :: l =>
    let runs := read.filterMap fun r => (r.find? fun e => e.1 == stepKey p s).map (·.2)
    match readsState s, d.calJudge p s runs with
    | true, some d => Dev.calBand d p read l
    | _, _ => (d, s :: l)

/-- A revolution over the measurement band in hand has ended: its reading counts as one run of the zone's seeds and joint
coefficients, and the band is read again until every one is decided (Table 9-4: two revolutions, a third where they disagree). -/
def Dev.calRevolution (d : Dev) (p : Nat) (r : CalRun) : Dev :=
  match r.steps with
  | [] => (d.setReadRev p none).spotsIdle p
  | s :: _ =>
    if !readsBand s then (d.setReadRev p none).spotsIdle p
    else if !readsState s then (d.spotsIdle p).spotsRun p
    else
      let read := r.read ++ [d.calReading p]
      let (d, rest) := d.calBand p read r.steps
      let same := match rest with
        | t :: _ => readsState t && t.getD 1 0 == s.getD 1 0 && t.getD 2 0 == s.getD 2 0
        | [] => false
      match (d.calPk p).run with
      | some r' =>
        if same then
          ((d.setCalPk p { d.calPk p with run := some { r' with steps := rest, read := read } }).spotsIdle p).spotsRun p
        else d.calNext p rest
      | none => d

/-- A revolution ends at its start slot (R225), once every read spot has passed the end of the last frame: in a burn the
row steps on; a read revolution ends with its harvest, and its channels go to IDLE (R127); one of calibration gives its
reading. -/
def execRevolutionEnd (p : Pk) (s : State) : Host.Outcome State Fault Refusal :=
  s.run fun d =>
    match d.burn p with
    | some b =>
      if !b.on || d.stillReads ((List.range 8).map fun w => 32 * p.val + 4 * w) then d
      else
        let d := d.each 8 fun d w => if ((b.ws w).ends.isEmpty && (b.ws w).buf.isEmpty) then d else d.failUnfinished p w
        match d.burn p with
        | none => d
        | some b => ((d.setBurn p (some { b with on := false, rev := b.rev + 1 })).burnStep p b).prepass p
    | none =>
      match d.readRev p with
      | some _ =>
        if d.stillReads (spotsOf p) then d
        else
          match (d.calPk p).run with
          | some r => if r.paused then ((d.harvest p).setReadRev p none).spotsIdle p else d.calRevolution p r
          | none => ((d.harvest p).setReadRev p none).spotsIdle p
      | none => d

/-- A measurement of the step in hand completes (R343). -/
def execCalibrationStepEnd (p : Pk) (vals : List Int) (s : State) : Host.Outcome State Fault Refusal :=
  s.run fun d => d.calMeasured p vals

/-! ## The CALIBRATE command (Table 13-9) -/

/-- A CALIBRATE entry of a kind. -/
def isCalibrate (kind : Nat) (e : Sqe) : Bool := e.op == 0x20 && e.at 41 == kind

/-- The pickups that a CALIBRATE names: one, or for 0xFF every pickup present; none where the field names no
pickup. -/
def Dev.calNamed (d : Dev) (b : Nat) : List Nat :=
  if b = 0xFF then (List.range 16).filter fun p => d.hasPk p else if b < 16 then [b] else []

/-- Serves a CALIBRATE for the pickups named, after the check of R5. -/
def Dev.calServe (d : Dev) (c : Nat) (k : Ctx) (f : Dev → List Nat → Dev) : Dev :=
  match d.calNamed (k.e.at 40) with
  | [] => d.complete c St.invalidField
  | l => if l.all d.hasPk then f d l else d.complete c St.notPresent

/-- As `calServe`, for what waits during a full calibration of one of the pickups (R341). -/
def Dev.calServeIdle (d : Dev) (c : Nat) (k : Ctx) (f : Dev → List Nat → Dev) : Dev :=
  d.calServe c k fun d l => if l.any d.calFull then d.await c .fresh else f d l

/-- Asks for runs on pickups, and waits for their ends. -/
def Dev.calRuns (d : Dev) (c : Nat) (full : Bool) (l : List Nat) : Dev :=
  (l.foldl (fun d p => d.calAsk p full) d).await c (.calib ((l.map (2 ^ ·)).sum))

/-- CALIBRATE full. -/
def execCalibrateFull (c : Nat) (s : State) : Host.Outcome State Fault Refusal :=
  State.runUnit 9 s fun d => d.command c (isCalibrate 0) { b := [40, 41] } fun d k => d.calServe c k fun d l => d.calRuns c true l

/-- CALIBRATE drift. -/
def execCalibrateDrift (c : Nat) (s : State) : Host.Outcome State Fault Refusal :=
  State.runUnit 9 s fun d => d.command c (isCalibrate 1) { b := [40, 41] } fun d k => d.calServe c k fun d l => d.calRuns c false l

/-- Bytes of an entry of the write strategy: layer, zone, track type, 0, LEAD (16), TRAIL (4), COOL, 0, 0, 0, and
the 32 level codes of 4 bytes each. -/
def strategyEntry : Nat := 156

/-- The scope and the values of an entry of the write strategy. -/
def strategyOf (p : Nat) (b : List Byte) : Option (Nat × List Int) :=
  let at_ (i : Nat) : Nat := (b.getD i 0).toNat
  if at_ 0 < 4 && at_ 1 < 24 && at_ 2 < 2 && at_ 3 = 0 then
    some (calKey qStrategy p (at_ 0) (at_ 1) 0 (at_ 2),
      (List.range 21).map (fun i => (at_ (4 + i) : Int))
        ++ (List.range 32).map fun i => (ofBytes ((b.drop (28 + 4 * i)).take 4) : Int))
  else none

/-- The entries of a buffer. -/
def strategyEntries (p : Nat) : Nat → List Byte → List (Option (Nat × List Int))
  | 0, _ => []
  | n + 1, b => strategyOf p (b.take strategyEntry) :: strategyEntries p n (b.drop strategyEntry)

/-- CALIBRATE load write strategy: the entries become points at the present temperature (R332). -/
def execCalibrateLoadStrategy (c : Nat) (buf : List Byte) (s : State) : Host.Outcome State Fault Refusal :=
  State.runUnit 9 s fun d => d.command c (isCalibrate 2) { count := true, data := true, b := [40, 41] } fun d k =>
    d.calServeIdle c k fun d l =>
      let n := k.e.count.toNat
      let all := l.map fun p => (p, strategyEntries p n buf)
      if n = 0 || buf.length < n * strategyEntry || all.any fun q => q.2.any (·.isNone) then d.complete c St.invalidField
      else
        (all.foldl (fun d q => q.2.foldl (fun d e =>
          match e with
          | some (key, v) => d.calStore q.1 key (d.calTemp q.1) v
          | none => d) d) d).complete c St.success

/-- CALIBRATE discard: the sets of the pickups are removed, from the calibration area too. -/
def execCalibrateDiscard (c : Nat) (s : State) : Host.Outcome State Fault Refusal :=
  State.runUnit 9 s fun d => d.command c (isCalibrate 3) { b := [40, 41] } fun d k => d.calServeIdle c k fun d l =>
    let keep (e : Nat × List (Int × List Int)) : Bool := !l.contains (e.1 / 96 / 4 % 16)
    let d : Dev := { d with
      cal := { d.cal with sets := d.cal.sets.filter keep },
      flash := { d.flash with cal := d.flash.cal.filter keep } }
    let d := l.foldl (fun d p =>
      let v := d.rd Reg.CAL_STATUS_VALID
      (d.wr Reg.CAL_STATUS_VALID (v - (v &&& 2 ^ p))).setCalPk p { d.calPk p with harvest := [], ws := [] }) d
    d.complete c St.success

end Sys2Proof.Machine
end

