-- ==== Sys2Proof/Machine/Sorrel.lean ====
section
/-! DEFINITION. The Sorrel ports: lanes, training, cells, ownership, CONTROL commands and the downstream superframe
(R75 to R122, R265, R266, R270, R325, R621). -/

namespace Sys2Proof.Machine

open Sys2Proof

/-! ## Losing the link -/

/-- A pending PEER TAKEOVER learns whether a pickup is granted; with the last answer it completes (R573). -/
def Dev.takeoverAnswer (d : Dev) (p : Nat) (granted : Bool) : Dev :=
  (d.waiting fun w => match w with | .takeover pk _ => pk.testBit p | _ => false).foldl (fun d c =>
    match d.ctx c with
    | some k =>
      match k.wait with
      | .takeover pk sp =>
        let acc := if granted then k.acc0 ||| 2 ^ p else k.acc0
        let pk := pk - 2 ^ p
        let d := d.setCtx c (some { k with acc0 := acc, wait := .takeover pk sp })
        if pk = 0 && sp = 0 then d.complete c (if acc = 0 then St.ownershipDenied else St.success) acc else d
      | _ => d
    | none => d) d

/-- The CONTROL commands that wait on a port fail at once (R116). -/
def Dev.ctlFail (d : Dev) (p : Nat) : Dev :=
  (d.setPort p { d.port p with ctl := [], heldCtl := [] }).takeoverAnswer p false

/-- A WRITE START, whose index belongs to one count of samples (R86). -/
def CtlOp.isStart (op : CtlOp) : Bool := match op with | .writeStart _ _ => true | _ => false

/-- Every index of a port held from before a full training is void (R86): those of its spots, its wedges, its chopper slots, the
WRITE STARTs not yet answered and its write spots, whose bursts are supply misses. -/
def Dev.voidIndices (d : Dev) (p : Nat) : Dev :=
  let d := (spotsOf p).foldl (fun d g => (d.cellsStop g).setSpot g { (d.cellsStop g).spot g with next := none }) d
  let x := d.port p
  let d := d.setPort p { x with
    ctl := x.ctl.filter fun w => !w.op.isStart, heldCtl := x.heldCtl.filter fun q => !q.1.isStart }
  let d := d.setSvo p { d.svo p with syncs := [], wtime := 0, before := none, pps := [], mark := 0, ofsWait := [] }
  let d := d.setChop p { d.chop p with slot := 0, meas := [], dec := [] }
  d.each 8 fun d w => d.supplyMiss p w true

/-- What the loss of a link does to the pickup (R113, R270, R320): spots stall, the engine enters FAULT, a burn and
a calibration run end, and the axes are unhomed. -/
def Dev.linkGone (d : Dev) (p : Nat) : Dev :=
  let d := (d.stallPort p).svoFault p
  let d := ((d.burnEnd p).calAbort p).failPickup p St.mediaError
  (d.unhome (2 * p) St.mediaError).unhome (2 * p + 1) St.mediaError

/-- The port enters FAULT (R113, R116). -/
def Dev.portFault (d : Dev) (p : Nat) : Dev :=
  let d := d.wr Reg.SOR_STATUS_STATE 4 p
  let d := d.setPort p { d.port p with step := 0 }
  ((d.sorErr Reg.SOR_ERR_PORT_FAULT p 0xFF true).ctlFail p).linkGone p

/-- The ACTUATOR cell with hold, with the read_on of the engine's state (R113, R622). R97 and R622 fix only hold, the drives that
it keeps and read_on; that it carries 0 as read_power, write_scale and write_inc is the model's choice (assumption 82). -/
def Dev.holdCell (d : Dev) (p : Nat) : DownCell :=
  .actuator (d.downLanes p) (((d.port p).sf) % 8192) true (d.svoRuns p) false 0 0 0 0 0 0 0 0

/-- Full training starts again (R119). -/
def Dev.retrainFull (d : Dev) (p : Nat) : Dev := ((d.stallPort p).voidIndices p).train p 0

/-- Every upstream lane is lost (R113): the port goes to DOWN, sends hold cells, and trains again while EN is 1. -/
def Dev.portDown (d : Dev) (p : Nat) : Dev :=
  let d := (d.wr Reg.SOR_STATUS_STATE 0 p).sendDown p (d.holdCell p)
  let d := d.linkGone p
  if d.flag Reg.SOR_CFG_EN p then (d.voidIndices p).train p 0 else d

/-- A training has failed (R105): it is retried, or the port enters FAULT. -/
def Dev.trainFail (d : Dev) (p : Nat) : Dev :=
  let d := d.sorErr Reg.SOR_ERR_TRAIN_FAIL p
  let n := (d.port p).tries
  if n < d.rd Reg.SOR_CFG_TRAIN_RETRIES p then d.train p (n + 1) else d.portFault p

/-- SOR_CFG.EN is set (R105): a port that is DOWN trains, from step 8 on with the safe latch clear (R363). -/
def Dev.sorEnable (d : Dev) (p : Nat) : Dev :=
  if d.portState p = 0 && !d.safe && d.rd Reg.HIF_BOOT_STEP == 8 then (d.voidIndices p).train p 0 else d

/-- SOR_CFG.EN is cleared (R620): the port stops in any state other than FAULT. -/
def Dev.sorDisable (d : Dev) (p : Nat) : Dev :=
  if d.portState p = 4 then d
  else
    let d := (d.wr Reg.SOR_STATUS_STATE 0 p).wr Reg.SOR_STATUS_UP_LOCK 0 p
    let d := (d.setPort p { d.port p with step := 0 }).send (.down p .idle)
    (d.ctlFail p).linkGone p

/-! ## Codewords and lanes (R79, R80, R118 to R120) -/

/-- The lanes whose bits are set. -/
def lanesOf (n v : Nat) : List Nat := (List.range n).filter fun i => v.testBit i

/-- Retrains the lanes just lost, each by itself (R118): LANE RETRAIN is sent, and a downstream lane starts with PRBS13. -/
def Dev.laneRetrains (d : Dev) (p : Nat) (up dn : List Nat) : Dev :=
  let d := up.foldl (fun d l => d.ctl p (.laneRetrain l false)) d
  dn.foldl (fun d l => (d.ctl p (.laneRetrain l true)).sendDown p (.training (2 ^ l) 1)) d

/-- Loss of lanes (R80, R113, R118 to R120). -/
def Dev.laneLoss (d : Dev) (p up dn : Nat) : Dev :=
  let st := d.portState p
  if st = 0 || st = 4 || (up = 0 && dn = 0) then d
  else
    let x := d.port p
    let newUp := (lanesOf 8 up).filter fun l => !x.lostUp.getLsbD l
    let newDn := (lanesOf 2 dn).filter fun l => !x.lostDn.getLsbD l
    let d := (newUp ++ newDn.map (8 + ·)).foldl (fun (d : Dev) l => d.sorErr Reg.SOR_ERR_LANE_LOSS p l) d
    let lostUp := x.lostUp ||| BitVec.ofNat 8 up
    let lostDn := x.lostDn ||| BitVec.ofNat 2 dn
    let d := d.setPort p { x with
      lostUp := lostUp, lostDn := lostDn, delin := newUp.foldl (fun l i => l.set i none) x.delin }
    let d := (newUp.flatMap fun l => (List.range 4).map (32 * p + 4 * l + ·)).foldl Dev.cellsStop d
    let lock := d.rd Reg.SOR_STATUS_UP_LOCK p
    let d := d.wr Reg.SOR_STATUS_UP_LOCK (lock - (lock &&& lostUp.toNat)) p
    if st = 1 then d.trainFail p
    else if lostUp = 0xFF#8 then d.portDown p
    else if lostDn = 3#2 || decide (2 < (lanesOf 8 lostUp.toNat).length) then d.retrainFull p
    else
      let d := d.wr Reg.SOR_STATUS_STATE 3 p
      -- the bursts of a lost downstream lane are supply misses (R120)
      let d := newDn.foldl (fun d k => [4 * k, 4 * k + 1, 4 * k + 2, 4 * k + 3].foldl (fun d w => d.supplyMiss p w true) d) d
      if d.flag Reg.SOR_CFG_AUTORETRAIN p then d.laneRetrains p newUp newDn else d

/-- Whether an upstream lane meets R80: eight uncorrectable codewords in a row, or two superframes without an SFS. -/
def Port.laneGone (x : Port) (l : Nat) : Bool := decide (8 ≤ x.runs.getD l 0) || decide (2 ≤ x.quiet.getD l 0)

/-- Lanes are lost (R80): upstream lanes by the port's own counts, downstream lanes as the front-end finds them lost. -/
def execLaneLoss (p : Pk) (up : BitVec 8) (dn : BitVec 2) (s : State) : Host.Outcome State Fault Refusal :=
  s.run fun d =>
    let gone := (lanesOf 8 up.toNat).filter (d.port p).laneGone
    d.laneLoss p (gone.map (2 ^ ·)).sum dn.toNat

/-- The cells of a spot that a codeword carried are lost (R79). Those of a spot whose cells have stopped stay lost: only a cell
that decodes resumes them (R115). -/
def Dev.cellsLost (d : Dev) (p lane : Nat) (cells : List Nat) : Dev :=
  cells.foldl (fun d k =>
    let g := 32 * p + 4 * lane + k
    match (d.spot g).next with
    | some (seq, _) => if d.hushed g then d else d.sampleCell g seq (List.replicate 64 (0x80 : Byte)) true false
    | none => d) d

/-- A codeword on an upstream lane (R79): corrected, or its cells lost; the eighth uncorrectable one in a row loses the lane
(R80). `cells` are the spots in the lane of the SAMPLE cells with a bit in it, in order. -/
def Dev.codeword (d : Dev) (p lane symErrs : Nat) (cells : List Nat) : Dev :=
  let x := d.port p
  if d.portState p = 0 || d.portState p = 4 then d
  else if symErrs ≤ 15 then
    (d.setPort p { x with runs := x.runs.set lane 0 }).bump Reg.SOR_FEC_CORR_COUNT symErrs p
  else
    let n := x.runs.getD lane 0 + 1
    let d := d.setPort p { x with runs := x.runs.set lane n }
    let d := (d.bump Reg.SOR_FEC_UNCORR_COUNT 1 p).sorErr Reg.SOR_ERR_FEC_UNCORR p lane
    let d := d.cellsLost p lane cells
    if n = 8 then d.laneLoss p (2 ^ lane) 0 else d

/-- A codeword is received (R79). -/
def execCodewordReceive (p : Pk) (lane : Fin 8) (symErrs : Nat) (cells : List (Fin 4)) (s : State) : Host.Outcome State Fault Refusal :=
  s.run fun d => d.codeword p lane symErrs (cells.map (·.val))

/-- Whether a lane is retraining by itself. -/
def Dev.laneRetraining (d : Dev) (p : Nat) (down : Bool) (lane : Nat) : Bool :=
  d.portState p == 3 && d.flag Reg.SOR_CFG_AUTORETRAIN p
    && (if down then (d.port p).lostDn.getLsbD lane else (d.port p).lostUp.getLsbD lane)

/-- The retrained lane carries traffic again (R118). -/
def execLaneRetrainDone (p : Pk) (down : Bool) (lane : Fin 8) (s : State) : Host.Outcome State Fault Refusal :=
  s.run fun d =>
    if !d.laneRetraining p down lane then d
    else
      let x := d.port p
      -- the framed step of the lane precedes its traffic
      let d := if down then d.sendDown p (.training (2 ^ lane.val) 4) else d
      let x := if down then { x with lostDn := x.lostDn &&& ~~~(1#2 <<< lane.val) }
        else { x with
          lostUp := x.lostUp &&& ~~~(1#8 <<< lane.val), runs := x.runs.set lane 0, quiet := x.quiet.set lane 0,
          delin := x.delin.set lane none }
      let d := d.setPort p x
      let d := if down then d else d.wr Reg.SOR_STATUS_UP_LOCK (d.rd Reg.SOR_STATUS_UP_LOCK p ||| 2 ^ lane.val) p
      if x.lostUp = 0#8 && x.lostDn = 0#2 then d.wr Reg.SOR_STATUS_STATE 2 p else d

/-- The retrain of a lane has failed: the port retrains in full (R119). -/
def execLaneRetrainTimeout (p : Pk) (down : Bool) (lane : Fin 8) (s : State) : Host.Outcome State Fault Refusal :=
  s.run fun d => if d.laneRetraining p down lane then d.retrainFull p else d

/-! ## Training (Table 3-6) -/

/-- The decision advance D_CH from the round trip in PAM4 symbols of 160/9 ps (R325): `ceil((RTT + 150 ns) / 163.84
ns)`, limited to 3 to 6. -/
def chopperAdvance (rtt : Nat) : Nat := max 3 (min 6 ((rtt * 160000 + 1350000000 + 1474559999) / 1474560000))

/-- Sets D_CH for a round trip (R325). -/
def Dev.setAdvance (d : Dev) (p rtt : Nat) : Dev :=
  let n := chopperAdvance rtt
  let d := d.setPort p { d.port p with chRtt := rtt }
  (d.wrAx Reg.MOT_AX_CFG_D_CH n (2 * p)).wrAx Reg.MOT_AX_CFG_D_CH n (2 * p + 1)

/-- Reports the skew and the round trip, with their bounds of 10 ns and 400 ns (R107, R108). -/
def Dev.timing (d : Dev) (p rtt skew : Nat) : Dev :=
  let d := (d.wr Reg.SOR_TIMING_RTT rtt p).wr Reg.SOR_TIMING_SKEW skew p
  let d := if 22500 < rtt then d.sorErr Reg.SOR_ERR_RTT p else d
  if 562 < skew then d.sorErr Reg.SOR_ERR_SKEW p else d

/-- The peer reports the front-end of port `p` as its own in its last HEARTBEAT (R570). -/
def Dev.peerHasPk (d : Dev) (p : Nat) : Bool :=
  !d.peer.lost && (match d.peer.last with | some h => h.pickups.getLsbD p | none => false)

/-- Claims a front-end with OWN REQUEST (R110, R570), unless it is held here, asked for already, or the peer's. -/
def Dev.claimPk (d : Dev) (p : Nat) : Dev :=
  let asked := ((d.port p).ctl.map (·.op) ++ (d.port p).heldCtl.map (·.1)).any fun o =>
    match o with | .ownRequest _ _ => true | _ => false
  if d.owns p || d.peerHasPk p || asked then d else d.ctl p (.ownRequest false d.node)

/-- The port reaches UP: held commands are sent in order (R116), and a home front-end that could not be claimed
before is claimed (R570). -/
def Dev.portReady (d : Dev) (p : Nat) (identity : Nat) : Dev :=
  let d := ((d.wr Reg.SOR_FE_ID_LO_ID (identity % 2 ^ 32) p).wr Reg.SOR_FE_ID_HI_ID (identity / 2 ^ 32) p).wr
    Reg.SOR_STATUS_STATE 2 p
  let d := d.setPort p { d.port p with step := 0, tries := 0 }
  let d := (d.setAdvance p (d.rd Reg.SOR_TIMING_RTT p)).ctlRelease p
  if d.peer.claimed.testBit (spindleOf p) then d.claimPk p else d

/-! ### The superframe start block (R82, R83) -/

/-- The bit at which block `n` of a lane starts, counted from superframe 0: 20 blocks of 257 bits in a codeword of 5,440
(R77, R78). -/
def blockBit (n : Nat) : Nat := 5440 * (n / 20) + 257 * (n % 20)

/-- The block of a lane that is the SFS of superframe `s`: the first at or after the superframe's start, of 144,000 bits each
(R82). The pattern repeats every 17 superframes, which hold 9,000 blocks. -/
def sfsBlock (s : Nat) : Nat :=
  let at0 := 144000 * (s % 17)
  let n := 20 * (at0 / 5440)
  9000 * (s / 17) + n + ((List.range 21).find? fun i => decide (at0 ≤ blockBit (n + i))).getD 0

/-- The offset of the SFS of superframe `s`, in PAM4 symbols (R83). A block that starts within a symbol is placed in that symbol
(the model's reading, assumption 83). -/
def sfsOffset (s : Nat) : Nat := (blockBit (sfsBlock (s % 17)) - 144000 * (s % 17)) / 2

/-- The 16-bit units of the data blocks between the SFS of superframe `s` and the one before it (R77, R82). -/
def sfsUnits (s : Nat) : Nat := 16 * (sfsBlock s - sfsBlock (s - 1) - 1)

/-- What is left of a lane's cells after some 16-bit units: of the cell that is being sent, and of all of them. -/
def drain : Nat → List Nat → Nat × List Nat
  | _, [] => (0, [])
  | 0, l :: t => (0, l :: t)
  | n + 1, l :: t => if l ≤ n + 1 then drain (n + 1 - l) t else (l - (n + 1), (l - (n + 1)) :: t)

/-- Sends the start block of superframe `s` on every downstream lane that is not lost: the SFS, or the training marker. next_cell
is where the first cell of the next data block starts; where none starts in it, R83 gives no value: a free value. -/
def Dev.sendSfs (d : Dev) (p s code : Nat) : Dev :=
  d.each 2 fun d l =>
    let x := d.port p
    if x.lostDn.getLsbD l then d.setPort p { x with queue := x.queue.set l [] }
    else
      let q := drain (sfsUnits s) (x.queue.getD l [])
      let d := d.setPort p { x with queue := x.queue.set l q.2 }
      let v := if q.1 < 16 then (q.1, d) else d.draw 4
      v.2.sendDown p (.sfs l code (s % 2 ^ 32) (sfsOffset s) v.1)

/-- A step of training has completed (Table 3-6). With step 4 framed training starts at superframe 0, and its counts; IDENTIFY
is sent as part of training (R116). -/
def Dev.trainStep (d : Dev) (p : Nat) (r : TrainReport) : Dev :=
  let x := d.port p
  let next (d : Dev) (n : Nat) : Dev := (d.setPort p { d.port p with step := n }).sendDown p (.training 3 n)
  if d.portState p != 1 then d
  else
    match x.step with
    | 1 => next d 2
    | 2 => next ((d.wr Reg.SOR_LANE_POL_UP_INV r.inverted.toNat p).wr Reg.SOR_STATUS_UP_LOCK 0xFF p) 3
    | 3 => (next ((d.setPort p { x with sf := 0 }).setChop p { d.chop p with slot := 0 }) 4).sendSfs p 0 0x1E
    | 4 => next d 5
    | 5 =>
      let d := d.timing p r.rtt r.skew
      if !r.numbersOk || 22500 < r.rtt || 562 < r.skew then d.trainFail p
      else (next d 6).ctlNow p .identify
    | 6 => (d.setPort p { x with ctl := x.ctl.filter fun w => w.op != .identify }).portReady p r.identity.toNat
    | _ => d

/-- A step of training completes (R105). -/
def execTrainingStepDone (p : Pk) (r : TrainReport) (s : State) : Host.Outcome State Fault Refusal :=
  s.run fun d => d.trainStep p r

/-- A step of training exceeds its bound (R105). -/
def execTrainingStepTimeout (p : Pk) (s : State) : Host.Outcome State Fault Refusal :=
  s.run fun d => if d.portState p = 1 && (d.port p).step != 0 then d.trainFail p else d

/-! ## Control blocks (R83, R84, R106, R108) -/

/-- The delineation of an SFS on an upstream lane (R84): the first is taken from next_cell; a later one must agree with the
running delineation, which has moved on by `units` 16-bit units since, and where it does not the receiver realigns to
next_cell, and what lies in between becomes no cell. -/
def Dev.delineate (d : Dev) (p lane nextCell units : Nat) : Dev :=
  let x := d.port p
  let d := d.setPort p { x with delin := x.delin.set lane (some nextCell) }
  match x.delin.getD lane none with
  | none => d
  | some n => if (n + units) % 16 = nextCell then d else d.sorErr Reg.SOR_ERR_DELIN p lane

/-- A control block on an upstream lane. `units` is how far the cells of the lane have moved its delineation, in 16-bit units
modulo 16, since its last SFS; `rtt` and `skew` are what the receiver measures from the block. -/
def Dev.controlBlock (d : Dev) (p lane : Nat) (v : Nat) (units rtt skew : Nat) : Dev :=
  let st := d.portState p
  let code := v % 256
  if st = 0 || st = 4 then d
  else if code != 0xE1 && code != 0x1E then
    d.setPort p { d.port p with discards := (d.port p).discards + 1 }
  else
    let x := d.port p
    let d := if st = 1 || code = 0xE1 then d.setPort p { x with quiet := x.quiet.set lane 0 } else d
    if st = 1 then
      if v / 2 ^ 8 % 8 != lane then d.trainFail p
      else (d.setPort p { d.port p with fePort := v / 2 ^ 11 % 2 }).delineate p lane (v / 2 ^ 60 % 16) units
    else if code = 0x1E then d
    else
      let d := d.setPort p { d.port p with fePort := v / 2 ^ 11 % 2 }
      let d := (d.delineate p lane (v / 2 ^ 60 % 16) units).timing p rtt skew
      -- a change of more than one slot, 9,216 symbols
      if 9216 < ((rtt : Int) - (d.port p).chRtt).natAbs then d.setAdvance p rtt else d

/-- A control block is received (R83). -/
def execControlBlockReceive (p : Pk) (lane : Fin 8) (payload : BitVec 256) (units rtt skew : Nat) (s : State) :
    Host.Outcome State Fault Refusal :=
  s.run fun d => d.controlBlock p lane payload.toNat units rtt skew

/-! ## Upstream cells (R87 to R94) -/

/-- The port receives the streams of an owner. -/
def Dev.streams (d : Dev) (p : Nat) : Bool := d.portUp p && d.owns p

/-- A cell on an upstream lane that carries traffic: a reserved type in its header is a delineation error on any port (R87);
the cells of type `t` are an owner's streams (R109). -/
def Dev.cellType (d : Dev) (p lane : Nat) (header : BitVec 16) (t : Nat) (f : Dev → Dev) : Dev :=
  let ty := header.toNat / 2 ^ 13
  if !d.portUp p || (d.port p).lostUp.getLsbD lane then d
  else if 5 ≤ ty then d.sorErr Reg.SOR_ERR_DELIN p lane
  else if ty = t && d.owns p then f d else d

/-- A SAMPLE cell (R89, R90). -/
def execSampleCellReceive (p : Pk) (lane : Fin 8) (header : BitVec 16) (samples : List Byte) (s : State) :
    Host.Outcome State Fault Refusal :=
  s.run fun d =>
    d.cellType p lane header 1 fun d =>
      let h := header.toNat
      d.sampleCell (32 * p + 4 * lane.val + h / 2 ^ 11 % 4) (h % 1024) samples false (h.testBit 10)

/-- A SERVO cell copy (R91, R92): the first copy of the tick's superframe that decodes supplies its channel. -/
def execServoCellReceive (p : Pk) (lane : Fin 8) (header : BitVec 16) (samples : List (BitVec 16)) (s : State) :
    Host.Outcome State Fault Refusal :=
  s.run fun d =>
    d.cellType p lane header 2 fun d =>
      let h := header.toNat
      let c := h / 2 ^ 10 % 8
      let x := d.port p
      let key := 2 * c + h / 2 ^ 9 % 2
      if (lane.val != c && lane.val != (c + 4) % 8) || (h + 1) % 512 != x.sf % 512 || x.ticked || (x.servo.any fun q => q.1 == key) then d
      else d.setPort p { x with servo := x.servo ++ [(key, samples.map (·.toInt))] }

/-- A CURRENT cell, which the front-end sends on U0 and on U4 (R93, R327): bits [15:0] are its header. -/
def execCurrentCellReceive (p : Pk) (lane : Fin 8) (cell : BitVec 64) (s : State) : Host.Outcome State Fault Refusal :=
  s.run fun d =>
    d.cellType p lane (cell.setWidth 16) 3 fun d =>
      let vals := (List.range 4).map fun w => ofBits 12 (cell.toNat / 2 ^ (16 + 12 * w))
      let k := cell.toNat % 8192
      let d := d.setPort p { d.port p with curSlot := some k, cur := vals }
      d.currentCell p k vals

/-! ## Ownership (R109 to R111, R265, R621) -/

/-- The owner as this port shows it: 0 none, 1 this port, 2 the other, from the front-end's 0 none, 1 A, 2 B. -/
def Dev.ownerView (d : Dev) (p o : Nat) : Nat :=
  if o = 0 then 0 else if o = (d.port p).fePort + 1 then 1 else 2

/-- Ownership has passed to the other port (R265). -/
def Dev.ownLost (d : Dev) (p : Nat) : Dev :=
  let d := (d.sorErr Reg.SOR_ERR_OWN_LOST p).svoErr Reg.SVO_ERR_OWN_LOST p
  -- no CONTROL cell is sent or repeated any more but OWN REQUEST (R265)
  let stays (op : CtlOp) : Bool := match op with | .ownRequest _ _ => true | _ => false
  let x := d.port p
  let d := d.setPort p { x with ctl := x.ctl.filter fun q => stays q.op, heldCtl := x.heldCtl.filter fun q => stays q.1 }
  let d := (d.svoOff p).calAbort p
  (d.burnEnd p).failPickup p St.ownershipDenied

/-- The streams of a front-end begin (R109): the first cell of each spot sets its index.  -/
def Dev.streamsBegin (d : Dev) (p : Nat) : Dev :=
  (spotsOf p).foldl (fun d g => d.setSpot g { d.spot g with next := none, hush := 0 }) d

/-- The registers of the held drives and of the hold state (Table 3-18). -/
def heldRegs : List Nat := [0x100, 0x104, 0x108, 0x10C, 0x110, 0x114]

/-- The front-end is granted to this port (R255, R266, R320, R340, R571, R628): the axes are unhomed, tables are
invalid, a full calibration is due, and the held drives are read with separate tags. Under the tamper hold the
spindle is stopped instead. -/
def Dev.ownGained (d : Dev) (p : Nat) : Dev :=
  let d := if d.peer.wantPk.testBit p then
      let d := { d with peer := { d.peer with wantPk := d.peer.wantPk - 2 ^ p } }
      (d.peerErr Reg.PEER_ERR_TAKEOVER).peerRecord 0x6003 0 (2 ^ p)
    else d
  let d := (d.dropTables p).calAsk p true
  let d := d.streamsBegin p
  let d := (d.unhome (2 * p) St.notHomed).unhome (2 * p + 1) St.notHomed
  if d.flag Reg.LCS_STATUS_TAMPER_HOLD then d.spStop (spindleOf p)
  else
    let d := d.setPort p { d.port p with heldDrives := [] }
    let d := d.setSvo p { d.svo p with phase := .takeover, drives := heldRegs }
    heldRegs.foldl (fun d a => d.ctl p (.readReg a)) d

/-- SOR_STATUS.OWNER takes a reported owner (R621), and what its change brings follows, whichever cell shows it first; `resp` for the response to a request of this port. -/
def Dev.ownerSeen (d : Dev) (p o : Nat) (resp : Bool) : Dev :=
  let old := d.rd Reg.SOR_STATUS_OWNER p
  let new := d.ownerView p o
  let d := d.wr Reg.SOR_STATUS_OWNER new p
  if old = 1 && new = 2 then d.ownLost p
  else if old = 1 && new = 0 && !resp then (d.svoOff p).calAbort p
  else if old != 1 && new = 1 then d.ownGained p
  else d

/-- Every held drive has been read: with the hold in force the loops are closed on the drives and the position is
verified (R266), at the read power of the layer (log entry 149); else the pickup is homed at once (R571). -/
def Dev.drivesRead (d : Dev) (p : Nat) : Dev :=
  let l := (d.port p).heldDrives
  let v (a : Nat) : Nat := ((l.find? fun q => q.1 == a).map (·.2)).getD 0
  if (v 0x114) % 2 = 0 then
    let d := d.setSvo p { d.svo p with phase := .none }
    (d.home (2 * p)).home (2 * p + 1)
  else
    let d := (((d.setSvoState p 2).wr Reg.SVO_STATE_SIDE (sideOf p) p).calAtOnce p)
    let d := (d.setPower p (d.calUse p qReadPower 0)).each 5 fun d i =>
      let u := ofBits 16 (v (0x100 + 4 * i)) * 65536
      let d := d.manual p i u
      d.setSvo p ((d.svo p).setLoop i { (d.svo p).loop i with uPrev := u, us := [u, u] })
    let d := [0, 1, 2, 3, 4].foldl (fun d i => d.auto p i) d
    let d := d.beginSearch p
    d.setSvo p { d.svo p with phase := .takeover, pair := 0 }

/-! ## Status and responses (R94, R112, R116, R117, R335) -/

/-- The temperature of a status cell enters the mean of the last 8 (R335); a drift run falls due (R340). -/
def Dev.frontTemp (d : Dev) (p : Nat) (t : Int) : Dev :=
  let y := d.calPk p
  let d := d.setCalPk p { y with temps := (t :: y.temps).take 8 }
  let now := d.calTemp p
  let d := d.wrS Reg.CAL_PK_TEMP_NOW now p
  let far := decide ((d.rd Reg.CAL_CFG_DRIFT : Int) < ((now - d.rdS Reg.CAL_PK_TEMP_LAST p).natAbs : Int))
  if d.flag Reg.CAL_CFG_DRIFT_EN && (d.calPk p).ready && far && (d.calPk p).run.isNone && (d.calPk p).due = 0 then
    d.calAsk p false
  else d

/-- A status cell (Table 3-3). -/
def Dev.statusCell (d : Dev) (p : Nat) (v : Nat) : Dev :=
  let f (lo w : Nat) : Nat := v / 2 ^ lo % 2 ^ w
  let d := d.ownerSeen p (f 16 2) false
  let wd := f 18 1
  let fresh := wd = 1 && !d.flag Reg.SOR_STATUS_FE_WD p
  let d := (d.wr Reg.SOR_STATUS_FE_WD wd p).wr Reg.SOR_STATUS_DN_LOCK (f 20 2) p
  let d := if fresh then (d.sorErr Reg.SOR_ERR_FE_WD p).burnEnd p else d
  -- the engine enters FAULT with the watchdog's expiry (R270)
  let d := if fresh && d.svoRuns p then d.svoFault p else d
  let d := if f 22 1 = 1 then d.sorErr Reg.SOR_ERR_TIMING p else d
  let under := f 23 8
  let d := d.setPort p { d.port p with underruns := BitVec.ofNat 8 under, laserFault := BitVec.ofNat 9 (f 44 9) }
  let d := if under = 0 then d
    else (lanesOf 8 under).foldl (fun d w => d.supplyMiss p w true) (d.sorErr Reg.SOR_ERR_UNDERRUN p)
  d.frontTemp p (ofBits 12 (f 32 12))

/-- A TELEMETRY status cell is received (R94). -/
def execStatusCellReceive (p : Pk) (data : BitVec 96) (s : State) : Host.Outcome State Fault Refusal :=
  s.run fun d => if d.portUp p then d.statusCell p data.toNat else d

/-- What the answer to a CONTROL command does; `st` is its status and `r` its result. -/
def Dev.answered (d : Dev) (p : Nat) (op : CtlOp) (st r : Nat) : Dev :=
  match op with
  | .ownRequest takeover _ =>
    let d := if st = 0 || st = 4 then d.ownerSeen p (r % 4) true else d
    let has := d.owns p
    let d := if !has && takeover then d.peerErr Reg.PEER_ERR_DENIED else d
    d.takeoverAnswer p has
  | .ownRelease => if st = 0 && d.owns p then d.ownerSeen p 0 true else d
  | .readReg a =>
    let x := d.svo p
    if !x.drives.contains a then d
    else
      let d := d.setPort p { d.port p with heldDrives := (d.port p).heldDrives ++ [(a, r % 2 ^ 32)] }
      let rest := x.drives.erase a
      let d := d.setSvo p { x with drives := rest }
      if rest.isEmpty then d.drivesRead p else d
  | .resume =>
    -- RESUME before two superframes of valid cells: it is sent again
    if st = 4 then d.setSvo p { d.svo p with resume := 2 } else d
  | _ => d

/-- A TELEMETRY response is received (R117): it answers the command of its tag and opcode. -/
def execResponseCellReceive (p : Pk) (data : BitVec 88) (s : State) : Host.Outcome State Fault Refusal :=
  s.run fun d =>
    let v := data.toNat
    let x := d.port p
    if !d.portUp p then d
    else
      match x.ctl.find? (fun w => w.tag == v % 256 && w.op.code == v / 2 ^ 8 % 256) with
      | none => d
      | some w =>
        let d := d.setPort p { x with ctl := x.ctl.filter fun u => !(u.tag == w.tag) }
        d.answered p w.op (v / 2 ^ 16 % 256) (v / 2 ^ 24)

/-- A CONTROL cell is unanswered for 100 µs (R116): it is issued again, and the third timeout sends the port to FAULT. While
the port trains the command is held until UP; only IDENTIFY is sent as part of training. -/
def execControlTimeout (p : Pk) (tag : Byte) (s : State) : Host.Outcome State Fault Refusal :=
  s.run fun d =>
    let x := d.port p
    match x.ctl.find? (fun w => w.tag == tag.toNat) with
    | none => d
    | some w =>
      let d := d.sorErr Reg.SOR_ERR_CMD_TIMEOUT p
      if 3 ≤ w.tries + 1 then d.portFault p
      else if d.portUp p || (w.op == .identify && d.portState p == 1) then
        (d.setPort p { x with ctl := x.ctl.map fun u => if u.tag == w.tag then { u with tries := u.tries + 1 } else u }).sendControl
          p w.tag w.op
      else d.setPort p { x with
        ctl := x.ctl.filter (fun u => u.tag != w.tag), heldCtl := x.heldCtl ++ [(w.op, w.tries + 1)] }

/-! ## The downstream superframe (R81, R82, R97, R101, R226, R622) -/

/-- The focus sweep of a full calibration is in progress: the read laser is on in OFF (Table 9-4). -/
def Dev.calSweeps (d : Dev) (p : Nat) : Bool :=
  d.svoState p == 0 && match (d.calPk p).run with
    | some r => r.full && [qFocus, qSphere, qKfe].contains ((r.steps.headD []).headD 0)
    | none => false

/-- The ACTUATOR cell of superframe `sf` (R97), on both lanes that carry cells: in FAULT a hold cell (R270), in OFF no drive,
else what the last tick computed; in the focus sweep of a calibration the drive of the sweep, which R343 gives no shape (log
entry 138). -/
def Dev.actuatorCell (d : Dev) (p sf : Nat) : DownCell :=
  let x := d.svo p
  let st := d.svoState p
  let lim : Int := d.rd Reg.SVO_L_LIM_OUT_LIM p 0
  let c (i : Nat) : Int :=
    if d.svoRuns p then x.cell.getD i 0
    else if i = 0 && d.calSweeps p then clampI (-lim) lim (Config.sweepDrive p sf) else 0
  let pw := d.rd Reg.SVO_PW_PW p
  .actuator (d.downLanes p) (sf % 8192) (st == 7 || x.faulting) (d.svoRuns p || d.calSweeps p) (d.svoRuns p && x.we) (c 0) (c 1) (c 2) (c 3) (c 4)
    (clampI 0 65535 x.power).toNat (d.rd Reg.CAL_PK_WS_WS p) (if pw = 0 then 0 else writeInc (d.svoZone p) pw)

/-- The WRITE cells due: every write spot whose lane carries traffic; `late` are the spots whose symbols were not
sent by their limit (R226, R232). -/
def Dev.writeCells (d : Dev) (p sf : Nat) (late : BitVec 8) : Dev :=
  let we := d.svoRuns p && (d.svo p).we
  d.each 8 fun d w =>
    if (d.port p).lostDn.getLsbD (w / 4) then d else d.supply p sf w (late.getLsbD w) we

/-- RESUME is sent after two superframes of cells without hold (R112, R270). -/
def Dev.resumeCount (d : Dev) (p : Nat) : Dev :=
  let x := d.svo p
  if x.resume = 0 then d
  else
    let d := d.setSvo p { x with resume := x.resume - 1 }
    if x.resume = 1 then d.ctl p .resume else d

/-- A superframe that misses its deadline (R27): hold commands and no write symbols, while emission goes on; write_en is
withdrawn (R272). -/
def Dev.missedSuperframe (d : Dev) (p sf : Nat) : Dev :=
  ((((d.sendDown p (d.holdCell p)).emitOnly p sf).writeOffAt p sf).wr Reg.SVO_STATE_WRITE_EN 0 p).miss 3 p

/-- The cells of a superframe of an owner: ACTUATOR first after the SFS, then the WRITE cells (R97, R101). -/
def Dev.ownerCells (d : Dev) (p sf : Nat) (late : BitVec 8) : Dev :=
  let cell := d.actuatorCell p sf
  let d := (d.setPort p { d.port p with lastCell := some cell }).sendDown p cell
  let d := d.wr Reg.SVO_STATE_WRITE_EN (if d.svoRuns p && (d.svo p).we then 1 else 0) p
  let d := (d.writeCells p sf late).resumeCount p
  -- an engine whose spindle has stopped goes to OFF (R303)
  if (d.svo p).leaving = 2 then d.svoOff p else d

/-- A superframe starts. One that misses its deadline carries hold commands and no write symbols (R27). In a test the lanes
carry its pattern and nothing else (Table 3-10). -/
def Dev.superframe (d : Dev) (p : Nat) (late : BitVec 8) (missed : Bool) : Dev :=
  let st := d.portState p
  let x := d.port p
  let sf := x.sf + 1
  let quiet := x.quiet.map (· + 1)
  let test := d.rd Reg.SOR_CFG_TEST p
  if st = 1 then
    if test != 0 then d.send (.down p (.pattern test))
    else if x.step < 4 then d
    -- the front-end is framed from step 5 on
    else (d.setPort p { x with sf := sf, quiet := if x.step < 5 then x.quiet else quiet }).sendSfs p sf (if x.step = 6 then 0xE1 else 0x1E)
  else if st = 2 || st = 3 then
    let d := d.setPort p { x with sf := sf, quiet := quiet, servo := [], ticked := false }
    if test != 0 then d.send (.down p (.pattern test))
    else
      let d := d.sendSfs p sf 0xE1
      -- a non-owner sends no cell that would take effect; a takeover reads the held drives before its first cell
      if !d.owns p || (d.svoState p == 0 && (d.svo p).phase == .takeover) then d
      else if missed then d.missedSuperframe p sf
      else d.ownerCells p sf late
  else d

/-- A superframe starts downstream (R97). -/
def execDownstreamSuperframe (p : Pk) (late : BitVec 8) (missed : Bool) (s : State) : Host.Outcome State Fault Refusal :=
  s.run fun d => d.superframe p late missed

end Sys2Proof.Machine
end

