-- ==== Sys2Proof/Machine/SpotRows.lean ====
section
/-! DEFINITION. The spot channel's events other than a cell: the ends of defects, the wedge gaps and anchors, and
alignment (R114, R136 to R145, R151, R164). -/

namespace Sys2Proof.Machine

/-- No SAMPLE cell of a spot for 2 µs while the port carries traffic and owns the front-end (R114). Every spot of the port counts
as enabled (assumption 119). -/
def execSpotStall (g : Sys2Proof.Spot) (s : State) : Host.Outcome State Fault Refusal :=
  s.run fun d => if d.streams (g / 32) then d.spotStall g else d

/-- A defect has lasted longer than FLY_MAX baud periods (R137). -/
def Dev.flyExpire (d : Dev) (g : Nat) : Dev :=
  if d.flag Reg.RCH_SP_STATE_TIMING_UNCERTAIN g then d
  else (d.wr Reg.RCH_SP_STATE_TIMING_UNCERTAIN 1 g).rchErr Reg.RCH_ERR_FLY_EXPIRE g

/-- A defect ends (R136 to R138): TRACK with boosted steps for 1,024 samples, and acquisition gains for 256 baud
samples after a short defect or a discontinuity. A freeze in ACQUIRE ends in the same way, and stays in ACQUIRE. -/
def Dev.defectEnd (d : Dev) (g : Nat) : Dev :=
  let x := d.spot g
  if (d.mode g != 3 && !(d.mode g == 1 && x.frz)) || decide (x.hang < 4 * d.rd Reg.RCH_DEFECT_HANGOVER) || 0 < x.keep then d
  else if x.frz then d.setSpot g { x with boost := 1025, lag := [], disc := false, frz := false }
  else
    let long := decide (d.rd Reg.RCH_FLY_FLY_MAX < x.defLen)
    let d := d.setSpot g { x with boost := 1025, acq := if !long || x.disc then 257 else x.acq, lag := [], disc := false }
    let d := d.setMode g 2
    if long then d.flyExpire g else d

/-- A defect ends after HANGOVER samples without a criterion (R136). -/
def execDefectEnd (g : Sys2Proof.Spot) (s : State) : Host.Outcome State Fault Refusal := s.run fun d => d.defectEnd g

/-- 1,024 samples after a defect the loops return to their normal exponents (R136). -/
def execResumeBoostEnd (g : Sys2Proof.Spot) (s : State) : Host.Outcome State Fault Refusal :=
  s.run fun d => if (d.spot g).boost = 1 then d.setSpot g { d.spot g with boost := 0 } else d

/-- 256 baud samples with acquisition gains have passed (R136). -/
def execAcqGainEnd (g : Sys2Proof.Spot) (s : State) : Host.Outcome State Fault Refusal :=
  s.run fun d => if (d.spot g).acq = 1 then d.setSpot g { d.spot g with acq := 0 } else d

/-- The flywheel has run longer than FLY_MAX (R137). -/
def execFlywheelExpiry (g : Sys2Proof.Spot) (s : State) : Host.Outcome State Fault Refusal :=
  s.run fun d =>
    if d.mode g = 3 && decide (d.rd Reg.RCH_FLY_FLY_MAX < (d.spot g).defLen) then d.flyExpire g else d

/-! ## Wedges (R142 to R145) -/

/-- A frame of the spot buffer with its positions from `good` on erased after a slip (R144). -/
def SFrame.slipped (s : SFrame) (good : Int) : SFrame :=
  let from_ := (good - s.start).toNat
  { s with slip := true,
           samples := s.samples.take from_ ++ (s.samples.drop from_).map fun q => (q.1, true) }

/-- The nearest integer to `e / 65536`; of two as near, either. -/
def nearestBit (e : Int) : Int :=
  if e % 65536 = 32768 then divR e 65536 else (e + 32768) / 65536

/-- The wedge check of a gap (R143): `eps` is the offset of the sync in 1/65536 bit period. -/
def Dev.wedgeCheckEnd (d : Dev) (g : Nat) (eps : Option Int) (check : Bool) : Dev :=
  let x := d.spot g
  match eps with
  | none => d
  | some e =>
    if !check || 8 * 65536 < e.natAbs then d
    else
      let d :=
        if e.natAbs ≤ 32768 then d.setSpot g { x with mu := x.mu + divR (e * x.om) 65536, good := x.pos }
        else
          let erase (l : List SFrame) : List SFrame := l.map fun s => s.slipped x.good
          let x := { x with
            wr := erase x.wr, full := erase x.full,
            y2s := x.y2s.map (fun (q : Y2) => { q with er := q.er || decide (x.good ≤ q.k) }),
            dec := x.dec.map fun (q : Int × Bool × Bool) => (q.1, q.2.1, q.2.2 || decide (x.good ≤ q.1)) }
          let x := x.renumber (-(nearestBit e))
          -- what the interpolator has produced and the placer has not reached is erased as well
          ((d.setSpot g { x with good := x.pos, slipTo := some x.pos }).rchErr Reg.RCH_ERR_SLIP g).bump Reg.RCH_SP_CNT_SHIFT_SLIP 1 g
      d.wr Reg.RCH_SP_STATE_TIMING_UNCERTAIN 0 g

/-- Positions start again at the index wedge (R52). -/
def Spot.newLap (zone : Nat) (x : Spot) : Spot :=
  let l := trackLen zone
  let y := x.renumber (-l)
  { y with seg := 1, edge := x.edge - framesOf zone, opened := x.opened - framesOf zone,
           wr := x.wr.map (fun s => { s with pf := s.pf - l, start := s.start - l }),
           full := x.full.map fun s => { s with pf := s.pf - l, start := s.start - l } }

/-- A wedge gap in TRACK or DEFECT (R142): μ advances over the wedge and the check is made. -/
def Dev.gapPass (d : Dev) (g : Nat) (eps : Option Int) (check : Bool) : Dev :=
  let x := d.spot g
  if !x.gap then d
  else
    let zone := d.rd Reg.RCH_SP_STATE_ZONE g
    let mu := x.mu + wedgeSpan zone x.om
    let d := d.setSpot g { x with mu := mu, gap := false, gapEnd := (x.gapStart zone + wedgeSpan zone x.om + 2 ^ 28 - 1) / 2 ^ 28 }
    let d := d.wedgeCheckEnd g eps check
    let x := d.spot g
    if x.seg = 512 then d.setSpot g (x.newLap zone) else d.setSpot g { x with seg := x.seg + 1 }

/-- The wedge anchor in ACQUIRE (R145): the sync lies `off` (1/65536 sample) from where the servo engine's report
places the next wedge for this spot. A frame whose extent began before the anchor is not written. -/
def Dev.anchor (d : Dev) (g : Nat) (off : Int) : Dev :=
  if 64 * 65536 < off.natAbs then d
  else
    let p := g / 32
    let j : Int := (g % 32 : Nat)
    let x := d.spot g
    let h (i : Nat) : Nat := x.home.getD i 0
    let zone := d.rd Reg.RCH_SP_STATE_ZONE g
    let m := (d.rd Reg.SVO_WEDGE_INDEX p + 1) % 512
    let pos := ((m : Int) * trackLen zone + 511) / 512
    let time : Int := ((d.svo p).wtime * 16 + d.rd Reg.SVO_PW_PW p : Nat)
    let at_ := time * 2 ^ 20 + (j - 16) * spotDelay (32 * h 2 + h 3) (h 4) * 2 ^ 12 + off * 2 ^ 12
    let gapEnd := at_ + wedgeSpan zone x.om
    -- the first whole position lies past the end of the gap
    let past := divR (x.om * (pos * 512 - m * trackLen zone)) 512
    let d := d.setSpot g { x with
      pos := pos, canc := pos - 7, seg := m + 1, mu := gapEnd + past, gapEnd := (gapEnd + 2 ^ 28 - 1) / 2 ^ 28, good := pos,
      first := true, edge := (pos - 8) / (frameBits : Int), opened := (pos + 12 - 1) / (frameBits : Int), begun := false,
      slipTo := none, defs := [], vs := [], fifo := [], y2s := [], dec := [], paths := [], wr := [], gap := false }
    (d.wr Reg.RCH_SP_STATE_TIMING_UNCERTAIN 0 g).setMode g 2

/-- The stream count reaches a wedge (R142, R143), or a channel in ACQUIRE searches for its anchor (R145). `found` is
the offset of the sync from its expected place, in 1/65536 of a bit period, in ACQUIRE of a sample. -/
def execWedgeGap (g : Sys2Proof.Spot) (found : Option Int) (check : Bool) (s : State) : Host.Outcome State Fault Refusal :=
  s.run fun d =>
    match d.mode g with
    | 1 => match found with
      | some off => d.anchor g off
      | none => d
    | 2 | 3 => d.gapPass g found check
    | _ => d

/-- A neighbour has not written position k + 2 while the own FIFO holds 224 entries beyond k (R151): the canceller
proceeds without it, and without the other one that holds it back, if that has not written it either; each is counted. Spots
j + 1 and j + 2 alone hold a canceller back. -/
def execAlignTimeout (g : Sys2Proof.Spot) (n : Fin 4) (s : State) : Host.Outcome State Fault Refusal :=
  s.run fun d =>
    let x := d.spot g
    let k := x.canc
    let late := (neighbours g).filter fun q => decide (g.val < q.2) && d.spotRuns q.2 && !d.written q.2 (k + 2)
    let deep := match x.fifo with | e :: _ => decide (k + 224 ≤ e.1) | [] => false
    if d.spotRuns g && late.any (fun q => q.1 == n.val) && deep then
      ((d.rchErr Reg.RCH_ERR_ALIGN g).bump Reg.RCH_SP_CNT_ALIGN_ALIGN late.length g).cancel g true 512
    else d

end Sys2Proof.Machine
end

