-- ==== Sys2Proof/Machine/Sram.lean ====
section
/-! DEFINITION. The words of the on-chip memory: banks and words (R384, R385), the (72,64) SECDED code, valid bits
and stored words (R391 to R393). -/

namespace Sys2Proof.Machine

open Sys2Proof

/-! ## Banks and words (Table 11-1) -/

/-- The words of a bank of an array (Table 11-1). -/
def wordsPerBank (array : Nat) : Nat :=
  [32768, 65536, 16384, 10240, 24576, 49152, 32768, 32768, 16384, 1024].getD array 1

/-- The banks of an array (Table 11-1). -/
def banksOf (array : Nat) : Nat := [64, 64, 16, 512, 64, 16, 16, 16, 8, 4].getD array 1

/-- The key of a word of an array. -/
def wordKey (array bank word : Nat) : Nat := array * 2 ^ 32 + bank * 2 ^ 20 + word

/-- The index of a word in its array: the scratchpad interleaves its banks (R385), the other arrays lie bank after bank. -/
def wordIndex (array bank word : Nat) : Nat :=
  if array = 0 then word * 64 + bank else bank * wordsPerBank array + word

/-- The bank of the scratchpad word at a byte address (R385). -/
def bankOf (addr : Nat) : Nat := addr / 8 % 64

/-! ## The SECDED code (R391)

An extended Hamming code: bit 0 is the parity of the whole word, bits 1, 2, 4, … 64 are the check bits of the positions whose
number has that bit, and the data fills the other positions upward (DESIGN CHOICE, assumption 88). -/

/-- The stored positions of the data bits. -/
def eccPos : List Nat := (List.range 72).filter fun n => !(n == 0 || [1, 2, 4, 8, 16, 32, 64].contains n)

/-- The stored bits whose positions are listed, as a word. -/
def bitsAt (l : List Nat) : BitVec 72 := l.foldl (fun c n => c ^^^ BitVec.ofNat 72 (2 ^ n)) 0

/-- The positions of the stored bits that are 1. -/
def onesOf (c : BitVec 72) : List Nat := (List.range 72).filter c.getLsbD

/-- The syndrome: the sum, without carry, of the positions of the ones. -/
def eccSyndrome (c : BitVec 72) : Nat := (onesOf c).foldl (fun s n => s ^^^ n) 0

/-- The overall parity is odd. -/
def eccOdd (c : BitVec 72) : Bool := (onesOf c).length % 2 == 1

/-- The stored form of a data word. -/
def eccEncode (v : BitVec 64) : BitVec 72 :=
  let c := bitsAt ((List.range 64).filterMap fun i => if v.getLsbD i then eccPos[i]? else none)
  let s := eccSyndrome c
  let c := c ^^^ bitsAt (((List.range 7).filter s.testBit).map fun k => 2 ^ k)
  if eccOdd c then c ^^^ 1 else c

/-- The data bits of a stored word. -/
def eccData (c : BitVec 72) : BitVec 64 :=
  BitVec.ofNat 64 ((List.range 64).foldl (fun a i => if c.getLsbD (eccPos.getD i 0) then a + 2 ^ i else a) 0)

/-- What a check of a stored word finds (Table 11-2). -/
inductive EccResult where
  | clean
  | corrected (c : BitVec 72)
  | bad
deriving DecidableEq, Repr

/-- The check of a stored word: a zero syndrome, a single-bit error at a position of the word, or anything else. -/
def eccCheck (c : BitVec 72) : EccResult :=
  let s := eccSyndrome c
  if eccOdd c then (if s < 72 then .corrected (c ^^^ bitsAt [s]) else .bad)
  else if s = 0 then .clean
  else .bad

/-- What the check finds in any stored word of which these bits have flipped: the code is linear (R391). -/
def eccFlips (flips : List Nat) : EccResult := eccCheck (bitsAt flips)

/-! ## Stored words and valid rows (R391 to R393) -/

/-- The stored bits of a word. -/
def MemSys.stored (m : MemSys) (key : Nat) : BitVec 72 := BitVec.ofNat 72 (mget m.words 0 key)

/-- Sets the stored bits of a word. -/
def MemSys.setStored (m : MemSys) (key : Nat) (c : BitVec 72) : MemSys := { m with words := mset m.words 0 key c.toNat }

/-- The key of the valid row of a word: that of the first of its 64 words. -/
def rowKey (key : Nat) : Nat := key / 64 * 64

/-- The stored bits of the valid row of a word. -/
def MemSys.row (m : MemSys) (key : Nat) : BitVec 72 := BitVec.ofNat 72 (mget m.rows 0 (rowKey key))

/-- Sets the stored bits of a valid row. -/
def MemSys.setRow (m : MemSys) (key : Nat) (c : BitVec 72) : MemSys := { m with rows := mset m.rows 0 (rowKey key) c.toNat }

/-- The valid bit of a word. -/
def MemSys.valid (m : MemSys) (key : Nat) : Bool := (eccData (m.row key)).getLsbD (key % 64)

/-- Stores a word: the check bits of the word are made anew, its valid bit is set, and the check bits of its row are
recomputed (R391, R392). -/
def MemSys.put (m : MemSys) (key : Nat) (v : BitVec 64) : MemSys :=
  (m.setStored key (eccEncode v)).setRow key
    (eccEncode (eccData (m.row key) ||| BitVec.ofNat 64 (2 ^ (key % 64))))

/-- Words whose valid rows are cleared hold nothing (R393). -/
def MemSys.clear (m : MemSys) (sel : Nat → Bool) : MemSys :=
  { m with words := m.words.filter fun e => !sel e.1
           rows := m.rows.filter fun e => !sel e.1
           poisoned := m.poisoned.filter fun k => !sel k }

/-- Whether a word lies in the secure part, the top 256 KiB of the scratchpad (R389): word 32,256 and on of every bank. -/
def inSecure (key : Nat) : Bool := key / 2 ^ 32 == 0 && decide (32256 ≤ key % 2 ^ 20)

end Sys2Proof.Machine
end

