-- ==== Sys2Proof/Machine/Reset.lean ====
section
/-! DEFINITION. The resets of the device (Table 10-4), the safe latch (R363), the state that start-up shows on the
sideband (R422), and the power states (Table 1-6). -/

namespace Sys2Proof.Machine

open Sys2Proof

/-! ## What start-up shows -/

/-- HIF_BOOT as one word (Table 12-9). -/
def Dev.bootWord (d : Dev) : Nat :=
  d.rd Reg.HIF_BOOT_STEP + 16 * d.rd Reg.HIF_BOOT_WAIT + 32 * d.rd Reg.HIF_BOOT_FALLBACK + 64 * d.rd Reg.HIF_BOOT_ROM
    + 128 * d.rd Reg.HIF_BOOT_IMAGE

/-- Sends a STATUS message carrying HIF_BOOT, while the sideband is up (R422). -/
def Dev.sendStatus (d : Dev) : Dev :=
  if d.flag Reg.HIF_STATUS_SB_UP then d.send (.sideband 3 (3 + 65536 * d.bootWord)) else d

/-- Changes a field of HIF_BOOT; a change is sent on the sideband (R422). -/
def Dev.setBoot (d : Dev) (f : Fld) (v : Nat) : Dev :=
  let e := d.wr f v
  if e.bootWord = d.bootWord then e else e.sendStatus

/-- The last step of start-up that is complete (HIF_BOOT.STEP). -/
def Dev.bootStep (d : Dev) : Nat := d.rd Reg.HIF_BOOT_STEP

/-- The main supplies are present and the device is neither in DEEP nor held in reset: the monitors run (R359). -/
def Dev.powered (d : Dev) : Bool := d.clk.tideOk && d.clk.mainOk && !d.clk.deep && !d.clk.thermHold

/-- The monitors judge REFCLK: from step 2 of start-up on (R359). -/
def Dev.refJudged (d : Dev) : Bool := d.powered && decide (1 ≤ d.bootStep)

/-- A spindle is out of OFF. -/
def Dev.energised (d : Dev) : Bool := (List.range 8).any fun n => d.spState n != 0

/-- The power state as Table 1-6 numbers it. -/
def Dev.powerState (d : Dev) : Nat :=
  if d.clk.deep then 1 else if !d.powered then 0 else if d.energised then 3 else 2

/-! ## Resets -/

/-- The units that the safe latch and every reset hold in reset, at their reset state (R364): what persists
without them is the flash, the fuses, Tidegate, the recorder, the boot records and what the ledgers and the journal
hold of the sets (assumption 10). -/
def Dev.dropUnits (d : Dev) : Dev :=
  let d := (List.range 16).foldl (fun (d : Dev) p => if d.flag Reg.SOR_CFG_EN p then d.send (.down p .idle) else d) d
  let d := if d.linkUp || d.peer.training then d.send .nerIdle else d
  { d with
    msixTab := [], pba := [], brine := Brine.reset, mmu := Mmu.reset, que := Que.reset, windows := [],
    sal := { Sal.reset with nextRead := d.sal.nextRead },
    set := { d.set with
      sets := d.set.sets.map fun e => (e.1, e.2.map fun (s : DiscSet) => { s with unread := [] })
      discs := [], guest := [], wants := [], recovs := [], held := [], asked := [], missed := [], rereads := [], prepass := [] },
    peer := Peer.reset, ports := [], spots := [], yar := Yar.reset, reads := [], burns := [],
    cal := { sets := [], pk := [] }, spins := [], axes := [], coords := [], chops := [], servos := [] }

/-- A field of the TG_ block, which only TIDE_POR resets (R383). -/
def tgKey (k : Nat) : Bool := decide (0x20000 * 8 ≤ k) && decide (k < 0x30000 * 8)

/-- Registers that show the fuses and the straps (R380, R581, Table 16-10): identity, serial, node, life cycle,
the units that the variant lacks, and the reset value of HOME_SP. -/
def Dev.showFuses (d : Dev) (role : Bool) (nidLo : Nat) : Dev :=
  let u := d.fuse
  let d := (d.wr Reg.CLK_STRAP_ROLE (if role then 1 else 0)).wr Reg.CLK_STRAP_NID_LO nidLo
  let d := (d.wr Reg.GLB_ID_VARIANT u.variant).wr Reg.GLB_SERIAL_LO_SERIAL (u.serial.toNat % 2 ^ 32)
  let d := d.wr Reg.GLB_SERIAL_HI_SERIAL (u.serial.toNat / 2 ^ 32)
  let d := (d.wr Reg.GLB_NODE_NID (u.nidHi.toNat * 16 + nidLo)).wr Reg.GLB_NODE_ROLE (if role then 1 else 0)
  let d := d.wr Reg.LCS_STATUS_STATE (if d.mgmt.service then 3 else u.lifeCycle)
  let d := (d.wr Reg.LCS_STATUS_SEC_VER u.secVer).wr Reg.LCS_TRANS_CNT_COUNT u.transCnt
  let d := d.wr Reg.PEER_CFG_HOME_SP (if role then 0 else 0xFF)
  if d.isAB then (d.wr Reg.CLK_GATE_EN 0x3FF3).wr Reg.CLK_GATE_ST_RUN 0x3FF3 else d

/-- The ONFI I/O senses VDDQ_ONF (R604): above 0.90 V is NV-DDR3. -/
def Dev.sense (d : Dev) (mv : Nat) : Dev :=
  { d with clk := { d.clk with vddqMv := mv, onfOk := decide (900 < mv) == d.flag Reg.CLK_MON_ONF_RATE } }

/-- The step of Table 10-5 from which a cause starts (Table 10-4). Without a locked root PLL a start from step 4
begins at step 3, since no unit runs from a source that is not valid (R366), and so does a start after a trip, whose latch
only the end of step 3 clears (R363). -/
def Dev.firstStep (d : Dev) (cause : Nat) : Nat :=
  if cause = 3 then 3
  else if 4 ≤ cause && cause ≤ 6 then (if d.flag Reg.CLK_STATUS_ROOT_LOCK && !d.clk.tripped then 4 else 3)
  else 1

/-- The start-up that leaves OFF or DEEP: the comparators that matched in OFF take effect (R374), and a crystal that failed
there leaves the time uncertain (R373). -/
def Dev.tideEffects (d : Dev) : Dev :=
  let m := d.clk.cmpLatched
  let d := (List.range 4).foldl (fun (d : Dev) k =>
    if m.getLsbD k then
      (d.setErr Reg.TG_EVENT_CMP k).wr Reg.TG_CMP_CTL_EN (d.rd Reg.TG_CMP_CTL_EN - d.rd Reg.TG_CMP_CTL_EN / 2 ^ k % 2 * 2 ^ k)
    else d) d
  let d := if d.clk.xtalBad then d.wr Reg.TG_STATUS_TIME_VALID 0 else d
  { d with clk := { d.clk with cmpLatched := 0, xtalBad := false } }

/-- A reset of Table 10-4: every register but those of TG_ is at its reset value (those too for TIDE_POR), every unit
is reset, the recorder is cleared or kept, and start-up begins at the step of the cause. A start from step 4 finds
the root PLL locked and the dividers good, so the boot ROM clears the safe latch at once (R363). -/
def Dev.restart (d : Dev) (cause : Nat) : Dev :=
  let first := d.firstStep cause
  let d := (d.emit (.reset (first == 1) (cause == 0))).dropUnits
  let old := d
  -- LCS_STATUS.KEY_SUSPECT is cleared by a destructive march alone (R585)
  let fv := d.fv.filter fun e => (tgKey e.1 && cause != 0) || e.1 == Reg.LCS_STATUS_KEY_SUSPECT.key 0 0
  let m : Mgmt := { Mgmt.reset with
    slots := d.mgmt.slots, recovery := d.mgmt.recovery, active := d.mgmt.active, nextActive := d.mgmt.nextActive,
    activated := d.mgmt.activated, service := d.mgmt.service && first != 1 }
  -- the array of the recorder keeps its words with its records, and the remap tables their entries
  let kept := d.mem.clear fun k => first == 1 || k / 2 ^ 32 != 8
  let mem : MemSys := { MemSys.reset with
    words := kept.words, rows := kept.rows, poisoned := kept.poisoned
    remaps := if first = 1 then [] else d.mem.remaps, service := if first = 1 then [] else d.mem.service }
  let c : Clk := { d.clk with
    cyc := 0, deep := false, stopped := false, tripped := false, relocks := 0,
    fboPeriods := if first = 1 then 0 else d.clk.fboPeriods, clkout := false, i2cPtr := 0, powerFail := false,
    autoOff := 0, thermHold := false, entering := false, slew := if cause = 0 then 0 else d.clk.slew }
  let c : Clk := if cause = 0 then { c with
      time := 0, tide := 0, secArmed := false, tamperLatched := false, cmpLatched := 0, thermLatch := false, xtalBad := false } else c
  let d : Dev := { d with fv := fv, mgmt := m, mem := mem, clk := c }
  let d := d.wr Reg.TG_RST_CAUSE_CAUSE cause
  if first = 1 then d
  else
    let keep (f : Fld) (e : Dev) : Dev := e.wr f (old.rd f)
    let d := d.showFuses (old.flag Reg.CLK_STRAP_ROLE) (old.rd Reg.CLK_STRAP_NID_LO)
    let d := keep Reg.HIF_STATUS_SB_UP (keep Reg.CLK_STATUS_FBO_STABLE (keep Reg.CLK_STATUS_REF_VALID
      (keep Reg.CLK_STATUS_ROOT_LOCK d)))
    let d := if cause = 3 then d else keep Reg.CLK_STATUS_SOURCE d
    let d := if first = 4 then (keep Reg.CLK_STATUS_ONF_LOCK d).wr Reg.CLK_STATUS_SAFE 0 else d
    let d := if first = 4 then d.sense d.clk.vddqMv else d
    d.setBoot Reg.HIF_BOOT_STEP (first - 1)

/-- The start-up that leaves OFF or DEEP, with its cause. -/
def Dev.powerUp (d : Dev) (cause : Nat) : Dev := (d.restart cause).tideEffects

/-- The main reset is asserted and held (R606, R614): every unit and register but those of TG_ is at its reset value,
and every output is safe. -/
def Dev.mainReset (d : Dev) : Dev := d.restart 1

/-! ## Trips (R361, R363, R364) -/

/-- A trip: the safe latch is set and the units are held in reset; the management complex, the recorder, the
scratchpad and the clock unit are not. CLKOUT goes low unless its source is TIDE (R358). -/
def Dev.trip (d : Dev) (f : Fld) : Dev :=
  let d := d.setErr f
  let keep (k : Nat) : Bool := !heldAt (k / 32 * 4) || k == Reg.HIF_STATUS_SB_UP.key 0 0
  let d := d.dropUnits
  let home := if d.flag Reg.CLK_STRAP_ROLE then 0 else 0xFF
  let d : Dev := { d with fv := d.fv.filter fun e => keep e.1, clk := { d.clk with 
    tripped := true, clkout := d.clk.clkout && d.rd Reg.CLK_OUT_SEL == 5 } }
  (d.wr Reg.CLK_STATUS_SAFE 1).wr Reg.PEER_CFG_HOME_SP home

end Sys2Proof.Machine
end

