-- ==== Sys2Proof/Machine/Ending.lean ====
section
/-! DEFINITION. What ends work by force: commands that end with a status or in silence (R469), the wipe of the
secure part (R390), the loss of staged data (R486, R496), and the tamper hold (R585, R628). -/

namespace Sys2Proof.Machine

open Sys2Proof

/-! ## Commands -/

/-- The command whose data a transfer moves. -/
def Purpose.command : Purpose → Option Nat
  | .dataRead c | .dataWrite c | .sealRead c | .sealWrite c => some c
  | _ => none

/-- A context that no command holds: what a page read still in flight is for when its READ has ended. -/
def noCtx : Nat := 16384

/-- Nothing in the device waits for context `c` any more: its transfers end where they stand, and flash pages, page
reads, clusters and recoveries go on without it (R469). -/
def Dev.forget (d : Dev) (c : Nat) : Dev :=
  let strip (l : List Nat) : List Nat := l.filter (· != c)
  { d with
    mmu := { d.mmu with xfers := d.mmu.xfers.filterMap fun (x : Xfer) =>
      if x.what.command != some c then some x
      else match x.st with
        -- a read on the link still receives its data (R434)
        | .issued n => some { x with what := .dataRead noCtx, left := n }
        | _ => none }
    sal := { d.sal with
      progs := d.sal.progs.map fun (p : Prog) => { p with ctxs := strip p.ctxs }
      unacked := d.sal.unacked.map fun u => (u.1, strip u.2.1, u.2.2)
      reads := d.sal.reads.map fun (r : PRead) => if r.why == .host c then { r with why := .host noCtx } else r }
    set := { d.set with
      wants := d.set.wants.map fun q => (q.1, q.2.1, strip q.2.2)
      recovs := d.set.recovs.map fun (r : Recov) => { r with ctxs := strip r.ctxs } } }

/-- Ends a started command by force with a status; a WRITE that has not been ingested changes no LB, and the READs that
waited for it find their LBs (R469, R477). -/
def Dev.quit (d : Dev) (c st : Nat) : Dev := (((d.forget c).complete c st).afterWrite c).each 8 fun d n => d.checkUnload n

/-- The I/O commands in flight. -/
def Dev.ioCtxs (d : Dev) : List Nat :=
  (d.que.ctxs.filter fun e => match e.2 with
    | some k => decide (0x80 ≤ k.e.op) && k.wait != .finished
    | none => false).map (·.1)

/-! ## The secure part (R389, R390) -/

/-- A bit of MEM_ERR with the array, bank and word (Table 16-4a). -/
def Dev.memErr (d : Dev) (f : Fld) (array bank word : Nat) : Dev :=
  d.setErr f 0 0 array 0 [(9, 2, bank), (11, 4, word)]

/-- A wipe of the secure part: its words are zeroed, invalidated and read back, and every key handle is dropped; a word
that reads other than zero sets WIPE_FAIL, and the keys are suspect (R390, R585). Word `i` of the part is word
32,256 + i / 64 of bank i mod 64 (R385, R389). -/
def Dev.wipe (d : Dev) (readBack : List (BitVec 64)) : Dev :=
  let d := d.wr Reg.MEM_STATUS_WIPED 1
  let d : Dev := { d with mem := d.mem.clear inSecure }
  let d : Dev := { d with mgmt := { d.mgmt with handles := false }, sal := { d.sal with keyGen := none } }
  match readBack.findIdx? (· != 0) with
  | some i => (d.memErr Reg.MEM_ERR_WIPE_FAIL 0 (i % 64) (32256 + i / 64)).wr Reg.LCS_STATUS_KEY_SUSPECT 1
  | none => d

/-! ## Staged data (R486, R496) -/

/-- The staged LBs of the own stream that some member has yet to record. -/
def Dev.stagedOpen (d : Dev) : List IdxEnt :=
  d.sal.idx.filter fun e => !e.mirror && (match d.volSet e.vol with
    | some s => (match d.stripe e.vol (s.place e.lba).1 with | some t => !t.released || t.anew | none => true)
    | none => false)

/-- Staged LBs are reported lost, one lost entry for each data cluster (R486, Table 15-7). -/
def Dev.reportLost (d : Dev) (l : List IdxEnt) : Dev :=
  let places := l.filterMap fun e => (d.volSet e.vol).map fun s =>
    let q := s.place e.lba
    (e.vol, q.1, q.2.1, q.2.2.1)
  let clusters := (places.map fun q => (q.1, q.2.1, q.2.2.1)).eraseDups
  clusters.foldl (fun d c =>
    let mask := (List.range 16).foldl (fun m j => if places.contains (c.1, c.2.1, c.2.2, j) then m + 2 ^ j else m) 0
    d.addLost { vol := c.1, cause := 2, stripe := c.2.1, count := 1, dmask := 2 ^ c.2.2, lbmask := mask }) d

/-- The Saltern is emptied: its map, journal and pages are gone, what was staged is reported lost, and stripes that
nothing has burned are forgotten (R486, R496). -/
def Dev.discardStaged (d : Dev) : Dev :=
  let lost := d.stagedOpen
  let d := d.emptySaltern
  let d : Dev := { d with set := { d.set with
    stripes := d.set.stripes.filter fun e => match e.2 with | some t => t.burned != 0 || t.recorded != 0 | none => false } }
  ((d.wr Reg.SAL_STATUS_FULL 0).wr Reg.SAL_STATUS_GC 0).reportLost lost

/-- A cryptographic erase of the Saltern, as SANITISE scope 0 (R496): a new key pair, and an empty map and journal. -/
def Dev.cryptoErase (d : Dev) : Dev := d.discardStaged.newKey

/-! ## The tamper hold (R585, R628) -/

/-- A background operation of this type moves or burns discs: a rebuild or a reshape. -/
def BgOp.burns (o : BgOp) : Bool := o.type == 3 || o.type == 4

/-- Changes the state of every rebuild and reshape that is in one state. -/
def Dev.setBurns (d : Dev) (from_ to_ : Nat) : Dev :=
  { d with mgmt := { d.mgmt with bgOps := d.mgmt.bgOps.map fun e =>
    (e.1, e.2.map fun (o : BgOp) => if o.burns && o.state == from_ then { o with state := to_ } else o) } }

/-- Whether the discs of a set are loaded as a rebuild or a reshape needs them: at least `k` members that have not failed. -/
def Dev.setLoaded (d : Dev) (s : DiscSet) : Bool :=
  decide (s.k ≤ (List.range s.w).countP fun m =>
    !s.failed.contains m && (d.spindleOfDisc (s.members.getD m (0, 0)).1).isSome)

/-- Whether the discs that an operation needs are loaded. -/
def Dev.opLoaded (d : Dev) (o : BgOp) : Bool :=
  match o.type with
  | 3 => match d.volSet o.object with
    | some s => (d.spindleOfDisc (s.members.getD o.arg (0, 0)).1).isSome && d.setLoaded s
    | none => true
  | 4 => match d.volSet o.object, d.volSet (o.object + 65536) with
    | some s, some t => d.setLoaded s && (List.range t.w).all fun m =>
      let q := t.members.getD m (0, 0)
      q.2 != d.node || (d.spindleOfDisc q.1).isSome
    | _, _ => true
  | _ => true

/-- A rebuild or reshape shows whether it waits for media (Table 13-11); under the tamper hold it stays paused. -/
def Dev.opMedia (d : Dev) : Dev :=
  if d.flag Reg.LCS_STATUS_TAMPER_HOLD then d
  else { d with mgmt := { d.mgmt with bgOps := d.mgmt.bgOps.map fun e =>
    (e.1, e.2.map fun (o : BgOp) =>
      if o.burns && (o.state == 0 || o.state == 3) then { o with state := if d.opLoaded o then 0 else 3 } else o) } }

/-- The tamper hold is set (R628), and stored in boot area record type 11 (R585); of the critical store the spec gives no word
numbers, and LCS_STATUS.TAMPER_HOLD is the hold as it stands there (assumption 97): burns end, spindles stop, I/O commands end, rebuilds and reshapes pause. -/
def Dev.holdSet (d : Dev) : Dev :=
  let d := d.wr Reg.LCS_STATUS_TAMPER_HOLD 1
  let d : Dev := { d with flash := { d.flash with boot := { d.flash.boot with tamperHold := true } } }
  let d := d.flashWrite (.boot 11)
  let d := d.each 16 fun d p => d.burnEnd p
  let d := d.each 8 fun d n => if d.spState n = 0 then d else d.spStop n
  let d := d.ioCtxs.foldl (fun d c => d.quit c St.lifeCycleDenied) d
  d.setBurns 0 3

/-- The tamper hold ends (R585): paused rebuilds and reshapes go on. -/
def Dev.holdEnd (d : Dev) : Dev :=
  let d := d.wr Reg.LCS_STATUS_TAMPER_HOLD 0
  let d : Dev := { d with flash := { d.flash with boot := { d.flash.boot with tamperHold := false } } }
  let d := d.flashWrite (.boot 11)
  (d.setBurns 3 0).opMedia

/-- The firmware's answer to a tamper (R585): the tamper record, and in FIELD and SERVICE the action of
LCS_CFG.TAMPER_ACTION. -/
def Dev.tamperAct (d : Dev) : Dev :=
  let act := if d.lifeCycle = 2 || d.lifeCycle = 3 then d.rd Reg.LCS_CFG_TAMPER_ACTION else 0
  let time := d.rd Reg.TG_TAMPER_LO_TIME + 2 ^ 32 * d.rd Reg.TG_TAMPER_HI_TIME
  let d := (d.setErr Reg.LCS_ERR_TAMPER).record 0x5005 16 5 (payload [(0, 8, time), (8, 1, act)])
  let d := if act = 1 || act = 2 then d.holdSet else d
  if act = 2 then d.cryptoErase else d

end Sys2Proof.Machine
end

