-- ==== Sys2Proof/Machine/Clocks.lean ====
section
/-! DEFINITION. The clocks: monitors, fallback and relock (R359 to R368), gating (R354 to R357) and CLKOUT (R358). -/

namespace Sys2Proof.Machine

open Sys2Proof

/-! ## The monitors -/

/-- A REFCLK count window completes (R359, R362): TIDE windows until FBO is stable, FBO windows after. -/
def Dev.refWindow (d : Dev) (count : Nat) : Dev :=
  let d := d.wr Reg.CLK_MON_CNT_REF count
  let good := if d.flag Reg.CLK_STATUS_FBO_STABLE then decide (944 ≤ count) && decide (count ≤ 1107)
    else decide (4745 ≤ count) && decide (count ≤ 4792)
  if good then d else (d.wr Reg.CLK_STATUS_REF_VALID 0).trip Reg.CLK_ERR_REF_FREQ

/-- The stop detector fires (R359). -/
def execRefclkStop (s : State) : Host.Outcome State Fault Refusal :=
  s.run fun d => if d.refJudged then (d.wr Reg.CLK_STATUS_REF_VALID 0).trip Reg.CLK_ERR_REF_STOP else d

/-- A REFCLK count window completes (R359). -/
def execRefclkWindow (count : Nat) (s : State) : Host.Outcome State Fault Refusal :=
  s.run fun d => if d.refJudged then d.refWindow count else d

/-- A TIDE period of FBO edges lies within ±1,000 ppm of its nominal 4,760.74 edges (R373). -/
def tideGood (count : Nat) : Bool := decide ((count * 32768 : Int) - 156000000 ≤ 156000) && decide (-156000 ≤ (count * 32768 : Int) - 156000000)

/-- FBO is no longer stable: after a trip the management, which never runs from such a source (R366), stops with the sideband
until a source qualifies, and only Tidegate runs (assumption 116). -/
def Dev.fboGone (d : Dev) : Dev :=
  if d.clk.tripped && d.flag Reg.CLK_STATUS_SOURCE then
    let d := (d.setBoot Reg.HIF_BOOT_FALLBACK 0).wr Reg.CLK_STATUS_SOURCE 0
    d.wr Reg.HIF_STATUS_SB_UP 0
  else d

/-- A TIDE period has counted FBO edges (R360): two good periods in a row make FBO stable, a bad one unstable; while
FBO is stable the crystal is checked against it (R373). -/
def Dev.fboPeriod (d : Dev) (count : Nat) : Dev :=
  let d := d.wr Reg.CLK_MON_CNT_FBO count
  let good := decide (4523 ≤ count) && decide (count ≤ 4998)
  let stable := d.flag Reg.CLK_STATUS_FBO_STABLE
  if !good then
    let d : Dev := { d with clk := { d.clk with fboPeriods := 0 } }
    if stable then ((d.wr Reg.CLK_STATUS_FBO_STABLE 0).setErr Reg.CLK_ERR_FBO_FAULT).fboGone else d
  else
    let d : Dev := { d with clk := { d.clk with fboPeriods := d.clk.fboPeriods + 1 } }
    if !stable then d
    else if tideGood count then
      { d.wr Reg.TG_STATUS_XTAL_OK 1 with clk := { d.clk with xtalBad := false } }
    else
      let d := (d.wr Reg.TG_STATUS_XTAL_OK 0).setErr Reg.TG_EVENT_XTAL_FAIL
      -- found in the start-up that leaves OFF or DEEP: it had failed there (R373)
      let d := if d.bootStep < 8 && [1, 2].contains (d.rd Reg.TG_RST_CAUSE_CAUSE) then d.wr Reg.TG_STATUS_TIME_VALID 0 else d
      { d with clk := { d.clk with xtalBad := true } }

/-- A TIDE period counts FBO edges (R360, R373). -/
def execFboPeriodCheck (count : Nat) (s : State) : Host.Outcome State Fault Refusal :=
  s.run fun d => if d.powered then d.fboPeriod count else d

/-- A divided clock counted over 1,024 FBO cycles lies within ±8 % of its nominal ratio (R361): domain `k` (0 CORE,
1 RCH, 2 SVO, 3 MOT, 4 PER) runs at 1,562.5 MHz / 2^k against 156 MHz. -/
def divGood (k count : Nat) : Bool :=
  let e : Int := (count * 1560 * 2 ^ k : Int) - 16000000
  decide (-1280000 ≤ e) && decide (e ≤ 1280000)

/-- A divided clock is counted against FBO (R361). -/
def execDividerCheck (dom : Fin 5) (count : Nat) (s : State) : Host.Outcome State Fault Refusal :=
  s.run fun d =>
    if d.powered && d.flag Reg.CLK_STATUS_FBO_STABLE && d.flag Reg.CLK_STATUS_ROOT_LOCK && !divGood dom.val count then
      d.trip Reg.CLK_ERR_DIV_FAULT
    else d

/-- The root PLL loses lock (R361). -/
def execRootPllUnlock (s : State) : Host.Outcome State Fault Refusal :=
  s.run fun d =>
    if d.powered && d.flag Reg.CLK_STATUS_ROOT_LOCK then (d.wr Reg.CLK_STATUS_ROOT_LOCK 0).trip Reg.CLK_ERR_ROOT_UNLOCK
    else d

/-! ## Fallback and relock (R365 to R368) -/

/-- The management clock moves after a trip (R366, R367): to FBO once it is stable, with the mainband down and the
recorder running; or back to the locked root. -/
def Dev.clockSwitch (d : Dev) (toFbo : Bool) : Dev :=
  if toFbo then
    if d.clk.tripped && d.flag Reg.CLK_STATUS_FBO_STABLE && !d.flag Reg.HIF_BOOT_FALLBACK then
      let d := (d.wr Reg.CLK_STATUS_SOURCE 1).emit .live
      let d := (d.wr Reg.HIF_STATUS_LINK_UP 0).wr Reg.HIF_STATUS_RATE 0
      (d.setBoot Reg.HIF_BOOT_FALLBACK 1).setBoot Reg.HIF_BOOT_WAIT 1
    else d
  else if d.flag Reg.CLK_STATUS_SOURCE && d.flag Reg.CLK_STATUS_ROOT_LOCK && !d.clk.tripped then
    (d.wr Reg.CLK_STATUS_SOURCE 0).setBoot Reg.HIF_BOOT_FALLBACK 0
  else d

/-- The management clock moves to FBO or to the root PLL (R366). -/
def execMgmtClockSwitch (toFbo : Bool) (s : State) : Host.Outcome State Fault Refusal :=
  s.run fun d => if d.powered then d.clockSwitch toFbo else d

/-- REFCLK has been valid for 64 µs (R359): what waits for it goes on. -/
def execRefclkValid (s : State) : Host.Outcome State Fault Refusal :=
  s.run fun d => if d.refJudged then (d.wr Reg.CLK_STATUS_REF_VALID 1).setBoot Reg.HIF_BOOT_WAIT 0 else d

/-- A try to relock the root PLL after a trip ends (R368): the device restarts with cause CLOCK, or after the last try
remains on fallback. -/
def Dev.relock (d : Dev) (locked : Bool) : Dev :=
  if !d.clk.tripped || !d.flag Reg.CLK_STATUS_REF_VALID || d.rd Reg.CLK_MON_RELOCK_TRIES ≤ d.clk.relocks then d
  else if locked then (d.wr Reg.CLK_STATUS_ROOT_LOCK 1).restart 3
  else
    let d : Dev := { d with clk := { d.clk with relocks := d.clk.relocks + 1 } }
    if d.clk.relocks = d.rd Reg.CLK_MON_RELOCK_TRIES then d.setErr Reg.CLK_ERR_RELOCK_FAIL else d

/-- A relock of the root PLL ends (R368). -/
def execRootPllRelock (locked : Bool) (s : State) : Host.Outcome State Fault Refusal :=
  s.run fun d => if d.powered then d.relock locked else d

/-- The ONFI PLL loses lock (R383). -/
def execOnfPllUnlock (s : State) : Host.Outcome State Fault Refusal :=
  s.run fun d =>
    if d.flag Reg.CLK_STATUS_ONF_LOCK then (d.wr Reg.CLK_STATUS_ONF_LOCK 0).setErr Reg.CLK_ERR_ONF_UNLOCK else d

/-! ## Gating (R354 to R357) -/

/-- A mechanism that unit `u` of CLK_GATE serves is out of OFF (R355). -/
def Dev.servesMotion (d : Dev) (u : Nat) : Bool :=
  let pk (p : Nat) : Bool := d.svoState p != 0 || d.spState (p / 2) != 0
  if u < 4 then (List.range 4).any fun i => pk (4 * u + i)
  else if u ≤ 9 then (List.range 16).any pk
  else false

/-- Unit `u` of CLK_GATE has work in flight (R355); the Brine cache counts as such unless it is OFF with no converted
way (R416). -/
def Dev.unitBusy (d : Dev) (u : Nat) : Bool :=
  match u with
  | 0 | 1 | 2 | 3 => (List.range 4).any fun i => d.portState (4 * u + i) != 0
  | 4 => d.reads.any (fun e => e.2.isSome) || d.spots.any (fun e => !e.2.wr.isEmpty || !e.2.full.isEmpty)
  | 5 => !d.yar.jobs.isEmpty || d.yar.eng.any (fun e => e.2.isSome) || !d.yar.clus.isEmpty
  | 6 => d.burns.any fun e => e.2.isSome
  | 7 => (List.range 16).any fun p => d.svoState p != 0
  | 8 => !d.coords.isEmpty || d.spins.any (fun e => e.2.start)
      || d.axes.any (fun e => e.2.kind != 0 || e.2.vel != 0 || e.2.wait || e.2.again || e.2.lowering || e.2.next.isSome)
  | 9 => d.cal.pk.any fun e => e.2.run.isSome
  | 10 => !d.sal.progs.isEmpty || !d.sal.reads.isEmpty || d.sal.gcVictim.isSome || !d.sal.pend.isEmpty
      || !d.sal.erasing.isEmpty || d.sal.sbs.any (fun e => e.2.state == 4) || d.sal.scan.isSome
  | 11 => !d.set.wants.isEmpty || !d.set.recovs.isEmpty
  | 12 => !d.peer.unacked.isEmpty || d.peer.training || d.linkUp
  | _ => d.rd Reg.BRC_STATUS_STATE != 0 || d.rd Reg.BRC_WAY_ST_SCRATCH != 0 || d.mmu.xfers.any (fun x => match x.what with | .hlmBack _ | .hlmFill _ => true | _ => false)

/-- The enable of unit `u` takes the value written (R354 to R356): a clear is refused while the unit has work in flight
or serves a mechanism out of OFF; an accepted clear waits for the idle handshake; a set restarts the clock and cancels
a pending closure. The enables that the variant lacks cannot be set. Neither a refused clear nor a set of a lacking enable is
a discarded write of R14 with a record 0x2001: R355 gives the first its own bit and record, and the second changes nothing
(the model's choice, assumption 81). -/
def Dev.gateBit (d : Dev) (val u : Nat) : Dev :=
  let on := (d.rd Reg.CLK_GATE_EN).testBit u
  if val.testBit u then
    if d.isAB && (u == 2 || u == 3) then d
    else (((d.setBit Reg.CLK_GATE_EN u).setBit Reg.CLK_GATE_ST_RUN u).clearBit Reg.CLK_GATE_ST_PEND u).autoWake u
  else if !on then d
  else if d.unitBusy u || d.servesMotion u then d.setErr Reg.CLK_ERR_GATE_REFUSED
  else
    let d := (d.autoWake u).clearBit Reg.CLK_GATE_EN u
    d.setBit Reg.CLK_GATE_ST_PEND u

/-- A write of CLK_GATE (R355). -/
def Dev.gateWrite (d : Dev) (val : Nat) : Dev := d.each 14 fun d u => d.gateBit val u

/-- The idle handshake of a unit whose enable was cleared: its clock stops (R356). -/
def execGateClosure (u : Fin 14) (s : State) : Host.Outcome State Fault Refusal :=
  s.run fun d =>
    if (d.rd Reg.CLK_GATE_ST_PEND).testBit u.val then (d.clearBit Reg.CLK_GATE_ST_PEND u.val).clearBit Reg.CLK_GATE_ST_RUN u.val
    else d

/-- No idle handshake within 1,024 cycles: the closure stays pending (R356). -/
def execGateTimeout (u : Fin 14) (s : State) : Host.Outcome State Fault Refusal :=
  s.run fun d => if (d.rd Reg.CLK_GATE_ST_PEND).testBit u.val then d.setErr Reg.CLK_ERR_GATE_TIMEOUT else d

/-- Unit `u` runs a class H deadline of Table 1-3 (R357): the ticks and the chopper slots of a front-end that is owned here. -/
def Dev.runsClassH (d : Dev) (u : Nat) : Bool :=
  (u == 7 || u == 8) && (List.range 16).any fun p => d.portUp p && d.owns p

/-- A unit that has stayed idle has its clocks stopped automatically (R357). -/
def execAutoGateIdle (u : Fin 14) (s : State) : Host.Outcome State Fault Refusal :=
  s.run fun d =>
    if (d.rd Reg.CLK_AUTO_EN).testBit u.val && (d.rd Reg.CLK_GATE_EN).testBit u.val && !d.unitBusy u.val
        && !d.servesMotion u.val && !d.runsClassH u.val then
      { d.clearBit Reg.CLK_GATE_ST_RUN u.val with clk := { d.clk with autoOff := d.clk.autoOff ||| (1#14 <<< u.val) } }
    else d

/-- A request to an automatically gated unit restarts its clocks (R357). -/
def execAutoGateWake (u : Fin 14) (s : State) : Host.Outcome State Fault Refusal :=
  s.run fun d => d.autoWake u.val

/-! ## CLKOUT (R358, R598) -/

/-- The frequency of a CLKOUT source in kHz. -/
def clkOutKhz (sel : Nat) : Nat := [156250, 1562500, 781250, 195313, 97657, 33, 10000, 156000].getD sel 0

/-- Whether CLKOUT drives its source: enabled, not above 200 MHz, and not held low by the safe latch unless the source
is TIDE (R358, R598). -/
def Dev.clkOut (d : Dev) : Dev :=
  let sel := d.rd Reg.CLK_OUT_SEL
  let ok := d.flag Reg.CLK_OUT_EN && decide (clkOutKhz sel ≤ 200000 * (d.rd Reg.CLK_OUT_DIV + 1)) && (!d.safe || sel == 5)
  { d with clk := { d.clk with clkout := ok } }

end Sys2Proof.Machine
end

