-- ==== Sys2Proof/Machine/Memory.lean ====
section
/-! DEFINITION. On-chip memory and the Brine cache: read checks (R394), remap (R396 to R398), critical words (R399 to
R401), and the cache with its fills, ways and drain (R406 to R416). -/

namespace Sys2Proof.Machine

open Sys2Proof

/-! ## Words -/

/-- A word that the part has and powers (R384). -/
def Dev.hasWord (d : Dev) (m : MemFault) : Bool :=
  decide (m.array ≤ 10) && (m.array == 10 || (decide (m.bank < banksOf m.array) && decide (m.word < wordsPerBank m.array)))
    && !(d.isAB && ((m.array == 3 && decide (256 ≤ m.bank)) || (m.array == 5 && decide (8 ≤ m.bank))))

/-! ## The Brine cache: lines (R406) -/

/-- The way of a line key (set · 16 + way). -/
def lineWay (key : Nat) : Nat := key % 16

/-- The HLM line number, offset [35:7], of a tag in the set of a line key. -/
def lineNumber (key tag : Nat) : Nat := tag * 16384 + key / 16

/-- Removes a line. -/
def Dev.dropLine (d : Dev) (key : Nat) : Dev :=
  { d with brine := { d.brine with lines := mset d.brine.lines none key none } }

/-- A bit of BRC_ERR with its line and way (Table 16-4a). -/
def Dev.brcErr (d : Dev) (f : Fld) (line : Nat := 0xFFFFFFFF) (way : Nat := 0xFF) : Dev :=
  let d := if line < 2 ^ 29 then d.wr Reg.BRC_LINE_ADDR_LINE line else d
  d.setErr f 0 0 0xFFFF 0 [(9, 4, line), (13, 1, way)]

/-- Starts the write-back of a dirty line (R407, R414). -/
def Dev.writeBack (d : Dev) (key cls : Nat) : Dev :=
  match mget d.brine.lines none key, d.mmu.hlm with
  | some l, some (asid, base, _) =>
    if d.mmu.xfers.any (fun x => x.what == .hlmBack key) then d
    else d.start (.hlmBack key) cls true asid (base + 128 * lineNumber key l.tag) 128
  | some _, none => d.dropLine key
  | none, _ => d

/-- Takes the line write-backs that are on the link: the line is no longer held. -/
def Dev.reapLines (d : Dev) : Dev :=
  (d.mmu.xfers.filter fun x => x.st == .done).foldl (fun d x =>
    match x.what with
    | .hlmBack key => ((d.dropX x.id).dropLine key).bump Reg.BRC_CNT_WB_COUNT
    | _ => d) d

/-! ## Disabling while dirty (R414, R415) -/

/-- The grant of host-lent memory is returned (R447); the staging index has no place until the next grant. -/
def Dev.hlmReturned (d : Dev) : Dev :=
  let d : Dev := { d with mmu := { d.mmu with hlm := none } }
  (d.wr Reg.SAL_STATUS_INDEX_READY 0).wr Reg.SAL_IDX_SIZE_LOG2 0

/-- The cache is OFF: what waits for that completes, and a grant that is being returned is gone (R414, R447). -/
def Dev.cacheOff (d : Dev) : Dev :=
  let d := d.wr Reg.BRC_STATUS_STATE 0
  let back := (d.waiting fun w => w == .cacheOff).any fun c =>
    match d.ctx c with | some k => k.e.op == 0x0A | none => false
  let d := if back then d.hlmReturned else d
  d.completeAll (fun w => w == .cacheOff) St.success

/-- The walk of R414 goes on from its position: clean lines are invalidated, dirty ones are written back, and it stops at
a write that has not gone out; a fault there takes the cache to PAUSED (R415). -/
def Dev.drainFrom (d : Dev) : List Nat → Dev
  | [] => (d.wr Reg.BRC_DRAIN_POS_SET 16383).wr Reg.BRC_DRAIN_POS_WAY 15
  | key :: t =>
    let d := (d.wr Reg.BRC_DRAIN_POS_SET (key / 16)).wr Reg.BRC_DRAIN_POS_WAY (key % 16)
    match mget d.brine.lines none key with
    | none => drainFrom d t
    | some l =>
      if !l.dirty then (d.dropLine key).drainFrom t
      else
        let d := (d.writeBack key 3).reapLines
        match d.mmu.xfers.find? (fun x => x.what == .hlmBack key) with
        | none => drainFrom d t
        | some x =>
          match x.st with
          | .parked _ =>
            if d.rd Reg.BRC_STATUS_STATE = 2 then
              (d.wr Reg.BRC_STATUS_STATE 3).brcErr Reg.BRC_ERR_WB_FAULT (lineNumber key l.tag) (lineWay key)
            else d
          | _ => d

/-- The drain walk goes on, if one is in progress. -/
def Dev.drain (d : Dev) : Dev :=
  let d := d.reapLines
  if d.rd Reg.BRC_STATUS_STATE = 2 || d.rd Reg.BRC_STATUS_STATE = 3 then
    let stuck := d.mmu.xfers.any fun x => match x.what, x.st with | .hlmBack _, .parked _ => true | _, _ => false
    let d := if d.rd Reg.BRC_STATUS_STATE = 3 && !stuck then d.wr Reg.BRC_STATUS_STATE 2 else d
    d.drainFrom (d.brine.lines.map (·.1))
  else d

/-- A request to disable the cache (R414): from ON to DRAINING. -/
def Dev.drainBegin (d : Dev) : Dev :=
  if d.rd Reg.BRC_STATUS_STATE = 1 then
    (((d.wr Reg.BRC_STATUS_STATE 2).wr Reg.BRC_DRAIN_POS_SET 0).wr Reg.BRC_DRAIN_POS_WAY 0).drain
  else d

/-! ## Ways (R409 to R413) -/

/-- Takes a way out of ALLOC and LOCK. -/
def Dev.wayLeave (d : Dev) (w : Nat) : Dev := (d.clearBit Reg.BRC_WAY_ALLOC w).clearBit Reg.BRC_WAY_LOCK w

/-- The lines of a way. -/
def Dev.linesOf (d : Dev) (w : Nat) : List Nat := (d.brine.lines.map (·.1)).filter fun k => lineWay k == w

/-- Writes back the dirty lines of a way and invalidates the clean ones (R410, R411). -/
def Dev.emptyWay (d : Dev) (w : Nat) : Dev :=
  ((d.linesOf w).foldl (fun (d : Dev) k =>
    match mget d.brine.lines none k with
    | some l => if l.dirty then d.writeBack k 3 else d.dropLine k
    | none => d) d).reapLines

/-- How many bits are set. -/
def popcount (v : Nat) : Nat := (List.range 16).countP v.testBit

/-- The firmware records disabled ways in the boot area (R413); those that a march disables, at step 8. -/
def Dev.recordWays (d : Dev) : Dev :=
  let boot := d.flash.boot
  let ways := boot.ways ||| BitVec.ofNat 16 (d.rd Reg.BRC_WAY_ST_DISABLED)
  if d.bootStep = 8 && ways != boot.ways then
    ({ d with flash := { d.flash with boot := { boot with ways := ways } } }).flashWrite (.boot 5)
  else d

/-- Automatic way disable (R411, R413): the way is emptied and leaves ALLOC and LOCK; with fewer than 2 ways left the
whole cache is disabled. -/
def Dev.wayOff (d : Dev) (w : Nat) : Dev :=
  if !d.flag Reg.BRC_CFG_AUTO_EN || (d.rd Reg.BRC_WAY_ST_DISABLED).testBit w then d
  else
    let left := popcount (d.rd Reg.BRC_WAY_ALLOC - d.rd Reg.BRC_WAY_ALLOC / 2 ^ w % 2 * 2 ^ w)
    let d := ((d.emptyWay w).wayLeave w).setBit Reg.BRC_WAY_ST_DISABLED w
    let d := (d.brcErr Reg.BRC_ERR_WAY_OFF (way := w)).recordWays
    if left < 2 then (d.drainBegin).brcErr Reg.BRC_ERR_CACHE_OFF else d

/-- A corrected error in a way: too many within AUTO_WIN disable it (R411). -/
def Dev.wayCe (d : Dev) (w line : Nat) : Dev :=
  let d := (d.bump Reg.BRC_CNT_CE_COUNT).brcErr Reg.BRC_ERR_CE line w
  let now := d.now.toNat / 1000000000
  let l := (d.brine.wayCe.filter fun e => decide (now < e.2 + d.rd Reg.BRC_CFG_AUTO_WIN)) ++ [(w, now)]
  let d : Dev := { d with brine := { d.brine with wayCe := l } }
  if d.rd Reg.BRC_CFG_AUTO_THR ≤ (l.countP fun e => e.1 == w) then d.wayOff w else d

/-- The line key that a word of the Brine arrays belongs to: tags have a bank per way and a word per set; each way has
4,096 words of every data bank, with the bank function of R385, and 16 words to a line (R384, R406, R410). -/
def brineKey (m : MemFault) : Nat :=
  if m.array = 2 then m.word * 16 + m.bank else ((m.word % 4096 * 64 + m.bank) / 16) * 16 + m.word / 4096

/-- A line that cannot be read is gone; if it was dirty, host memory keeps its older content (R412). -/
def Dev.lineLost (d : Dev) (key : Nat) : Dev :=
  match mget d.brine.lines none key with
  | none => d
  | some l =>
    let d := d.dropLine key
    if l.dirty then (d.bump Reg.BRC_CNT_CE_LOST).brcErr Reg.BRC_ERR_LINE_LOST (lineNumber key l.tag) (lineWay key) else d

/-! ## Remap (R396 to R398) -/

/-- Spares used in a bank. -/
def Dev.sparesUsed (d : Dev) (array bank : Nat) : Nat :=
  d.mem.remaps.foldl (fun n e => if e.1 / 2 ^ 20 = (array * 2 ^ 32 + bank * 2 ^ 20) / 2 ^ 20 then n + e.2 else n) 0

/-- A word takes a spare of its bank; MEM_SPARE_MAX shows the bank that has used most (R396). -/
def Dev.useSpare (d : Dev) (array bank word : Nat) : Dev :=
  let key := wordKey array bank word
  let d : Dev := { d with mem := { d.mem with remaps := mset d.mem.remaps 0 key (mget d.mem.remaps 0 key + 1) } }
  let used := d.sparesUsed array bank
  if d.rd Reg.MEM_SPARE_MAX_USED < used then
    ((d.wr Reg.MEM_SPARE_MAX_USED used).wr Reg.MEM_SPARE_MAX_BANK bank).wr Reg.MEM_SPARE_MAX_ARRAY array
  else d

/-- A bank has no spare left (R398): the scratchpad block is retired, a Brine way is disabled, and other words stay in
use under SECDED. -/
def Dev.noSpare (d : Dev) (m : MemFault) : Dev :=
  let d := (d.memErr Reg.MEM_ERR_SPARE_EXHAUSTED m.array m.bank m.word).wr Reg.MEM_STATUS_DEGRADED 1
  if m.array = 0 then
    let blk := wordIndex 0 m.bank m.word * 8 / 256
    if d.mem.retired.contains blk || 64 ≤ d.mem.retired.length then d
    else
      let d : Dev := { d with mem := { d.mem with retired := d.mem.retired ++ [blk] } }
      d.wr Reg.MEM_RETIRED_BLOCKS d.mem.retired.length
  else if m.array = 1 || m.array = 2 then d.wayOff (lineWay (brineKey m))
  else d

/-- A faulty word is moved to a spare of its bank (R396); `service` for remaps made in service, which the firmware saves
to the boot area (R397). The count of a word is how many spares it has taken. -/
def Dev.remapWord (d : Dev) (m : MemFault) (service : Bool) : Dev :=
  if 8 < m.array then d
  else if 16 ≤ d.sparesUsed m.array m.bank then d.noSpare m
  else
    let d := (d.useSpare m.array m.bank m.word).memErr Reg.MEM_ERR_REMAP m.array m.bank m.word
    if service then
      let d := d.bump Reg.MEM_CNT_UE_REMAP
      let l := d.mem.service ++ [wordKey m.array m.bank m.word]
      ({ d with mem := { d.mem with service := l }, flash := { d.flash with boot := { d.flash.boot with remaps := l } } }).flashWrite
        (.boot 4)
    else d

/-! ## Reads (R394) -/

/-- A read that meets a correctable error: it is corrected and written back, and the word is remapped at the
CE_REMAP-th time (R394, R396). -/
def Dev.readCe (d : Dev) (m : MemFault) : Dev :=
  let d := (d.bump Reg.MEM_CNT_CE_COUNT).memErr Reg.MEM_ERR_CE m.array m.bank m.word
  let d := (d.wr Reg.MEM_CE_LOC_ARRAY m.array).wr Reg.MEM_CE_LOC_WORD (wordIndex m.array m.bank m.word)
  let key := wordKey m.array m.bank m.word
  let n := mget d.mem.ceCount 0 key + 1
  let d : Dev := { d with mem := { d.mem with ceCount := mset d.mem.ceCount 0 key n } }
  let d := if m.array = 1 || m.array = 2 then
      let k := brineKey m
      d.wayCe (lineWay k) (match mget d.brine.lines none k with | some l => lineNumber k l.tag | none => 0xFFFFFFFF)
    else d
  if n = d.rd Reg.MEM_CFG_CE_REMAP then d.remapWord m true else d

/-- A poisoned word is delivered to its requester (R395): to the channel of a spot its oldest slot is as busy (R163), an engine
fails its check (R204), and a command whose context cannot be read ends with the internal error. The context of a word of array 7
is its index over 32, 256 bytes a context (DESIGN CHOICE, assumption 143). -/
def Dev.poisonTo (d : Dev) (m : MemFault) : Dev :=
  if m.array = 3 then
    let x := d.spot m.bank
    match x.full ++ x.wr with
    | f :: _ =>
      let d := d.setSpot m.bank { x with full := x.full.filter (· != f), wr := x.wr.filter (· != f) }
      (d.errOnce Reg.RCH_ERR_SLOT_BUSY m.bank m.bank f.addr).missFrames m.bank [faFrame f.addr]
    | [] => d
  else if m.array = 4 then
    match mget d.yar.eng none m.bank with
    | some w => d.engineFault m.bank w
    | none => d
  else if m.array = 7 then
    let c := wordIndex 7 m.bank m.word / 32
    if (d.ctx c).isSome then d.quit c St.internalError else d
  else d

/-- A read that meets an uncorrectable error: the word is poisoned and remapped (R394); in the Brine cache the line is
lost, and a tag takes its way out (R411, R412). -/
def Dev.readUe (d : Dev) (m : MemFault) : Dev :=
  let d := (d.bump Reg.MEM_CNT_UE_COUNT).memErr Reg.MEM_ERR_UE m.array m.bank m.word
  let d := (d.wr Reg.MEM_UE_LOC_ARRAY m.array).wr Reg.MEM_UE_LOC_WORD (wordIndex m.array m.bank m.word)
  let d := if m.array = 1 || m.array = 2 then
      let k := brineKey m
      let line := match mget d.brine.lines none k with | some l => lineNumber k l.tag | none => 0xFFFFFFFF
      if m.array = 1 then (d.brcErr Reg.BRC_ERR_UE_DATA line (lineWay k)).lineLost k
      else ((d.brcErr Reg.BRC_ERR_UE_TAG line (lineWay k)).lineLost k).wayOff (lineWay k)
    else d
  (d.poisonTo m).remapWord m true

/-- The word of the Brine data array that has become invalid reads zero: eight bytes of its line (R392). -/
def Dev.zeroInLine (d : Dev) (m : MemFault) : Dev :=
  let key := brineKey m
  match mget d.brine.lines none key with
  | none => d
  | some l =>
    let at_ := m.bank % 16 * 8
    let l := { l with data := l.data.take at_ ++ List.replicate (min 8 (l.data.length - at_)) 0 ++ l.data.drop (at_ + 8) }
    { d with brine := { d.brine with lines := mset d.brine.lines none key (some l) } }

/-- A valid row that cannot be corrected: its 64 words are invalid (R394). A row of tags takes its lines with it, as lines that
cannot be read (R412); the words of a row of line data read zero. -/
def Dev.validUe (d : Dev) (m : MemFault) : Dev :=
  let d := d.memErr Reg.MEM_ERR_VALID_ERR m.array m.bank m.word
  let d : Dev := { d with mem := d.mem.setRow (wordKey m.array m.bank m.word) 0 }
  let words := (List.range 64).map fun i => { m with word := m.word / 64 * 64 + i }
  if m.array = 2 then words.foldl (fun d w => d.lineLost (brineKey w)) d
  else if m.array = 1 then words.foldl (fun d w => d.zeroInLine w) d
  else d

/-- A read of a word of an array held elsewhere in State that is not as stored (Table 11-2). -/
def Dev.memRead (d : Dev) (m : MemFault) : Dev :=
  if !d.hasWord m then d
  else match eccFlips m.flips with
    | .clean => d
    | .corrected _ => d.readCe m
    | .bad => if m.validRow then d.validUe m else d.readUe m

/-! ## Scratchpad words (R385 to R389, R391, R392, R395) -/

/-- The array, bank and word of an internal address: the scratchpad, and after it the ways converted to scratchpad, way 15
first (R385, R388, R410). -/
def Dev.scratchAt (d : Dev) (addr : Nat) : Option (Nat × Nat × Nat) :=
  if addr < 0x1000000 then some (0, bankOf addr, addr / 512)
  else
    let n := addr / 0x200000 - 8
    if n < 8 && (d.rd Reg.BRC_WAY_ST_SCRATCH).testBit (15 - n) then
      some (1, bankOf addr, (15 - n) * 4096 + addr % 0x200000 / 512)
    else none

/-- A user that may access the secure part (R389). -/
def mayEnter : MemUser → Bool
  | .mgmt _ secure => secure
  | .dma _ => false

/-- Whether the secure part refuses a request (R389). -/
def reqDenied (r : MemReq) : Bool := decide (0xFC0000 ≤ r.addr) && decide (r.addr < 0x1000000) && !mayEnter r.user

/-- The check of a valid row on a read (R394). -/
def Dev.checkRow (d : Dev) (a b w : Nat) : Dev :=
  let m : MemFault := { array := a, bank := b, word := w, validRow := true, flips := [] }
  let key := wordKey a b w
  match eccCheck (d.mem.row key) with
  | .clean => d
  | .corrected c => ({ d with mem := d.mem.setRow key c }).readCe m
  | .bad => d.validUe m

/-- The read of a word (R392, R394, R395): its value and poison mark. A word that is not valid reads zero unchecked; a
poisoned word stays so until its next full write (R396). -/
def Dev.sramRead (d : Dev) (a b w : Nat) : (BitVec 64 × Bool) × Dev :=
  let m : MemFault := { array := a, bank := b, word := w, validRow := false, flips := [] }
  let key := wordKey a b w
  let d := d.checkRow a b w
  let c := d.mem.stored key
  if !d.mem.valid key then ((0, false), d)
  else if d.mem.poisoned.contains key then ((eccData c, true), d)
  else match eccCheck c with
    | .clean => ((eccData c, false), d)
    | .corrected x => ((eccData x, false), ({ d with mem := d.mem.setStored key x }).readCe m)
    | .bad => ((eccData c, true), ({ d with mem := { d.mem with poisoned := d.mem.poisoned ++ [key] } }).readUe m)

/-- The bytes of `v` that a mask names over those of `old`. -/
def mergeBytes (old v : BitVec 64) (mask : BitVec 8) : BitVec 64 :=
  let m : BitVec 64 := BitVec.ofNat 64 ((List.range 8).foldl (fun a i => if mask.getLsbD i then a + 255 * 256 ^ i else a) 0)
  (old &&& ~~~m) ||| (v &&& m)

/-- The write of a word (R392): a partial write to a valid word is a read-modify-write with correction, and to any other
takes the unwritten bytes as zero. A full write clears poison (R396). -/
def Dev.sramWrite (d : Dev) (a b w : Nat) (v : BitVec 64) (mask : BitVec 8) : Dev :=
  let key := wordKey a b w
  if mask == 0xFF then
    { d with mem := { d.mem.put key v with poisoned := d.mem.poisoned.filter (· != key) } }
  else
    let (old, d) := d.sramRead a b w
    { d with mem := d.mem.put key (mergeBytes old.1 v mask) }

/-- A granted request (R387 to R389, R392). A request that the secure part refuses, or beyond the scratchpad that is
present, reads zero, discards its write and makes a record; beyond the scratchpad that is the record of a discarded access
(DESIGN CHOICE, assumption 87). -/
def Dev.grantReq (d : Dev) (r : MemReq) : Dev :=
  let zero (d : Dev) : Dev := if r.write.isNone then d.send (.memData r.user r.addr 0 false) else d
  if reqDenied r then zero (d.memErr Reg.MEM_ERR_SECURE_DENIED 0 (bankOf r.addr) (r.addr / 512))
  else
    match d.scratchAt r.addr with
    | none => zero (d.record 0x2001 13 1 (payload [(0, 4, r.addr), (4, 4, (r.write.elim 0 (·.1.toNat)) % 2 ^ 32)]))
    | some (a, b, w) =>
      match r.write with
      | some (v, mask) => d.sramWrite a b w v mask
      | none =>
        let (x, d) := d.sramRead a b w
        d.send (.memData r.user r.addr x.1 x.2)

/-- The place of a user in the order of service of a bank: the management processors in their order, then the DMA classes
in theirs (R385, Table 1-2). -/
def bankRank : MemUser → Nat
  | .mgmt i _ => i.val
  | .dma c => 4 + c.val

/-- The request that a bank serves among those that wait: of the least rank, the oldest. -/
def bankPick (b : Nat) (q : List (MemReq × Nat)) : Option (MemReq × Nat) :=
  (q.filter fun e => bankOf e.1.addr == b).foldl (fun o e =>
    match o with
    | none => some e
    | some x => if bankRank e.1.user < bankRank x.1.user then some e else some x) none

/-- One CORE cycle: each bank grants one request, and the others wait; MEM_DMA_WAIT keeps the longest wait of a DMA word
(R385, R386). -/
def Dev.memCycle (d : Dev) (new : List MemReq) : Dev :=
  let q := d.mem.queue ++ new.map fun r => (r, 0)
  let won := (List.range 64).filterMap fun b => bankPick b q
  let rest := won.foldl (fun (l : List (MemReq × Nat)) e => l.erase e) q
  let d : Dev := { d with mem := { d.mem with queue := rest.map fun e => (e.1, e.2 + 1) } }
  won.foldl (fun d e =>
    let dma := match e.1.user with | .dma _ => true | .mgmt _ _ => false
    let d := if dma && decide (d.rd Reg.MEM_DMA_WAIT_MAX < min 255 e.2) then d.wr Reg.MEM_DMA_WAIT_MAX (min 255 e.2) else d
    d.grantReq e.1) d

/-- An event of the memory system: a fault in a scratchpad word or its row flips the stored bits and is found by a read of
that word; a fault elsewhere is a read of Table 11-2. -/
def Dev.memEvent (d : Dev) (e : MemEvent) : Dev :=
  match e with
  | .cycle l => d.memCycle l
  | .fault m =>
    if m.array = 0 && d.hasWord m then
      let key := wordKey m.array m.bank m.word
      let x := bitsAt m.flips
      let d : Dev := { d with mem := if m.validRow then d.mem.setRow key (d.mem.row key ^^^ x)
                                       else d.mem.setStored key (d.mem.stored key ^^^ x) }
      (d.sramRead m.array m.bank m.word).2
    else d.memRead m

/-! ## Critical words (R399 to R401) -/

/-- The value of a critical word is `v` in every copy. -/
def Dev.setCritical (d : Dev) (w : Nat) (v : BitVec 64) : Dev :=
  { d with mem := { d.mem with critical := mset d.mem.critical 0 w v.toNat } }

/-- A copy of a critical word is outvoted and rewritten. -/
def Dev.outvoted (d : Dev) (w bank : Nat) (v : BitVec 64) : Dev :=
  ((d.setCritical w v).bump Reg.MEM_CNT_VOTE_VOTE).memErr Reg.MEM_ERR_VOTE 9 bank w

/-- A critical word is lost in every copy: the safe latch is set and the device restarts (R401). -/
def Dev.criticalLost (d : Dev) (w : Nat) : Dev :=
  let d := d.memErr Reg.MEM_ERR_CRIT_LOST 9 3 w
  (d.wr Reg.CLK_STATUS_SAFE 1).restart 5

/-- The read of a critical word under the vote (R399). -/
def Dev.critRead (d : Dev) (f : CritFault) : Dev :=
  if 1024 ≤ f.word then d
  else if f.a = f.b && f.b = f.c then d
  else if f.a = f.b then d.outvoted f.word 2 f.a
  else if f.a = f.c then d.outvoted f.word 1 f.a
  else if f.b = f.c then d.outvoted f.word 0 f.b
  else
    let d := (d.bump Reg.MEM_CNT_VOTE_SHADOW).memErr Reg.MEM_ERR_SHADOW_USED 9 3 f.word
    match eccCheck f.shadow with
    | .clean => d.setCritical f.word (eccData f.shadow)
    | .corrected c => d.setCritical f.word (eccData c)
    | .bad => d.criticalLost f.word

/-- The scrub walk over the critical words that do not agree; a word that is lost restarts the device and ends it (R401). -/
def Dev.scrub (d : Dev) : List CritFault → Dev
  | [] => d
  | f :: t =>
    let e := d.critRead f
    if e.bootStep = d.bootStep then e.scrub t else e

/-- The scrub walk of every SCRUB_INT (R400): the critical words that do not agree, up to one that is lost. The row carries
what the memory system has done since the last walk (R385, R394; assumption 89), which the walk's enable does not stop. -/
def execScrubWalk (fs : List CritFault) (ms : List MemEvent) (s : State) : Host.Outcome State Fault Refusal :=
  s.run fun d =>
    if !d.powered then d
    else
      let d := ms.foldl Dev.memEvent d
      if d.flag Reg.MEM_CFG_SCRUB_EN && !d.safe then d.scrub fs else d

/-! ## Fills (R406 to R408) -/

/-- The tree of a set after way `w` is used: every node on its path points away from it. -/
def plruTouch (tree w : Nat) : Nat :=
  let put (t node bit : Nat) : Nat := t - t / 2 ^ node % 2 * 2 ^ node + bit * 2 ^ node
  let b (i : Nat) : Nat := w / 2 ^ i % 2
  let t := put tree 0 (1 - b 3)
  let t := put t (1 + b 3) (1 - b 2)
  let t := put t (3 + 2 * b 3 + b 2) (1 - b 1)
  put t (7 + 4 * b 3 + 2 * b 2 + b 1) (1 - b 0)

/-- The way that the tree points to among those allowed: a subtree without an allowed way is passed over. -/
def plruVictim (tree : Nat) (ok : Nat → Bool) : Nat :=
  let step (node lo n : Nat) : Nat :=
    let bit := tree / 2 ^ node % 2
    let has (h : Nat) : Bool := (List.range (n / 2)).any fun i => ok (lo + h * (n / 2) + i)
    if has bit then bit else 1 - bit
  let a := step 0 0 16
  let b := step (1 + a) (8 * a) 8
  let c := step (3 + 2 * a + b) (8 * a + 4 * b) 4
  let e := step (7 + 4 * a + 2 * b + c) (8 * a + 4 * b + 2 * c) 2
  8 * a + 4 * b + 2 * c + e

/-- A line is used. -/
def Dev.useLine (d : Dev) (key : Nat) : Dev :=
  let set := key / 16
  { d with brine := { d.brine with plru := mset d.brine.plru 0 set (plruTouch (mget d.brine.plru 0 set) (key % 16)) } }

/-- A fill returns its line (R406 to R408): a fill that meets an open fault allocates nothing; else the line goes to the
least recently used way of its set that may receive fills, whose own line is written back first if it is dirty, in the DMA
class of the requester of the miss (Table 1-2). The
requester may write the line it waited for, which the spec leaves to the firmware (assumption 2). -/
def Dev.fillDone (d : Dev) (cls line : Nat) (data : List Byte) : Dev :=
  match d.mmu.hlm with
  | none => d
  | some (asid, base, size) =>
    let set := line % 16384
    let va := base + 128 * line
    let held := (List.range 16).find? fun w => match mget d.brine.lines none (set * 16 + w) with
      | some l => l.tag == line / 16384 | none => false
    if d.rd Reg.BRC_STATUS_STATE = 0 || size ≤ 128 * line then d
    else if d.rd Reg.BRC_STATUS_STATE != 1 then
      -- while the cache drains a hit is served and a miss allocates nothing (R414, R415)
      match held with
      | some w => (d.bump Reg.BRC_CNT_HIT_COUNT).useLine (set * 16 + w)
      | none => d.bump Reg.BRC_CNT_MISS_COUNT
    else if d.mmu.faults.any (fun f => f.asid == asid && f.va / 4096 == va / 4096 && !f.write) then
      (d.bump Reg.BRC_CNT_MISS_COUNT).brcErr Reg.BRC_ERR_FILL_FAULT line
    else
      match held with
      | some w => (d.bump Reg.BRC_CNT_HIT_COUNT).useLine (set * 16 + w)
      | none =>
        let d := d.bump Reg.BRC_CNT_MISS_COUNT
        let at_ (w : Nat) : Option Line := mget d.brine.lines none (set * 16 + w)
        let may (w : Nat) : Bool := (d.rd Reg.BRC_WAY_ALLOC).testBit w
          && (match at_ w with | some l => !l.stuck | none => true)
        if !(List.range 16).any may then d
        else
          let w := match (List.range 16).find? (fun w => may w && (at_ w).isNone) with
            | some w => w
            | none => plruVictim (mget d.brine.plru 0 set) may
          let key := set * 16 + w
          let d := match at_ w with
            | some l => if l.dirty then (d.writeBack key cls).reapLines else d.dropLine key
            | none => d
          match mget d.brine.lines none key with
          | some l =>
            -- the write of the evicted line has not gone out: it is locked in place (R408)
            { d with brine := { d.brine with lines := mset d.brine.lines none key (some { l with stuck := true }) } }
          | none =>
            let (dirty, d) := d.draw 1
            let new : Line := { tag := line / 16384, dirty := dirty == 1, stuck := false, data := data.take 128 }
            ({ d with brine := { d.brine with lines := mset d.brine.lines none key (some new) } }).useLine key

/-- A Brine cache fill returns its line (R407); the arrays may show an error on the way (R394). -/
def execBrineFillDone (cls : Fin 4) (line : Nat) (fill : BrineFill) (s : State) : Host.Outcome State Fault Refusal :=
  State.runUnit 13 s fun d =>
    let d := match fill.err with
      | some m => if m.array = 1 || m.array = 2 then d.memRead m else d
      | none => d
    d.fillDone cls line fill.data

/-- The drain walk passes the last line with no dirty line left: the cache is OFF (R415). -/
def execCacheDrainDone (s : State) : Host.Outcome State Fault Refusal :=
  State.runUnit 13 s fun d =>
    let d := d.drain
    if d.rd Reg.BRC_STATUS_STATE = 2 && d.dirtyLines = 0 then d.cacheOff else d

/-! ## SET FEATURE CACHE (R409, R410, R414, R416) -/

/-- A SET FEATURE command of a feature. -/
def isFeature (id : Nat) (e : Sqe) : Bool := e.op == 0x09 && e.at 40 == id

/-- A SET FEATURE CACHE command of an action. -/
def isCache (action : Nat) (e : Sqe) : Bool := isFeature 0x04 e && e.at 41 == action

/-- Enables the cache; a drain walk stops (R416). -/
def execCacheEnable (c : Nat) (s : State) : Host.Outcome State Fault Refusal :=
  State.runUnit 13 s fun d => d.command c (isCache 0) { b := [40, 41] } fun d _ =>
    let d : Dev := { d with mmu := { d.mmu with xfers := d.mmu.xfers.filter fun x =>
      match x.what with | .hlmBack _ => x.st == .done | _ => true } }
    let d : Dev := { d with brine := { d.brine with lines := d.brine.lines.map fun e =>
      (e.1, e.2.map fun (l : Line) => { l with stuck := false }) } }
    (d.wr Reg.BRC_STATUS_STATE 1).complete c St.success

/-- Disables the cache; the command completes at OFF (R414, R415). -/
def execCacheDisable (c : Nat) (s : State) : Host.Outcome State Fault Refusal :=
  State.runUnit 13 s fun d => d.command c (isCache 1) { b := [40, 41] } fun d _ =>
    if d.rd Reg.BRC_STATUS_STATE = 0 then d.complete c St.success else (d.await c .cacheOff).drainBegin

/-- Requests new ALLOC and LOCK masks (R409): a locked way is never in ALLOC, and a disabled or converted way is in
neither. -/
def execCacheMasks (c : Nat) (s : State) : Host.Outcome State Fault Refusal :=
  State.runUnit 13 s fun d => d.command c (isCache 2) { b := [40, 41, 44, 45, 46, 47] } fun d k =>
    let alloc := k.e.le 44 2
    let lock := k.e.le 46 2
    let gone := d.rd Reg.BRC_WAY_ST_DISABLED ||| d.rd Reg.BRC_WAY_ST_SCRATCH
    if alloc &&& lock != 0 || (alloc ||| lock) &&& gone != 0 then d.complete c St.invalidField
    else ((d.wr Reg.BRC_WAY_ALLOC alloc).wr Reg.BRC_WAY_LOCK lock).complete c St.success

/-- The conversions that wait for their ways to be written back end once no line of those ways is left (R410). -/
def Dev.convertDone (d : Dev) (c n : Nat) : Dev :=
  let ways := (List.range n).map (15 - ·)
  if ways.all fun w => (d.linesOf w).isEmpty then
    let old := d.rd Reg.BRC_WAY_ST_SCRATCH
    let new := ways.foldl (fun m w => m + 2 ^ w) 0
    let d := ways.foldl (fun d w => d.wayLeave w) d
    -- a way converted back is a cache way again and receives fills
    let back := (List.range 16).filter fun w => old.testBit w && !new.testBit w
    -- a way that changes over loses what it holds
    let d : Dev := { d with mem := d.mem.clear fun key =>
      key / 2 ^ 32 == 1 && old.testBit (key % 2 ^ 20 / 4096) != new.testBit (key % 2 ^ 20 / 4096) }
    let d := back.foldl (fun d w =>
      if (d.rd Reg.BRC_WAY_ST_DISABLED).testBit w then d else d.setBit Reg.BRC_WAY_ALLOC w) d
    (d.wr Reg.BRC_WAY_ST_SCRATCH new).complete c St.success
  else d

/-- What waits for lines of the cache goes on. -/
def Dev.linesMoved (d : Dev) : Dev :=
  let d := d.drain
  (d.waiting fun w => w == .hlmBack).foldl (fun d c =>
    match d.ctx c with
    | some k => if isCache 3 k.e then d.convertDone c (k.e.at 42) else d
    | none => d) d

/-- Converts ways 15 downward to scratchpad, or back to cache (R410). -/
def execCacheConvert (c : Nat) (s : State) : Host.Outcome State Fault Refusal :=
  State.runUnit 13 s fun d => d.command c (isCache 3) { b := [40, 41, 42] } fun d k =>
    let n := k.e.at 42
    if 8 < n then d.complete c St.invalidField
    else
      let d := (List.range n).foldl (fun d i => (d.emptyWay (15 - i)).wayLeave (15 - i)) d
      (d.await c .hlmBack).convertDone c n

end Sys2Proof.Machine
end

