-- ==== Sys2Proof/Machine/Queues.lean ====
section
/-! DEFINITION. The queue engine: polling, fetch and arbitration, error stops, and the commands that make, end and
inspect queues (R449 to R475). -/

namespace Sys2Proof.Machine

open Sys2Proof

/-! ## Error stops (R467) -/

/-- Drops the fetch of an SQ that is under way. -/
def Dev.dropFetch (d : Dev) (q : Nat) : Dev :=
  { d with mmu := { d.mmu with xfers := d.mmu.xfers.filter fun x => x.what != .sqFetch q } }

/-- An SQ enters ERROR with an index and a cause (Table 13-3); one that is being disabled, or has stopped before,
stays as it is. -/
def Dev.errorStop (d : Dev) (q idx cause : Nat) : Dev :=
  match d.sq q with
  | none => d
  | some s =>
    if s.state = 1 || s.state = 3 then d
    else
      let d := (d.setSq q (some { s with state := 3, latched := idx, cause := cause })).dropFetch q
      let d := (d.setErr Reg.QUE_ERR_STOP).bump Reg.QUE_CNT_STOP_STOPS
      (d.record 0x4001 3 3 (payload [(0, 2, q), (2, 2, idx), (4, 1, cause)]) 0 0 q 0).mirror q

/-! ## Fetch and arbitration (R461, R462) -/

/-- How many entries a turn of an SQ may fetch now: at most 8, up to the end of the ring, and no more than there are
contexts for. -/
def Dev.mayFetch (d : Dev) (q : Nat) : Nat :=
  match d.sq q with
  | none => 0
  | some s =>
    if s.state != 0 || d.mmu.xfers.any (fun x => x.what == .sqFetch q) then 0
    else
      let ready := (s.tail + s.size - s.fetch) % s.size
      let admin := d.que.ctxs.countP fun e => decide (e.1 < 64)
      let room := if q = 0 then 64 - admin else 16320 - (d.que.ctxs.length - admin)
      let room := if s.limit = 0 then room else min room (s.limit - (d.ctxsOf q).length)
      min (min 8 ready) (min (s.size - s.fetch) room)

/-- The next of some SQs after the one served last, round robin. -/
def nextAfter (last : Nat) (l : List Nat) : Option Nat := (l.find? fun q => decide (last < q)).or l.head?

/-- The SQ that the next turn serves (R462): the admin SQ, then priority 0, then priorities 1 to 3 by weighted round
robin. -/
def Dev.pickSq (d : Dev) : Option (Nat × Dev) :=
  let can := (d.que.sqs.map (·.1)).filter fun q => decide (0 < d.mayFetch q)
  let at_ (p : Nat) : List Nat := can.filter fun q => match d.sq q with | some s => s.prio == p | none => false
  let serve (p q : Nat) (credits : List Nat) : Option (Nat × Dev) :=
    some (q, { d with que := { d.que with last := d.que.last.set p q, credits := credits } })
  if can.contains 0 then some (0, d)
  else
    match nextAfter (d.que.last.getD 0 0) (at_ 0) with
    | some q => serve 0 q d.que.credits
    | none =>
      let some_ := [1, 2, 3].filter fun p => !(at_ p).isEmpty
      let credits := if some_.any (fun p => decide (0 < d.que.credits.getD (p - 1) 0)) then d.que.credits else d.que.weights
      match some_.find? (fun p => decide (0 < credits.getD (p - 1) 0)) with
      | some p =>
        match nextAfter (d.que.last.getD p 0) (at_ p) with
        | some q => serve p q (credits.set (p - 1) (credits.getD (p - 1) 0 - 1))
        | none => none
      | none => none

/-- Starts the next fetch, unless one is under way. -/
def Dev.fetchNext (d : Dev) : Dev :=
  if !d.flag Reg.QUE_STATUS_ENABLED || d.flag Reg.QUE_STATUS_POLL_STOPPED then d
  else if d.mmu.xfers.any (fun x => match x.what, x.st with
      | .sqFetch _, .parked _ => false
      | .sqFetch _, _ => true
      | _, _ => false) then d
  else
    match d.pickSq with
    | some (q, d) =>
      match d.sq q with
      | some s => d.start (.sqFetch q) 0 false s.asid (s.base + 64 * s.fetch) (64 * d.mayFetch q)
      | none => d
    | none => d

/-- The lowest free context that an SQ may take (R461). -/
def Dev.freeCtx (d : Dev) (q : Nat) : Option Nat :=
  ((List.range (if q = 0 then 64 else 16320)).map fun i => if q = 0 then i else i + 64).find? fun c => (d.ctx c).isNone

/-- A sub-action that Tables 13-8, 13-9 and 13-12 do not define; such a command has no row of its own. -/
def rowless (e : Sqe) : Bool :=
  let op := e.op
  (op == 0x09 && (e.at 40 == 0 || 8 < e.at 40 || (e.at 40 == 4 && 3 < e.at 41)))
    || (op == 0x0C && 1 < e.at 42) || (op == 0x10 && 2 < e.at 41) || (op == 0x11 && 1 < e.at 40)
    || (op == 0x1B && 2 < e.at 40) || (op == 0x1C && 3 < e.at 40) || (op == 0x20 && 3 < e.at 41)
    || (op == 0x31 && 1 < e.at 43) || (op == 0x3C && 1 < e.at 40) || (op == 0x40 && 4 < e.at 40)
    || (op == 0x41 && 4 < e.at 41)

/-- The cause for which an entry is malformed (Table 13-3), if any. -/
def Dev.malformed (d : Dev) (q : Nat) (s : Sq) (e : Sqe) : Option Nat :=
  if (match d.cq s.cq with | some c => c.err | none => true) then some 5
  else if (d.ctxsOf q).any fun c => match d.ctx c with | some k => k.e.cid == e.cid | none => false then some 2
  else if knownOp e.op && (if q = 0 then decide (0x80 ≤ e.op) else decide (e.op < 0x80)) then some 3
  else none

/-- Takes fetched entries of an SQ in order: each takes a context, up to the first that is malformed, which is
discarded with those after it (R461, R467). A command that no row serves ends at once. -/
def Dev.takeEntries (d : Dev) (q : Nat) : List Sqe → Dev
  | [] => d
  | e :: t =>
    match d.sq q with
    | none => d
    | some s =>
      match d.malformed q s e with
      | some cause =>
        let d := d.setSq q (some { s with discarded := s.discarded + (t.length + 1) })
        (d.bump Reg.QUE_CNT_STOP_DISCARDS (t.length + 1)).errorStop q s.fetch cause
      | none =>
        match d.freeCtx q with
        | none => d
        | some c =>
          let k : Ctx := {
            sq := q, slot := s.fetch, e := e, wait := .fresh, mute := false, buf := [], seals := [], todo := [],
            acc0 := 0, acc1 := 0, got := [], stop := none, st := 0, after := [], order := d.que.nextOrder }
          let d := d.setSq q (some { s with fetch := (s.fetch + 1) % s.size, slots := s.slots ++ [false] })
          let d : Dev := { d with que := { d.que with nextOrder := d.que.nextOrder + 1 } }
          let d := d.setCtx c (some k)
          let d := d.wr Reg.QUE_CTX_MAX (max (d.rd Reg.QUE_CTX_MAX) d.que.ctxs.length)
          let d := if !knownOp e.op || rowless e then
              d.command c (fun _ => true) {} fun d _ => d.complete c St.invalidField
            else d
          d.takeEntries q t

/-- The entries of the fetch of an SQ arrive (R461, R467). -/
def Dev.entriesFetched (d : Dev) (q : Nat) (entries : List Sqe) : Dev :=
  match d.sq q, d.mmu.xfers.find? (fun x => x.what == .sqFetch q) with
  | some s, some x =>
    if x.st == .done || x.st == .issued x.left then
      let n := (x.va + x.left - (s.base + 64 * s.fetch)) / 64
      let l := entries.take n
      (((d.dropX x.id).bump Reg.QUE_CNT_FETCH_COUNT l.length).takeEntries q l).fetchNext
    else d
  | _, _ => d

/-- Fetched entries take contexts and start, in arbitration order (R461, R467). -/
def execSqEntryFetch (q : Nat) (entries : List Sqe) (s : State) : Host.Outcome State Fault Refusal :=
  s.run fun d => d.entriesFetched q entries

/-! ## Polling (R453 to R455) -/

/-- A tail slot of an SQ is read: a value not below the size stops an ENABLED SQ (R467). -/
def Dev.readTail (d : Dev) (q tail : Nat) : Dev :=
  match d.sq q with
  | none => d
  | some s =>
    let t := tail % 65536
    if s.size ≤ t then (if s.state = 0 then d.errorStop q s.fetch 1 else d)
    else d.setSq q (some { s with tail := t })

/-- A head slot of a CQ is read; a value outside the ring releases nothing. -/
def Dev.readHead (d : Dev) (c head : Nat) : Dev :=
  match d.cq c with
  | some q => if q.size ≤ head % 65536 then d else d.setCq c (some { q with head := head % 65536 })
  | none => d

/-- The head of a ring that the device writes. -/
def DevRing.released (r : DevRing) (size head : Nat) : DevRing :=
  if size ≤ head % 65536 then r else { r with head := head % 65536 }

/-- One poll of the doorbell area (R453, R454). -/
def Dev.poll (d : Dev) (rd : DoorbellRead) : Dev :=
  if !d.flag Reg.QUE_STATUS_ENABLED || d.flag Reg.QUE_STATUS_POLL_STOPPED || !d.bme then d
  else
    match rd.fault with
    | some (type, va) => d.adminFault 0 type.val va
    | none =>
      let changed := (List.range 16).filter fun g => (rd.counters.getD g 0).toNat != mget d.que.gens 0 g
      let d : Dev := changed.foldl (fun (d : Dev) g =>
        { d with que := { d.que with gens := mset d.que.gens 0 g (rd.counters.getD g 0).toNat } }) d
      let d : Dev := { d with mmu := { d.mmu with
        faultRing := d.mmu.faultRing.released (d.ringSize 2) rd.faultHead,
        eventRing := d.mmu.eventRing.released (d.ringSize 3) rd.eventHead } }
      let d := (d.readHead 0 rd.adminCqHead).readTail 0 rd.adminTail
      let d := rd.cqHeads.foldl (fun d e => d.readHead e.1 e.2) d
      let d := (rd.tails.filter fun e => decide (0 < e.1) && changed.contains ((e.1 - 1) / 32)).foldl
        (fun d e => d.readTail e.1 e.2) d
      d.fetchNext

/-- One poll of the doorbell area (R453). -/
def execDoorbellPoll (rd : DoorbellRead) (s : State) : Host.Outcome State Fault Refusal := s.run fun d => d.poll rd

/-- COALESCE.TIME after the first unsignalled entry the CQ signals its vector (R475). -/
def execCoalesceTimeout (cq : Nat) (s : State) : Host.Outcome State Fault Refusal :=
  s.run fun d =>
    match d.cq cq with
    | some q => if q.unsig = 0 then d else (d.setCq cq (some { q with unsig := 0 })).msix q.vector
    | none => d

/-! ## Disabling (R469) -/

/-- An entry fetched and not started is discarded. -/
def Dev.discardEntry (d : Dev) (c : Nat) (k : Ctx) : Dev :=
  let d := (d.setCtx c none).bump Reg.QUE_CNT_STOP_DISCARDS
  match d.sq k.sq with
  | some s => d.setSq k.sq (some { s with discarded := s.discarded + 1 })
  | none => d

/-- A completion made and not yet written is suppressed. -/
def Dev.dropHeld (d : Dev) (c : Nat) (k : Ctx) : Dev :=
  let n := d.cqOf k.sq
  match d.cq n with
  | some q => d.setCq n (some { q with held := q.held.filter fun e => e.ctx != c })
  | none => d

/-- An SQ goes to DISABLING (R469): entries not started are discarded, and started commands end inside the device
without a completion. -/
def Dev.disableSq (d : Dev) (q : Nat) : Dev :=
  match d.sq q with
  | none => d
  | some s =>
    let cs := d.ctxsOf q
    let d := ((d.setSq q (some { s with state := 1 })).dropFetch q).mirror q
    let d := cs.foldl (fun d c =>
      match d.ctx c with
      | some k =>
        if k.wait == .fresh then d.discardEntry c k
        else if k.wait == .finished then (d.dropHeld c k).endMuted c
        else (d.setCtx c (some { k with mute := true })).quit c St.success
      | none => d) d
    (d.checkDisabled q).fetchNext

/-! ## Queue commands (R465 to R471) -/

/-- CREATE QUEUE of a CQ. -/
def Dev.createCq (d : Dev) (c : Nat) (e : Sqe) : Dev :=
  let n := e.le 42 2
  let (t, d) := d.draw 16
  if e.at 45 != 0 || e.le 50 2 != 0 then d.complete c St.invalidField
  else if n = 0 || 512 < n || (d.cq n).isSome then d.complete c St.queueInvalidId
  else if e.le 48 2 = 0 || e.data.toNat % 4096 != 0 || 2 ^ 48 ≤ e.data.toNat then d.complete c St.queueInvalidSize
  else if (d.root (e.at 44)).isNone then d.complete c St.asidInvalid
  else if 1023 < e.le 46 2 then d.complete c St.vectorInvalid
  else
    (d.setCq n (some {
      err := false, asid := e.at 44, vector := e.le 46 2, size := e.le 48 2 + 1, base := e.data.toNat, tail := 0,
      phase := true, head := 0, held := [], unsig := 0, count := 0, timeUs := t })).complete c St.success

/-- CREATE QUEUE of an SQ. -/
def Dev.createSq (d : Dev) (c : Nat) (e : Sqe) : Dev :=
  let n := e.le 42 2
  if n = 0 || 512 < n || (d.sq n).isSome then d.complete c St.queueInvalidId
  else if e.le 48 2 = 0 || e.data.toNat % 4096 != 0 || 2 ^ 48 ≤ e.data.toNat then d.complete c St.queueInvalidSize
  else if (d.root (e.at 44)).isNone then d.complete c St.asidInvalid
  else if 3 < e.at 45 then d.complete c St.invalidField
  else if (d.cq (e.le 46 2)).isNone then d.complete c St.queueInvalidId
  else
    let d := d.setSq n (some {
      state := 0, asid := e.at 44, prio := e.at 45, cq := e.le 46 2, size := e.le 48 2 + 1, base := e.data.toNat,
      limit := e.le 50 2, fetch := 0, head := 0, tail := 0, latched := 0, cause := 0, slots := [], discarded := 0,
      ended := 0 })
    (d.mirror n).complete c St.success

/-- CREATE QUEUE (R466). -/
def execCreateQueue (c : Nat) (s : State) : Host.Outcome State Fault Refusal :=
  s.run fun d => d.command c (fun e => e.op == 0x02)
    { data := true, b := [40, 42, 43, 44, 45, 46, 47, 48, 49, 50, 51] } fun d k =>
      if k.e.at 40 = 0 then d.createSq c k.e
      else if k.e.at 40 = 1 then d.createCq c k.e
      else d.complete c St.invalidField

/-- An SQ holds commands, or completions not yet written. -/
def Dev.sqBusy (d : Dev) (q : Nat) : Bool := !(d.ctxsOf q).isEmpty

/-- DELETE QUEUE (R466). -/
def execDeleteQueue (c : Nat) (s : State) : Host.Outcome State Fault Refusal :=
  s.run fun d => d.command c (fun e => e.op == 0x03) { b := [40, 42, 43] } fun d k =>
    let n := k.e.le 42 2
    if k.e.at 40 = 0 then
      match d.sq n with
      | some q =>
        if n = 0 then d.complete c St.queueInvalidId
        else if q.state = 2 || (q.state = 3 && !d.sqBusy n) then (d.setSq n none).complete c St.success
        else d.complete c St.queueState
      | none => d.complete c St.queueInvalidId
    else if k.e.at 40 = 1 then
      if n = 0 || (d.cq n).isNone then d.complete c St.queueInvalidId
      else if d.que.sqs.any (fun e => match e.2 with | some q => q.cq == n | none => false) then d.complete c St.cqInUse
      else
        let d : Dev := { d with mmu := { d.mmu with xfers := d.mmu.xfers.filter fun x => x.what != .cqPost n } }
        (d.setCq n none).complete c St.success
    else d.complete c St.invalidField

/-- DISABLE QUEUE (R469): it completes when the SQ is DISABLED. -/
def execDisableQueue (c : Nat) (s : State) : Host.Outcome State Fault Refusal :=
  s.run fun d => d.command c (fun e => e.op == 0x04) { b := [40, 42, 43] } fun d k =>
    let n := k.e.le 42 2
    if k.e.at 40 != 0 then d.complete c St.invalidField
    else
      match d.sq n with
      | some q =>
        if n = 0 then d.complete c St.queueInvalidId
        else if q.state = 0 || q.state = 3 then (d.await c (.queueOff n)).disableSq n
        else d.complete c St.queueState
      | none => d.complete c St.queueInvalidId

/-- ENABLE QUEUE of an SQ (R470): the fetch index is set, and the tail slot is read at the next poll whatever its
counter says. -/
def Dev.enableSq (d : Dev) (c n index : Nat) : Dev :=
  match d.sq n with
  | some q =>
    if n = 0 then d.complete c St.queueInvalidId
    else if q.state != 2 then d.complete c St.queueState
    else if q.size ≤ index then d.complete c St.invalidField
    else
      let d : Dev := { d with que := { d.que with gens := mset d.que.gens 0 ((n - 1) / 32) (2 ^ 32) } }
      let d := d.setSq n (some { q with
        state := 0, fetch := index, head := index, tail := index, latched := 0, cause := 0, slots := [], discarded := 0,
        ended := 0 })
      (d.mirror n).complete c St.success
  | none => d.complete c St.queueInvalidId

/-- ENABLE QUEUE of a CQ in ERROR (R471). -/
def Dev.enableCq (d : Dev) (c n : Nat) : Dev :=
  match d.cq n with
  | some q =>
    if !q.err then d.complete c St.queueState
    else (d.setCq n (some { q with err := false, tail := 0, phase := true, head := 0, held := [], unsig := 0 })).complete c
      St.success
  | none => d.complete c St.queueInvalidId

/-- ENABLE QUEUE (R470, R471). -/
def execEnableQueue (c : Nat) (s : State) : Host.Outcome State Fault Refusal :=
  s.run fun d => d.command c (fun e => e.op == 0x05) { b := [40, 42, 43, 44, 45] } fun d k =>
    let n := k.e.le 42 2
    if k.e.at 40 = 0 then d.enableSq c n (k.e.le 44 2)
    else if k.e.at 40 = 1 && k.e.le 44 2 = 0 then d.enableCq c n
    else d.complete c St.invalidField

/-- GET QUEUE STATE: head or tail, last tail read, latched index, state and cause. A CQ has no tail slot, index or
cause, and its state is 0 or 3. -/
def execGetQueueState (c : Nat) (s : State) : Host.Outcome State Fault Refusal :=
  s.run fun d => d.command c (fun e => e.op == 0x06) { b := [40, 42, 43] } fun d k =>
    let n := k.e.le 42 2
    if k.e.at 40 = 0 then
      match d.sq n with
      | some q => d.complete c St.success
          (q.head + 2 ^ 16 * q.tail + 2 ^ 32 * q.latched + 2 ^ 48 * q.state + 2 ^ 52 * q.cause)
      | none => d.complete c St.queueInvalidId
    else if k.e.at 40 = 1 then
      match d.cq n with
      | some q => d.complete c St.success (q.tail + 2 ^ 48 * (if q.err then 3 else 0))
      | none => d.complete c St.queueInvalidId
    else d.complete c St.invalidField

/-! ## Queue features (R453, R462, R475) -/

/-- SET FEATURE POLL (R453). -/
def execSetFeaturePoll (c : Nat) (s : State) : Host.Outcome State Fault Refusal :=
  s.run fun d => d.command c (isFeature 0x05) { b := [40, 44, 45] } fun d k =>
    let v := k.e.le 44 2
    if v < 5 || 1000 < v then d.complete c St.invalidField
    else (d.wr Reg.QUE_POLL_INTERVAL v).complete c St.success

/-- SET FEATURE COALESCE (R475). -/
def execSetFeatureCoalesce (c : Nat) (s : State) : Host.Outcome State Fault Refusal :=
  s.run fun d => d.command c (isFeature 0x07) { b := [40, 42, 43, 44, 46, 47] } fun d k =>
    let n := k.e.le 42 2
    match d.cq n with
    | none => d.complete c St.queueInvalidId
    | some q =>
      if k.e.le 46 2 = 0 then d.complete c St.invalidField
      else (d.setCq n (some { q with count := k.e.at 44, timeUs := k.e.le 46 2 })).complete c St.success

/-- SET FEATURE ARBITRATION (R462). -/
def execSetFeatureArbitration (c : Nat) (s : State) : Host.Outcome State Fault Refusal :=
  s.run fun d => d.command c (isFeature 0x08) { b := [40, 41, 42, 43] } fun d k =>
    let w := [k.e.at 41, k.e.at 42, k.e.at 43]
    if w.contains 0 then d.complete c St.invalidField
    else
      let d : Dev := { d with que := { d.que with weights := w, credits := w } }
      d.complete c St.success

/-! ## Enabling the rings (R459, R460) -/

/-- Whether the configuration of the rings is valid (R451, R456, R459). -/
def Dev.ringsValid (d : Dev) : Bool :=
  d.rd Reg.QUE_DB_BASE_LO_VA % 16384 == 0 && (d.root 0).isSome
    && (List.range 4).all (fun r => d.rd Reg.QUE_RING_LO_VA r % 4096 == 0)
    && decide (2 ≤ d.ringSize 0) && decide (2 ≤ d.ringSize 1)
    && decide (16 ≤ d.ringSize 2) && decide (d.ringSize 2 ≤ 4096)
    && decide (16 ≤ d.ringSize 3) && decide (d.ringSize 3 ≤ 4096)

/-- QUE_CTL.EN is set once the firmware accepts it (R459): the admin queue and the device rings start, or CFG is set. -/
def Dev.queEnable (d : Dev) : Dev :=
  if !d.flag Reg.QUE_STATUS_AQ_READY || d.flag Reg.QUE_STATUS_ENABLED then d
  else if !d.ringsValid then d.setErr Reg.QUE_ERR_CFG
  else
    let (t, d) := d.draw 16
    let d := d.setCq 0 (some {
      err := false, asid := 0, vector := d.rd Reg.QUE_VEC_ADMIN, size := d.ringSize 1, base := d.ringBase 1, tail := 0,
      phase := true, head := 0, held := [], unsig := 0, count := 0, timeUs := t })
    let d := d.setSq 0 (some {
      state := 0, asid := 0, prio := 0, cq := 0, size := d.ringSize 0, base := d.ringBase 0, limit := 0, fetch := 0,
      head := 0, tail := 0, latched := 0, cause := 0, slots := [], discarded := 0, ended := 0 })
    let d : Dev := { d with que := { d.que with gens := [] }
                            mmu := { d.mmu with faultRing := DevRing.reset, eventRing := DevRing.reset } }
    (d.wr Reg.QUE_STATUS_POLL_STOPPED 0).wr Reg.QUE_STATUS_ENABLED 1

/-- QUE_CTL.EN is cleared (R460): every SQ is disabled, then every I/O queue is deleted, and ENABLED falls. -/
def Dev.queDisable (d : Dev) : Dev :=
  if !d.flag Reg.QUE_STATUS_ENABLED then d
  else
    let d := (d.que.sqs.map (·.1)).foldl (fun d q => d.disableSq q) d
    let d : Dev := { d with
      que := { d.que with sqs := d.que.sqs.filter fun e => e.1 == 0, cqs := d.que.cqs.filter fun e => e.1 == 0 }
      mmu := { d.mmu with xfers := d.mmu.xfers.filter fun (x : Xfer) =>
        match x.what with | .sqFetch _ | .cqPost _ | .headMirror _ | .eventPost | .faultPost => false | _ => true } }
    d.wr Reg.QUE_STATUS_ENABLED 0

/-- QUE_ADMIN_FAULT.RETRY (R455): polling restarts. -/
def Dev.adminRetry (d : Dev) : Dev :=
  let d := d.wr Reg.QUE_ADMIN_FAULT_RETRY 0
  if d.flag Reg.QUE_STATUS_POLL_STOPPED then
    ((d.wr Reg.QUE_STATUS_POLL_STOPPED 0).wr Reg.QUE_ADMIN_FAULT_VALID 0).fetchNext
  else d

end Sys2Proof.Machine
end

