-- ==== Sys2Proof/Machine/Stripes.lean ====
section
/-! DEFINITION. The state of stripes in flight, rebuilt from a journal after a restart or a takeover (R545 to R548). -/

namespace Sys2Proof.Machine

open Sys2Proof

/-- A disc takes the place of a member (R551): it holds none of the clusters of the stripes in flight, or of any stripe. -/
def Dev.clearMember (d : Dev) (vol m : Nat) (every : Bool := false) : Dev :=
  let off (bits : Nat) : Nat := if bits.testBit m then bits - 2 ^ m else bits
  { d with set := { d.set with stripes := d.set.stripes.map fun e =>
    if e.1 / 2 ^ 32 = vol then (e.1, e.2.map fun (t : Stripe) =>
      if t.released && !every then t else { t with burned := off t.burned, recorded := off t.recorded }) else e } }

/-- The STRIPE record replayed (Table 15-4). -/
def Dev.replayStripe (d : Dev) (r : BitVec 128) : Dev :=
  if recAt r 0 8 != 7 then d
  else
    let vol := recAt r 12 16
    let n := recAt r 28 32
    let a := recAt r 60 32
    let t := (d.stripe vol n).getD (Stripe.fresh a)
    let put (m bits : Nat) : Nat := if bits.testBit m then bits else bits + 2 ^ m
    if (d.volSet vol).isNone then d
    else
      match recAt r 8 4 with
      | 1 => d.putStripe vol n (some { t with slot := a, burned := put (recAt r 92 4) t.burned })
      | 2 => d.putStripe vol n (some { t with slot := a, recorded := put (recAt r 92 4) t.recorded })
      | 3 =>
        let x : Remap := { vol := vol, stripe := n, old := a, new := recAt r 92 32, cause := recAt r 124 2, member := none,
                           committed := false, commit := 0 }
        let d : Dev := { d with set := { d.set with
          remaps := if d.set.remaps.any (fun q => q.vol == vol && q.new == x.new && q.member.isNone) then d.set.remaps
            else d.set.remaps ++ [x] } }
        d.putStripe vol n (some { t with slot := x.new, burned := 0, recorded := 0, released := false, anew := false })
      | 4 =>
        let x : Remap := { vol := vol, stripe := n, old := a, new := recAt r 92 32, cause := 0, member := some (recAt r 124 4),
                           committed := false, commit := 0 }
        { d with set := { d.set with
          remaps := if d.set.remaps.any (fun q => q.vol == vol && q.new == x.new && q.member == x.member) then d.set.remaps
            else d.set.remaps ++ [x] } }
      | 5 =>
        let l : Lost := { vol := vol, cause := recAt r 106 4, stripe := n, count := a, dmask := recAt r 92 14,
                          lbmask := recAt r 110 16 }
        if d.set.lost.contains l then d else { d with set := { d.set with lost := d.set.lost ++ [l] } }
      | 6 =>
        let i := ((List.range 14).find? (recAt r 92 14).testBit).getD 0
        let j := ((List.range 16).find? (recAt r 110 16).testBit).getD 0
        let covers (l : Lost) : Bool :=
          l.vol == vol && decide (l.stripe ≤ n) && decide (n < l.stripe + l.count) && l.dmask.testBit i && l.lbmask.testBit j
        { d with set := { d.set with lost := d.set.lost.flatMap fun l => if covers l then l.without n i j else [l] } }
      | 7 =>
        match d.volSet vol with
        | none => d
        | some s =>
          let m := recAt r 76 4
          let disc := recAt r 28 48
          if disc = 0 then
            d.putSet vol (some { s with failed := if s.failed.contains m then s.failed else s.failed ++ [m] })
          else
            let d := d.putSet vol (some { s with members := s.members.set m (disc, recAt r 80 14) })
            if (s.members.getD m (0, 0)).1 = disc then d else d.clearMember vol m
      | 8 => d.putStripe vol n (some { t with slot := a, burned := recAt r 92 16, recorded := recAt r 108 16 })
      | _ => d

/-- The volumes of the sets that `mine` picks. -/
def Dev.volumesOf (d : Dev) (mine : DiscSet → Bool) : List Nat :=
  d.set.sets.filterMap fun e => match e.2 with | some s => if mine s && decide (e.1 < 65536) then some e.1 else none | none => none

/-- The stripes in flight of some volumes. -/
def Dev.inFlightOf (d : Dev) (vols : List Nat) : List (Nat × Nat × Stripe) :=
  d.set.stripes.filterMap fun e => match e.2 with
    | some t => if t.released || !vols.contains (e.1 / 2 ^ 32) then none else some (e.1 / 2 ^ 32, e.1 % 2 ^ 32, t)
    | none => none

/-- The state of the stripes in flight of some volumes is what the records of a journal say (R548). -/
def Dev.rebuildStripes (d : Dev) (vols : List Nat) (recs : List (BitVec 128)) : Dev :=
  let d := (d.inFlightOf vols).foldl (fun (d : Dev) q =>
    d.putStripe q.1 q.2.1 (some { q.2.2 with burned := 0, recorded := 0 })) d
  (recs.filter fun r => recAt r 0 8 == 7 && vols.contains (recAt r 12 16)).foldl (fun d r => d.replayStripe r) d

/-- What becomes of a stripe in flight (Table 15-5): recorded by every member it is released, else it is committed, burned
again or burned on as the members' state asks. A data cluster that its member has not burned and that is staged nowhere is
lost, pad LBs excepted (R548); a stripe that nothing has burned and nothing stages is forgotten. -/
def Dev.decideStripe (d : Dev) (idx : List IdxEnt) (vol n : Nat) : Dev :=
  match d.volSet vol, d.stripe vol n with
  | some s, some t =>
    let staged (x : Nat) : Bool := idx.any fun e => e.vol == vol && e.lba == 16 * s.k * n + x
    let any := (List.range (16 * s.k)).any staged
    if t.burned = 0 && t.recorded = 0 then
      if any then d.putStripe vol n (some { t with closed := false, pads := [], anew := false }) else d.putStripe vol n none
    else
      let d := (List.range s.k).foldl (fun d i =>
        if t.burned.testBit i || t.recorded.testBit i || s.failed.contains i || (List.range 16).any (fun j => staged (16 * i + j)) then d
        else
          let mask := (List.range 16).foldl (fun m j => if t.pads.contains (16 * i + j) then m else m + 2 ^ j) 0
          if mask = 0 then d
          else d.addLost { vol := vol, cause := 2, stripe := n, count := 1, dmask := 2 ^ i, lbmask := mask }) d
      d.releaseStripe vol n
  | _, _ => d

/-- Table 15-5 for every stripe in flight of some volumes. -/
def Dev.decideStripes (d : Dev) (vols : List Nat) (idx : List IdxEnt) : Dev :=
  (d.inFlightOf vols).foldl (fun d q => d.decideStripe idx q.1 q.2.1) d

end Sys2Proof.Machine
end

