-- ==== Sys2Proof/Machine/Peer.lean ====
section
/-! DEFINITION. The Nerindian peer: the link, heartbeats, loss and return, mirroring, ownership and takeover, and the home of
a set (R561 to R575), with the grants of the spindle stages (R292, R293). -/

namespace Sys2Proof.Machine

open Sys2Proof

/-! ## Claims (R570) -/

/-- The peer reports the stage of spindle `n` as granted to it in its last HEARTBEAT. -/
def Dev.peerHasSp (d : Dev) (n : Nat) : Bool :=
  !d.peer.lost && (match d.peer.last with | some h => h.spindles.getLsbD n | none => false)

/-- Requests the stage of a spindle, unless it is granted here or to the peer. -/
def Dev.claimSp (d : Dev) (n : Nat) : Dev := if d.granted n || d.peerHasSp n then d else d.spRequest n

/-- Claims the spindles of a mask, with both pickups of each. -/
def Dev.claimHome (d : Dev) (mask : Nat) : Dev :=
  let d : Dev := { d with peer := { d.peer with claimed := d.peer.claimed ||| mask } }
  d.each 8 fun d n =>
    if mask.testBit n && d.hasSp n then ((d.claimSp n).claimPk (2 * n)).claimPk (2 * n + 1) else d

/-- Training of the Nerindian link starts; the lower node identifier sends first (R561). -/
def Dev.nerTrain (d : Dev) : Dev :=
  ({ d with peer := { d.peer with training := true } }).send (.nerTraining (decide (d.node < d.peerNode)))

/-! ## Takeover (R571 to R573) -/

/-- A pending PEER TAKEOVER learns that a stage is granted; with the last answer it completes (R573). -/
def Dev.takeoverGrant (d : Dev) (n : Nat) : Dev :=
  (d.waiting fun w => match w with | .takeover _ sp => sp.testBit n | _ => false).foldl (fun d c =>
    match d.ctx c with
    | some k =>
      match k.wait with
      | .takeover pk sp =>
        let acc := k.acc0 ||| 2 ^ (16 + n)
        let sp := sp - 2 ^ n
        let d := d.setCtx c (some { k with acc0 := acc, wait := .takeover pk sp })
        if pk = 0 && sp = 0 then d.complete c St.success acc else d
      | _ => d
    | none => d) d

/-- SPn_OGNT rises (R292): a start in force enters CATCH; under the tamper hold a mechanism taken over is stopped (R628). -/
def Dev.grantRise (d : Dev) (n : Nat) : Dev :=
  let d := d.wr Reg.MOT_SP_STATUS_GRANT 1 n
  let taken := d.peer.wantSp.testBit n
  let d := if taken then
      let d := { d with peer := { d.peer with wantSp := d.peer.wantSp - 2 ^ n } }
      (d.peerErr Reg.PEER_ERR_TAKEOVER).peerRecord 0x6003 (2 ^ n) 0
    else d
  let d := if d.flag Reg.LCS_STATUS_TAMPER_HOLD then (if taken then d.spStop n else d)
    else if taken && (d.spState n = 0 || d.spState n = 7) then (d.setSpin n { d.spin n with start := true }).spCatch n
    else if (d.spin n).start && d.flag Reg.MOT_SP_STATUS_REQ n && d.spState n = 0 then d.spCatch n else d
  d.takeoverGrant n

/-- SPn_OGNT rises (R292). -/
def execGrantRise (n : Spn) (s : State) : Host.Outcome State Fault Refusal :=
  State.runUnit 8 s fun d => if d.hasSp n then d.grantRise n else d

/-- SPn_OGNT falls (R293): the gates are forced low; with the request held, OWN_LOST and OFF. -/
def execGrantFall (n : Spn) (s : State) : Host.Outcome State Fault Refusal :=
  s.run fun d =>
    if !d.granted n then d
    else
      let d := d.wr Reg.MOT_SP_STATUS_GRANT 0 n
      let d := if d.flag Reg.MOT_SP_STATUS_REQ n then
          let d := (d.spErr Reg.MOT_SP_ERR_OWN_LOST n).completeAll (spinWait n) St.ownershipDenied
          let d := d.setSpin n { d.spin n with start := false }
          (d.spToOff n).spindleLost n St.ownershipDenied
        else d
      d.completeAll (fun w => w == .grantOff n.val) St.success

/-- Asks for mechanisms with OWN REQUEST takeover and SPn_OREQ (R571 steps 1 and 2). -/
def Dev.takeOver (d : Dev) (sp pk : Nat) : Dev :=
  let d := d.each 8 fun d n => if sp.testBit n && !d.granted n then d.spRequest n else d
  d.each 16 fun d p => if pk.testBit p && !d.owns p then d.ctl p (.ownRequest true d.node) else d

/-- The indices below `n` that meet a test, as a mask. -/
def maskOf (n : Nat) (f : Nat → Bool) : Nat := (List.range n).foldl (fun m i => if f i then m + 2 ^ i else m) 0

/-- Whether an OWN REQUEST on a port has a chance: the port carries traffic or trains (R116). -/
def Dev.portAsks (d : Dev) (p : Nat) : Bool :=
  d.portUp p || d.portState p == 1 || (d.portState p == 0 && d.flag Reg.SOR_CFG_EN p)

/-- Mechanisms are asked for, and the command waits for their grants (R573). -/
def Dev.takeoverStart (d : Dev) (c : Nat) (pk sp : Nat) (takeover : Bool) : Dev :=
  let hasPk := maskOf 16 fun p => pk.testBit p && d.owns p
  let hasSp := maskOf 8 fun n => sp.testBit n && d.granted n
  let askPk := maskOf 16 fun p => pk.testBit p && !d.owns p && d.portAsks p && (takeover || !d.peerHasPk p)
  let askSp := maskOf 8 fun n => sp.testBit n && !d.granted n && (takeover || !d.peerHasSp n)
  let acc := hasPk + 65536 * hasSp
  match d.ctx c with
  | none => d
  | some k =>
    let d := d.setCtx c (some { k with acc0 := acc, wait := .takeover askPk askSp })
    let d := d.each 8 fun d n => if askSp.testBit n then d.spRequest n else d
    let d := d.each 16 fun d p => if askPk.testBit p then d.ctl p (.ownRequest takeover d.node) else d
    if askPk = 0 && askSp = 0 then d.complete c (if acc = 0 then St.ownershipDenied else St.success) acc else d

/-- The peer reports a named mechanism as its own. -/
def Dev.peerHas (d : Dev) (pk sp : Nat) : Bool :=
  ((List.range 16).any fun p => pk.testBit p && d.peerHasPk p) || (List.range 8).any fun n => sp.testBit n && d.peerHasSp n

/-- The requester of a takeover proceeds (R573): the mechanisms stay asked for while the peer is lost (R572). -/
def Dev.takeoverGo (d : Dev) (c pk sp : Nat) : Dev :=
  let d : Dev := { d with peer := { d.peer with wantSp := d.peer.wantSp ||| sp, wantPk := d.peer.wantPk ||| pk } }
  d.takeoverStart c pk sp true

/-- A takeover that waits for the peer's release proceeds once the peer reports none of the mechanisms as its own, or is lost
(R573). -/
def Dev.takeoverReleased (d : Dev) : Dev :=
  (d.waiting fun w => match w with | .release pk sp => !d.peerHas pk sp | _ => false).foldl (fun d c =>
    match d.ctx c with
    | some k => match k.wait with
      | .release pk sp => d.takeoverGo c pk sp
      | _ => d
    | none => d) d

/-! ## Loss and return (R564, R565, R568) -/

/-- What waits for MIRROR ACK when the peer is lost (R568); the record of the loss is the event (assumption 84). -/
def Dev.unmirror (d : Dev) : Dev :=
  if d.flag Reg.PEER_CFG_MIRROR_REQUIRED then d
  else
    let waits := d.sal.unacked.flatMap fun u => u.2.1
    let d : Dev := { d with sal := { d.sal with unacked := d.sal.unacked.map fun u => (u.1, [], u.2.2) } }
    if waits.isEmpty then d
    else waits.eraseDups.foldl (fun d c => d.checkDurable c) (d.wr Reg.PEER_STATUS_UNMIRRORED 1)

/-- The LBs asked of the peer (R514) are lost with it, and the READs that wait for them go on. -/
def Dev.fetchLost (d : Dev) : Dev :=
  let l := d.sal.fetching
  let d : Dev := { d with sal := { d.sal with fetching := [] } }
  let d := l.foldl (fun d q => d.stagedGone q.1 q.2) d
  l.foldl (fun d q => (d.waiting fun w => w == .staging).foldl (fun d c =>
    match d.ctx c with
    | some k => if k.e.volume.toNat = q.1 && k.todo.contains q.2 then d.sourceLb c q.1 q.2 else d
    | none => d) d) d

/-- The peer's sets are rebuilt from the mirrored journal, and the index of the mirror stream is built (R571 step 4, R548
source 2). -/
def Dev.rebuildMirror (d : Dev) : Dev :=
  let idx : List IdxEnt := d.sal.idx.filter (!·.mirror) ++ d.buildIndex true
  let d : Dev := { d with sal := { d.sal with idx := idx } }
  let recs := d.mirrorRecords
  let vols := d.volumesOf fun s => !s.home
  if recs.isEmpty || vols.isEmpty then d else (d.rebuildStripes vols recs).setErrRec Reg.SET_ERR_JOURNAL_SOURCE

/-- The peer is lost (R564), and the node acts under automatic takeover (R571). -/
def Dev.peerLost (d : Dev) : Dev :=
  let d := ((d.wr Reg.PEER_STATUS_ALIVE 0).peerErr Reg.PEER_ERR_PEER_LOST).bump Reg.PEER_CNT_LOSS_LOST
  let d := d.peerRecord 0x6001
  let d := { d with peer := { d.peer with lost := true, hbRun := 0 } }
  let d := d.unmirror.fetchLost.takeoverReleased
  match d.peer.last with
  | none => d
  | some h =>
    if !d.flag Reg.PEER_CFG_AUTO_TAKEOVER then d
    else
      let sp := h.spindles.toNat
      let pk := h.pickups.toNat
      let d := { d with peer := { d.peer with wantSp := sp, wantPk := pk } }
      (d.takeOver sp pk).rebuildMirror

/-- The pages of the own stream that the peer has not acknowledged are sent again, those with no LB staged any more excepted
(R565); with none left nothing is unmirrored. -/
def Dev.resendPages (d : Dev) : Dev :=
  let staged (u : Nat × List Nat × FlashPage) : Bool := u.2.2.slots.any fun q => match d.idxOf q.2.1 q.2.2.1 with
    | some e => e.lsn == u.2.2.lsn && e.slot == q.1
    | none => false
  let gone := d.sal.unacked.filter fun u => !staged u
  let d : Dev := { d with sal := { d.sal with unacked := d.sal.unacked.filter staged } }
  let d := (gone.flatMap fun u => u.2.1).eraseDups.foldl (fun d c => d.checkDurable c) d
  if d.sal.unacked.isEmpty then d.wr Reg.PEER_STATUS_UNMIRRORED 0
  else d.sal.unacked.foldl (fun (d : Dev) u => d.ner (.mirrorData u.2.2)) d

/-- The peer has returned (R565): HOME messages and the pages that it has not acknowledged are sent, and the home
mechanisms are claimed (R570). -/
def Dev.peerReturns (d : Dev) : Dev :=
  let was := d.peer.lost
  let d := { d.wr Reg.PEER_STATUS_ALIVE 1 with peer := { d.peer with lost := false, wantSp := 0, wantPk := 0 } }
  let d := if was then d.peerRecord 0x6002 else d
  let d := d.set.sets.foldl (fun (d : Dev) e => match e.2 with
    | some s => if s.home then d.ner (.home e.1 d.node s.gen) else d
    | none => d) d
  let d := d.resendPages
  d.claimHome (d.rd Reg.PEER_CFG_HOME_SP)

/-- All four lanes are framed: the link is up (R561). -/
def execNerLinkUp (s : State) : Host.Outcome State Fault Refusal :=
  State.runUnit 12 s fun d =>
    if !d.peer.training then d
    else { d.wr Reg.PEER_STATUS_LINK 1 with peer := { d.peer with training := false } }

/-- What a message that the peer has not acknowledged is still for once the link has been down (assumption 146): records, acknowledgements
and clusters are sent again under R562; pages and HOME messages go anew with the peer's return (R565), and heartbeats,
fetches and requests are made anew. -/
def outlives : NerMsg → Bool
  | .mirrorAck _ | .journal _ | .mirrorRelease _ | .cluster _ _ _ | .burnReport _ => true
  | .heartbeat _ | .mirrorData _ | .fetch _ _ _ | .fetchData _ _ _ | .releaseRequest _ _ | .home _ _ _ => false

/-- A lane is lost (R561): the link is down, and training starts again. The sequences of the peer are forgotten, since a peer
that has been reset counts anew (assumption 146). -/
def execNerLaneLoss (lane : Fin 4) (s : State) : Host.Outcome State Fault Refusal :=
  State.runUnit 12 s fun d =>
    if !d.linkUp && !d.peer.training then d
    else
      let up := d.linkUp
      let d := (d.peerErr Reg.PEER_ERR_LANE_LOSS lane.val).wr Reg.PEER_STATUS_LINK 0
      let d := { d with peer := { d.peer with unacked := d.peer.unacked.filter (fun u => outlives u.2), toAck := [], seen := [] } }
      let d := if up && d.peerAlive then d.peerLost else { d with peer := { d.peer with hbRun := 0 } }
      d.nerTrain

/-- The volumes that this node is home of. -/
def Dev.homedVolumes (d : Dev) : List Nat := d.volumesOf fun s => s.home

/-- A HEARTBEAT is sent each interval (R563), with the sequences to acknowledge (R562). -/
def execHeartbeatSend (s : State) : Host.Outcome State Fault Refusal :=
  State.runUnit 12 s fun d =>
    if !d.flag Reg.PEER_STATUS_CONFIGURED || !d.linkUp then d
    else
      let h : Heartbeat := {
        seq := d.peer.txSeq, node := d.node, role := d.flag Reg.GLB_NODE_ROLE, lifeCycle := d.lifeCycle,
        spindles := BitVec.ofNat 8 d.grantMask, pickups := BitVec.ofNat 16 d.ownMask, volumes := d.homedVolumes,
        saltern := d.salState, time := d.now.toNat, acks := d.peer.toAck }
      ({ d with peer := { d.peer with toAck := [] } }).ner (.heartbeat h)

/-- A HEARTBEAT arrives (R563): what it acknowledges is done with; the first ends the wait of step 8 (R570), and the
second in a row brings the peer back (R565). -/
def Dev.heartbeat (d : Dev) (m : Heartbeat) : Dev :=
  let d := d.bump Reg.PEER_CNT_HB_COUNT
  let d := { d with peer := { d.peer with
    unacked := d.peer.unacked.filter (fun u => !m.acks.contains u.1), last := some m, hbRun := d.peer.hbRun + 1 } }
  let d := if d.peer.waitClaim then
      ({ d with peer := { d.peer with waitClaim := false } }).claimHome (d.rd Reg.PEER_CFG_HOME_SP)
    else d
  let d := d.takeoverReleased
  if 2 ≤ d.peer.hbRun && !d.peerAlive then d.peerReturns else d

/-- A HEARTBEAT is received (R563, R565). -/
def execHeartbeatReceive (m : Heartbeat) (s : State) : Host.Outcome State Fault Refusal :=
  State.runUnit 12 s fun d => d.nerTake m.seq fun d => if d.flag Reg.PEER_STATUS_CONFIGURED then d.heartbeat m else d

/-- No HEARTBEAT for MISS intervals (R564). -/
def execHeartbeatMiss (s : State) : Host.Outcome State Fault Refusal :=
  State.runUnit 12 s fun d => if d.peerAlive then d.peerLost else { d with peer := { d.peer with hbRun := 0 } }

/-- A denied request is sent again while the peer stays lost (R572). -/
def execTakeoverRetry (s : State) : Host.Outcome State Fault Refusal :=
  State.runUnit 12 s fun d =>
    if !d.peer.lost || (d.peer.wantSp = 0 && d.peer.wantPk = 0) then d
    else
      let d := if d.peer.wantSp = 0 then d else d.peerErr Reg.PEER_ERR_DENIED
      d.takeOver d.peer.wantSp d.peer.wantPk

/-- The wait for the peer's HEARTBEAT at step 8 ends: the home mechanisms are claimed (R570). -/
def execClaimWaitEnd (s : State) : Host.Outcome State Fault Refusal :=
  State.runUnit 12 s fun d =>
    if d.peer.waitClaim then
      ({ d with peer := { d.peer with waitClaim := false } }).claimHome (d.rd Reg.PEER_CFG_HOME_SP)
    else d

/-- Good sequences are acknowledged without a HEARTBEAT (R562). -/
def execAckSend (s : State) : Host.Outcome State Fault Refusal :=
  State.runUnit 12 s fun d =>
    if d.linkUp then
      d.peer.toAck.foldl (fun d q => d.send (.nerAck q)) { d with peer := { d.peer with toAck := [] } }
    else d

/-- A message unacknowledged for 10 µs is sent again (R562). -/
def execMessageResend (seq : BitVec 16) (s : State) : Host.Outcome State Fault Refusal :=
  State.runUnit 12 s fun d =>
    match d.peer.unacked.find? (fun u => u.1 == seq) with
    | some u =>
      if d.linkUp then ((d.peerErr Reg.PEER_ERR_RESEND).bump Reg.PEER_CNT_LOSS_RESENT).send 
        (.ner u.1 u.2 (nerHeader d.flash d.sal.progs u.1 u.2)) else d
    | none => d

/-! ## Mirroring (R566 to R569) -/

/-- A mirrored page is programmed into the mirror stream; its MIRROR ACK follows its good status (R566). -/
def execMirrorDataReceive (seq : BitVec 16) (pg : FlashPage) (s : State) : Host.Outcome State Fault Refusal :=
  State.runUnit 12 s fun d => d.nerTake seq fun d =>
    if d.salState != 2 then d
    else
      d.programOrWait 1 (pg.slots.map fun q => q.2) [] pg.seq

/-- A MIRROR ACK covers every page up to its sequence (R567). -/
def execMirrorAckReceive (seq : BitVec 16) (pageSeq : Nat) (s : State) : Host.Outcome State Fault Refusal :=
  State.runUnit 12 s fun d => d.nerTake seq fun d =>
    let done := d.sal.unacked.filter fun u => decide (u.1 ≤ pageSeq)
    let d : Dev := { d with sal := { d.sal with unacked := d.sal.unacked.filter fun u => !decide (u.1 ≤ pageSeq) } }
    let d := d.bump Reg.PEER_CNT_MIRROR_PAGES done.length
    let d := (done.flatMap fun u => u.2.1).eraseDups.foldl (fun d c => d.checkDurable c) d
    if d.sal.unacked.isEmpty then d.wr Reg.PEER_STATUS_UNMIRRORED 0 else d

/-- A mirrored journal page is kept in the mirror stream, flagged as type 3 (R566). -/
def execJournalReceive (seq : BitVec 16) (recs : List (BitVec 128)) (s : State) : Host.Outcome State Fault Refusal :=
  State.runUnit 12 s fun d => d.nerTake seq fun d =>
    if d.salState != 2 then d else d.programOrWait 1 [] [] 0 recs

/-- Release ranges free the mirror copies (R569). -/
def execMirrorReleaseReceive (seq : BitVec 16) (rs : List ReleaseRange) (s : State) : Host.Outcome State Fault Refusal :=
  State.runUnit 12 s fun d => d.nerTake seq fun d =>
    rs.foldl (fun d r => d.releaseRange true r.volume r.lba r.count r.gen) d

/-! ## Cross-pair sets (R542) and fetched LBs (R514) -/

/-- A cluster of the home is staged for burning here (R542). -/
def execClusterReceive (seq : BitVec 16) (disc : Nat) (addr : Word) (words : List (List Byte)) (s : State) :
    Host.Outcome State Fault Refusal :=
  State.runUnit 12 s fun d => d.nerTake seq fun d =>
    { d with set := { d.set with
      guest := (d.set.guest.filter fun g => !(g.1 == disc && g.2.1 == addr.toNat)) ++ [(disc, addr.toNat, words)] } }

/-- One record of a BURN REPORT: the member of the peer has burned or recorded its cluster (R542, R545). -/
def Dev.burnReported (d : Dev) (r : BitVec 128) : Dev :=
  let v := recAt r 12 16
  -- while a set is reshaped it takes no burn: the report is about the new set (R556)
  let vol := match d.volSet v with | some s => if s.reshaping then v + 65536 else v | none => v
  let n := recAt r 28 32
  let m := recAt r 92 4
  match recAt r 8 4 with
  | 1 => d.burnedBy vol n m
  | 2 => d.recordedBy vol n m (recAt r 96 3)
  | _ => d

/-- BURNED and RECORDED records of the peer's members arrive (R542). -/
def execBurnReportReceive (seq : BitVec 16) (recs : List (BitVec 128)) (s : State) : Host.Outcome State Fault Refusal :=
  State.runUnit 12 s fun d => d.nerTake seq fun d => recs.foldl (fun d r => d.burnReported r) d

/-- The peer asks for mirrored LBs (R514): each held one is read, and the others are answered with a not-held mark. -/
def execFetchReceive (seq : BitVec 16) (volume lba count : Nat) (s : State) : Host.Outcome State Fault Refusal :=
  State.runUnit 12 s fun d => d.nerTake seq fun d =>
    (List.range count).foldl (fun (d : Dev) i =>
      match d.idxOf volume (lba + i) true with
      | some e => d.readPage e.lsn (e.slot / 4) (.peer volume (lba + i))
      | none => d.ner (.fetchData volume (lba + i) [none])) d

/-- A fetched LB: it is rewritten in the own stream, or lost where the peer does not hold it either (R514). -/
def Dev.fetched (d : Dev) (vol lba : Nat) (b : Option StagedLb) : Dev :=
  if !d.sal.fetching.contains (vol, lba) then d
  else
    let d : Dev := { d with sal := { d.sal with fetching := d.sal.fetching.erase (vol, lba) } }
    let d := match b with
      | some x => d.stage 0 [] 1 [(vol, lba, x)]
      | none => d.stagedGone vol lba
    (d.waiting fun w => w == .staging).foldl (fun d c =>
      match d.ctx c with
      | some k => if k.e.volume.toNat = vol && k.todo.contains lba then d.sourceLb c vol lba else d
      | none => d) d

/-- Fetched LBs arrive (R514). -/
def execFetchDataReceive (seq : BitVec 16) (volume lba : Nat) (lbs : List (Option StagedLb)) (s : State) :
    Host.Outcome State Fault Refusal :=
  State.runUnit 12 s fun d => (d.nerTake seq fun d =>
    (List.range lbs.length).foldl (fun (d : Dev) i => d.fetched volume (lba + i) (lbs.getD i none)) d).reap

/-! ## Release and home (R573 to R575) -/

/-- The node ends its burns on the named mechanisms, completes the commands that wait on them, and releases them (R573). -/
def execReleaseRequestReceive (seq : BitVec 16) (spindles : BitVec 8) (pickups : BitVec 16) (s : State) :
    Host.Outcome State Fault Refusal :=
  State.runUnit 12 s fun d => d.nerTake seq fun d =>
    let d := d.each 16 fun d p =>
      if pickups.getLsbD p && d.owns p then
        let d := ((d.burnEnd p).calAbort p).failPickup p St.ownershipDenied
        let d := if d.svoState p = 7 then d else d.svoOff p
        d.ctl p .ownRelease
      else d
    d.each 8 fun d n =>
      if spindles.getLsbD n then
        let d := d.completeAll (spinWait n) St.ownershipDenied
        d.spRelease n
      else d

/-- The staged LBs of a volume change between own copies and mirror copies (R574, R575). -/
def Dev.turnCopies (d : Dev) (vol : Nat) (mirror : Bool) : Dev :=
  { d with sal := { d.sal with idx := d.sal.idx.map fun (e : IdxEnt) =>
    if e.vol == vol then { e with mirror := mirror } else e } }

/-- This node holds the grant of a spindle that carries a member of a set. -/
def Dev.holdsMember (d : Dev) (s : DiscSet) : Bool :=
  s.members.any fun q => match d.spindleOfDisc q.1 with
    | some n => d.granted n
    | none => false

/-- A HOME message moves the home of a set (R575): a node that ceases to be home keeps its staged LBs as mirror copies. A home
that still holds a member's spindle stays home: its peer cannot have met R574 (assumption 98). -/
def Dev.homeMoved (d : Dev) (vol node : Nat) : Dev :=
  match d.volSet vol with
  | none => d
  | some s =>
    if node = d.node || !s.home || d.holdsMember s then d
    else ((d.putSet vol (some { s with home := false })).turnCopies vol true).peerRecord 0x6004 0 0 vol

/-- A HOME message is received (R575). -/
def execHomeReceive (seq : BitVec 16) (volume node gen : Nat) (s : State) : Host.Outcome State Fault Refusal :=
  State.runUnit 12 s fun d => d.nerTake seq fun d =>
    match d.volSet volume with
    | some x => if gen < x.gen then d else d.homeMoved volume node
    | none => d

/-- Whether this node holds the grant of every spindle that carries a loaded member of a set and that its peer owned
(R574). -/
def Dev.mayBeHome (d : Dev) (s : DiscSet) : Bool :=
  match d.peer.last with
  | none => true
  | some h => s.members.all fun q =>
    match d.spindleOfDisc q.1 with
    | some n => !h.spindles.getLsbD n || d.granted n
    | none => true

/-- The node becomes home of a set (R574). -/
def execBecomeHome (volume : Nat) (s : State) : Host.Outcome State Fault Refusal :=
  State.runUnit 12 s fun d =>
    match d.volSet volume with
    | none => d
    | some x =>
      if x.home || !d.mayBeHome x then d
      else
        -- after a graceful hand-over the stripes' state comes from the mirrored journal now (R548, R571 step 4)
        let d := if d.peer.lost then d else d.rebuildMirror
        let d := (d.putSet volume (some { x with home := true })).ner (.home volume d.node x.gen)
        let d := (d.turnCopies volume false).peerRecord 0x6004 0 0 volume
        d.decideStripes [volume] d.sal.idx

/-! ## PEER CONFIGURE and PEER TAKEOVER -/

/-- PEER CONFIGURE (R563, R570). -/
def execPeerConfigure (c : Nat) (s : State) : Host.Outcome State Fault Refusal :=
  State.runUnit 12 s fun d => d.command c (fun e => e.op == 0x30) { b := [40, 41, 42, 44, 45] } fun d k =>
    let node := k.e.le 40 2
    let us := k.e.le 44 2
    let f := k.e.at 42
    if node = d.node || 2 ^ 14 ≤ node || 4 ≤ f || us < 10 || 10000 < us then d.complete c St.invalidField
    else
      let home := d.rd Reg.PEER_CFG_HOME_SP
      let d := ((d.wr Reg.PEER_NODE_NID node).wr Reg.PEER_NODE_HB_US us).wr Reg.PEER_STATUS_CONFIGURED 1
      let d : Dev := { d with
        mgmt := { d.mgmt with mirrorIngest := f % 2 == 1, mirrorJournal := decide (2 ≤ f) }
        flash := { d.flash with boot := { d.flash.boot with peer := some (node, f % 2 == 1, decide (2 ≤ f), us, home) } } }
      let d := d.flashWrite (.boot 10)
      let d := if d.linkUp then d else d.nerTrain
      (d.claimHome (home - (home &&& d.peer.claimed))).complete c St.success

/-- A PEER TAKEOVER command of a mode. -/
def isTakeover (mode : Nat) (e : Sqe) : Bool := e.op == 0x31 && e.at 43 == mode

/-- Serves PEER TAKEOVER: the resources named must be there (R5). -/
def Dev.takeoverServe (d : Dev) (c : Nat) (k : Ctx) (takeover : Bool) : Dev :=
  let pk := k.e.le 40 2
  let sp := k.e.at 42
  if (List.range 16).any (fun p => pk.testBit p && !d.hasPk p) || (List.range 8).any (fun n => sp.testBit n && !d.hasSp n) then
    d.complete c St.notPresent
  else if takeover && (!d.flag Reg.PEER_STATUS_CONFIGURED || !d.peerAlive) then d.complete c St.peerUnavailable
  else
    if !takeover then d.takeoverStart c pk sp false
    else
      let d := d.ner (.releaseRequest (BitVec.ofNat 8 sp) (BitVec.ofNat 16 pk))
      if d.peerHas pk sp then d.setCtx c (some { k with wait := .release pk sp }) else d.takeoverGo c pk sp

/-- PEER TAKEOVER mode 0 claims what is free (R573). -/
def execPeerTakeoverClaim (c : Nat) (s : State) : Host.Outcome State Fault Refusal :=
  State.runUnit 12 s fun d => d.command c (isTakeover 0) { b := [40, 41, 42, 43] } fun d k => d.takeoverServe c k false

/-- PEER TAKEOVER mode 1 asks the peer for release and takes over (R573). -/
def execPeerTakeover (c : Nat) (s : State) : Host.Outcome State Fault Refusal :=
  State.runUnit 12 s fun d => d.command c (isTakeover 1) { b := [40, 41, 42, 43] } fun d k => d.takeoverServe c k true

end Sys2Proof.Machine
end

