-- ==== Sys2Proof/Machine/Tidegate.lean ====
section
/-! DEFINITION. Tidegate: device time (R369 to R374), its pins (R375), power-fail handling (R376), tamper (R585), entry
to and exit from DEEP (R377, R378), supplies (R605, R606), reset causes (R379), thermal limits (R613, R614), and the
board management and test ports (R599, R600). -/

namespace Sys2Proof.Machine

open Sys2Proof

/-! ## Device time -/

/-- Device time is set to a number of ns. -/
def Dev.setTime (d : Dev) (ns : Nat) : Dev :=
  { d with clk := { d.clk with time := BitVec.ofNat 80 (ns * 65536), slew := 0, tide := 0 } }

/-- TG_CTL.SNAP captures device time into TG_SNAP (R369). -/
def Dev.tgSnap (d : Dev) : Dev :=
  let t := d.now.toNat
  ((d.wr Reg.TG_SNAP_LO_TIME (t % 2 ^ 32)).wr Reg.TG_SNAP_HI_TIME (t / 2 ^ 32)).wr Reg.TG_CTL_SNAP 0

/-- TG_CTL.LOAD sets device time from TG_LOAD (R370). -/
def Dev.tgLoad (d : Dev) : Dev :=
  let d := (d.setTime (d.rd Reg.TG_LOAD_LO_TIME + 2 ^ 32 * d.rd Reg.TG_LOAD_HI_TIME)).wr Reg.TG_STATUS_TSY_LOCK 0
  (d.wr Reg.TG_STATUS_TIME_VALID 1).wr Reg.TG_CTL_LOAD 0

/-- The action of a write of TG_CTL: a snap takes the time before a load changes it; nothing is known of the pulse after a load
or while synchronisation is off, so TSY_LOCK falls (the model's reading, assumption 141). -/
def Dev.tgCtl (d : Dev) : Dev :=
  let d := if d.flag Reg.TG_CTL_SNAP then d.tgSnap else d
  let d := if d.flag Reg.TG_CTL_LOAD then d.tgLoad else d
  if d.flag Reg.TG_CTL_TSY_EN then d else d.wr Reg.TG_STATUS_TSY_LOCK 0

/-- A write of TG_NEXT_SEC arms the load at the next PPS edge (R371). -/
def Dev.armSec (d : Dev) : Dev := { d with clk := { d.clk with secArmed := true } }

/-- The offset of a time in ns from the nearest whole second. -/
def ppsOffset (t : Nat) : Int := (t : Int) - (((t + 500000000) / 1000000000 * 1000000000 : Nat) : Int)

/-- The selected edge of TSY_PPS (R371): it loads, slews or steps the time. -/
def Dev.pps (d : Dev) : Dev :=
  let d := if d.clk.secArmed then
      let d := (d.setTime (d.rd Reg.TG_NEXT_SEC_SEC * 1000000000)).wr Reg.TG_STATUS_TIME_VALID 1
      { d with clk := { d.clk with secArmed := false } }
    else
      let t := d.now.toNat
      let ofs := ppsOffset t
      let d := d.wrS Reg.TG_PPS_ERR_OFS ofs
      let d := if ofs.natAbs ≤ 1000 then
          { d with clk := { d.clk with slew := -ofs * 65536 } }
        else (d.setTime (((t : Int) - ofs).toNat)).setErr Reg.TG_EVENT_TIME_STEP
      d.wr Reg.TG_STATUS_TSY_LOCK (if ofs.natAbs ≤ 20 then 1 else 0)
  -- the spec gives the rate correction no formula (assumption 2)
  let (rate, d) := d.draw 32
  d.wr Reg.TG_RATE_PPB rate

/-- A TSY_PPS edge (R371). -/
def execPpsEdge (rising : Bool) (s : State) : Host.Outcome State Fault Refusal :=
  s.run fun d =>
    if d.powered && d.flag Reg.TG_CTL_TSY_EN && rising == !d.flag Reg.TG_CTL_PPS_EDGE then d.pps else d

/-- TSY_PPS is lost: the time holds its last rate (R372). -/
def execPpsLoss (s : State) : Host.Outcome State Fault Refusal :=
  s.run fun d =>
    if d.powered && d.flag Reg.TG_CTL_TSY_EN then
      let d := (d.wr Reg.TG_STATUS_TSY_LOCK 0).setErr Reg.TG_EVENT_PPS_LOSS
      { d with clk := { d.clk with slew := 0 } }
    else d

/-- TSY_10M is lost: the time holds its last rate (R372). -/
def execTsy10mLoss (s : State) : Host.Outcome State Fault Refusal :=
  s.run fun d =>
    if d.powered && d.flag Reg.TG_CTL_TSY_EN then
      let d := d.setErr Reg.CLK_ERR_TSY_LOSS
      { d with clk := { d.clk with tenM := false } }
    else d

/-- TSY_10M is present again: the rate follows it once more (R371). -/
def execTsy10mReturn (s : State) : Host.Outcome State Fault Refusal :=
  s.run fun d =>
    if d.powered && d.flag Reg.TG_CTL_TSY_EN then { d with clk := { d.clk with tenM := true } } else d

/-- A comparator matches (R374): at once while the device runs or in DEEP, at the next start-up in OFF. -/
def Dev.comparator (d : Dev) (k : Nat) : Dev :=
  let cmp := d.rd Reg.TG_CMP_LO_TIME k + 2 ^ 32 * d.rd Reg.TG_CMP_HI_TIME k
  if !d.clk.tideOk || !(d.rd Reg.TG_CMP_CTL_EN).testBit k || d.now.toNat < cmp then d
  else if !d.powered && !d.clk.deep then { d with clk := { d.clk with cmpLatched := d.clk.cmpLatched ||| (1#4 <<< k) } }
  else
    let act := d.rd Reg.TG_CMP_CTL_ACT / 4 ^ k % 4
    let d := (d.setErr Reg.TG_EVENT_CMP k).clearBit Reg.TG_CMP_CTL_EN k
    if d.clk.deep && (act == 1 || act == 2) then d.powerUp 2 else d

/-- Device time reaches TG_CMPk (R374). -/
def execComparatorMatch (k : Fin 4) (s : State) : Host.Outcome State Fault Refusal := s.run fun d => d.comparator k.val

/-! ## The pins (R375, R376, R585) -/

/-- The power-fail response (R376): burns are aborted, every spindle goes to OFF with its request ended, and the journal
is checkpointed; no command starts from now on. -/
def Dev.powerFailing (d : Dev) : Dev :=
  let d : Dev := { d with clk := { d.clk with powerFail := true } }
  let d := d.each 16 fun d p => if (d.burn p).isSome then (d.ctl p (.writeAbort 0xFF)).burnEnd p else d
  let d := d.each 8 fun d n =>
    let d := if d.spState n = 0 then d else d.spToOff n
    (d.setSpin n { d.spin n with start := false }).wr Reg.MOT_SP_STATUS_REQ 0 n
  if d.salState = 2 then d.checkpoint else d

/-- PFW falls below its threshold (R375); before step 8 there is no firmware action (R607). -/
def execPfwFall (s : State) : Host.Outcome State Fault Refusal :=
  s.run fun d =>
    if !d.clk.tideOk then d
    else
      let d := (d.wr Reg.TG_STATUS_PFW 1).setErr Reg.TG_EVENT_PFW_FALL
      if d.powered && !d.safe && d.bootStep == 8 then d.powerFailing else d

/-- TAMPER_N is low (R375, R585): the time is stored, the secure part is wiped while the main supplies are present, and
the firmware acts, at the next step 8 if it does not run now. -/
def execTamper (s : State) : Host.Outcome State Fault Refusal :=
  s.run fun d =>
    if !d.clk.tideOk then d
    else
      let t := d.now.toNat
      let d := (d.wr Reg.TG_TAMPER_LO_TIME (t % 2 ^ 32)).wr Reg.TG_TAMPER_HI_TIME (t / 2 ^ 32)
      let d := (d.wr Reg.TG_STATUS_TAMPER 1).setErr Reg.TG_EVENT_TAMPER
      let d := if d.clk.mainOk && !d.clk.deep then d.wipe [] else d
      if d.powered && !d.safe && d.bootStep == 8 then d.tamperAct
      else { d with clk := { d.clk with tamperLatched := true } }

/-- WAKE_N is low: start-up from DEEP, otherwise the event only (R375, R378). -/
def execWakePin (s : State) : Host.Outcome State Fault Refusal :=
  s.run fun d =>
    if !d.clk.tideOk then d
    else if d.clk.deep && d.clk.mainOk then d.powerUp 2 else d.setErr Reg.TG_EVENT_WAKE

/-- A sideband WAKE message: start-up from DEEP; ignored in any other state (R422). -/
def execSidebandWake (s : State) : Host.Outcome State Fault Refusal :=
  s.run fun d => if d.clk.deep && d.clk.mainOk && d.clk.tideOk then d.powerUp 2 else d

/-! ## DEEP, supplies and resets -/

/-- Whether the SET FEATURE that asked for DEEP still has its completion to post. -/
def Dev.deepAsked (d : Dev) : Bool :=
  d.que.ctxs.any fun e => match e.2 with | some k => k.e.op == 0x09 && k.e.at 40 == 0x01 | none => false

/-- Entry to DEEP after its checkpoint (R377): once the completion of the request is posted (R36) the flash is
write-protected, the links are idle, the secure part is wiped, and every SRAM content is gone, the recorder's too (R37). -/
def execDeepEntry (s : State) : Host.Outcome State Fault Refusal :=
  s.run fun d =>
    if !d.clk.entering || d.deepAsked then d
    else
      let d := ((d.wipe []).dropUnits).emit (.reset true false)
      let d := ((d.wr Reg.HIF_STATUS_LINK_UP 0).wr Reg.HIF_STATUS_RATE 0).wr Reg.HIF_STATUS_BME 0
      let d := (d.wr Reg.PEER_STATUS_LINK 0).wr Reg.PEER_STATUS_ALIVE 0
      { d with clk := { d.clk with entering := false, deep := true, clkout := false } }

/-- VDD_TG is valid (R605): Tidegate starts, and with the main supplies in range so does the device. -/
def execTidePowerOn (s : State) : Host.Outcome State Fault Refusal :=
  s.run fun d => ({ d with clk := { d.clk with tideOk := true } }).restart 0

/-- The main supplies are in range (R605): start-up with cause MAIN_POR. -/
def execMainSupplyValid (s : State) : Host.Outcome State Fault Refusal :=
  s.run fun d =>
    let d : Dev := { d with clk := { d.clk with mainOk := true } }
    if d.clk.tideOk && !d.clk.thermHold then d.powerUp 1 else d

/-- A main supply falls below its reset threshold (R606): the main reset holds until it is valid again. -/
def execMainSupplyLoss (s : State) : Host.Outcome State Fault Refusal :=
  s.run fun d =>
    let d := d.mainReset
    { d with clk := { d.clk with mainOk := false } }

/-- VDD_TG falls below its reset threshold (R605): Tidegate loses its time and state, and the device is held in reset. -/
def execTideSupplyLoss (s : State) : Host.Outcome State Fault Refusal :=
  s.run fun d =>
    let d := d.restart 0
    { d with clk := { d.clk with tideOk := false } }

/-- A UCIe link reset or a hot reset (R420); there is no link before the sideband is up in step 2. -/
def execLinkReset (s : State) : Host.Outcome State Fault Refusal :=
  s.run fun d => if d.powered && decide (2 ≤ d.bootStep) then d.restart 4 else d

/-- A management processor is unresponsive (R379); the boot ROM runs from step 2 on. -/
def execMgmtWatchdog (s : State) : Host.Outcome State Fault Refusal :=
  s.run fun d => if d.powered && decide (2 ≤ d.bootStep) then d.restart 6 else d

/-! ## Thermal limits (R612 to R614) -/

/-- The hottest of the sensor readings, in 1/16 °C. -/
def hottest : List Int → Int
  | [] => 0
  | x :: t => t.foldl max x

/-- The sensors update (R613): THERM_N is asserted from 105 °C and released below 100 °C; a thermal shutdown ends once
every sensor reads below 100 °C (R614). -/
def Dev.sensors (d : Dev) (l : List Int) : Dev :=
  let l := (l ++ d.clk.sensors.drop l.length).take 16
  let h := hottest l
  let n := if 1680 ≤ h then true else if h < 1600 then false else d.clk.thermN
  let d : Dev := { d with clk := { d.clk with sensors := l, thermN := n } }
  if d.clk.thermHold && decide (h < 1600) then
    let d : Dev := { d with clk := { d.clk with thermHold := false } }
    if d.clk.mainOk && d.clk.tideOk then d.powerUp 1 else d
  else d

/-- Each 1 ms the sensors update (R612, R613). -/
def execThermalSensorUpdate (readings : List Int) (s : State) : Host.Outcome State Fault Refusal :=
  s.run fun d => if d.clk.mainOk && d.clk.tideOk then d.sensors readings else d

/-- A sensor has been at 120 °C for 100 µs (R614): the main reset and the shutdown latch. -/
def execThermalShutdown (s : State) : Host.Outcome State Fault Refusal :=
  s.run fun d =>
    if d.clk.mainOk && d.clk.tideOk then
      let d := d.mainReset
      { d with clk := { d.clk with thermLatch := true, thermHold := true } }
    else d

/-! ## The board management port and the test access port -/

/-- Whether the I²C target answers its address (R599): in IDLE and ACTIVE, with the safe latch clear. -/
def Dev.i2cAnswers (d : Dev) : Bool := d.powered && !d.safe && decide (3 ≤ d.bootStep)

/-- The byte at an offset of the I²C target map (Table 17-3). -/
def Dev.i2cByte (d : Dev) (a : Nat) : Nat :=
  let h := hottest d.clk.sensors
  let two (v : Nat) (k : Nat) : Nat := v / 256 ^ (a - k) % 256
  if a < 2 then two 0x8160 0
  else if a = 2 then d.fuse.variant
  else if a = 3 then 0xA1
  else if a = 4 then (if d.clk.thermN then 1 else 0) + (if d.clk.thermLatch then 2 else 0) + 4 * d.powerState
  else if a = 5 then d.bootStep
  else if a = 6 then d.rd Reg.TG_RST_CAUSE_CAUSE
  else if 8 ≤ a && a < 10 then two (toBits 16 h) 8
  else if a = 10 then d.clk.sensors.findIdx (· == h)
  else if 12 ≤ a && a < 14 then two (d.rd Reg.GLB_NODE_NID) 12
  else if 16 ≤ a && a < 48 then two (toBits 16 (d.clk.sensors.getD ((a - 16) / 2) 0)) (a / 2 * 2)
  else 0

/-- A transfer on the board management port (R599): one byte sets the pointer, a further byte written is not acknowledged and
has no effect, and each byte read moves the pointer on. The transfer is one step, so the bytes of a field are of one time. -/
def execI2cPointerWrite (x : I2cTransfer) (s : State) : Host.Outcome State Fault Refusal :=
  s.run fun d =>
    if d.i2cAnswers then
      let d := x.data.foldl (fun (d : Dev) _ => d.send (.i2cAck false)) (d.send (.i2cAck true))
      let bytes := (List.range x.reads).map fun i => d.i2cByte ((x.ptr.toNat + i) % 256)
      let d := if x.reads = 0 then d else d.send (.i2cData bytes)
      { d with clk := { d.clk with i2cPtr := (x.ptr.toNat + x.reads) % 256 } }
    else d.send (.i2cAck false)

/-- The instructions of Table 17-4a. -/
def jtagCodes : List Nat := [0x00, 0x01, 0x02, 0x03, 0x04, 0x05, 0x06, 0x10, 0xFF]

/-- The IDCODE: version 1, part 0x8160, manufacturer 0x4D3, and 1 (R600). -/
def idcode : Nat := 1 * 2 ^ 28 + 0x8160 * 2 ^ 12 + 0x4D3 * 2 + 1

/-- The test data register that an instruction selects, where it holds no cell of the scan chain: the IDCODE, or the bypass
bit, which captures 0 (R600, IEEE 1149.1). -/
def Dev.jtagSelect (d : Dev) (ir : Nat) : Dev :=
  if ir = 0x02 then d.send (.jtagData 32 idcode)
  else if [0x03, 0x04, 0xFF].contains ir then d.send (.jtagData 1 0)
  else d

/-- Update-IR with an instruction (R600): codes not listed act as BYPASS, and CHIP_RESET resets the device. -/
def execJtagInstruction (code : Byte) (s : State) : Host.Outcome State Fault Refusal :=
  s.run fun d =>
    let ir := if jtagCodes.contains code.toNat then code.toNat else 0xFF
    let d : Dev := ({ d with clk := { d.clk with jtagIr := ir } }).jtagSelect ir
    if ir = 0x10 && d.powered then d.restart 7 else d

/-- CHIP_RESET at Update-IR (R600): a reset with cause JTAG. -/
def execJtagChipReset (s : State) : Host.Outcome State Fault Refusal :=
  s.run fun d =>
    let d : Dev := { d with clk := { d.clk with jtagIr := 0x10 } }
    if d.powered then d.restart 7 else d

end Sys2Proof.Machine
end

