-- ==== Sys2Proof/Machine/Startup.lean ====
section
/-! DEFINITION. Start-up (Table 10-5): fuses, clocks, self-test, invalidation, march, the mainband, the firmware image, and
what the firmware does at step 8 (R381, R382, R402 to R405, R507, R548, R570, R576, R586, R588). -/

namespace Sys2Proof.Machine

open Sys2Proof

/-- Start-up is at step `n` and goes on; beyond step 3 no unit runs while the safe latch is set (R364). -/
def Dev.atStep (d : Dev) (n : Nat) : Bool :=
  d.powered && !d.clk.stopped && d.bootStep == n && (decide (n < 3) || !d.safe)

/-- Start-up stops with every output safe (R403). -/
def Dev.stopBoot (d : Dev) : Dev := { d with clk := { d.clk with stopped := true } }

/-! ## Steps 1 to 3 -/

/-- The factory remap entries are applied at step 1 (R397). -/
def Dev.applyRemaps (d : Dev) (keys : List Nat) : Dev :=
  keys.foldl (fun d k => d.useSpare (k / 2 ^ 32) (k % 2 ^ 32 / 2 ^ 20) (k % 2 ^ 20)) d

/-- Step 1: fuses loaded, straps sampled, fuse integrity checked; a failed check stops start-up. -/
def execFuseLoadDone (role : Bool) (nidLo : BitVec 4) (intact : Bool) (s : State) : Host.Outcome State Fault Refusal :=
  s.run fun d =>
    if !d.atStep 0 then d
    else if !intact then d.stopBoot
    else
      let d := d.showFuses role nidLo.toNat
      let d := d.applyRemaps (d.fuse.remaps.map fun q => wordKey q.1 q.2.1 q.2.2)
      d.setBoot Reg.HIF_BOOT_STEP 1

/-- FBO is stable after two full TIDE periods (R360); in step 2 the sideband comes up, the boot ROM runs on FBO until step 3 moves
the management to CORE, and start-up waits for REFCLK (Table 10-5). -/
def execFboStable (s : State) : Host.Outcome State Fault Refusal :=
  s.run fun d =>
    if !d.powered || d.clk.fboPeriods < 2 || d.flag Reg.CLK_STATUS_FBO_STABLE then d
    else
      let d := d.wr Reg.CLK_STATUS_FBO_STABLE 1
      let d := if 1 ≤ d.bootStep then d.wr Reg.HIF_STATUS_SB_UP 1 else d
      if d.atStep 1 then
        let d := (d.wr Reg.CLK_STATUS_SOURCE 1).setBoot Reg.HIF_BOOT_STEP 2
        if d.flag Reg.CLK_STATUS_REF_VALID then d else d.setBoot Reg.HIF_BOOT_WAIT 1
      else d

/-- The root PLL locks in step 3 with REFCLK valid: the dividers and the ONFI PLL start, the management moves to CORE, and
the safe latch is cleared (R350, R363); VDDQ_ONF is sensed (R604). -/
def execRootPllLock (vddqMv : Nat) (s : State) : Host.Outcome State Fault Refusal :=
  s.run fun d =>
    if !d.atStep 2 || !d.flag Reg.CLK_STATUS_REF_VALID || d.clk.tripped then d
    else
      let d := ((d.wr Reg.CLK_STATUS_ROOT_LOCK 1).wr Reg.CLK_STATUS_ONF_LOCK 1).wr Reg.CLK_STATUS_SOURCE 0
      let d := (d.wr Reg.CLK_STATUS_SAFE 0).sense vddqMv
      (d.setBoot Reg.HIF_BOOT_FALLBACK 0).setBoot Reg.HIF_BOOT_STEP 3

/-! ## Steps 4 to 6 -/

/-- The checker self-test of step 4 (R402, R403). -/
def execSelfTestDone (pass : Bool) (s : State) : Host.Outcome State Fault Refusal :=
  s.run fun d =>
    if !d.atStep 3 then d
    else if pass then (d.wr Reg.MEM_STATUS_SELFTEST_OK 1).setBoot Reg.HIF_BOOT_STEP 4
    else (d.memErr Reg.MEM_ERR_SELFTEST 0xFFFF 0xFFFF 0xFFFFFFFF).stopBoot

/-- A reset whose cause keeps the event recorder (Table 10-4). -/
def Dev.keepsRecorder (d : Dev) : Bool := decide (3 ≤ d.rd Reg.TG_RST_CAUSE_CAUSE) && decide (d.rd Reg.TG_RST_CAUSE_CAUSE ≤ 6)

/-- The words of every array are invalid, but those of the event recorder where the cause of the reset keeps it (R381, R393). -/
def Dev.invalidate (d : Dev) : Dev :=
  let keep := d.keepsRecorder
  { d with mem := d.mem.clear fun k => !(keep && k / 2 ^ 32 == 8) }

/-- Step 5: every array is invalidated and the secure part is wiped (R393, R390). -/
def execInvalidationDone (readBack : List (BitVec 64)) (s : State) : Host.Outcome State Fault Refusal :=
  s.run fun d =>
    if d.atStep 4 then
      (d.invalidate.wipe readBack).setBoot Reg.HIF_BOOT_STEP 5
    else d

/-- A failing word of the march (R405): it is remapped, and without a spare, as the critical store and array 10 are (R396), R398
applies; in the scratchpad and the critical store that stops start-up. -/
def Dev.marchWord (d : Dev) (m : MemFault) : Dev :=
  -- a preserving march remaps a word that it cannot read as poisoned (R404)
  let poison := d.rd Reg.TG_BOOT_MARCH == 2 && m.array == 0 && !m.validRow && eccFlips m.flips == .bad
  let d : Dev := if poison then
      { d with mem := { d.mem with poisoned := d.mem.poisoned ++ [wordKey m.array m.bank m.word] } }
    else d
  if !d.hasWord m then d
  else if m.array = 9 || (m.array = 0 && 16 ≤ d.sparesUsed m.array m.bank) then
    ((d.noSpare m).wr Reg.MEM_STATUS_MARCH_FAIL 1).stopBoot
  else if 8 < m.array then d.noSpare m
  else d.remapWord m false

/-- Step 6: the march that TG_BOOT.MARCH selects (R404, R405). A destructive march that passes clears the disabled ways
and KEY_SUSPECT (R413, R585). -/
def Dev.march (d : Dev) (fails : List MemFault) : Dev :=
  let mode := d.rd Reg.TG_BOOT_MARCH
  let d := d.wr Reg.MEM_STATUS_MARCH_MODE mode
  if mode = 0 then d.setBoot Reg.HIF_BOOT_STEP 6
  else
    -- a destructive march leaves every word invalid (R404)
    let d : Dev := if mode = 1 then { d with mem := d.mem.clear fun _ => true } else d
    let d := (fails.foldl (fun d m => d.marchWord m) d).wr Reg.MEM_STATUS_MARCH_DONE 1
    if d.clk.stopped then d
    else
      let d := if mode = 1 && fails.isEmpty then
          let d := d.wr Reg.LCS_STATUS_KEY_SUSPECT 0
          { d with flash := { d.flash with boot := { d.flash.boot with ways := 0 } } }
        else d
      d.setBoot Reg.HIF_BOOT_STEP 6

/-- The march of step 6 ends (R404). -/
def execMarchDone (fails : List MemFault) (s : State) : Host.Outcome State Fault Refusal :=
  s.run fun d => if d.atStep 5 then d.march fails else d

/-! ## Step 7: the firmware image (R381, R428, R586, R588) -/

/-- The magic of an image header (Table 16-9). -/
def imageMagic : Nat := 0x4D49574630383156

/-- Whether an image is rolled back (R588). -/
def Dev.rolledBack (d : Dev) (h : FwHeader) : Bool := decide (h.secVer < d.fuse.secVer)

/-- Whether an image passes the checks of R586 and R588. -/
def Dev.imageOk (d : Dev) (h : FwHeader) : Bool :=
  h.magic.toNat == imageMagic && h.rev == 0xA1 && decide (h.keyIndex ≤ 3) && !d.fuse.revokedKeys.contains h.keyIndex
    && decide (h.length ≤ 16777216) && decide (512 ≤ h.length) && h.signatureOk && !d.rolledBack h

/-- An image is rejected (R587, R588): the spec gives the reason no numbers (assumption 2). -/
def Dev.rejectImage (d : Dev) (slot : Nat) (h : Option FwHeader) : Dev :=
  let d := d.setErr Reg.LCS_ERR_FW_REJECT
  let d := match h with | some h => if d.rolledBack h then d.setErr Reg.LCS_ERR_ROLLBACK else d | none => d
  let (reason, d) := d.draw 8
  let (v, sv) := match h with | some h => (h.version.toNat, h.secVer) | none => (0, 0)
  d.record 0x5008 16 4 (payload [(0, 1, slot), (1, 4, v), (5, 1, sv), (6, 1, reason)])

/-- The image runs: step 7 is complete. -/
def Dev.runImage (d : Dev) (h : FwHeader) (image : Nat) : Dev :=
  let d : Dev := { d with mgmt := { d.mgmt with running := some h } }
  ((d.wr Reg.GLB_FW_VER_VER h.version.toNat).setBoot Reg.HIF_BOOT_IMAGE image).setBoot Reg.HIF_BOOT_STEP 7

/-- The boot ROM loads the recovery image: the active slot, the other slot, then record type 9 (R588). With none it stays in
the boot ROM, which serves the admin queue for FIRMWARE LOAD (R382). -/
def Dev.recoveryImage (d : Dev) : Dev :=
  let a := d.mgmt.nextActive
  let d : Dev := { d with mgmt := { d.mgmt with active := a } }
  let slot (i : Nat) : FwSlot := d.mgmt.slots.getD i FwSlot.empty
  let good (x : FwSlot) : Option FwHeader :=
    if x.valid then x.header.filter d.imageOk else none
  let rom := (d.wr Reg.QUE_STATUS_AQ_READY 1).setBoot Reg.HIF_BOOT_ROM 1
  if !d.clk.onfOk then rom
  else
    match good (slot a) with
    | some h => d.runImage h 2
    | none =>
      match good (slot (1 - a)) with
      | some h => ({ d with mgmt := { d.mgmt with active := 1 - a } }).runImage h 2
      | none =>
        match good d.mgmt.recovery with
        | some h => d.runImage h 2
        | none => rom

/-- HIF_FW_CTL.GO (R428): in step 7 with the link up and bus mastering on (R425) the fetch starts, or the length rejects the
image; until then the bit reads 1 and waits (Table 0-4). Once an image has been offered there is no fetch left to start. -/
def Dev.fwGo (d : Dev) : Dev :=
  if !d.flag Reg.HIF_FW_CTL_GO || !d.atStep 6 || !d.flag Reg.HIF_STATUS_LINK_UP || !d.bme then d
  else
    let d := d.wr Reg.HIF_FW_CTL_GO 0
    if d.rd Reg.HIF_FW_CTL_STATUS != 0 || d.flag Reg.HIF_BOOT_ROM || d.rd Reg.HIF_BOOT_IMAGE != 0 then d
    else if 2 ^ 24 < d.rd Reg.HIF_FW_LEN_LEN then
      ((d.wr Reg.HIF_FW_CTL_STATUS 3).rejectImage 0xFF none).recoveryImage
    else
      (d.wr Reg.HIF_FW_CTL_STATUS 1).send
        (.fwFetch (d.rd Reg.HIF_FW_ADDR_LO_ADDR + 2 ^ 32 * d.rd Reg.HIF_FW_ADDR_HI_ADDR) (d.rd Reg.HIF_FW_LEN_LEN))

/-- The mainband is trained (R418, R419), in a start-up that has stopped too (R403): at the lower of the two rates, and at
half width with the degradation of R419; after a trip it stays down (R367). A fetch that waits for it starts (R428). -/
def execMainbandTrained (rate : Fin 2) (x32 repaired : Bool) (s : State) : Host.Outcome State Fault Refusal :=
  s.run fun d =>
    if !d.powered || d.clk.tripped || d.flag Reg.HIF_STATUS_LINK_UP || !(d.clk.stopped || d.atStep 6) then d
    else
      let d := (d.wr Reg.HIF_STATUS_LINK_UP 1).wr Reg.HIF_STATUS_RATE (min rate.val (d.rd Reg.HIF_CFG_MAX_RATE) + 1)
      let d := (d.wr Reg.HIF_STATUS_WIDTH (if x32 then 1 else 0)).wr Reg.HIF_STATUS_REPAIRED (if repaired then 1 else 0)
      (if x32 then d.hifErr Reg.HIF_ERR_WIDTH_DEGRADED else d).fwGo

/-- The firmware fetch ends (R428): the image is accepted, or rejected and the recovery image is loaded (R381). -/
def execFirmwareFetchDone (img : Option FwHeader) (s : State) : Host.Outcome State Fault Refusal :=
  s.run fun d =>
    if !d.atStep 6 || d.rd Reg.HIF_FW_CTL_STATUS != 1 then d
    else
      match img with
      | some h =>
        if d.imageOk h then (d.wr Reg.HIF_FW_CTL_STATUS 2).runImage h 1
        else ((d.wr Reg.HIF_FW_CTL_STATUS 3).rejectImage 0xFF img).recoveryImage
      | none => ((d.wr Reg.HIF_FW_CTL_STATUS 3).rejectImage 0xFF img).recoveryImage

/-- No image is offered within 120 ms of link-up (R381); one whose fetch waits for bus mastering is offered (R428). -/
def execFirmwareOfferTimeout (s : State) : Host.Outcome State Fault Refusal :=
  s.run fun d =>
    if d.atStep 6 && d.flag Reg.HIF_STATUS_LINK_UP && d.rd Reg.HIF_FW_CTL_STATUS == 0 && !d.flag Reg.HIF_FW_CTL_GO &&
        !d.flag Reg.HIF_BOOT_ROM then
      d.recoveryImage
    else d

/-! ## Step 8 -/

/-- The firmware recovers the Saltern (Table 14-6) and the stripes in flight (R548); with VDDQ_ONF in disagreement that
waits (R604). -/
def Dev.salRecover (d : Dev) : Dev :=
  match d.sal.scan with
  | none => d
  | some rd =>
    if !d.flashOk then d
    else
      let d : Dev := { d with sal := { d.sal with scan := none } }
      if !rd.keyGood then d.salErr Reg.SAL_ERR_KEY
      else
        let k : Nat := d.flash.boot.keyGen
        let d := ({ d with sal := { d.sal with keyGen := some k } }).recoverSaltern rd
        let recs := d.flash.journal.flatMap fun j => j.2
        let vols := d.volumesOf fun _ => true
        let d := (d.rebuildStripes vols recs).decideStripes vols (d.buildIndex false)
        -- what is live of the mirror stream is counted from its pages; its index serves nothing before a takeover (R500)
        let d : Dev := { d with sal := { d.sal with idx := d.buildIndex true } }
        (d.checkpoint.showSets).wr Reg.SAL_STATUS_STATE 2

/-- The Saltern at step 8: unformatted, in an operation that goes on (R485), or to be recovered. -/
def Dev.salStart (d : Dev) (rd : SalternScan) : Dev :=
  let running (t : Nat) : Bool := d.mgmt.bgOps.any fun e => match e.2 with
    | some o => o.type == t && o.state == 0 && o.object == 0 && o.arg == 0
    | none => false
  if running 1 then d.wr Reg.SAL_STATUS_STATE 3
  else if d.mgmt.bgOps.any (fun e => match e.2 with | some o => o.type == 2 && o.state == 0 | none => false) then
    (d.showGeometry).wr Reg.SAL_STATUS_STATE 4
  else if !d.flash.boot.formatted then d.wr Reg.SAL_STATUS_STATE 0
  else
    let d := d.showGeometry.wr Reg.SAL_STATUS_STATE 1
    ({ d with sal := { d.sal with scan := some rd } }).salRecover

/-- The security version rises at the first step 8 that an activated image reaches (R588). -/
def Dev.raiseSecVer (d : Dev) : Dev :=
  let here := d.rd Reg.HIF_BOOT_IMAGE == 2 && d.mgmt.activated && d.mgmt.active == d.mgmt.nextActive
  match d.mgmt.running with
  | some h =>
    if !here then d
    else
      let v := max d.fuse.secVer h.secVer
      ({ d with fuse := { d.fuse with secVer := v }, mgmt := { d.mgmt with activated := false } }).wr Reg.LCS_STATUS_SEC_VER v
  | none => d

/-- The START record (Table 16-4). -/
def Dev.startRecord (d : Dev) : Dev :=
  d.emit (.start (d.recReq 0x5001 16 2 (payload [(0, 1, d.rd Reg.TG_RST_CAUSE_CAUSE), (1, 1, d.rd Reg.TG_STATUS_TIME_VALID),
    (2, 4, d.rd Reg.GLB_FW_VER_VER), (6, 1, d.lifeCycle)]) 0 0 0 0 false))

/-- The boot records that the firmware applies: the tamper hold (R585), remaps made in service (R397), disabled ways (R413)
and the progress of background operations (R485). -/
def Dev.applyBoot (d : Dev) : Dev :=
  let b := d.flash.boot
  let d := if b.tamperHold then d.wr Reg.LCS_STATUS_TAMPER_HOLD 1 else d
  let keys := b.remaps.filter fun k => !d.mem.service.contains k
  let d := d.applyRemaps keys
  let d : Dev := { d with mem := { d.mem with service := b.remaps }, mgmt := { d.mgmt with
    handles := true, bgOps := b.ops
    bgNext := b.ops.foldl (fun n e => max n (e.1 + 1)) 0 } }
  let d := if b.tamperHold then d.setBurns 0 3 else d.opMedia
  (d.each 16 fun d w => if b.ways.getLsbD w then (d.wayLeave w).setBit Reg.BRC_WAY_ST_DISABLED w else d).recordWays

/-- The peer configuration of the boot area (R570): the link trains and the node waits for the peer before it claims; without
one it claims its home mechanisms at once. -/
def Dev.peerStart (d : Dev) : Dev :=
  match d.flash.boot.peer with
  | some (node, ingest, journal, us, home) =>
    let d := ((d.wr Reg.PEER_CFG_HOME_SP home).wr Reg.PEER_NODE_NID node).wr Reg.PEER_NODE_HB_US us
    let d := d.wr Reg.PEER_STATUS_CONFIGURED 1
    let d : Dev := { d with mgmt := { d.mgmt with mirrorIngest := ingest, mirrorJournal := journal } }
    Dev.nerTrain { d with peer := { d.peer with waitClaim := true } }
  | none => d.claimHome (d.rd Reg.PEER_CFG_HOME_SP)

/-- The parameters of an axis window that describe its mechanism (Table 8-9). -/
def mechFields : List Fld := open Reg in [MOT_AX_CFG_STEP, MOT_AX_CFG_KOF, MOT_AX_CFG_CUR_MISS_MAX, MOT_AX_VA_V_MAX, MOT_AX_VA_A_MAX,
  MOT_AX_LIM_MIN_POS, MOT_AX_LIM_MAX_POS, MOT_AX_CUR_I_RUN, MOT_AX_CUR_HOLD_PCT, MOT_AX_CUR_HYST, MOT_AX_HOME_HOME_V,
  MOT_AX_HOME_HOME_PCT, MOT_AX_HOME_STANDSTILL_T, MOT_AX_HOME2_HOME_DIST, MOT_AX_HOME2_HOME_POS, MOT_AX_OFF_OFF_DB,
  MOT_AX_OFF_OFF_GAIN, MOT_AX_OFFV_OFF_V, MOT_AX_OFFV_POS_TOL]

/-- The firmware loads the values of the integrator's mechanism into the axis windows, once the part is provisioned (R330): R330
does not say when, and the model takes the end of start-up (DESIGN CHOICE, log entry 128). -/
def Dev.loadMechanism (d : Dev) : Dev :=
  if d.lifeCycle = 0 then d
  else d.each 32 fun d a =>
    if d.hasAx a then mechFields.foldl (fun d f => d.wrAx f (Config.mechanism a (f.base - 0x508000) f.lo) a) d else d

/-- Step 8: the firmware is initialised, the START record is made, and the admin queue is ready (R381, R459). -/
def Dev.initDone (d : Dev) (rd : SalternScan) : Dev :=
  let d := d.raiseSecVer.startRecord.setBoot Reg.HIF_BOOT_STEP 8
  let sets := d.flash.cal
  let d : Dev := { d with sal := { d.sal with wpAll := false }, cal := { d.cal with sets := sets } }
  let valid := (List.range 16).filter fun p => sets.any fun e => e.1 / 96 / 4 % 16 == p && !e.2.isEmpty
  let d := d.wr Reg.CAL_STATUS_VALID ((valid.map (2 ^ ·)).sum)
  let d := (((d.applyBoot.salStart rd).showSets).peerStart).loadMechanism
  let d := if d.clk.tamperLatched then
      ({ d with clk := { d.clk with tamperLatched := false } }).tamperAct
    else d
  -- ports enabled before step 8 leave electrical idle now (R363)
  let d := d.each 16 fun d p => if d.flag Reg.SOR_CFG_EN p then d.sorEnable p else d
  d.wr Reg.QUE_STATUS_AQ_READY 1

/-- The firmware is initialised (R381). -/
def execFirmwareInitDone (rd : SalternScan) (s : State) : Host.Outcome State Fault Refusal :=
  s.run fun d => if d.atStep 7 then d.initDone rd else d

end Sys2Proof.Machine
end

