-- ==== Sys2Proof/Machine/Host.lean ====
section
/-! DEFINITION. The host attachment and the resolution of faults (R419 to R448): the link, bus mastering, walks and
read completions, the read delivery hold, host-lent memory, RESOLVE FAULT, and the address space features. -/

namespace Sys2Proof.Machine

open Sys2Proof

/-! ## The function's identity (R423) -/

/-- The words of the configuration header that Table 12-2 fixes, by byte offset of the PCI header: the identifiers, the
class code and revision, BAR0 as one that decodes 16 MiB in 64-bit address space, and BAR2 to BAR5 and the expansion ROM,
which are not implemented and read 0. -/
def Dev.identity (d : Dev) : Nat → Option Word
  | 0x00 => some 0x81601F3D
  | 0x08 => some 0x018000A1
  | 0x18 | 0x1C | 0x20 | 0x24 | 0x30 => some 0
  | 0x2C => some (d.fuse.subId ++ d.fuse.subVendor)
  | _ => none

/-! ## The read delivery hold (R440) -/

/-- The LB at the parked boundary of a READ in delivery: its LBA. -/
def Ctx.boundary (k : Ctx) (x : Xfer) : Nat :=
  k.e.lba.toNat + (match k.stop with | some a => a - k.e.lba.toNat | none => k.e.count.toNat)
    - (x.left + 4095) / 4096

/-- The volume, stripe, member and LBs of the cluster in which a delivery is parked, when that cluster comes from disc
through pickup `p`. -/
def Dev.heldCluster (d : Dev) (p : Nat) (x : Xfer) : Option (Nat × DiscSet × Nat × Nat × List Nat) :=
  match x.what, x.st with
  | .dataWrite c, .parked _ | .dataWrite c, .noBus =>
    match d.ctx c with
    | none => none
    | some k =>
      if k.wait != .deliver || !k.todo.isEmpty then none
      else
        let vol := k.e.volume.toNat
        let lba := k.boundary x
        match d.volSet vol with
        | none => none
        | some s =>
          let (n, m, j, _) := s.place lba
          let here := match d.spindleOfDisc (s.members.getD m (0, 0)).1 with
            | some sp => sp == spindleOf p && caSide (d.clusterAt s vol n m) == p % 2
            | none => false
          if here && (d.idxOf vol lba).isNone && (d.burnedGen s vol lba).isSome then
            some (vol, s, n, m, ((List.range (16 - j)).map (· + lba)).filter fun a =>
              decide (a < k.e.lba.toNat + k.e.count.toNat) && (match k.stop with | some b => decide (a < b) | none => true))
          else none
  | _, _ => none

/-- The oldest held cluster of a pickup is released: HOLD_EXPIRED, a class F miss, and the cluster is to be read again
(R440). -/
def Dev.holdExpiry (d : Dev) (p : Nat) : Dev :=
  match d.mmu.xfers.find? (fun x => (d.heldCluster p x).isSome) with
  | none => d
  | some x =>
    match d.heldCluster p x with
    | none => d
    | some (vol, s, n, m, lbas) =>
      let d := ((d.hifErr Reg.HIF_ERR_HOLD_EXPIRED).bump Reg.HIF_CNT_HOLD_COUNT).miss 7 p
      match x.what with
      | .dataWrite c =>
        match d.ctx c with
        | some k => (d.setCtx c (some { k with todo := lbas })).readCluster s vol n m [c]
        | none => d
      | _ => d

/-- The clusters that a pickup holds for parked deliveries (R440). -/
def Dev.heldBy (d : Dev) (p : Nat) : Nat := (d.mmu.xfers.filter fun x => (d.heldCluster p x).isSome).length

/-- At most 4 clusters of a pickup are held: a fifth releases the oldest (R440). -/
def Dev.heldLimit (d : Dev) : Dev :=
  if !d.mmu.xfers.any (fun x => match x.what, x.st with
    | .dataWrite _, .parked _ | .dataWrite _, .noBus => true | _, _ => false) then d
  else (List.range 16).foldl (fun d p => if 4 < d.heldBy p then d.holdExpiry p else d) d

/-! ## The link and the sideband -/

/-- What transfers that have moved on let go on. -/
def Dev.moved (d : Dev) : Dev := d.reap.heldLimit.linesMoved

/-- A STATUS QUERY is answered with a STATUS message (R422). -/
def execSidebandStatusQuery (s : State) : Host.Outcome State Fault Refusal :=
  s.run fun d => if d.flag Reg.HIF_STATUS_SB_UP then d.sendStatus else d

/-- The link degrades to x32 (R419). -/
def execLinkWidthDegrade (s : State) : Host.Outcome State Fault Refusal :=
  s.run fun d =>
    if d.flag Reg.HIF_STATUS_LINK_UP && !d.flag Reg.HIF_STATUS_WIDTH then
      (d.wr Reg.HIF_STATUS_WIDTH 1).hifErr Reg.HIF_ERR_WIDTH_DEGRADED
    else d

/-- The link retrains without a reset: device state is kept (R419). -/
def execLinkRetrain (s : State) : Host.Outcome State Fault Refusal :=
  s.run fun d => if d.flag Reg.HIF_STATUS_LINK_UP then d.hifErr Reg.HIF_ERR_RETRAIN else d

/-- Bus mastering is withdrawn (R425, R445): every class parks. A request already on the link completes. -/
def execBusMasterDisable (s : State) : Host.Outcome State Fault Refusal :=
  s.run fun d =>
    let d := d.wr Reg.HIF_STATUS_BME 0
    let d : Dev := { d with mmu := { d.mmu with xfers := d.mmu.xfers.map fun (x : Xfer) =>
      if x.st == .ready || x.st == .walking then { x with st := .noBus } else x } }
    d.heldLimit

/-- The transfers of a READ whose cluster has been released wait until it has been read again (R440). -/
def Dev.heldBackX (d : Dev) (x : Xfer) : Bool :=
  match x.what with
  | .dataWrite c | .sealWrite c =>
    (match d.ctx c with | some k => k.wait == .deliver && !k.todo.isEmpty | none => false)
  | _ => false

/-- A parked transfer translates again from its boundary, or waits for its cluster. -/
def Dev.unpark (d : Dev) (x : Xfer) : Dev :=
  if d.heldBackX x then d.putX { x with st := .parked reread } else (d.putX { x with st := .ready }).go x.id

/-- Bus mastering returns (R445): parked transfers go on, then the pending messages whose vectors are unmasked are
sent, and a firmware fetch that waited for it starts (R428). -/
def execBusMasterEnable (s : State) : Host.Outcome State Fault Refusal :=
  s.run fun d =>
    if !d.flag Reg.HIF_STATUS_LINK_UP then d
    else
      let d := d.wr Reg.HIF_STATUS_BME 1
      let d := (byClass (d.mmu.xfers.filter fun x => x.st == .noBus)).foldl (fun d x => d.unpark x) d
      let due := d.pba.filter fun v => mget d.msixTab 1 (4 * v + 3) % 2 == 0
      let d := { d with pba := d.pba.filter fun v => !due.contains v }
      (due.foldl (fun d v => d.msix v) d).moved.fwGo

/-! ## Walks and reads (R433 to R435, R442, R443) -/

/-- The error of the first table read that failed, if a walk ended on one: HIF_ERR and its counter (R435). -/
def Dev.tableErr (d : Dev) (reads : List TableRead) : Dev :=
  match reads.find? (fun r => match r with | .failed _ => true | .entry _ => false) with
  | some (.failed p) =>
    (d.hifErr (if p then Reg.HIF_ERR_POISON_RX else Reg.HIF_ERR_CPL_ERR)).bump Reg.HIF_CNT_CPL_ERR_COUNT
  | _ => d

/-- How the walk of a transfer ends with the entries read from its starting level. -/
def Dev.walkResult (d : Dev) (x : Xfer) (reads : List TableRead) : WalkRes :=
  let (level, r, w) := d.walkFrom x.asid x.va
  walk x.asid x.va x.write level r w reads

/-- A table walk ends (R433). -/
def execTranslationWalkDone (x : Nat) (reads : List TableRead) (s : State) : Host.Outcome State Fault Refusal :=
  s.run fun d =>
    let bad := match d.mmu.xfers.find? (fun y => y.id == x && y.st == .walking) with
      | some y => (match d.walkResult y reads with | .fail 4 _ => true | _ => false)
      | none => false
    ((if bad then d.tableErr reads else d).walkDone x reads).moved

/-- The invalidations that wait for a read (R434): the last one ends the invalidation. -/
def Dev.readEnded (d : Dev) (x : Nat) : Dev :=
  (d.que.ctxs.map (·.1)).foldl (fun d c =>
    match d.ctx c with
    | some k =>
      match k.wait with
      | .invalidated l =>
        if !l.contains x then d
        else if (l.erase x).isEmpty then (d.bump Reg.MMU_CNT_INV_COUNT).complete c St.success
        else d.await c (.invalidated (l.erase x))
      | _ => d
    | none => d) d

/-- Read data joins what its transfer gathers. -/
def Dev.gather (d : Dev) (what : Purpose) (bytes : List Byte) : Dev :=
  match what with
  | .dataRead c =>
    match d.ctx c with
    | some k => d.setCtx c (some { k with buf := k.buf ++ bytes })
    | none => d
  | .sealRead c =>
    match d.ctx c with
    | some k => d.setCtx c (some { k with seals := k.seals ++ bytes })
    | none => d
  | _ => d

/-- A read request of a transfer completes (R442), or fails as TARGET_ERROR (R435). -/
def Dev.readCompletes (d : Dev) (id : Nat) (r : ReadResult) : Dev :=
  match d.mmu.xfers.find? (fun y => y.id == id) with
  | none => d
  | some x =>
    match x.st with
    | .issued n =>
      let bad (f : Fld) : Dev :=
        let d := (d.hifErr f).bump Reg.HIF_CNT_CPL_ERR_COUNT
        ((if x.what == .dataRead noCtx then d.dropX id else d.fault x 5 0).readEnded id).tagBack
      match r with
      | .data bytes =>
        let d := (d.gather x.what (bytes.take n)).putX { x with va := x.va + n, left := x.left - n, st := .ready }
        (((d.go id).readEnded id).tagBack).moved
      | .unsupported => bad Reg.HIF_ERR_CPL_ERR
      | .aborted => bad Reg.HIF_ERR_CPL_ERR
      | .poisoned => bad Reg.HIF_ERR_POISON_RX
    | _ => d

/-- A read completion (R442). -/
def execDmaReadCompletion (x : Nat) (r : ReadResult) (s : State) : Host.Outcome State Fault Refusal :=
  s.run fun d => d.readCompletes x r

/-- A read without completion within CPL_TIMEOUT (R443): a data read fails as TARGET_ERROR, a table read as WALK_ERROR
at the level that the walk starts from. -/
def execCompletionTimeout (x : Nat) (s : State) : Host.Outcome State Fault Refusal :=
  s.run fun d =>
    match d.mmu.xfers.find? (fun y => y.id == x) with
    | none => d
    | some y =>
      let d' := (d.hifErr Reg.HIF_ERR_CPL_TIMEOUT).bump Reg.HIF_CNT_CPL_ERR_COUNT
      match y.st with
      | .issued _ => ((if y.what == .dataRead noCtx then d'.dropX x else d'.fault y 5 0).readEnded x).tagBack
      | .walking => (d'.fault y 4 (d.walkFrom y.asid y.va).1).wake fun z => z.st == .ready
      | _ => d

/-- A held cluster is released for re-read (R440). -/
def execDeliveryHoldExpiry (p : Pk) (s : State) : Host.Outcome State Fault Refusal :=
  s.run fun d => d.holdExpiry p.val

/-! ## Host-lent memory (R446, R447) -/

/-- The largest log2 of a power of two that is at most `n`. -/
def log2Floor (n : Nat) : Nat := Nat.log2 n

/-- LEND MEMORY grants a range (R446); half of the grant bounds the staging index (R500). -/
def Dev.lend (d : Dev) (c : Nat) (e : Sqe) : Dev :=
  let base := e.data.toNat
  let size := e.le 48 8
  if d.mmu.hlm.isSome then d.complete c St.invalidState
  else if (d.root (e.at 40)).isNone then d.complete c St.asidInvalid
  else if base % 2 ^ 21 != 0 || size % 2 ^ 21 != 0 || size < 2 ^ 32 || 2 ^ 36 < size || 2 ^ 48 < base + size then
    d.complete c St.invalidField
  else
    let d : Dev := { d with mmu := { d.mmu with hlm := some (e.at 40, base, size) } }
    (d.wr Reg.SAL_IDX_SIZE_LOG2 (log2Floor (size / 2))).complete c St.success

/-- LEND MEMORY with a size (R446). -/
def execLendMemory (c : Nat) (s : State) : Host.Outcome State Fault Refusal :=
  s.run fun d => d.command c (fun e => e.op == 0x0A && e.le 48 8 != 0)
    { data := true, b := [40, 48, 49, 50, 51, 52, 53, 54, 55] } fun d k => d.lend c k.e

/-- LEND MEMORY with size 0 (R447): the structures in host-lent memory are written to their persistent copies, and the
cache is drained (R414) before the grant is returned. -/
def execReturnMemory (c : Nat) (s : State) : Host.Outcome State Fault Refusal :=
  s.run fun d => d.command c (fun e => e.op == 0x0A && e.le 48 8 == 0)
    { data := true, b := [40] } fun d _ =>
      if d.mmu.hlm.isNone then d.complete c St.success
      else
        let d : Dev := { d with flash := { d.flash with cal := d.cal.sets } }
        let d := d.await c .cacheOff
        if d.rd Reg.BRC_STATUS_STATE = 0 then d.cacheOff else d.drainBegin

/-! ## RESOLVE FAULT (R438, R441) -/

/-- A fault record is free: the transfer that waited longest for one has its entry posted (R437). -/
def Dev.freeFault (d : Dev) (id : Nat) : Dev :=
  let d : Dev := { d with mmu := { d.mmu with faults := d.mmu.faults.filter fun f => f.id != id } }
  match d.mmu.spill with
  | f :: t =>
    if d.mmu.faults.length < 256 then ({ d with mmu := { d.mmu with spill := t } }).openFault f else d
  | [] => d

/-- The transfers parked on a fault. -/
def Dev.parkedOn (d : Dev) (id : Nat) : List Xfer := d.mmu.xfers.filter fun x => x.st == .parked id

/-- A CQ stops in its error state: held completions are discarded, and every SQ bound to it stops with cause 5
(R468, Table 12-7). -/
def Dev.cqStop (d : Dev) (n : Nat) : Dev :=
  match d.cq n with
  | none => d
  | some q =>
    let d := q.held.foldl (fun d e => d.setCtx e.ctx none) (d.setCq n (some { q with err := true, held := [] }))
    (d.que.sqs.map (·.1)).foldl (fun d i =>
      match d.sq i with
      | some s => if s.cq = n then d.errorStop i s.fetch 5 else d
      | none => d) d

/-- The effect of ABORT on what a parked transfer serves (Table 12-7). -/
def Dev.abortX (d : Dev) (x : Xfer) : Dev :=
  let d := d.dropX x.id
  match x.what with
  | .sqFetch q => match d.sq q with | some s => d.errorStop q s.fetch 4 | none => d
  | .cqPost n => d.cqStop n
  | .dataRead c | .dataWrite c | .sealRead c | .sealWrite c => d.quit c St.translationFault
  | .hlmFill _ => d
  | .hlmBack key => d.dropLine key
  | .eventPost => { d with mmu := { d.mmu with eventRing := { d.mmu.eventRing with stopped := true } } }
  | .faultPost => { d with mmu := { d.mmu with faultRing := { d.mmu.faultRing with stopped := true } } }
  | .headMirror _ => d

/-- The latched self fault is cleared, and the oldest that waits is latched with a new identifier (R441). -/
def Dev.nextSelf (d : Dev) : Dev :=
  let d := d.wr Reg.MMU_SELF_FAULT_VALID 0
  match d.mmu.selfWait with
  | [] => d
  | (isCq, type, va) :: t =>
    let id := d.mmu.nextFault
    let same (x : Xfer) : Bool := x.st == .parked selfParked && x.va / 4096 == va / 4096
    let d : Dev := { d with mmu := { d.mmu with
      xfers := d.mmu.xfers.map fun (x : Xfer) => if same x then { x with st := .parked id } else x
      selfWait := t.filter fun w => w.2.2 / 4096 != va / 4096 } }
    d.latchSelf isCq type va

/-- The transfers of the fault that a RESOLVE FAULT names, with the fault closed; none when it is not open. -/
def Dev.closeFault (d : Dev) (e : Sqe) : Option (List Xfer × Dev) :=
  let id := e.le 40 2
  let l := d.parkedOn id
  if e.at 43 % 2 = 1 then
    if d.flag Reg.MMU_SELF_FAULT_VALID && d.rd Reg.MMU_SELF_FAULT_ID == id then
      -- the freed transfers leave the latch before the next self fault takes it
      some (l, (l.foldl (fun d x => d.putX { x with st := .ready }) d).nextSelf)
    else none
  else if d.mmu.faults.any (fun f => f.id == id) then
    some (l, (l.foldl (fun d x => d.putX { x with st := .ready }) d).freeFault id)
  else none

/-- RESOLVE FAULT with RETRY (R438): the parked transfers translate again from their boundary. -/
def execResolveFaultRetry (c : Nat) (s : State) : Host.Outcome State Fault Refusal :=
  s.run fun d => d.command c (fun e => e.op == 0x0C && e.at 42 == 0) { b := [40, 41, 42, 43] } fun d k =>
    if 1 < k.e.at 43 then d.complete c St.invalidField
    else
      match d.closeFault k.e with
      | none => d.complete c St.faultNotOpen
      | some (l, d) => ((byClass l).foldl (fun d x => d.unpark x) (d.complete c St.success)).moved

/-- RESOLVE FAULT with ABORT (R438): what the parked transfers serve ends as Table 12-7 says. -/
def execResolveFaultAbort (c : Nat) (s : State) : Host.Outcome State Fault Refusal :=
  s.run fun d => d.command c (fun e => e.op == 0x0C && e.at 42 == 1) { b := [40, 41, 42, 43] } fun d k =>
    if 1 < k.e.at 43 then d.complete c St.invalidField
    else
      match d.closeFault k.e with
      | none => d.complete c St.faultNotOpen
      | some (l, d) => (l.foldl (fun d x => d.abortX x) (d.complete c St.success)).moved

/-! ## Address spaces (R432, R434) -/

/-- SET FEATURE ASID_ROOT (R432): refused while an enabled queue is bound to the ASID or host-lent memory lies in it. -/
def execSetFeatureAsidRoot (c : Nat) (s : State) : Host.Outcome State Fault Refusal :=
  s.run fun d => d.command c (isFeature 0x02) { b := [40, 41, 48, 49, 50, 51, 52, 53, 54, 55] } fun d k =>
    let a := k.e.at 41
    let v := k.e.le 48 8
    let bound := d.que.sqs.any (fun e => match e.2 with | some q => q.asid == a && q.state == 0 | none => false)
      || d.que.cqs.any (fun e => match e.2 with | some q => q.asid == a && !q.err | none => false)
    let lent := match d.mmu.hlm with | some (x, _, _) => x == a | none => false
    if a = 0 || v / 2 % 2 ^ 11 != 0 || v / 2 ^ 52 != 0 then d.complete c St.invalidField
    else if bound || lent then d.complete c St.invalidState
    else
      let d := (d.wr Reg.MMU_AS_ROOT_LO_VALID (v % 2) (a - 1)).wr Reg.MMU_AS_ROOT_LO_ADDR (v / 4096 % 2 ^ 20) (a - 1)
      (d.wr Reg.MMU_AS_ROOT_HI_ADDR (v / 2 ^ 32 % 2 ^ 20) (a - 1)).complete c St.success

/-- Whether two address ranges (start, length) meet. -/
def rangesMeet (a n b m : Nat) : Bool := decide (a < b + m) && decide (b < a + n)

/-- The range of VAs that an INVALIDATE names. -/
def invalRange (e : Sqe) : Nat × Nat :=
  if e.at 42 = 0 then (0, 2 ^ 48) else (e.le 48 8 / 4096 * 4096, 4096 * e.le 56 4)

/-- SET FEATURE INVALIDATE (R434): every entry of the TLB and the walk cache that the range touches is removed; the
command ends once every read issued with one of them has its data. -/
def execSetFeatureInvalidate (c : Nat) (s : State) : Host.Outcome State Fault Refusal :=
  s.run fun d => d.command c (isFeature 0x03)
    { b := [40, 41, 42, 48, 49, 50, 51, 52, 53, 54, 55, 56, 57, 58, 59] } fun d k =>
      let e := k.e
      let a := e.at 41
      let (va, n) := invalRange e
      let whole := e.at 42 == 0
      if 1 < e.at 42 || (whole && (e.le 48 8 != 0 || e.le 56 4 != 0))
          || (!whole && (e.le 56 4 == 0 || 65536 < e.le 56 4 || 2 ^ 48 < va + n)) then d.complete c St.invalidField
      else
        let d : Dev := { d with mmu := { d.mmu with
          tlb := d.mmu.tlb.filter fun t => !(t.asid == a && rangesMeet va n t.va t.size)
          walks := d.mmu.walks.filter fun w => !(w.asid == a && rangesMeet va n w.va (2 ^ (12 + 9 * w.level))) } }
        let l := (d.mmu.xfers.filter fun x => match x.st with
          | .issued m => x.asid == a && rangesMeet va n x.va m
          | _ => false).map (·.id)
        if l.isEmpty then (d.bump Reg.MMU_CNT_INV_COUNT).complete c St.success
        else d.await c (.invalidated l)

/-! ## Deadline windows (R28) -/

/-- The end of a 1 ms miss window (R28). -/
def execDeadlineWindowEnd (row : Fin 8) (inst : Nat) (s : State) : Host.Outcome State Fault Refusal :=
  s.run fun d => d.missEnd row.val inst

end Sys2Proof.Machine
end

