-- ==== Sys2Proof/Machine/Admin.lean ====
section
/-! DEFINITION. IDENTIFY, the features of the device, DIAGNOSTIC and PROGRESS (R36, R472, R482, R484, R485, R625). -/

namespace Sys2Proof.Machine

open Sys2Proof

/-- Draws free bytes (assumption 2). -/
def Dev.drawBytes (d : Dev) (n : Nat) : List Byte × Dev :=
  ((List.range n).map fun i => BitVec.ofNat 8 (Config.freeValue (d.freeCtr + i)), { d with freeCtr := d.freeCtr + n })

/-- IDENTIFY (R482) writes a 4 KiB structure; the spec gives no layout of the four, so every byte is free.
A volume is that of a set homed here and not offline (R530, R559). -/
def execIdentify (c : Nat) (s : State) : Host.Outcome State Fault Refusal :=
  s.run fun d => d.command c (fun e => e.op == 0x01) { volume := true, data := true, b := [40] } fun d k =>
    let n := k.e.at 40
    if 3 < n || (n != 1 && k.e.volume != 0) then d.complete c St.invalidField
    else if n = 1 && (match d.volSet k.e.volume.toNat with | some x => !x.home || x.destroyed | none => true) then
      d.complete c St.volumeNotFound
    else if n = 1 && (match d.volSet k.e.volume.toNat with | some x => x.offline | none => false) then
      d.complete c St.invalidState
    else
      let p := d.drawBytes 4096
      p.2.replyNow c p.1

/-! ## Features (Table 13-12) -/

/-- The root entry of an ASID from 1 as SET FEATURE takes it. -/
def Dev.rootEntry (d : Dev) (a : Nat) : Nat :=
  d.rd Reg.MMU_AS_ROOT_LO_VALID (a - 1) + 4096 * d.rd Reg.MMU_AS_ROOT_LO_ADDR (a - 1)
    + 2 ^ 32 * d.rd Reg.MMU_AS_ROOT_HI_ADDR (a - 1)

/-- GET FEATURE (R484): the fields of the feature, packed from bit 0 in their order; the bytes that select an instance
are not among them. INVALIDATE holds nothing. -/
def Dev.getFeature (d : Dev) (r : Recorder) (c : Nat) (e : Sqe) : Dev :=
  let only (l : List Nat) : Bool := [41, 42, 43].all fun b => l.contains b || e.at b == 0
  let ok (l : List Nat) (v : Nat) : Dev := if only l then d.complete c St.success v else d.complete c St.invalidField
  match e.at 40 with
  | 1 => ok [] d.powerState
  | 2 => if e.at 41 = 0 then d.complete c St.invalidField else ok [41] (d.rootEntry (e.at 41))
  | 3 => ok [41] 0
  | 4 => ok [] ((if d.rd Reg.BRC_STATUS_STATE = 1 then 0 else 1)
      + 2 ^ 8 * popcount (d.rd Reg.BRC_WAY_ST_SCRATCH) + 2 ^ 16 * d.rd Reg.BRC_WAY_ALLOC + 2 ^ 32 * d.rd Reg.BRC_WAY_LOCK)
  | 5 => ok [] (d.rd Reg.QUE_POLL_INTERVAL)
  | 6 => ok [] r.filter
  | 7 =>
    match d.cq (e.le 42 2) with
    | some q => ok [42, 43] (q.count + 2 ^ 8 * q.timeUs)
    | none => d.complete c St.queueInvalidId
  | 8 => ok [] (d.que.weights.getD 0 0 + 2 ^ 8 * d.que.weights.getD 1 0 + 2 ^ 16 * d.que.weights.getD 2 0)
  | _ => d.complete c St.invalidField

/-- GET FEATURE (R484). -/
def execGetFeature (c : Nat) (s : State) : Host.Outcome State Fault Refusal :=
  s.runR fun r d => d.command c (fun e => e.op == 0x08) { b := [40, 41, 42, 43] } fun d k => d.getFeature r c k.e

/-- SET FEATURE POWER_STATE (R36): DEEP, from IDLE after step 8 with no other command in flight; the checkpoint comes
first, then the completion, then the entry. -/
def execSetFeaturePowerState (c : Nat) (s : State) : Host.Outcome State Fault Refusal :=
  s.run fun d => d.command c (isFeature 0x01) { b := [40, 41] } fun d k =>
    if k.e.at 41 != 1 then d.complete c St.invalidField
    else if d.powerState != 2 || d.bootStep != 8 || d.safe || d.que.ctxs.any (fun e => e.1 != c) then
      d.complete c St.invalidState
    else
      let d := (if d.salState = 2 then d.checkpoint else d).complete c St.success
      { d with clk := { d.clk with entering := true } }

/-- SET FEATURE EVENT_FILTER (R472); severities 6 and 7 are reserved (Table 16-3). -/
def execSetFeatureEventFilter (c : Nat) (s : State) : Host.Outcome State Fault Refusal :=
  s.run fun d => d.command c (isFeature 0x06) { b := [40, 41] } fun d k =>
    if 5 < k.e.at 41 then d.complete c St.invalidField
    else (d.emit (.filter (k.e.at 41))).complete c St.success

/-! ## DIAGNOSTIC (R625) -/

/-- The extent of a block in bytes, by its base [23:16] (Table 17-11); 0 for none. -/
def blockExtent (b : Nat) : Nat :=
  if b = 0x20 then 0x30000 else if b = 0x30 then 0x18000 else if b = 0x40 then 0x40000
  else if b ≤ 0x0A || b = 0x10 || b = 0x38 || b = 0x50 || b = 0x60 || b = 0x70 || b = 0x78 then 0x10000
  else 0

/-- What a DIAGNOSTIC acts on: the offset and length of a window or block, or the status that refuses it. -/
def Dev.window (d : Dev) (b n : Nat) : Except Nat (Nat × Nat) :=
  let whole : Except Nat (Nat × Nat) := .ok (b * 65536, blockExtent b)
  let win (i count : Nat) (here : Bool) (off size : Nat) : Except Nat (Nat × Nat) :=
    if count ≤ i then .error St.invalidField else if !here then .error St.notPresent else .ok (off + i * size, size)
  if blockExtent b = 0 then .error St.invalidField
  else if n = 0xFFFF then whole
  else if b = 0x10 then win n 16 (d.hasPk n) 0x100000 0x1000
  else if b = 0x20 then win n 512 (d.hasSpot n) 0x210000 0x100
  else if b = 0x30 then win n 512 (d.hasSpot n) 0x310000 0x40
  else if b = 0x40 then win n 16 (d.hasPk n) 0x400000 0x4000
  else if b = 0x50 then
    if n < 0x100 then win n 8 (d.hasSp n) 0x500000 0x1000 else win (n - 0x100) 32 (d.hasAx (n - 0x100)) 0x508000 0x400
  else if n = 0 then whole
  else .error St.invalidField

/-- Whether a bit address is that of a counter that DIAGNOSTIC clears, between two offsets. -/
def counterKey (lo hi key : Nat) : Bool :=
  let off := key / 32 * 4
  decide (lo ≤ off) && decide (off < hi) &&
    (match regAt off with
     | some (g, _, _) => g.fields.any fun f => f.ctr && f.lo == key % 32
     | none => false)

/-- Clears the counters between two offsets: they return to their reset value. -/
def Dev.clearCounters (d : Dev) (lo hi : Nat) : Dev :=
  let d : Dev := { d with fv := d.fv.filter fun e => !counterKey lo hi e.1 }
  if lo ≤ 0x80014 && 0x80014 < hi then d.emit .zeroOverwrite else d

/-- DIAGNOSTIC that clears counters (R625). -/
def execDiagnosticClear (c : Nat) (s : State) : Host.Outcome State Fault Refusal :=
  s.run fun d => d.command c (fun e => e.op == 0x3C && e.at 40 == 0) { b := [40, 41, 42, 43] } fun d k =>
    match d.window (k.e.at 41) (k.e.le 42 2) with
    | .error st => d.complete c st
    | .ok (off, n) => (d.clearCounters off (off + n)).complete c St.success

/-- DIAGNOSTIC that copies registers (R625): the words of the window in offset order. -/
def execDiagnosticSnapshot (c : Nat) (s : State) : Host.Outcome State Fault Refusal :=
  s.runR fun r d => d.command c (fun e => e.op == 0x3C && e.at 40 == 1)
    { data := true, b := [40, 41, 42, 43] } fun d k =>
      match d.window (k.e.at 41) (k.e.le 42 2) with
      | .error st => d.complete c st
      | .ok (off, n) =>
        let d := (List.range (n / 4)).foldl (fun d i => d.wakeAt (off + 4 * i)) d
        d.replyNow c ((List.range (n / 4)).flatMap fun i => leBytes 4 (d.readWord r (off + 4 * i)))

/-! ## PROGRESS (R485, Table 13-11) -/

/-- The progress entry of an operation. -/
def progressOf (id : Nat) (o : BgOp) : Nat :=
  id + 2 ^ 16 * o.type + 2 ^ 20 * o.state + 2 ^ 24 * (o.step % 256) + 2 ^ 32 * o.done + 2 ^ 48 * o.object

/-- An operation that the device knows. -/
def Dev.bgOp (d : Dev) (id : Nat) : Option BgOp := mget d.mgmt.bgOps none id

/-- PROGRESS of one operation, or of all (R485). -/
def execProgress (c : Nat) (s : State) : Host.Outcome State Fault Refusal :=
  s.run fun d => d.command c (fun e => e.op == 0x13) { data := true, b := [40, 41] } fun d k =>
    let n := k.e.le 40 2
    if n = 0xFFFF then
      let l := (d.mgmt.bgOps.filterMap fun e => e.2.map fun o => progressOf e.1 o).take 64
      d.replyNow c (l.flatMap (leBytes 8)) l.length
    else if k.e.data != 0 then d.complete c St.invalidField
    else
      match d.bgOp n with
      | some o => d.complete c St.success (progressOf n o)
      | none => d.complete c St.invalidField

end Sys2Proof.Machine
end

