-- ==== Sys2Proof/Machine/Media.lean ====
section
/-! DEFINITION. MEDIA EVENT: what a loaded disc says of itself, and how it leaves (R482, R522 to R525, R548, R549). -/

namespace Sys2Proof.Machine

open Sys2Proof

/-- A MEDIA EVENT of a kind: 0 LOADED, 1 UNLOAD, 2 EMPTY. -/
def isMedia (event : Nat) (e : Sqe) : Bool := e.op == 0x10 && e.at 41 == event

/-- The checks of a MEDIA EVENT on a spindle (R5). -/
def Dev.spindleCheck (d : Dev) (sp : Nat) : Option Nat :=
  if 8 ≤ sp then some St.invalidField else if !d.hasSp sp then some St.notPresent else none

/-! ## LOADED (R524, R525) -/

/-- The set key and the member of a disc: the set that names it, else what its ledger says of a set not known here. A
ledger of an older set generation yields (R551), and a destroyed flag ends the membership (R532). -/
def Dev.memberOf (d : Dev) (led : LedgerInfo) : Option (Nat × Nat) :=
  if led.destroyed then none
  else
    match d.set.sets.find? (fun e => match e.2 with | some s => s.members.any (fun q => q.1 == led.disc) | none => false) with
    | some (key, some s) => (s.members.findIdx? fun q => q.1 == led.disc).map fun m => (key, m)
    | _ => match led.member with
      | some (vol, m, _) => if (d.volSet vol).isSome then none else some (vol, m)
      | none => none

/-- The bands of a disc whose burn the journal says was begun (R525). -/
def Dev.startedBands (d : Dev) (disc : Nat) : List Nat :=
  ((d.flash.journal.flatMap fun j => j.2) ++ d.sal.pend).filterMap fun r =>
    if recAt r 0 8 == 6 && recAt r 8 48 == disc then
      let a := recAt r 64 32
      some (bandKey (faSide a) (faLayer a) (faBand a))
    else none

/-- The bands that the stripes in flight say a member has burned. -/
def Dev.burnedBands (d : Dev) (key m : Nat) : List Nat :=
  d.set.stripes.filterMap fun e => match e.2 with
    | some t =>
      if e.1 / 2 ^ 32 = key && t.burned.testBit m then some (bandKey (caSide t.slot) (caLayer t.slot) (caBand t.slot)) else none
    | none => none

/-- The bands of a loaded disc: its ledger's, those that the journal says were burned since, and as damaged those begun and
not verified and those in which a blank probe decoded a frame (R520, R525). The second part lists the newly damaged. -/
def Dev.bandsOf (d : Dev) (led : LedgerInfo) (member : Option (Nat × Nat)) : List (Nat × Nat) × List Nat :=
  let base : List (Nat × Nat) := led.bands.foldl (fun (l : List (Nat × Nat)) q => mset l 0 (q.1 * bandCount + q.2.1) q.2.2) []
  let burned := match member with | some (key, m) => d.burnedBands key m | none => []
  let base := burned.foldl (fun l k => if mget l 0 k = 0 then mset l 0 k 1 else l) base
  let bad := (d.startedBands led.disc ++ led.probed.map fun q => q.1 * bandCount + q.2).filter fun k => mget base 0 k == 0
  (bad.foldl (fun l k => mset l 0 k 3) base, bad.eraseDups)

/-- The state of the stripes in flight that a member of the set holds is decided (R548, Table 15-5), once the staged LBs are
known. -/
def Dev.decideMember (d : Dev) (key : Nat) : Dev :=
  if !d.flag Reg.SAL_STATUS_INDEX_READY || 65536 ≤ key then d
  else (d.inFlightOf [key]).foldl (fun d q => if q.2.2.burned != 0 then d.decideStripe d.sal.idx q.1 q.2.1 else d) d

/-- What waits for a disc goes on: rebuilds and reshapes of its set read and gather again (R551, R556). -/
def Dev.resumeCopies (d : Dev) (key : Nat) : Dev :=
  if d.flag Reg.LCS_STATUS_TAMPER_HOLD then d
  else
    let d := d.opMedia
    let d := match d.volSet key with
      | some s => s.rebuilding.foldl (fun (d : Dev) m => d.rebuildWant key m) d
      | none => d
    match d.volSet (srcVol key) with
    | some s => if s.reshaping then d.reshapeWant (srcVol key) else d
    | none => d

/-- The tables of a loaded disc that its set does not hold yet (R516, R548): replacements and remaps, sealed volumes, lost
entries, and what its runs and its journal copy say of stripes in flight. Using the copy sets SET_ERR.JOURNAL_SOURCE. -/
def Dev.mergeLedger (d : Dev) (key m : Nat) (led : LedgerInfo) : Dev :=
  match d.volSet key with
  | none => d
  | some s =>
    if 65536 ≤ key || !s.home then d
    else
      let same (a b : Remap) : Bool := a.vol == b.vol && a.old == b.old && a.new == b.new && a.member.isNone == b.member.isNone
      let maps := led.remaps.filter fun r => r.vol == key && !(d.set.remaps.any fun q => same q r)
      let d : Dev := { d with set := { d.set with remaps := d.set.remaps ++ maps } }
      let d := if led.seals.any fun q => q.2.1 == key then d.putSet key (some { s with sealedVol := true }) else d
      let lost := (led.lost.filter fun l => l.vol == key && !d.set.lost.contains l).eraseDups
      let d := lost.foldl (fun d l => d.addLost l) d
      let new := led.flight.filter fun q => q.1 == key && (d.stripe key q.2.1).isNone
      let d := new.foldl (fun (d : Dev) q =>
        d.putStripe key q.2.1 (some { Stripe.fresh q.2.2.1 with burned := q.2.2.2.1, recorded := q.2.2.2.2 })) d
      let d := if new.isEmpty then d else d.setErrRec Reg.SET_ERR_JOURNAL_SOURCE key
      -- a stripe in flight that a run of this member covers is recorded on it
      let covered (n : Nat) : Bool := led.runs.any fun r =>
        r.volume == key && r.member == m && decide (r.first ≤ n) && n % 2 == r.first % 2 && decide (n < r.first + 2 * r.count)
      (d.inFlightOf [key]).foldl (fun (d : Dev) q =>
        if covered q.2.1 && q.2.2.slot == ((led.runs.find? fun r => r.first == q.2.1).map (·.slot)).getD q.2.2.slot
            && !q.2.2.recorded.testBit m then
          d.putStripe key q.2.1 (some { q.2.2 with recorded := q.2.2.recorded + 2 ^ m })
        else d) d

/-- A readable disc of this format, blank or recorded, is loaded (R524, R525): its tables and its epoch, a full calibration
of both pickups, and the state of the stripes in flight. -/
def Dev.takeDisc (d : Dev) (sp : Nat) (led : LedgerInfo) : Dev :=
  let member := if led.blank then none else d.memberOf led
  let (bands, bad) := if led.blank then ([], []) else d.bandsOf led member
  let id := if led.blank then 0 else led.disc
  let x : Disc := {
    id := id, epoch := if led.blank then 0 else led.epoch % 512, blank := led.blank, foreign := false,
    formatted := !led.blank, member := member, commits := if led.blank then [0, 0] else led.commits, bands := bands,
    spare := d.set.pool.any fun q => q.1 == id, spares := [], runs := if led.blank then [] else led.runs,
    seals := if led.blank then [] else led.seals }
  let d := d.putDisc sp (some x)
  let d := [2 * sp, 2 * sp + 1].foldl (fun (d : Dev) p =>
    let d := (d.wr Reg.YAR_PK_EPOCH_EPOCH x.epoch p).wr Reg.YAR_PK_EPOCH_VALID (if led.blank then 0 else 1) p
    (d.discTables p).calAsk p true) d
  let (vol, m) := member.getD (0xFFFF, 0xFF)
  let d := d.media 0x3002 id sp vol m
  match member with
  | none => d
  | some (key, m) =>
    let d : Dev := { d with set := { d.set with asked := d.set.asked.filter (· != (key, m)) } }
    let d := d.mergeLedger key m led
    let d := match d.volSet key with
      | some s => d.putSet key (some { s with unread := mset s.unread 0 m 0 })
      | none => d
    let d := bad.foldl (fun d k =>
      d.damageBand sp (k / bandCount / 4) (k / bandCount % 4) (k % bandCount)) d
    let owes := match d.volSet key with | some s => !s.owed.isEmpty | none => false
    let d := if owes then d.settleOwed key else d
    (d.decideMember key).resumeCopies key

/-- A disc whose ledger makes it foreign, or fails every commit, is loaded: a known member of a set fails (R549). -/
def Dev.refuseDisc (d : Dev) (sp : Nat) (led : LedgerInfo) : Dev :=
  let member := d.memberOf led
  let x : Disc := {
    id := led.disc, epoch := led.epoch % 512, blank := false, foreign := true, formatted := false, member := none,
    commits := [8, 8], bands := [], spare := false, spares := [], runs := [], seals := [] }
  let d := (d.putDisc sp (some x)).each 2 fun d i => d.discTables (2 * sp + i)
  let (vol, m) := member.getD (0xFFFF, 0xFF)
  let d := d.media 0x3002 led.disc sp vol m
  match member with
  | some (key, m) => d.memberFail key m
  | none => d

/-- MEDIA EVENT LOADED (R524): it completes with the epoch and the disc identifier of the ledger, 0 when blank. -/
def execMediaEventLoaded (c : Nat) (read : LedgerRead) (s : State) : Host.Outcome State Fault Refusal :=
  let led := ledgerInfo read
  State.runUnit 11 s fun d => (d.command c (isMedia 0) { b := [40, 41] } fun d k =>
    let sp := k.e.at 40
    match d.spindleCheck sp with
    | some st => d.complete c st
    | none =>
      if d.mmu.hlm.isNone then d.complete c St.hlmNotGranted
      else if led.blank then (d.takeDisc sp led).complete c St.success
      else if !led.readable then (d.refuseDisc sp led).complete c St.mediaError
      else if led.version != 1 || !led.agree then (d.refuseDisc sp led).complete c St.mediaForeign
      else (d.takeDisc sp led).complete c St.success (led.epoch % 512 + 2 ^ 16 * led.disc)).reap

/-! ## UNLOAD and EMPTY -/

/-- MEDIA EVENT UNLOAD (R522): it completes once both sides are committed, the spindle is OFF, and no command needs the
disc. -/
def execMediaEventUnload (c : Nat) (s : State) : Host.Outcome State Fault Refusal :=
  State.runUnit 11 s fun d => d.command c (isMedia 1) { b := [40, 41] } fun d k =>
    let sp := k.e.at 40
    match d.spindleCheck sp with
    | some st => d.complete c st
    | none =>
      if (d.disc sp).isNone then d.complete c St.mediaNotPresent
      else (d.await c (.unload sp)).checkUnload sp

/-- MEDIA EVENT EMPTY (R482): no disc is on the spindle. A burn there ends, an UNLOAD finds no disc, and the reads of the
disc wait for it (R463). -/
def execMediaEventEmpty (c : Nat) (s : State) : Host.Outcome State Fault Refusal :=
  State.runUnit 11 s fun d => d.command c (isMedia 2) { b := [40, 41] } fun d k =>
    let sp := k.e.at 40
    match d.spindleCheck sp with
    | some st => d.complete c st
    | none =>
      let d : Dev := match d.disc sp with
        | none => d
        | some x =>
          let d : Dev := [2 * sp, 2 * sp + 1].foldl (fun (d : Dev) p => d.burnEnd p) d
          let d := ((d.completeAll (fun w => w == .unload sp) St.mediaNotPresent).dropDisc sp).opMedia
          match x.member with
          | some (key, m) => if d.set.wants.any (fun q => q.1 == x.id) then d.mediaRequest key m else d
          | none => d
      d.complete c St.success

end Sys2Proof.Machine
end

