-- ==== Sys2Proof/Machine/Formats.lean ====
section
/-! DEFINITION. Operations that outlive their command (R485): FORMAT and SANITISE (R486, R490, R496, R526, R527), and the
steps and the end of every background operation. -/

namespace Sys2Proof.Machine

open Sys2Proof

/-! ## Progress records (R485) -/

/-- An operation and its progress record in the boot area. -/
def Dev.putOp (d : Dev) (id : Nat) (o : BgOp) : Dev :=
  let d : Dev := { d with
    mgmt := { d.mgmt with bgOps := mset d.mgmt.bgOps none id (some o) }
    flash := { d.flash with boot := { d.flash.boot with ops := mset d.flash.boot.ops none id (some o) } } }
  d.flashWrite (.boot 6)

/-- A new operation takes the next identifier; 0xFFFF names all. -/
def Dev.newOp (d : Dev) (o : BgOp) : Nat × Dev :=
  let id := d.mgmt.bgNext
  let d : Dev := { d with mgmt := { d.mgmt with bgNext := (id + 1) % 0xFFFF } }
  (id, d.putOp id o)

/-- The end of an operation (R485): its record, and the event queue entry with its identifier and final state. The subsystem
is 11 for a FORMAT of the Saltern or a SANITISE and 12 otherwise (R626). -/
def Dev.endOp (d : Dev) (id : Nat) (o : BgOp) (ok : Bool) : Dev :=
  let st := if ok then 1 else 2
  let o : BgOp := { o with state := st, done := if ok then 65535 else o.done }
  let unit := if o.type = 2 || (o.type = 1 && o.arg = 0) then 11 else 12
  ((d.putOp id o).record 0x7001 unit 2 (payload [(0, 2, id), (2, 1, st)]) 0 0 id st).showSets

/-! ## FORMAT of the Saltern, and SANITISE (R486, R496) -/

/-- Whether a FORMAT of the Saltern or a SANITISE runs. -/
def Dev.clearing (d : Dev) : Bool := d.salState == 3 || d.salState == 4

/-- Whether staged data exists: in the index, in a page being programmed, or, before recovery has found it, on the flash. -/
def Dev.stagedAny (d : Dev) : Bool :=
  d.sal.idx.any (fun e => !e.mirror) || d.sal.progs.any (fun p => p.stream == 0)
    || (d.salState == 1 && d.flash.pages.any fun e => match e.2 with | some p => p.kind == 1 && !p.mirror | none => false)

/-- The READs and WRITEs in flight end when the staged data goes (R486). -/
def Dev.endReadsWrites (d : Dev) (st : Nat) : Dev :=
  (d.ioCtxs.filter fun c => match d.ctx c with | some k => k.e.op == 0x80 || k.e.op == 0x81 | none => false).foldl
    (fun d c => d.quit c st) d

/-- Erases superblocks of the flash. -/
def Dev.eraseFrom (d : Dev) (first : Nat) : Dev :=
  (List.range (d.flash.blocks - first)).foldl (fun d i => d.flashWrite (.erase (first + i))) d

/-- The boot area as FORMAT of the Saltern leaves it: types 3, 4, 5, 7, 8, 9, 10 and 11 are kept (R527). -/
def Dev.formatBoot (d : Dev) : Dev :=
  { d with flash := { d.flash with boot := { d.flash.boot with formatted := false, ops := [] } } }

/-- A FORMAT of the Saltern starts. -/
def Dev.formatStart (d : Dev) : Nat × Dev :=
  let d := (d.wr Reg.SAL_STATUS_STATE 3).wr Reg.SAL_STATUS_INDEX_READY 0
  let d := (d.endReadsWrites St.inProgress).discardStaged
  let d := d.newKey.formatBoot
  let d := d.eraseFrom 2
  d.newOp { type := 1, state := 0, step := 0, done := 0, object := 0, arg := 0, plan := [] }

/-- FORMAT of the Saltern (R486, R490). -/
def execFormatSaltern (c : Nat) (s : State) : Host.Outcome State Fault Refusal :=
  State.runUnit 10 s fun d => d.command c (fun e => e.op == 0x11 && e.at 40 == 0) { b := [40, 42] } fun d k =>
    if 1 < k.e.at 42 then d.complete c St.invalidField
    else if d.clearing then d.complete c St.inProgress
    else if k.e.at 42 = 0 && d.stagedAny then d.complete c St.invalidState
    else if !d.flash.geometryOk then (d.salErr Reg.SAL_ERR_GEOMETRY).complete c St.internalError
    else
      let (id, d) := d.formatStart
      d.complete c St.success id

/-- SANITISE (R486, R496): scope 0 draws a new key pair and wipes the old; scope 1 erases every block then. -/
def execSanitise (c : Nat) (s : State) : Host.Outcome State Fault Refusal :=
  State.runUnit 10 s fun d => d.command c (fun e => e.op == 0x12) { b := [40, 42] } fun d k =>
    let scope := k.e.at 40
    if 1 < scope || 1 < k.e.at 42 then d.complete c St.invalidField
    else if d.clearing then d.complete c St.inProgress
    else if k.e.at 42 = 0 && d.stagedAny then d.complete c St.invalidState
    else
      let d := (d.wr Reg.SAL_STATUS_STATE 4).wr Reg.SAL_STATUS_INDEX_READY 0
      let d := (d.endReadsWrites St.inProgress).cryptoErase.wipe []
      let d := if scope = 1 then d.eraseFrom 2 else d
      let (id, d) := d.newOp { type := 2, state := 0, step := 0, done := 0, object := 0, arg := scope, plan := [] }
      d.complete c St.success id

/-! ## FORMAT of a disc (R486, R526) -/

/-- FORMAT of a disc: only of one whose ledger is blank. The format counter is advanced and stored first. -/
def execFormatDisc (c : Nat) (s : State) : Host.Outcome State Fault Refusal :=
  State.runUnit 11 s fun d => d.command c (fun e => e.op == 0x11 && e.at 40 == 1) { b := [40, 41, 42] } fun d k =>
    let sp := k.e.at 41
    match d.spindleCheck sp with
    | some st => d.complete c st
    | none =>
      if 1 < k.e.at 42 then d.complete c St.invalidField
      else
        match d.disc sp with
        | none => d.complete c St.mediaNotPresent
        | some x =>
          if !x.blank || x.foreign then d.complete c St.mediaNotBlank
          else if d.mgmt.bgOps.any (fun e => match e.2 with
              | some o => o.type == 1 && o.arg == sp + 1 && o.state == 0
              | none => false) then d.complete c St.busy
          else
            let n := d.flash.boot.discCounter + 1
            let d : Dev := { d with flash := { d.flash with boot := { d.flash.boot with discCounter := n } } }
            let d := d.flashWrite (.boot 3)
            let (id, d) := d.newOp
              { type := 1, state := 0, step := 0, done := 0, object := sp, arg := sp + 1, plan := [n.toNat] }
            d.complete c St.success id

/-- The ledger of a new disc has been written on both sides (R521, R526): commit 0, with the disc identifier and the epoch
of the format counter. A commit that fails verification is void, and the disc is no longer blank. -/
def Dev.formatted (d : Dev) (sp n : Nat) (ok : Bool) : Dev :=
  match d.disc sp with
  | none => d
  | some x =>
    let id := d.node * 2 ^ 34 + n % 2 ^ 34
    let st := if ok then 1 else 3
    let bands := mset (mset x.bands 0 (bandKey 0 0 0) st) 0 (bandKey 1 0 0) st
    let x' : Disc := { x with
      id := if ok then id else x.id, epoch := if ok then n % 512 else x.epoch, blank := false, formatted := ok,
      commits := [1, 1], bands := bands }
    let new : Disc := { x' with id := id, epoch := n % 512, bands := mset (mset x.bands 0 (bandKey 0 0 0) 1) 0 (bandKey 1 0 0) 1 }
    let d := [0, 1].foldl (fun (d : Dev) side => d.send (.ledger (2 * sp + side) 0 (d.ledgerBlocks new side 0))) d
    let d := d.putDisc sp (some x')
    let d := [2 * sp, 2 * sp + 1].foldl (fun (d : Dev) p =>
      if ok then (d.wr Reg.YAR_PK_EPOCH_EPOCH (n % 512) p).wr Reg.YAR_PK_EPOCH_VALID 1 p else d) d
    d.media 0x3002 x'.id sp 0xFFFF 0xFF

/-! ## The end of a rebuild and the switch of a reshape (R551, R556) -/

/-- A rebuild ends: the spare is the member, or, when it fails, the member stays failed. -/
def Dev.rebuildEnd (d : Dev) (vol m : Nat) (ok : Bool) : Dev :=
  match d.volSet vol with
  | none => d
  | some s =>
    let disc := (s.members.getD m (0, 0)).1
    let s : DiscSet := { s with
      rebuilding := s.rebuilding.filter (· != m), spared := s.spared.filter (· != m)
      failed := if ok then s.failed.filter (· != m) else s.failed, unread := mset s.unread 0 m 0 }
    { (d.putSet vol (some s)) with set := { (d.putSet vol (some s)).set with
      guest := d.set.guest.filter fun g => g.1 != disc
      recovs := d.set.recovs.filter fun r => !(r.vol == vol && r.member == m) } }

/-- A lost entry of the old set in the stripes of the new set: with the same number of data members as it is, an entry that
covers whole stripes as the run of LBAs that it is, and any other cluster by cluster. -/
def Lost.moved (l : Lost) (k k' : Nat) : List Lost :=
  if k = k' then [l]
  else if l.dmask + 1 = 2 ^ k then
    let a := k * l.stripe
    let b := k * (l.stripe + l.count)
    let mask (lo hi : Nat) : Nat := 2 ^ hi - 2 ^ lo
    let first := a / k'
    let last := b / k'
    if first = last then [{ l with stripe := first, count := 1, dmask := mask (a % k') (b % k') }]
    else
      let head := if a % k' = 0 then [] else [{ l with stripe := first, count := 1, dmask := mask (a % k') k' }]
      let from_ := if a % k' = 0 then first else first + 1
      let mid := if from_ < last then [{ l with stripe := from_, count := last - from_, dmask := mask 0 k' }] else []
      let tail := if b % k' = 0 then [] else [{ l with stripe := last, count := 1, dmask := mask 0 (b % k') }]
      head ++ mid ++ tail
  else
    (List.range l.count).flatMap fun n => (List.range k).filterMap fun i =>
      if l.dmask.testBit i then
        let c := k * (l.stripe + n) + i
        some { l with stripe := c / k', count := 1, dmask := 2 ^ (c % k') }
      else none

/-- The key under which a replaced set is kept until its members say that it is destroyed. -/
def Dev.oldKey (d : Dev) (vol : Nat) : Nat :=
  ((List.range 256).map fun j => vol + 65536 * (j + 2)).find? (fun k => (d.volSet k).isNone) |>.getD (vol + 131072)

/-- The stripes of the new set that hold the LBs of a stripe of the old. -/
def newStripes (k k' n : Nat) : List Nat :=
  let a := k * n / k'
  let b := (k * (n + 1) - 1) / k'
  (List.range (b + 1 - a)).map (a + ·)

/-- The staged LBs that the new set has recorded leave the index, and the stripes with newer LBs are placed anew (R503,
R519, R556). -/
def Dev.settleStaged (d : Dev) (t : DiscSet) (vol : Nat) : Dev :=
  let mine := d.sal.idx.filter fun e => e.vol == vol && !e.mirror
  mine.foldl (fun d e =>
    let (n, _, _, x) := t.place e.lba
    match d.stripe vol n with
    | some y =>
      if y.released && !y.pads.contains x && decide (e.gen ≤ mget y.gens 0 x) then d.releaseRange false vol e.lba 1 e.gen
      else d.touchStripe t vol e.lba
    | none => d.touchStripe t vol e.lba) d

/-- The switch of a reshape (R556): the volume moves to the new set, each new member commits its descriptor as active, and
the old members that are loaded commit theirs with the destroyed flag. -/
def Dev.reshapeSwitch (d : Dev) (vol : Nat) : Dev :=
  let key := vol + 65536
  match d.volSet vol, d.volSet key with
  | some s, some t =>
    let old := d.oldKey vol
    let owedNew := (List.range t.w).flatMap fun m =>
      if (t.members.getD m (0, 0)).2 = d.node then [2 * m, 2 * m + 1] else []
    let owedOld := (List.range s.w).flatMap fun m =>
      match d.spindleOfDisc (s.members.getD m (0, 0)).1 with
      | some sp => (List.range 2).filterMap fun side => match d.disc sp with
        | some x => if x.sideClosed side then none else some (2 * m + side)
        | none => none
      | none => []
    let t : DiscSet := { t with owed := owedNew, sealedVol := s.sealedVol, offline := s.offline, home := s.home }
    let s' : DiscSet := { s with owed := owedOld, destroyed := true, reshaping := false, home := false }
    let lost := d.set.lost.flatMap fun l => if l.vol = vol then l.moved s.k t.k else if l.vol = key then [{ l with vol := vol }] else [l]
    let full := decide (16384 < lost.length)
    let rekey (q : Nat × Nat) : Nat × Nat := if q.1 = key then (vol, q.2) else if q.1 = vol then (old, q.2) else q
    let d : Dev := { d with set := { d.set with
      stripes := d.set.stripes.filterMap fun e =>
        if e.1 / 2 ^ 32 = vol then none
        else if e.1 / 2 ^ 32 = key then some (stripeKey vol (e.1 % 2 ^ 32), e.2) else some e
      remaps := d.set.remaps.filterMap fun (r : Remap) =>
        if r.vol = vol then none else if r.vol = key then some { r with vol := vol } else some r
      held := d.set.held.filter fun q => q.1 != key && q.1 != vol
      recovs := d.set.recovs.filter fun r => r.vol != vol
      asked := d.set.asked.filter fun q => q.1 != key && q.1 != vol
      lost := lost.take 16384
      discs := d.set.discs.map fun e => (e.1, e.2.map fun (x : Disc) => { x with member := x.member.map rekey }) } }
    let d := (d.putSet key none).putSet vol (some { t with dead := t.dead || full })
    let d := if owedOld.isEmpty then d else d.putSet old (some s')
    let d := (d.waiting fun w => w == .recorded).foldl (fun d c =>
      match d.ctx c with
      | some k =>
        if k.e.volume.toNat != vol then d
        else d.setCtx c (some { k with todo := (k.todo.flatMap (newStripes s.k t.k)).eraseDups })
      | none => d) d
    -- in order of number, so that the stripes keep their canonical form
    let d : Dev := { d with set := { d.set with
      stripes := d.set.stripes.foldl (fun (l : List (Nat × Option Stripe)) e => mset l none e.1 e.2) [] } }
    (d.settleStaged t vol).checkCommit vol
  | _, _ => d

/-- A reshape fails: the new set is dropped, and the volume stays on the old set. -/
def Dev.reshapeFail (d : Dev) (vol : Nat) : Dev :=
  let d := d.dropSet (vol + 65536)
  match d.volSet vol with
  | some s => d.putSet vol (some { s with reshaping := false })
  | none => d

/-! ## Steps (R485) -/

/-- The last step of an operation: what it leaves, or none while something is still to be done. -/
def Dev.finishOp (d : Dev) (o : BgOp) (ok : Bool) : Option Dev :=
  let hold := d.flag Reg.LCS_STATUS_TAMPER_HOLD
  match o.type with
  | 1 =>
    if o.arg = 0 then
      if !ok then some (d.wr Reg.SAL_STATUS_STATE 0)
      else
        let d : Dev := { d with flash := { d.flash with boot := { d.flash.boot with formatted := true } } }
        some ((d.showGeometry.wr Reg.SAL_STATUS_STATE 2).flashWrite (.boot 1)).checkpoint
    else if hold || (d.disc (o.arg - 1)).isNone then none
    else some (d.formatted (o.arg - 1) (o.plan.headD 0) ok)
  | 2 => some (d.wr Reg.SAL_STATUS_STATE (if d.flash.boot.formatted then 2 else 0))
  | 3 =>
    match d.volSet o.object with
    | none => some d
    | some s =>
      if !ok then some (d.rebuildEnd o.object o.arg false)
      else
        match (d.spindleOfDisc (s.members.getD o.arg (0, 0)).1).bind d.disc with
        | some x =>
          let owes := (List.range 2).any fun side => s.owed.contains (2 * o.arg + side) && !x.sideClosed side
          if d.rebuildDone x s o.object o.arg && !owes then some (d.rebuildEnd o.object o.arg true) else none
        | none => none
  | _ =>
    if !ok then some (d.reshapeFail o.object)
    else if d.reshapeDone o.object then some (d.reshapeSwitch o.object)
    else none

/-- A step of a running operation ends: its progress record is written, and a rebuild or a reshape turns to its next
bands (R551, R556). -/
def Dev.stepOp (d : Dev) (id : Nat) (o : BgOp) (fraction : Nat) : Dev :=
  let d := d.putOp id { o with step := (o.step + 1) % 256, done := min 65535 fraction }
  if o.type = 3 then d.rebuildWant o.object o.arg else if o.type = 4 then d.reshapeWant o.object else d

/-- A step of a background operation ends (R485): its progress is recorded, or, with its last step, its end. An operation
that waits for media or is paused takes no step, and one that has more to do has not reached its last. -/
def execOperationStepDone (op : Nat) (last ok : Bool) (fraction : Nat) (s : State) : Host.Outcome State Fault Refusal :=
  s.run fun d =>
    match d.bgOp op with
    | none => d
    | some o =>
      if o.state != 0 then d
      else if !last then (d.stepOp op o fraction).reap
      else
        match d.finishOp o ok with
        | some d => (d.endOp op o ok).reap
        | none => d

end Sys2Proof.Machine
end

