-- ==== Sys2Proof/Machine/Tick.lean ====
section
/-! DEFINITION. The passage of time on an empty queue. -/

namespace Sys2Proof.Machine

open Sys2Proof

/-- A TIDE period, 30,517.578125 ns, in 1/65536 ns (R369). -/
def tidePeriod : Nat := 2000000000

/-- The device after 16 ns, 25 cycles of the CORE clock, in which nothing is commanded (assumption 7):
device time advances while Tidegate is powered (R369): in IDLE and ACTIVE it is interpolated, and an offset is slewed
out at no more than 50 ppm (R371); in OFF and DEEP it advances by whole TIDE periods. What a period had not yet counted
when interpolation takes over again is counted then, so that no step is made. -/
def Dev.pass (d : Dev) : Dev :=
  if !d.clk.tideOk then d
  else
    let c := { d.clk with cyc := d.clk.cyc + 25 }
    if d.powered then
      let step := clampI (-52) 52 c.slew
      { d with clk := { c with
        time := c.time + BitVec.ofInt 80 (16 * 65536 + c.tide + step), slew := c.slew - step, tide := 0 } }
    else
      let t := c.tide + 16 * 65536
      if t < tidePeriod then { d with clk := { c with tide := t } }
      else { d with clk := { c with time := c.time + BitVec.ofNat 80 tidePeriod, tide := t - tidePeriod } }

/-- Whether a FIRMWARE ACTIVATE still has its completion to post. -/
def Dev.activating (d : Dev) : Bool :=
  d.que.ctxs.any fun e => match e.2 with | some k => k.e.op == 0x25 | none => false

/-- The reset that FIRMWARE ACTIVATE asked for follows its completion (Table 13-9). -/
def Dev.resetIfDue (d : Dev) : Dev :=
  if d.mgmt.resetDue && !d.activating then d.restart 5 else d

/-- The state after a step on an empty queue. -/
def State.idle (s : State) : State :=
  if s.dev.mgmt.resetDue && !s.dev.activating then s.settle s.fresh.resetIfDue
  else { s with dev := s.dev.pass, sent := [] }

end Sys2Proof.Machine
end

