-- ==== Sys2Proof/Machine/Firmware.lean ====
section
/-! DEFINITION. Firmware images, the commands on the event recorder, and the life cycle (R578 to R588). -/

namespace Sys2Proof.Machine

open Sys2Proof

/-! ## FIRMWARE LOAD and ACTIVATE (R586 to R588) -/

/-- Part of some bytes. -/
def bytesAt (l : List Byte) (pos n : Nat) : List Byte := (l.drop pos).take n

/-- The header of an image (Table 16-9); its signature passes under the key of its key index, and its last 32 bytes are 0. -/
def headerOf (img : List Byte) : FwHeader :=
  let key := ofBytes (bytesAt img 13 1)
  { magic := BitVec.ofNat 64 (ofBytes (bytesAt img 0 8)), version := BitVec.ofNat 32 (ofBytes (bytesAt img 8 4)),
    secVer := ofBytes (bytesAt img 12 1), keyIndex := key, rev := ofBytes (bytesAt img 14 2),
    length := ofBytes (bytesAt img 16 4),
    signatureOk := Config.signatureOk key img && (bytesAt img 480 32).all (· == 0) }

/-- The payload of the records of an image in a slot (Table 16-4). -/
def imageRec (slot : Nat) (h : FwHeader) : List Byte := payload [(0, 1, slot), (1, 4, h.version.toNat), (5, 1, h.secVer)]

/-- Sets a firmware slot. -/
def Dev.putSlot (d : Dev) (slot : Nat) (x : FwSlot) : Dev :=
  { d with mgmt := { d.mgmt with slots := d.mgmt.slots.set slot x } }

/-- A part of an image is written into its slot; the part that reaches the length in the header has the image checked
(R587). -/
def Dev.loadPart (d : Dev) (c slot : Nat) (old part : List Byte) : Dev :=
  let img := old ++ part
  let h := headerOf img
  if img.length < 512 || img.length < h.length then
    if part.length % 4096 != 0 then d.complete c St.invalidField
    else ((d.putSlot slot { loaded := img.length, image := img, header := none, valid := false }).flashWrite
      (.boot (7 + slot))).complete c St.success
  else
    let ok := d.imageOk h && h.length == img.length
    if ok && h.secVer < 64 then
      let d := d.putSlot slot { loaded := img.length, image := img, header := some h, valid := true }
      (((d.flashWrite (.boot (7 + slot))).record 0x5006 16 2 (imageRec slot h))).complete c St.success
    else
      let d := (d.putSlot slot FwSlot.empty).flashWrite (.boot (7 + slot))
      (d.rejectImage slot (some h)).complete c St.firmwareInvalid

/-- FIRMWARE LOAD (R587): parts in order, or from 0 to restart the slot; never into the slot whose image runs. -/
def execFirmwareLoad (c : Nat) (buf : List Byte) (s : State) : Host.Outcome State Fault Refusal :=
  s.run fun d => d.command c (fun e => e.op == 0x24) { count := true, data := true, b := [40, 41, 42, 43, 44] } fun d k =>
    let n := k.e.count.toNat
    let off := k.e.le 40 4
    let slot := k.e.at 44
    let x := d.mgmt.slots.getD slot FwSlot.empty
    if 1 < slot || n = 0 || buf.length < n then d.complete c St.invalidField
    else if slot = d.mgmt.active && !d.flag Reg.HIF_BOOT_ROM then d.complete c St.invalidState
    else if off != 0 && (x.valid || off != x.loaded) then d.complete c St.invalidField
    else d.loadPart c slot (if off = 0 then [] else x.image) (buf.take n)

/-- FIRMWARE ACTIVATE (R588): at the next reset, or now, with a reset of cause SOFTWARE after its completion. -/
def execFirmwareActivate (c : Nat) (s : State) : Host.Outcome State Fault Refusal :=
  s.run fun d => d.command c (fun e => e.op == 0x25) { b := [40, 41] } fun d k =>
    let slot := k.e.at 40
    let x := d.mgmt.slots.getD slot FwSlot.empty
    if 1 < slot || 1 < k.e.at 41 then d.complete c St.invalidField
    else
      match (if x.valid then x.header else none) with
      | none => d.complete c St.firmwareInvalid
      | some h =>
        let d : Dev := { d with mgmt := { d.mgmt with nextActive := slot, activated := true } }
        let d := (d.record 0x5007 16 2 (imageRec slot h)).complete c St.success
        if k.e.at 41 = 0 then d
        else
          -- what the rings take at once is posted before the reset; else the reset waits (assumption 43)
          ({ (d.flush []).1 with mgmt := { d.mgmt with resetDue := true } }).resetIfDue

/-! ## Authorisation (R582, R583) -/

/-- A keyed message: tag, serial, node identifier, then its fields (R582). -/
def Dev.keyed (d : Dev) (tag : List Nat) (fields : List Byte) : List Byte :=
  tag.map (BitVec.ofNat 8) ++ leBytes 8 d.fuse.serial.toNat ++ leBytes 2 d.node ++ fields

/-- The 32 bytes of an HMAC. -/
def hmacBytes (key msg : List Byte) : List Byte := leBytes 32 (Config.hmac key msg).toNat

/-- The code of a message: the first 16 bytes of its HMAC. -/
def codeOf (key msg : List Byte) : List Byte := (hmacBytes key msg).take 16

/-- A code that does not match (R583): the count rises, and after 8 in a row codes are refused unchecked for 60 s. -/
def Dev.authFail (d : Dev) (c op : Nat) : Dev :=
  let n := d.mgmt.authFails + 1
  let d : Dev := { d with mgmt := { d.mgmt with authFails := n, lockout := decide (8 ≤ n) } }
  let d := (d.setErr Reg.LCS_ERR_AUTH_FAIL).record 0x5004 16 4 (payload [(0, 1, op), (1, 4, n)])
  d.complete c St.authFailed

/-- Serves a command that needs a code. A revoked or absent key passes no code. -/
def Dev.authorise (d : Dev) (c op : Nat) (key : Option (List Byte)) (msg code : List Byte) (serve : Dev → Dev) : Dev :=
  if d.mgmt.lockout then d.complete c St.authFailed
  else
    match key with
    | none => d.authFail c op
    | some k =>
      if codeOf k msg == code && code.length == 16 then serve { d with mgmt := { d.mgmt with authFails := 0 } }
      else d.authFail c op

/-- The owner key, unless it is revoked (Table 16-5). -/
def Dev.ownerKey (d : Dev) : Option (List Byte) := if d.fuse.ownerRevoked then none else some d.fuse.ownerKey

/-- 60 s after the eighth failure in a row codes are checked again (R583). -/
def execAuthLockoutEnd (s : State) : Host.Outcome State Fault Refusal :=
  s.run fun d => { d with mgmt := { d.mgmt with lockout := false } }

/-! ## The event recorder (R578 to R580) -/

/-- The held records from a sequence, up to a count. -/
def Recorder.range (r : Recorder) (lba n : Nat) : List EvRec := (r.held.filter fun e => decide (lba ≤ e.seq.toNat)).take n

/-- RECORDER READ (R578). -/
def execRecorderRead (c : Nat) (s : State) : Host.Outcome State Fault Refusal :=
  s.runR fun r d => d.command c (fun e => e.op == 0x28) { lba := true, count := true, data := true } fun d k =>
    let lba := k.e.lba.toNat
    let l := r.range lba k.e.count.toNat
    let next := match l.getLast? with
      | some e => (e.seq.toNat + 1) % 2 ^ 48
      | none => if r.next.toNat ≤ lba then r.next.toNat else max lba r.oldest.toNat
    d.replyNow c (l.flatMap EvRec.bytes) (next + 2 ^ 48 * l.length)

/-- The recorder key (R582): under the owner key, or under the transport key in BLANK. -/
def Dev.recorderKey (d : Dev) : Option (List Byte) :=
  let text : List Byte := [0x52, 0x45, 0x43, 0x2D, 0x41, 0x54, 0x54, 0x45, 0x53, 0x54]
  if d.lifeCycle = 0 then some (hmacBytes Config.transportKey text) else d.ownerKey.map fun k => hmacBytes k text

/-- RECORDER CHALLENGE (R579). With nothing covered the two sequences, and with the owner key revoked the code, are not
stated: they are free values. -/
def execRecorderChallenge (c : Nat) (s : State) : Host.Outcome State Fault Refusal :=
  s.runR fun r d => d.command c (fun e => e.op == 0x29)
    { lba := true, count := true, data := true, b := [48, 49, 50, 51, 52, 53, 54, 55, 56, 57, 58, 59, 60, 61, 62, 63] }
    fun d k =>
      let l := r.range k.e.lba.toNat k.e.count.toNat
      let (free, d) := if l.isEmpty then d.drawBytes 12 else ([], d)
      let ends := match l.head?, l.getLast? with
        | some a, some b => leBytes 6 a.seq.toNat ++ leBytes 6 b.seq.toNat
        | _, _ => free
      let msg := d.keyed [0x52, 0x43, 0x48, 0x4C] (bytesAt k.e.b 8 16 ++ ends ++ l.flatMap EvRec.bytes)
      let (code, d) := match d.recorderKey with
        | some key => (codeOf key msg, d)
        | none => d.drawBytes 16
      d.replyNow c (ends ++ leBytes 4 l.length ++ code)

/-- RECORDER CLEAR (R580): the records up to a sequence are removed, the clear is counted, and then recorded. -/
def execRecorderClear (c : Nat) (buf : List Byte) (s : State) : Host.Outcome State Fault Refusal :=
  s.runR fun r d => d.command c (fun e => e.op == 0x2A) { lba := true, data := true } fun d k =>
    let lba := k.e.lba.toNat
    if d.mgmt.lockout then d.complete c St.authFailed
    else if lba < r.oldest.toNat || r.next.toNat ≤ lba then d.complete c St.invalidField
    else
      let msg := d.keyed [0x52, 0x43, 0x4C, 0x52] (leBytes 6 lba ++ leBytes 4 r.clears)
      d.authorise c k.e.op d.ownerKey msg (buf.take 16) fun d =>
        let d := d.emit (.clear (BitVec.ofNat 48 lba))
        let d := d.record 0x5002 16 2 (payload [(0, 6, r.oldest.toNat), (6, 6, lba), (12, 4, r.clears + 1)])
        d.complete c St.success

/-! ## LIFE CYCLE (R581, R585) -/

/-- Whether Table 16-5 has a transition. -/
def transitionOk (a b : Nat) : Bool :=
  (a == 0 && b == 1) || (a == 1 && b == 2) || (a == 2 && b == 3) || (a == 3 && b == 2) || (a != 4 && b == 4)

/-- The result of LIFE CYCLE: the state, and the tamper hold. -/
def Dev.lifeResult (d : Dev) : Nat := d.lifeCycle + 8 * d.rd Reg.LCS_STATUS_TAMPER_HOLD

/-- Counts a transition (R583). -/
def Dev.countTransition (d : Dev) : Dev :=
  let n := (d.fuse.transCnt + 1) % 2 ^ 32
  ({ d with fuse := { d.fuse with transCnt := n } }).wr Reg.LCS_TRANS_CNT_COUNT n

/-- Enters a life-cycle state: fused, but for SERVICE, with its record (R581). -/
def Dev.enterState (d : Dev) (b : Nat) : Dev :=
  let a := d.lifeCycle
  let d : Dev := { d with
    fuse := if b = 3 then d.fuse else { d.fuse with lifeCycle := b }
    mgmt := { d.mgmt with service := b == 3 } }
  ((d.wr Reg.LCS_STATUS_STATE b).countTransition).record 0x5003 16 2 (payload [(0, 1, a), (1, 1, b)])

/-- The provisioning block is fused (Table 16-6): the owner key, the node identifier, and the subsystem identifiers; none
when a byte that must be 0 is not, or the key does not unwrap. -/
def Dev.provision (d : Dev) (blk : List Byte) : Option Dev :=
  let nid := ofBytes (bytesAt blk 40 2)
  if blk.length < 64 || 1024 ≤ nid || (bytesAt blk 46 18).any (· != 0) then none
  else
    (Config.unwrap Config.transportKey (bytesAt blk 0 40)).map fun key =>
      ({ d with fuse := { d.fuse with
        ownerKey := key, nidHi := BitVec.ofNat 10 nid, subVendor := BitVec.ofNat 16 (ofBytes (bytesAt blk 42 2)),
        subId := BitVec.ofNat 16 (ofBytes (bytesAt blk 44 2)) } }).wr Reg.GLB_NODE_NID
          (nid * 16 + d.rd Reg.CLK_STRAP_NID_LO)

/-- RETIRED (Table 16-5): spindles stopped, the Saltern key pair destroyed as by SANITISE scope 0, the owner key revoked, the
secure part wiped. The I/O commands in flight have nothing left to act on. -/
def Dev.retire (d : Dev) : Dev :=
  let d := d.each 16 fun d p => d.burnEnd p
  let d := d.each 8 fun d n => if d.spState n = 0 then d else d.spStop n
  let d := d.ioCtxs.foldl (fun d c => d.quit c St.lifeCycleDenied) d
  let d := (d.cryptoErase).wipe []
  { d with fuse := { d.fuse with ownerRevoked := true } }

/-- Whether an I/O command is in flight (Table 16-5). -/
def Dev.ioInFlight (d : Dev) : Bool := !d.ioCtxs.isEmpty

/-- Makes a transition whose code has passed; none where the provisioning block is not accepted. -/
def Dev.transit (d : Dev) (b : Nat) (blk : List Byte) : Option Dev :=
  match b with
  | 1 => (d.provision blk).map fun d => d.enterState 1
  | 3 =>
    let d := (d.wipe []).enterState 3
    some (if d.flag Reg.LCS_STATUS_TAMPER_HOLD then d.holdEnd else d)
  | 4 => some (d.retire.enterState 4)
  | _ => some (d.enterState b)

/-- LIFE CYCLE (R581): a target equal to the state has no effect, but for SERVICE under the tamper hold, which its code ends
(R585). -/
def execLifeCycle (c : Nat) (buf : List Byte) (s : State) : Host.Outcome State Fault Refusal :=
  s.run fun d => d.command c (fun e => e.op == 0x38) { data := true, b := [40] } fun d k =>
    let a := d.lifeCycle
    let b := k.e.at 40
    let hold := d.flag Reg.LCS_STATUS_TAMPER_HOLD
    let msg := d.keyed [0x4C, 0x43, 0x59, 0x43] (leBytes 1 a ++ leBytes 1 b ++ leBytes 4 d.fuse.transCnt)
    let key := if a = 0 then some Config.transportKey else d.ownerKey
    if 4 < b then d.complete c St.invalidField
    else if a = b then
      if b = 3 && hold then
        d.authorise c k.e.op key msg (buf.take 16) fun d =>
          let d := d.holdEnd.countTransition
          d.complete c St.success d.lifeResult
      else d.complete c St.success d.lifeResult
    else if !transitionOk a b then d.complete c St.lifeCycleDenied
    else if b = 3 && d.ioInFlight then d.complete c St.invalidState
    else
      d.authorise c k.e.op key msg (buf.take 16) fun d =>
        match d.transit b (buf.drop 16) with
        | some d => d.complete c St.success d.lifeResult
        | none => d.complete c St.invalidField

end Sys2Proof.Machine
end

