-- ==== Sys2Proof/Machine/Motion.lean ====
section
/-! DEFINITION. MOTION and SERVO MODE (R262, R273, R302, R317, R318, R320, R483, R624). -/

namespace Sys2Proof.Machine

open Sys2Proof

/-- A signed field of an entry. -/
def Sqe.signed (e : Sqe) (k n : Nat) : Int := ofBits (8 * n) (e.le k n)

/-- The checks of a MOTION or SERVO MODE on mechanism `i` of `n`: memory lent (R338, R483), in range, present (R5). R5 and R483
name a status each and no order where both apply: the model answers HLM_NOT_GRANTED first (DESIGN CHOICE, log entry 118). -/
def Dev.mechCheck (d : Dev) (i n : Nat) (here : Bool) : Option Nat :=
  if d.mmu.hlm.isNone then some St.hlmNotGranted
  else if n ≤ i then some St.invalidField
  else if !here then some St.notPresent
  else none

/-! ## The planner (R316, R321) -/

/-- A pickup is idle: neither reading nor burning, in no run of calibration, and its engine in no procedure. -/
def Dev.pickupIdle (d : Dev) (p : Nat) : Bool :=
  (d.burn p).isNone && (d.readRev p).isNone && (d.calPk p).run.isNone && (d.svoState p == 2 || d.svoState p == 5)
    && (d.svo p).phase == .none

/-- A pickup whose sled was found away from its track is homed again at its next idle (R321), with the engine in FOCUSED and
tracking held, as after a takeover (R266). -/
def Dev.homeAgain (d : Dev) (p : Nat) : Dev :=
  if !(d.axis (2 * p)).again || !d.pickupIdle p then d
  else
    let d := d.leaveTrack p 2
    let d := d.setSvo p { d.svo p with held := true, phase := .none }
    (d.home (2 * p)).home (2 * p + 1)

/-- The planner advances every axis (R316). -/
def execPlannerUpdate (s : State) : Host.Outcome State Fault Refusal :=
  State.runTick 8 s fun d => d.plan.each 16 fun d p => if d.hasPk p then d.homeAgain p else d

/-! ## MOTION (R483) -/

/-- A MOTION command of an action. -/
def isMotion (action : Nat) (e : Sqe) : Bool := e.op == 0x40 && e.at 40 == action

/-- The speed of MOTION spin: 0 stop, 1 read, 2 burn. -/
def Dev.spinRpm (d : Dev) (n k : Nat) : Nat :=
  match k with
  | 0 => 0
  | 1 => d.rd Reg.MOT_SP_SPEED_READ_RPM n
  | _ => d.rd Reg.MOT_SP_SPEED_BURN_RPM n

/-- MOTION spin: it completes at the at-speed report, or at OFF for a stop. -/
def Dev.motionSpin (d : Dev) (c n k : Nat) : Dev :=
  let d := d.supersedeSpin n
  let rpm := d.spinRpm n k
  if k = 0 then (d.await c (.spOff n)).spStop n
  else if d.spState n = 5 && d.flag Reg.MOT_SP_STATUS_AT_SPEED n && d.rd Reg.MOT_SP_RPM_TARGET n = rpm then
    d.complete c St.success
  else (d.await c (.atSpeed n)).spStart n rpm

/-- MOTION spin (R302, R483). -/
def execMotionSpin (c : Nat) (s : State) : Host.Outcome State Fault Refusal :=
  State.runUnit 8 s fun d => d.command c (isMotion 0) { b := [40, 41, 42] } fun d k =>
    let n := k.e.at 41
    match d.mechCheck n 8 (d.hasSp n) with
    | some st => d.complete c st
    | none => if 2 < k.e.at 42 then d.complete c St.invalidField else d.motionSpin c n (k.e.at 42)

/-- MOTION release (R624): it completes when the grant falls, or at once when it was not held. -/
def execMotionRelease (c : Nat) (s : State) : Host.Outcome State Fault Refusal :=
  State.runUnit 8 s fun d => d.command c (isMotion 1) { b := [40, 41] } fun d k =>
    let n := k.e.at 41
    match d.mechCheck n 8 (d.hasSp n) with
    | some st => d.complete c st
    | none => ((d.supersedeSpin n).await c (.grantOff n)).spRelease n

/-- MOTION move (R317): an unhomed axis takes none. -/
def execMotionMove (c : Nat) (s : State) : Host.Outcome State Fault Refusal :=
  State.runUnit 8 s fun d => d.command c (isMotion 2) { b := [40, 41, 48, 49, 50, 51] } fun d k =>
    let a := k.e.at 41
    match d.mechCheck a 32 (d.hasAx a) with
    | some st => d.complete c st
    | none =>
      if !d.homed a then (d.axErr Reg.MOT_AX_ERR_NOT_HOMED a).complete c St.notHomed
      else ((d.supersede a).await c (.axes [a])).axisMove a (Sqe.signed k.e 48 4) (d.vMax a) 1

/-- The first status that refuses the axes of a coordinated move. -/
def Dev.groupCheck (d : Dev) (e : Sqe) : Option Nat :=
  let n := e.at 41
  let axes := (List.range n).map fun i => e.at (44 + i)
  if d.mmu.hlm.isNone then some St.hlmNotGranted
  else if n < 2 || 4 < n || axes.any (fun a => decide (32 ≤ a)) || axes.eraseDups.length != n then some St.invalidField
  else if ((List.range 4).drop n).any (fun i => e.at (44 + i) != 0 || e.le (48 + 4 * i) 4 != 0) then some St.invalidField
  else if axes.any (fun a => !d.hasAx a) then some St.notPresent
  else none

/-- MOTION coordinated move (R318). -/
def execMotionCoordinated (c : Nat) (s : State) : Host.Outcome State Fault Refusal :=
  State.runUnit 8 s fun d => d.command c (isMotion 3)
    { b := [40, 41, 44, 45, 46, 47, 48, 49, 50, 51, 52, 53, 54, 55, 56, 57, 58, 59, 60, 61, 62, 63] } fun d k =>
      match d.groupCheck k.e with
      | some st => d.complete c st
      | none =>
        let axes := (List.range (k.e.at 41)).map fun i => k.e.at (44 + i)
        match axes.filter fun a => !d.homed a with
        | [] =>
          let (goal, d) := (List.zip (List.range (k.e.at 41)) axes).foldl (fun (p : List Int × Dev) q =>
            let (t, d) := p.2.clipTarget q.2 (Sqe.signed k.e (48 + 4 * q.1) 4)
            (p.1 ++ [t], d)) ([], d)
          (d.startGroup axes goal).await c (.axes axes)
        | l => (l.foldl (fun d a => d.axErr Reg.MOT_AX_ERR_NOT_HOMED a) d).complete c St.notHomed

/-- MOTION home (R320): it completes when HOMED is set. -/
def execMotionHome (c : Nat) (s : State) : Host.Outcome State Fault Refusal :=
  State.runUnit 8 s fun d => d.command c (isMotion 4) { b := [40, 41] } fun d k =>
    let a := k.e.at 41
    match d.mechCheck a 32 (d.hasAx a) with
    | some st => d.complete c st
    | none => (d.home a).await c (.homed a)

/-! ## SERVO MODE (R262, R483) -/

/-- A SERVO MODE command of an action. -/
def isServo (action : Nat) (e : Sqe) : Bool := e.op == 0x41 && e.at 41 == action

/-- The checks of a SERVO MODE: those of its pickup, and BUSY in a burn (R262). -/
def Dev.servoCheck (d : Dev) (p : Nat) : Option Nat :=
  match d.mechCheck p 16 (d.hasPk p) with
  | some st => some st
  | none => if (d.burn p).isSome then some St.busy else none

/-- The engine is in a move or a layer jump. -/
def Dev.moving (d : Dev) (p : Nat) : Bool := d.svoState p == 3 || d.svoState p == 4

/-- SERVO MODE start (R273): it completes at FOCUSED. FAULT is left by a restart alone (R270). -/
def execServoModeStart (c : Nat) (s : State) : Host.Outcome State Fault Refusal :=
  State.runUnit 7 s fun d => d.command c (isServo 0) { b := [40, 41, 42] } fun d k =>
    let p := k.e.at 40
    match d.servoCheck p with
    | some st => d.complete c st
    | none =>
      if d.calFirst p then d.await c .fresh else
      if 3 < k.e.at 42 then d.complete c St.invalidField
      else if d.svoState p = 7 then d.complete c St.invalidState
      else if d.moving p then d.await c (.servoLater p (k.e.at 42))
      else d.servoStart c p (k.e.at 42) (.focused p)

/-- SERVO MODE stop completes at once; in a move it takes effect when the move ends (R262). -/
def execServoModeStop (c : Nat) (s : State) : Host.Outcome State Fault Refusal :=
  State.runUnit 7 s fun d => d.command c (isServo 1) { b := [40, 41] } fun d k =>
    let p := k.e.at 40
    match d.servoCheck p with
    | some st => d.complete c st
    | none =>
      if d.calFirst p then d.await c .fresh else
      let d := d.complete c St.success
      if d.moving p then d.setSvo p { d.svo p with later := (d.svo p).later ++ [(5, 0, 0)] } else d.servoStop p

/-- SERVO MODE restart (R270): from FAULT, RESUME and then focus acquisition of the current layer. -/
def execServoModeRestart (c : Nat) (s : State) : Host.Outcome State Fault Refusal :=
  State.runUnit 7 s fun d => d.command c (isServo 2) { b := [40, 41] } fun d k =>
    let p := k.e.at 40
    match d.servoCheck p with
    | some st => d.complete c st
    | none =>
      if d.calFirst p then d.await c .fresh else
      if d.svoState p != 7 then d.complete c St.invalidState
      else if d.portState p = 4 || !d.flag Reg.SOR_CFG_EN p then d.complete c St.mediaError
      else if d.portUp p && !d.owns p then d.complete c St.ownershipDenied
      else
        let d := d.setSvoState p 0
        let d := d.setSvo p { d.svo p with resume := 2 }
        d.servoStart c p (d.svoLayer p) (.facqEnd p)

/-- SERVO MODE loop mode (R260, R262): it completes at once; in a move it takes effect when the move ends. -/
def execServoModeLoop (c : Nat) (s : State) : Host.Outcome State Fault Refusal :=
  State.runUnit 7 s fun d => d.command c (isServo 3) { b := [40, 41, 42, 43, 44, 45] } fun d k =>
    let p := k.e.at 40
    let l := k.e.at 42
    let v := Sqe.signed k.e 44 2
    match d.servoCheck p with
    | some st => d.complete c st
    | none =>
      if d.calFirst p then d.await c .fresh else
      if 4 < l || 2 < k.e.at 43 then d.complete c St.invalidField
      else if !d.svoRuns p then d.complete c St.invalidState
      else
        let d := d.complete c St.success
        if d.moving p then d.setSvo p { d.svo p with later := (d.svo p).later ++ [(l, k.e.at 43, v)] }
        else d.servoLoop p l (k.e.at 43) v

/-- SERVO MODE seek (R262, R483): it completes at ON_TRACK. -/
def execServoModeSeek (c : Nat) (s : State) : Host.Outcome State Fault Refusal :=
  State.runUnit 7 s fun d => d.command c (isServo 4) { b := [40, 41, 42, 48, 49, 50, 51] } fun d k =>
    let p := k.e.at 40
    match d.servoCheck p with
    | some st => d.complete c st
    | none =>
      if d.calFirst p then d.await c .fresh else
      if 3 < k.e.at 42 || trackCount ≤ k.e.le 48 4 then d.complete c St.invalidField
      else if !d.svoRuns p then d.complete c St.invalidState
      else if d.svoState p = 2 || d.svoState p = 5 then (d.await c (.onTrack p)).seek p (k.e.at 42) (k.e.le 48 4)
      else d.await c (.seekLater p (k.e.at 42) (k.e.le 48 4))

end Sys2Proof.Machine
end

