-- ==== Sys2Proof/Machine/Registers.lean ====
section
/-! DEFINITION. Writes of registers by host software, and the actions that follow them (R12, R14, R355, R358, R369 to
R371, R379, R421, R424, R426, R428, R455, R459, R460, R604, R620). -/

namespace Sys2Proof.Machine

open Sys2Proof

/-- CLK_RST.SW_RESET is set with its key (R379): a reset with cause SOFTWARE. -/
def Dev.softReset (d : Dev) : Dev := if d.flag Reg.CLK_RST_SW_RESET then d.restart 5 else d

/-- A write of SOR_CFG, with EN `was` before it (R105, R620). -/
def Dev.sorWritten (d : Dev) (p : Nat) (was : Bool) : Dev :=
  let now := d.flag Reg.SOR_CFG_EN p
  let d := if !was && now then d.sorEnable p else if was && !now then d.sorDisable p else d
  -- a test pattern takes the lanes of an enabled port (Table 3-10)
  let test := d.rd Reg.SOR_CFG_TEST p
  if test = 0 || !now then d else d.send (.down p (.pattern test))

/-- A write of a loop's coefficients (Table 7-15): a loop in AUTO takes them bumplessly (R261). -/
def Dev.loopWritten (d : Dev) (p l : Nat) : Dev := if d.svoRuns p then d.rebump p l else d

/-- QUE_CTL.EN after a write (R459, R460). -/
def Dev.queWritten (d : Dev) : Dev := if d.flag Reg.QUE_CTL_EN then d.queEnable else d.queDisable

/-- A write of CLK_MON.ONF_RATE senses VDDQ_ONF again (R604); once they agree, a recovery that waited runs. -/
def Dev.monWritten (d : Dev) (mv : Nat) : Dev := (d.sense mv).salRecover

/-- The action of the register at an offset that has taken a write of `val` from the device `old`. -/
def Dev.action (d old : Dev) (off val : Nat) : Dev :=
  if off = 0x10008 then d.gateWrite val
  else if off = 0x10014 then d.clkOut
  else if off = 0x10018 then d.softReset
  else if off = 0x10020 then d.monWritten d.clk.vddqMv
  else if off = 0x20008 then d.tgCtl
  else if off = 0x2000C then d.armSec
  else if off = 0x5001C then d.fwGo
  else if off = 0x70000 then d.queWritten
  else if off = 0x7003C then (if d.flag Reg.QUE_ADMIN_FAULT_RETRY then d.adminRetry else d)
  else if 0x100000 ≤ off && off < 0x110000 && off % 0x1000 = 0 then
    d.sorWritten ((off - 0x100000) / 0x1000) (old.flag Reg.SOR_CFG_EN ((off - 0x100000) / 0x1000))
  else if 0x400000 ≤ off && off < 0x440000 && 0x100 ≤ off % 0x4000 && off % 0x4000 < 0x240 then
    d.loopWritten ((off - 0x400000) / 0x4000) ((off % 0x4000 - 0x100) / 0x40)
  else d

/-- A 32-bit write of host software to a BAR0 offset (R12, R14, R424), with the action that follows. -/
def Dev.hostWrite (d : Dev) (r : Recorder) (off val : Nat) : Dev :=
  let p := d.hostFields r off val
  if p.2 then p.1.action d off val else p.1

/-! ## The rows -/

/-- A write of a register (R12). -/
def execRegisterWrite (off : Nat) (val : Word) (s : State) : Host.Outcome State Fault Refusal :=
  s.runR fun r d => d.hostWrite r off val.toNat

/-- A write whose byte enables do not cover a whole register (R424). -/
def execPartialRegisterWrite (off : Nat) (be : BitVec 4) (val : Word) (s : State) : Host.Outcome State Fault Refusal :=
  s.runR fun r d => if be = 0xF then d.hostWrite r off val.toNat else d.badAccess off

/-- Whether the sideband reaches an offset (R421, R617). -/
def sidebandReaches (off : Nat) : Bool := decide (off < 0x40000) || (decide (0x50000 ≤ off) && decide (off < 0x60000))

/-- A register access over the sideband (R421). Until step 3 ends the sideband carries HIF_BOOT alone (R35). -/
def Dev.sidebandAccess (d : Dev) (r : Recorder) (write : Bool) (off val : Nat) : Dev :=
  if !d.flag Reg.HIF_STATUS_SB_UP then d
  else if !sidebandReaches off || (d.bootStep < 3 && !d.clk.deep && off / 4 * 4 != 0x5000C) then d.send (.sbReply true 0)
  else if write then (d.hostWrite r off val).send (.sbReply false 0)
  else d.send (.sbReply false (BitVec.ofNat 32 (d.readWord r off)))

/-- A register access over the sideband (R421). -/
def execSidebandRegisterAccess (write : Bool) (off : Nat) (val : Word) (s : State) : Host.Outcome State Fault Refusal :=
  s.runR fun r d => d.sidebandAccess r write off val.toNat

/-- A write of GLB_SETUP_LOCK (R426). -/
def execSetupLock (val : Word) (s : State) : Host.Outcome State Fault Refusal :=
  s.runR fun r d => d.hostWrite r 0x4 (val ||| 1).toNat

/-- A write of TG_CTL that captures device time (R369). -/
def execTgSnap (val : Word) (s : State) : Host.Outcome State Fault Refusal :=
  s.runR fun r d => d.hostWrite r 0x20008 (val ||| 1).toNat

/-- A write of TG_CTL that loads device time (R370). -/
def execTgLoad (val : Word) (s : State) : Host.Outcome State Fault Refusal :=
  s.runR fun r d => d.hostWrite r 0x20008 (val ||| 2).toNat

/-- A write of TG_NEXT_SEC (R371). -/
def execTgNextSecWrite (val : Word) (s : State) : Host.Outcome State Fault Refusal :=
  s.runR fun r d => d.hostWrite r 0x2000C val.toNat

/-- A write of CLK_RST (R379). -/
def execSwReset (val : Word) (s : State) : Host.Outcome State Fault Refusal :=
  s.runR fun r d => d.hostWrite r 0x10018 (val ||| 0x100).toNat

/-- A write of CLK_GATE (R355). -/
def execClkGateWrite (val : Word) (s : State) : Host.Outcome State Fault Refusal :=
  s.runR fun r d => d.hostWrite r 0x10008 val.toNat

/-- A write of CLK_OUT (R358). -/
def execClkOutWrite (val : Word) (s : State) : Host.Outcome State Fault Refusal :=
  s.runR fun r d => d.hostWrite r 0x10014 val.toNat

/-- A write of CLK_MON (R604), with the level of VDDQ_ONF that is sensed. -/
def execClkMonWrite (val : Word) (vddqMv : Nat) (s : State) : Host.Outcome State Fault Refusal :=
  s.runR fun r d => ((d.hostFields r 0x10020 val.toNat).1).monWritten vddqMv

/-- A write of HIF_FW_CTL (R428). -/
def execHifFwGo (val : Word) (s : State) : Host.Outcome State Fault Refusal :=
  s.runR fun r d => d.hostWrite r 0x5001C (val ||| 1).toNat

/-- A write of SOR_CFG that sets EN (R105). -/
def execSorCfgEnSet (p : Pk) (val : Word) (s : State) : Host.Outcome State Fault Refusal :=
  s.runR fun r d => d.hostWrite r (0x100000 + 0x1000 * p.val) (val ||| 1).toNat

/-- A write of SOR_CFG that clears EN (R620). -/
def execSorCfgEnClear (p : Pk) (val : Word) (s : State) : Host.Outcome State Fault Refusal :=
  s.runR fun r d => d.hostWrite r (0x100000 + 0x1000 * p.val) (val &&& ~~~1).toNat

/-- A write of QUE_CTL that sets EN (R459). -/
def execQueCtlEnSet (val : Word) (s : State) : Host.Outcome State Fault Refusal :=
  s.runR fun r d => d.hostWrite r 0x70000 (val ||| 1).toNat

/-- A write of QUE_CTL that clears EN (R460). -/
def execQueCtlEnClear (val : Word) (s : State) : Host.Outcome State Fault Refusal :=
  s.runR fun r d => d.hostWrite r 0x70000 (val &&& ~~~1).toNat

/-- A write of QUE_ADMIN_FAULT (R455). -/
def execQueAdminRetry (val : Word) (s : State) : Host.Outcome State Fault Refusal :=
  s.runR fun r d => d.hostWrite r 0x7003C (val ||| 1).toNat

end Sys2Proof.Machine
end

