-- ==== Sys2Proof/Machine/SetRows.lean ====
section
/-! DEFINITION. The commands on sets: CREATE, DESTROY and RESHAPE SET, SPARE POOL, SET STATE, and the start of a rebuild
(R529 to R532, R549 to R551, R556, R559). -/

namespace Sys2Proof.Machine

open Sys2Proof

/-! ## Member lists -/

/-- The entries of a member list: disc identifier and node, bits [15:14] of the node 0. -/
def memberEntries (n : Nat) (buf : List Byte) : Option (List (Nat × Nat)) :=
  if buf.length < 8 * n then none
  else
    let l := (List.range n).map fun i =>
      (ofBytes ((buf.drop (8 * i)).take 6), ofBytes ((buf.drop (8 * i + 6)).take 2))
    if l.any fun q => decide (2 ^ 14 ≤ q.2) then none else some l

/-- The widths that Table 15-1 accepts. -/
def widthOk (k p : Nat) : Bool :=
  (p == 1 && decide (2 ≤ k) && decide (k ≤ 5)) || (p == 2 && decide (2 ≤ k) && decide (k ≤ 14))

/-- A formatted disc with ledger commit 0 and no other recorded band, in no set and not in the pool (R531 check 5). -/
def Dev.blankMember (d : Dev) (x : Disc) : Bool :=
  x.formatted && !x.foreign && x.commits == [1, 1] && x.member.isNone && !(d.set.pool.any fun q => q.1 == x.id)
    && x.bands.all fun e => e.1 == bandKey 0 0 0 || e.1 == bandKey 1 0 0

/-- Checks 4 and 5 of R531 for one member; those of the peer's node are the peer's to know (assumption 42). -/
def Dev.memberCheck (d : Dev) (q : Nat × Nat) : Option Nat :=
  if q.2 != d.node then none
  else
    match (d.spindleOfDisc q.1).bind d.disc with
    | none => some St.mediaNotPresent
    | some x => if x.foreign then some St.mediaForeign else if d.blankMember x then none else some St.mediaNotBlank

/-- Checks 2 to 5 of R531, in order, and the member rules of R530. -/
def Dev.membersCheck (d : Dev) (k p : Nat) (cross : Bool) (l : List (Nat × Nat)) : Option Nat :=
  let w := k + p
  let here := l.countP fun q => q.2 == d.node
  let there := l.countP fun q => q.2 != d.node
  if !widthOk k p || l.length != w || cross != decide (9 ≤ w) || (l.map (·.1)).eraseDups.length != w then some St.setInvalid
  else if cross && (!d.flag Reg.PEER_STATUS_CONFIGURED || !d.peerAlive) then some St.peerUnavailable
  else if l.any (fun q => q.2 != d.node && !(cross && q.2 == d.peerNode)) || 8 < here || 8 < there then some St.setInvalid
  else
    let st := l.filterMap d.memberCheck
    if st.contains St.mediaNotPresent then some St.mediaNotPresent else st.head?

/-- A set of new members; its reserve is SET_CFG.RESERVE (R535). -/
def Dev.newSet (d : Dev) (k p : Nat) (cross : Bool) (gen : Nat) (l : List (Nat × Nat)) : DiscSet :=
  { k := k, p := p, cross := cross, gen := gen, reserve := d.rd Reg.SET_CFG_RESERVE, members := l, failed := [], spared := [],
    unread := [], offline := false, dead := false, rebuilding := [], reshaping := false, sealedVol := false, reserveNext := 0,
    owed := [], unwritten := [], destroyed := false, home := true, created := d.now }

/-- The discs of a set that are loaded here become its members. -/
def Dev.joinDiscs (d : Dev) (key : Nat) (s : DiscSet) : Dev :=
  { d with set := { d.set with discs := d.set.discs.map fun e => (e.1, e.2.map fun (x : Disc) =>
    match s.members.findIdx? fun q => q.1 == x.id with
    | some m => { x with member := some (key, m), spare := false }
    | none => x) } }

/-- The sides of a set's members on this node. -/
def Dev.ownSides (d : Dev) (s : DiscSet) : List Nat :=
  (List.range s.w).flatMap fun m => if (s.members.getD m (0, 0)).2 = d.node then [2 * m, 2 * m + 1] else []

/-! ## CREATE, DESTROY and RESHAPE SET -/

/-- CREATE SET (R529 to R531, R536): it completes with the capacity once both sides of every member hold the descriptor. -/
def execCreateSet (c : Nat) (buf : List Byte) (s : State) : Host.Outcome State Fault Refusal :=
  State.runUnit 11 s fun d => d.command c (fun e => e.op == 0x18) { volume := true, count := true, data := true, b := [40, 41, 42] } fun d k =>
    let vol := k.e.volume.toNat
    let cross := k.e.at 42 == 1
    if 1 < k.e.at 42 then d.complete c St.invalidField
    else if vol = 0 || vol = 0xFFFF || (d.volSet vol).isSome || 256 ≤ d.set.sets.countP (fun e => decide (e.1 < 65536)) then
      d.complete c St.setInvalid
    else if k.e.count.toNat != k.e.at 40 + k.e.at 41 then d.complete c St.setInvalid
    else
      match memberEntries k.e.count.toNat buf with
      | none => d.complete c St.invalidField
      | some l =>
        match d.membersCheck (k.e.at 40) (k.e.at 41) cross l with
        | some st => d.complete c st
        | none =>
          let x := d.newSet (k.e.at 40) (k.e.at 41) cross 0 l
          let x : DiscSet := { x with owed := d.ownSides x }
          let d := ((d.putSet vol (some x)).joinDiscs vol x).showSets
          if x.owed.isEmpty then d.complete c St.success x.cap
          else d.setCtx c (some { k with wait := .setCommit vol, acc0 := x.cap })

/-- The set that a command on a volume names, or the status that refuses it (R530, R559). -/
def Dev.setFor (d : Dev) (vol : Nat) (offlineToo : Bool := false) : Except Nat DiscSet :=
  match d.volSet vol with
  | none => .error St.volumeNotFound
  | some s =>
    if !s.home || s.destroyed then .error St.volumeNotFound
    else if s.offline && !offlineToo then .error St.invalidState
    else .ok s

/-- Whether LBs of a volume are staged. -/
def Dev.stagedOf (d : Dev) (vol : Nat) : Bool :=
  d.sal.idx.any (fun e => e.vol == vol && !e.mirror)
    || d.sal.progs.any fun p => p.stream == 0 && p.pg.slots.any fun q => q.2.1 == vol

/-- The staged LBs of a volume are discarded (R532). -/
def Dev.discardVolume (d : Dev) (vol : Nat) : Dev :=
  let d : Dev := { d with sal := { d.sal with
    progs := d.sal.progs.map fun (p : Prog) => { p with pg := { p.pg with slots := p.pg.slots.filter fun q => q.2.1 != vol } } } }
  (d.sal.idx.filter fun e => e.vol == vol && !e.mirror).foldl (fun d e => d.unstage e) d

/-- DESTROY SET (R532): each member side that is not closed is to commit the descriptor's destroyed flag; a member that is
absent is asked for, and the command waits for it (R549). -/
def execDestroySet (c : Nat) (s : State) : Host.Outcome State Fault Refusal :=
  State.runUnit 11 s fun d => d.command c (fun e => e.op == 0x19) { volume := true, b := [42] } fun d k =>
    let vol := k.e.volume.toNat
    if 1 < k.e.at 42 then d.complete c St.invalidField
    else
      match d.setFor vol with
      | .error st => d.complete c st
      | .ok x =>
        if x.reshaping || !x.rebuilding.isEmpty || (k.e.at 42 = 0 && d.stagedOf vol) then d.complete c St.invalidState
        else
          let d := (d.ioCtxs.filter fun c => match d.ctx c with | some k => k.e.volume.toNat == vol | none => false).foldl
            (fun d c => d.quit c St.volumeNotFound) d
          let d := d.discardVolume vol
          let owed := (d.ownSides x).filter fun i => !x.failed.contains (i / 2)
          let d := d.putSet vol (some { x with destroyed := true, owed := owed })
          let d := (List.range x.w).foldl (fun d m =>
            if !x.failed.contains m && (x.members.getD m (0, 0)).2 == d.node
                && (d.spindleOfDisc (x.members.getD m (0, 0)).1).isNone then d.mediaRequest vol m else d) d
          (d.await c (.setCommit vol)).settleOwed vol

/-- RESHAPE SET (R556): the new set is built beside the old one, as a background operation; one runs at a time. -/
def execReshapeSet (c : Nat) (buf : List Byte) (s : State) : Host.Outcome State Fault Refusal :=
  State.runUnit 11 s fun d => (d.command c (fun e => e.op == 0x1A) { volume := true, count := true, data := true, b := [40, 41, 42] } fun d k =>
    let vol := k.e.volume.toNat
    let cross := k.e.at 42 == 1
    if 1 < k.e.at 42 then d.complete c St.invalidField
    else
      match d.setFor vol with
      | .error st => d.complete c st
      | .ok x =>
        if d.set.sets.any (fun e => match e.2 with | some s => s.reshaping | none => false) then d.complete c St.invalidState
        else if k.e.count.toNat != k.e.at 40 + k.e.at 41 then d.complete c St.setInvalid
        else
          match memberEntries k.e.count.toNat buf with
          | none => d.complete c St.invalidField
          | some l =>
            match d.membersCheck (k.e.at 40) (k.e.at 41) cross l with
            | some st => d.complete c st
            | none =>
              let t := d.newSet (k.e.at 40) (k.e.at 41) cross (x.gen + 1) l
              if t.cap < x.cap then d.complete c St.setInvalid
              else
                let d := (d.putSet vol (some { x with reshaping := true })).putSet (vol + 65536) (some t)
                let d := (d.joinDiscs (vol + 65536) t).showSets
                let (id, d) := d.newOp { type := 4, state := 0, step := 0, done := 0, object := vol, arg := 0,
                                         plan := [t.k, t.p] }
                (d.reshapeWant vol).complete c St.success id).reap

/-! ## SPARE POOL (R550) -/

/-- A SPARE POOL command of an action. -/
def isPool (action : Nat) (e : Sqe) : Bool := e.op == 0x1B && e.at 40 == action

/-- A failed member without a spare takes one from the pool (R550). -/
def Dev.spareWanted (d : Dev) : Dev :=
  if !d.flag Reg.SET_CFG_SPARE_AUTO then d
  else d.set.sets.foldl (fun (d : Dev) e =>
    match e.2 with
    | some s => s.failed.foldl (fun (d : Dev) m =>
        if s.spared.contains m || d.set.pool.isEmpty then d else d.selectSpare e.1 m) d
    | none => d) d

/-- SPARE POOL add: only discs that are formatted and blank (R550); it completes with the number in the pool. -/
def execSparePoolAdd (c : Nat) (buf : List Byte) (s : State) : Host.Outcome State Fault Refusal :=
  State.runUnit 11 s fun d => d.command c (isPool 0) { count := true, data := true, b := [40] } fun d k =>
    match (if k.e.count == 0 then none else memberEntries k.e.count.toNat buf) with
    | none => d.complete c St.invalidField
    | some l =>
      let bad := l.filterMap d.memberCheck
      if (l.map (·.1)).eraseDups.length != l.length || l.any (fun q => d.set.pool.any fun r => r.1 == q.1) then
        d.complete c St.mediaNotBlank
      else if bad.contains St.mediaNotPresent then d.complete c St.mediaNotPresent
      else
        match bad with
        | st :: _ => d.complete c st
        | [] =>
          let d : Dev := { d with set := { d.set with
            pool := d.set.pool ++ l
            discs := d.set.discs.map fun e => (e.1, e.2.map fun (x : Disc) =>
              if l.any fun q => q.1 == x.id then { x with spare := true } else x) } }
          let d := d.spareWanted
          d.complete c St.success d.set.pool.length

/-- SPARE POOL remove: a disc that is not in the pool is no spare. -/
def execSparePoolRemove (c : Nat) (buf : List Byte) (s : State) : Host.Outcome State Fault Refusal :=
  State.runUnit 11 s fun d => d.command c (isPool 1) { count := true, data := true, b := [40] } fun d k =>
    match (if k.e.count == 0 then none else memberEntries k.e.count.toNat buf) with
    | none => d.complete c St.invalidField
    | some l =>
      if l.any (fun q => !d.set.pool.contains q) then d.complete c St.spareNone
      else
        let d : Dev := { d with set := { d.set with
          pool := d.set.pool.filter fun q => !l.contains q
          discs := d.set.discs.map fun e => (e.1, e.2.map fun (x : Disc) =>
            if l.any fun q => q.1 == x.id then { x with spare := false } else x) } }
        d.complete c St.success d.set.pool.length

/-- SPARE POOL list: the pool as a member list, oldest first, up to the count. -/
def execSparePoolList (c : Nat) (s : State) : Host.Outcome State Fault Refusal :=
  State.runUnit 11 s fun d => d.command c (isPool 2) { count := true, data := true, b := [40] } fun d k =>
    let bytes := (d.set.pool.take k.e.count.toNat).flatMap fun q => leBytes 6 q.1 ++ leBytes 2 q.2
    d.replyNow c bytes d.set.pool.length

/-! ## SET STATE (R549, R559) -/

/-- A SET STATE command of an action. -/
def isSetState (action : Nat) (e : Sqe) : Bool := e.op == 0x1C && e.at 40 == action

/-- The result of SET STATE: state, members failed, stripes lost. -/
def Dev.setResult (d : Dev) (vol : Nat) : Nat :=
  match d.volSet vol with
  | some s => s.stateOf + 2 ^ 4 * (s.failed.length % 16) + 2 ^ 8 * (d.lostStripes vol % 2 ^ 32)
  | none => 0

/-- Serves a SET STATE: the change, and the state that it leaves as the result. -/
def Dev.setStateServe (d : Dev) (c : Nat) (k : Ctx) (change : Dev → DiscSet → Except Nat Dev) : Dev :=
  let vol := k.e.volume.toNat
  match d.setFor vol true with
  | .error st => d.complete c st
  | .ok x =>
    match change d x with
    | .error st => d.complete c st
    | .ok d => d.complete c St.success (d.setResult vol)

/-- SET STATE query. -/
def execSetStateQuery (c : Nat) (s : State) : Host.Outcome State Fault Refusal :=
  State.runUnit 11 s fun d => d.command c (isSetState 0) { volume := true, b := [40] } fun d k =>
    d.setStateServe c k fun d _ => .ok d

/-- SET STATE offline (R559). -/
def execSetStateOffline (c : Nat) (s : State) : Host.Outcome State Fault Refusal :=
  State.runUnit 11 s fun d => d.command c (isSetState 1) { volume := true, b := [40] } fun d k =>
    d.setStateServe c k fun d x => .ok (d.putSet k.e.volume.toNat (some { x with offline := true }))

/-- SET STATE online (R559). -/
def execSetStateOnline (c : Nat) (s : State) : Host.Outcome State Fault Refusal :=
  State.runUnit 11 s fun d => d.command c (isSetState 2) { volume := true, b := [40] } fun d k =>
    d.setStateServe c k fun d x => .ok (d.putSet k.e.volume.toNat (some { x with offline := false }))

/-- SET STATE fail member (R549). -/
def execSetStateFailMember (c : Nat) (s : State) : Host.Outcome State Fault Refusal :=
  State.runUnit 11 s fun d => d.command c (isSetState 3) { volume := true, b := [40, 41] } fun d k =>
    d.setStateServe c k fun d x =>
      if x.offline then .error St.invalidState
      else if x.w ≤ k.e.at 41 then .error St.invalidField
      else .ok ((d.memberFail k.e.volume.toNat (k.e.at 41)).showSets)

/-! ## REBUILD (R551) -/

/-- A rebuild starts when the spare and at least `k` survivors are loaded and REBUILD_EN is 1; at most four run, and none
under the tamper hold (R628). The spare takes the member's place with the set generation increased. -/
def execRebuildStart (volume member : Nat) (s : State) : Host.Outcome State Fault Refusal :=
  State.runUnit 11 s fun d =>
    match d.volSet volume with
    | none => d
    | some x =>
      let (disc, node) := x.members.getD member (0, 0)
      let running := d.set.sets.foldl (fun n e => match e.2 with | some s => n + s.rebuilding.length | none => n) 0
      match d.spindleOfDisc disc with
      | none => d
      | some sp =>
        let blank := match d.disc sp with | some y => d.blankMember y | none => false
        if !d.flag Reg.SET_CFG_REBUILD_EN || d.flag Reg.LCS_STATUS_TAMPER_HOLD || 4 ≤ running || !x.home || x.destroyed
            || !x.failed.contains member || !x.spared.contains member || x.rebuilding.contains member || !blank
            || !d.setLoaded x then d
        else
          let gen := x.gen + 1
          let mr := memberRec volume disc member node gen
          let d := d.journalSetForced volume mr
          let x' : DiscSet := { x with
            gen := gen, unwritten := x.unwritten ++ [mr], rebuilding := x.rebuilding ++ [member], unread := mset x.unread 0 member 0
            owed := x.owed ++ [2 * member, 2 * member + 1].filter fun i => !x.owed.contains i }
          let d := ((d.putSet volume (some x')).clearMember volume member true).joinDiscs volume x'
          let (_, d) := d.newOp { type := 3, state := 0, step := 0, done := 0, object := volume, arg := member, plan := [] }
          (d.showSets.rebuildWant volume member).reap

end Sys2Proof.Machine
end

