-- ==== Sys2Proof/Machine/Dispatch.lean ====
section
/-! DEFINITION. The dispatch: every command of the opcode table calls its meaning. -/

namespace Sys2Proof.Machine

open Sys2Proof

/-- The effect of a command on everything but the queue. -/
def exec (i : Instr) (s : State) : Host.Outcome State Fault Refusal :=
  match i with
  | .registerWrite off val => Sys2Proof.Machine.execRegisterWrite off val s
  | .partialRegisterWrite off be val => Sys2Proof.Machine.execPartialRegisterWrite off be val s
  | .sidebandRegisterAccess write off val => Sys2Proof.Machine.execSidebandRegisterAccess write off val s
  | .setupLock val => Sys2Proof.Machine.execSetupLock val s
  | .tgSnap val => Sys2Proof.Machine.execTgSnap val s
  | .tgLoad val => Sys2Proof.Machine.execTgLoad val s
  | .tgNextSecWrite val => Sys2Proof.Machine.execTgNextSecWrite val s
  | .swReset val => Sys2Proof.Machine.execSwReset val s
  | .clkGateWrite val => Sys2Proof.Machine.execClkGateWrite val s
  | .gateClosure u => Sys2Proof.Machine.execGateClosure u s
  | .gateTimeout u => Sys2Proof.Machine.execGateTimeout u s
  | .autoGateIdle u => Sys2Proof.Machine.execAutoGateIdle u s
  | .autoGateWake u => Sys2Proof.Machine.execAutoGateWake u s
  | .clkOutWrite val => Sys2Proof.Machine.execClkOutWrite val s
  | .clkMonWrite val vddqMv => Sys2Proof.Machine.execClkMonWrite val vddqMv s
  | .hifFwGo val => Sys2Proof.Machine.execHifFwGo val s
  | .sorCfgEnSet p val => Sys2Proof.Machine.execSorCfgEnSet p val s
  | .sorCfgEnClear p val => Sys2Proof.Machine.execSorCfgEnClear p val s
  | .queCtlEnSet val => Sys2Proof.Machine.execQueCtlEnSet val s
  | .queCtlEnClear val => Sys2Proof.Machine.execQueCtlEnClear val s
  | .queAdminRetry val => Sys2Proof.Machine.execQueAdminRetry val s
  | .deadlineWindowEnd row inst => Sys2Proof.Machine.execDeadlineWindowEnd row inst s
  | .codewordReceive p lane symErrs cells => Sys2Proof.Machine.execCodewordReceive p lane symErrs cells s
  | .laneLoss p up dn => Sys2Proof.Machine.execLaneLoss p up dn s
  | .laneRetrainDone p down lane => Sys2Proof.Machine.execLaneRetrainDone p down lane s
  | .laneRetrainTimeout p down lane => Sys2Proof.Machine.execLaneRetrainTimeout p down lane s
  | .controlBlockReceive p lane payload units rtt skew => Sys2Proof.Machine.execControlBlockReceive p lane payload units rtt skew s
  | .trainingStepDone p r => Sys2Proof.Machine.execTrainingStepDone p r s
  | .trainingStepTimeout p => Sys2Proof.Machine.execTrainingStepTimeout p s
  | .sampleCellReceive p lane header samples => Sys2Proof.Machine.execSampleCellReceive p lane header samples s
  | .servoCellReceive p lane header samples => Sys2Proof.Machine.execServoCellReceive p lane header samples s
  | .currentCellReceive p lane cell => Sys2Proof.Machine.execCurrentCellReceive p lane cell s
  | .statusCellReceive p data => Sys2Proof.Machine.execStatusCellReceive p data s
  | .responseCellReceive p data => Sys2Proof.Machine.execResponseCellReceive p data s
  | .controlTimeout p tag => Sys2Proof.Machine.execControlTimeout p tag s
  | .downstreamSuperframe p late missed => Sys2Proof.Machine.execDownstreamSuperframe p late missed s
  | .spotStall g => Sys2Proof.Machine.execSpotStall g s
  | .defectEnd g => Sys2Proof.Machine.execDefectEnd g s
  | .resumeBoostEnd g => Sys2Proof.Machine.execResumeBoostEnd g s
  | .acqGainEnd g => Sys2Proof.Machine.execAcqGainEnd g s
  | .flywheelExpiry g => Sys2Proof.Machine.execFlywheelExpiry g s
  | .wedgeGap g found check => Sys2Proof.Machine.execWedgeGap g found check s
  | .alignTimeout g n => Sys2Proof.Machine.execAlignTimeout g n s
  | .frameHandover g => Sys2Proof.Machine.execFrameHandover g s
  | .engineJobStart e => Sys2Proof.Machine.execEngineJobStart e s
  | .engineStageEnd e faulty => Sys2Proof.Machine.execEngineStageEnd e faulty s
  | .jointWaitExpiry g => Sys2Proof.Machine.execJointWaitExpiry g s
  | .jobDrop g => Sys2Proof.Machine.execJobDrop g s
  | .hardStop e => Sys2Proof.Machine.execHardStop e s
  | .clusterTimeout p addr => Sys2Proof.Machine.execClusterTimeout p addr s
  | .assemblyDeadlineMiss p addr => Sys2Proof.Machine.execAssemblyDeadlineMiss p addr s
  | .bandReadStart p layer band slot => Sys2Proof.Machine.execBandReadStart p layer band slot s
  | .bandBurnStart p bad => Sys2Proof.Machine.execBandBurnStart p bad s
  | .revolutionStart p slot => Sys2Proof.Machine.execRevolutionStart p slot s
  | .revolutionEnd p => Sys2Proof.Machine.execRevolutionEnd p s
  | .bandBurnEnd p => Sys2Proof.Machine.execBandBurnEnd p s
  | .writeResume p w slot => Sys2Proof.Machine.execWriteResume p w slot s
  | .tickCompute p => Sys2Proof.Machine.execTickCompute p s
  | .tickCutoff p => Sys2Proof.Machine.execTickCutoff p s
  | .bridgeLimit p loop => Sys2Proof.Machine.execBridgeLimit p loop s
  | .missMaxExpiry p => Sys2Proof.Machine.execMissMaxExpiry p s
  | .faultMissExpiry p => Sys2Proof.Machine.execFaultMissExpiry p s
  | .outputSaturation p loop => Sys2Proof.Machine.execOutputSaturation p loop s
  | .onTrackEntry p => Sys2Proof.Machine.execOnTrackEntry p s
  | .holdRecover p => Sys2Proof.Machine.execHoldRecover p s
  | .holdMaxExpiry p => Sys2Proof.Machine.execHoldMaxExpiry p s
  | .wedgeResult p w => Sys2Proof.Machine.execWedgeResult p w s
  | .trackSlip p => Sys2Proof.Machine.execTrackSlip p s
  | .wedgeBridge p => Sys2Proof.Machine.execWedgeBridge p s
  | .wedgeLost p => Sys2Proof.Machine.execWedgeLost p s
  | .wedgeSearchEnd p => Sys2Proof.Machine.execWedgeSearchEnd p s
  | .focusAcqStart p => Sys2Proof.Machine.execFocusAcqStart p s
  | .focusSettled p => Sys2Proof.Machine.execFocusSettled p s
  | .focusSweepEnd p => Sys2Proof.Machine.execFocusSweepEnd p s
  | .kickEnd p => Sys2Proof.Machine.execKickEnd p s
  | .jumpTimeout p => Sys2Proof.Machine.execJumpTimeout p s
  | .moveProfileEnd p => Sys2Proof.Machine.execMoveProfileEnd p s
  | .settleTimeout p => Sys2Proof.Machine.execSettleTimeout p s
  | .sledSeekDone p => Sys2Proof.Machine.execSledSeekDone p s
  | .fineSeekDone p => Sys2Proof.Machine.execFineSeekDone p s
  | .focPeriod n m => Sys2Proof.Machine.execFocPeriod n m s
  | .focCutoff n => Sys2Proof.Machine.execFocCutoff n s
  | .speedLoopUpdate n emfAlpha emfBeta => Sys2Proof.Machine.execSpeedLoopUpdate n emfAlpha emfBeta s
  | .atSpeedReport n => Sys2Proof.Machine.execAtSpeedReport n s
  | .speedErrTimeout n => Sys2Proof.Machine.execSpeedErrTimeout n s
  | .modulationLimit n => Sys2Proof.Machine.execModulationLimit n s
  | .catchEnd n last => Sys2Proof.Machine.execCatchEnd n last s
  | .alignEnd n => Sys2Proof.Machine.execAlignEnd n s
  | .handover n => Sys2Proof.Machine.execHandover n s
  | .angleBlendEnd n => Sys2Proof.Machine.execAngleBlendEnd n s
  | .handoverTimeout n => Sys2Proof.Machine.execHandoverTimeout n s
  | .startRetry n => Sys2Proof.Machine.execStartRetry n s
  | .brakeEnd n => Sys2Proof.Machine.execBrakeEnd n s
  | .busFilterOutput n vbusMv => Sys2Proof.Machine.execBusFilterOutput n vbusMv s
  | .escTimeout n => Sys2Proof.Machine.execEscTimeout n s
  | .undervoltTimeout n => Sys2Proof.Machine.execUndervoltTimeout n s
  | .desat n => Sys2Proof.Machine.execDesat n s
  | .modStuck n stream => Sys2Proof.Machine.execModStuck n stream s
  | .grantRise n => Sys2Proof.Machine.execGrantRise n s
  | .grantFall n => Sys2Proof.Machine.execGrantFall n s
  | .plannerUpdate => Sys2Proof.Machine.execPlannerUpdate s
  | .homeStopWait a => Sys2Proof.Machine.execHomeStopWait a s
  | .standstillTimeout a => Sys2Proof.Machine.execStandstillTimeout a s
  | .currentRaiseDone a => Sys2Proof.Machine.execCurrentRaiseDone a s
  | .chopperSlot p ready lost => Sys2Proof.Machine.execChopperSlot p ready lost s
  | .currentMissLimit p => Sys2Proof.Machine.execCurrentMissLimit p s
  | .currentResume p => Sys2Proof.Machine.execCurrentResume p s
  | .calibrationStart p => Sys2Proof.Machine.execCalibrationStart p s
  | .calibrationStepEnd p vals => Sys2Proof.Machine.execCalibrationStepEnd p vals s
  | .refclkStop => Sys2Proof.Machine.execRefclkStop s
  | .refclkWindow count => Sys2Proof.Machine.execRefclkWindow count s
  | .fboPeriodCheck count => Sys2Proof.Machine.execFboPeriodCheck count s
  | .dividerCheck dom count => Sys2Proof.Machine.execDividerCheck dom count s
  | .rootPllUnlock => Sys2Proof.Machine.execRootPllUnlock s
  | .mgmtClockSwitch toFbo => Sys2Proof.Machine.execMgmtClockSwitch toFbo s
  | .refclkValid => Sys2Proof.Machine.execRefclkValid s
  | .rootPllRelock locked => Sys2Proof.Machine.execRootPllRelock locked s
  | .ppsEdge rising => Sys2Proof.Machine.execPpsEdge rising s
  | .ppsLoss => Sys2Proof.Machine.execPpsLoss s
  | .tsy10mLoss => Sys2Proof.Machine.execTsy10mLoss s
  | .comparatorMatch k => Sys2Proof.Machine.execComparatorMatch k s
  | .pfwFall => Sys2Proof.Machine.execPfwFall s
  | .tamper => Sys2Proof.Machine.execTamper s
  | .wakePin => Sys2Proof.Machine.execWakePin s
  | .deepEntry => Sys2Proof.Machine.execDeepEntry s
  | .tidePowerOn => Sys2Proof.Machine.execTidePowerOn s
  | .mainSupplyValid => Sys2Proof.Machine.execMainSupplyValid s
  | .mainSupplyLoss => Sys2Proof.Machine.execMainSupplyLoss s
  | .linkReset => Sys2Proof.Machine.execLinkReset s
  | .mgmtWatchdog => Sys2Proof.Machine.execMgmtWatchdog s
  | .fuseLoadDone role nidLo intact => Sys2Proof.Machine.execFuseLoadDone role nidLo intact s
  | .fboStable => Sys2Proof.Machine.execFboStable s
  | .rootPllLock vddqMv => Sys2Proof.Machine.execRootPllLock vddqMv s
  | .selfTestDone pass => Sys2Proof.Machine.execSelfTestDone pass s
  | .invalidationDone readBack => Sys2Proof.Machine.execInvalidationDone readBack s
  | .marchDone fails => Sys2Proof.Machine.execMarchDone fails s
  | .mainbandTrained rate x32 repaired => Sys2Proof.Machine.execMainbandTrained rate x32 repaired s
  | .firmwareFetchDone img => Sys2Proof.Machine.execFirmwareFetchDone img s
  | .firmwareOfferTimeout => Sys2Proof.Machine.execFirmwareOfferTimeout s
  | .firmwareInitDone rd => Sys2Proof.Machine.execFirmwareInitDone rd s
  | .scrubWalk fs ms => Sys2Proof.Machine.execScrubWalk fs ms s
  | .brineFillDone cls line fill => Sys2Proof.Machine.execBrineFillDone cls line fill s
  | .cacheDrainDone => Sys2Proof.Machine.execCacheDrainDone s
  | .sidebandWake => Sys2Proof.Machine.execSidebandWake s
  | .sidebandStatusQuery => Sys2Proof.Machine.execSidebandStatusQuery s
  | .linkWidthDegrade => Sys2Proof.Machine.execLinkWidthDegrade s
  | .linkRetrain => Sys2Proof.Machine.execLinkRetrain s
  | .busMasterDisable => Sys2Proof.Machine.execBusMasterDisable s
  | .busMasterEnable => Sys2Proof.Machine.execBusMasterEnable s
  | .translationWalkDone x reads => Sys2Proof.Machine.execTranslationWalkDone x reads s
  | .dmaReadCompletion x r => Sys2Proof.Machine.execDmaReadCompletion x r s
  | .completionTimeout x => Sys2Proof.Machine.execCompletionTimeout x s
  | .deliveryHoldExpiry p => Sys2Proof.Machine.execDeliveryHoldExpiry p s
  | .doorbellPoll rd => Sys2Proof.Machine.execDoorbellPoll rd s
  | .sqEntryFetch q entries => Sys2Proof.Machine.execSqEntryFetch q entries s
  | .coalesceTimeout cq => Sys2Proof.Machine.execCoalesceTimeout cq s
  | .identify c => Sys2Proof.Machine.execIdentify c s
  | .createQueue c => Sys2Proof.Machine.execCreateQueue c s
  | .deleteQueue c => Sys2Proof.Machine.execDeleteQueue c s
  | .disableQueue c => Sys2Proof.Machine.execDisableQueue c s
  | .enableQueue c => Sys2Proof.Machine.execEnableQueue c s
  | .getQueueState c => Sys2Proof.Machine.execGetQueueState c s
  | .getFeature c => Sys2Proof.Machine.execGetFeature c s
  | .setFeaturePowerState c => Sys2Proof.Machine.execSetFeaturePowerState c s
  | .setFeatureAsidRoot c => Sys2Proof.Machine.execSetFeatureAsidRoot c s
  | .setFeatureInvalidate c => Sys2Proof.Machine.execSetFeatureInvalidate c s
  | .cacheEnable c => Sys2Proof.Machine.execCacheEnable c s
  | .cacheDisable c => Sys2Proof.Machine.execCacheDisable c s
  | .cacheMasks c => Sys2Proof.Machine.execCacheMasks c s
  | .cacheConvert c => Sys2Proof.Machine.execCacheConvert c s
  | .setFeaturePoll c => Sys2Proof.Machine.execSetFeaturePoll c s
  | .setFeatureEventFilter c => Sys2Proof.Machine.execSetFeatureEventFilter c s
  | .setFeatureCoalesce c => Sys2Proof.Machine.execSetFeatureCoalesce c s
  | .setFeatureArbitration c => Sys2Proof.Machine.execSetFeatureArbitration c s
  | .lendMemory c => Sys2Proof.Machine.execLendMemory c s
  | .returnMemory c => Sys2Proof.Machine.execReturnMemory c s
  | .indexBuild => Sys2Proof.Machine.execIndexBuild s
  | .resolveFaultRetry c => Sys2Proof.Machine.execResolveFaultRetry c s
  | .resolveFaultAbort c => Sys2Proof.Machine.execResolveFaultAbort c s
  | .mediaEventLoaded c led => Sys2Proof.Machine.execMediaEventLoaded c led s
  | .mediaEventUnload c => Sys2Proof.Machine.execMediaEventUnload c s
  | .mediaEventEmpty c => Sys2Proof.Machine.execMediaEventEmpty c s
  | .formatSaltern c => Sys2Proof.Machine.execFormatSaltern c s
  | .formatDisc c => Sys2Proof.Machine.execFormatDisc c s
  | .sanitise c => Sys2Proof.Machine.execSanitise c s
  | .progress c => Sys2Proof.Machine.execProgress c s
  | .operationStepDone op last ok fraction => Sys2Proof.Machine.execOperationStepDone op last ok fraction s
  | .createSet c buf => Sys2Proof.Machine.execCreateSet c buf s
  | .destroySet c => Sys2Proof.Machine.execDestroySet c s
  | .reshapeSet c buf => Sys2Proof.Machine.execReshapeSet c buf s
  | .sparePoolAdd c buf => Sys2Proof.Machine.execSparePoolAdd c buf s
  | .sparePoolRemove c buf => Sys2Proof.Machine.execSparePoolRemove c buf s
  | .sparePoolList c => Sys2Proof.Machine.execSparePoolList c s
  | .setStateQuery c => Sys2Proof.Machine.execSetStateQuery c s
  | .setStateOffline c => Sys2Proof.Machine.execSetStateOffline c s
  | .setStateOnline c => Sys2Proof.Machine.execSetStateOnline c s
  | .setStateFailMember c => Sys2Proof.Machine.execSetStateFailMember c s
  | .rebuildStart volume member => Sys2Proof.Machine.execRebuildStart volume member s
  | .calibrateFull c => Sys2Proof.Machine.execCalibrateFull c s
  | .calibrateDrift c => Sys2Proof.Machine.execCalibrateDrift c s
  | .calibrateLoadStrategy c buf => Sys2Proof.Machine.execCalibrateLoadStrategy c buf s
  | .calibrateDiscard c => Sys2Proof.Machine.execCalibrateDiscard c s
  | .firmwareLoad c buf => Sys2Proof.Machine.execFirmwareLoad c buf s
  | .firmwareActivate c => Sys2Proof.Machine.execFirmwareActivate c s
  | .recorderRead c => Sys2Proof.Machine.execRecorderRead c s
  | .recorderChallenge c => Sys2Proof.Machine.execRecorderChallenge c s
  | .recorderClear c buf => Sys2Proof.Machine.execRecorderClear c buf s
  | .peerConfigure c => Sys2Proof.Machine.execPeerConfigure c s
  | .peerTakeoverClaim c => Sys2Proof.Machine.execPeerTakeoverClaim c s
  | .peerTakeover c => Sys2Proof.Machine.execPeerTakeover c s
  | .lifeCycle c buf => Sys2Proof.Machine.execLifeCycle c buf s
  | .authLockoutEnd => Sys2Proof.Machine.execAuthLockoutEnd s
  | .diagnosticClear c => Sys2Proof.Machine.execDiagnosticClear c s
  | .diagnosticSnapshot c => Sys2Proof.Machine.execDiagnosticSnapshot c s
  | .motionSpin c => Sys2Proof.Machine.execMotionSpin c s
  | .motionRelease c => Sys2Proof.Machine.execMotionRelease c s
  | .motionMove c => Sys2Proof.Machine.execMotionMove c s
  | .motionCoordinated c => Sys2Proof.Machine.execMotionCoordinated c s
  | .motionHome c => Sys2Proof.Machine.execMotionHome c s
  | .servoModeStart c => Sys2Proof.Machine.execServoModeStart c s
  | .servoModeStop c => Sys2Proof.Machine.execServoModeStop c s
  | .servoModeRestart c => Sys2Proof.Machine.execServoModeRestart c s
  | .servoModeLoop c => Sys2Proof.Machine.execServoModeLoop c s
  | .servoModeSeek c => Sys2Proof.Machine.execServoModeSeek c s
  | .read c => Sys2Proof.Machine.execRead c s
  | .write c => Sys2Proof.Machine.execWrite c s
  | .commit c => Sys2Proof.Machine.execCommit c s
  | .verify c => Sys2Proof.Machine.execVerify c s
  | .lbaStatus c => Sys2Proof.Machine.execLbaStatus c s
  | .sealVolume c => Sys2Proof.Machine.execSealVolume c s
  | .admissionGranted c => Sys2Proof.Machine.execAdmissionGranted c s
  | .pageProgramDone u ok => Sys2Proof.Machine.execPageProgramDone u ok s
  | .blockEraseDone sb failed => Sys2Proof.Machine.execBlockEraseDone sb failed s
  | .pageReadDone id r => Sys2Proof.Machine.execPageReadDone id r s
  | .journalFlush => Sys2Proof.Machine.execJournalFlush s
  | .checkpoint => Sys2Proof.Machine.execCheckpoint s
  | .gcStart => Sys2Proof.Machine.execGcStart s
  | .residencyPriority lsn => Sys2Proof.Machine.execResidencyPriority lsn s
  | .residencyBound lsn => Sys2Proof.Machine.execResidencyBound lsn s
  | .ledgerCommit p verified => Sys2Proof.Machine.execLedgerCommit p verified s
  | .nerLinkUp => Sys2Proof.Machine.execNerLinkUp s
  | .nerLaneLoss lane => Sys2Proof.Machine.execNerLaneLoss lane s
  | .heartbeatSend => Sys2Proof.Machine.execHeartbeatSend s
  | .heartbeatReceive m => Sys2Proof.Machine.execHeartbeatReceive m s
  | .heartbeatMiss => Sys2Proof.Machine.execHeartbeatMiss s
  | .takeoverRetry => Sys2Proof.Machine.execTakeoverRetry s
  | .claimWaitEnd => Sys2Proof.Machine.execClaimWaitEnd s
  | .ackSend => Sys2Proof.Machine.execAckSend s
  | .messageResend seq => Sys2Proof.Machine.execMessageResend seq s
  | .mirrorDataReceive seq pg => Sys2Proof.Machine.execMirrorDataReceive seq pg s
  | .mirrorAckReceive seq pageSeq => Sys2Proof.Machine.execMirrorAckReceive seq pageSeq s
  | .journalReceive seq recs => Sys2Proof.Machine.execJournalReceive seq recs s
  | .mirrorReleaseReceive seq rs => Sys2Proof.Machine.execMirrorReleaseReceive seq rs s
  | .clusterReceive seq disc addr words => Sys2Proof.Machine.execClusterReceive seq disc addr words s
  | .burnReportReceive seq recs => Sys2Proof.Machine.execBurnReportReceive seq recs s
  | .fetchReceive seq volume lba count => Sys2Proof.Machine.execFetchReceive seq volume lba count s
  | .fetchDataReceive seq volume lba lbs => Sys2Proof.Machine.execFetchDataReceive seq volume lba lbs s
  | .releaseRequestReceive seq spindles pickups => Sys2Proof.Machine.execReleaseRequestReceive seq spindles pickups s
  | .homeReceive seq volume node gen => Sys2Proof.Machine.execHomeReceive seq volume node gen s
  | .becomeHome volume => Sys2Proof.Machine.execBecomeHome volume s
  | .thermalSensorUpdate readings => Sys2Proof.Machine.execThermalSensorUpdate readings s
  | .thermalShutdown => Sys2Proof.Machine.execThermalShutdown s
  | .i2cPointerWrite x => Sys2Proof.Machine.execI2cPointerWrite x s
  | .jtagInstruction code => Sys2Proof.Machine.execJtagInstruction code s
  | .jtagChipReset => Sys2Proof.Machine.execJtagChipReset s
  | .onfPllUnlock => Sys2Proof.Machine.execOnfPllUnlock s
  | .tsy10mReturn => Sys2Proof.Machine.execTsy10mReturn s
  | .tideSupplyLoss => Sys2Proof.Machine.execTideSupplyLoss s

end Sys2Proof.Machine
end

