-- ==== Sys2Proof/Safety.lean ====
section
/-! DEFINITION. What a safe state is, in the terms the statements use. -/

namespace Sys2Proof.Safety

open Sys2Proof Sys2Proof.Machine

/-- The sequences of a list of records rise by one from `n` (R576). -/
def Consecutive : BitVec 48 → List EvRec → Prop
  | _, [] => True
  | n, e :: t => e.seq = n ∧ Consecutive (n + 1) t

/-- The recorder holds at most 16,384 records, whose sequences are consecutive and end just before the
next sequence (R576). -/
def RecorderOk (r : Recorder) : Prop :=
  r.held.length ≤ recorderSize ∧ Consecutive (r.next - BitVec.ofNat 48 r.held.length) r.held

/-- The command answers a next state, and that state is as `P` says. -/
def After (i : Instr) (s : State) (P : State → Prop) : Prop := ∃ t, exec i s = .next t ∧ P t

/-- What a write of `v` leaves in a field that held `cur`, by access type (Table 0-4); `locked` is the set-up lock. -/
def written (locked : Bool) (a : Acc) (cur v : Nat) : Nat :=
  match a with
  | .ro => cur
  | .rw => v
  | .rwl => if locked then cur else v
  | .w1c => cur - (cur &&& v)
  | .w1s => cur ||| v

/-- The key and the stored value of field `f` of the instance `(i, j)` of register `g`. -/
def keyOf (g : RegDef) (f : RField) (i j : Nat) : Nat := (g.base + g.sa * i + g.sb * j) * 8 + f.lo
def stored (d : Dev) (g : RegDef) (f : RField) (i j : Nat) : Nat :=
  mget d.fv (f.rst.getD j (f.rst.headD 0)) (keyOf g f i j)

/-- A BAR0 offset whose write starts no action and is not the MSI-X table. -/
def plainOff (off : Nat) : Bool :=
  !([0x10008, 0x10014, 0x10018, 0x10020, 0x20008, 0x2000C, 0x5001C, 0x70000, 0x7003C].contains off)
    && !(decide (0x100000 ≤ off) && decide (off < 0x110000) && off % 0x1000 == 0)
    && !(decide (0x58000 ≤ off) && decide (off < 0x5C000))

/-- A BAR0 offset in the block of a servo loop, whose coefficients a loop in AUTO takes bumplessly (R261). -/
def loopOff (off : Nat) : Bool :=
  decide (0x400000 ≤ off) && decide (off < 0x440000) && decide (0x100 ≤ off % 0x4000) && decide (off % 0x4000 < 0x240)

/-- The unit of CLK_GATE that serves an offset has its clock running, so that a write is taken (R356). -/
def clocked (d : Dev) (off : Nat) : Bool :=
  match gateOf off with
  | some u => (d.rd Reg.CLK_GATE_ST_RUN).testBit u
  | none => true

/-- The field keys that the posting of a host ring can change: the counters, errors and latched self fault of the
translation unit, and the count of completions. -/
def ringKeys : List Nat :=
  [Reg.MMU_CNT_FAULT_COUNT.key 0 0, Reg.MMU_CNT_HIT_COUNT.key 0 0, Reg.MMU_CNT_MISS_COUNT.key 0 0,
   Reg.MMU_ERR_TYPE.key 0 0, Reg.MMU_ERR_FQ_OVERFLOW.key 0 0, Reg.MMU_ERR_FQ_SELF.key 0 0,
   Reg.MMU_SELF_FAULT_ID.key 0 0, Reg.MMU_SELF_FAULT_TYPE.key 0 0, Reg.MMU_SELF_FAULT_VALID.key 0 0,
   Reg.MMU_SELF_FAULT_QUEUE.key 0 0, Reg.MMU_SELF_VA_LO_VA.key 0 0, Reg.MMU_SELF_VA_HI_VA.key 0 0,
   Reg.QUE_CNT_CPL_COUNT.key 0 0]

/-- Context `c` holds command `k`, fetched and not started, that passes the checks before a command's own (R482) and has its
unused fields 0 (R473), and no power-fail warning keeps it from starting (R376). -/
def startable (d : Dev) (c : Nat) (k : Ctx) (u : Uses) : Bool :=
  d.ctx c == some k && k.wait == .fresh && !k.mute && !d.clk.powerFail && (d.verdict k.e).isNone && k.e.unusedZero u

/-- Among what was sent are writes that put bytes at a host physical address, cut at 512-byte boundaries (R444). -/
def wroteBytes (l : List Out) (phys : Nat) (b : List Byte) : Bool :=
  (List.range ((b.length + 511) / 512)).all fun i =>
    l.any fun o => match o with | .hostWrite a x _ => a == phys + 512 * i && x == (b.drop (512 * i)).take 512 | _ => false

/-- Among what was sent are writes of `n` bytes to a host physical address, cut so. -/
def wrote (l : List Out) (phys n : Nat) : Bool :=
  (List.range ((n + 511) / 512)).all fun i =>
    l.any fun o => match o with | .hostWrite a x _ => a == phys + 512 * i && x.length == min 512 (n - 512 * i) | _ => false

/-- Among what was sent from `d` is a message to the peer with a link sequence, and the header of the two (R562). -/
abbrev sentNer (d : Dev) (l : List Out) (seq : BitVec 16) (m : NerMsg) : Prop :=
  Out.ner seq m (nerHeader d.flash d.sal.progs seq m) ∈ l

/-- DIAGNOSTIC acts on `n` bytes of registers from an offset. -/
def windowIs (d : Dev) (b w off n : Nat) : Bool :=
  match d.window b w with | .ok q => q == (off, n) | .error _ => false

/-- No set is being reshaped; no member is being rebuilt; no SQ is bound to CQ `n`. -/
def noReshape (d : Dev) : Bool := d.set.sets.all fun e => match e.2 with | some y => !y.reshaping | none => true
def noRebuild (d : Dev) : Bool := d.set.sets.all fun e => match e.2 with | some y => y.rebuilding.isEmpty | none => true
def cqUnused (d : Dev) (n : Nat) : Bool := d.que.sqs.all fun e => match e.2 with | some q => q.cq != n | none => true

/-- A context as the fetch of an entry makes it: nothing gathered, counted or found yet. -/
def newCtx (k : Ctx) : Bool :=
  k.buf.isEmpty && k.seals.isEmpty && k.todo.isEmpty && k.acc0 == 0 && k.acc1 == 0 && k.got.isEmpty && k.stop.isNone
    && k.st == 0 && k.after.isEmpty

/-- Nothing moves between host memory and the device: no transfer, no WRITE under ingest, and the cache is OFF. -/
def quiet (d : Dev) : Bool :=
  d.mmu.xfers.isEmpty && (d.waiting fun w => w == .ingest).isEmpty && (d.waiting fun w => w == .hlmBack).isEmpty
    && d.rd Reg.BRC_STATUS_STATE == 0

/-- What a command waits for is the grant of spindle `n`, among others (R572). -/
def waitsForSpindle (w : Wait) (n : Nat) : Bool := match w with | .takeover _ m => m.testBit n | _ => false

/-- No completion waits for its ring. -/
def noneHeld (d : Dev) : Bool := d.que.cqs.all fun e => match e.2 with | some q => q.held.isEmpty | none => true

/-- No pickup of a spindle burns a band. -/
def noBurns (d : Dev) (n : Nat) : Bool := (d.burn (2 * n)).isNone && (d.burn (2 * n + 1)).isNone

/-- Everything of the device but the registers, the translation unit, the queues, the pending bits, the clock unit and
what a command asks of the recorder and the interfaces: the units that a register write does not reach by itself. -/
structure SameUnits (a b : Dev) : Prop where
  fuse : b.fuse = a.fuse
  mgmt : b.mgmt = a.mgmt
  mem : b.mem = a.mem
  brine : b.brine = a.brine
  windows : b.windows = a.windows
  flash : b.flash = a.flash
  sal : b.sal = a.sal
  set : b.set = a.set
  peer : b.peer = a.peer
  ports : b.ports = a.ports
  spots : b.spots = a.spots
  yar : b.yar = a.yar
  reads : b.reads = a.reads
  burns : b.burns = a.burns
  cal : b.cal = a.cal
  spins : b.spins = a.spins
  axes : b.axes = a.axes
  coords : b.coords = a.coords
  chops : b.chops = a.chops
  servos : b.servos = a.servos

/-- Every register field but those in `ks` and those that the posting of a ring can change reads as before. -/
def SameRegs (ks : List Nat) (a b : Dev) : Prop :=
  ∀ k dflt, ¬ k ∈ ks → ¬ k ∈ ringKeys → mget b.fv dflt k = mget a.fv dflt k

end Sys2Proof.Safety
end

