-- ==== Sys2Proof/WellFormed.lean ====
section
/-! DEFINITION. Which commands are well formed: every operand lies in the range that its field, its list or its name
has in the spec. Step takes a command well formed or not; well-formedness says which commands can come from outside. -/

namespace Sys2Proof

open Sys2Proof.Machine

/-- The 24 bytes that a submission queue entry carries beside its fields (Table 13-5). -/
def Sqe.wf (e : Sqe) : Bool := e.b.length == 24

/-- A polled tail names one of the 1,024 submission queues, a head one of the completion queues (Table 13-1). -/
def DoorbellRead.wf (rd : DoorbellRead) : Bool :=
  (rd.tails.all fun t => decide (t.1 < 1024)) && (rd.cqHeads.all fun t => decide (t.1 < 1024))

/-- A logical block is 4,096 bytes with a seal of 16 (R543). -/
def StagedLb.wf (b : StagedLb) : Bool := b.data.length == 4096 && b.tag.length == 16

/-- A page names a segment of 19 bits and one of its 2,048 pages, and volumes of 16 bits (Tables 14-2, 14-3). -/
def FlashPage.wf (p : FlashPage) : Bool :=
  decide (p.lsn < 524288) && decide (p.page < 2048) && decide (p.recs.length ≤ 1022) && p.slots.all fun (_, v, _, b) => decide (v < 65536) && b.wf

/-- A range names a volume of 16 bits (Table 14-5). -/
def ReleaseRange.wf (r : ReleaseRange) : Bool := decide (r.volume < 65536)

/-- The widths of a HEARTBEAT (Table 16-1). -/
def Heartbeat.wf (m : Heartbeat) : Bool :=
  decide (m.node < 16384) && m.volumes.all fun v => decide (v < 65536)

/-- A side has 8 ledger bands of 2,784 blocks of 4,112 bytes, 4 layers and 8,856 bands (R521, R523, R44). -/
def LedgerSide.wf (l : LedgerSide) : Bool :=
  decide (l.bands.length ≤ 8)
    && (l.bands.all fun b => decide (b.length ≤ 2784) && b.all fun w => match w with | some x => x.length == 4112 | none => true)
    && l.probed.all fun q => decide (q.1 < 4) && decide (q.2 < bandCount)

/-- What is read of a disc is well-formed side by side. -/
def LedgerRead.wf (l : LedgerRead) : Bool := l.a.wf && l.b.wf

/-- The security version and the key index are bytes, the revision two, the length four (Table 16-9). -/
def FwHeader.wf (h : FwHeader) : Bool :=
  decide (h.secVer < 256) && decide (h.keyIndex < 256) && decide (h.rev < 65536) && decide (h.length < 4294967296)

/-- A fault names one of the eleven arrays and bits of the 72 stored (Table 11-1, R391). -/
def MemFault.wf (f : MemFault) : Bool := decide (f.array < 11) && f.flips.all fun n => decide (n < 72)

/-- A fill brings the 128 bytes of a line (R407). -/
def BrineFill.wf (x : BrineFill) : Bool := x.data.length == 128 && x.err.all MemFault.wf

/-- A scratchpad request has an internal byte address (R388). -/
def MemEvent.wf (e : MemEvent) : Bool :=
  match e with
  | .fault m => m.wf
  | .cycle l => l.all fun r => decide (r.addr < 4294967296)

/-- A critical word is one of 1,024 (Table 11-1). -/
def CritFault.wf (f : CritFault) : Bool := decide (f.word < 1024)

/-- Whether the operands of a command lie in their ranges. -/
def Instr.wf (i : Instr) : Bool :=
  match i with
  | .registerWrite off _ => off % 4 == 0 && decide (off < 16777216)
  | .partialRegisterWrite off be _ => off % 4 == 0 && decide (off < 16777216) && be != 0xF#4
  | .sidebandRegisterAccess _ off _ => off % 4 == 0 && decide (off < 16777216)
  | .setupLock _ => true
  | .tgSnap _ => true
  | .tgLoad _ => true
  | .tgNextSecWrite _ => true
  | .swReset _ => true
  | .clkGateWrite _ => true
  | .gateClosure _ => true
  | .gateTimeout _ => true
  | .autoGateIdle _ => true
  | .autoGateWake _ => true
  | .clkOutWrite _ => true
  | .clkMonWrite _ _ => true
  | .hifFwGo _ => true
  | .sorCfgEnSet _ _ => true
  | .sorCfgEnClear _ _ => true
  | .queCtlEnSet _ => true
  | .queCtlEnClear _ => true
  | .queAdminRetry _ => true
  | .deadlineWindowEnd _ inst => decide (inst < 512)
  | .codewordReceive _ _ symErrs _ => decide (symErrs <= 544)
  | .laneLoss _ _ _ => true
  | .laneRetrainDone _ _ _ => true
  | .laneRetrainTimeout _ _ _ => true
  | .controlBlockReceive _ _ _ _ _ _ => true
  | .trainingStepDone _ _ => true
  | .trainingStepTimeout _ => true
  | .sampleCellReceive _ _ _ samples => samples.length == 64
  | .servoCellReceive _ _ _ samples => samples.length == 32
  | .currentCellReceive _ _ _ => true
  | .statusCellReceive _ _ => true
  | .responseCellReceive _ _ => true
  | .controlTimeout _ _ => true
  | .downstreamSuperframe _ _ _ => true
  | .spotStall _ => true
  | .defectEnd _ => true
  | .resumeBoostEnd _ => true
  | .acqGainEnd _ => true
  | .flywheelExpiry _ => true
  | .wedgeGap _ _ _ => true
  | .alignTimeout _ _ => true
  | .frameHandover _ => true
  | .engineJobStart _ => true
  | .engineStageEnd _ _ => true
  | .jointWaitExpiry _ => true
  | .jobDrop _ => true
  | .hardStop _ => true
  | .clusterTimeout _ addr => clusterOk addr.toNat
  | .assemblyDeadlineMiss _ addr => clusterOk addr.toNat
  | .bandReadStart _ _ band slot => decide (band < 8856) && decide (slot < 231)
  | .bandBurnStart _ _ => true
  | .revolutionStart _ slot => decide (slot < 231)
  | .revolutionEnd _ => true
  | .bandBurnEnd _ => true
  | .writeResume _ _ slot => decide (slot < 231)
  | .tickCompute _ => true
  | .tickCutoff _ => true
  | .bridgeLimit _ _ => true
  | .missMaxExpiry _ => true
  | .faultMissExpiry _ => true
  | .outputSaturation _ _ => true
  | .onTrackEntry _ => true
  | .holdRecover _ => true
  | .holdMaxExpiry _ => true
  | .wedgeResult _ _ => true
  | .trackSlip _ => true
  | .wedgeBridge _ => true
  | .wedgeLost _ => true
  | .wedgeSearchEnd _ => true
  | .focusAcqStart _ => true
  | .focusSettled _ => true
  | .focusSweepEnd _ => true
  | .kickEnd _ => true
  | .jumpTimeout _ => true
  | .moveProfileEnd _ => true
  | .settleTimeout _ => true
  | .sledSeekDone _ => true
  | .fineSeekDone _ => true
  | .focPeriod _ _ => true
  | .focCutoff _ => true
  | .speedLoopUpdate _ _ _ => true
  | .atSpeedReport _ => true
  | .speedErrTimeout _ => true
  | .modulationLimit _ => true
  | .catchEnd _ _ => true
  | .alignEnd _ => true
  | .handover _ => true
  | .angleBlendEnd _ => true
  | .handoverTimeout _ => true
  | .startRetry _ => true
  | .brakeEnd _ => true
  | .busFilterOutput _ _ => true
  | .escTimeout _ => true
  | .undervoltTimeout _ => true
  | .desat _ => true
  | .modStuck _ _ => true
  | .grantRise _ => true
  | .grantFall _ => true
  | .plannerUpdate => true
  | .homeStopWait _ => true
  | .standstillTimeout _ => true
  | .currentRaiseDone _ => true
  | .chopperSlot _ _ _ => true
  | .currentMissLimit _ => true
  | .currentResume _ => true
  | .calibrationStart _ => true
  | .calibrationStepEnd _ _ => true
  | .refclkStop => true
  | .refclkWindow _ => true
  | .fboPeriodCheck _ => true
  | .dividerCheck _ _ => true
  | .rootPllUnlock => true
  | .mgmtClockSwitch _ => true
  | .refclkValid => true
  | .rootPllRelock _ => true
  | .ppsEdge _ => true
  | .ppsLoss => true
  | .tsy10mLoss => true
  | .comparatorMatch _ => true
  | .pfwFall => true
  | .tamper => true
  | .wakePin => true
  | .deepEntry => true
  | .tidePowerOn => true
  | .mainSupplyValid => true
  | .mainSupplyLoss => true
  | .linkReset => true
  | .mgmtWatchdog => true
  | .fuseLoadDone _ _ _ => true
  | .fboStable => true
  | .rootPllLock _ => true
  | .selfTestDone _ => true
  | .invalidationDone _ => true
  | .marchDone fails => fails.all MemFault.wf
  | .mainbandTrained _ _ _ => true
  | .firmwareFetchDone img => match img with | some h => h.wf | none => true
  | .firmwareOfferTimeout => true
  | .firmwareInitDone _ => true
  | .scrubWalk fs ms => fs.all CritFault.wf && ms.all MemEvent.wf
  | .brineFillDone _ _ fill => fill.wf
  | .cacheDrainDone => true
  | .sidebandWake => true
  | .sidebandStatusQuery => true
  | .linkWidthDegrade => true
  | .linkRetrain => true
  | .busMasterDisable => true
  | .busMasterEnable => true
  | .translationWalkDone _ _ => true
  | .dmaReadCompletion _ _ => true
  | .completionTimeout _ => true
  | .deliveryHoldExpiry _ => true
  | .doorbellPoll rd => rd.wf
  | .sqEntryFetch q entries => decide (q < 1024) && entries.all Sqe.wf
  | .coalesceTimeout cq => decide (cq < 1024)
  | .identify c => decide (c < 16384)
  | .createQueue c => decide (c < 16384)
  | .deleteQueue c => decide (c < 16384)
  | .disableQueue c => decide (c < 16384)
  | .enableQueue c => decide (c < 16384)
  | .getQueueState c => decide (c < 16384)
  | .getFeature c => decide (c < 16384)
  | .setFeaturePowerState c => decide (c < 16384)
  | .setFeatureAsidRoot c => decide (c < 16384)
  | .setFeatureInvalidate c => decide (c < 16384)
  | .cacheEnable c => decide (c < 16384)
  | .cacheDisable c => decide (c < 16384)
  | .cacheMasks c => decide (c < 16384)
  | .cacheConvert c => decide (c < 16384)
  | .setFeaturePoll c => decide (c < 16384)
  | .setFeatureEventFilter c => decide (c < 16384)
  | .setFeatureCoalesce c => decide (c < 16384)
  | .setFeatureArbitration c => decide (c < 16384)
  | .lendMemory c => decide (c < 16384)
  | .returnMemory c => decide (c < 16384)
  | .indexBuild => true
  | .resolveFaultRetry c => decide (c < 16384)
  | .resolveFaultAbort c => decide (c < 16384)
  | .mediaEventLoaded c led => decide (c < 16384) && led.wf
  | .mediaEventUnload c => decide (c < 16384)
  | .mediaEventEmpty c => decide (c < 16384)
  | .formatSaltern c => decide (c < 16384)
  | .formatDisc c => decide (c < 16384)
  | .sanitise c => decide (c < 16384)
  | .progress c => decide (c < 16384)
  | .operationStepDone op _ _ fraction => decide (op < 65535) && decide (fraction < 65536)
  | .createSet c _ => decide (c < 16384)
  | .destroySet c => decide (c < 16384)
  | .reshapeSet c _ => decide (c < 16384)
  | .sparePoolAdd c _ => decide (c < 16384)
  | .sparePoolRemove c _ => decide (c < 16384)
  | .sparePoolList c => decide (c < 16384)
  | .setStateQuery c => decide (c < 16384)
  | .setStateOffline c => decide (c < 16384)
  | .setStateOnline c => decide (c < 16384)
  | .setStateFailMember c => decide (c < 16384)
  | .rebuildStart volume member => decide (volume < 65536) && decide (member < 16)
  | .calibrateFull c => decide (c < 16384)
  | .calibrateDrift c => decide (c < 16384)
  | .calibrateLoadStrategy c _ => decide (c < 16384)
  | .calibrateDiscard c => decide (c < 16384)
  | .firmwareLoad c _ => decide (c < 16384)
  | .firmwareActivate c => decide (c < 16384)
  | .recorderRead c => decide (c < 16384)
  | .recorderChallenge c => decide (c < 16384)
  | .recorderClear c _ => decide (c < 16384)
  | .peerConfigure c => decide (c < 16384)
  | .peerTakeoverClaim c => decide (c < 16384)
  | .peerTakeover c => decide (c < 16384)
  | .lifeCycle c _ => decide (c < 16384)
  | .authLockoutEnd => true
  | .diagnosticClear c => decide (c < 16384)
  | .diagnosticSnapshot c => decide (c < 16384)
  | .motionSpin c => decide (c < 16384)
  | .motionRelease c => decide (c < 16384)
  | .motionMove c => decide (c < 16384)
  | .motionCoordinated c => decide (c < 16384)
  | .motionHome c => decide (c < 16384)
  | .servoModeStart c => decide (c < 16384)
  | .servoModeStop c => decide (c < 16384)
  | .servoModeRestart c => decide (c < 16384)
  | .servoModeLoop c => decide (c < 16384)
  | .servoModeSeek c => decide (c < 16384)
  | .read c => decide (c < 16384)
  | .write c => decide (c < 16384)
  | .commit c => decide (c < 16384)
  | .verify c => decide (c < 16384)
  | .lbaStatus c => decide (c < 16384)
  | .sealVolume c => decide (c < 16384)
  | .admissionGranted c => decide (c < 16384)
  | .pageProgramDone _ _ => true
  | .blockEraseDone sb _ => decide (sb < 65536)
  | .pageReadDone _ _ => true
  | .journalFlush => true
  | .checkpoint => true
  | .gcStart => true
  | .residencyPriority lsn => decide (lsn < 524288)
  | .residencyBound lsn => decide (lsn < 524288)
  | .ledgerCommit _ _ => true
  | .nerLinkUp => true
  | .nerLaneLoss _ => true
  | .heartbeatSend => true
  | .heartbeatReceive m => m.wf
  | .heartbeatMiss => true
  | .takeoverRetry => true
  | .claimWaitEnd => true
  | .ackSend => true
  | .messageResend _ => true
  | .mirrorDataReceive _ pg => pg.wf
  | .mirrorAckReceive _ _ => true
  | .journalReceive _ _ => true
  | .mirrorReleaseReceive _ rs => rs.all ReleaseRange.wf
  | .clusterReceive _ disc _ words => decide (disc < 281474976710656) && words.all fun w => w.length == 4112
  | .burnReportReceive _ _ => true
  | .fetchReceive _ volume _ _ => decide (volume < 65536)
  | .fetchDataReceive _ volume _ lbs => decide (volume < 65536) && lbs.all fun l => match l with | some b => b.wf | none => true
  | .releaseRequestReceive _ _ _ => true
  | .homeReceive _ volume node gen => decide (volume < 65536) && decide (node < 16384) && decide (gen < 65536)
  | .becomeHome volume => decide (volume < 65536)
  | .thermalSensorUpdate _ => true
  | .thermalShutdown => true
  | .i2cPointerWrite _ => true
  | .jtagInstruction _ => true
  | .jtagChipReset => true
  | .onfPllUnlock => true
  | .tsy10mReturn => true
  | .tideSupplyLoss => true

end Sys2Proof
end

