-- ==== Sys2Proof/Certificates/Slice0/Obligations.lean ====
section
/-! DEFINITION. The statements about the block, for the provers. -/

open Sys2Proof Sys2Proof.Machine Sys2Proof.Safety


/-- For every state and queue with command c at the front, step is exec of c on the state with the queue's rest; on an empty queue step is the passage of time, State.idle (the model's choice, log entry 7). -/
def Obligations.StepRunsFrontCommand : Prop :=
  (∀ (s : State) (c : Instr) (rest : List Instr), step { s with pending := c :: rest } = exec c
      { s with pending := rest }) ∧
  (∀ s : State, s.pending = [] → step s = .next s.idle)

/-- For every command and every state, exec answers a next state (no fault and no refusal), and the queue of waiting commands in it is the one before: a command consumes and adds none. -/
def Obligations.EveryCommandCompletesAndKeepsQueue : Prop :=
  ∀ (c : Instr) (s : State), ∃ t, exec c s = .next t ∧ t.pending = s.pending

/-- For every register of the map that is not one of those whose write starts, stops or resets something, in a unit with its clock running and not held by the safe latch, each field f of the register, unless the value is one the field refuses, holds afterwards what Table 0-4 says for its type: RO its value, RW the value written, RWL that value until the set-up lock and its own after, W1C its bits cleared by ones, W1S its bits set by ones. -/
def Obligations.RegisterWriteTakesAccessType : Prop :=
  ∀ (s : State) (off : Nat) (val : Word) (g : RegDef) (f : RField) (i j : Nat), regAt off = some (g, i, j) → f ∈
      g.fields → off % 4 = 0 → s.dev.fusedOff off = false → clocked s.dev off = true → (s.dev.safe && heldAt off) =
      false → plainOff off = true → s.dev.shown s.evr (keyOf g f i j) = none → refused (keyOf g f i j) (val.toNat / 2 ^
      f.lo % 2 ^ f.w) val.toNat = false → ¬ keyOf g f i j ∈ ringKeys → After (.registerWrite off val) s fun t => stored
      t.dev g f i j = written (s.dev.flag Reg.GLB_SETUP_LOCK_LOCK) f.acc (stored s.dev g f i j) (val.toNat / 2 ^ f.lo %
      2 ^ f.w)

/-- A host write to a register whose write starts no action, outside the blocks of the servo loops, and a write whose byte enables do not cover a register, leave every unit of the device as it is; the first leaves every register field outside that register (the clock gate of its unit apart), the second every field but HIF_ERR.BAD_ACCESS. -/
def Obligations.RegisterWriteFrame : Prop :=
  (∀ (s : State) (off : Nat) (val : Word), off % 4 = 0 → plainOff off = true → loopOff off = false → After
      (.registerWrite off val) s fun t => SameUnits s.dev t.dev ∧ SameRegs (Reg.CLK_GATE_ST_RUN.key 0 0 :: (List.range
      32).map (off * 8 + ·)) s.dev t.dev) ∧
  (∀ (s : State) (off : Nat) (be : BitVec 4) (val : Word), be ≠ 0xF#4 → After (.partialRegisterWrite off be val) s fun t
      => SameUnits s.dev t.dev ∧ SameRegs [Reg.HIF_ERR_BAD_ACCESS.key 0 0] s.dev t.dev)

/-- A write with byte enables that do not cover the register sets HIF_ERR.BAD_ACCESS. With the sideband up and step 3 past, an access outside the GLB_, CLK_, TG_, MEM_ and HIF_ blocks is answered with Unsupported Request, a read inside them with the word that the register reads, and a write inside them with success. Setting GLB_SETUP_LOCK.LOCK leaves it set. TG_CTL.SNAP captures device time into TG_SNAP, whatever the other bits written. TG_CTL.LOAD sets device time from TG_LOAD and sets TIME_VALID. A write of TG_NEXT_SEC holds the second and arms its load at the next PPS edge. -/
def Obligations.RegisterAccessAndLocks : Prop :=
  (∀ (s : State) (off : Nat) (be : BitVec 4) (val : Word), be ≠ 0xF#4 → After (.partialRegisterWrite off be val) s fun t
      => t.dev.flag Reg.HIF_ERR_BAD_ACCESS = true) ∧
  (∀ (s : State) (write : Bool) (off : Nat) (val : Word), s.dev.flag Reg.HIF_STATUS_SB_UP = true → sidebandReaches off =
      false → After (.sidebandRegisterAccess write off val) s fun t => Out.sbReply true 0 ∈ t.sent) ∧
  (∀ (s : State) (off : Nat) (val : Word), s.dev.flag Reg.HIF_STATUS_SB_UP = true → sidebandReaches off = true → 3 ≤
      s.dev.bootStep → After (.sidebandRegisterAccess false off val) s fun t => Out.sbReply false (BitVec.ofNat 32
      (s.dev.readWord s.evr off)) ∈ t.sent) ∧
  (∀ (s : State) (off : Nat) (val : Word), s.dev.flag Reg.HIF_STATUS_SB_UP = true → sidebandReaches off = true → 3 ≤
      s.dev.bootStep → After (.sidebandRegisterAccess true off val) s fun t => Out.sbReply false 0 ∈ t.sent) ∧
  (∀ (s : State) (val : Word), After (.setupLock val) s fun t => t.dev.flag Reg.GLB_SETUP_LOCK_LOCK = true) ∧
  (∀ (s : State) (val : Word), After (.tgSnap val) s fun t => t.dev.rd Reg.TG_SNAP_LO_TIME = s.dev.now.toNat % 2 ^ 32 ∧
      t.dev.rd Reg.TG_SNAP_HI_TIME = s.dev.now.toNat / 2 ^ 32) ∧
  (∀ (s : State) (val : Word), After (.tgLoad val) s fun t => t.dev.clk.time = BitVec.ofNat 80 ((s.dev.rd
      Reg.TG_LOAD_LO_TIME + 2 ^ 32 * s.dev.rd Reg.TG_LOAD_HI_TIME) * 65536) ∧ t.dev.flag Reg.TG_STATUS_TIME_VALID =
      true) ∧
  (∀ (s : State) (val : Word), After (.tgNextSecWrite val) s fun t => t.dev.rd Reg.TG_NEXT_SEC_SEC = val.toNat ∧
      t.dev.clk.secArmed = true)

/-- A write of CLK_RST that carries key 0xC5 resets the device: TG_RST_CAUSE reads 5, no page program, burn, spindle run or servo action is left. A write without the key leaves every unit, and every register but CLK_RST.KEY, as they were. -/
def Obligations.SoftwareResetNeedsItsKey : Prop :=
  (∀ (s : State) (val : Word), val.toNat % 256 = 0xC5 → After (.swReset val) s fun t => t.dev.rd Reg.TG_RST_CAUSE_CAUSE
      = 5 ∧ t.dev.sal.progs = [] ∧ t.dev.spins = [] ∧ t.dev.servos = [] ∧ t.dev.burns = []) ∧
  (∀ (s : State) (val : Word), val.toNat % 256 ≠ 0xC5 → s.dev.flag Reg.CLK_RST_SW_RESET = false → After (.swReset val) s
      fun t => SameUnits s.dev t.dev ∧ SameRegs [Reg.CLK_RST_KEY.key 0 0] s.dev t.dev ∧ t.dev.rd Reg.CLK_RST_KEY =
      val.toNat % 256)

/-- A 1 written to a CLK_GATE enable that the variant has (SYV8160-AB lacks SQ2 and SQ3) sets it and its RUN, and ends a pending closure. The idle handshake of a pending closure ends it and stops the clock; no handshake sets GATE_TIMEOUT. A unit with automatic gating, enabled, idle, serving no motion and running no class H deadline has its clock stopped; a request to a unit so stopped restarts its clock. After a write of CLK_OUT the pin is driven exactly when EN is 1, the source divided by DIV + 1 is at most 200 MHz, and the safe latch is clear or the source is TIDE. After a write of CLK_MON, while no Saltern recovery waits for the flash, the sensed level is the one present, and the ONFI operations are allowed exactly when the level (NV-DDR3 above 0.90 V) agrees with ONF_RATE. -/
def Obligations.ClockGatingAndOutput : Prop :=
  (∀ (s : State) (val : Word) (u : Fin 14), val.toNat.testBit u.val = true → (s.dev.isAB && (u.val == 2 || u.val == 3))
      = false → After (.clkGateWrite val) s fun t => (t.dev.rd Reg.CLK_GATE_EN).testBit u.val = true ∧ (t.dev.rd
      Reg.CLK_GATE_ST_RUN).testBit u.val = true ∧ (t.dev.rd Reg.CLK_GATE_ST_PEND).testBit u.val = false) ∧
  (∀ (s : State) (u : Fin 14), (s.dev.rd Reg.CLK_GATE_ST_PEND).testBit u.val = true → After (.gateClosure u) s fun t =>
      (t.dev.rd Reg.CLK_GATE_ST_PEND).testBit u.val = false ∧ (t.dev.rd Reg.CLK_GATE_ST_RUN).testBit u.val = false) ∧
  (∀ (s : State) (u : Fin 14), (s.dev.rd Reg.CLK_GATE_ST_PEND).testBit u.val = true → After (.gateTimeout u) s fun t =>
      t.dev.flag Reg.CLK_ERR_GATE_TIMEOUT = true ∧ (t.dev.rd Reg.CLK_GATE_ST_PEND).testBit u.val = true) ∧
  (∀ (s : State) (u : Fin 14), (s.dev.rd Reg.CLK_AUTO_EN).testBit u.val = true → (s.dev.rd Reg.CLK_GATE_EN).testBit
      u.val = true → s.dev.unitBusy u.val = false → s.dev.servesMotion u.val = false → s.dev.runsClassH u.val = false →
      After (.autoGateIdle u) s fun t => (t.dev.rd Reg.CLK_GATE_ST_RUN).testBit u.val = false ∧
      t.dev.clk.autoOff.getLsbD u.val = true) ∧
  (∀ (s : State) (u : Fin 14), s.dev.clk.autoOff.getLsbD u.val = true → After (.autoGateWake u) s fun t => (t.dev.rd
      Reg.CLK_GATE_ST_RUN).testBit u.val = true ∧ t.dev.clk.autoOff.getLsbD u.val = false) ∧
  (∀ (s : State) (val : Word), After (.clkOutWrite val) s fun t => t.dev.rd Reg.CLK_OUT_EN = val.toNat % 2 ∧ t.dev.rd
      Reg.CLK_OUT_SEL = val.toNat / 2 % 8 ∧ t.dev.rd Reg.CLK_OUT_DIV = val.toNat / 16 % 256 ∧ t.dev.clk.clkout =
      (val.toNat % 2 == 1 && decide (clkOutKhz (val.toNat / 2 % 8) ≤ 200000 * (val.toNat / 16 % 256 + 1)) &&
      (!s.dev.safe || val.toNat / 2 % 8 == 5))) ∧
  (∀ (s : State) (val : Word) (mv : Nat), s.dev.sal.scan = none → After (.clkMonWrite val mv) s fun t =>
      t.dev.clk.vddqMv = mv ∧ t.dev.clk.onfOk = (decide (900 < mv) == t.dev.flag Reg.CLK_MON_ONF_RATE))

/-- GO in step 7, with the link up, bus mastering on, no image run or fetched and LEN at most 16 MiB, starts the untranslated fetch of LEN bytes at FW_ADDR; before step 7, or without the link or bus mastering, it stays set and starts nothing. SOR_CFG.EN set on a port that is DOWN, before the set-up lock, starts its training: PRBS13 on both lanes; cleared, it takes a port not in FAULT to DOWN with its transmitters idle. QUE_CTL.EN set with valid rings enables the admin queue, and with invalid ones sets QUE_ERR.CFG and leaves ENABLED clear; cleared, it leaves only the admin queues and ENABLED at 0. RETRY clears itself; with polling stopped and nothing to fetch it ends the stop and the latched fault. -/
def Obligations.SetEnablesStartTheirUnits : Prop :=
  (∀ (s : State) (val : Word), s.dev.atStep 6 = true → s.dev.flag Reg.HIF_STATUS_LINK_UP = true → s.dev.rd
      Reg.HIF_FW_CTL_STATUS = 0 → s.dev.flag Reg.HIF_BOOT_ROM = false → s.dev.rd Reg.HIF_BOOT_IMAGE = 0 → s.dev.rd
      Reg.HIF_FW_LEN_LEN ≤ 2 ^ 24 → s.dev.safe = false → s.dev.bme = true → After (.hifFwGo val) s fun t => t.dev.rd
      Reg.HIF_FW_CTL_STATUS = 1 ∧ Out.fwFetch (s.dev.rd Reg.HIF_FW_ADDR_LO_ADDR + 2 ^ 32 * s.dev.rd
      Reg.HIF_FW_ADDR_HI_ADDR) (s.dev.rd Reg.HIF_FW_LEN_LEN) ∈ t.sent) ∧
  (∀ (s : State) (val : Word), (!s.dev.atStep 6 || !s.dev.flag Reg.HIF_STATUS_LINK_UP || !s.dev.bme) = true → s.dev.safe
      = false → After (.hifFwGo val) s fun t => t.dev.flag Reg.HIF_FW_CTL_GO = true ∧ t.dev.rd Reg.HIF_FW_CTL_STATUS =
      s.dev.rd Reg.HIF_FW_CTL_STATUS ∧ SameUnits s.dev t.dev) ∧
  (∀ (s : State) (p : Pk) (val : Word), s.dev.hasPk p.val = true → (s.dev.rd Reg.CLK_GATE_ST_RUN).testBit (p.val / 4) =
      true → s.dev.flag Reg.GLB_SETUP_LOCK_LOCK = false → s.dev.flag Reg.SOR_CFG_EN p.val = false → s.dev.portState
      p.val = 0 → s.dev.rd Reg.SOR_CFG_TEST p = 0 → s.dev.safe = false → s.dev.bootStep = 8 → After (.sorCfgEnSet p val)
      s fun t => t.dev.portState p.val = 1 ∧ t.dev.flag Reg.SOR_CFG_EN p.val = true ∧ Out.down p.val (.training 3 1) ∈
      t.sent) ∧
  (∀ (s : State) (p : Pk) (val : Word), s.dev.hasPk p.val = true → (s.dev.rd Reg.CLK_GATE_ST_RUN).testBit (p.val / 4) =
      true → s.dev.flag Reg.GLB_SETUP_LOCK_LOCK = false → s.dev.flag Reg.SOR_CFG_EN p.val = true → s.dev.portState p.val
      ≠ 4 → s.dev.rd Reg.SOR_CFG_TEST p = 0 → s.dev.safe = false → After (.sorCfgEnClear p val) s fun t =>
      t.dev.portState p.val = 0 ∧ t.dev.flag Reg.SOR_CFG_EN p.val = false ∧ Out.down p.val .idle ∈ t.sent) ∧
  (∀ (s : State) (val : Word), s.dev.flag Reg.QUE_STATUS_AQ_READY = true → s.dev.flag Reg.QUE_STATUS_ENABLED = false →
      s.dev.ringsValid = true → s.dev.safe = false → After (.queCtlEnSet val) s fun t => t.dev.flag
      Reg.QUE_STATUS_ENABLED = true ∧ (t.dev.sq 0).isSome = true ∧ (t.dev.cq 0).isSome = true) ∧
  (∀ (s : State) (val : Word), s.dev.flag Reg.QUE_STATUS_AQ_READY = true → s.dev.flag Reg.QUE_STATUS_ENABLED = false →
      s.dev.ringsValid = false → s.dev.safe = false → After (.queCtlEnSet val) s fun t => t.dev.flag Reg.QUE_ERR_CFG =
      true ∧ t.dev.flag Reg.QUE_STATUS_ENABLED = false) ∧
  (∀ (s : State) (val : Word), s.dev.flag Reg.QUE_STATUS_ENABLED = true → s.dev.safe = false → After (.queCtlEnClear
      val) s fun t => t.dev.flag Reg.QUE_STATUS_ENABLED = false ∧ (t.dev.que.sqs.all fun e => e.1 == 0) = true ∧
      (t.dev.que.cqs.all fun e => e.1 == 0) = true) ∧
  (∀ (s : State) (val : Word), s.dev.flag Reg.QUE_STATUS_POLL_STOPPED = true → (s.dev.que.sqs.all fun e =>
      s.dev.mayFetch e.1 == 0) = true → s.dev.safe = false → After (.queAdminRetry val) s fun t => t.dev.flag
      Reg.QUE_STATUS_POLL_STOPPED = false ∧ t.dev.flag Reg.QUE_ADMIN_FAULT_VALID = false ∧ t.dev.flag
      Reg.QUE_ADMIN_FAULT_RETRY = false) ∧
  (∀ (s : State) (val : Word), (s.dev.que.sqs.all fun e => s.dev.mayFetch e.1 == 0) = true → s.dev.safe = false → After
      (.queAdminRetry val) s fun t => t.dev.flag Reg.QUE_ADMIN_FAULT_RETRY = false ∧ t.dev.flag
      Reg.QUE_STATUS_POLL_STOPPED = false)

/-- With the main supplies present, each of these trips: no REFCLK edges, a REFCLK window outside its limits (944 to 1,107 while FBO is stable), a divided clock outside ±8 % (while FBO is stable and the root PLL locked), and loss of lock of the root PLL. A trip sets the safe latch and its CLK_ERR bit, and leaves no spindle, servo engine or burn active. A TIDE period with FBO outside its limits makes FBO unstable and sets FBO_FAULT; one within them counts as good. REFCLK valid sets REF_VALID and ends the wait. After a trip the management clock moves to a stable FBO with fallback shown, and returns to the locked root. A successful relock restarts the device with cause CLOCK; the last failed try sets RELOCK_FAIL. An ONFI PLL that loses lock clears ONF_LOCK and sets ONF_UNLOCK. -/
def Obligations.ClockFaultsAndMonitors : Prop :=
  (∀ (s : State), s.dev.refJudged = true → After (.refclkStop) s fun t => t.dev.safe = true ∧ t.dev.spins = [] ∧
      t.dev.servos = [] ∧ t.dev.burns = [] ∧ t.dev.flag Reg.CLK_ERR_REF_STOP = true ∧ t.dev.flag
      Reg.CLK_STATUS_REF_VALID = false) ∧
  (∀ (s : State) (count : Nat), s.dev.refJudged = true → s.dev.flag Reg.CLK_STATUS_FBO_STABLE = true → (count < 944 ∨
      1107 < count) → After (.refclkWindow count) s fun t => t.dev.safe = true ∧ t.dev.spins = [] ∧ t.dev.servos = [] ∧
      t.dev.burns = [] ∧ t.dev.flag Reg.CLK_ERR_REF_FREQ = true) ∧
  (∀ (s : State) (count : Nat), s.dev.refJudged = true → s.dev.flag Reg.CLK_STATUS_FBO_STABLE = true → 944 ≤ count →
      count ≤ 1107 → After (.refclkWindow count) s fun t => t.dev.safe = s.dev.safe ∧ t.dev.rd Reg.CLK_MON_CNT_REF =
      count) ∧
  (∀ (s : State) (dom : Fin 5) (count : Nat), s.dev.refJudged = true → s.dev.flag Reg.CLK_STATUS_FBO_STABLE = true →
      s.dev.flag Reg.CLK_STATUS_ROOT_LOCK = true → divGood dom.val count = false → After (.dividerCheck dom count) s fun
      t => t.dev.safe = true ∧ t.dev.spins = [] ∧ t.dev.servos = [] ∧ t.dev.burns = [] ∧ t.dev.flag
      Reg.CLK_ERR_DIV_FAULT = true) ∧
  (∀ (s : State), s.dev.powered = true → s.dev.flag Reg.CLK_STATUS_ROOT_LOCK = true → After (.rootPllUnlock) s fun t =>
      t.dev.safe = true ∧ t.dev.spins = [] ∧ t.dev.servos = [] ∧ t.dev.burns = [] ∧ t.dev.flag Reg.CLK_ERR_ROOT_UNLOCK =
      true ∧ t.dev.flag Reg.CLK_STATUS_ROOT_LOCK = false) ∧
  (∀ (s : State) (count : Nat), s.dev.powered = true → s.dev.flag Reg.CLK_STATUS_FBO_STABLE = true → (count < 4523 ∨
      4998 < count) → After (.fboPeriodCheck count) s fun t => t.dev.flag Reg.CLK_STATUS_FBO_STABLE = false ∧ t.dev.flag
      Reg.CLK_ERR_FBO_FAULT = true ∧ t.dev.clk.fboPeriods = 0) ∧
  (∀ (s : State) (count : Nat), s.dev.powered = true → s.dev.flag Reg.CLK_STATUS_FBO_STABLE = false → 4523 ≤ count →
      count ≤ 4998 → After (.fboPeriodCheck count) s fun t => t.dev.clk.fboPeriods = s.dev.clk.fboPeriods + 1 ∧ t.dev.rd
      Reg.CLK_MON_CNT_FBO = count) ∧
  (∀ (s : State), s.dev.refJudged = true → After (.refclkValid) s fun t => t.dev.flag Reg.CLK_STATUS_REF_VALID = true ∧
      t.dev.flag Reg.HIF_BOOT_WAIT = false) ∧
  (∀ (s : State), s.dev.powered = true → s.dev.clk.tripped = true → s.dev.flag Reg.CLK_STATUS_FBO_STABLE = true →
      s.dev.flag Reg.HIF_BOOT_FALLBACK = false → After (.mgmtClockSwitch true) s fun t => t.dev.flag
      Reg.CLK_STATUS_SOURCE = true ∧ t.dev.flag Reg.HIF_BOOT_FALLBACK = true ∧ t.dev.flag Reg.HIF_STATUS_LINK_UP =
      false) ∧
  (∀ (s : State), s.dev.powered = true → s.dev.flag Reg.CLK_STATUS_SOURCE = true → s.dev.flag Reg.CLK_STATUS_ROOT_LOCK =
      true → s.dev.clk.tripped = false → After (.mgmtClockSwitch false) s fun t => t.dev.flag Reg.CLK_STATUS_SOURCE =
      false ∧ t.dev.flag Reg.HIF_BOOT_FALLBACK = false) ∧
  (∀ (s : State), s.dev.powered = true → s.dev.clk.tripped = true → s.dev.flag Reg.CLK_STATUS_REF_VALID = true →
      s.dev.clk.relocks < s.dev.rd Reg.CLK_MON_RELOCK_TRIES → After (.rootPllRelock true) s fun t => t.dev.rd
      Reg.TG_RST_CAUSE_CAUSE = 3 ∧ t.dev.clk.tripped = false) ∧
  (∀ (s : State), s.dev.powered = true → s.dev.clk.tripped = true → s.dev.flag Reg.CLK_STATUS_REF_VALID = true →
      s.dev.clk.relocks + 1 = s.dev.rd Reg.CLK_MON_RELOCK_TRIES → After (.rootPllRelock false) s fun t => t.dev.flag
      Reg.CLK_ERR_RELOCK_FAIL = true ∧ t.dev.clk.relocks = s.dev.clk.relocks + 1) ∧
  (∀ (s : State), s.dev.flag Reg.CLK_STATUS_ONF_LOCK = true → After (.onfPllUnlock) s fun t => t.dev.flag
      Reg.CLK_STATUS_ONF_LOCK = false ∧ t.dev.flag Reg.CLK_ERR_ONF_UNLOCK = true)

/-- With TSY_EN at 1, the selected PPS edge loads the armed second; unarmed, it slews out an offset of at most 1,000 ns from the nearest second, and steps a larger one with TIME_STEP. PPS loss clears TSY_LOCK and sets PPS_LOSS; TSY_10M lost sets TSY_LOSS, and returned is followed again. A comparator that is reached sets its event and clears its enable. -/
def Obligations.DeviceTimeEvents : Prop :=
  (∀ (s : State) (rising : Bool), s.dev.powered = true → s.dev.flag Reg.TG_CTL_TSY_EN = true → rising = !s.dev.flag
      Reg.TG_CTL_PPS_EDGE → s.dev.clk.secArmed = true → After (.ppsEdge rising) s fun t => t.dev.clk.time = BitVec.ofNat
      80 (s.dev.rd Reg.TG_NEXT_SEC_SEC * 1000000000 * 65536) ∧ t.dev.clk.secArmed = false ∧ t.dev.flag
      Reg.TG_STATUS_TIME_VALID = true) ∧
  (∀ (s : State) (rising : Bool), s.dev.powered = true → s.dev.flag Reg.TG_CTL_TSY_EN = true → rising = !s.dev.flag
      Reg.TG_CTL_PPS_EDGE → s.dev.clk.secArmed = false → (ppsOffset s.dev.now.toNat).natAbs ≤ 1000 → After (.ppsEdge
      rising) s fun t => t.dev.clk.time = s.dev.clk.time ∧ t.dev.clk.slew = -ppsOffset s.dev.now.toNat * 65536) ∧
  (∀ (s : State) (rising : Bool), s.dev.powered = true → s.dev.flag Reg.TG_CTL_TSY_EN = true → rising = !s.dev.flag
      Reg.TG_CTL_PPS_EDGE → s.dev.clk.secArmed = false → 1000 < (ppsOffset s.dev.now.toNat).natAbs → After (.ppsEdge
      rising) s fun t => t.dev.clk.time = BitVec.ofNat 80 (((s.dev.now.toNat : Int) - ppsOffset s.dev.now.toNat).toNat *
      65536) ∧ t.dev.flag Reg.TG_EVENT_TIME_STEP = true) ∧
  (∀ (s : State), s.dev.powered = true → s.dev.flag Reg.TG_CTL_TSY_EN = true → After (.ppsLoss) s fun t => t.dev.flag
      Reg.TG_STATUS_TSY_LOCK = false ∧ t.dev.flag Reg.TG_EVENT_PPS_LOSS = true ∧ t.dev.clk.slew = 0) ∧
  (∀ (s : State), s.dev.powered = true → s.dev.flag Reg.TG_CTL_TSY_EN = true → After (.tsy10mLoss) s fun t => t.dev.flag
      Reg.CLK_ERR_TSY_LOSS = true ∧ t.dev.clk.tenM = false) ∧
  (∀ (s : State), s.dev.powered = true → s.dev.flag Reg.TG_CTL_TSY_EN = true → After (.tsy10mReturn) s fun t =>
      t.dev.clk.tenM = true) ∧
  (∀ (s : State) (k : Fin 4), s.dev.powered = true → (s.dev.rd Reg.TG_CMP_CTL_EN).testBit k.val = true → s.dev.rd
      Reg.TG_CMP_LO_TIME k.val + 2 ^ 32 * s.dev.rd Reg.TG_CMP_HI_TIME k.val ≤ s.dev.now.toNat → After (.comparatorMatch
      k) s fun t => (t.dev.rd Reg.TG_EVENT_CMP).testBit k.val = true ∧ (t.dev.rd Reg.TG_CMP_CTL_EN).testBit k.val =
      false)

/-- PFW below its threshold sets its status and event, and at step 8 stops commands from starting. TAMPER_N low stores the time and sets its status and event; before step 8 the firmware action waits. WAKE_N low in DEEP, or a WAKE message there, restarts the device with cause DEEP_WAKE; elsewhere WAKE_N only sets its event. -/
def Obligations.PinsActAsTidegateSays : Prop :=
  (∀ (s : State), s.dev.clk.tideOk = true → s.dev.bootStep ≠ 8 → After (.pfwFall) s fun t => t.dev.flag
      Reg.TG_STATUS_PFW = true ∧ t.dev.flag Reg.TG_EVENT_PFW_FALL = true) ∧
  (∀ (s : State), s.dev.powered = true → s.dev.safe = false → s.dev.bootStep = 8 → After (.pfwFall) s fun t =>
      t.dev.clk.powerFail = true) ∧
  (∀ (s : State), s.dev.clk.tideOk = true → s.dev.bootStep ≠ 8 → After (.tamper) s fun t => t.dev.flag
      Reg.TG_STATUS_TAMPER = true ∧ t.dev.flag Reg.TG_EVENT_TAMPER = true ∧ t.dev.clk.tamperLatched = true ∧ t.dev.rd
      Reg.TG_TAMPER_LO_TIME = s.dev.now.toNat % 2 ^ 32 ∧ t.dev.rd Reg.TG_TAMPER_HI_TIME = s.dev.now.toNat / 2 ^ 32) ∧
  (∀ (s : State), s.dev.clk.tideOk = true → s.dev.clk.mainOk = true → s.dev.clk.deep = true → After (.wakePin) s fun t
      => t.dev.rd Reg.TG_RST_CAUSE_CAUSE = 2 ∧ t.dev.clk.deep = false) ∧
  (∀ (s : State), s.dev.clk.tideOk = true → s.dev.clk.deep = false → After (.wakePin) s fun t => t.dev.flag
      Reg.TG_EVENT_WAKE = true ∧ SameUnits s.dev t.dev) ∧
  (∀ (s : State), s.dev.clk.tideOk = true → s.dev.clk.mainOk = true → s.dev.clk.deep = true → After (.sidebandWake) s
      fun t => t.dev.rd Reg.TG_RST_CAUSE_CAUSE = 2 ∧ t.dev.clk.deep = false) ∧
  (∀ (s : State), s.dev.clk.deep = false → After (.sidebandWake) s fun t => SameUnits s.dev t.dev ∧ SameRegs [] s.dev
      t.dev)

/-- VDD_TG valid restarts with cause TIDE_POR, device time 0 and every TG_ register at reset; VDD_TG lost does so and holds Tidegate off. The main supplies in range restart with cause MAIN_POR; lost, they hold the main reset. From step 2 on a link reset and an unresponsive management processor restart with causes 4 and 6, and CHIP_RESET at any time with cause 7. Entry to DEEP, its request's completion posted, drops the links and every unit. A byte to the answering I²C target sets its pointer and is acknowledged, a further byte written is not, and the bytes read are those of the map from the pointer on, which moves past them; a target that does not answer acknowledges nothing and keeps its pointer. A test-port code of Table 17-4a is taken, another acts as BYPASS, IDCODE selects 0x181609A7, and CHIP_RESET resets the device. With sixteen readings, THERM_N is asserted from 105 °C, released below 100 °C and else kept. A thermal shutdown holds the main reset and latches. -/
def Obligations.SuppliesResetsAndBoard : Prop :=
  (∀ (s : State), After (.tidePowerOn) s fun t => t.dev.clk.tideOk = true ∧ t.dev.clk.time = 0 ∧ t.dev.rd
      Reg.TG_RST_CAUSE_CAUSE = 0 ∧ t.dev.flag Reg.TG_STATUS_TIME_VALID = false) ∧
  (∀ (s : State), After (.tideSupplyLoss) s fun t => t.dev.clk.tideOk = false ∧ t.dev.clk.time = 0 ∧ t.dev.spins = []) ∧
  (∀ (s : State), s.dev.clk.tideOk = true → s.dev.clk.thermHold = false → After (.mainSupplyValid) s fun t =>
      t.dev.clk.mainOk = true ∧ t.dev.rd Reg.TG_RST_CAUSE_CAUSE = 1 ∧ t.dev.bootStep = 0) ∧
  (∀ (s : State), After (.mainSupplyLoss) s fun t => t.dev.clk.mainOk = false ∧ t.dev.spins = [] ∧ t.dev.servos = [] ∧
      t.dev.burns = [] ∧ t.dev.bootStep = 0) ∧
  (∀ (s : State), s.dev.powered = true → 2 ≤ s.dev.bootStep → After (.linkReset) s fun t => t.dev.rd
      Reg.TG_RST_CAUSE_CAUSE = 4 ∧ t.dev.sal.progs = []) ∧
  (∀ (s : State), s.dev.powered = true → 2 ≤ s.dev.bootStep → After (.mgmtWatchdog) s fun t => t.dev.rd
      Reg.TG_RST_CAUSE_CAUSE = 6 ∧ t.dev.sal.progs = []) ∧
  (∀ (s : State), s.dev.powered = true → After (.jtagChipReset) s fun t => t.dev.rd Reg.TG_RST_CAUSE_CAUSE = 7 ∧
      t.dev.clk.jtagIr = 0x10) ∧
  (∀ (s : State), s.dev.clk.entering = true → s.dev.deepAsked = false → After (.deepEntry) s fun t => t.dev.clk.deep =
      true ∧ t.dev.clk.entering = false ∧ t.dev.flag Reg.HIF_STATUS_LINK_UP = false ∧ t.dev.spins = []) ∧
  (∀ (s : State) (ptr : Byte) (data : List Byte) (reads : Nat), s.dev.i2cAnswers = true → After (.i2cPointerWrite
      { ptr := ptr, data := data, reads := reads }) s fun t => t.dev.clk.i2cPtr = (ptr.toNat + reads) % 256 ∧ Out.i2cAck
      true ∈ t.sent ∧ (data ≠ [] → Out.i2cAck false ∈ t.sent) ∧ (reads ≠ 0 → Out.i2cData ((List.range reads).map fun i
      => s.dev.i2cByte ((ptr.toNat + i) % 256)) ∈ t.sent)) ∧
  (∀ (s : State) (ptr : Byte) (data : List Byte) (reads : Nat), s.dev.i2cAnswers = false → After (.i2cPointerWrite
      { ptr := ptr, data := data, reads := reads }) s fun t => t.dev.clk.i2cPtr = s.dev.clk.i2cPtr ∧ Out.i2cAck false ∈
      t.sent) ∧
  (∀ (s : State) (code : Byte), code ≠ 0x10#8 → After (.jtagInstruction code) s fun t => t.dev.clk.jtagIr = (if
      jtagCodes.contains code.toNat then code.toNat else 0xFF) ∧ SameUnits s.dev t.dev ∧ (code = 2#8 → Out.jtagData 32
      0x181609A7 ∈ t.sent)) ∧
  (∀ (s : State), s.dev.powered = true → After (.jtagInstruction 0x10#8) s fun t => t.dev.rd Reg.TG_RST_CAUSE_CAUSE = 7
      ∧ t.dev.clk.jtagIr = 0x10) ∧
  (∀ (s : State) (l : List Int), s.dev.clk.mainOk = true → s.dev.clk.tideOk = true → s.dev.clk.thermHold = false →
      l.length = 16 → After (.thermalSensorUpdate l) s fun t => t.dev.clk.sensors = l ∧ t.dev.clk.thermN = (if 1680 ≤
      hottest l then true else if hottest l < 1600 then false else s.dev.clk.thermN)) ∧
  (∀ (s : State), s.dev.clk.mainOk = true → s.dev.clk.tideOk = true → After (.thermalShutdown) s fun t =>
      t.dev.clk.thermLatch = true ∧ t.dev.clk.thermHold = true ∧ t.dev.spins = [] ∧ t.dev.powered = false)

/-- Step 1 shows the fuses and straps, or stops on a failed integrity check. FBO stable brings up the sideband (step 2); the root PLL locks and the safe latch is cleared (step 3); the self-test passes or stops start-up (step 4); the arrays are invalidated (step 5); a march of mode 0, or a destructive one without a failing word, completes (step 6). -/
def Obligations.StartupStepsFollowTheTable : Prop :=
  (∀ (s : State) (role : Bool) (nid : BitVec 4), s.dev.atStep 0 = true → After (.fuseLoadDone role nid true) s fun t =>
      t.dev.bootStep = 1 ∧ t.dev.rd Reg.GLB_NODE_NID = s.dev.fuse.nidHi.toNat * 16 + nid.toNat ∧ t.dev.flag
      Reg.GLB_NODE_ROLE = role) ∧
  (∀ (s : State) (role : Bool) (nid : BitVec 4), s.dev.atStep 0 = true → After (.fuseLoadDone role nid false) s fun t =>
      t.dev.clk.stopped = true ∧ t.dev.bootStep = 0) ∧
  (∀ (s : State), s.dev.atStep 1 = true → 2 ≤ s.dev.clk.fboPeriods → s.dev.flag Reg.CLK_STATUS_FBO_STABLE = false →
      After (.fboStable) s fun t => t.dev.flag Reg.CLK_STATUS_FBO_STABLE = true ∧ t.dev.flag Reg.HIF_STATUS_SB_UP = true
      ∧ t.dev.bootStep = 2) ∧
  (∀ (s : State) (mv : Nat), s.dev.atStep 2 = true → s.dev.flag Reg.CLK_STATUS_REF_VALID = true → s.dev.clk.tripped =
      false → After (.rootPllLock mv) s fun t => t.dev.flag Reg.CLK_STATUS_ROOT_LOCK = true ∧ t.dev.safe = false ∧
      t.dev.flag Reg.CLK_STATUS_SOURCE = false ∧ t.dev.bootStep = 3 ∧ t.dev.clk.vddqMv = mv) ∧
  (∀ (s : State), s.dev.atStep 3 = true → After (.selfTestDone true) s fun t => t.dev.flag Reg.MEM_STATUS_SELFTEST_OK =
      true ∧ t.dev.bootStep = 4) ∧
  (∀ (s : State), s.dev.atStep 3 = true → After (.selfTestDone false) s fun t => t.dev.flag Reg.MEM_ERR_SELFTEST = true
      ∧ t.dev.clk.stopped = true ∧ t.dev.bootStep = 3) ∧
  (∀ (s : State) (rb : List (BitVec 64)), s.dev.atStep 4 = true → After (.invalidationDone rb) s fun t => t.dev.bootStep
      = 5) ∧
  (∀ (s : State) (l : List MemFault), s.dev.atStep 5 = true → s.dev.rd Reg.TG_BOOT_MARCH = 0 → After (.marchDone l) s
      fun t => t.dev.bootStep = 6) ∧
  (∀ (s : State), s.dev.atStep 5 = true → s.dev.rd Reg.TG_BOOT_MARCH = 1 → After (.marchDone []) s fun t =>
      t.dev.bootStep = 6 ∧ t.dev.flag Reg.MEM_STATUS_MARCH_DONE = true ∧ t.dev.flag Reg.LCS_STATUS_KEY_SUSPECT = false ∧
      t.dev.flash.boot.ways = 0)

/-- At step 7 the trained mainband is up at the lower of its rate and MAX_RATE. A fetched image that passes the checks of R586 and R588 runs; one that does not is rejected. With none offered, the image of the active slot runs if it passes; with no image in any slot the boot ROM stays and serves the admin queue. After step 8 the admin queue is ready. -/
def Obligations.FirmwareComesToRun : Prop :=
  (∀ (s : State) (rate : Fin 2) (rep : Bool), s.dev.atStep 6 = true → s.dev.clk.tripped = false → s.dev.flag
      Reg.HIF_STATUS_LINK_UP = false → After (.mainbandTrained rate false rep) s fun t => t.dev.flag
      Reg.HIF_STATUS_LINK_UP = true ∧ t.dev.rd Reg.HIF_STATUS_RATE = min rate.val (s.dev.rd Reg.HIF_CFG_MAX_RATE) + 1 ∧
      t.dev.flag Reg.HIF_STATUS_WIDTH = false ∧ t.dev.flag Reg.HIF_STATUS_REPAIRED = rep) ∧
  (∀ (s : State) (rate : Fin 2) (rep : Bool), s.dev.atStep 6 = true → s.dev.clk.tripped = false → s.dev.flag
      Reg.HIF_STATUS_LINK_UP = false → After (.mainbandTrained rate true rep) s fun t => t.dev.flag
      Reg.HIF_STATUS_LINK_UP = true ∧ t.dev.flag Reg.HIF_STATUS_WIDTH = true ∧ t.dev.flag Reg.HIF_ERR_WIDTH_DEGRADED =
      true) ∧
  (∀ (s : State) (h : FwHeader), s.dev.atStep 6 = true → s.dev.rd Reg.HIF_FW_CTL_STATUS = 1 → s.dev.imageOk h = true →
      After (.firmwareFetchDone (some h)) s fun t => t.dev.rd Reg.HIF_FW_CTL_STATUS = 2 ∧ t.dev.rd Reg.HIF_BOOT_IMAGE =
      1 ∧ t.dev.bootStep = 7 ∧ t.dev.rd Reg.GLB_FW_VER_VER = h.version.toNat ∧ t.dev.mgmt.running = some h) ∧
  (∀ (s : State) (h : FwHeader), s.dev.atStep 6 = true → s.dev.rd Reg.HIF_FW_CTL_STATUS = 1 → s.dev.imageOk h = false →
      After (.firmwareFetchDone (some h)) s fun t => t.dev.rd Reg.HIF_FW_CTL_STATUS = 3 ∧ t.dev.flag
      Reg.LCS_ERR_FW_REJECT = true) ∧
  (∀ (s : State) (x : FwSlot) (h : FwHeader), s.dev.atStep 6 = true → s.dev.flag Reg.HIF_STATUS_LINK_UP = true →
      s.dev.rd Reg.HIF_FW_CTL_STATUS = 0 → s.dev.flag Reg.HIF_BOOT_ROM = false → s.dev.flag Reg.HIF_FW_CTL_GO = false →
      s.dev.clk.onfOk = true → s.dev.mgmt.slots[s.dev.mgmt.nextActive]? = some x → x.valid = true → x.header = some h →
      s.dev.imageOk h = true → After (.firmwareOfferTimeout) s fun t => t.dev.bootStep = 7 ∧ t.dev.rd Reg.HIF_BOOT_IMAGE
      = 2 ∧ t.dev.mgmt.running = some h) ∧
  (∀ (s : State), s.dev.atStep 6 = true → s.dev.flag Reg.HIF_STATUS_LINK_UP = true → s.dev.rd Reg.HIF_FW_CTL_STATUS = 0
      → s.dev.flag Reg.HIF_BOOT_ROM = false → s.dev.flag Reg.HIF_FW_CTL_GO = false → s.dev.mgmt.slots = [FwSlot.empty,
      FwSlot.empty] → s.dev.mgmt.recovery = FwSlot.empty → s.dev.mgmt.nextActive < 2 → After (.firmwareOfferTimeout) s
      fun t => t.dev.flag Reg.HIF_BOOT_ROM = true ∧ t.dev.flag Reg.QUE_STATUS_AQ_READY = true ∧ t.dev.bootStep = 6) ∧
  (∀ (s : State) (rd : SalternScan), s.dev.atStep 7 = true → After (.firmwareInitDone rd) s fun t => t.dev.flag
      Reg.QUE_STATUS_AQ_READY = true)

/-- A codeword of at most 15 symbol errors ends the lane's run of uncorrectable ones and is counted; one of more sets FEC_UNCORR and is counted. A control block of a reserved code is discarded; an SFS whose next_cell differs from the running delineation sets DELIN and becomes the running one, and gives the front-end port. At most two upstream lanes that meet the loss rule, on an UP port with none lost, set LANE_LOSS and make it DEGRADED; the last lane retrained, up or down, makes it UP; a retrain that fails starts full training. -/
def Obligations.LanesAndCodewords : Prop :=
  (∀ (s : State) (p : Pk) (lane : Fin 8) (n : Nat) (cells : List (Fin 4)), s.dev.portState p ≠ 0 → s.dev.portState p ≠ 4
      → n ≤ 15 → After (.codewordReceive p lane n cells) s fun t => (t.dev.port p).runs = (s.dev.port p).runs.set lane 0
      ∧ t.dev.rd Reg.SOR_FEC_CORR_COUNT p = min (2 ^ Reg.SOR_FEC_CORR_COUNT.w - 1) (s.dev.rd Reg.SOR_FEC_CORR_COUNT p +
      n)) ∧
  (∀ (s : State) (p : Pk) (lane : Fin 8) (n : Nat), s.dev.portState p ≠ 0 → s.dev.portState p ≠ 4 → 15 < n → After
      (.codewordReceive p lane n []) s fun t => t.dev.flag Reg.SOR_ERR_FEC_UNCORR p = true ∧ (t.dev.port p).runs =
      (s.dev.port p).runs.set lane ((s.dev.port p).runs.getD lane 0 + 1)) ∧
  (∀ (s : State) (p : Pk) (lane : Fin 8) (v : BitVec 256) (u rtt skew : Nat), s.dev.portState p ≠ 0 → s.dev.portState p
      ≠ 4 → v.toNat % 256 ≠ 0xE1 → v.toNat % 256 ≠ 0x1E → After (.controlBlockReceive p lane v u rtt skew) s fun t =>
      (t.dev.port p).discards = (s.dev.port p).discards + 1 ∧ t.dev.rd Reg.SOR_STATUS_STATE p = s.dev.rd
      Reg.SOR_STATUS_STATE p) ∧
  (∀ (s : State) (p : Pk) (lane : Fin 8) (v : BitVec 256) (u rtt skew n : Nat), s.dev.portUp p = true → v.toNat % 256 =
      0xE1 → (s.dev.port p).delin.getD lane none = some n → (n + u) % 16 ≠ v.toNat / 2 ^ 60 % 16 → After
      (.controlBlockReceive p lane v u rtt skew) s fun t => t.dev.flag Reg.SOR_ERR_DELIN p = true ∧ (t.dev.port
      p).fePort = v.toNat / 2 ^ 11 % 2 ∧ (t.dev.port p).delin = (s.dev.port p).delin.set lane (some (v.toNat / 2 ^ 60 %
      16))) ∧
  (∀ (s : State) (p : Pk) (up : BitVec 8), s.dev.portState p = 2 → (s.dev.port p).lostUp = 0#8 → (s.dev.port p).lostDn =
      0#2 → up ≠ 0#8 → (lanesOf 8 up.toNat).length ≤ 2 → ((lanesOf 8 up.toNat).all (s.dev.port p).laneGone) = true →
      After (.laneLoss p up 0) s fun t => t.dev.portState p = 3 ∧ t.dev.flag Reg.SOR_ERR_LANE_LOSS p = true ∧
      (t.dev.port p).lostUp = up) ∧
  (∀ (s : State) (p : Pk) (lane : Fin 8), s.dev.laneRetraining p false lane = true → (s.dev.port p).lostUp = 1#8 <<<
      lane.val → (s.dev.port p).lostDn = 0#2 → After (.laneRetrainDone p false lane) s fun t => t.dev.portState p = 2 ∧
      (t.dev.port p).lostUp = 0#8 ∧ (t.dev.rd Reg.SOR_STATUS_UP_LOCK p).testBit lane = true) ∧
  (∀ (s : State) (p : Pk) (lane : Fin 8), s.dev.laneRetraining p true lane = true → (s.dev.port p).lostUp = 0#8 →
      (s.dev.port p).lostDn = 1#2 <<< lane.val → s.dev.rd Reg.SOR_CFG_TEST p = 0 → After (.laneRetrainDone p true lane)
      s fun t => t.dev.portState p = 2 ∧ (t.dev.port p).lostDn = 0#2 ∧ Out.down p (.training (2 ^ lane.val) 4) ∈ t.sent)
      ∧
  (∀ (s : State) (p : Pk) (down : Bool) (lane : Fin 8), s.dev.laneRetraining p down lane = true → s.dev.rd
      Reg.SOR_CFG_TEST p = 0 → After (.laneRetrainTimeout p down lane) s fun t => t.dev.portState p = 1 ∧ (t.dev.port
      p).step = 1 ∧ Out.down p (.training 3 1) ∈ t.sent)

/-- In TRAIN, a completed step of 1 to 4 begins the next and sends its pattern on both lanes, and the third restarts the superframe count at 0; step 5 with numbers as expected, no lane lost, RTT of at most 400 ns and skew of at most 10 ns sends IDENTIFY and begins step 6; the identity answered makes the port UP and is shown in SOR_FE_ID. A step that exceeds its bound sets TRAIN_FAIL and, with tries left, starts training again. -/
def Obligations.PortTraining : Prop :=
  (∀ (s : State) (p : Pk) (r : TrainReport), s.dev.portState p = 1 → 1 ≤ (s.dev.port p).step → (s.dev.port p).step ≤ 4 →
      s.dev.rd Reg.SOR_CFG_TEST p = 0 → After (.trainingStepDone p r) s fun t => (t.dev.port p).step = (s.dev.port
      p).step + 1 ∧ t.dev.portState p = 1 ∧ Out.down p (.training 3 ((s.dev.port p).step + 1)) ∈ t.sent ∧ ((s.dev.port
      p).step = 3 → (t.dev.port p).sf = 0)) ∧
  (∀ (s : State) (p : Pk) (r : TrainReport), s.dev.portState p = 1 → (s.dev.port p).step = 5 → (s.dev.port p).lostDn =
      0#2 → r.numbersOk = true → r.rtt ≤ 22500 → r.skew ≤ 562 → s.dev.rd Reg.SOR_CFG_TEST p = 0 → After
      (.trainingStepDone p r) s fun t => (t.dev.port p).step = 6 ∧ Out.down p (.control 0 (s.dev.port p).nextTag
      .identify) ∈ t.sent ∧ t.dev.rd Reg.SOR_TIMING_RTT p = r.rtt ∧ t.dev.rd Reg.SOR_TIMING_SKEW p = r.skew) ∧
  (∀ (s : State) (p : Pk) (r : TrainReport), s.dev.portState p = 1 → (s.dev.port p).step = 6 → After (.trainingStepDone
      p r) s fun t => t.dev.portState p = 2 ∧ t.dev.rd Reg.SOR_FE_ID_LO_ID p = r.identity.toNat % 2 ^ 32 ∧ t.dev.rd
      Reg.SOR_FE_ID_HI_ID p = r.identity.toNat / 2 ^ 32 ∧ (t.dev.port p).step = 0) ∧
  (∀ (s : State) (p : Pk) , s.dev.portState p = 1 → (s.dev.port p).step ≠ 0 → (s.dev.port p).tries < s.dev.rd
      Reg.SOR_CFG_TRAIN_RETRIES p → s.dev.rd Reg.SOR_CFG_TEST p = 0 → After (.trainingStepTimeout p) s fun t =>
      t.dev.flag Reg.SOR_ERR_TRAIN_FAIL p = true ∧ t.dev.portState p = 1 ∧ (t.dev.port p).step = 1 ∧ (t.dev.port
      p).tries = (s.dev.port p).tries + 1 ∧ Out.down p (.training 3 1) ∈ t.sent)

/-- On a port that carries traffic and owns its front-end, from a lane in use: the cell of the expected sequence of an idle spot advances its sequence and its sample index by 64, and that of a running spot passes its samples to the channel; the first copy of a SERVO cell of the tick's superframe supplies its channel; a CURRENT cell gives the slot and the four currents; a status cell sets DN_LOCK, FE_WD and the laser faults; the response of status 0 to OWN RELEASE leaves OWNER at 0 and the command answered. -/
def Obligations.UpstreamCells : Prop :=
  (∀ (s : State) (p : Pk) (lane : Fin 8) (h : BitVec 16) (l : List Byte) (n : Nat), s.dev.streams p = true → (s.dev.port
      p).lostUp.getLsbD lane = false → h.toNat / 2 ^ 13 = 1 → (s.dev.spot (32 * p + 4 * lane.val + h.toNat / 2 ^ 11 %
      4)).next = some (h.toNat % 1024, n) → s.dev.mode (32 * p + 4 * lane.val + h.toNat / 2 ^ 11 % 4) = 0 → After
      (.sampleCellReceive p lane h l) s fun t => (t.dev.spot (32 * p + 4 * lane.val + h.toNat / 2 ^ 11 % 4)).next = some
      ((h.toNat % 1024 + 1) % 1024, n + 64)) ∧
  (∀ (s : State) (p : Pk) (lane : Fin 8) (h : BitVec 16) (l : List Byte) (n g : Nat), s.dev.streams p = true →
      (s.dev.port p).lostUp.getLsbD lane = false → h.toNat / 2 ^ 13 = 1 → g = 32 * p + 4 * lane.val + h.toNat / 2 ^ 11 %
      4 → (s.dev.spot g).next = some (h.toNat % 1024, n) → s.dev.mode g ≠ 0 → s.dev.mode g ≠ 4 → After
      (.sampleCellReceive p lane h l) s fun t => t.dev.spots = ((s.fresh.setSpot g
      { s.dev.spot g with next := some ((h.toNat % 1024 + 1) % 1024, n) }).spotGroups g (cellIns l false
      (h.toNat.testBit 10))).spots) ∧
  (∀ (s : State) (p : Pk) (lane : Fin 8) (h : BitVec 16) (l : List (BitVec 16)), s.dev.streams p = true → (s.dev.port
      p).lostUp.getLsbD lane = false → h.toNat / 2 ^ 13 = 2 → (lane.val = h.toNat / 2 ^ 10 % 8 ∨ lane.val = (h.toNat / 2
      ^ 10 % 8 + 4) % 8) → (h.toNat + 1) % 512 = (s.dev.port p).sf % 512 → ((s.dev.port p).servo.any fun q => q.1 == 2 *
      (h.toNat / 2 ^ 10 % 8) + h.toNat / 2 ^ 9 % 2) = false → After (.servoCellReceive p lane h l) s fun t =>
      (t.dev.port p).servo = (s.dev.port p).servo ++ [(2 * (h.toNat / 2 ^ 10 % 8) + h.toNat / 2 ^ 9 % 2, l.map
      BitVec.toInt)]) ∧
  (∀ (s : State) (p : Pk) (lane : Fin 8) (v : BitVec 64), s.dev.streams p = true → (s.dev.port p).lostUp.getLsbD lane =
      false → v.toNat / 2 ^ 13 % 8 = 3 → After (.currentCellReceive p lane v) s fun t => (t.dev.port p).curSlot = some
      (v.toNat % 8192) ∧ (t.dev.port p).cur = (List.range 4).map fun w => ofBits 12 (v.toNat / 2 ^ (16 + 12 * w))) ∧
  (∀ (s : State) (p : Pk) (v : BitVec 96), s.dev.portUp p = true → s.dev.ownerView p (v.toNat / 2 ^ 16 % 4) = s.dev.rd
      Reg.SOR_STATUS_OWNER p → v.toNat / 2 ^ 18 % 2 = 0 → v.toNat / 2 ^ 23 % 256 = 0 → After (.statusCellReceive p v) s
      fun t => t.dev.rd Reg.SOR_STATUS_DN_LOCK p = v.toNat / 2 ^ 20 % 4 ∧ t.dev.flag Reg.SOR_STATUS_FE_WD p = false ∧
      (t.dev.port p).laserFault = BitVec.ofNat 9 (v.toNat / 2 ^ 44) ∧ t.dev.rd Reg.SOR_STATUS_OWNER p = s.dev.rd
      Reg.SOR_STATUS_OWNER p) ∧
  (∀ (s : State) (p : Pk) (v : BitVec 88) (w : CtlWait), s.dev.portUp p = true → s.dev.owns p = true → (s.dev.port
      p).ctl = [w] → w.op = .ownRelease → w.tag = v.toNat % 256 → v.toNat / 2 ^ 8 % 256 = 5 → v.toNat / 2 ^ 16 % 256 = 0
      → After (.responseCellReceive p v) s fun t => t.dev.owns p = false ∧ t.dev.rd Reg.SOR_STATUS_OWNER p = 0 ∧
      (t.dev.port p).ctl = []) ∧
  (∀ (s : State) (p : Pk) (tag : Byte) (w : CtlWait), s.dev.portUp p = true → (s.dev.port p).ctl = [w] → w.tag =
      tag.toNat → w.tries < 2 → s.dev.rd Reg.SOR_CFG_TEST p = 0 → After (.controlTimeout p tag) s fun t => t.dev.flag
      Reg.SOR_ERR_CMD_TIMEOUT p = true ∧ (t.dev.port p).ctl = [{ w with tries := w.tries + 1 }] ∧ Out.down p (.control
      (if (s.dev.port p).lostDn.getLsbD 0 then 1 else 0) w.tag w.op) ∈ t.sent)

/-- On an UP or DEGRADED port in no test, a superframe counts. Of a port that does not own its front-end the SFS, with its number, offset and next_cell, leaves on each lane in use, and no cell does. An owner whose engine is out of OFF, and that burns nothing, sends the ACTUATOR cell that its servo engine computed; one that misses its deadline sends a cell with hold, and the miss opens a window of row 3. -/
def Obligations.DownstreamSuperframe : Prop :=
  (∀ (s : State) (p : Pk) (late : BitVec 8) (m : Bool), s.dev.portUp p = true → s.dev.rd Reg.SOR_CFG_TEST p = 0 →
      s.dev.owns p = false → (drain (sfsUnits ((s.dev.port p).sf + 1)) ((s.dev.port p).queue.getD 0 [])).1 < 16 → (drain
      (sfsUnits ((s.dev.port p).sf + 1)) ((s.dev.port p).queue.getD 1 [])).1 < 16 → After (.downstreamSuperframe p late
      m) s fun t => (t.dev.port p).sf = (s.dev.port p).sf + 1 ∧ ∀ lane c, (lane < 2 → (s.dev.port p).lostDn.getLsbD lane
      = false → Out.down p (.sfs lane 0xE1 (((s.dev.port p).sf + 1) % 2 ^ 32) (sfsOffset ((s.dev.port p).sf + 1)) (drain
      (sfsUnits ((s.dev.port p).sf + 1)) ((s.dev.port p).queue.getD lane [])).1) ∈ t.sent) ∧ (Out.down p c ∈ t.sent → ∃
      l n o x, c = .sfs l 0xE1 n o x)) ∧
  (∀ (s : State) (p : Pk) (late : BitVec 8), s.dev.portUp p = true → s.dev.rd Reg.SOR_CFG_TEST p = 0 → s.dev.owns p =
      true → s.dev.svoState p ≠ 0 → After (.downstreamSuperframe p late true) s fun t => Out.down p (.actuator
      (s.dev.downLanes p) (((s.dev.port p).sf + 1) % 8192) true (s.dev.svoRuns p) false 0 0 0 0 0 0 0 0) ∈ t.sent ∧
      (mget t.dev.windows none (3 * 65536 + p.val)).isSome = true ∧ (t.dev.port p).sf = (s.dev.port p).sf + 1) ∧
  (∀ (s : State) (p : Pk) (late : BitVec 8), s.dev.portUp p = true → s.dev.rd Reg.SOR_CFG_TEST p = 0 → s.dev.owns p =
      true → s.dev.svoState p ≠ 0 → s.dev.burn p = none → After (.downstreamSuperframe p late false) s fun t => Out.down
      p (s.dev.actuatorCell p ((s.dev.port p).sf + 1)) ∈ t.sent ∧ (t.dev.port p).lastCell = some (s.dev.actuatorCell p
      ((s.dev.port p).sf + 1)))

/-- A running spot with no cell for 2 µs is STALLED, and STALL is set. A defect that ends, none of its sources held, leaves TRACK with boosted steps for 1,024 samples, and one of at most FLY_MAX with acquisition gains; the ends of both clear them. A flywheel longer than FLY_MAX makes the timing uncertain and sets FLY_EXPIRE. A wedge gap advances μ by the wedge and the segment by one, from 512 to 1. An anchor within 64 samples of its expected place takes a channel in ACQUIRE to TRACK with its timing certain. A channel 224 positions ahead of its canceller while a neighbour has not written what it needs goes on as one forced cancelling leaves the spots. -/
def Obligations.ReadChannelEvents : Prop :=
  (∀ (s : State) (g : Sys2Proof.Spot) , s.dev.streams (g / 32) = true → s.dev.mode g ≠ 0 → s.dev.mode g ≠ 4 → After
      (.spotStall g) s fun t => t.dev.mode g = 4 ∧ t.dev.flag Reg.SOR_ERR_STALL (g / 32) = true ∧ (t.dev.spot g).wr =
      []) ∧
  (∀ (s : State) (g : Sys2Proof.Spot) , s.dev.mode g = 3 → 4 * s.dev.rd Reg.RCH_DEFECT_HANGOVER ≤ (s.dev.spot g).hang →
      (s.dev.spot g).keep = 0 → (s.dev.spot g).frz = false → After (.defectEnd g) s fun t => t.dev.mode g = 2 ∧
      (t.dev.spot g).boost = 1025 ∧ ((s.dev.spot g).defLen ≤ s.dev.rd Reg.RCH_FLY_FLY_MAX → (t.dev.spot g).acq = 257)) ∧
  (∀ (s : State) (g : Sys2Proof.Spot) , (s.dev.spot g).boost = 1 → After (.resumeBoostEnd g) s fun t => t.dev.spot g =
      { s.dev.spot g with boost := 0 }) ∧
  (∀ (s : State) (g : Sys2Proof.Spot) , (s.dev.spot g).acq = 1 → After (.acqGainEnd g) s fun t => t.dev.spot g =
      { s.dev.spot g with acq := 0 }) ∧
  (∀ (s : State) (g : Sys2Proof.Spot) , s.dev.mode g = 3 → s.dev.rd Reg.RCH_FLY_FLY_MAX < (s.dev.spot g).defLen →
      s.dev.flag Reg.RCH_SP_STATE_TIMING_UNCERTAIN g = false → After (.flywheelExpiry g) s fun t => t.dev.flag
      Reg.RCH_SP_STATE_TIMING_UNCERTAIN g = true ∧ t.dev.flag Reg.RCH_ERR_FLY_EXPIRE = true) ∧
  (∀ (s : State) (g : Sys2Proof.Spot) (c : Bool), (s.dev.mode g = 2 ∨ s.dev.mode g = 3) → (s.dev.spot g).gap = true →
      After (.wedgeGap g none c) s fun t => (t.dev.spot g).gap = false ∧ (t.dev.spot g).mu = (s.dev.spot g).mu +
      wedgeSpan (s.dev.rd Reg.RCH_SP_STATE_ZONE g) (s.dev.spot g).om ∧ (t.dev.spot g).seg = (if (s.dev.spot g).seg = 512
      then 1 else (s.dev.spot g).seg + 1)) ∧
  (∀ (s : State) (g : Sys2Proof.Spot) (off : Int) (c : Bool), s.dev.mode g = 1 → off.natAbs ≤ 64 * 65536 → After
      (.wedgeGap g (some off) c) s fun t => t.dev.mode g = 2 ∧ t.dev.flag Reg.RCH_SP_STATE_TIMING_UNCERTAIN g = false ∧
      (t.dev.spot g).seg = (s.dev.rd Reg.SVO_WEDGE_INDEX (g / 32) + 1) % 512 + 1) ∧
  (∀ (s : State) (g : Sys2Proof.Spot) (n : Fin 4) (a : Int × Int × Bool) (l : List (Int × Int × Bool)) (h : Nat),
      s.dev.spotRuns g = true → s.dev.spotRuns h = true → (n.val, h) ∈ neighbours g → g.val < h → (s.dev.spot g).fifo =
      a :: l → (s.dev.spot g).canc + 224 ≤ a.1 → s.dev.written h ((s.dev.spot g).canc + 2) = false → After
      (.alignTimeout g n) s fun t => t.dev.spots = (((s.fresh.rchErr Reg.RCH_ERR_ALIGN g).bump
      Reg.RCH_SP_CNT_ALIGN_ALIGN ((neighbours g).filter fun q => decide (g.val < q.2) && s.dev.spotRuns q.2 &&
      !s.dev.written q.2 ((s.dev.spot g).canc + 2)).length g).cancel g true 512).spots)

/-- The oldest complete frame of a spot becomes a pass-1 job with its zone's deadline. An idle engine in service takes the job of the earliest deadline and loads it; the end of loading begins detection, whose end begins iteration. A hard stop of a job not yet in its output stage sets HARD_STOP, records a miss of row 4 and takes the job to that stage. A joint wait that ends makes the spot's joint jobs eligible. Two are stated of fill frames that no draw check waits for, which belong to no cluster: a stage whose checks fail sets ENG_FAULT and takes the engine out of service, and dropping a job sets DROP, counts it and records a miss. -/
def Obligations.DecoderPoolJobs : Prop :=
  (∀ (s : State) (g : Sys2Proof.Spot) (f : SFrame) (l : List SFrame), (s.dev.spot g).full = f :: l → After
      (.frameHandover g) s fun t => t.dev.yar.jobs.map (·.fr) = s.dev.yar.jobs.map (·.fr) ++ [f] ∧ t.dev.yar.jobs.map
      (·.dl) = s.dev.yar.jobs.map (·.dl) ++ [f.deadline] ∧ (t.dev.spot g).full = l ∧ (t.dev.spot g).away = ((s.dev.spot
      g).away.filter fun q => q.1 != f.slot) ++ [(f.slot, f.deadline)]) ∧
  (∀ (s : State) (e : Eng) (j : Job) (l : List Job), s.dev.inService e = true → s.dev.work e = none →
      (s.dev.yar.jobs.filter fun j => j.elig).foldl (fun l j => insJob j l) [] = j :: l → j.joint = false → After
      (.engineJobStart e) s fun t => (t.dev.work e).map (fun w => (w.job, w.stage, w.ends)) = some (j, .load,
      s.dev.clk.cyc + 586) ∧ t.dev.yar.jobs = s.dev.yar.jobs.erase j) ∧
  (∀ (s : State) (e : Eng) (w : Work), s.dev.work e = some w → w.stage = .load → After (.engineStageEnd e false) s fun t
      => t.dev.work e = some { w with stage := .detect, ends := s.dev.clk.cyc + 1200 }) ∧
  (∀ (s : State) (e : Eng) (w : Work), s.dev.work e = some w → w.stage = .detect → After (.engineStageEnd e false) s fun
      t => (t.dev.work e).map (fun q => (q.job, q.stage, q.iters)) = some (w.job, .iterate, w.iters)) ∧
  (∀ (s : State) (e : Eng) (w : Work), s.dev.work e = some w → roleOf (zoneOf (faBand w.job.fr.addr)) (frameNumber
      (zoneOf (faBand w.job.fr.addr)) (faTrack w.job.fr.addr) (faFrame w.job.fr.addr)) = 31 → w.job.fr.draw = false →
      After (.engineStageEnd e true) s fun t => t.dev.work e = none ∧ t.dev.inService e = false ∧ t.dev.flag
      Reg.YAR_ERR_ENG_FAULT = true) ∧
  (∀ (s : State) (g : Sys2Proof.Spot) , After (.jointWaitExpiry g) s fun t => t.dev.yar.jobs = s.dev.yar.jobs.map fun j
      => if j.joint = true ∧ j.fr.spot = g.val then { j with elig := true } else j) ∧
  (∀ (s : State) (g : Sys2Proof.Spot) (j : Job), s.dev.pass1.find? (fun j => j.fr.spot == g.val) = some j → roleOf
      (zoneOf (faBand j.fr.addr)) (frameNumber (zoneOf (faBand j.fr.addr)) (faTrack j.fr.addr) (faFrame j.fr.addr)) = 31
      → j.fr.draw = false → After (.jobDrop g) s fun t => t.dev.yar.jobs = s.dev.yar.jobs.erase j ∧ t.dev.flag
      Reg.YAR_ERR_DROP = true ∧ t.dev.rd Reg.YAR_CNT_DROPPED_COUNT = min (2 ^ Reg.YAR_CNT_DROPPED_COUNT.w - 1) (s.dev.rd
      Reg.YAR_CNT_DROPPED_COUNT + 1) ∧ (mget t.dev.windows none (4 * 65536 + g.val)).isSome = true) ∧
  (∀ (s : State) (e : Eng) (w : Work), s.dev.work e = some w → w.stage ≠ .output → After (.hardStop e) s fun t =>
      t.dev.work e = some { w with stage := .output, ends := s.dev.clk.cyc + Stage.output.cost, stopped := true } ∧
      t.dev.flag Reg.YAR_ERR_HARD_STOP = true ∧ (mget t.dev.windows none (4 * 65536 + w.job.fr.spot)).isSome = true)

/-- A cluster whose timeout leaves more than two erasures, with an attempt left and a place free, is held for a re-read with one more attempt. A cluster not assembled in time, with an attempt left, sets ASSEMBLY_MISS and CLU_FAIL and is recorded as a miss of row 6. The end of a miss window closes it. -/
def Obligations.ClusterTimersAndMissWindows : Prop :=
  (∀ (s : State) (p : Pk) (a : Word) (c : Clu), s.dev.clu p a.toNat = some c → c.held = false → s.dev.cluClosed p
      a.toNat = false → c.acc = true → 2 < (c.bad ++ ((List.range 18).filter fun r => !c.got.contains r &&
      !c.bad.contains r)).length → c.attempt + 1 ≤ s.dev.rd Reg.YAR_OUTER_REREAD_MAX → (s.dev.yar.clus.filter fun q =>
      q.held && !(q.pk == c.pk && q.addr == c.addr)).length < 256 → After (.clusterTimeout p a) s fun t => (t.dev.clu p
      a.toNat).map (fun q => (q.held, q.attempt, q.bad)) = some (true, c.attempt + 1, c.bad ++ ((List.range 18).filter
      fun r => !c.got.contains r && !c.bad.contains r)) ∧ t.dev.flag Reg.YAR_ERR_CLU_FAIL = true) ∧
  (∀ (s : State) (p : Pk) (a : Word) (c : Clu), s.dev.clu p a.toNat = some c → c.attempt + 1 ≤ s.dev.rd
      Reg.YAR_OUTER_REREAD_MAX → After (.assemblyDeadlineMiss p a) s fun t => t.dev.flag Reg.YAR_ERR_ASSEMBLY_MISS =
      true ∧ t.dev.flag Reg.YAR_ERR_CLU_FAIL = true ∧ (mget t.dev.windows none (6 * 65536 + p.val)).isSome = true) ∧
  (∀ (s : State) (r : Fin 8) (i : Nat) (e : BitVec 64 × Nat), mget s.dev.windows none (r.val * 65536 + i) = some e →
      After (.deadlineWindowEnd r i) s fun t => mget t.dev.windows none (r.val * 65536 + i) = none)

/-- A calibrated pickup on the band's track, not burning, begins a read revolution. A pickup that may burn, on the first track of the band that is presented to it, begins the burn of that band. The first revolution of a burn fixes its start slot and writes; the last ends with four revolutions made; a read revolution that ends is over. Writing that resumes at the next slot has its write spot on. A band written in four revolutions ends its burn. -/
def Obligations.BandReadsAndBurns : Prop :=
  (∀ (s : State) (p : Pk) (layer : Fin 4) (b slot : Nat) (x : Disc), s.dev.disc (spindleOf p) = some x → s.dev.burn p =
      none → b < bandCount → (s.dev.calPk p).ready = true → (s.dev.calPk p).run = none → s.dev.overBand p layer b 16 =
      true → s.dev.clocked 4 = true → After (.bandReadStart p layer b slot) s fun t => t.dev.readRev p = some
      { disc := x.id, side := sideOf p, layer := layer, band := b, slot := slot % framesOf (zoneOf b) }) ∧
  (∀ (s : State) (p : Pk) (x : Disc) (v m layer b : Nat) (cl : List (Nat × List (List Byte))), s.dev.disc (spindleOf p)
      = some x → s.dev.mayBurn p = true → s.dev.presented p x = some (v, m, layer, b, cl) → s.dev.calHolds p = false →
      s.dev.burnBad v (sideOf p) layer b = [] → s.dev.overBand p layer b 16 = true → s.dev.clocked 6 = true → After
      (.bandBurnStart p []) s fun t => (t.dev.burn p).map (fun q => (q.disc, q.vol, q.member)) = some (x.id, v, m) ∧
      (t.dev.burn p).map (fun q => (q.layer, q.band, q.rev, q.on)) = some (layer, b, 0, false) ∧ t.dev.flag
      Reg.SVO_STATE_BURN p = true ∧ t.dev.readRev p = none) ∧
  (∀ (s : State) (p : Pk) (slot : Nat) (b : Burn), s.dev.burn p = some b → b.on = false → b.rev = 0 → b.slot0 = none →
      s.dev.svoState p = 5 → s.dev.verified p = true → After (.revolutionStart p slot) s fun t => (t.dev.burn p).map
      (fun q => (q.on, q.slot0, q.rev)) = some (true, some (slot % framesOf (zoneOf b.band)), 0)) ∧
  (∀ (s : State) (p : Pk) (b : Burn), s.dev.burn p = some b → b.on = true → b.rev = 3 → s.dev.stillReads ((List.range
      8).map fun w => 32 * p.val + 4 * w) = false → (b.spots.all fun x => x.ends.isEmpty && x.buf.isEmpty) = true →
      After (.revolutionEnd p) s fun t => t.dev.burn p = some { b with on := false, rev := 4 }) ∧
  (∀ (s : State) (p : Pk) (r : ReadRev), s.dev.burn p = none → s.dev.readRev p = some r → s.dev.stillReads (spotsOf p) =
      false → After (.revolutionEnd p) s fun t => t.dev.readRev p = none) ∧
  (∀ (s : State) (p : Pk) (w : Fin 8) (slot : Nat) (b : Burn), s.dev.burn p = some b → b.on = true → (b.ws w).off = true
      → b.spots.length = 8 → (s.dev.svo p).we = true → (s.dev.port p).lostDn.getLsbD (w.val / 4) = false → (slot +
      framesOf (zoneOf b.band) - b.slotAt 0) % framesOf (zoneOf b.band) = (b.ws w).enc → After (.writeResume p w slot) s
      fun t => (t.dev.burn p).map (fun q => (q.ws w).off) = some false) ∧
  (∀ (s : State) (p : Pk) (b : Burn), s.dev.burn p = some b → 4 ≤ b.rev → After (.bandBurnEnd p) s fun t => t.dev.burn p
      = none ∧ t.dev.flag Reg.SVO_STATE_BURN p = false)

/-- A tick of a move outside a burn advances its profile by one, ends a run of tick misses and uses up the channels. A tick that misses its cutoff sets TICK_MISS and its miss record, and the second in a row enters HOLD. BRIDGE_MAX ticks in BRIDGE and MISS_MAX without a focus channel enter HOLD with their causes. After FAULT_MISS tick misses write_en is withdrawn and the ACTUATOR cells carry hold until the watchdog expires. A loop at OUT_LIM for 64 ticks sets SAT. -/
def Obligations.ServoTicks : Prop :=
  (∀ (s : State) (p : Pk) , s.dev.svoState p = 3 → (s.dev.svo p).phase = .profile → s.dev.svoBurn p = false → (s.dev.svo
      p).leaving = 0 → s.dev.clocked 7 = true → After (.tickCompute p) s fun t => (t.dev.svo p).mvK = (s.dev.svo p).mvK
      + 1 ∧ (t.dev.svo p).misses = 0 ∧ (t.dev.port p).servo = []) ∧
  (∀ (s : State) (p : Pk) , s.dev.svoRuns p = true → (s.dev.svo p).misses = 0 → s.dev.clocked 7 = true → After
      (.tickCutoff p) s fun t => (t.dev.svo p).misses = 1 ∧ t.dev.flag Reg.SVO_ERR_TICK_MISS p = true ∧ (mget
      t.dev.windows none p.val).isSome = true ∧ t.dev.svoState p = s.dev.svoState p) ∧
  (∀ (s : State) (p : Pk) , s.dev.svoRuns p = true → s.dev.svoState p ≠ 6 → (s.dev.svo p).misses = 1 → s.dev.clocked 7 =
      true → After (.tickCutoff p) s fun t => t.dev.svoState p = 6 ∧ (t.dev.svo p).cause = 1 ∧ t.dev.flag
      Reg.SVO_ERR_HOLD p = true) ∧
  (∀ (s : State) (p : Pk) (l : Fin 5), s.dev.svoRuns p = true → s.dev.svoState p ≠ 6 → s.dev.rd Reg.SVO_PLAUS_BRIDGE_MAX
      p ≤ ((s.dev.svo p).loop l).run → 0 < ((s.dev.svo p).loop l).run → After (.bridgeLimit p l) s fun t =>
      t.dev.svoState p = 6 ∧ (t.dev.svo p).cause = 2 ∧ t.dev.flag Reg.SVO_ERR_HOLD p = true) ∧
  (∀ (s : State) (p : Pk) , s.dev.svoRuns p = true → s.dev.svoState p ≠ 6 → 0 < (s.dev.svo p).chRun → s.dev.rd
      Reg.SVO_PLAUS_MISS_MAX p ≤ (s.dev.svo p).chRun → After (.missMaxExpiry p) s fun t => t.dev.svoState p = 6 ∧
      (t.dev.svo p).cause = 3 ∧ t.dev.flag Reg.SVO_ERR_HOLD p = true) ∧
  (∀ (s : State) (p : Pk) , s.dev.svoRuns p = true → 0 < (s.dev.svo p).misses → s.dev.rd Reg.SVO_HOLD_FAULT_MISS p ≤
      (s.dev.svo p).misses → After (.faultMissExpiry p) s fun t => (t.dev.svo p).faulting = true ∧ (t.dev.svo p).we =
      false) ∧
  (∀ (s : State) (p : Pk) (l : Fin 5), s.dev.svoRuns p = true → 64 ≤ ((s.dev.svo p).loop l).sat → After
      (.outputSaturation p l) s fun t => t.dev.flag Reg.SVO_ERR_SAT p = true)

/-- A settled landing enters ON_TRACK (stated with no command in progress). HOLD with its cause absent for 4 ticks goes to FOCUSED and searches; HOLD_MAX with focus plausible and T* valid within 32 tracks moves there. A good wedge in ON_TRACK gives the index and the time and ends a run of missing wedges; a missing one is bridged and counted. SLIP_WEDGES off the target go back to a T* within 32 tracks; WEDGE_MISS_MAX missing ones begin a search, and one without outcome for a revolution ends in HOLD. -/
def Obligations.ServoTracking : Prop :=
  (∀ (s : State) (p : Pk) , s.dev.svoState p = 3 → (s.dev.svo p).phase = .land → s.dev.rd Reg.SVO_TRK_THR_ON_TRACK_TICKS
      p ≤ (s.dev.svo p).teRun → (s.dev.svoBurn p = false ∨ s.dev.verified p = true) → ((s.dev.svo p).own = true ∨ 2 ≤
      (s.dev.svo p).pair) → s.dev.que.ctxs = [] → After (.onTrackEntry p) s fun t => t.dev.svoState p = 5 ∧ (t.dev.svo
      p).told = true ∧ (t.dev.svo p).held = false ∧ (t.dev.svo p).phase = .none) ∧
  (∀ (s : State) (p : Pk) , s.dev.svoState p = 6 → 4 ≤ (s.dev.svo p).absent → After (.holdRecover p) s fun t =>
      t.dev.svoState p = 2 ∧ (t.dev.svo p).search = some 0 ∧ t.dev.verified p = false ∧ (t.dev.svo p).held = false) ∧
  (∀ (s : State) (p : Pk) , s.dev.svoState p = 6 → s.dev.rd Reg.SVO_HOLD_HOLD_MAX p ≤ (s.dev.svo p).hticks → (s.dev.svo
      p).focOk = true → s.dev.flag Reg.SVO_TARGET_VALID p = true → ((s.dev.svoTarget p : Int) - s.dev.svoTrack p).natAbs
      ≤ 32 → After (.holdMaxExpiry p) s fun t => t.dev.svoState p = 3 ∧ (t.dev.svo p).mvN = (s.dev.svoTarget p : Int) -
      s.dev.svoTrack p) ∧
  (∀ (s : State) (p : Pk) (w : WedgeRead) (u : Nat), s.dev.svoState p = 5 → s.dev.verified p = true → w.spot = 1 →
      w.sync = some u → wedgeCheck w.bits = true → unGray 19 (w.bits.toNat / 8192) < trackCount → w.bits.toNat / 2048 %
      4 = s.dev.svoLayer p → w.bits.toNat / 1024 % 2 = sideOf p → 64 * ((u : Int) - ((s.dev.svo p).wtime + s.dev.rd
      Reg.SVO_PW_PW p / 16 : Nat)).natAbs ≤ s.dev.rd Reg.SVO_WEDGE_CFG_WEDGE_WIN p → (s.dev.svo p).phase ≠ .sled →
      s.dev.yar.recheck.contains p.val = false → w.bits.toNat / 2 % 512 ≠ 0 → After (.wedgeResult p w) s fun t =>
      t.dev.rd Reg.SVO_WEDGE_INDEX p = w.bits.toNat / 2 % 512 ∧ t.dev.rd Reg.SVO_WEDGE_MISSED p = 0 ∧ (t.dev.svo
      p).wtime = u ∧ (t.dev.svo p).wcount = (s.dev.svo p).wcount + 1) ∧
  (∀ (s : State) (p : Pk) , s.dev.svoState p = 5 → s.dev.svoBurn p = false → 0 < (s.dev.svo p).slips → s.dev.rd
      Reg.SVO_WEDGE_CFG_SLIP_WEDGES p ≤ (s.dev.svo p).slips → ((s.dev.svoTarget p : Int) - s.dev.svoTrack p).natAbs ≤ 32
      → After (.trackSlip p) s fun t => t.dev.svoState p = 3 ∧ t.dev.flag Reg.SVO_ERR_SLIP p = true ∧ t.dev.verified p =
      false) ∧
  (∀ (s : State) (p : Pk) , s.dev.svoRuns p = true → (s.dev.rd Reg.SVO_WEDGE_INDEX p + 1) % 512 ≠ 0 → After
      (.wedgeBridge p) s fun t => t.dev.rd Reg.SVO_WEDGE_INDEX p = (s.dev.rd Reg.SVO_WEDGE_INDEX p + 1) % 512 ∧ t.dev.rd
      Reg.SVO_WEDGE_MISSED p = min (2 ^ Reg.SVO_WEDGE_MISSED.w - 1) (s.dev.rd Reg.SVO_WEDGE_MISSED p + 1) ∧ (t.dev.svo
      p).wcount = (s.dev.svo p).wcount + 1) ∧
  (∀ (s : State) (p : Pk) , s.dev.svoState p = 5 → 0 < s.dev.rd Reg.SVO_WEDGE_MISSED p → s.dev.rd
      Reg.SVO_WEDGE_CFG_WEDGE_MISS_MAX p ≤ s.dev.rd Reg.SVO_WEDGE_MISSED p → After (.wedgeLost p) s fun t =>
      t.dev.svoState p = 2 ∧ (t.dev.svo p).search = some 0 ∧ t.dev.verified p = false) ∧
  (∀ (s : State) (p : Pk) (n : Nat), s.dev.svoState p = 2 → (s.dev.svo p).search = some n → 512 ≤ n → After
      (.wedgeSearchEnd p) s fun t => t.dev.svoState p = 6 ∧ (t.dev.svo p).cause = 4 ∧ t.dev.flag Reg.SVO_ERR_HOLD p =
      true)

/-- Focus acquisition asked for, with its conditions met, begins with the laser on its layer; FE settled for 16 ticks gives FOCUSED with tracking held; a sweep without capture retracts for a retry. The kick of a layer jump ends in the coast, and a jump without S-curve acquires focus again. A move whose profile ends lands with the polarity of T*; one not settled in SETTLE_MAX waits for a wedge to seek from. A sled seek that has stopped goes on as a fine seek of the tracks left, and a fine seek with one track left as a move. -/
def Obligations.ServoProcedures : Prop :=
  (∀ (s : State) (p : Pk) (l : Nat), (s.dev.svo p).want = some l → s.dev.svoState p = 0 → s.dev.facqReady p = true → l <
      4 → s.dev.clocked 7 = true → After (.focusAcqStart p) s fun t => t.dev.svoState p = 1 ∧ (t.dev.svo p).phase =
      .laser ∧ t.dev.svoLayer p = l ∧ (t.dev.svo p).want = none ∧ (t.dev.svo p).facq = 0) ∧
  (∀ (s : State) (p : Pk) , s.dev.svoState p = 1 → (s.dev.svo p).phase = .capture → 16 ≤ (s.dev.svo p).feRun → After
      (.focusSettled p) s fun t => t.dev.svoState p = 2 ∧ (t.dev.svo p).phase = .none ∧ (t.dev.svo p).held = true) ∧
  (∀ (s : State) (p : Pk) , s.dev.svoState p = 1 → (s.dev.svo p).phase = .sweep → s.dev.outLim p 0 ≤ ((s.dev.svo p).loop
      0).uPrev → (s.dev.svo p).facq < s.dev.rd Reg.SVO_FACQ_FACQ_RETRIES p → After (.focusSweepEnd p) s fun t =>
      (t.dev.svo p).phase = .retract ∧ (t.dev.svo p).facq = (s.dev.svo p).facq + 1 ∧ t.dev.svoState p = 1) ∧
  (∀ (s : State) (p : Pk) , (s.dev.svo p).phase = .kick → s.dev.rd Reg.SVO_LJUMP_KICK_TICKS p ≤ (s.dev.svo p).t → After
      (.kickEnd p) s fun t => t.dev.svo p = { s.dev.svo p with phase := .coast, t := 0, sc := 0 }) ∧
  (∀ (s : State) (p : Pk) , ((s.dev.svo p).phase = .kick ∨ (s.dev.svo p).phase = .coast) → 8 * s.dev.rd
      Reg.SVO_LJUMP_JUMP_TIMEOUT p ≤ (s.dev.svo p).jticks → s.dev.facqReady p = true → After (.jumpTimeout p) s fun t =>
      t.dev.svoState p = 1 ∧ (t.dev.svo p).phase = .laser ∧ (t.dev.svo p).jump = none ∧ t.dev.flag Reg.SVO_ERR_JUMP_FAIL
      p = true) ∧
  (∀ (s : State) (p : Pk) , (s.dev.svo p).phase = .profile → 2 * (s.dev.svo p).mvH ≤ (s.dev.svo p).mvK → s.dev.burn p =
      none → After (.moveProfileEnd p) s fun t => (t.dev.svo p).phase = .land ∧ t.dev.svoLand p = (if isLand
      (s.dev.svoTarget p) then 1 else 0) ∧ t.dev.loopMode p 1 = 2 ∧ t.dev.loopMode p 4 = 2) ∧
  (∀ (s : State) (p : Pk) , s.dev.svoState p = 3 → (s.dev.svo p).phase = .land → s.dev.rd Reg.SVO_MOVE_SETTLE_MAX p ≤
      (s.dev.svo p).t → (s.dev.svo p).teRun < s.dev.rd Reg.SVO_TRK_THR_ON_TRACK_TICKS p → After (.settleTimeout p) s fun
      t => t.dev.svo p = { s.dev.svo p with phase := .restart, t := 0 }) ∧
  (∀ (s : State) (p : Pk) , (s.dev.svo p).phase = .sled → (s.dev.axis (2 * p.val)).kind = 0 → After (.sledSeekDone p) s
      fun t => t.dev.svo p =
      { s.dev.svo p with phase := .fine, left := (s.dev.svoTarget p : Int) - s.dev.svoTrack p, seekN := (s.dev.svoTarget p : Int) - s.dev.svoTrack p, t := 0 })
      ∧
  (∀ (s : State) (p : Pk) , (s.dev.svo p).phase = .fine → (s.dev.svo p).left.natAbs = 1 → After (.fineSeekDone p) s fun
      t => t.dev.svoState p = 3 ∧ (t.dev.svo p).phase = .profile ∧ (t.dev.svo p).mvN = (s.dev.svo p).left ∧ (t.dev.svo
      p).own = false)

/-- A grant that rises takes a requested start from OFF to CATCH; one that falls unasked takes the stage away and sets OWN_LOST. At the end of the catch interval a spindle at rest goes to ALIGN, one found turning forward above HANDOVER with KE in its limits to RUN, and one found otherwise to BRAKE. ALIGN ends in RAMP; hand-over enters RUN with 64 periods of blending, whose end is the observer angle. An attempt without hand-over pauses, and is retried from CATCH while tries are left; braking with a start in force ends in ALIGN, other braking in OFF. -/
def Obligations.SpindleStart : Prop :=
  (∀ (s : State) (n : Spn) , s.dev.hasSp n = true → s.dev.peer.wantSp.testBit n = false → s.dev.flag
      Reg.LCS_STATUS_TAMPER_HOLD = false → (s.dev.spin n).start = true → s.dev.flag Reg.MOT_SP_STATUS_REQ n = true →
      s.dev.spState n = 0 → s.dev.clocked 8 = true → After (.grantRise n) s fun t => t.dev.granted n = true ∧
      t.dev.spState n = 1 ∧ (t.dev.spin n).probes = []) ∧
  (∀ (s : State) (n : Spn) , s.dev.granted n = true → s.dev.flag Reg.MOT_SP_STATUS_REQ n = true → noBurns s.dev n = true
      → After (.grantFall n) s fun t => t.dev.granted n = false ∧ t.dev.flag Reg.MOT_SP_ERR_OWN_LOST n = true ∧
      t.dev.spState n = 0 ∧ (t.dev.spin n).start = false) ∧
  (∀ (s : State) (n : Spn) (o : Option (Int × Int)), s.dev.spState n = 1 → (s.dev.spin n).start = true → s.dev.rd
      Reg.MOT_SP_RPM_TARGET n ≠ 0 → ((s.dev.lastProbe n o).rotation n).found = false → After (.catchEnd n o) s fun t =>
      t.dev.spState n = 3 ∧ (t.dev.spin n).fSpd = 0) ∧
  (∀ (s : State) (n : Spn) (o : Option (Int × Int)), s.dev.spState n = 1 → (s.dev.spin n).start = true → s.dev.rd
      Reg.MOT_SP_RPM_TARGET n ≠ 0 → ((s.dev.lastProbe n o).rotation n).found = true → 0 < ((s.dev.lastProbe n
      o).rotation n).rpm → (s.dev.rd Reg.MOT_SP_START_HANDOVER n : Int) ≤ ((s.dev.lastProbe n o).rotation n).rpm →
      (s.dev.lastProbe n o).keOk n ((s.dev.lastProbe n o).rd Reg.MOT_SP_KEM_KE_MEAS n) = true → After (.catchEnd n o) s
      fun t => t.dev.spState n = 5 ∧ (t.dev.spin n).ref = ((s.dev.lastProbe n o).rotation n).rpm * 65536 ∧ (t.dev.spin
      n).theta = ((s.dev.lastProbe n o).rotation n).angle) ∧
  (∀ (s : State) (n : Spn) (o : Option (Int × Int)), s.dev.spState n = 1 → s.dev.rd Reg.MOT_SP_RPM_TARGET n ≠ 0 →
      ((s.dev.lastProbe n o).rotation n).found = true → (((s.dev.lastProbe n o).rotation n).rpm.natAbs : Int) < s.dev.rd
      Reg.MOT_SP_START_HANDOVER n → After (.catchEnd n o) s fun t => t.dev.spState n = 2) ∧
  (∀ (s : State) (n : Spn) , s.dev.spState n = 3 → After (.alignEnd n) s fun t => t.dev.spState n = 4 ∧ (t.dev.spin
      n).period = 0) ∧
  (∀ (s : State) (n : Spn) , s.dev.spState n = 4 → (s.dev.spin n).pause = false → 32 ≤ (s.dev.spin n).lock → (s.dev.rd
      Reg.MOT_SP_START_HANDOVER n : Int) * 65536 ≤ (s.dev.spin n).fSpd → After (.handover n) s fun t => t.dev.spState n
      = 5 ∧ (t.dev.spin n).blend = 64 ∧ (t.dev.spin n).ref = (s.dev.spin n).fSpd ∧ (t.dev.spin n).iqRef = s.dev.rdS
      Reg.MOT_SP_VBUS_IQ n) ∧
  (∀ (s : State) (n : Spn) , After (.angleBlendEnd n) s fun t => t.dev.spin n = { s.dev.spin n with blend := 0 }) ∧
  (∀ (s : State) (n : Spn) , s.dev.spState n = 4 → (s.dev.spin n).pause = false → (s.dev.rd Reg.MOT_SP_START_HANDOVER n
      : Int) * 65536 ≤ (s.dev.spin n).fSpd → After (.handoverTimeout n) s fun t => (t.dev.spin n).pause = true ∧
      (t.dev.spin n).tries = (s.dev.spin n).tries + 1 ∧ (t.dev.spin n).duties = [0, 0, 0]) ∧
  (∀ (s : State) (n : Spn) , s.dev.spState n = 4 → (s.dev.spin n).pause = true → (s.dev.spin n).tries < s.dev.rd
      Reg.MOT_SP_START_START_TRIES n → After (.startRetry n) s fun t => t.dev.spState n = 1 ∧ (t.dev.spin n).pause =
      false ∧ (t.dev.spin n).probes = []) ∧
  (∀ (s : State) (n : Spn) , s.dev.spState n = 2 → 2000000 ≤ (s.dev.spin n).calm * 2048 → (s.dev.spin n).start = true →
      (s.dev.spin n).esc = false → After (.brakeEnd n) s fun t => t.dev.spState n = 3) ∧
  (∀ (s : State) (n : Spn) , s.dev.spState n = 2 → 2000000 ≤ (s.dev.spin n).calm * 2048 → ((s.dev.spin n).start = false
      ∨ (s.dev.spin n).esc = true) → After (.brakeEnd n) s fun t => t.dev.spState n = 0 ∧ (t.dev.spin n).duties = [0, 0,
      0])

/-- A period whose currents stay within I_TRIP takes the duties computed for it and latches the gate pattern of its state. A missed compute repeats them, and is counted and recorded as a miss of row 2. A speed update without wedges, with no induced-voltage check failed before it, ramps the reference toward the commanded speed, and shows the observer's speed as its source. 64 updates near the commanded speed report the spindle at speed; a steady reference without the report sets SPEED_ERR; vq clamped for 64 periods sets SAT. A bus output above CHOP_ON and within TRIP turns the chopper on. Stated with no band burning on the spindle: outside OFF and FAULT, a current above I_TRIP, undervoltage, DESAT_N low and a stuck modulator stream each set their bit and enter FAULT with every duty 0, as does the second missed compute in a row; a stuck bus stream turns the chopper on. The chopper's escape sets CHOP_FAULT and brakes. -/
def Obligations.SpindleSpeedAndFaults : Prop :=
  (∀ (s : State) (n : Spn) (m : FocSample), s.dev.hasSp n = true → ((s.dev.takeCurrents n m).phasePeak n : Int) ≤
      s.dev.rd Reg.MOT_SP_LIM_I_TRIP n → s.dev.clocked 8 = true → After (.focPeriod n m) s fun t => (t.dev.spin
      n).duties = (s.dev.spin n).next ∧ (t.dev.spin n).period = (s.dev.spin n).period + 1 ∧ (t.dev.spin n).gates =
      t.dev.gatePattern n) ∧
  (∀ (s : State) (n : Spn) , s.dev.focDue n = true → (s.dev.spin n).misses = 0 → s.dev.clocked 8 = true → After
      (.focCutoff n) s fun t => (t.dev.spin n).misses = 1 ∧ (t.dev.spin n).next = (s.dev.spin n).duties ∧ (mget
      t.dev.windows none (2 * 65536 + n.val)).isSome = true ∧ t.dev.rd Reg.MOT_SP_CNT_FOC_MISS n = min (2 ^
      Reg.MOT_SP_CNT_FOC_MISS.w - 1) (s.dev.rd Reg.MOT_SP_CNT_FOC_MISS n + 1)) ∧
  (∀ (s : State) (n : Spn) (ea eb : Int), s.dev.spState n = 5 → s.dev.wedgeRpm (2 * n) = none → s.dev.wedgeRpm (2 * n +
      1) = none → (s.dev.spin n).keBad = 0 → s.dev.clocked 8 = true → After (.speedLoopUpdate n ea eb) s fun t =>
      (t.dev.spin n).ref = rampRef (s.dev.spin n).ref ((s.dev.rd Reg.MOT_SP_RPM_TARGET n : Int) * 65536) (s.dev.rd
      Reg.MOT_SP_RAMP_ACCEL n) (divR (s.dev.rd Reg.MOT_SP_RAMP_DECEL n) (2 ^ (s.dev.spin n).cuts)) ∧ t.dev.rd
      Reg.MOT_SP_RPM_SPEED n = toBits Reg.MOT_SP_RPM_SPEED.w (divR (s.dev.observerRpm n) 65536) ∧ t.dev.rd
      Reg.MOT_SP_STATUS_SRC n = 0) ∧
  (∀ (s : State) (n : Spn) , s.dev.spState n = 5 → 64 ≤ (s.dev.spin n).near → s.dev.flag Reg.MOT_SP_STATUS_AT_SPEED n =
      false → After (.atSpeedReport n) s fun t => t.dev.flag Reg.MOT_SP_STATUS_AT_SPEED n = true) ∧
  (∀ (s : State) (n : Spn) , s.dev.spState n = 5 → s.dev.flag Reg.MOT_SP_STATUS_AT_SPEED n = false → (s.dev.spin n).ref
      = (s.dev.rd Reg.MOT_SP_RPM_TARGET n : Int) * 65536 → After (.speedErrTimeout n) s fun t => t.dev.flag
      Reg.MOT_SP_ERR_SPEED_ERR n = true) ∧
  (∀ (s : State) (n : Spn) , s.dev.spState n = 5 → 64 ≤ (s.dev.spin n).clamped → After (.modulationLimit n) s fun t =>
      t.dev.flag Reg.MOT_SP_ERR_SAT n = true) ∧
  (∀ (s : State) (n : Spn) (m : BusSample), s.dev.hasSp n = true → s.dev.spState n ≠ 0 → 125 * s.dev.rd
      Reg.MOT_SP_BUS_CHOP_ON n < (s.dev.takeBus n m).busMv n → (s.dev.takeBus n m).busMv n ≤ 125 * s.dev.rd
      Reg.MOT_SP_BUS_TRIP n → s.dev.clocked 8 = true → After (.busFilterOutput n m) s fun t => t.dev.flag
      Reg.MOT_SP_STATUS_CHOP n = true ∧ t.dev.rd Reg.MOT_SP_VBUS_VBUS n = (s.dev.takeBus n m).busMv n % 2 ^
      Reg.MOT_SP_VBUS_VBUS.w ∧ t.dev.spState n = s.dev.spState n) ∧
  (∀ (s : State) (n : Spn) (m : FocSample), s.dev.hasSp n = true → s.dev.spState n ≠ 0 → s.dev.spState n ≠ 7 → noBurns
      s.dev n = true → (s.dev.rd Reg.MOT_SP_LIM_I_TRIP n : Int) < ((s.dev.takeCurrents n m).phasePeak n : Int) →
      s.dev.clocked 8 = true → After (.focPeriod n m) s fun t => t.dev.spState n = 7 ∧ t.dev.flag
      Reg.MOT_SP_ERR_OVERCURRENT n = true ∧ (t.dev.spin n).duties = [0, 0, 0]) ∧
  (∀ (s : State) (n : Spn) , s.dev.focDue n = true → (s.dev.spin n).misses = 1 → noBurns s.dev n = true → s.dev.clocked
      8 = true → After (.focCutoff n) s fun t => t.dev.spState n = 7 ∧ t.dev.flag Reg.MOT_SP_ERR_FOC_MISS n = true) ∧
  (∀ (s : State) (n : Spn) , s.dev.spState n ≠ 0 → s.dev.spState n ≠ 7 → noBurns s.dev n = true → lasts 100000000
      (s.dev.spin n).uvRun = true → After (.undervoltTimeout n) s fun t => t.dev.spState n = 7 ∧ t.dev.flag
      Reg.MOT_SP_ERR_UNDERVOLT n = true ∧ (t.dev.spin n).duties = [0, 0, 0]) ∧
  (∀ (s : State) (n : Spn) , s.dev.spState n ≠ 0 → s.dev.spState n ≠ 7 → noBurns s.dev n = true → s.dev.clocked 8 = true
      → After (.desat n) s fun t => t.dev.spState n = 7 ∧ t.dev.flag Reg.MOT_SP_ERR_DESAT n = true ∧ (t.dev.spin
      n).duties = [0, 0, 0]) ∧
  (∀ (s : State) (n : Spn) , s.dev.spState n ≠ 0 → s.dev.spState n ≠ 7 → noBurns s.dev n = true → (s.dev.spin n).stuckAt
      2 = true → s.dev.clocked 8 = true → After (.modStuck n 2) s fun t => t.dev.spState n = 7 ∧ t.dev.flag
      Reg.MOT_SP_ERR_MOD_STUCK n = true ∧ (t.dev.spin n).stuck = true ∧ t.dev.flag Reg.MOT_SP_STATUS_CHOP n = true) ∧
  (∀ (s : State) (n : Spn) , s.dev.spState n ≠ 0 → s.dev.spState n ≠ 7 → s.dev.flag Reg.MOT_SP_STATUS_CHOP n = true →
      (lasts 20000000 (s.dev.spin n).escRun = true ∨ lasts 20000000 (s.dev.spin n).lowRun = true) → After (.escTimeout
      n) s fun t => t.dev.flag Reg.MOT_SP_ERR_CHOP_FAULT n = true ∧ (t.dev.spin n).esc = true ∧ t.dev.spState n = 2)

/-- With no coordinated move and no sled to be homed again, the planner advances a moving axis that has not arrived by one profile step. 50 ms after the stop an axis at full current has its position set and moves to its home position. An axis at rest lowers its current; the requested profile starts once the current has risen. A chopper slot in time sends its decisions, a late one is a miss of row 1. CUR_MISS_MAX lost slots freeze both axes, and four received ones release them. -/
def Obligations.AxesMove : Prop :=
  (∀ (s : State) (a : Ax) , s.dev.hasAx a = true → s.dev.coords = [] → (s.dev.axes.all fun q => !q.2.again) = true →
      (s.dev.axis a).kind ≠ 0 → (s.dev.axis a).wait = false → s.dev.axState a ≠ 4 → (profileStep (s.dev.axis a).pos
      (s.dev.axis a).vel (s.dev.axTarget a * 65536) ((s.dev.axis a).vmax * 65536) (s.dev.aStep a)).1 ≠ s.dev.axTarget a
      * 65536 → s.dev.clocked 8 = true → After (.plannerUpdate) s fun t => ((t.dev.axis a).pos, (t.dev.axis a).vel) =
      profileStep (s.dev.axis a).pos (s.dev.axis a).vel (s.dev.axTarget a * 65536) ((s.dev.axis a).vmax * 65536)
      (s.dev.aStep a)) ∧
  (∀ (s : State) (a : Ax) , (s.dev.axis a).wait = true → (s.dev.axis a).low = 0 → (s.dev.chop (a.val / 2)).frozen =
      false → After (.homeStopWait a) s fun t => (t.dev.axis a).wait = false ∧ (t.dev.axis a).kind = 5 ∧ (t.dev.axis
      a).pos = s.dev.rdAxS Reg.MOT_AX_HOME2_HOME_POS a * 65536 ∧ t.dev.axState a = 1) ∧
  (∀ (s : State) (a : Ax) , s.dev.hasAx a = true → (s.dev.axis a).kind = 0 → (s.dev.axis a).next = none → (s.dev.axis
      a).wait = false → (s.dev.axis a).low = 0 → s.dev.groupOf a = none → After (.standstillTimeout a) s fun t =>
      t.dev.flagAx Reg.MOT_AX_STATUS_REDUCED a = true ∧ (t.dev.axis a).lowering = true) ∧
  (∀ (s : State) (a : Ax) (u v : Int) (k : Nat), (s.dev.axis a).next = some (u, v, k) → After (.currentRaiseDone a) s
      fun t => (t.dev.axis a).next = none ∧ (t.dev.axis a).kind = k ∧ (t.dev.axis a).vmax = v ∧ (t.dev.axis a).low = 0 ∧
      t.dev.flagAx Reg.MOT_AX_STATUS_REDUCED a = false) ∧
  (∀ (s : State) (p : Pk) (lost : Bool), s.dev.portUp p = true → s.dev.owns p = true → s.dev.clocked 8 = true → After
      (.chopperSlot p true lost) s fun t => (t.dev.chop p).slot = ((s.dev.chop p).slot + 1) % 8192 ∧ ∃ l, Out.down p
      (.chopper (s.dev.downLanes p) (((s.dev.chop p).slot + 1) % 8192) l) ∈ t.sent) ∧
  (∀ (s : State) (p : Pk) (lost : Bool), s.dev.portUp p = true → s.dev.owns p = true → s.dev.clocked 8 = true → After
      (.chopperSlot p false lost) s fun t => (t.dev.chop p).slot = ((s.dev.chop p).slot + 1) % 8192 ∧ (mget
      t.dev.windows none (65536 + p.val)).isSome = true ∧ t.dev.flagAx Reg.MOT_AX_ERR_CHOP_MISS (2 * p.val) = true ∧
      t.dev.flagAx Reg.MOT_AX_ERR_CHOP_MISS (2 * p.val + 1) = true) ∧
  (∀ (s : State) (p : Pk) , (s.dev.chop p).frozen = false → s.dev.rdAx Reg.MOT_AX_CFG_CUR_MISS_MAX (2 * p.val) ≤
      (s.dev.chop p).lost → After (.currentMissLimit p) s fun t => (t.dev.chop p).frozen = true ∧ t.dev.axState (2 *
      p.val) = 4 ∧ t.dev.axState (2 * p.val + 1) = 4 ∧ t.dev.flagAx Reg.MOT_AX_ERR_CUR_MISSING (2 * p.val) = true) ∧
  (∀ (s : State) (p : Pk) , (s.dev.chop p).frozen = true → 4 ≤ (s.dev.chop p).got → (s.dev.axis (2 * p.val + 1)).kind =
      0 → After (.currentResume p) s fun t => (t.dev.chop p).frozen = false ∧ t.dev.axState (2 * p.val + 1) = 0)

/-- Of a mechanism that is present, with memory granted: a spin from OFF requests the stage and commands the read speed; a stop of a running spindle begins STOP; a release (with no band burning) drops the request and leaves the spindle OFF; a move of a homed axis at full current starts toward the clipped target, and of an unhomed one sets NOT_HOMED and completes so; a coordinated move of homed axes forms their group; homing clears HOMED and moves toward the stop. -/
def Obligations.MotionCommands : Prop :=
  (∀ (s : State) (c : Nat) (k : Ctx) , startable s.dev c k { b := [40, 41, 42] } = true → isMotion 0 k.e = true →
      s.dev.mmu.hlm.isSome = true → k.e.at 41 < 8 → s.dev.hasSp (k.e.at 41) = true → k.e.at 42 = 1 → s.dev.spState
      (k.e.at 41) = 0 → s.dev.clocked 8 = true → After (.motionSpin c) s fun t => t.dev.rd Reg.MOT_SP_RPM_TARGET (k.e.at
      41) = s.dev.rd Reg.MOT_SP_SPEED_READ_RPM (k.e.at 41) ∧ t.dev.flag Reg.MOT_SP_STATUS_REQ (k.e.at 41) = true ∧
      (t.dev.spin (k.e.at 41)).start = true) ∧
  (∀ (s : State) (c : Nat) (k : Ctx) , startable s.dev c k { b := [40, 41, 42] } = true → isMotion 0 k.e = true →
      s.dev.mmu.hlm.isSome = true → k.e.at 41 < 8 → s.dev.hasSp (k.e.at 41) = true → k.e.at 42 = 0 → s.dev.spState
      (k.e.at 41) = 5 → s.dev.clocked 8 = true → After (.motionSpin c) s fun t => t.dev.rd Reg.MOT_SP_RPM_TARGET (k.e.at
      41) = 0 ∧ t.dev.spState (k.e.at 41) = 6 ∧ (t.dev.spin (k.e.at 41)).start = false) ∧
  (∀ (s : State) (c : Nat) (k : Ctx) , startable s.dev c k { b := [40, 41] } = true → isMotion 1 k.e = true →
      s.dev.mmu.hlm.isSome = true → k.e.at 41 < 8 → s.dev.hasSp (k.e.at 41) = true → noBurns s.dev (k.e.at 41) = true →
      s.dev.clocked 8 = true → After (.motionRelease c) s fun t => t.dev.flag Reg.MOT_SP_STATUS_REQ (k.e.at 41) = false
      ∧ t.dev.spState (k.e.at 41) = 0 ∧ (t.dev.spin (k.e.at 41)).start = false) ∧
  (∀ (s : State) (c : Nat) (k : Ctx) , startable s.dev c k { b := [40, 41, 48, 49, 50, 51] } = true → isMotion 2 k.e =
      true → s.dev.mmu.hlm.isSome = true → k.e.at 41 < 32 → s.dev.hasAx (k.e.at 41) = true → s.dev.homed (k.e.at 41) =
      true → s.dev.groupOf (k.e.at 41) = none → (s.dev.axis (k.e.at 41)).low = 0 → (s.dev.chop (k.e.at 41 / 2)).frozen =
      false → s.dev.clocked 8 = true → After (.motionMove c) s fun t => t.dev.rdAx Reg.MOT_AX_TGT_TARGET (k.e.at 41) =
      toBits Reg.MOT_AX_TGT_TARGET.w (s.dev.clipTarget (k.e.at 41) (Sys2Proof.Machine.Sqe.signed k.e 48 4)).1 ∧
      (t.dev.axis (k.e.at 41)).kind = 1 ∧ t.dev.axState (k.e.at 41) = 2) ∧
  (∀ (s : State) (c : Nat) (k : Ctx) , startable s.dev c k { b := [40, 41, 48, 49, 50, 51] } = true → isMotion 2 k.e =
      true → s.dev.mmu.hlm.isSome = true → k.e.at 41 < 32 → s.dev.hasAx (k.e.at 41) = true → s.dev.homed (k.e.at 41) =
      false → s.dev.clocked 8 = true → After (.motionMove c) s fun t => t.dev.flagAx Reg.MOT_AX_ERR_NOT_HOMED (k.e.at
      41) = true ∧ Out.completed k.sq k.e.cid.toNat St.notHomed (BitVec.ofNat 64 (0)) ∈ t.sent) ∧
  (∀ (s : State) (c : Nat) (k : Ctx) , startable s.dev c k
      { b := [40, 41, 44, 45, 46, 47, 48, 49, 50, 51, 52, 53, 54, 55, 56, 57, 58, 59, 60, 61, 62, 63] } = true →
      isMotion 3 k.e = true → s.dev.groupCheck k.e = none → (((List.range (k.e.at 41)).map fun i => k.e.at (44 + i)).all
      fun a => s.dev.homed a) = true → s.dev.clocked 8 = true → After (.motionCoordinated c) s fun t =>
      t.dev.coords.getLast?.map (fun g => g.axes) = some ((List.range (k.e.at 41)).map fun i => k.e.at (44 + i))) ∧
  (∀ (s : State) (c : Nat) (k : Ctx) , startable s.dev c k { b := [40, 41] } = true → isMotion 4 k.e = true →
      s.dev.mmu.hlm.isSome = true → k.e.at 41 < 32 → s.dev.hasAx (k.e.at 41) = true → (s.dev.chop (k.e.at 41 /
      2)).frozen = false → s.dev.clocked 8 = true → After (.motionHome c) s fun t => t.dev.homed (k.e.at 41) = false ∧
      (t.dev.axis (k.e.at 41)).kind = 4 ∧ t.dev.axState (k.e.at 41) = 1)

/-- Of a pickup that is present and not burning, with memory granted: a start from OFF with every condition met begins focus acquisition of its layer; a stop completes and leaves the engine OFF; a restart from FAULT asks for RESUME and for acquisition of the current layer; a loop mode outside a move completes and is in force; a seek on the current layer, to a track within 32, sets T* and moves there. -/
def Obligations.ServoModeCommands : Prop :=
  (∀ (s : State) (c : Nat) (k : Ctx) , startable s.dev c k { b := [40, 41, 42] } = true → isServo 0 k.e = true →
      s.dev.mmu.hlm.isSome = true → k.e.at 40 < 16 → s.dev.hasPk (k.e.at 40) = true → s.dev.burn (k.e.at 40) = none →
      s.dev.calFirst (k.e.at 40) = false → k.e.at 42 < 4 → s.dev.svoState (k.e.at 40) = 0 → s.dev.facqReady (k.e.at 40)
      = true → s.dev.flag Reg.SOR_CFG_EN (k.e.at 40) = true → s.dev.clocked 7 = true → After (.servoModeStart c) s fun t
      => t.dev.svoState (k.e.at 40) = 1 ∧ (t.dev.svo (k.e.at 40)).phase = .laser ∧ t.dev.svoLayer (k.e.at 40) = k.e.at
      42) ∧
  (∀ (s : State) (c : Nat) (k : Ctx) , startable s.dev c k { b := [40, 41] } = true → isServo 1 k.e = true →
      s.dev.mmu.hlm.isSome = true → k.e.at 40 < 16 → s.dev.hasPk (k.e.at 40) = true → s.dev.burn (k.e.at 40) = none →
      s.dev.calFirst (k.e.at 40) = false → s.dev.moving (k.e.at 40) = false → s.dev.svoState (k.e.at 40) ≠ 7 →
      s.dev.clocked 7 = true → After (.servoModeStop c) s fun t => t.dev.svoState (k.e.at 40) = 0 ∧ Out.completed k.sq
      k.e.cid.toNat St.success 0 ∈ t.sent) ∧
  (∀ (s : State) (c : Nat) (k : Ctx) , startable s.dev c k { b := [40, 41] } = true → isServo 2 k.e = true →
      s.dev.mmu.hlm.isSome = true → k.e.at 40 < 16 → s.dev.hasPk (k.e.at 40) = true → s.dev.burn (k.e.at 40) = none →
      s.dev.calFirst (k.e.at 40) = false → s.dev.svoState (k.e.at 40) = 7 → s.dev.portUp (k.e.at 40) = true → s.dev.owns
      (k.e.at 40) = true → s.dev.flag Reg.SOR_CFG_EN (k.e.at 40) = true → s.dev.clocked 7 = true → After
      (.servoModeRestart c) s fun t => t.dev.svoState (k.e.at 40) = 0 ∧ (t.dev.svo (k.e.at 40)).resume = 2 ∧ (t.dev.svo
      (k.e.at 40)).want = some (s.dev.svoLayer (k.e.at 40))) ∧
  (∀ (s : State) (c : Nat) (k : Ctx) , startable s.dev c k { b := [40, 41, 42, 43, 44, 45] } = true → isServo 3 k.e =
      true → s.dev.mmu.hlm.isSome = true → k.e.at 40 < 16 → s.dev.hasPk (k.e.at 40) = true → s.dev.burn (k.e.at 40) =
      none → s.dev.calFirst (k.e.at 40) = false → k.e.at 42 ≤ 4 → k.e.at 43 ≤ 2 → s.dev.svoRuns (k.e.at 40) = true →
      s.dev.moving (k.e.at 40) = false → s.dev.clocked 7 = true → After (.servoModeLoop c) s fun t => t.dev.loopMode
      (k.e.at 40) (k.e.at 42) = k.e.at 43 ∧ Out.completed k.sq k.e.cid.toNat St.success 0 ∈ t.sent) ∧
  (∀ (s : State) (c : Nat) (k : Ctx) , startable s.dev c k { b := [40, 41, 42, 48, 49, 50, 51] } = true → isServo 4 k.e
      = true → s.dev.mmu.hlm.isSome = true → k.e.at 40 < 16 → s.dev.hasPk (k.e.at 40) = true → s.dev.burn (k.e.at 40) =
      none → s.dev.calFirst (k.e.at 40) = false → (s.dev.svoState (k.e.at 40) = 2 ∨ s.dev.svoState (k.e.at 40) = 5) →
      k.e.at 42 = s.dev.svoLayer (k.e.at 40) → k.e.le 48 4 < trackCount → ((k.e.le 48 4 : Int) - s.dev.svoTrack (k.e.at
      40)).natAbs ≤ 32 → s.dev.clocked 7 = true → After (.servoModeSeek c) s fun t => t.dev.svoState (k.e.at 40) = 3 ∧
      t.dev.svoTarget (k.e.at 40) = k.e.le 48 4 ∧ t.dev.flag Reg.SVO_TARGET_VALID (k.e.at 40) = true ∧ t.dev.verified
      (k.e.at 40) = false)

/-- CALIBRATE full and drift make a run of the pickup due. A due full run of a pickup in OFF, with both axes homed and every condition met, begins with the steps of Table 9-4; a suspended run goes on with its next step (stated for one that reads no measurement band). The first measurement of a step is kept for a second to agree with. A valid write strategy becomes the points of its set, and the command completes. A discard leaves no set of the pickups it names, and clears their CAL_STATUS.VALID. -/
def Obligations.CalibrationRuns : Prop :=
  (∀ (s : State) (c : Nat) (k : Ctx) , startable s.dev c k { b := [40, 41] } = true → isCalibrate 0 k.e = true → k.e.at
      40 < 16 → s.dev.hasPk (k.e.at 40) = true → s.dev.clocked 9 = true → After (.calibrateFull c) s fun t =>
      (t.dev.calPk (k.e.at 40)).due = 2 ∧ (t.dev.calPk (k.e.at 40)).ready = false ∧ t.dev.flag Reg.CAL_PK_TEMP_PENDING
      (k.e.at 40) = true ∧ (t.dev.ctx c).map (·.wait) = some (.calib (2 ^ k.e.at 40))) ∧
  (∀ (s : State) (c : Nat) (k : Ctx) , startable s.dev c k { b := [40, 41] } = true → isCalibrate 1 k.e = true → k.e.at
      40 < 16 → s.dev.hasPk (k.e.at 40) = true → s.dev.clocked 9 = true → After (.calibrateDrift c) s fun t =>
      (t.dev.calPk (k.e.at 40)).due = max (s.dev.calPk (k.e.at 40)).due 1 ∧ t.dev.flag Reg.CAL_PK_TEMP_PENDING (k.e.at
      40) = true ∧ (t.dev.ctx c).map (·.wait) = some (.calib (2 ^ k.e.at 40))) ∧
  (∀ (s : State) (p : Pk) , (s.dev.calPk p).run = none → (s.dev.calPk p).due = 2 → s.dev.calMayRun p true = true →
      s.dev.svoState p = 0 → s.dev.homed (2 * p.val) = true → s.dev.homed (2 * p.val + 1) = true → s.dev.clocked 9 =
      true → After (.calibrationStart p) s fun t => (t.dev.calPk p).run = some
      { full := true, steps := fullSteps (s.dev.svoSpeed p), runs := [], asked := false, paused := false, found := [], read := [], serves := s.dev.waiting fun w => match w with | .calib m => m.testBit p | _ => false }
      ∧ (t.dev.calPk p).due = 0 ∧ (t.dev.rd Reg.CAL_STATUS_BUSY).testBit p.val = true) ∧
  (∀ (s : State) (p : Pk) (r : CalRun) (u : List Nat) (l : List (List Nat)), (s.dev.calPk p).run = some r → r.steps = u
      :: l → readsBand u = false → r.paused = true → s.dev.calMayRun p r.full = true → s.dev.clocked 9 = true → After
      (.calibrationStart p) s fun t => (t.dev.calPk p).run = some
      { r with runs := [], read := [], asked := false, paused := false }) ∧
  (∀ (s : State) (p : Pk) (r : CalRun) (u : List Nat) (l : List (List Nat)) (v : List Int), (s.dev.calPk p).run = some r
      → r.steps = u :: l → r.runs = [] → r.paused = false → readsState u = false → s.dev.calPlaced p u = true → After
      (.calibrationStepEnd p v) s fun t => (t.dev.calPk p).run = some { r with runs := [v] }) ∧
  (∀ (s : State) (c : Nat) (k : Ctx) (buf : List Byte) (key : Nat) (v : List Int), startable s.dev c k
      { count := true, data := true, b := [40, 41] } = true → isCalibrate 2 k.e = true → k.e.at 40 < 16 → s.dev.hasPk
      (k.e.at 40) = true → k.e.count.toNat = 1 → strategyEntry ≤ buf.length → strategyOf (k.e.at 40) (buf.take
      strategyEntry) = some (key, v) → s.dev.calFull (k.e.at 40) = false → s.dev.clocked 9 = true → After
      (.calibrateLoadStrategy c buf) s fun t => Out.completed k.sq k.e.cid.toNat St.success 0 ∈ t.sent ∧ t.dev.calPoints
      key = commitPoint (s.dev.rd Reg.CAL_CFG_TSEP) (s.dev.calTemp (k.e.at 40)) v (s.dev.calPoints key) ∧ (t.dev.rd
      Reg.CAL_STATUS_VALID).testBit (k.e.at 40) = true) ∧
  (∀ (s : State) (c : Nat) (k : Ctx) , startable s.dev c k { b := [40, 41] } = true → isCalibrate 3 k.e = true → k.e.at
      40 < 16 → s.dev.hasPk (k.e.at 40) = true → s.dev.calFull (k.e.at 40) = false → s.dev.clocked 9 = true → After
      (.calibrateDiscard c) s fun t => Out.completed k.sq k.e.cid.toNat St.success 0 ∈ t.sent ∧ t.dev.cal.sets =
      s.dev.cal.sets.filter (fun e => e.1 / 96 / 4 % 16 != k.e.at 40) ∧ t.dev.flash.cal = s.dev.flash.cal.filter (fun e
      => e.1 / 96 / 4 % 16 != k.e.at 40) ∧ (t.dev.rd Reg.CAL_STATUS_VALID).testBit (k.e.at 40) = false)

/-- With the scrub enabled, a critical word whose third copy disagrees with two equal ones is set to their value, MEM_ERR.VOTE is set and the vote counter rises. While the cache is ON, a fill of a line inside the grant, whose set holds nothing in any way and whose page has no open read fault, is a miss and enters way 0, if fills may go there, with the tag and data of the line. Whether the waiting requester then writes it (its dirty mark) is a free value (log entry 2). Enable turns the cache ON and completes. Disable of an OFF cache completes at once; of an ON cache that holds no line it begins DRAINING, whose walk, ended with no dirty line, leaves it OFF. Masks that meet neither each other nor a disabled or converted way become ALLOC and LOCK. A conversion of at most 8 ways without lines makes ways 15 downward scratchpad and takes them out of ALLOC and LOCK. -/
def Obligations.MemoriesAndCache : Prop :=
  (∀ (s : State) (f : CritFault), s.dev.powered = true → s.dev.safe = false → s.dev.flag Reg.MEM_CFG_SCRUB_EN = true →
      f.word < 1024 → f.a = f.b → f.a ≠ f.c → After (.scrubWalk [f] []) s fun t => mget t.dev.mem.critical 0 f.word =
      f.a.toNat ∧ t.dev.flag Reg.MEM_ERR_VOTE = true ∧ t.dev.rd Reg.MEM_CNT_VOTE_VOTE = min (2 ^ Reg.MEM_CNT_VOTE_VOTE.w
      - 1) (s.dev.rd Reg.MEM_CNT_VOTE_VOTE + 1)) ∧
  (∀ (s : State) (cls : Fin 4) (line : Nat) (data : List Byte) (asid base size : Nat), s.dev.mmu.hlm = some (asid, base,
      size) → 128 * line < size → s.dev.rd Reg.BRC_STATUS_STATE = 1 → s.dev.mmu.faults = [] → ((List.range 16).all fun w
      => (mget s.dev.brine.lines none (line % 16384 * 16 + w)).isNone) = true → (s.dev.rd Reg.BRC_WAY_ALLOC).testBit 0 =
      true → s.dev.clocked 13 = true → After (.brineFillDone cls line { data := data, err := none }) s fun t => (mget
      t.dev.brine.lines none (line % 16384 * 16)).map (fun l => (l.tag, l.data)) = some (line / 16384, data.take 128) ∧
      t.dev.rd Reg.BRC_CNT_MISS_COUNT = min (2 ^ Reg.BRC_CNT_MISS_COUNT.w - 1) (s.dev.rd Reg.BRC_CNT_MISS_COUNT + 1)) ∧
  (∀ (s : State) (c : Nat) (k : Ctx) , startable s.dev c k { b := [40, 41] } = true → isCache 0 k.e = true →
      s.dev.clocked 13 = true → After (.cacheEnable c) s fun t => t.dev.rd Reg.BRC_STATUS_STATE = 1 ∧ Out.completed k.sq
      k.e.cid.toNat St.success 0 ∈ t.sent) ∧
  (∀ (s : State) (c : Nat) (k : Ctx) , startable s.dev c k { b := [40, 41] } = true → isCache 1 k.e = true → s.dev.rd
      Reg.BRC_STATUS_STATE = 0 → s.dev.clocked 13 = true → After (.cacheDisable c) s fun t => t.dev.rd
      Reg.BRC_STATUS_STATE = 0 ∧ Out.completed k.sq k.e.cid.toNat St.success 0 ∈ t.sent) ∧
  (∀ (s : State) (c : Nat) (k : Ctx) , startable s.dev c k { b := [40, 41] } = true → isCache 1 k.e = true → s.dev.rd
      Reg.BRC_STATUS_STATE = 1 → s.dev.brine.lines = [] → s.dev.mmu.xfers = [] → s.dev.clocked 13 = true → After
      (.cacheDisable c) s fun t => t.dev.rd Reg.BRC_STATUS_STATE = 2) ∧
  (∀ (s : State) , s.dev.rd Reg.BRC_STATUS_STATE = 2 → s.dev.brine.lines = [] → s.dev.mmu.xfers = [] → s.dev.clocked 13
      = true → After (.cacheDrainDone) s fun t => t.dev.rd Reg.BRC_STATUS_STATE = 0) ∧
  (∀ (s : State) (c : Nat) (k : Ctx) , startable s.dev c k { b := [40, 41, 44, 45, 46, 47] } = true → isCache 2 k.e =
      true → k.e.le 44 2 &&& k.e.le 46 2 = 0 → (k.e.le 44 2 ||| k.e.le 46 2) &&& (s.dev.rd Reg.BRC_WAY_ST_DISABLED |||
      s.dev.rd Reg.BRC_WAY_ST_SCRATCH) = 0 → s.dev.clocked 13 = true → After (.cacheMasks c) s fun t => t.dev.rd
      Reg.BRC_WAY_ALLOC = k.e.le 44 2 % 2 ^ 16 ∧ t.dev.rd Reg.BRC_WAY_LOCK = k.e.le 46 2 % 2 ^ 16 ∧ Out.completed k.sq
      k.e.cid.toNat St.success 0 ∈ t.sent) ∧
  (∀ (s : State) (c : Nat) (k : Ctx) , startable s.dev c k { b := [40, 41, 42] } = true → isCache 3 k.e = true → k.e.at
      42 ≤ 8 → s.dev.brine.lines = [] → s.dev.mmu.xfers = [] → s.dev.clocked 13 = true → After (.cacheConvert c) s fun t
      => t.dev.rd Reg.BRC_WAY_ST_SCRATCH = 2 ^ 16 - 2 ^ (16 - k.e.at 42) ∧ t.dev.rd Reg.BRC_WAY_ALLOC / 2 ^ (16 - k.e.at
      42) = 0 ∧ Out.completed k.sq k.e.cid.toNat St.success 0 ∈ t.sent)

/-- With the sideband up a STATUS QUERY is answered with the status word. With the link up at full width, a degradation to x32 sets WIDTH and WIDTH_DEGRADED, and a retraining sets RETRAIN. The withdrawal of bus mastering clears BME and, with no more transfers in progress than a pickup may hold, leaves every unit as it is; its return with no transfer waiting sets it and sends the pending message of an unmasked vector, and in step 7 starts the firmware fetch that waited for it. A released delivery hold of a held cluster sets HOLD_EXPIRED. -/
def Obligations.HostLinkAndBusMastering : Prop :=
  (∀ (s : State) , s.dev.flag Reg.HIF_STATUS_SB_UP = true → After (.sidebandStatusQuery) s fun t => Out.sideband 3 (3 +
      65536 * s.dev.bootWord) ∈ t.sent) ∧
  (∀ (s : State) , s.dev.flag Reg.HIF_STATUS_LINK_UP = true → s.dev.flag Reg.HIF_STATUS_WIDTH = false → After
      (.linkWidthDegrade) s fun t => t.dev.rd Reg.HIF_STATUS_WIDTH = 1 ∧ t.dev.flag Reg.HIF_ERR_WIDTH_DEGRADED = true) ∧
  (∀ (s : State) , s.dev.flag Reg.HIF_STATUS_LINK_UP = true → After (.linkRetrain) s fun t => t.dev.flag
      Reg.HIF_ERR_RETRAIN = true ∧ t.dev.flag Reg.HIF_STATUS_LINK_UP = true) ∧
  (∀ (s : State) , After (.busMasterDisable) s fun t => t.dev.bme = false ∧ (s.dev.mmu.xfers.length ≤ 4 → SameUnits
      s.dev t.dev)) ∧
  (∀ (s : State) (v : Nat), s.dev.flag Reg.HIF_STATUS_LINK_UP = true → quiet s.dev = true → v ∈ s.dev.pba → mget
      s.dev.msixTab 1 (4 * v + 3) % 2 = 0 → After (.busMasterEnable) s fun t => t.dev.bme = true ∧ Out.msix v ∈ t.sent)
      ∧
  (∀ (s : State) , s.dev.flag Reg.HIF_STATUS_LINK_UP = true → s.dev.bme = false → s.dev.mmu.xfers = [] → s.dev.atStep 6
      = true → s.dev.flag Reg.HIF_FW_CTL_GO = true → s.dev.rd Reg.HIF_FW_CTL_STATUS = 0 → s.dev.flag Reg.HIF_BOOT_ROM =
      false → s.dev.rd Reg.HIF_BOOT_IMAGE = 0 → s.dev.rd Reg.HIF_FW_LEN_LEN ≤ 2 ^ 24 → After (.busMasterEnable) s fun t
      => t.dev.flag Reg.HIF_FW_CTL_GO = false ∧ t.dev.rd Reg.HIF_FW_CTL_STATUS = 1 ∧ Out.fwFetch (s.dev.rd
      Reg.HIF_FW_ADDR_LO_ADDR + 2 ^ 32 * s.dev.rd Reg.HIF_FW_ADDR_HI_ADDR) (s.dev.rd Reg.HIF_FW_LEN_LEN) ∈ t.sent) ∧
  (∀ (s : State) (p : Pk) (x : Xfer), s.dev.mmu.xfers.find? (fun y => (s.dev.heldCluster p y).isSome) = some x → After
      (.deliveryHoldExpiry p) s fun t => t.dev.flag Reg.HIF_ERR_HOLD_EXPIRED = true)

/-- The walk of a read that ends at a leaf, from the deepest table the walk caches hold, enters its page in the TLB and issues the read at the physical address that the TLB then gives, with the length up to the next 4-KiB boundary. The data of a read request that leaves bytes to move lets the next request go out on a page that translates, and the data of a command go into its buffer; the last data of a transfer that needs nothing more end it. A completion with an error, and one that does not come in time, set their HIF_ERR bit, count an error and open a fault (type 5; 4 for a table read) on which the transfer is parked. -/
def Obligations.WalksAndReadCompletions : Prop :=
  (∀ (s : State) (x : Nat) (y : Xfer) (reads : List TableRead) (level : Nat) (r w : Bool) (t0 : Tlb) (path : List
      WalkEnt) (phys : Nat), s.dev.mmu.xfers.find? (fun z => z.id == x && z.st == .walking) = some y →
      s.dev.mmu.xfers.find? (fun z => z.id == x) = some y → y.write = false → 0 < y.left → y.what.marker = false →
      s.dev.bme = true → (s.dev.root y.asid).isSome = true → s.dev.walkFrom y.asid y.va = (level, r, w) → walk y.asid
      y.va false level r w reads = .leaf t0 path → ((s.dev.walkAdd path).tlbAdd t0).tlbHit y.asid y.va false = some phys
      → s.dev.tagsOf y.cls ≤ 64 - 1 → After (.translationWalkDone x reads) s fun t => Out.hostRead x phys (min y.left
      (4096 - y.va % 4096)) ∈ t.sent) ∧
  (∀ (s : State) (x : Nat) (y : Xfer) (n phys : Nat) (bytes : List Byte), s.dev.mmu.xfers.find? (fun z => z.id == x) =
      some y → y.st = .issued n → y.write = false → y.what.marker = false → n < y.left → s.dev.bme = true → s.dev.tlbHit
      y.asid (y.va + n) false = some phys → s.dev.tagsOf y.cls ≤ 64 → After (.dmaReadCompletion x (.data bytes)) s fun t
      => Out.hostRead x phys (min (y.left - n) (4096 - (y.va + n) % 4096)) ∈ t.sent) ∧
  (∀ (s : State) (x : Nat) (y : Xfer) (n phys c : Nat) (k : Ctx) (bytes : List Byte), s.dev.mmu.xfers.find? (fun z =>
      z.id == x) = some y → y.st = .issued n → y.write = false → y.what.marker = false → n < y.left → s.dev.bme = true →
      s.dev.tlbHit y.asid (y.va + n) false = some phys → s.dev.tagsOf y.cls ≤ 64 → y.what = .dataRead c → s.dev.ctx c =
      some k → k.wait = .run → After (.dmaReadCompletion x (.data bytes)) s fun t => (t.dev.ctx c).map (·.buf) = some
      (k.buf ++ bytes.take n)) ∧
  (∀ (s : State) (x : Nat) (y : Xfer) (n : Nat), s.dev.mmu.xfers.find? (fun z => z.id == x) = some y → y.st = .issued n
      → y.what ≠ .dataRead noCtx → After (.dmaReadCompletion x .aborted) s fun t => t.dev.flag Reg.HIF_ERR_CPL_ERR =
      true ∧ t.dev.rd Reg.HIF_CNT_CPL_ERR_COUNT = min (2 ^ Reg.HIF_CNT_CPL_ERR_COUNT.w - 1) (s.dev.rd
      Reg.HIF_CNT_CPL_ERR_COUNT + 1)) ∧
  (∀ (s : State) (x : Nat) (y : Xfer) (n : Nat), s.dev.mmu.xfers.find? (fun z => z.id == x) = some y → y.st = .issued n
      → y.what ≠ .dataRead noCtx → After (.dmaReadCompletion x .unsupported) s fun t => t.dev.flag Reg.HIF_ERR_CPL_ERR =
      true ∧ t.dev.rd Reg.HIF_CNT_CPL_ERR_COUNT = min (2 ^ Reg.HIF_CNT_CPL_ERR_COUNT.w - 1) (s.dev.rd
      Reg.HIF_CNT_CPL_ERR_COUNT + 1)) ∧
  (∀ (s : State) (x : Nat) (y : Xfer) (n : Nat), s.dev.mmu.xfers.find? (fun z => z.id == x) = some y → y.st = .issued n
      → y.what ≠ .dataRead noCtx → After (.dmaReadCompletion x .poisoned) s fun t => t.dev.flag Reg.HIF_ERR_POISON_RX =
      true ∧ t.dev.rd Reg.HIF_CNT_CPL_ERR_COUNT = min (2 ^ Reg.HIF_CNT_CPL_ERR_COUNT.w - 1) (s.dev.rd
      Reg.HIF_CNT_CPL_ERR_COUNT + 1)) ∧
  (∀ (s : State) (x : Nat) (y : Xfer) (n : Nat), s.dev.mmu.xfers.find? (fun z => z.id == x) = some y → y.st = .issued n
      → y.what.isSelf = false → y.what ≠ .dataRead noCtx → y.what ≠ .sqFetch 0 → y.what.marker = false →
      ((s.dev.mmu.faults ++ s.dev.mmu.spill).all fun f => !(f.asid == y.asid && f.va / 4096 == y.va % 2 ^ 48 / 4096 &&
      f.write == y.write)) = true → s.dev.mmu.faults.length < 256 → After (.completionTimeout x) s fun t => t.dev.flag
      Reg.HIF_ERR_CPL_TIMEOUT = true ∧ t.dev.rd Reg.HIF_CNT_CPL_ERR_COUNT = min (2 ^ Reg.HIF_CNT_CPL_ERR_COUNT.w - 1)
      (s.dev.rd Reg.HIF_CNT_CPL_ERR_COUNT + 1) ∧ (t.dev.mmu.faults.find? fun f => f.id == s.dev.mmu.nextFault && f.va ==
      y.va % 2 ^ 48).map (·.type) = some 5 ∧ (t.dev.mmu.xfers.find? fun z => z.id == x).map (·.st) = some (.parked
      s.dev.mmu.nextFault)) ∧
  (∀ (s : State) (x : Nat) (y : Xfer) (n : Nat), s.dev.mmu.xfers.find? (fun z => z.id == x) = some y → y.st = .walking →
      y.what.isSelf = false → y.what ≠ .dataRead noCtx → y.what ≠ .sqFetch 0 → y.what.marker = false →
      ((s.dev.mmu.faults ++ s.dev.mmu.spill).all fun f => !(f.asid == y.asid && f.va / 4096 == y.va % 2 ^ 48 / 4096 &&
      f.write == y.write)) = true → s.dev.mmu.faults.length < 256 → After (.completionTimeout x) s fun t => t.dev.flag
      Reg.HIF_ERR_CPL_TIMEOUT = true ∧ t.dev.rd Reg.HIF_CNT_CPL_ERR_COUNT = min (2 ^ Reg.HIF_CNT_CPL_ERR_COUNT.w - 1)
      (s.dev.rd Reg.HIF_CNT_CPL_ERR_COUNT + 1) ∧ (t.dev.mmu.faults.find? fun f => f.id == s.dev.mmu.nextFault && f.va ==
      y.va % 2 ^ 48).map (·.type) = some 4 ∧ (t.dev.mmu.xfers.find? fun z => z.id == x).map (·.st) = some (.parked
      s.dev.mmu.nextFault))

/-- A lend of an aligned range of 4 to 64 GiB in a valid address space, none being lent, is the grant, and half of it bounds the staging index. A return with no grant completes; with the cache OFF the grant is gone. RESOLVE FAULT of an open fault closes it and completes: with RETRY the read parked on it, whose page translates now, goes out again; with ABORT the command whose data were parked completes with TRANSLATION FAULT and the transfer is gone. ASID_ROOT of an address space that nothing is bound to sets its root entry; INVALIDATE with no read on the link completes and counts. -/
def Obligations.HostMemoryAndFaults : Prop :=
  (∀ (s : State) (c : Nat) (k : Ctx) , startable s.dev c k { data := true, b := [40, 48, 49, 50, 51, 52, 53, 54, 55] } =
      true → (k.e.op == 0x0A && k.e.le 48 8 != 0) = true → s.dev.mmu.hlm = none → (s.dev.root (k.e.at 40)).isSome = true
      → k.e.data.toNat % 2 ^ 21 = 0 → k.e.le 48 8 % 2 ^ 21 = 0 → 2 ^ 32 ≤ k.e.le 48 8 → k.e.le 48 8 ≤ 2 ^ 36 →
      k.e.data.toNat + k.e.le 48 8 ≤ 2 ^ 48 → After (.lendMemory c) s fun t => t.dev.mmu.hlm = some (k.e.at 40,
      k.e.data.toNat, k.e.le 48 8) ∧ t.dev.rd Reg.SAL_IDX_SIZE_LOG2 = Nat.log2 (k.e.le 48 8 / 2) ∧ Out.completed k.sq
      k.e.cid.toNat St.success 0 ∈ t.sent) ∧
  (∀ (s : State) (c : Nat) (k : Ctx) , startable s.dev c k { data := true, b := [40] } = true → (k.e.op == 0x0A &&
      k.e.le 48 8 == 0) = true → s.dev.mmu.hlm = none → After (.returnMemory c) s fun t => Out.completed k.sq
      k.e.cid.toNat St.success 0 ∈ t.sent) ∧
  (∀ (s : State) (c : Nat) (k : Ctx) , startable s.dev c k { data := true, b := [40] } = true → (k.e.op == 0x0A &&
      k.e.le 48 8 == 0) = true → s.dev.mmu.hlm.isSome = true → s.dev.rd Reg.BRC_STATUS_STATE = 0 → After (.returnMemory
      c) s fun t => t.dev.mmu.hlm = none ∧ t.dev.flash.cal = s.dev.cal.sets ∧ t.dev.flag Reg.SAL_STATUS_INDEX_READY =
      false) ∧
  (∀ (s : State) (c : Nat) (k : Ctx) (f : OpenFault) (y : Xfer) (phys : Nat), startable s.dev c k
      { b := [40, 41, 42, 43] } = true → (k.e.op == 0x0C && k.e.at 42 == 0) = true → k.e.at 43 = 0 → f ∈
      s.dev.mmu.faults → f.id = k.e.le 40 2 → s.dev.parkedOn f.id = [y] → s.dev.mmu.xfers.find? (fun z => z.id == y.id)
      = some y → y.what.marker = false → s.dev.heldBackX y = false → s.dev.bme = true → y.write = false → 0 < y.left →
      s.dev.tlbHit y.asid y.va false = some phys → s.dev.tagsOf y.cls ≤ 63 → After (.resolveFaultRetry c) s fun t =>
      Out.completed k.sq k.e.cid.toNat St.success 0 ∈ t.sent ∧ Out.hostRead y.id phys (min y.left (4096 - y.va % 4096))
      ∈ t.sent ∧ (t.dev.mmu.faults.all fun g => g.id != f.id) = true) ∧
  (∀ (s : State) (c : Nat) (k : Ctx) (f : OpenFault) (y : Xfer) (c1 : Nat) (k1 : Ctx), startable s.dev c k
      { b := [40, 41, 42, 43] } = true → (k.e.op == 0x0C && k.e.at 42 == 1) = true → k.e.at 43 = 0 → f ∈
      s.dev.mmu.faults → f.id = k.e.le 40 2 → s.dev.parkedOn f.id = [y] → s.dev.mmu.xfers.find? (fun z => z.id == y.id)
      = some y → y.what.marker = false → s.dev.heldBackX y = false → y.what = .dataRead c1 → s.dev.ctx c1 = some k1 →
      k1.wait = .run → k1.mute = false → c1 ≠ c → After (.resolveFaultAbort c) s fun t => Out.completed k.sq
      k.e.cid.toNat St.success 0 ∈ t.sent ∧ Out.completed k1.sq k1.e.cid.toNat St.translationFault 0 ∈ t.sent ∧
      (t.dev.mmu.xfers.all fun z => z.id != y.id) = true ∧ (t.dev.mmu.faults.all fun g => g.id != f.id) = true) ∧
  (∀ (s : State) (c : Nat) (k : Ctx) , startable s.dev c k { b := [40, 41, 48, 49, 50, 51, 52, 53, 54, 55] } = true →
      isFeature 0x02 k.e = true → k.e.at 41 ≠ 0 → k.e.le 48 8 / 2 % 2 ^ 11 = 0 → k.e.le 48 8 / 2 ^ 52 = 0 →
      (s.dev.que.sqs.all fun e => e.2.all fun q => !(q.asid == k.e.at 41 && q.state == 0)) = true → (s.dev.que.cqs.all
      fun e => e.2.all fun q => !(q.asid == k.e.at 41 && !q.err)) = true → s.dev.mmu.hlm.all (fun h => h.1 != k.e.at 41)
      = true → After (.setFeatureAsidRoot c) s fun t => t.dev.root (k.e.at 41) = (if k.e.le 48 8 % 2 = 1 then some
      (k.e.le 48 8 / 4096 * 4096) else none) ∧ Out.completed k.sq k.e.cid.toNat St.success 0 ∈ t.sent) ∧
  (∀ (s : State) (c : Nat) (k : Ctx) , startable s.dev c k
      { b := [40, 41, 42, 48, 49, 50, 51, 52, 53, 54, 55, 56, 57, 58, 59] } = true → isFeature 0x03 k.e = true → k.e.at
      42 = 0 → k.e.le 48 8 = 0 → k.e.le 56 4 = 0 → s.dev.mmu.xfers = [] → After (.setFeatureInvalidate c) s fun t =>
      t.dev.rd Reg.MMU_CNT_INV_COUNT = min (2 ^ Reg.MMU_CNT_INV_COUNT.w - 1) (s.dev.rd Reg.MMU_CNT_INV_COUNT + 1) ∧
      t.dev.mmu.tlb.all (fun e => e.asid != k.e.at 41) = true ∧ Out.completed k.sq k.e.cid.toNat St.success 0 ∈ t.sent)

/-- With the queues enabled, polling running and bus mastering granted: a poll whose read faults stops polling and latches the fault with its type and address; a poll that finds a tail inside the admin ring takes it as the tail of the admin SQ. The one entry of a fetch that has arrived, well formed, with its opcode known, takes the lowest free context as a command not started, and the fetch index moves on. At the end of the coalescing time a CQ with entries not signalled sends its unmasked vector. -/
def Obligations.PollingFetchAndCoalescing : Prop :=
  (∀ (s : State) (rd : DoorbellRead) (type : Fin 6) (va : Nat), s.dev.flag Reg.QUE_STATUS_ENABLED = true → s.dev.flag
      Reg.QUE_STATUS_POLL_STOPPED = false → s.dev.bme = true → rd.fault = some (type, va) → va < 2 ^ 48 → After
      (.doorbellPoll rd) s fun t => t.dev.flag Reg.QUE_STATUS_POLL_STOPPED = true ∧ t.dev.flag Reg.QUE_ADMIN_FAULT_VALID
      = true ∧ t.dev.rd Reg.QUE_ADMIN_FAULT_TYPE = type.val ∧ t.dev.rd Reg.QUE_ADMIN_FAULT_SOURCE = 0 ∧ t.dev.rd
      Reg.QUE_ADMIN_VA_LO_VA = va % 2 ^ 32 ∧ t.dev.flag Reg.QUE_ERR_ADMIN_FAULT = true) ∧
  (∀ (s : State) (rd : DoorbellRead) (q : Sq), s.dev.flag Reg.QUE_STATUS_ENABLED = true → s.dev.flag
      Reg.QUE_STATUS_POLL_STOPPED = false → s.dev.bme = true → rd.fault = none → rd.tails = [] → s.dev.sq 0 = some q →
      rd.adminTail % 65536 < q.size → noneHeld s.dev = true → After (.doorbellPoll rd) s fun t => (t.dev.sq 0).map
      (·.tail) = some (rd.adminTail % 65536)) ∧
  (∀ (s : State) (q c : Nat) (e : Sqe) (x : Xfer) (a : Sq), s.dev.sq q = some a → s.dev.mmu.xfers.find? (fun z => z.what
      == .sqFetch q) = some x → x.st = .issued x.left → x.va + x.left = a.base + 64 * a.fetch + 64 → s.dev.malformed q a
      e = none → (knownOp e.op && !rowless e) = true → s.dev.freeCtx q = some c → noneHeld s.dev = true → After
      (.sqEntryFetch q [e]) s fun t => (t.dev.ctx c).map (fun k => (k.sq, k.e, k.wait)) = some (q, e, .fresh) ∧
      (t.dev.sq q).map (·.fetch) = some ((a.fetch + 1) % a.size) ∧ t.dev.rd Reg.QUE_CNT_FETCH_COUNT = min (2 ^
      Reg.QUE_CNT_FETCH_COUNT.w - 1) (s.dev.rd Reg.QUE_CNT_FETCH_COUNT + 1)) ∧
  (∀ (s : State) (n : Nat) (q : Cq), s.dev.cq n = some q → q.unsig ≠ 0 → s.dev.bme = true → mget s.dev.msixTab 1 (4 *
      q.vector + 3) % 2 = 0 → After (.coalesceTimeout n) s fun t => Out.msix q.vector ∈ t.sent)

/-- With valid parameters: CREATE QUEUE makes the SQ or the CQ with the base and size given; DELETE QUEUE of a disabled SQ, and of a CQ that no SQ uses, removes it; DISABLE QUEUE of an enabled SQ without commands leaves it DISABLED and completes with its head and counts; ENABLE QUEUE of a disabled SQ enables it at the index given, and of a CQ in ERROR clears the error; GET QUEUE STATE answers the packed state of an SQ. -/
def Obligations.QueueCommands : Prop :=
  (∀ (s : State) (c : Nat) (k : Ctx) , startable s.dev c k
      { data := true, b := [40, 42, 43, 44, 45, 46, 47, 48, 49, 50, 51] } = true → (k.e.op == 0x02) = true → k.e.at 40 =
      0 → s.dev.sq (k.e.le 42 2) = none → (k.e.le 42 2) ≠ 0 → (k.e.le 42 2) ≤ 512 → k.e.le 48 2 ≠ 0 → k.e.data.toNat %
      4096 = 0 → k.e.data.toNat < 2 ^ 48 → (s.dev.root (k.e.at 44)).isSome = true → k.e.at 45 ≤ 3 → (s.dev.cq (k.e.le 46
      2)).isSome = true → After (.createQueue c) s fun t => Out.completed k.sq k.e.cid.toNat St.success 0 ∈ t.sent ∧
      (t.dev.sq (k.e.le 42 2)).map (fun q => (q.base, q.size, q.cq)) = some (k.e.data.toNat, k.e.le 48 2 + 1, k.e.le 46
      2)) ∧
  (∀ (s : State) (c : Nat) (k : Ctx) , startable s.dev c k
      { data := true, b := [40, 42, 43, 44, 45, 46, 47, 48, 49, 50, 51] } = true → (k.e.op == 0x02) = true → k.e.at 40 =
      1 → s.dev.cq (k.e.le 42 2) = none → (k.e.le 42 2) ≠ 0 → (k.e.le 42 2) ≤ 512 → k.e.le 48 2 ≠ 0 → k.e.data.toNat %
      4096 = 0 → k.e.data.toNat < 2 ^ 48 → (s.dev.root (k.e.at 44)).isSome = true → k.e.at 45 = 0 → k.e.le 50 2 = 0 →
      k.e.le 46 2 ≤ 1023 → After (.createQueue c) s fun t => Out.completed k.sq k.e.cid.toNat St.success 0 ∈ t.sent ∧
      (t.dev.cq (k.e.le 42 2)).map (fun q => (q.base, q.size, q.vector)) = some (k.e.data.toNat, k.e.le 48 2 + 1, k.e.le
      46 2)) ∧
  (∀ (s : State) (c : Nat) (k : Ctx) , startable s.dev c k { b := [40, 42, 43] } = true → (k.e.op == 0x03) = true →
      k.e.at 40 = 0 → (k.e.le 42 2) ≠ 0 → (s.dev.sq (k.e.le 42 2)).map (·.state) = some 2 → After (.deleteQueue c) s fun
      t => Out.completed k.sq k.e.cid.toNat St.success 0 ∈ t.sent ∧ t.dev.sq (k.e.le 42 2) = none) ∧
  (∀ (s : State) (c : Nat) (k : Ctx) , startable s.dev c k { b := [40, 42, 43] } = true → (k.e.op == 0x03) = true →
      k.e.at 40 = 1 → (k.e.le 42 2) ≠ 0 → (s.dev.cq (k.e.le 42 2)).isSome = true → cqUnused s.dev (k.e.le 42 2) = true →
      After (.deleteQueue c) s fun t => Out.completed k.sq k.e.cid.toNat St.success 0 ∈ t.sent ∧ t.dev.cq (k.e.le 42 2)
      = none) ∧
  (∀ (s : State) (c : Nat) (k : Ctx) (q : Sq), startable s.dev c k { b := [40, 42, 43] } = true → (k.e.op == 0x04) =
      true → k.e.at 40 = 0 → (k.e.le 42 2) ≠ 0 → k.sq ≠ (k.e.le 42 2) → s.dev.sq (k.e.le 42 2) = some q → q.state = 0 →
      s.dev.ctxsOf (k.e.le 42 2) = [] → (s.dev.waiting fun w => w == .queueOff (k.e.le 42 2)) = [] → After
      (.disableQueue c) s fun t => Out.completed k.sq k.e.cid.toNat St.success (BitVec.ofNat 64 (q.head + 65536 *
      q.discarded + 2 ^ 32 * q.ended)) ∈ t.sent ∧ (t.dev.sq (k.e.le 42 2)).map (·.state) = some 2) ∧
  (∀ (s : State) (c : Nat) (k : Ctx) (q : Sq), startable s.dev c k { b := [40, 42, 43, 44, 45] } = true → (k.e.op ==
      0x05) = true → k.e.at 40 = 0 → (k.e.le 42 2) ≠ 0 → s.dev.sq (k.e.le 42 2) = some q → q.state = 2 → k.e.le 44 2 <
      q.size → After (.enableQueue c) s fun t => Out.completed k.sq k.e.cid.toNat St.success 0 ∈ t.sent ∧ (t.dev.sq
      (k.e.le 42 2)).map (fun q => (q.state, q.fetch, q.tail)) = some (0, k.e.le 44 2, k.e.le 44 2)) ∧
  (∀ (s : State) (c : Nat) (k : Ctx) , startable s.dev c k { b := [40, 42, 43, 44, 45] } = true → (k.e.op == 0x05) =
      true → k.e.at 40 = 1 → k.e.le 44 2 = 0 → (s.dev.cq (k.e.le 42 2)).map (·.err) = some true → s.dev.cqOf k.sq ≠
      (k.e.le 42 2) → After (.enableQueue c) s fun t => Out.completed k.sq k.e.cid.toNat St.success 0 ∈ t.sent ∧
      (t.dev.cq (k.e.le 42 2)).map (fun q => (q.err, q.tail, q.phase)) = some (false, 0, true)) ∧
  (∀ (s : State) (c : Nat) (k : Ctx) (q : Sq), startable s.dev c k { b := [40, 42, 43] } = true → (k.e.op == 0x06) =
      true → k.e.at 40 = 0 → s.dev.sq (k.e.le 42 2) = some q → After (.getQueueState c) s fun t => Out.completed k.sq
      k.e.cid.toNat St.success (BitVec.ofNat 64 (q.head + 2 ^ 16 * q.tail + 2 ^ 32 * q.latched + 2 ^ 48 * q.state + 2 ^
      52 * q.cause)) ∈ t.sent)

/-- With valid parameters: POLL sets the interval; COALESCE sets the count of the CQ; ARBITRATION sets the three weights; EVENT_FILTER sets the lowest severity posted; POWER_STATE from IDLE, in step 8 with no other command, completes and begins the entry to DEEP. GET FEATURE of POLL and of EVENT_FILTER answers what holds. -/
def Obligations.DeviceFeatures : Prop :=
  (∀ (s : State) (c : Nat) (k : Ctx) , startable s.dev c k { b := [40, 44, 45] } = true → isFeature 0x05 k.e = true → 5
      ≤ k.e.le 44 2 → k.e.le 44 2 ≤ 1000 → After (.setFeaturePoll c) s fun t => Out.completed k.sq k.e.cid.toNat
      St.success 0 ∈ t.sent ∧ t.dev.rd Reg.QUE_POLL_INTERVAL = k.e.le 44 2) ∧
  (∀ (s : State) (c : Nat) (k : Ctx) , startable s.dev c k { b := [40, 42, 43, 44, 46, 47] } = true → isFeature 0x07 k.e
      = true → (s.dev.cq (k.e.le 42 2)).isSome = true → k.e.le 46 2 ≠ 0 → After (.setFeatureCoalesce c) s fun t =>
      Out.completed k.sq k.e.cid.toNat St.success 0 ∈ t.sent ∧ (t.dev.cq (k.e.le 42 2)).map (fun q => (q.count,
      q.timeUs)) = some (k.e.at 44, k.e.le 46 2)) ∧
  (∀ (s : State) (c : Nat) (k : Ctx) , startable s.dev c k { b := [40, 41, 42, 43] } = true → isFeature 0x08 k.e = true
      → k.e.at 41 ≠ 0 → k.e.at 42 ≠ 0 → k.e.at 43 ≠ 0 → After (.setFeatureArbitration c) s fun t => Out.completed k.sq
      k.e.cid.toNat St.success 0 ∈ t.sent ∧ t.dev.que.weights = [k.e.at 41, k.e.at 42, k.e.at 43]) ∧
  (∀ (s : State) (c : Nat) (k : Ctx) , startable s.dev c k { b := [40, 41] } = true → isFeature 0x06 k.e = true → k.e.at
      41 ≤ 5 → After (.setFeatureEventFilter c) s fun t => Out.completed k.sq k.e.cid.toNat St.success 0 ∈ t.sent ∧
      t.evr.filter = k.e.at 41) ∧
  (∀ (s : State) (c : Nat) (k : Ctx) , startable s.dev c k { b := [40, 41] } = true → isFeature 0x01 k.e = true → k.e.at
      41 = 1 → s.dev.powerState = 2 → s.dev.bootStep = 8 → s.dev.safe = false → s.dev.que.ctxs = [(c, some k)] →
      s.dev.salState ≠ 2 → After (.setFeaturePowerState c) s fun t => t.dev.clk.entering = true ∧ Out.completed k.sq
      k.e.cid.toNat St.success 0 ∈ t.sent) ∧
  (∀ (s : State) (c : Nat) (k : Ctx) , startable s.dev c k { b := [40, 41, 42, 43] } = true → (k.e.op == 0x08) = true →
      k.e.at 40 = 5 → k.e.at 41 = 0 → k.e.at 42 = 0 → k.e.at 43 = 0 → After (.getFeature c) s fun t => Out.completed
      k.sq k.e.cid.toNat St.success (BitVec.ofNat 64 (s.dev.rd Reg.QUE_POLL_INTERVAL)) ∈ t.sent) ∧
  (∀ (s : State) (c : Nat) (k : Ctx) , startable s.dev c k { b := [40, 41, 42, 43] } = true → (k.e.op == 0x08) = true →
      k.e.at 40 = 6 → k.e.at 41 = 0 → k.e.at 42 = 0 → k.e.at 43 = 0 → After (.getFeature c) s fun t => Out.completed
      k.sq k.e.cid.toNat St.success (BitVec.ofNat 64 (s.evr.filter)) ∈ t.sent)

/-- With valid parameters and the buffer's page translated in the TLB: IDENTIFY writes 4 KiB, whose bytes the spec leaves open (log entry 2), and completes, and of a volume that is offline it completes with INVALID_STATE (log entry 148); DIAGNOSTIC snapshot of a window of at most 4 KiB writes the words of its registers in offset order and completes. DIAGNOSTIC clear returns the counters of the window to their reset value. PROGRESS of one known operation completes with its packed entry. -/
def Obligations.IdentifyDiagnosticProgress : Prop :=
  (∀ (s : State) (c : Nat) (k : Ctx) (a phys : Nat) , startable s.dev c k { volume := true, data := true, b := [40] } =
      true → (k.e.op == 0x01) = true → s.dev.bme = true → s.dev.mmu.xfers = [] → (s.dev.sq k.sq).map (·.asid) = some a →
      k.e.data.toNat % 4096 = 0 → s.dev.tlbHit a k.e.data.toNat true = some phys → k.e.at 40 ≤ 3 → k.e.at 40 ≠ 1 →
      k.e.volume = 0 → After (.identify c) s fun t => Out.completed k.sq k.e.cid.toNat St.success 0 ∈ t.sent ∧ wrote
      t.sent phys 4096 = true) ∧
  (∀ (s : State) (c : Nat) (k : Ctx) (x : DiscSet), startable s.dev c k { volume := true, data := true, b := [40] } =
      true → (k.e.op == 0x01) = true → k.e.at 40 = 1 → s.dev.volSet k.e.volume.toNat = some x → x.home = true →
      x.destroyed = false → x.offline = true → After (.identify c) s fun t => Out.completed k.sq k.e.cid.toNat
      St.invalidState 0 ∈ t.sent) ∧
  (∀ (s : State) (c : Nat) (k : Ctx) (a phys : Nat) (off n : Nat) , startable s.dev c k
      { data := true, b := [40, 41, 42, 43] } = true → (k.e.op == 0x3C && k.e.at 40 == 1) = true → s.dev.bme = true →
      s.dev.mmu.xfers = [] → (s.dev.sq k.sq).map (·.asid) = some a → k.e.data.toNat % 4096 = 0 → s.dev.tlbHit a
      k.e.data.toNat true = some phys → windowIs s.dev (k.e.at 41) (k.e.le 42 2) off n = true → 0 < n → n ≤ 4096 → After
      (.diagnosticSnapshot c) s fun t => Out.completed k.sq k.e.cid.toNat St.success 0 ∈ t.sent ∧ wroteBytes t.sent phys
      ((List.range (n / 4)).flatMap fun i => leBytes 4 (s.dev.readWord s.evr (off + 4 * i))) = true) ∧
  (∀ (s : State) (c : Nat) (k : Ctx) (off n key dflt : Nat) , startable s.dev c k { b := [40, 41, 42, 43] } = true →
      (k.e.op == 0x3C && k.e.at 40 == 0) = true → windowIs s.dev (k.e.at 41) (k.e.le 42 2) off n = true → counterKey off
      (off + n) key = true → ¬ key ∈ ringKeys → After (.diagnosticClear c) s fun t => Out.completed k.sq k.e.cid.toNat
      St.success 0 ∈ t.sent ∧ mget t.dev.fv dflt key = dflt) ∧
  (∀ (s : State) (c : Nat) (k : Ctx) (o : BgOp), startable s.dev c k { data := true, b := [40, 41] } = true → (k.e.op ==
      0x13) = true → k.e.le 40 2 ≠ 0xFFFF → k.e.data = 0 → s.dev.bgOp (k.e.le 40 2) = some o → After (.progress c) s fun
      t => Out.completed k.sq k.e.cid.toNat St.success (BitVec.ofNat 64 (progressOf (k.e.le 40 2) o)) ∈ t.sent)

/-- On a spindle that is present: LOADED of a blank disc, with memory granted and nothing in transfer, completes with 0 and holds a blank disc; of a readable disc of this format, of no set known here, it completes with the epoch and the identifier of its ledger. UNLOAD of a disc that nothing holds completes and leaves no disc. EMPTY with no burn there and no reader waiting completes and leaves no disc. With no I/O command in flight and nothing staged and unburned, FORMAT of the Saltern empties it, draws a key pair and completes with the identifier of its operation, and SANITISE does so with the secure part wiped. FORMAT of a blank disc stores the next format counter and completes with its operation. A step of a running FORMAT or SANITISE records the fraction done; the last step of a SANITISE ends it. -/
def Obligations.MediaFormatAndSanitise : Prop :=
  (∀ (s : State) (c : Nat) (k : Ctx) (led : LedgerRead), startable s.dev c k { b := [40, 41] } = true → isMedia 0 k.e =
      true → k.e.at 40 < 8 → s.dev.hasSp (k.e.at 40) = true → s.dev.mmu.hlm.isSome = true → (ledgerInfo led).blank =
      true → quiet s.dev = true → s.dev.clocked 11 = true → After (.mediaEventLoaded c led) s fun t => Out.completed
      k.sq k.e.cid.toNat St.success 0 ∈ t.sent ∧ (t.dev.disc (k.e.at 40)).map (·.blank) = some true) ∧
  (∀ (s : State) (c : Nat) (k : Ctx) (led : LedgerRead) (info : LedgerInfo), startable s.dev c k { b := [40, 41] } =
      true → isMedia 0 k.e = true → k.e.at 40 < 8 → s.dev.hasSp (k.e.at 40) = true → s.dev.mmu.hlm.isSome = true → info
      = ledgerInfo led → info.blank = false → info.readable = true → info.version = 1 → info.agree = true → info.member
      = none → s.dev.set.sets = [] → quiet s.dev = true → s.dev.clocked 11 = true → After (.mediaEventLoaded c led) s
      fun t => Out.completed k.sq k.e.cid.toNat St.success (BitVec.ofNat 64 (info.epoch % 512 + 2 ^ 16 * info.disc)) ∈
      t.sent ∧ (t.dev.disc (k.e.at 40)).map (fun x => (x.id, x.epoch, x.formatted)) = some (info.disc, info.epoch % 512,
      true)) ∧
  (∀ (s : State) (c : Nat) (k : Ctx) , startable s.dev c k { b := [40, 41] } = true → isMedia 1 k.e = true → k.e.at 40 <
      8 → s.dev.hasSp (k.e.at 40) = true → (s.dev.disc (k.e.at 40)).isSome = true → s.dev.unloadReady (k.e.at 40) = true
      → s.dev.clocked 11 = true → After (.mediaEventUnload c) s fun t => Out.completed k.sq k.e.cid.toNat St.success 0 ∈
      t.sent ∧ t.dev.disc (k.e.at 40) = none) ∧
  (∀ (s : State) (c : Nat) (k : Ctx) , startable s.dev c k { b := [40, 41] } = true → isMedia 2 k.e = true → k.e.at 40 <
      8 → s.dev.hasSp (k.e.at 40) = true → noBurns s.dev (k.e.at 40) = true → s.dev.set.wants = [] → s.dev.clocked 11 =
      true → After (.mediaEventEmpty c) s fun t => Out.completed k.sq k.e.cid.toNat St.success 0 ∈ t.sent ∧ t.dev.disc
      (k.e.at 40) = none) ∧
  (∀ (s : State) (c : Nat) (k : Ctx) , startable s.dev c k { b := [40, 42] } = true → (k.e.op == 0x11 && k.e.at 40 == 0)
      = true → k.e.at 42 ≤ 1 → s.dev.clearing = false → (k.e.at 42 == 1 || !s.dev.stagedAny) = true →
      s.dev.flash.geometryOk = true → s.dev.ioCtxs = [] → s.dev.stagedOpen = [] → s.dev.clocked 10 = true → After
      (.formatSaltern c) s fun t => Out.completed k.sq k.e.cid.toNat St.success (BitVec.ofNat 64 (s.dev.mgmt.bgNext)) ∈
      t.sent ∧ t.dev.salState = 3 ∧ t.dev.flash.pages = [] ∧ t.dev.flash.boot.keyGen = s.dev.flash.boot.keyGen + 1 ∧
      t.dev.flash.boot.formatted = false) ∧
  (∀ (s : State) (c : Nat) (k : Ctx) , startable s.dev c k { b := [40, 42] } = true → (k.e.op == 0x12) = true → k.e.at
      40 ≤ 1 → k.e.at 42 ≤ 1 → s.dev.clearing = false → (k.e.at 42 == 1 || !s.dev.stagedAny) = true → s.dev.ioCtxs = []
      → s.dev.stagedOpen = [] → s.dev.clocked 10 = true → After (.sanitise c) s fun t => Out.completed k.sq
      k.e.cid.toNat St.success (BitVec.ofNat 64 (s.dev.mgmt.bgNext)) ∈ t.sent ∧ t.dev.salState = 4 ∧ t.dev.flash.pages =
      [] ∧ t.dev.flash.boot.keyGen = s.dev.flash.boot.keyGen + 1 ∧ t.dev.flag Reg.MEM_STATUS_WIPED = true) ∧
  (∀ (s : State) (c : Nat) (k : Ctx) (x : Disc), startable s.dev c k { b := [40, 41, 42] } = true → (k.e.op == 0x11 &&
      k.e.at 40 == 1) = true → k.e.at 41 < 8 → s.dev.hasSp (k.e.at 41) = true → k.e.at 42 ≤ 1 → s.dev.disc (k.e.at 41) =
      some x → x.blank = true → x.foreign = false → s.dev.mgmt.bgOps = [] → s.dev.clocked 11 = true → After (.formatDisc
      c) s fun t => Out.completed k.sq k.e.cid.toNat St.success (BitVec.ofNat 64 (s.dev.mgmt.bgNext)) ∈ t.sent ∧
      t.dev.flash.boot.discCounter = s.dev.flash.boot.discCounter + 1 ∧ (t.dev.bgOp s.dev.mgmt.bgNext).map (fun o =>
      (o.type, o.state, o.object)) = some (1, 0, k.e.at 41)) ∧
  (∀ (s : State) (op fraction : Nat) (ok : Bool) (o : BgOp), s.dev.bgOp op = some o → o.state = 0 → o.type < 3 → quiet
      s.dev = true → After (.operationStepDone op false ok fraction) s fun t => (t.dev.bgOp op).map (·.done) = some (min
      65535 fraction) ∧ mget t.dev.flash.boot.ops none op = t.dev.bgOp op) ∧
  (∀ (s : State) (op fraction : Nat) (o : BgOp), s.dev.bgOp op = some o → o.state = 0 → o.type = 2 → quiet s.dev = true
      → After (.operationStepDone op true true fraction) s fun t => (t.dev.bgOp op).map (fun x => (x.state, x.done)) =
      some (1, 65535) ∧ t.dev.salState = (if s.dev.flash.boot.formatted then 2 else 0))

/-- CREATE SET with valid parameters, and members that pass every check, holds the set, whose members on this node owe a commit. DESTROY SET of a volume with nothing in flight or staged, no rebuild or reshape, and no member on this node, leaves no set and completes. RESHAPE SET with valid parameters and enough capacity, of a volume without stripes, holds the new set beside the old one and completes with its operation. A rebuild starts on a failed member that has its spare and enough survivors loaded. -/
def Obligations.SetCommands : Prop :=
  (∀ (s : State) (c : Nat) (k : Ctx) (buf : List Byte) (l : List (Nat × Nat)), startable s.dev c k
      { volume := true, count := true, data := true, b := [40, 41, 42] } = true → (k.e.op == 0x18) = true → k.e.at 42 ≤
      1 → k.e.volume.toNat ≠ 0 → k.e.volume.toNat ≠ 0xFFFF → s.dev.volSet k.e.volume.toNat = none →
      s.dev.set.sets.length < 256 → k.e.count.toNat = k.e.at 40 + k.e.at 41 → memberEntries k.e.count.toNat buf = some l
      → s.dev.membersCheck (k.e.at 40) (k.e.at 41) (k.e.at 42 == 1) l = none → s.dev.clocked 11 = true → After
      (.createSet c buf) s fun t => (t.dev.volSet k.e.volume.toNat).map (fun y => (y.k, y.p, y.members)) = some (k.e.at
      40, k.e.at 41, l)) ∧
  (∀ (s : State) (c : Nat) (k : Ctx) (x : DiscSet), startable s.dev c k { volume := true, b := [42] } = true → (k.e.op
      == 0x19) = true → k.e.at 42 ≤ 1 → s.dev.volSet k.e.volume.toNat = some x → x.home = true → x.destroyed = false →
      x.offline = false → x.reshaping = false → x.rebuilding = [] → s.dev.stagedOf k.e.volume.toNat = false →
      s.dev.ioCtxs = [] → s.dev.ownSides x = [] → s.dev.clocked 11 = true → After (.destroySet c) s fun t =>
      Out.completed k.sq k.e.cid.toNat St.success (BitVec.ofNat 64 (k.acc0)) ∈ t.sent ∧ t.dev.volSet k.e.volume.toNat =
      none) ∧
  (∀ (s : State) (c : Nat) (k : Ctx) (buf : List Byte) (l : List (Nat × Nat)) (x : DiscSet), startable s.dev c k
      { volume := true, count := true, data := true, b := [40, 41, 42] } = true → (k.e.op == 0x1A) = true → k.e.at 42 ≤
      1 → s.dev.volSet k.e.volume.toNat = some x → x.home = true → x.destroyed = false → x.offline = false → noReshape
      s.dev = true → k.e.count.toNat = k.e.at 40 + k.e.at 41 → memberEntries k.e.count.toNat buf = some l →
      s.dev.membersCheck (k.e.at 40) (k.e.at 41) (k.e.at 42 == 1) l = none → x.cap ≤ (s.dev.newSet (k.e.at 40) (k.e.at
      41) (k.e.at 42 == 1) (x.gen + 1) l).cap → s.dev.set.stripes = [] → quiet s.dev = true → s.dev.clocked 11 = true →
      After (.reshapeSet c buf) s fun t => Out.completed k.sq k.e.cid.toNat St.success (BitVec.ofNat 64
      (s.dev.mgmt.bgNext)) ∈ t.sent ∧ (t.dev.volSet k.e.volume.toNat).map (·.reshaping) = some true ∧ (t.dev.volSet
      (k.e.volume.toNat + 65536)).map (·.members) = some l) ∧
  (∀ (s : State) (vol m sp : Nat) (x : DiscSet) (y : Disc), s.dev.volSet vol = some x → s.dev.spindleOfDisc
      (x.members.getD m (0, 0)).1 = some sp → s.dev.disc sp = some y → s.dev.blankMember y = true → s.dev.flag
      Reg.SET_CFG_REBUILD_EN = true → s.dev.flag Reg.LCS_STATUS_TAMPER_HOLD = false → x.home = true → x.destroyed =
      false → m ∈ x.failed → m ∈ x.spared → noRebuild s.dev = true → s.dev.setLoaded x = true → s.dev.set.stripes = [] →
      quiet s.dev = true → s.dev.clocked 11 = true → After (.rebuildStart vol m) s fun t => (t.dev.volSet vol).map (fun
      z => (z.rebuilding, z.gen)) = some ([m], x.gen + 1) ∧ (t.dev.bgOp s.dev.mgmt.bgNext).map (fun o => (o.type,
      o.object, o.arg)) = some (3, vol, m))

/-- SPARE POOL add of formatted blank discs that are not in the pool, with no automatic spare selection, appends them and completes with the size of the pool; remove of discs in the pool takes them out; list, with the buffer's page translated and the pool within one page, writes the pool oldest first. SET STATE query completes with the set's state; offline and online set and clear it; fail member adds the member to the failed ones, when no spare selection or rebuild follows. -/
def Obligations.SparePoolAndSetState : Prop :=
  (∀ (s : State) (c : Nat) (k : Ctx) (buf : List Byte) (l : List (Nat × Nat)), startable s.dev c k
      { count := true, data := true, b := [40] } = true → isPool 0 k.e = true → k.e.count ≠ 0 → memberEntries
      k.e.count.toNat buf = some l → (((l.map (·.1)).eraseDups.length == l.length) && l.all fun q =>
      !(s.dev.set.pool.any fun r => r.1 == q.1)) = true → l.filterMap s.dev.memberCheck = [] → s.dev.flag
      Reg.SET_CFG_SPARE_AUTO = false → s.dev.clocked 11 = true → After (.sparePoolAdd c buf) s fun t => Out.completed
      k.sq k.e.cid.toNat St.success (BitVec.ofNat 64 (s.dev.set.pool.length + l.length)) ∈ t.sent ∧ t.dev.set.pool =
      s.dev.set.pool ++ l) ∧
  (∀ (s : State) (c : Nat) (k : Ctx) (buf : List Byte) (l : List (Nat × Nat)), startable s.dev c k
      { count := true, data := true, b := [40] } = true → isPool 1 k.e = true → k.e.count ≠ 0 → memberEntries
      k.e.count.toNat buf = some l → (l.all fun q => s.dev.set.pool.contains q) = true → s.dev.clocked 11 = true → After
      (.sparePoolRemove c buf) s fun t => t.dev.set.pool = s.dev.set.pool.filter (fun q => !l.contains q) ∧
      Out.completed k.sq k.e.cid.toNat St.success (BitVec.ofNat 64 ((s.dev.set.pool.filter fun q => !l.contains
      q).length)) ∈ t.sent) ∧
  (∀ (s : State) (c : Nat) (k : Ctx) (a phys : Nat) , startable s.dev c k { count := true, data := true, b := [40] } =
      true → isPool 2 k.e = true → s.dev.bme = true → s.dev.mmu.xfers = [] → (s.dev.sq k.sq).map (·.asid) = some a →
      k.e.data.toNat % 4096 = 0 → s.dev.tlbHit a k.e.data.toNat true = some phys → s.dev.set.pool ≠ [] → k.e.count ≠ 0 →
      (s.dev.set.pool.take k.e.count.toNat).length ≤ 512 → s.dev.clocked 11 = true → After (.sparePoolList c) s fun t =>
      Out.completed k.sq k.e.cid.toNat St.success (BitVec.ofNat 64 (s.dev.set.pool.length)) ∈ t.sent ∧ wroteBytes t.sent
      phys ((s.dev.set.pool.take k.e.count.toNat).flatMap fun q => leBytes 6 q.1 ++ leBytes 2 q.2) = true) ∧
  (∀ (s : State) (c : Nat) (k : Ctx) (x : DiscSet), startable s.dev c k { volume := true, b := [40] } = true →
      isSetState 0 k.e = true → s.dev.volSet k.e.volume.toNat = some x → x.home = true → x.destroyed = false →
      s.dev.clocked 11 = true → After (.setStateQuery c) s fun t => Out.completed k.sq k.e.cid.toNat St.success
      (BitVec.ofNat 64 ((s.dev.setResult k.e.volume.toNat))) ∈ t.sent) ∧
  (∀ (s : State) (c : Nat) (k : Ctx) (x : DiscSet), startable s.dev c k { volume := true, b := [40] } = true →
      isSetState 1 k.e = true → s.dev.volSet k.e.volume.toNat = some x → x.home = true → x.destroyed = false →
      s.dev.clocked 11 = true → After (.setStateOffline c) s fun t => t.dev.volSet k.e.volume.toNat = some
      { x with offline := true } ∧ Out.completed k.sq k.e.cid.toNat St.success (BitVec.ofNat 64 (t.dev.setResult
      k.e.volume.toNat)) ∈ t.sent) ∧
  (∀ (s : State) (c : Nat) (k : Ctx) (x : DiscSet), startable s.dev c k { volume := true, b := [40] } = true →
      isSetState 2 k.e = true → s.dev.volSet k.e.volume.toNat = some x → x.home = true → x.destroyed = false →
      s.dev.clocked 11 = true → After (.setStateOnline c) s fun t => t.dev.volSet k.e.volume.toNat = some
      { x with offline := false } ∧ Out.completed k.sq k.e.cid.toNat St.success (BitVec.ofNat 64 (t.dev.setResult
      k.e.volume.toNat)) ∈ t.sent) ∧
  (∀ (s : State) (c : Nat) (k : Ctx) (x : DiscSet), startable s.dev c k { volume := true, b := [40, 41] } = true →
      isSetState 3 k.e = true → s.dev.volSet k.e.volume.toNat = some x → x.home = true → x.destroyed = false → x.offline
      = false → k.e.at 41 < x.w → ¬ k.e.at 41 ∈ x.failed → x.rebuilding = [] → s.dev.flag Reg.SET_CFG_SPARE_AUTO = false
      → s.dev.clocked 11 = true → After (.setStateFailMember c) s fun t => (t.dev.volSet k.e.volume.toNat).map
      (·.failed) = some (x.failed ++ [k.e.at 41]) ∧ Out.completed k.sq k.e.cid.toNat St.success (BitVec.ofNat 64
      (t.dev.setResult k.e.volume.toNat)) ∈ t.sent)

/-- Into a slot other than the one that runs: a part at offset 0, or at the end of the parts loaded, that is a whole number of 4 KiB and does not yet reach the header or the length it gives, is appended and the command completes. ACTIVATE of a slot with a valid image, at the next reset, makes it the next active slot and completes. A target equal to the state (other than SERVICE under the tamper hold) completes with the state and has no other effect. From PROVISIONED to FIELD, with the code under the owner key and no lock-out, the state becomes FIELD, is fused, the transition is counted, and the failures in a row are forgotten. A code that does not match completes with AUTH_FAILED and is counted. At the end of the lock-out codes are checked again. -/
def Obligations.FirmwareAndLifeCycle : Prop :=
  (∀ (s : State) (c : Nat) (k : Ctx) (buf img : List Byte), startable s.dev c k
      { count := true, data := true, b := [40, 41, 42, 43, 44] } = true → (k.e.op == 0x24) = true → k.e.at 44 ≤ 1 →
      k.e.at 44 ≠ s.dev.mgmt.active → s.dev.mgmt.slots.length = 2 → k.e.count ≠ 0 → k.e.count.toNat ≤ buf.length →
      k.e.count.toNat % 4096 = 0 → (k.e.le 40 4 == 0 || (!(s.dev.mgmt.slots.getD (k.e.at 44) FwSlot.empty).valid &&
      k.e.le 40 4 == (s.dev.mgmt.slots.getD (k.e.at 44) FwSlot.empty).loaded)) = true → img = (if k.e.le 40 4 = 0 then
      [] else (s.dev.mgmt.slots.getD (k.e.at 44) FwSlot.empty).image) ++ buf.take k.e.count.toNat → img.length <
      (headerOf img).length → After (.firmwareLoad c buf) s fun t => Out.completed k.sq k.e.cid.toNat St.success 0 ∈
      t.sent ∧ (t.dev.mgmt.slots.getD (k.e.at 44) FwSlot.empty).image = img ∧ (t.dev.mgmt.slots.getD (k.e.at 44)
      FwSlot.empty).valid = false) ∧
  (∀ (s : State) (c : Nat) (k : Ctx) , startable s.dev c k { b := [40, 41] } = true → (k.e.op == 0x25) = true → k.e.at
      40 ≤ 1 → k.e.at 41 = 0 → (s.dev.mgmt.slots.getD (k.e.at 40) FwSlot.empty).valid = true → (s.dev.mgmt.slots.getD
      (k.e.at 40) FwSlot.empty).header.isSome = true → After (.firmwareActivate c) s fun t => Out.completed k.sq
      k.e.cid.toNat St.success 0 ∈ t.sent ∧ t.dev.mgmt.nextActive = k.e.at 40 ∧ t.dev.mgmt.activated = true) ∧
  (∀ (s : State) (c : Nat) (k : Ctx) (buf : List Byte), startable s.dev c k { data := true, b := [40] } = true → (k.e.op
      == 0x38) = true → k.e.at 40 ≤ 4 → s.dev.lifeCycle = k.e.at 40 → k.e.at 40 ≠ 3 → After (.lifeCycle c buf) s fun t
      => Out.completed k.sq k.e.cid.toNat St.success (BitVec.ofNat 64 (s.dev.lifeResult)) ∈ t.sent ∧ t.dev.lifeCycle =
      s.dev.lifeCycle ∧ t.dev.fuse = s.dev.fuse) ∧
  (∀ (s : State) (c : Nat) (k : Ctx) (key buf : List Byte), startable s.dev c k { data := true, b := [40] } = true →
      (k.e.op == 0x38) = true → s.dev.lifeCycle = 1 → k.e.at 40 = 2 → s.dev.mgmt.lockout = false → s.dev.ownerKey = some
      key → codeOf key (s.dev.keyed [0x4C, 0x43, 0x59, 0x43] (leBytes 1 s.dev.lifeCycle ++ leBytes 1 (k.e.at 40) ++
      leBytes 4 s.dev.fuse.transCnt)) = buf.take 16 → After (.lifeCycle c buf) s fun t => t.dev.lifeCycle = 2 ∧
      t.dev.fuse.lifeCycle = 2 ∧ t.dev.fuse.transCnt = (s.dev.fuse.transCnt + 1) % 2 ^ 32 ∧ t.dev.mgmt.authFails = 0 ∧
      Out.completed k.sq k.e.cid.toNat St.success (BitVec.ofNat 64 (t.dev.lifeResult)) ∈ t.sent) ∧
  (∀ (s : State) (c : Nat) (k : Ctx) (buf : List Byte), startable s.dev c k { data := true, b := [40] } = true → (k.e.op
      == 0x38) = true → s.dev.lifeCycle = 1 → k.e.at 40 = 2 → s.dev.mgmt.lockout = false → buf.length < 16 → After
      (.lifeCycle c buf) s fun t => t.dev.lifeCycle = 1 ∧ t.dev.mgmt.authFails = s.dev.mgmt.authFails + 1 ∧
      t.dev.mgmt.lockout = decide (8 ≤ s.dev.mgmt.authFails + 1) ∧ t.dev.flag Reg.LCS_ERR_AUTH_FAIL = true ∧
      Out.completed k.sq k.e.cid.toNat St.authFailed (BitVec.ofNat 64 (0)) ∈ t.sent) ∧
  (∀ (s : State) , After (.authLockoutEnd) s fun t => t.dev.mgmt.lockout = false ∧ t.dev.mgmt.authFails =
      s.dev.mgmt.authFails)

/-- With the buffer's page translated: READ of held records that fit in the page writes them and completes with the next sequence and their number; CHALLENGE writes the ends, the number and the code of the records it covers, under the recorder key. CLEAR up to a held sequence, with its code and no lock-out, completes, counts the clear, and leaves no record up to that sequence. -/
def Obligations.RecorderCommands : Prop :=
  (∀ (s : State) (c : Nat) (k : Ctx) (a phys : Nat) (e : EvRec), startable s.dev c k
      { lba := true, count := true, data := true } = true → (k.e.op == 0x28) = true → s.dev.bme = true → s.dev.mmu.xfers
      = [] → (s.dev.sq k.sq).map (·.asid) = some a → k.e.data.toNat % 4096 = 0 → s.dev.tlbHit a k.e.data.toNat true =
      some phys → (s.evr.range k.e.lba.toNat k.e.count.toNat).getLast? = some e → (s.evr.range k.e.lba.toNat
      k.e.count.toNat).length ≤ 64 → (s.evr.held.all fun q => q.payload.length == 40) = true → After (.recorderRead c) s
      fun t => Out.completed k.sq k.e.cid.toNat St.success (BitVec.ofNat 64 ((e.seq.toNat + 1) % 2 ^ 48 + 2 ^ 48 *
      (s.evr.range k.e.lba.toNat k.e.count.toNat).length)) ∈ t.sent ∧ wroteBytes t.sent phys ((s.evr.range k.e.lba.toNat
      k.e.count.toNat).flatMap EvRec.bytes) = true) ∧
  (∀ (s : State) (c : Nat) (k : Ctx) (a phys : Nat) (e f : EvRec) (key : List Byte), startable s.dev c k
      { lba := true, count := true, data := true, b := [48, 49, 50, 51, 52, 53, 54, 55, 56, 57, 58, 59, 60, 61, 62, 63] }
      = true → (k.e.op == 0x29) = true → s.dev.bme = true → s.dev.mmu.xfers = [] → (s.dev.sq k.sq).map (·.asid) = some a
      → k.e.data.toNat % 4096 = 0 → s.dev.tlbHit a k.e.data.toNat true = some phys → (s.evr.range k.e.lba.toNat
      k.e.count.toNat).head? = some e → (s.evr.range k.e.lba.toNat k.e.count.toNat).getLast? = some f →
      s.dev.recorderKey = some key → After (.recorderChallenge c) s fun t => Out.completed k.sq k.e.cid.toNat St.success
      0 ∈ t.sent ∧ wroteBytes t.sent phys (leBytes 6 e.seq.toNat ++ leBytes 6 f.seq.toNat ++ leBytes 4 (s.evr.range
      k.e.lba.toNat k.e.count.toNat).length ++ codeOf key (s.dev.keyed [0x52, 0x43, 0x48, 0x4C] (bytesAt k.e.b 8 16 ++
      (leBytes 6 e.seq.toNat ++ leBytes 6 f.seq.toNat) ++ (s.evr.range k.e.lba.toNat k.e.count.toNat).flatMap
      EvRec.bytes))) = true) ∧
  (∀ (s : State) (c : Nat) (k : Ctx) (key buf : List Byte), startable s.dev c k { lba := true, data := true } = true →
      (k.e.op == 0x2A) = true → s.dev.mgmt.lockout = false → s.evr.oldest.toNat ≤ k.e.lba.toNat → k.e.lba.toNat <
      s.evr.next.toNat → s.evr.live = true → s.evr.held.length < recorderSize → s.dev.ownerKey = some key → codeOf key
      (s.dev.keyed [0x52, 0x43, 0x4C, 0x52] (leBytes 6 k.e.lba.toNat ++ leBytes 4 s.evr.clears)) = buf.take 16 → After
      (.recorderClear c buf) s fun t => Out.completed k.sq k.e.cid.toNat St.success 0 ∈ t.sent ∧ t.evr.clears =
      s.evr.clears + 1 ∧ t.evr.next = s.evr.next + 1)

/-- With the staging index ready, no earlier overlapping WRITE, no seals asked for and the buffer's page translated: a READ of one LB that nothing has written delivers zeros and completes with one unwritten LB counted; one of an LB that is being programmed, with a good guard, delivers its data. A VERIFY of one LB that nothing has written completes with 0. A WRITE that passes its checks and finds admission space, and one that waited for that space and now finds it, sends the read of its data, whose page translates. COMMIT of a volume all of whose stripes are recorded completes with 0; one in whose range a stripe is not yet recorded waits for it. SEAL VOLUME of a volume all of whose stripes are recorded marks it sealed, to be recorded in every ledger, which it waits for. Once a SEAL VOLUME waits for its stripes, a WRITE of that volume completes with VOLUME_SEALED (log entry 145). LBA STATUS, when the runs fit its limit and the translated page, writes the runs and completes with their number. -/
def Obligations.ReadVerifyWriteCommitSeal : Prop :=
  (∀ (s : State) (c : Nat) (k : Ctx) (a phys : Nat) (x : DiscSet), startable s.dev c k
      { volume := true, lba := true, count := true, xflags := 1, data := true, seals := true } = true → (k.e.op == 0x80)
      = true → s.dev.bme = true → s.dev.mmu.xfers = [] → (s.dev.sq k.sq).map (·.asid) = some a → k.e.data.toNat % 4096 =
      0 → s.dev.tlbHit a k.e.data.toNat true = some phys → newCtx k = true → s.dev.flag Reg.SAL_STATUS_INDEX_READY =
      true → s.dev.salState = 2 → k.e.count = 1 → s.dev.earlierWrites k.order k.e = [] → s.dev.volSet k.e.volume.toNat =
      some x → s.dev.ioVerdict k.e true false = none → k.e.seals = false → s.dev.inFlight k.e.volume.toNat k.e.lba.toNat
      = none → s.dev.idxOf k.e.volume.toNat k.e.lba.toNat = none → s.dev.heldBlock k.e.volume.toNat k.e.lba.toNat = none
      → s.dev.isLost x k.e.volume.toNat k.e.lba.toNat = false → s.dev.burnedGen x k.e.volume.toNat k.e.lba.toNat = none
      → s.dev.clocked 11 = true → After (.read c) s fun t => Out.completed k.sq k.e.cid.toNat St.success (BitVec.ofNat
      64 (1)) ∈ t.sent ∧ wroteBytes t.sent phys (zeroBlock) = true) ∧
  (∀ (s : State) (c : Nat) (k : Ctx) (a phys : Nat) (x : DiscSet) (b : StagedLb), startable s.dev c k
      { volume := true, lba := true, count := true, xflags := 1, data := true, seals := true } = true → (k.e.op == 0x80)
      = true → s.dev.bme = true → s.dev.mmu.xfers = [] → (s.dev.sq k.sq).map (·.asid) = some a → k.e.data.toNat % 4096 =
      0 → s.dev.tlbHit a k.e.data.toNat true = some phys → newCtx k = true → s.dev.flag Reg.SAL_STATUS_INDEX_READY =
      true → s.dev.salState = 2 → k.e.count = 1 → s.dev.earlierWrites k.order k.e = [] → s.dev.volSet k.e.volume.toNat =
      some x → s.dev.ioVerdict k.e true false = none → k.e.seals = false → s.dev.inFlight k.e.volume.toNat k.e.lba.toNat
      = some b → b.data.length = 4096 → (isPad b.data b.tag || guardOk b.data b.tag) = true → s.dev.clocked 11 = true →
      After (.read c) s fun t => Out.completed k.sq k.e.cid.toNat St.success 0 ∈ t.sent ∧ wroteBytes t.sent phys
      (b.data) = true) ∧
  (∀ (s : State) (c : Nat) (k : Ctx) (x : DiscSet), startable s.dev c k
      { volume := true, lba := true, count := true, xflags := 1 } = true → (k.e.op == 0x83) = true → newCtx k = true →
      s.dev.flag Reg.SAL_STATUS_INDEX_READY = true → s.dev.salState = 2 → k.e.count = 1 → s.dev.earlierWrites k.order
      k.e = [] → s.dev.volSet k.e.volume.toNat = some x → s.dev.ioVerdict k.e false false = none → k.e.xflags.getLsbD 0
      = false → s.dev.inFlight k.e.volume.toNat k.e.lba.toNat = none → s.dev.idxOf k.e.volume.toNat k.e.lba.toNat = none
      → s.dev.heldBlock k.e.volume.toNat k.e.lba.toNat = none → s.dev.isLost x k.e.volume.toNat k.e.lba.toNat = false →
      s.dev.burnedGen x k.e.volume.toNat k.e.lba.toNat = none → s.dev.clocked 11 = true → After (.verify c) s fun t =>
      Out.completed k.sq k.e.cid.toNat St.success 0 ∈ t.sent) ∧
  (∀ (s : State) (c : Nat) (k : Ctx) (a phys : Nat) (x : DiscSet), startable s.dev c k
      { volume := true, lba := true, count := true, data := true, seals := true } = true → (k.e.op == 0x81) = true →
      s.dev.flag Reg.SAL_STATUS_INDEX_READY = true → s.dev.salState = 2 → s.dev.admits k.e = true → k.e.seals = false →
      s.dev.bme = true → s.dev.tagsOf 2 ≤ 703 → s.dev.asidOf k.sq = a → s.dev.tlbHit a k.e.data.toNat false = some phys
      → k.e.count ≠ 0 → newCtx k = true → s.dev.ioVerdict k.e true false = none → s.dev.volSet k.e.volume.toNat = some x
      → s.dev.cannotOverwrite x k.e = false → s.dev.clocked 10 = true → After (.write c) s fun t => Out.hostRead
      s.dev.mmu.nextX phys (min (4096 * k.e.count.toNat) (4096 - k.e.data.toNat % 4096)) ∈ t.sent) ∧
  (∀ (s : State) (c : Nat) (k : Ctx) (a phys : Nat), s.dev.ctx c = some k → k.wait = .admission → (k.e.op == 0x81) =
      true → s.dev.flag Reg.SAL_STATUS_INDEX_READY = true → s.dev.salState = 2 → s.dev.admits k.e = true → k.e.seals =
      false → s.dev.bme = true → s.dev.tagsOf 2 ≤ 703 → s.dev.asidOf k.sq = a → s.dev.tlbHit a k.e.data.toNat false =
      some phys → k.e.count ≠ 0 → s.dev.clocked 10 = true → After (.admissionGranted c) s fun t => Out.hostRead
      s.dev.mmu.nextX phys (min (4096 * k.e.count.toNat) (4096 - k.e.data.toNat % 4096)) ∈ t.sent) ∧
  (∀ (s : State) (c : Nat) (k : Ctx) (x : DiscSet), startable s.dev c k
      { volume := true, lba := true, count := true, data := true, seals := true } = true → (k.e.op == 0x81) = true →
      s.dev.volSet k.e.volume.toNat = some x → x.home = true → x.destroyed = false → x.offline = false → s.dev.sealing
      k.e.volume.toNat = true → s.dev.salState = 2 → s.dev.clocked 10 = true → After (.write c) s fun t => Out.completed
      k.sq k.e.cid.toNat St.volumeSealed 0 ∈ t.sent) ∧
  (∀ (s : State) (c : Nat) (k : Ctx) , startable s.dev c k { volume := true, lba := true, count := true, xflags := 1 } =
      true → (k.e.op == 0x82) = true → newCtx k = true → s.dev.ioVerdict k.e false true = none → ((s.dev.set.stripes.all
      fun e => e.2.all fun y => e.1 / 2 ^ 32 != k.e.volume.toNat || y.released) && (s.dev.que.ctxs.all fun e => e.2.all
      fun w => !(w.ingesting && w.e.volume == k.e.volume))) = true → s.dev.clocked 11 = true → After (.commit c) s fun t
      => Out.completed k.sq k.e.cid.toNat St.success 0 ∈ t.sent) ∧
  (∀ (s : State) (c : Nat) (k : Ctx) (x : DiscSet) (n : Nat) (y : Stripe), startable s.dev c k
      { volume := true, lba := true, count := true, xflags := 1 } = true → (k.e.op == 0x82) = true → newCtx k = true →
      s.dev.ioVerdict k.e false true = none → s.dev.volSet k.e.volume.toNat = some x → k.e.xflags.getLsbD 0 = false →
      s.dev.stripe k.e.volume.toNat n = some y → y.released = false → n * (16 * x.k) < k.e.lba.toNat + k.e.count.toNat →
      k.e.lba.toNat < (n + 1) * (16 * x.k) → k.e.count ≠ 0 → s.dev.clocked 11 = true → After (.commit c) s fun t =>
      ((t.dev.ctx c).map fun z => (z.wait, z.todo.contains n)) = some (.recorded, true)) ∧
  (∀ (s : State) (c : Nat) (k : Ctx) (x : DiscSet), startable s.dev c k { volume := true } = true → (k.e.op == 0x85) =
      true → newCtx k = true → s.dev.ioVerdict k.e false true = none → s.dev.volSet k.e.volume.toNat = some x →
      ((s.dev.set.stripes.all fun e => e.2.all fun y => e.1 / 2 ^ 32 != k.e.volume.toNat || y.released) &&
      (s.dev.que.ctxs.all fun e => e.2.all fun w => !(w.ingesting && w.e.volume == k.e.volume))) = true → s.dev.clocked
      11 = true → After (.sealVolume c) s fun t => ((t.dev.volSet k.e.volume.toNat).map fun z => (z.sealedVol, z.owed))
      = some (true, (List.range (2 * x.w)).filter fun i => !x.failed.contains (i / 2)) ∧ (t.dev.ctx c).map (·.wait) =
      some (.setCommit k.e.volume.toNat)) ∧
  (∀ (s : State) (c : Nat) (k : Ctx) (a phys : Nat) (x : DiscSet) (l : List (Nat × Nat × Nat × Nat)), startable s.dev c
      k { volume := true, lba := true, count := true, data := true, b := [40, 41, 42, 43] } = true → (k.e.op == 0x84) =
      true → s.dev.bme = true → s.dev.mmu.xfers = [] → (s.dev.sq k.sq).map (·.asid) = some a → k.e.data.toNat % 4096 = 0
      → s.dev.tlbHit a k.e.data.toNat true = some phys → newCtx k = true → s.dev.ioVerdict k.e false false = none →
      s.dev.volSet k.e.volume.toNat = some x → s.dev.earlierWrites k.order k.e = [] → s.dev.lbRuns x k.e.volume.toNat
      k.e.lba.toNat k.e.count.toNat = l → l ≠ [] → l.length ≤ k.e.le 40 4 → l.length ≤ 256 → s.dev.clocked 11 = true →
      After (.lbaStatus c) s fun t => Out.completed k.sq k.e.cid.toNat St.success (BitVec.ofNat 64 (l.length)) ∈ t.sent
      ∧ wroteBytes t.sent phys (l.flatMap fun q => leBytes 8 q.1 ++ leBytes 4 q.2.1 ++ leBytes 1 q.2.2.1 ++ leBytes 1 0
      ++ leBytes 2 q.2.2.2) = true)

/-- While the flash takes operations: the oldest program of a stream that reports good status stands on the flash, and one that fails marks PROG_FAIL. With no LBs waiting for a superblock, an erase that ends leaves no page in its own, which is free unless too many of its blocks are bad. A page read for the peer is answered with the LB it holds, and an uncorrectable one sets READ_UNCORR and counts. -/
def Obligations.SalternPrograms : Prop :=
  (∀ (s : State) (u : Fin 3) (p : Prog), s.dev.flashOk = true → s.dev.sal.progs.find? (fun q => q.stream == u.val &&
      q.issued) = some p → After (.pageProgramDone u true) s fun t => mget t.dev.flash.pages none (pageKey p.sb p.seg
      p.pg.page) = some p.pg) ∧
  (∀ (s : State) (u : Fin 3) (p : Prog), s.dev.flashOk = true → s.dev.sal.progs.find? (fun q => q.stream == u.val &&
      q.issued) = some p → After (.pageProgramDone u false) s fun t => t.dev.flag Reg.SAL_ERR_PROG_FAIL = true) ∧
  (∀ (s : State) (b : Nat), (s.dev.sb b).state = 4 → s.dev.sal.gcVictim ≠ some b → (s.dev.sal.progs.all fun q =>
      q.lun.isSome) = true → After (.blockEraseDone b none) s fun t => (t.dev.sb b).state = (if s.dev.luns < 8 *
      (s.dev.sb b).bad.length then 5 else 0) ∧ (t.dev.sb b).erases = (s.dev.sb b).erases + 1 ∧ t.dev.flash.pages.all
      (fun e => e.1 / (512 * 2048) != b) = true) ∧
  (∀ (s : State) (id n vol lba : Nat) (r : PRead), s.dev.sal.reads.find? (fun r => r.id == id && r.issued) = some r →
      r.why = .peer vol lba → n ≤ s.dev.rd Reg.SAL_CFG_RD_THR → s.dev.linkUp = true → quiet s.dev = true → After
      (.pageReadDone id (.good n)) s fun t => sentNer s.dev t.sent s.dev.peer.txSeq (.fetchData vol lba [(((r.pg.map fun
      g => g.slots).getD []).find? fun q => q.2.1 == vol && q.2.2.1 == lba).map (·.2.2.2)])) ∧
  (∀ (s : State) (id : Nat) (r : PRead), s.dev.sal.reads.find? (fun r => r.id == id && r.issued) = some r → r.why = .gc
      → quiet s.dev = true → After (.pageReadDone id .uncorrectable) s fun t => t.dev.flag Reg.SAL_ERR_READ_UNCORR =
      true ∧ t.dev.rd Reg.SAL_CNT_ERR_UNCORR = min (2 ^ Reg.SAL_CNT_ERR_UNCORR.w - 1) (s.dev.rd Reg.SAL_CNT_ERR_UNCORR +
      1))

/-- With memory granted to a ready Saltern and no command waiting, the index build sets INDEX_READY and the admission limit. Pending records are programmed as the next journal page. A checkpoint takes the next sequence. Garbage collection starts on the picked superblock. The stripes of a segment aged three quarters of the residency bound move to the front; at the bound it is reported. A due ledger commit burns the blocks of its snapshot into the next ledger band of its side. -/
def Obligations.SalternUpkeep : Prop :=
  (∀ (s : State) , s.dev.mmu.hlm.isSome = true → s.dev.salState = 2 → s.dev.flag Reg.SAL_STATUS_INDEX_READY = false →
      (s.dev.waiting fun w => w == .admission) = [] → (s.dev.waiting fun w => w == .ingest) = [] → (s.dev.mmu.xfers.all
      fun y => y.st != .done) = true → s.dev.clocked 10 = true → After (.indexBuild) s fun t => t.dev.flag
      Reg.SAL_STATUS_INDEX_READY = true ∧ t.dev.sal.idx = s.dev.buildIndex false ++ s.dev.sal.idx.filter (·.mirror)) ∧
  (∀ (s : State) , s.dev.flashOk = true → s.dev.sal.pend ≠ [] → s.dev.clocked 10 = true → After (.journalFlush) s fun t
      => t.dev.flash.journal = s.dev.flash.journal ++ [(s.dev.sal.jseq + 1, s.dev.sal.pend)] ∧ t.dev.sal.pend = [] ∧
      t.dev.sal.jseq = s.dev.sal.jseq + 1 ∧ Out.flash (.journal ((s.dev.sal.jseq + 1) % 6) (s.dev.sal.jseq + 1)
      s.dev.sal.pend) ∈ t.sent) ∧
  (∀ (s : State) , s.dev.flashOk = true → s.dev.salState = 2 → s.dev.clocked 10 = true → After (.checkpoint) s fun t =>
      t.dev.sal.ckptSeq = s.dev.sal.ckptSeq + 1 ∧ t.dev.flash.ckpts.getLast?.map (·.seq) = some (s.dev.sal.ckptSeq + 1))
      ∧
  (∀ (s : State) (b : Nat), s.dev.sal.gcVictim = none → s.dev.flashOk = true → s.dev.salState = 2 → s.dev.freeSbs <
      s.dev.rd Reg.SAL_CFG_GC_LOW → s.dev.gcPick = some b → s.dev.clocked 10 = true → After (.gcStart) s fun t =>
      t.dev.sal.gcVictim = some b ∧ t.dev.flag Reg.SAL_STATUS_GC = true) ∧
  (∀ (s : State) (lsn : Nat), (s.dev.seg lsn).isSome = true → 3 * s.dev.rd Reg.SAL_TIME_RESID_H * hourNs ≤ 4 *
      s.dev.ageOf lsn → s.dev.clocked 10 = true → After (.residencyPriority lsn) s fun t => t.dev.sal.priority =
      s.dev.stripesIn lsn ++ s.dev.sal.priority.filter (fun q => !(s.dev.stripesIn lsn).contains q)) ∧
  (∀ (s : State) (lsn : Nat), (s.dev.seg lsn).isSome = true → s.dev.rd Reg.SAL_TIME_RESID_H * hourNs ≤ s.dev.ageOf lsn →
      ¬ lsn ∈ s.dev.sal.aged → s.dev.clocked 10 = true → After (.residencyBound lsn) s fun t => t.dev.flag
      Reg.SAL_ERR_RESIDENCY = true ∧ lsn ∈ t.dev.sal.aged) ∧
  (∀ (s : State) (p : Pk) (x : Disc), s.dev.disc (spindleOf p.val) = some x → x.sideClosed (sideOf p.val) = false →
      s.dev.commitDue (spindleOf p.val) (sideOf p.val) = true → s.dev.clk.powerFail = false → s.dev.flag
      Reg.LCS_STATUS_TAMPER_HOLD = false → (s.dev.waiting fun w => w == .unload (spindleOf p.val)) = [] → After
      (.ledgerCommit p true) s fun t => (t.dev.disc (spindleOf p.val)).map (·.commits) = some (x.commits.set (sideOf
      p.val) (x.commits.getD (sideOf p.val) 0 + 1)) ∧ Out.ledger (2 * spindleOf p.val + sideOf p.val) (x.commits.getD
      (sideOf p.val) 0) (s.dev.ledgerBlocks (s.dev.ledgerAfter (spindleOf p.val) (sideOf p.val) true) (sideOf p.val)
      (x.commits.getD (sideOf p.val) 0)) ∈ t.sent)

/-- Four framed lanes in training bring the link up; the loss of a lane takes it down, keeps of what is not acknowledged the messages that are sent again later, and trains again. A HEARTBEAT is sent with the node's state and the sequences to acknowledge; a received one, for a peer that is already alive, is kept, counted, and ends the resending of what it acknowledges. Missed heartbeats of a live peer mark it lost. An acknowledgement is sent for every good sequence, and an unacknowledged message is sent again and counted. -/
def Obligations.PeerLinkAndHeartbeats : Prop :=
  (∀ (s : State) , s.dev.peer.training = true → s.dev.clocked 12 = true → After (.nerLinkUp) s fun t => t.dev.linkUp =
      true ∧ t.dev.peer.training = false) ∧
  (∀ (s : State) (lane : Fin 4), s.dev.linkUp = true → s.dev.peerAlive = false → s.dev.clocked 12 = true → After
      (.nerLaneLoss lane) s fun t => t.dev.linkUp = false ∧ t.dev.flag Reg.PEER_ERR_LANE_LOSS = true ∧
      t.dev.peer.unacked = s.dev.peer.unacked.filter (fun u => outlives u.2) ∧ t.dev.peer.training = true) ∧
  (∀ (s : State) , s.dev.flag Reg.PEER_STATUS_CONFIGURED = true → s.dev.linkUp = true → s.dev.clocked 12 = true → After
      (.heartbeatSend) s fun t => sentNer s.dev t.sent s.dev.peer.txSeq (.heartbeat
      { seq := s.dev.peer.txSeq, node := s.dev.node, role := s.dev.flag Reg.GLB_NODE_ROLE, lifeCycle := s.dev.lifeCycle, spindles := BitVec.ofNat 8 s.dev.grantMask, pickups := BitVec.ofNat 16 s.dev.ownMask, volumes := s.dev.homedVolumes, saltern := s.dev.salState, time := s.dev.now.toNat, acks := s.dev.peer.toAck })
      ∧ t.dev.peer.toAck = []) ∧
  (∀ (s : State) (m : Heartbeat), s.dev.linkUp = true → ¬ m.seq ∈ s.dev.peer.seen → s.dev.flag
      Reg.PEER_STATUS_CONFIGURED = true → s.dev.peer.waitClaim = false → s.dev.peerAlive = true → s.dev.clocked 12 =
      true → After (.heartbeatReceive m) s fun t => t.dev.peer.last = some m ∧ t.dev.peer.hbRun = s.dev.peer.hbRun + 1 ∧
      t.dev.peer.unacked = s.dev.peer.unacked.filter (fun u => !m.acks.contains u.1) ∧ m.seq ∈ t.dev.peer.toAck ∧
      t.dev.rd Reg.PEER_CNT_HB_COUNT = min (2 ^ Reg.PEER_CNT_HB_COUNT.w - 1) (s.dev.rd Reg.PEER_CNT_HB_COUNT + 1)) ∧
  (∀ (s : State) , s.dev.peerAlive = true → s.dev.sal.unacked = [] → s.dev.sal.fetching = [] → s.dev.flag
      Reg.PEER_CFG_AUTO_TAKEOVER = false → s.dev.clocked 12 = true → After (.heartbeatMiss) s fun t => t.dev.peerAlive =
      false ∧ t.dev.peer.lost = true ∧ t.dev.flag Reg.PEER_ERR_PEER_LOST = true) ∧
  (∀ (s : State) (q : BitVec 16), s.dev.linkUp = true → q ∈ s.dev.peer.toAck → s.dev.clocked 12 = true → After
      (.ackSend) s fun t => Out.nerAck q ∈ t.sent ∧ t.dev.peer.toAck = []) ∧
  (∀ (s : State) (q : BitVec 16) (m : NerMsg), s.dev.linkUp = true → s.dev.peer.unacked.find? (fun u => u.1 == q) = some
      (q, m) → s.dev.clocked 12 = true → After (.messageResend q) s fun t => sentNer s.dev t.sent q m ∧ t.dev.flag
      Reg.PEER_ERR_RESEND = true ∧ t.dev.rd Reg.PEER_CNT_LOSS_RESENT = min (2 ^ Reg.PEER_CNT_LOSS_RESENT.w - 1)
      (s.dev.rd Reg.PEER_CNT_LOSS_RESENT + 1))

/-- With the link up and a sequence not seen before: a mirrored page is programmed at the next page of the open segment of the mirror stream, to be acknowledged by its sequence; a MIRROR ACK covers every page up to its sequence; a journal page is programmed there as a page of type 3; a release leaves no mirrored LB in its range at or below its generation; a cluster is staged for its disc; a BURNED report marks the member in its stripe; a FETCH of an LB that is not mirrored here is answered with the not-held mark, and a FETCH DATA ends the wait for its LB. -/
def Obligations.MirroringAndCrossPair : Prop :=
  (∀ (s : State) (q : BitVec 16) (pg : FlashPage) (l n : Nat) (e : SegEnt), s.dev.linkUp = true → ¬ q ∈ s.dev.peer.seen
      → s.dev.salState = 2 → (s.dev.stream 1).lsn = some l → s.dev.sal.streams.length = 3 → s.dev.seg l = some e →
      (s.dev.stream 1).page = n → n < 2043 → s.dev.clocked 12 = true → After (.mirrorDataReceive q pg) s fun t =>
      t.dev.sal.progs.getLast?.map (fun p => (p.stream, p.ack, p.pg.page, p.pg.slots.map (·.2))) = some (1, pg.seq, n,
      pg.slots.map (·.2)) ∧ q ∈ t.dev.peer.toAck) ∧
  (∀ (s : State) (q : BitVec 16) (n : Nat), s.dev.linkUp = true → ¬ q ∈ s.dev.peer.seen → s.dev.clocked 12 = true →
      After (.mirrorAckReceive q n) s fun t => t.dev.sal.unacked = s.dev.sal.unacked.filter (fun u => !decide (u.1 ≤ n))
      ∧ q ∈ t.dev.peer.toAck) ∧
  (∀ (s : State) (q : BitVec 16) (recs : List (BitVec 128)) (l n : Nat) (e : SegEnt), s.dev.linkUp = true → ¬ q ∈
      s.dev.peer.seen → recs ≠ [] → s.dev.salState = 2 → (s.dev.stream 1).lsn = some l → s.dev.sal.streams.length = 3 →
      s.dev.seg l = some e → (s.dev.stream 1).page = n → n < 2043 → s.dev.clocked 12 = true → After (.journalReceive q
      recs) s fun t => t.dev.sal.progs.getLast?.map (fun p => (p.stream, p.pg.kind, p.pg.page, p.pg.recs)) = some (1, 3,
      n, recs) ∧ q ∈ t.dev.peer.toAck) ∧
  (∀ (s : State) (q : BitVec 16) (r : ReleaseRange), s.dev.linkUp = true → ¬ q ∈ s.dev.peer.seen → s.dev.clocked 12 =
      true → After (.mirrorReleaseReceive q [r]) s fun t => t.dev.sal.idx.all (fun e => !(e.vol == r.volume && e.mirror
      && decide (r.lba ≤ e.lba) && decide (e.lba < r.lba + r.count) && decide (e.gen ≤ r.gen))) = true ∧ q ∈
      t.dev.peer.toAck) ∧
  (∀ (s : State) (q : BitVec 16) (disc : Nat) (addr : Word) (words : List (List Byte)), s.dev.linkUp = true → ¬ q ∈
      s.dev.peer.seen → s.dev.clocked 12 = true → After (.clusterReceive q disc addr words) s fun t => (disc,
      addr.toNat, words) ∈ t.dev.set.guest ∧ q ∈ t.dev.peer.toAck) ∧
  (∀ (s : State) (q : BitVec 16) (r : BitVec 128) (x : DiscSet) (y : Stripe), s.dev.linkUp = true → ¬ q ∈
      s.dev.peer.seen → recAt r 8 4 = 1 → s.dev.volSet (recAt r 12 16) = some x → x.reshaping = false → s.dev.stripe
      (recAt r 12 16) (recAt r 28 32) = some y → y.burned.testBit (recAt r 92 4) = false → s.dev.clocked 12 = true →
      After (.burnReportReceive q [r]) s fun t => (t.dev.stripe (recAt r 12 16) (recAt r 28 32)).map (·.burned) = some
      (y.burned + 2 ^ recAt r 92 4)) ∧
  (∀ (s : State) (q : BitVec 16) (vol lba : Nat), s.dev.linkUp = true → ¬ q ∈ s.dev.peer.seen → s.dev.idxOf vol lba true
      = none → s.dev.clocked 12 = true → After (.fetchReceive q vol lba 1) s fun t => sentNer s.dev t.sent
      s.dev.peer.txSeq (.fetchData vol lba [none])) ∧
  (∀ (s : State) (q : BitVec 16) (vol lba : Nat) (e : IdxEnt), s.dev.linkUp = true → ¬ q ∈ s.dev.peer.seen → s.dev.idxOf
      vol lba true = some e → s.dev.clocked 12 = true → After (.fetchReceive q vol lba 1) s fun t =>
      (t.dev.sal.reads.any fun r => r.why == .peer vol lba) = true ∧ q ∈ t.dev.peer.toAck) ∧
  (∀ (s : State) (q : BitVec 16) (vol lba l n : Nat) (b : StagedLb) (e : SegEnt), s.dev.linkUp = true → ¬ q ∈
      s.dev.peer.seen → (vol, lba) ∈ s.dev.sal.fetching → (s.dev.stream 0).lsn = some l → s.dev.sal.streams.length = 3 →
      s.dev.seg l = some e → (s.dev.stream 0).page = n → n < 2043 → (s.dev.waiting fun w => w == .staging) = [] →
      (s.dev.waiting fun w => w == .ingest) = [] → (s.dev.mmu.xfers.all fun y => y.st != .done) = true → s.dev.clocked
      12 = true → After (.fetchDataReceive q vol lba [some b]) s fun t => t.dev.sal.fetching = s.dev.sal.fetching.erase
      (vol, lba) ∧ t.dev.sal.progs.getLast?.map (fun p => (p.stream, p.pg.page, p.pg.slots.map (·.2))) = some (0, n,
      [(vol, lba, b)]) ∧ q ∈ t.dev.peer.toAck) ∧
  (∀ (s : State) (q : BitVec 16) (vol lba : Nat), s.dev.linkUp = true → ¬ q ∈ s.dev.peer.seen → (vol, lba) ∈
      s.dev.sal.fetching → s.dev.idxOf vol lba = none → (s.dev.waiting fun w => w == .staging) = [] → quiet s.dev = true
      → s.dev.clocked 12 = true → After (.fetchDataReceive q vol lba [none]) s fun t => t.dev.sal.fetching =
      s.dev.sal.fetching.erase (vol, lba))

/-- PEER CONFIGURE with valid parameters and the link up sets the peer's node, interval and mirroring, and completes. At the end of the wait for the peer the home spindles that are free are requested. PEER TAKEOVER mode 0 requests a free spindle, and mode 1, with the peer alive, sends it a RELEASE REQUEST, and requests the spindle at once if the peer reports none of those named as its own, else waits for that; either completes at once with the spindle in its result if the node holds all it names; a denied request is made again and noted. A RELEASE REQUEST for spindles releases them. A HOME message that names another node moves away the home of a set none of whose spindles is held here; a node that may becomes the home and says so. -/
def Obligations.PeerOwnershipAndHome : Prop :=
  (∀ (s : State) (c : Nat) (k : Ctx) , startable s.dev c k { b := [40, 41, 42, 44, 45] } = true → (k.e.op == 0x30) =
      true → k.e.le 40 2 ≠ s.dev.node → k.e.le 40 2 < 2 ^ 14 → k.e.at 42 < 4 → 10 ≤ k.e.le 44 2 → k.e.le 44 2 ≤ 10000 →
      s.dev.linkUp = true → s.dev.clocked 12 = true → After (.peerConfigure c) s fun t => Out.completed k.sq
      k.e.cid.toNat St.success 0 ∈ t.sent ∧ t.dev.peerNode = k.e.le 40 2 ∧ t.dev.rd Reg.PEER_NODE_HB_US = k.e.le 44 2 ∧
      t.dev.flag Reg.PEER_STATUS_CONFIGURED = true ∧ t.dev.mgmt.mirrorIngest = (k.e.at 42 % 2 == 1) ∧
      t.dev.mgmt.mirrorJournal = decide (2 ≤ k.e.at 42)) ∧
  (∀ (s : State) (n : Nat), s.dev.peer.waitClaim = true → n < 8 → (s.dev.rd Reg.PEER_CFG_HOME_SP).testBit n = true →
      s.dev.hasSp n = true → s.dev.granted n = false → s.dev.peerHasSp n = false → s.dev.clocked 12 = true → After
      (.claimWaitEnd) s fun t => t.dev.peer.waitClaim = false ∧ t.dev.flag Reg.MOT_SP_STATUS_REQ n = true) ∧
  (∀ (s : State) (c : Nat) (k : Ctx) (n : Nat), startable s.dev c k { b := [40, 41, 42, 43] } = true → isTakeover 0 k.e
      = true → k.e.le 40 2 = 0 → n < 8 → (k.e.at 42).testBit n = true → s.dev.isAB = false → s.dev.granted n = false →
      s.dev.peerHasSp n = false → s.dev.clocked 12 = true → After (.peerTakeoverClaim c) s fun t => t.dev.flag
      Reg.MOT_SP_STATUS_REQ n = true ∧ ((t.dev.ctx c).map fun z => waitsForSpindle z.wait n) = some true) ∧
  (∀ (s : State) (c : Nat) (k : Ctx) (n : Nat), startable s.dev c k { b := [40, 41, 42, 43] } = true → isTakeover 0 k.e
      = true → k.e.le 40 2 = 0 → n < 8 → k.e.at 42 = 2 ^ n → s.dev.hasSp n = true → s.dev.granted n = true →
      s.dev.clocked 12 = true → After (.peerTakeoverClaim c) s fun t => Out.completed k.sq k.e.cid.toNat St.success
      (BitVec.ofNat 64 (65536 * 2 ^ n)) ∈ t.sent) ∧
  (∀ (s : State) (c : Nat) (k : Ctx) (n : Nat), startable s.dev c k { b := [40, 41, 42, 43] } = true → isTakeover 1 k.e
      = true → k.e.le 40 2 = 0 → n < 8 → k.e.at 42 = 2 ^ n → s.dev.hasSp n = true → s.dev.granted n = true → s.dev.flag
      Reg.PEER_STATUS_CONFIGURED = true → s.dev.peerAlive = true → s.dev.peerHas 0 (k.e.at 42) = false → s.dev.clocked
      12 = true → After (.peerTakeover c) s fun t => Out.completed k.sq k.e.cid.toNat St.success (BitVec.ofNat 64 (65536
      * 2 ^ n)) ∈ t.sent) ∧
  (∀ (s : State) (c : Nat) (k : Ctx) (n : Nat), startable s.dev c k { b := [40, 41, 42, 43] } = true → isTakeover 1 k.e
      = true → k.e.le 40 2 = 0 → n < 8 → (k.e.at 42).testBit n = true → s.dev.isAB = false → s.dev.granted n = false →
      s.dev.flag Reg.PEER_STATUS_CONFIGURED = true → s.dev.peerAlive = true → s.dev.linkUp = true → s.dev.peerHas 0
      (k.e.at 42) = false → s.dev.clocked 12 = true → After (.peerTakeover c) s fun t => sentNer s.dev t.sent
      s.dev.peer.txSeq (.releaseRequest (BitVec.ofNat 8 (k.e.at 42)) 0) ∧ t.dev.flag Reg.MOT_SP_STATUS_REQ n = true ∧
      t.dev.peer.wantSp = (s.dev.peer.wantSp ||| k.e.at 42) ∧ ((t.dev.ctx c).map fun z => waitsForSpindle z.wait n) =
      some true) ∧
  (∀ (s : State) (c : Nat) (k : Ctx) , startable s.dev c k { b := [40, 41, 42, 43] } = true → isTakeover 1 k.e = true →
      s.dev.isAB = false → s.dev.flag Reg.PEER_STATUS_CONFIGURED = true → s.dev.peerAlive = true → s.dev.linkUp = true →
      s.dev.peerHas (k.e.le 40 2) (k.e.at 42) = true → s.dev.clocked 12 = true → After (.peerTakeover c) s fun t =>
      sentNer s.dev t.sent s.dev.peer.txSeq (.releaseRequest (BitVec.ofNat 8 (k.e.at 42)) (BitVec.ofNat 16 (k.e.le 40
      2))) ∧ (t.dev.ctx c).map (·.wait) = some (.release (k.e.le 40 2) (k.e.at 42))) ∧
  (∀ (s : State) (n : Nat), s.dev.peer.lost = true → n < 8 → s.dev.peer.wantSp.testBit n = true → s.dev.granted n =
      false → s.dev.clocked 12 = true → After (.takeoverRetry) s fun t => t.dev.flag Reg.PEER_ERR_DENIED = true ∧
      t.dev.flag Reg.MOT_SP_STATUS_REQ n = true) ∧
  (∀ (s : State) (q : BitVec 16) (m : BitVec 8) (n : Nat), s.dev.linkUp = true → ¬ q ∈ s.dev.peer.seen → n < 8 →
      m.getLsbD n = true → s.dev.clocked 12 = true → After (.releaseRequestReceive q m 0) s fun t => t.dev.flag
      Reg.MOT_SP_STATUS_REQ n = false ∧ t.dev.spState n = 0) ∧
  (∀ (s : State) (q : BitVec 16) (vol node gen : Nat) (x : DiscSet), s.dev.linkUp = true → ¬ q ∈ s.dev.peer.seen →
      s.dev.volSet vol = some x → x.gen ≤ gen → node ≠ s.dev.node → x.home = true → s.dev.holdsMember x = false →
      s.dev.clocked 12 = true → After (.homeReceive q vol node gen) s fun t => t.dev.volSet vol = some
      { x with home := false }) ∧
  (∀ (s : State) (vol : Nat) (x : DiscSet), s.dev.volSet vol = some x → x.home = false → s.dev.mayBeHome x = true →
      s.dev.linkUp = true → s.dev.clocked 12 = true → After (.becomeHome vol) s fun t => (t.dev.volSet vol).map (·.home)
      = some true ∧ sentNer s.dev t.sent s.dev.peer.txSeq (.home vol s.dev.node x.gen))

/-- For every state and operands, each of 46 event commands leaves every unit but the ones named for it (and the clock unit, the queues, the translation unit, the register fields and the pending bits) as it was: the flash, the Saltern, the sets, the peer, the ports, the spots, the decoder pool, the burns, the spindles, the axes, the servo engines, the memories, the fuses, the firmware, the calibration. -/
def Obligations.EventCommandsFrame : Prop :=
  (∀ (s : State) (u : Fin 14), After (.gateClosure u) s fun t => SameUnits s.dev t.dev) ∧
  (∀ (s : State) (u : Fin 14), After (.gateTimeout u) s fun t => SameUnits s.dev t.dev) ∧
  (∀ (s : State) (u : Fin 14), After (.autoGateIdle u) s fun t => SameUnits s.dev t.dev) ∧
  (∀ (s : State) (u : Fin 14), After (.autoGateWake u) s fun t => SameUnits s.dev t.dev) ∧
  (∀ (s : State) (n : Spn), After (.speedErrTimeout n) s fun t => SameUnits s.dev t.dev) ∧
  (∀ (s : State) (n : Spn), After (.modulationLimit n) s fun t => SameUnits s.dev t.dev) ∧
  (∀ (s : State) (count : Nat), After (.fboPeriodCheck count) s fun t => SameUnits s.dev t.dev) ∧
  (∀ (s : State) (toFbo : Bool), After (.mgmtClockSwitch toFbo) s fun t => SameUnits s.dev t.dev) ∧
  (∀ (s : State), After (.refclkValid) s fun t => SameUnits s.dev t.dev) ∧
  (∀ (s : State) (rising : Bool), After (.ppsEdge rising) s fun t => SameUnits s.dev t.dev) ∧
  (∀ (s : State), After (.ppsLoss) s fun t => SameUnits s.dev t.dev) ∧
  (∀ (s : State), After (.tsy10mLoss) s fun t => SameUnits s.dev t.dev) ∧
  (∀ (s : State), After (.fboStable) s fun t => SameUnits s.dev t.dev) ∧
  (∀ (s : State) (vddqMv : Nat), After (.rootPllLock vddqMv) s fun t => SameUnits s.dev t.dev) ∧
  (∀ (s : State) (pass : Bool), After (.selfTestDone pass) s fun t => SameUnits s.dev t.dev) ∧
  (∀ (s : State) (rate : Fin 2) (x32 : Bool) (repaired : Bool), After (.mainbandTrained rate x32 repaired) s fun t =>
      SameUnits { s.dev with mgmt := t.dev.mgmt } t.dev) ∧
  (∀ (s : State) (ptr : Byte) (data : List Byte) (reads : Nat), After (.i2cPointerWrite
      { ptr := ptr, data := data, reads := reads }) s fun t => SameUnits s.dev t.dev) ∧
  (∀ (s : State), After (.onfPllUnlock) s fun t => SameUnits s.dev t.dev) ∧
  (∀ (s : State), After (.tsy10mReturn) s fun t => SameUnits s.dev t.dev) ∧
  (∀ (s : State) (n : Spn), After (.angleBlendEnd n) s fun t => SameUnits { s.dev with spins := t.dev.spins } t.dev) ∧
  (∀ (s : State) (n : Spn), After (.alignEnd n) s fun t => SameUnits { s.dev with spins := t.dev.spins } t.dev) ∧
  (∀ (s : State) (n : Spn), After (.handover n) s fun t => SameUnits { s.dev with spins := t.dev.spins } t.dev) ∧
  (∀ (s : State) (n : Spn), After (.handoverTimeout n) s fun t => SameUnits { s.dev with spins := t.dev.spins } t.dev) ∧
  (∀ (s : State) (n : Spn), After (.escTimeout n) s fun t => SameUnits { s.dev with spins := t.dev.spins } t.dev) ∧
  (∀ (s : State) (p : Pk) (down : Bool) (lane : Fin 8), After (.laneRetrainDone p down lane) s fun t => SameUnits
      { s.dev with ports := t.dev.ports } t.dev) ∧
  (∀ (s : State) (p : Pk) (lane : Fin 8) (header : BitVec 16) (samples : List (BitVec 16)), After (.servoCellReceive p
      lane header samples) s fun t => SameUnits { s.dev with ports := t.dev.ports } t.dev) ∧
  (∀ (s : State) (p : Pk) (lane : Fin 8) (cell : BitVec 64), After (.currentCellReceive p lane cell) s fun t =>
      SameUnits { s.dev with ports := t.dev.ports, chops := t.dev.chops } t.dev) ∧
  (∀ (s : State) (g : Sys2Proof.Spot), After (.spotStall g) s fun t => SameUnits { s.dev with spots := t.dev.spots }
      t.dev) ∧
  (∀ (s : State) (g : Sys2Proof.Spot), After (.resumeBoostEnd g) s fun t => SameUnits
      { s.dev with spots := t.dev.spots } t.dev) ∧
  (∀ (s : State) (g : Sys2Proof.Spot), After (.acqGainEnd g) s fun t => SameUnits { s.dev with spots := t.dev.spots }
      t.dev) ∧
  (∀ (s : State) (g : Sys2Proof.Spot), After (.jointWaitExpiry g) s fun t => SameUnits { s.dev with yar := t.dev.yar }
      t.dev) ∧
  (∀ (s : State) (p : Pk), After (.kickEnd p) s fun t => SameUnits { s.dev with servos := t.dev.servos } t.dev) ∧
  (∀ (s : State) (p : Pk), After (.sledSeekDone p) s fun t => SameUnits { s.dev with servos := t.dev.servos } t.dev) ∧
  (∀ (s : State) (a : Ax), After (.homeStopWait a) s fun t => SameUnits { s.dev with axes := t.dev.axes } t.dev) ∧
  (∀ (s : State) (a : Ax), After (.standstillTimeout a) s fun t => SameUnits { s.dev with axes := t.dev.axes } t.dev) ∧
  (∀ (s : State) (a : Ax), After (.currentRaiseDone a) s fun t => SameUnits { s.dev with axes := t.dev.axes } t.dev) ∧
  (∀ (s : State) (p : Pk), After (.currentMissLimit p) s fun t => SameUnits { s.dev with chops := t.dev.chops } t.dev) ∧
  (∀ (s : State) (p : Pk) (ready : Bool) (lost : Bool), After (.chopperSlot p ready lost) s fun t => SameUnits
      { s.dev with axes := t.dev.axes, chops := t.dev.chops, ports := t.dev.ports, windows := t.dev.windows } t.dev) ∧
  (∀ (s : State) (role : Bool) (nidLo : BitVec 4) (intact : Bool), After (.fuseLoadDone role nidLo intact) s fun t =>
      SameUnits { s.dev with mem := t.dev.mem } t.dev) ∧
  (∀ (s : State) (img : Option FwHeader), After (.firmwareFetchDone img) s fun t => SameUnits
      { s.dev with mgmt := t.dev.mgmt } t.dev) ∧
  (∀ (s : State), After (.firmwareOfferTimeout) s fun t => SameUnits { s.dev with mgmt := t.dev.mgmt } t.dev) ∧
  (∀ (s : State), After (.nerLinkUp) s fun t => SameUnits { s.dev with peer := t.dev.peer } t.dev) ∧
  (∀ (s : State) (readBack : List (BitVec 64)), After (.invalidationDone readBack) s fun t => SameUnits
      { s.dev with mem := t.dev.mem, mgmt := t.dev.mgmt, sal := t.dev.sal } t.dev) ∧
  (∀ (s : State) (sb : Nat) (failed : Option Nat), After (.blockEraseDone sb failed) s fun t => SameUnits
      { s.dev with flash := t.dev.flash, peer := t.dev.peer, sal := t.dev.sal } t.dev) ∧
  (∀ (s : State), After (.gcStart) s fun t => SameUnits
      { s.dev with flash := t.dev.flash, peer := t.dev.peer, sal := t.dev.sal } t.dev) ∧
  (∀ (s : State) (seq : BitVec 16) (pg : FlashPage), After (.mirrorDataReceive seq pg) s fun t => SameUnits
      { s.dev with flash := t.dev.flash, peer := t.dev.peer, sal := t.dev.sal } t.dev)

/-- For twelve commands of twelve families, their units' clocks running: a command fetched and not started that the checks before its own refuse (its opcode, the life-cycle state, the tamper hold, or the ROM firmware, in that order) completes with the status of the first of them that fails, and leaves every unit and every register as it was. With a power-fail warning none of them starts: every unit and every register stays (but the clock gate of a unit that was gated automatically, which a request restarts). -/
def Obligations.RefusedCommandsChangeNothing : Prop :=
  (∀ (s : State) (c : Nat) (k : Ctx) (st : Nat), s.dev.ctx c = some k → k.wait = .fresh → k.mute = false →
      s.dev.clk.powerFail = false → isCache 0 k.e = true → s.dev.verdict k.e = some st → s.dev.clocked 13 = true → After
      (.cacheEnable c) s fun t => Out.completed k.sq k.e.cid.toNat st 0 ∈ t.sent ∧ SameUnits s.dev t.dev ∧ SameRegs []
      s.dev t.dev) ∧
  (∀ (s : State) (c : Nat) (k : Ctx) (st : Nat), s.dev.ctx c = some k → k.wait = .fresh → k.mute = false →
      s.dev.clk.powerFail = false → (k.e.op == 0x0A && k.e.le 48 8 != 0) = true → s.dev.verdict k.e = some st → After
      (.lendMemory c) s fun t => Out.completed k.sq k.e.cid.toNat st 0 ∈ t.sent ∧ SameUnits s.dev t.dev ∧ SameRegs []
      s.dev t.dev) ∧
  (∀ (s : State) (c : Nat) (k : Ctx) (st : Nat), s.dev.ctx c = some k → k.wait = .fresh → k.mute = false →
      s.dev.clk.powerFail = false → (k.e.op == 0x02) = true → s.dev.verdict k.e = some st → After (.createQueue c) s fun
      t => Out.completed k.sq k.e.cid.toNat st 0 ∈ t.sent ∧ SameUnits s.dev t.dev ∧ SameRegs [] s.dev t.dev) ∧
  (∀ (s : State) (c : Nat) (k : Ctx) (st : Nat), s.dev.ctx c = some k → k.wait = .fresh → k.mute = false →
      s.dev.clk.powerFail = false → isMotion 0 k.e = true → s.dev.verdict k.e = some st → s.dev.clocked 8 = true → After
      (.motionSpin c) s fun t => Out.completed k.sq k.e.cid.toNat st 0 ∈ t.sent ∧ SameUnits s.dev t.dev ∧ SameRegs []
      s.dev t.dev) ∧
  (∀ (s : State) (c : Nat) (k : Ctx) (st : Nat), s.dev.ctx c = some k → k.wait = .fresh → k.mute = false →
      s.dev.clk.powerFail = false → isServo 1 k.e = true → s.dev.verdict k.e = some st → s.dev.clocked 7 = true → After
      (.servoModeStop c) s fun t => Out.completed k.sq k.e.cid.toNat st 0 ∈ t.sent ∧ SameUnits s.dev t.dev ∧ SameRegs []
      s.dev t.dev) ∧
  (∀ (s : State) (c : Nat) (k : Ctx) (st : Nat), s.dev.ctx c = some k → k.wait = .fresh → k.mute = false →
      s.dev.clk.powerFail = false → isCalibrate 3 k.e = true → s.dev.verdict k.e = some st → s.dev.clocked 9 = true →
      After (.calibrateDiscard c) s fun t => Out.completed k.sq k.e.cid.toNat st 0 ∈ t.sent ∧ SameUnits s.dev t.dev ∧
      SameRegs [] s.dev t.dev) ∧
  (∀ (s : State) (c : Nat) (k : Ctx) (st : Nat), s.dev.ctx c = some k → k.wait = .fresh → k.mute = false →
      s.dev.clk.powerFail = false → isMedia 1 k.e = true → s.dev.verdict k.e = some st → s.dev.clocked 11 = true → After
      (.mediaEventUnload c) s fun t => Out.completed k.sq k.e.cid.toNat st 0 ∈ t.sent ∧ SameUnits s.dev t.dev ∧ SameRegs
      [] s.dev t.dev) ∧
  (∀ (s : State) (c : Nat) (k : Ctx) (st : Nat), s.dev.ctx c = some k → k.wait = .fresh → k.mute = false →
      s.dev.clk.powerFail = false → (k.e.op == 0x11 && k.e.at 40 == 0) = true → s.dev.verdict k.e = some st →
      s.dev.clocked 10 = true → After (.formatSaltern c) s fun t => Out.completed k.sq k.e.cid.toNat st 0 ∈ t.sent ∧
      SameUnits s.dev t.dev ∧ SameRegs [] s.dev t.dev) ∧
  (∀ (s : State) (c : Nat) (k : Ctx) (st : Nat), s.dev.ctx c = some k → k.wait = .fresh → k.mute = false →
      s.dev.clk.powerFail = false → isPool 2 k.e = true → s.dev.verdict k.e = some st → s.dev.clocked 11 = true → After
      (.sparePoolList c) s fun t => Out.completed k.sq k.e.cid.toNat st 0 ∈ t.sent ∧ SameUnits s.dev t.dev ∧ SameRegs []
      s.dev t.dev) ∧
  (∀ (s : State) (c : Nat) (k : Ctx) (st : Nat), s.dev.ctx c = some k → k.wait = .fresh → k.mute = false →
      s.dev.clk.powerFail = false → (k.e.op == 0x82) = true → s.dev.verdict k.e = some st → s.dev.clocked 11 = true →
      After (.commit c) s fun t => Out.completed k.sq k.e.cid.toNat st 0 ∈ t.sent ∧ SameUnits s.dev t.dev ∧ SameRegs []
      s.dev t.dev) ∧
  (∀ (s : State) (c : Nat) (k : Ctx) (st : Nat), s.dev.ctx c = some k → k.wait = .fresh → k.mute = false →
      s.dev.clk.powerFail = false → (k.e.op == 0x25) = true → s.dev.verdict k.e = some st → After (.firmwareActivate c)
      s fun t => Out.completed k.sq k.e.cid.toNat st 0 ∈ t.sent ∧ SameUnits s.dev t.dev ∧ SameRegs [] s.dev t.dev) ∧
  (∀ (s : State) (c : Nat) (k : Ctx) (st : Nat), s.dev.ctx c = some k → k.wait = .fresh → k.mute = false →
      s.dev.clk.powerFail = false → isTakeover 1 k.e = true → s.dev.verdict k.e = some st → s.dev.clocked 12 = true →
      After (.peerTakeover c) s fun t => Out.completed k.sq k.e.cid.toNat st 0 ∈ t.sent ∧ SameUnits s.dev t.dev ∧
      SameRegs [] s.dev t.dev) ∧
  (∀ (s : State) (c : Nat), s.dev.clk.powerFail = true → After (.cacheEnable c) s fun t => SameUnits s.dev t.dev ∧
      SameRegs [Reg.CLK_GATE_ST_RUN.key 0 0] s.dev t.dev) ∧
  (∀ (s : State) (c : Nat), s.dev.clk.powerFail = true → After (.lendMemory c) s fun t => SameUnits s.dev t.dev ∧
      SameRegs [] s.dev t.dev) ∧
  (∀ (s : State) (c : Nat), s.dev.clk.powerFail = true → After (.createQueue c) s fun t => SameUnits s.dev t.dev ∧
      SameRegs [] s.dev t.dev) ∧
  (∀ (s : State) (c : Nat), s.dev.clk.powerFail = true → After (.motionSpin c) s fun t => SameUnits s.dev t.dev ∧
      SameRegs [Reg.CLK_GATE_ST_RUN.key 0 0] s.dev t.dev) ∧
  (∀ (s : State) (c : Nat), s.dev.clk.powerFail = true → After (.servoModeStop c) s fun t => SameUnits s.dev t.dev ∧
      SameRegs [Reg.CLK_GATE_ST_RUN.key 0 0] s.dev t.dev) ∧
  (∀ (s : State) (c : Nat), s.dev.clk.powerFail = true → After (.calibrateDiscard c) s fun t => SameUnits s.dev t.dev ∧
      SameRegs [Reg.CLK_GATE_ST_RUN.key 0 0] s.dev t.dev) ∧
  (∀ (s : State) (c : Nat), s.dev.clk.powerFail = true → After (.mediaEventUnload c) s fun t => SameUnits s.dev t.dev ∧
      SameRegs [Reg.CLK_GATE_ST_RUN.key 0 0] s.dev t.dev) ∧
  (∀ (s : State) (c : Nat), s.dev.clk.powerFail = true → After (.formatSaltern c) s fun t => SameUnits s.dev t.dev ∧
      SameRegs [Reg.CLK_GATE_ST_RUN.key 0 0] s.dev t.dev) ∧
  (∀ (s : State) (c : Nat), s.dev.clk.powerFail = true → After (.sparePoolList c) s fun t => SameUnits s.dev t.dev ∧
      SameRegs [Reg.CLK_GATE_ST_RUN.key 0 0] s.dev t.dev) ∧
  (∀ (s : State) (c : Nat), s.dev.clk.powerFail = true → After (.commit c) s fun t => SameUnits s.dev t.dev ∧ SameRegs
      [Reg.CLK_GATE_ST_RUN.key 0 0] s.dev t.dev) ∧
  (∀ (s : State) (c : Nat), s.dev.clk.powerFail = true → After (.firmwareActivate c) s fun t => SameUnits s.dev t.dev ∧
      SameRegs [] s.dev t.dev) ∧
  (∀ (s : State) (c : Nat), s.dev.clk.powerFail = true → After (.peerTakeover c) s fun t => SameUnits s.dev t.dev ∧
      SameRegs [Reg.CLK_GATE_ST_RUN.key 0 0] s.dev t.dev)

/-- For six commands of six families that pass the checks before their own, their units' clocks running: when a field that the command does not use is not 0, it completes with INVALID_FIELD and leaves every unit and every register as it was. -/
def Obligations.UnusedFieldsAreRefused : Prop :=
  (∀ (s : State) (c : Nat) (k : Ctx) , s.dev.ctx c = some k → k.wait = .fresh → k.mute = false → s.dev.clk.powerFail =
      false → isCache 1 k.e = true → s.dev.verdict k.e = none → k.e.unusedZero { b := [40, 41] } = false → s.dev.clocked
      13 = true → After (.cacheDisable c) s fun t => Out.completed k.sq k.e.cid.toNat St.invalidField 0 ∈ t.sent ∧
      SameUnits s.dev t.dev ∧ SameRegs [] s.dev t.dev) ∧
  (∀ (s : State) (c : Nat) (k : Ctx) , s.dev.ctx c = some k → k.wait = .fresh → k.mute = false → s.dev.clk.powerFail =
      false → (k.e.op == 0x03) = true → s.dev.verdict k.e = none → k.e.unusedZero { b := [40, 42, 43] } = false → After
      (.deleteQueue c) s fun t => Out.completed k.sq k.e.cid.toNat St.invalidField 0 ∈ t.sent ∧ SameUnits s.dev t.dev ∧
      SameRegs [] s.dev t.dev) ∧
  (∀ (s : State) (c : Nat) (k : Ctx) , s.dev.ctx c = some k → k.wait = .fresh → k.mute = false → s.dev.clk.powerFail =
      false → isMotion 4 k.e = true → s.dev.verdict k.e = none → k.e.unusedZero { b := [40, 41] } = false →
      s.dev.clocked 8 = true → After (.motionHome c) s fun t => Out.completed k.sq k.e.cid.toNat St.invalidField 0 ∈
      t.sent ∧ SameUnits s.dev t.dev ∧ SameRegs [] s.dev t.dev) ∧
  (∀ (s : State) (c : Nat) (k : Ctx) , s.dev.ctx c = some k → k.wait = .fresh → k.mute = false → s.dev.clk.powerFail =
      false → isServo 2 k.e = true → s.dev.verdict k.e = none → k.e.unusedZero { b := [40, 41] } = false → s.dev.clocked
      7 = true → After (.servoModeRestart c) s fun t => Out.completed k.sq k.e.cid.toNat St.invalidField 0 ∈ t.sent ∧
      SameUnits s.dev t.dev ∧ SameRegs [] s.dev t.dev) ∧
  (∀ (s : State) (c : Nat) (k : Ctx) , s.dev.ctx c = some k → k.wait = .fresh → k.mute = false → s.dev.clk.powerFail =
      false → (k.e.op == 0x85) = true → s.dev.verdict k.e = none → k.e.unusedZero { volume := true } = false →
      s.dev.clocked 11 = true → After (.sealVolume c) s fun t => Out.completed k.sq k.e.cid.toNat St.invalidField 0 ∈
      t.sent ∧ SameUnits s.dev t.dev ∧ SameRegs [] s.dev t.dev) ∧
  (∀ (s : State) (c : Nat) (k : Ctx) , s.dev.ctx c = some k → k.wait = .fresh → k.mute = false → s.dev.clk.powerFail =
      false → isSetState 0 k.e = true → s.dev.verdict k.e = none → k.e.unusedZero { volume := true, b := [40] } = false
      → s.dev.clocked 11 = true → After (.setStateQuery c) s fun t => Out.completed k.sq k.e.cid.toNat St.invalidField 0
      ∈ t.sent ∧ SameUnits s.dev t.dev ∧ SameRegs [] s.dev t.dev)

/-- Table 16-8 row by row: in each of the five states (0 BLANK, 1 PROVISIONED, 2 FIELD, 3 SERVICE, 4 RETIRED) the commands of the row are permitted exactly where the table says Yes. A known opcode outside its states gets LIFE_CYCLE_DENIED as the verdict of its checks, and such a command, fetched and not started, completes with it (said here of WRITE). -/
def Obligations.LifeCycleDeniesOutsideItsStates : Prop :=
  (∀ (l : Nat) (e : Sqe), l < 5 → (e.op ∈ [0x01, 0x02, 0x03, 0x04, 0x05, 0x06, 0x08, 0x09, 0x0C, 0x13, 0x28, 0x29, 0x38,
      0x3C] → permitted l e = true) ∧ (e.op ∈ [0x24, 0x25] → permitted l e = decide (l ≠ 4)) ∧ (e.op ∈ [0x2A, 0x0A,
      0x10, 0x11, 0x12, 0x20, 0x40, 0x30, 0x31] → permitted l e = decide (l ∈ [1, 2, 3])) ∧ (e.op = 0x41 → permitted l e
      = decide (l ∈ (if e.at 41 = 3 then [1, 3] else [1, 2, 3]))) ∧ (e.op ∈ [0x18, 0x19, 0x1A, 0x1B, 0x1C, 0x80, 0x81,
      0x82, 0x83, 0x84, 0x85] → permitted l e = decide (l ∈ [2, 3]))) ∧
  (∀ (d : Dev) (e : Sqe), knownOp e.op = true → permitted d.lifeCycle e = false → d.verdict e = some St.lifeCycleDenied)
      ∧
  (∀ (s : State) (c : Nat) (k : Ctx) , s.dev.ctx c = some k → k.wait = .fresh → k.mute = false → s.dev.clk.powerFail =
      false → (k.e.op == 0x81) = true → permitted s.dev.lifeCycle k.e = false → quiet s.dev = true → s.dev.clocked 10 =
      true → After (.write c) s fun t => Out.completed k.sq k.e.cid.toNat St.lifeCycleDenied 0 ∈ t.sent)

/-- After every write of CLK_OUT: a CLKOUT that is driven runs at no more than 200 MHz (its source, in kHz as Table 10-1 gives it, divided by DIV + 1); a setting whose output would exceed that holds it low; and CORE, source 1, needs a DIV of at least 7. -/
def Obligations.ClockOutputStaysBelow200MHz : Prop :=
  ∀ (s : State) (val : Word), After (.clkOutWrite val) s fun t => (t.dev.clk.clkout = true → clkOutKhz (val.toNat / 2 %
      8) ≤ 200000 * (val.toNat / 16 % 256 + 1)) ∧ (200000 * (val.toNat / 16 % 256 + 1) < clkOutKhz (val.toNat / 2 % 8) →
      t.dev.clk.clkout = false) ∧ (val.toNat / 2 % 8 = 1 → val.toNat / 16 % 256 < 7 → t.dev.clk.clkout = false)

/-- For every state, and whether it succeeds or is refused, each of twenty commands leaves every unit but the queues, the translation unit and the pending bits as it was: the flash, the Saltern, the sets, the peer, the ports, the pickups, spindles and axes, the memories and the fuses. Of the registers it changes at most the ones named for it, the clock gate of a unit that was gated automatically, and those that posting to the host rings changes. -/
def Obligations.QueueAndFeatureCommandsFrame : Prop :=
  (∀ (s : State) (c : Nat), After (.setFeaturePoll c) s fun t => SameUnits s.dev t.dev ∧ SameRegs
      [Reg.QUE_POLL_INTERVAL.key 0 0] s.dev t.dev) ∧
  (∀ (s : State) (c : Nat), After (.setFeatureCoalesce c) s fun t => SameUnits s.dev t.dev ∧ SameRegs [] s.dev t.dev) ∧
  (∀ (s : State) (c : Nat), After (.setFeatureArbitration c) s fun t => SameUnits s.dev t.dev ∧ SameRegs [] s.dev t.dev)
      ∧
  (∀ (s : State) (c : Nat), After (.setFeatureEventFilter c) s fun t => SameUnits s.dev t.dev ∧ SameRegs [] s.dev t.dev)
      ∧
  (∀ (s : State) (c : Nat), After (.setFeatureInvalidate c) s fun t => SameUnits s.dev t.dev ∧ SameRegs
      [Reg.MMU_CNT_INV_COUNT.key 0 0] s.dev t.dev) ∧
  (∀ (s : State) (c : Nat), After (.setFeatureAsidRoot c) s fun t => SameUnits s.dev t.dev ∧ SameRegs ((List.range
      255).flatMap fun a => [Reg.MMU_AS_ROOT_LO_VALID.key a 0, Reg.MMU_AS_ROOT_LO_ADDR.key a 0,
      Reg.MMU_AS_ROOT_HI_ADDR.key a 0]) s.dev t.dev) ∧
  (∀ (s : State) (c : Nat), After (.getFeature c) s fun t => SameUnits s.dev t.dev ∧ SameRegs [] s.dev t.dev) ∧
  (∀ (s : State) (c : Nat), After (.getQueueState c) s fun t => SameUnits s.dev t.dev ∧ SameRegs [] s.dev t.dev) ∧
  (∀ (s : State) (c : Nat), After (.createQueue c) s fun t => SameUnits s.dev t.dev ∧ SameRegs [] s.dev t.dev) ∧
  (∀ (s : State) (c : Nat), After (.deleteQueue c) s fun t => SameUnits s.dev t.dev ∧ SameRegs [] s.dev t.dev) ∧
  (∀ (s : State) (c : Nat), After (.enableQueue c) s fun t => SameUnits s.dev t.dev ∧ SameRegs [] s.dev t.dev) ∧
  (∀ (s : State) (c : Nat), After (.progress c) s fun t => SameUnits s.dev t.dev ∧ SameRegs [] s.dev t.dev) ∧
  (∀ (s : State) (c : Nat), After (.identify c) s fun t => SameUnits s.dev t.dev ∧ SameRegs [] s.dev t.dev) ∧
  (∀ (s : State) (c : Nat), After (.diagnosticSnapshot c) s fun t => SameUnits s.dev t.dev ∧ SameRegs
      [Reg.CLK_GATE_ST_RUN.key 0 0] s.dev t.dev) ∧
  (∀ (s : State) (c : Nat), After (.recorderRead c) s fun t => SameUnits s.dev t.dev ∧ SameRegs [] s.dev t.dev) ∧
  (∀ (s : State) (c : Nat), After (.recorderChallenge c) s fun t => SameUnits s.dev t.dev ∧ SameRegs [] s.dev t.dev) ∧
  (∀ (s : State) (c : Nat), After (.lendMemory c) s fun t => SameUnits s.dev t.dev ∧ SameRegs [Reg.SAL_IDX_SIZE_LOG2.key
      0 0] s.dev t.dev) ∧
  (∀ (s : State) (c : Nat), After (.cacheMasks c) s fun t => SameUnits s.dev t.dev ∧ SameRegs [Reg.CLK_GATE_ST_RUN.key 0
      0, Reg.BRC_WAY_ALLOC.key 0 0, Reg.BRC_WAY_LOCK.key 0 0] s.dev t.dev) ∧
  (∀ (s : State) (c : Nat), After (.setStateQuery c) s fun t => SameUnits s.dev t.dev ∧ SameRegs
      [Reg.CLK_GATE_ST_RUN.key 0 0] s.dev t.dev) ∧
  (∀ (s : State) (c : Nat), After (.sparePoolList c) s fun t => SameUnits s.dev t.dev ∧ SameRegs
      [Reg.CLK_GATE_ST_RUN.key 0 0] s.dev t.dev)

/-- For every state and operands, each of twenty-one commands leaves every unit but the ones named for it (and the queues, the translation unit and the pending bits) as it was, and of the registers changes at most the ones named for it, for a move of axes those of the axes, the clock gate of a unit that was gated automatically, and those that posting to the host rings changes. Homing and the coordinated move are taken with no other coordinated move under way, whose axes they could brake. -/
def Obligations.OneUnitCommandsFrame : Prop :=
  (∀ (s : State) , After (.linkWidthDegrade) s fun t => SameUnits s.dev t.dev ∧ SameRegs [Reg.HIF_STATUS_WIDTH.key 0 0,
      Reg.HIF_ERR_WIDTH_DEGRADED.key 0 0] s.dev t.dev) ∧
  (∀ (s : State) , After (.linkRetrain) s fun t => SameUnits s.dev t.dev ∧ SameRegs [Reg.HIF_ERR_RETRAIN.key 0 0] s.dev
      t.dev) ∧
  (∀ (s : State) , After (.sidebandStatusQuery) s fun t => SameUnits s.dev t.dev ∧ SameRegs [] s.dev t.dev) ∧
  (∀ (s : State) (n : Nat), After (.coalesceTimeout n) s fun t => SameUnits s.dev t.dev ∧ SameRegs [] s.dev t.dev) ∧
  (∀ (s : State) (r : Fin 8) (i : Nat), After (.deadlineWindowEnd r i) s fun t => SameUnits
      { s.dev with windows := t.dev.windows } t.dev ∧ SameRegs [] s.dev t.dev) ∧
  (∀ (s : State) , After (.authLockoutEnd) s fun t => SameUnits { s.dev with mgmt := t.dev.mgmt } t.dev ∧ SameRegs []
      s.dev t.dev) ∧
  (∀ (s : State) (c : Nat), After (.calibrateFull c) s fun t => SameUnits { s.dev with cal := t.dev.cal } t.dev ∧
      SameRegs (Reg.CLK_GATE_ST_RUN.key 0 0 :: ((List.range 16).map fun p => Reg.CAL_PK_TEMP_PENDING.key p 0)) s.dev
      t.dev) ∧
  (∀ (s : State) (c : Nat), After (.calibrateDiscard c) s fun t => SameUnits
      { s.dev with cal := t.dev.cal, flash := t.dev.flash } t.dev ∧ SameRegs (Reg.CLK_GATE_ST_RUN.key 0 0 ::
      (Reg.CAL_STATUS_VALID.key 0 0 :: (List.range 16).map fun p => Reg.CAL_PK_TEMP_POINTS.key p 0)) s.dev t.dev) ∧
  (∀ (s : State) (c : Nat), After (.motionMove c) s fun t => SameUnits
      { s.dev with axes := t.dev.axes, coords := t.dev.coords } t.dev ∧ SameRegs (Reg.CLK_GATE_ST_RUN.key 0 0 ::
      ((List.range 262144).map (0x508000 * 8 + ·))) s.dev t.dev) ∧
  (∀ (s : State) (c : Nat), s.dev.coords = [] → After (.motionHome c) s fun t => SameUnits
      { s.dev with axes := t.dev.axes, coords := t.dev.coords } t.dev ∧ SameRegs (Reg.CLK_GATE_ST_RUN.key 0 0 ::
      ((List.range 262144).map (0x508000 * 8 + ·))) s.dev t.dev) ∧
  (∀ (s : State) (c : Nat), s.dev.coords = [] → After (.motionCoordinated c) s fun t => SameUnits
      { s.dev with axes := t.dev.axes, coords := t.dev.coords } t.dev ∧ SameRegs (Reg.CLK_GATE_ST_RUN.key 0 0 ::
      ((List.range 262144).map (0x508000 * 8 + ·))) s.dev t.dev) ∧
  (∀ (s : State) (c : Nat), After (.setStateOffline c) s fun t => SameUnits { s.dev with set := t.dev.set } t.dev ∧
      SameRegs [Reg.CLK_GATE_ST_RUN.key 0 0] s.dev t.dev) ∧
  (∀ (s : State) (c : Nat) (buf : List Byte), After (.sparePoolRemove c buf) s fun t => SameUnits
      { s.dev with set := t.dev.set } t.dev ∧ SameRegs [Reg.CLK_GATE_ST_RUN.key 0 0] s.dev t.dev) ∧
  (∀ (s : State) (l : Nat), After (.residencyPriority l) s fun t => SameUnits { s.dev with sal := t.dev.sal } t.dev ∧
      SameRegs [Reg.CLK_GATE_ST_RUN.key 0 0] s.dev t.dev) ∧
  (∀ (s : State) (l : Nat), After (.residencyBound l) s fun t => SameUnits { s.dev with sal := t.dev.sal } t.dev ∧
      SameRegs [Reg.CLK_GATE_ST_RUN.key 0 0, Reg.SAL_ERR_RESIDENCY.key 0 0] s.dev t.dev) ∧
  (∀ (s : State) , After (.journalFlush) s fun t => SameUnits
      { s.dev with sal := t.dev.sal, flash := t.dev.flash, peer := t.dev.peer } t.dev ∧ SameRegs
      [Reg.CLK_GATE_ST_RUN.key 0 0, Reg.SAL_JRNL_SEQ.key 0 0] s.dev t.dev) ∧
  (∀ (s : State) , After (.heartbeatSend) s fun t => SameUnits { s.dev with peer := t.dev.peer } t.dev ∧ SameRegs
      [Reg.CLK_GATE_ST_RUN.key 0 0] s.dev t.dev) ∧
  (∀ (s : State) , After (.ackSend) s fun t => SameUnits { s.dev with peer := t.dev.peer } t.dev ∧ SameRegs
      [Reg.CLK_GATE_ST_RUN.key 0 0] s.dev t.dev) ∧
  (∀ (s : State) (q : BitVec 16), After (.messageResend q) s fun t => SameUnits s.dev t.dev ∧ SameRegs
      [Reg.CLK_GATE_ST_RUN.key 0 0, Reg.PEER_ERR_RESEND.key 0 0, Reg.PEER_CNT_LOSS_RESENT.key 0 0] s.dev t.dev) ∧
  (∀ (s : State) (q : BitVec 16) (l : List (BitVec 128)), After (.journalReceive q l) s fun t => SameUnits
      { s.dev with peer := t.dev.peer, sal := t.dev.sal, flash := t.dev.flash } t.dev ∧ SameRegs
      [Reg.CLK_GATE_ST_RUN.key 0 0, Reg.SAL_JRNL_SEQ.key 0 0] s.dev t.dev) ∧
  (∀ (s : State) (q : BitVec 16) (a : Nat) (b : Word) (l : List (List Byte)), After (.clusterReceive q a b l) s fun t =>
      SameUnits { s.dev with peer := t.dev.peer, set := t.dev.set } t.dev ∧ SameRegs [Reg.CLK_GATE_ST_RUN.key 0 0] s.dev
      t.dev)

/-- For every state in which the recorder holds at most 16,384 records whose sequences rise by one and end just before the next sequence, and every next state that a step answers, whatever command is at the front of the queue, the recorder is so again. The premise rules out only recorders that no run reaches; that reset meets it is a statement of its own. -/
def Obligations.RecorderInvariantKept : Prop :=
  ∀ s t : State, RecorderOk s.evr → step s = .next t → RecorderOk t.evr

/-- After reset the recorder holds no record, and meets the invariant that RecorderInvariantKept says every step keeps. That the recorder starts empty is the model's choice (log entry 11). -/
def Obligations.RecorderOkAfterReset : Prop :=
  RecorderOk State.reset.evr

/-- A record entered in a running recorder takes the next sequence and stands last. While the recorder has space every older record stays; when it is full the oldest one goes, the overwrite count rises, saturating, and the event queue entry of that record no longer waits. -/
def Obligations.FullRecorderOverwritesItsOldest : Prop :=
  (∀ (r : Recorder) (q : RecReq), r.live = true → r.held.length < recorderSize → ((r.push q).held.getLast?.map (·.seq) =
      some r.next) ∧ (r.push q).held.dropLast = r.held ∧ (r.push q).next = r.next + 1 ∧ (r.push q).overwrite =
      r.overwrite) ∧
  (∀ (r : Recorder) (q : RecReq), r.live = true → r.held.length = recorderSize → ((r.push q).held.getLast?.map (·.seq) =
      some r.next) ∧ (r.push q).held.dropLast = r.held.tail ∧ (r.push q).next = r.next + 1 ∧ (r.push q).overwrite = min
      (2 ^ 32 - 1) (r.overwrite + 1) ∧ (r.push q).waiting.all (fun x => some x.seq != r.held.head?.map (·.seq)) = true)
end

