-- ==== Sys2Proof/Laws/SMap.lean ====
section
/-! SUPPORT. The laws of sparse maps: a read after a write, and that every operation keeps the canonical form. -/

namespace Sys2Proof.Machine

variable {α : Type}

/-- Reading the key that was erased gives the default. -/
theorem mget_merase_same (m : List (Nat × α)) (d : α) (k : Nat) : mget (merase m k) d k = d := by
  induction m with
  | nil => rfl
  | cons e t ih =>
    obtain ⟨k', v⟩ := e
    simp only [merase]; split
    · exact ih
    · simp only [mget]; rw [if_neg ‹_›]; exact ih

/-- Erasing a key leaves the others. -/
theorem mget_merase_ne (m : List (Nat × α)) (d : α) {k j : Nat} (h : j ≠ k) :
    mget (merase m k) d j = mget m d j := by
  induction m with
  | nil => rfl
  | cons e t ih =>
    obtain ⟨k', v⟩ := e
    simp only [merase]; split
    · subst_vars; simp only [mget]; rw [if_neg (Ne.symm h)]; exact ih
    · simp only [mget]; split <;> simp_all

/-- Reading the key that was inserted in a map that does not list it. -/
theorem mget_mins_same (m : List (Nat × α)) (d v : α) (k : Nat) (h : ∀ e ∈ m, e.1 ≠ k) :
    mget (mins m k v) d k = v := by
  induction m with
  | nil => simp [mins, mget]
  | cons e t ih =>
    obtain ⟨k', w⟩ := e
    simp only [mins]; split
    · simp only [mget]; rw [if_neg (h (k', w) (by simp))]; exact ih fun e he => h e (by simp [he])
    · simp [mget]

/-- Inserting a key leaves the others. -/
theorem mget_mins_ne (m : List (Nat × α)) (d v : α) {k j : Nat} (h : j ≠ k) :
    mget (mins m k v) d j = mget m d j := by
  induction m with
  | nil => simp [mins, mget, Ne.symm h]
  | cons e t ih =>
    obtain ⟨k', w⟩ := e
    simp only [mins]; split
    · simp only [mget]; split
      · rfl
      · exact ih
    · simp only [mget, if_neg (Ne.symm h)]

/-- An erased key is not listed. -/
theorem merase_ne (m : List (Nat × α)) (k : Nat) : ∀ e ∈ merase m k, e.1 ≠ k := by
  induction m with
  | nil => simp [merase]
  | cons e t ih =>
    obtain ⟨k', v⟩ := e
    simp only [merase]; split
    · exact ih
    · intro e he
      rcases List.mem_cons.1 he with rfl | he
      · assumption
      · exact ih e he

/-- Erasing a key keeps only listed entries. -/
theorem mem_of_mem_merase {m : List (Nat × α)} {k : Nat} {e : Nat × α} (h : e ∈ merase m k) : e ∈ m := by
  induction m with
  | nil => simp [merase] at h
  | cons f t ih =>
    obtain ⟨k', v⟩ := f
    simp only [merase] at h; split at h
    · exact List.mem_cons_of_mem _ (ih h)
    · rcases List.mem_cons.1 h with rfl | h
      · simp
      · exact List.mem_cons_of_mem _ (ih h)

/-- The entries after an insertion. -/
theorem mem_of_mem_mins {m : List (Nat × α)} {k : Nat} {v : α} {e : Nat × α} (h : e ∈ mins m k v) :
    e = (k, v) ∨ e ∈ m := by
  induction m with
  | nil => simp [mins] at h; exact .inl h
  | cons f t ih =>
    obtain ⟨k', w⟩ := f
    simp only [mins] at h; split at h
    · rcases List.mem_cons.1 h with rfl | h
      · exact .inr (by simp)
      · rcases ih h with h | h
        · exact .inl h
        · exact .inr (by simp [h])
    · simpa using h

variable [DecidableEq α]

/-- A read after a write to the same key gives the value written. -/
@[simp] theorem mget_mset_same (m : List (Nat × α)) (d v : α) (k : Nat) : mget (mset m d k v) d k = v := by
  simp only [mset]; split
  · subst_vars; exact mget_merase_same m _ k
  · exact mget_mins_same _ d v k (merase_ne m k)

/-- A write leaves every other key alone. -/
theorem mget_mset_ne (m : List (Nat × α)) (d d' v : α) {k j : Nat} (h : j ≠ k) :
    mget (mset m d k v) d' j = mget m d' j := by
  simp only [mset]; split
  · exact mget_merase_ne m d' h
  · rw [mget_mins_ne _ d' v h, mget_merase_ne m d' h]

/-- Erasing keeps the canonical form. -/
theorem mwf_merase (dflt : Nat → α) (m : List (Nat × α)) (k : Nat) (h : mwf dflt m = true) :
    mwf dflt (merase m k) = true := by
  induction m with
  | nil => rfl
  | cons e t ih =>
    obtain ⟨k', v⟩ := e
    simp only [mwf, Bool.and_eq_true, List.all_eq_true, decide_eq_true_eq] at h
    simp only [merase]; split
    · exact ih h.2
    · simp only [mwf, Bool.and_eq_true, List.all_eq_true, decide_eq_true_eq]
      exact ⟨⟨h.1.1, fun e he => h.1.2 e (mem_of_mem_merase he)⟩, ih h.2⟩

/-- Inserting a key that is not listed, with a value other than its default, keeps the canonical form. -/
theorem mwf_mins (dflt : Nat → α) (m : List (Nat × α)) (k : Nat) (v : α) (h : mwf dflt m = true)
    (hk : ∀ e ∈ m, e.1 ≠ k) (hv : v ≠ dflt k) : mwf dflt (mins m k v) = true := by
  induction m with
  | nil => simp [mins, mwf, hv]
  | cons e t ih =>
    obtain ⟨k', w⟩ := e
    simp only [mwf, Bool.and_eq_true, List.all_eq_true, decide_eq_true_eq] at h
    have hne : k' ≠ k := hk (k', w) (by simp)
    simp only [mins]; split
    · simp only [mwf, Bool.and_eq_true, List.all_eq_true, decide_eq_true_eq]
      refine ⟨⟨h.1.1, fun e he => ?_⟩, ih h.2 fun e he => hk e (by simp [he])⟩
      rcases mem_of_mem_mins he with rfl | he
      · assumption
      · exact h.1.2 e he
    · simp only [mwf, Bool.and_eq_true, List.all_eq_true, decide_eq_true_eq]
      refine ⟨⟨hv, fun e he => ?_⟩, ⟨h.1, h.2⟩⟩
      rcases List.mem_cons.1 he with rfl | he
      · simp only; omega
      · have := h.1.2 e he; omega

/-- A write keeps the canonical form. -/
theorem mwf_mset (dflt : Nat → α) (m : List (Nat × α)) (k : Nat) (v : α) (h : mwf dflt m = true) :
    mwf dflt (mset m (dflt k) k v) = true := by
  simp only [mset]; split
  · exact mwf_merase dflt m k h
  · exact mwf_mins dflt _ k v (mwf_merase dflt m k h) (merase_ne m k) ‹_›

end Sys2Proof.Machine
end

