-- ==== Sys2Proof/Laws/State.lean ====
section
/-! SUPPORT. What each shared operation leaves of the device: one lemma per field and operation, so that no proof unfolds a record update. -/

namespace Sys2Proof.Machine

open Sys2Proof

/-! ### `Dev.wr` -/

@[simp] theorem Dev.wr_msixTab (d : Dev) (f : Fld) (v i j : Nat) : (d.wr f v i j).msixTab = d.msixTab := rfl
@[simp] theorem Dev.wr_pba (d : Dev) (f : Fld) (v i j : Nat) : (d.wr f v i j).pba = d.pba := rfl
@[simp] theorem Dev.wr_clk (d : Dev) (f : Fld) (v i j : Nat) : (d.wr f v i j).clk = d.clk := rfl
@[simp] theorem Dev.wr_fuse (d : Dev) (f : Fld) (v i j : Nat) : (d.wr f v i j).fuse = d.fuse := rfl
@[simp] theorem Dev.wr_mgmt (d : Dev) (f : Fld) (v i j : Nat) : (d.wr f v i j).mgmt = d.mgmt := rfl
@[simp] theorem Dev.wr_mem (d : Dev) (f : Fld) (v i j : Nat) : (d.wr f v i j).mem = d.mem := rfl
@[simp] theorem Dev.wr_brine (d : Dev) (f : Fld) (v i j : Nat) : (d.wr f v i j).brine = d.brine := rfl
@[simp] theorem Dev.wr_mmu (d : Dev) (f : Fld) (v i j : Nat) : (d.wr f v i j).mmu = d.mmu := rfl
@[simp] theorem Dev.wr_que (d : Dev) (f : Fld) (v i j : Nat) : (d.wr f v i j).que = d.que := rfl
@[simp] theorem Dev.wr_windows (d : Dev) (f : Fld) (v i j : Nat) : (d.wr f v i j).windows = d.windows := rfl
@[simp] theorem Dev.wr_flash (d : Dev) (f : Fld) (v i j : Nat) : (d.wr f v i j).flash = d.flash := rfl
@[simp] theorem Dev.wr_sal (d : Dev) (f : Fld) (v i j : Nat) : (d.wr f v i j).sal = d.sal := rfl
@[simp] theorem Dev.wr_set (d : Dev) (f : Fld) (v i j : Nat) : (d.wr f v i j).set = d.set := rfl
@[simp] theorem Dev.wr_peer (d : Dev) (f : Fld) (v i j : Nat) : (d.wr f v i j).peer = d.peer := rfl
@[simp] theorem Dev.wr_ports (d : Dev) (f : Fld) (v i j : Nat) : (d.wr f v i j).ports = d.ports := rfl
@[simp] theorem Dev.wr_spots (d : Dev) (f : Fld) (v i j : Nat) : (d.wr f v i j).spots = d.spots := rfl
@[simp] theorem Dev.wr_yar (d : Dev) (f : Fld) (v i j : Nat) : (d.wr f v i j).yar = d.yar := rfl
@[simp] theorem Dev.wr_reads (d : Dev) (f : Fld) (v i j : Nat) : (d.wr f v i j).reads = d.reads := rfl
@[simp] theorem Dev.wr_burns (d : Dev) (f : Fld) (v i j : Nat) : (d.wr f v i j).burns = d.burns := rfl
@[simp] theorem Dev.wr_cal (d : Dev) (f : Fld) (v i j : Nat) : (d.wr f v i j).cal = d.cal := rfl
@[simp] theorem Dev.wr_spins (d : Dev) (f : Fld) (v i j : Nat) : (d.wr f v i j).spins = d.spins := rfl
@[simp] theorem Dev.wr_axes (d : Dev) (f : Fld) (v i j : Nat) : (d.wr f v i j).axes = d.axes := rfl
@[simp] theorem Dev.wr_coords (d : Dev) (f : Fld) (v i j : Nat) : (d.wr f v i j).coords = d.coords := rfl
@[simp] theorem Dev.wr_chops (d : Dev) (f : Fld) (v i j : Nat) : (d.wr f v i j).chops = d.chops := rfl
@[simp] theorem Dev.wr_servos (d : Dev) (f : Fld) (v i j : Nat) : (d.wr f v i j).servos = d.servos := rfl
@[simp] theorem Dev.wr_freeCtr (d : Dev) (f : Fld) (v i j : Nat) : (d.wr f v i j).freeCtr = d.freeCtr := rfl
@[simp] theorem Dev.wr_out (d : Dev) (f : Fld) (v i j : Nat) : (d.wr f v i j).out = d.out := rfl

/-! ### `Dev.wrS` -/

@[simp] theorem Dev.wrS_msixTab (d : Dev) (f : Fld) (v : Int) (i j : Nat) : (d.wrS f v i j).msixTab = d.msixTab := rfl
@[simp] theorem Dev.wrS_pba (d : Dev) (f : Fld) (v : Int) (i j : Nat) : (d.wrS f v i j).pba = d.pba := rfl
@[simp] theorem Dev.wrS_clk (d : Dev) (f : Fld) (v : Int) (i j : Nat) : (d.wrS f v i j).clk = d.clk := rfl
@[simp] theorem Dev.wrS_fuse (d : Dev) (f : Fld) (v : Int) (i j : Nat) : (d.wrS f v i j).fuse = d.fuse := rfl
@[simp] theorem Dev.wrS_mgmt (d : Dev) (f : Fld) (v : Int) (i j : Nat) : (d.wrS f v i j).mgmt = d.mgmt := rfl
@[simp] theorem Dev.wrS_mem (d : Dev) (f : Fld) (v : Int) (i j : Nat) : (d.wrS f v i j).mem = d.mem := rfl
@[simp] theorem Dev.wrS_brine (d : Dev) (f : Fld) (v : Int) (i j : Nat) : (d.wrS f v i j).brine = d.brine := rfl
@[simp] theorem Dev.wrS_mmu (d : Dev) (f : Fld) (v : Int) (i j : Nat) : (d.wrS f v i j).mmu = d.mmu := rfl
@[simp] theorem Dev.wrS_que (d : Dev) (f : Fld) (v : Int) (i j : Nat) : (d.wrS f v i j).que = d.que := rfl
@[simp] theorem Dev.wrS_windows (d : Dev) (f : Fld) (v : Int) (i j : Nat) : (d.wrS f v i j).windows = d.windows := rfl
@[simp] theorem Dev.wrS_flash (d : Dev) (f : Fld) (v : Int) (i j : Nat) : (d.wrS f v i j).flash = d.flash := rfl
@[simp] theorem Dev.wrS_sal (d : Dev) (f : Fld) (v : Int) (i j : Nat) : (d.wrS f v i j).sal = d.sal := rfl
@[simp] theorem Dev.wrS_set (d : Dev) (f : Fld) (v : Int) (i j : Nat) : (d.wrS f v i j).set = d.set := rfl
@[simp] theorem Dev.wrS_peer (d : Dev) (f : Fld) (v : Int) (i j : Nat) : (d.wrS f v i j).peer = d.peer := rfl
@[simp] theorem Dev.wrS_ports (d : Dev) (f : Fld) (v : Int) (i j : Nat) : (d.wrS f v i j).ports = d.ports := rfl
@[simp] theorem Dev.wrS_spots (d : Dev) (f : Fld) (v : Int) (i j : Nat) : (d.wrS f v i j).spots = d.spots := rfl
@[simp] theorem Dev.wrS_yar (d : Dev) (f : Fld) (v : Int) (i j : Nat) : (d.wrS f v i j).yar = d.yar := rfl
@[simp] theorem Dev.wrS_reads (d : Dev) (f : Fld) (v : Int) (i j : Nat) : (d.wrS f v i j).reads = d.reads := rfl
@[simp] theorem Dev.wrS_burns (d : Dev) (f : Fld) (v : Int) (i j : Nat) : (d.wrS f v i j).burns = d.burns := rfl
@[simp] theorem Dev.wrS_cal (d : Dev) (f : Fld) (v : Int) (i j : Nat) : (d.wrS f v i j).cal = d.cal := rfl
@[simp] theorem Dev.wrS_spins (d : Dev) (f : Fld) (v : Int) (i j : Nat) : (d.wrS f v i j).spins = d.spins := rfl
@[simp] theorem Dev.wrS_axes (d : Dev) (f : Fld) (v : Int) (i j : Nat) : (d.wrS f v i j).axes = d.axes := rfl
@[simp] theorem Dev.wrS_coords (d : Dev) (f : Fld) (v : Int) (i j : Nat) : (d.wrS f v i j).coords = d.coords := rfl
@[simp] theorem Dev.wrS_chops (d : Dev) (f : Fld) (v : Int) (i j : Nat) : (d.wrS f v i j).chops = d.chops := rfl
@[simp] theorem Dev.wrS_servos (d : Dev) (f : Fld) (v : Int) (i j : Nat) : (d.wrS f v i j).servos = d.servos := rfl
@[simp] theorem Dev.wrS_freeCtr (d : Dev) (f : Fld) (v : Int) (i j : Nat) : (d.wrS f v i j).freeCtr = d.freeCtr := rfl
@[simp] theorem Dev.wrS_out (d : Dev) (f : Fld) (v : Int) (i j : Nat) : (d.wrS f v i j).out = d.out := rfl

/-! ### `Dev.bump` -/

@[simp] theorem Dev.bump_msixTab (d : Dev) (f : Fld) (n i j : Nat) : (d.bump f n i j).msixTab = d.msixTab := rfl
@[simp] theorem Dev.bump_pba (d : Dev) (f : Fld) (n i j : Nat) : (d.bump f n i j).pba = d.pba := rfl
@[simp] theorem Dev.bump_clk (d : Dev) (f : Fld) (n i j : Nat) : (d.bump f n i j).clk = d.clk := rfl
@[simp] theorem Dev.bump_fuse (d : Dev) (f : Fld) (n i j : Nat) : (d.bump f n i j).fuse = d.fuse := rfl
@[simp] theorem Dev.bump_mgmt (d : Dev) (f : Fld) (n i j : Nat) : (d.bump f n i j).mgmt = d.mgmt := rfl
@[simp] theorem Dev.bump_mem (d : Dev) (f : Fld) (n i j : Nat) : (d.bump f n i j).mem = d.mem := rfl
@[simp] theorem Dev.bump_brine (d : Dev) (f : Fld) (n i j : Nat) : (d.bump f n i j).brine = d.brine := rfl
@[simp] theorem Dev.bump_mmu (d : Dev) (f : Fld) (n i j : Nat) : (d.bump f n i j).mmu = d.mmu := rfl
@[simp] theorem Dev.bump_que (d : Dev) (f : Fld) (n i j : Nat) : (d.bump f n i j).que = d.que := rfl
@[simp] theorem Dev.bump_windows (d : Dev) (f : Fld) (n i j : Nat) : (d.bump f n i j).windows = d.windows := rfl
@[simp] theorem Dev.bump_flash (d : Dev) (f : Fld) (n i j : Nat) : (d.bump f n i j).flash = d.flash := rfl
@[simp] theorem Dev.bump_sal (d : Dev) (f : Fld) (n i j : Nat) : (d.bump f n i j).sal = d.sal := rfl
@[simp] theorem Dev.bump_set (d : Dev) (f : Fld) (n i j : Nat) : (d.bump f n i j).set = d.set := rfl
@[simp] theorem Dev.bump_peer (d : Dev) (f : Fld) (n i j : Nat) : (d.bump f n i j).peer = d.peer := rfl
@[simp] theorem Dev.bump_ports (d : Dev) (f : Fld) (n i j : Nat) : (d.bump f n i j).ports = d.ports := rfl
@[simp] theorem Dev.bump_spots (d : Dev) (f : Fld) (n i j : Nat) : (d.bump f n i j).spots = d.spots := rfl
@[simp] theorem Dev.bump_yar (d : Dev) (f : Fld) (n i j : Nat) : (d.bump f n i j).yar = d.yar := rfl
@[simp] theorem Dev.bump_reads (d : Dev) (f : Fld) (n i j : Nat) : (d.bump f n i j).reads = d.reads := rfl
@[simp] theorem Dev.bump_burns (d : Dev) (f : Fld) (n i j : Nat) : (d.bump f n i j).burns = d.burns := rfl
@[simp] theorem Dev.bump_cal (d : Dev) (f : Fld) (n i j : Nat) : (d.bump f n i j).cal = d.cal := rfl
@[simp] theorem Dev.bump_spins (d : Dev) (f : Fld) (n i j : Nat) : (d.bump f n i j).spins = d.spins := rfl
@[simp] theorem Dev.bump_axes (d : Dev) (f : Fld) (n i j : Nat) : (d.bump f n i j).axes = d.axes := rfl
@[simp] theorem Dev.bump_coords (d : Dev) (f : Fld) (n i j : Nat) : (d.bump f n i j).coords = d.coords := rfl
@[simp] theorem Dev.bump_chops (d : Dev) (f : Fld) (n i j : Nat) : (d.bump f n i j).chops = d.chops := rfl
@[simp] theorem Dev.bump_servos (d : Dev) (f : Fld) (n i j : Nat) : (d.bump f n i j).servos = d.servos := rfl
@[simp] theorem Dev.bump_freeCtr (d : Dev) (f : Fld) (n i j : Nat) : (d.bump f n i j).freeCtr = d.freeCtr := rfl
@[simp] theorem Dev.bump_out (d : Dev) (f : Fld) (n i j : Nat) : (d.bump f n i j).out = d.out := rfl

/-! ### `Dev.emit` -/

@[simp] theorem Dev.emit_fv (d : Dev) (e : Emit) : (d.emit e).fv = d.fv := rfl
@[simp] theorem Dev.emit_msixTab (d : Dev) (e : Emit) : (d.emit e).msixTab = d.msixTab := rfl
@[simp] theorem Dev.emit_pba (d : Dev) (e : Emit) : (d.emit e).pba = d.pba := rfl
@[simp] theorem Dev.emit_clk (d : Dev) (e : Emit) : (d.emit e).clk = d.clk := rfl
@[simp] theorem Dev.emit_fuse (d : Dev) (e : Emit) : (d.emit e).fuse = d.fuse := rfl
@[simp] theorem Dev.emit_mgmt (d : Dev) (e : Emit) : (d.emit e).mgmt = d.mgmt := rfl
@[simp] theorem Dev.emit_mem (d : Dev) (e : Emit) : (d.emit e).mem = d.mem := rfl
@[simp] theorem Dev.emit_brine (d : Dev) (e : Emit) : (d.emit e).brine = d.brine := rfl
@[simp] theorem Dev.emit_mmu (d : Dev) (e : Emit) : (d.emit e).mmu = d.mmu := rfl
@[simp] theorem Dev.emit_que (d : Dev) (e : Emit) : (d.emit e).que = d.que := rfl
@[simp] theorem Dev.emit_windows (d : Dev) (e : Emit) : (d.emit e).windows = d.windows := rfl
@[simp] theorem Dev.emit_flash (d : Dev) (e : Emit) : (d.emit e).flash = d.flash := rfl
@[simp] theorem Dev.emit_sal (d : Dev) (e : Emit) : (d.emit e).sal = d.sal := rfl
@[simp] theorem Dev.emit_set (d : Dev) (e : Emit) : (d.emit e).set = d.set := rfl
@[simp] theorem Dev.emit_peer (d : Dev) (e : Emit) : (d.emit e).peer = d.peer := rfl
@[simp] theorem Dev.emit_ports (d : Dev) (e : Emit) : (d.emit e).ports = d.ports := rfl
@[simp] theorem Dev.emit_spots (d : Dev) (e : Emit) : (d.emit e).spots = d.spots := rfl
@[simp] theorem Dev.emit_yar (d : Dev) (e : Emit) : (d.emit e).yar = d.yar := rfl
@[simp] theorem Dev.emit_reads (d : Dev) (e : Emit) : (d.emit e).reads = d.reads := rfl
@[simp] theorem Dev.emit_burns (d : Dev) (e : Emit) : (d.emit e).burns = d.burns := rfl
@[simp] theorem Dev.emit_cal (d : Dev) (e : Emit) : (d.emit e).cal = d.cal := rfl
@[simp] theorem Dev.emit_spins (d : Dev) (e : Emit) : (d.emit e).spins = d.spins := rfl
@[simp] theorem Dev.emit_axes (d : Dev) (e : Emit) : (d.emit e).axes = d.axes := rfl
@[simp] theorem Dev.emit_coords (d : Dev) (e : Emit) : (d.emit e).coords = d.coords := rfl
@[simp] theorem Dev.emit_chops (d : Dev) (e : Emit) : (d.emit e).chops = d.chops := rfl
@[simp] theorem Dev.emit_servos (d : Dev) (e : Emit) : (d.emit e).servos = d.servos := rfl
@[simp] theorem Dev.emit_freeCtr (d : Dev) (e : Emit) : (d.emit e).freeCtr = d.freeCtr := rfl

/-! ### `Dev.send` -/

@[simp] theorem Dev.send_fv (d : Dev) (o : Out) : (d.send o).fv = d.fv := rfl
@[simp] theorem Dev.send_msixTab (d : Dev) (o : Out) : (d.send o).msixTab = d.msixTab := rfl
@[simp] theorem Dev.send_pba (d : Dev) (o : Out) : (d.send o).pba = d.pba := rfl
@[simp] theorem Dev.send_clk (d : Dev) (o : Out) : (d.send o).clk = d.clk := rfl
@[simp] theorem Dev.send_fuse (d : Dev) (o : Out) : (d.send o).fuse = d.fuse := rfl
@[simp] theorem Dev.send_mgmt (d : Dev) (o : Out) : (d.send o).mgmt = d.mgmt := rfl
@[simp] theorem Dev.send_mem (d : Dev) (o : Out) : (d.send o).mem = d.mem := rfl
@[simp] theorem Dev.send_brine (d : Dev) (o : Out) : (d.send o).brine = d.brine := rfl
@[simp] theorem Dev.send_mmu (d : Dev) (o : Out) : (d.send o).mmu = d.mmu := rfl
@[simp] theorem Dev.send_que (d : Dev) (o : Out) : (d.send o).que = d.que := rfl
@[simp] theorem Dev.send_windows (d : Dev) (o : Out) : (d.send o).windows = d.windows := rfl
@[simp] theorem Dev.send_flash (d : Dev) (o : Out) : (d.send o).flash = d.flash := rfl
@[simp] theorem Dev.send_sal (d : Dev) (o : Out) : (d.send o).sal = d.sal := rfl
@[simp] theorem Dev.send_set (d : Dev) (o : Out) : (d.send o).set = d.set := rfl
@[simp] theorem Dev.send_peer (d : Dev) (o : Out) : (d.send o).peer = d.peer := rfl
@[simp] theorem Dev.send_ports (d : Dev) (o : Out) : (d.send o).ports = d.ports := rfl
@[simp] theorem Dev.send_spots (d : Dev) (o : Out) : (d.send o).spots = d.spots := rfl
@[simp] theorem Dev.send_yar (d : Dev) (o : Out) : (d.send o).yar = d.yar := rfl
@[simp] theorem Dev.send_reads (d : Dev) (o : Out) : (d.send o).reads = d.reads := rfl
@[simp] theorem Dev.send_burns (d : Dev) (o : Out) : (d.send o).burns = d.burns := rfl
@[simp] theorem Dev.send_cal (d : Dev) (o : Out) : (d.send o).cal = d.cal := rfl
@[simp] theorem Dev.send_spins (d : Dev) (o : Out) : (d.send o).spins = d.spins := rfl
@[simp] theorem Dev.send_axes (d : Dev) (o : Out) : (d.send o).axes = d.axes := rfl
@[simp] theorem Dev.send_coords (d : Dev) (o : Out) : (d.send o).coords = d.coords := rfl
@[simp] theorem Dev.send_chops (d : Dev) (o : Out) : (d.send o).chops = d.chops := rfl
@[simp] theorem Dev.send_servos (d : Dev) (o : Out) : (d.send o).servos = d.servos := rfl
@[simp] theorem Dev.send_freeCtr (d : Dev) (o : Out) : (d.send o).freeCtr = d.freeCtr := rfl

/-! ### `Dev.record` -/

@[simp] theorem Dev.record_fv (d : Dev) (code unit sev : Nat) (pl : List Byte) (cls count object argument : Nat) (force : Bool) : (d.record code unit sev pl cls count object argument force).fv = d.fv := rfl
@[simp] theorem Dev.record_msixTab (d : Dev) (code unit sev : Nat) (pl : List Byte) (cls count object argument : Nat) (force : Bool) : (d.record code unit sev pl cls count object argument force).msixTab = d.msixTab := rfl
@[simp] theorem Dev.record_pba (d : Dev) (code unit sev : Nat) (pl : List Byte) (cls count object argument : Nat) (force : Bool) : (d.record code unit sev pl cls count object argument force).pba = d.pba := rfl
@[simp] theorem Dev.record_clk (d : Dev) (code unit sev : Nat) (pl : List Byte) (cls count object argument : Nat) (force : Bool) : (d.record code unit sev pl cls count object argument force).clk = d.clk := rfl
@[simp] theorem Dev.record_fuse (d : Dev) (code unit sev : Nat) (pl : List Byte) (cls count object argument : Nat) (force : Bool) : (d.record code unit sev pl cls count object argument force).fuse = d.fuse := rfl
@[simp] theorem Dev.record_mgmt (d : Dev) (code unit sev : Nat) (pl : List Byte) (cls count object argument : Nat) (force : Bool) : (d.record code unit sev pl cls count object argument force).mgmt = d.mgmt := rfl
@[simp] theorem Dev.record_mem (d : Dev) (code unit sev : Nat) (pl : List Byte) (cls count object argument : Nat) (force : Bool) : (d.record code unit sev pl cls count object argument force).mem = d.mem := rfl
@[simp] theorem Dev.record_brine (d : Dev) (code unit sev : Nat) (pl : List Byte) (cls count object argument : Nat) (force : Bool) : (d.record code unit sev pl cls count object argument force).brine = d.brine := rfl
@[simp] theorem Dev.record_mmu (d : Dev) (code unit sev : Nat) (pl : List Byte) (cls count object argument : Nat) (force : Bool) : (d.record code unit sev pl cls count object argument force).mmu = d.mmu := rfl
@[simp] theorem Dev.record_que (d : Dev) (code unit sev : Nat) (pl : List Byte) (cls count object argument : Nat) (force : Bool) : (d.record code unit sev pl cls count object argument force).que = d.que := rfl
@[simp] theorem Dev.record_windows (d : Dev) (code unit sev : Nat) (pl : List Byte) (cls count object argument : Nat) (force : Bool) : (d.record code unit sev pl cls count object argument force).windows = d.windows := rfl
@[simp] theorem Dev.record_flash (d : Dev) (code unit sev : Nat) (pl : List Byte) (cls count object argument : Nat) (force : Bool) : (d.record code unit sev pl cls count object argument force).flash = d.flash := rfl
@[simp] theorem Dev.record_sal (d : Dev) (code unit sev : Nat) (pl : List Byte) (cls count object argument : Nat) (force : Bool) : (d.record code unit sev pl cls count object argument force).sal = d.sal := rfl
@[simp] theorem Dev.record_set (d : Dev) (code unit sev : Nat) (pl : List Byte) (cls count object argument : Nat) (force : Bool) : (d.record code unit sev pl cls count object argument force).set = d.set := rfl
@[simp] theorem Dev.record_peer (d : Dev) (code unit sev : Nat) (pl : List Byte) (cls count object argument : Nat) (force : Bool) : (d.record code unit sev pl cls count object argument force).peer = d.peer := rfl
@[simp] theorem Dev.record_ports (d : Dev) (code unit sev : Nat) (pl : List Byte) (cls count object argument : Nat) (force : Bool) : (d.record code unit sev pl cls count object argument force).ports = d.ports := rfl
@[simp] theorem Dev.record_spots (d : Dev) (code unit sev : Nat) (pl : List Byte) (cls count object argument : Nat) (force : Bool) : (d.record code unit sev pl cls count object argument force).spots = d.spots := rfl
@[simp] theorem Dev.record_yar (d : Dev) (code unit sev : Nat) (pl : List Byte) (cls count object argument : Nat) (force : Bool) : (d.record code unit sev pl cls count object argument force).yar = d.yar := rfl
@[simp] theorem Dev.record_reads (d : Dev) (code unit sev : Nat) (pl : List Byte) (cls count object argument : Nat) (force : Bool) : (d.record code unit sev pl cls count object argument force).reads = d.reads := rfl
@[simp] theorem Dev.record_burns (d : Dev) (code unit sev : Nat) (pl : List Byte) (cls count object argument : Nat) (force : Bool) : (d.record code unit sev pl cls count object argument force).burns = d.burns := rfl
@[simp] theorem Dev.record_cal (d : Dev) (code unit sev : Nat) (pl : List Byte) (cls count object argument : Nat) (force : Bool) : (d.record code unit sev pl cls count object argument force).cal = d.cal := rfl
@[simp] theorem Dev.record_spins (d : Dev) (code unit sev : Nat) (pl : List Byte) (cls count object argument : Nat) (force : Bool) : (d.record code unit sev pl cls count object argument force).spins = d.spins := rfl
@[simp] theorem Dev.record_axes (d : Dev) (code unit sev : Nat) (pl : List Byte) (cls count object argument : Nat) (force : Bool) : (d.record code unit sev pl cls count object argument force).axes = d.axes := rfl
@[simp] theorem Dev.record_coords (d : Dev) (code unit sev : Nat) (pl : List Byte) (cls count object argument : Nat) (force : Bool) : (d.record code unit sev pl cls count object argument force).coords = d.coords := rfl
@[simp] theorem Dev.record_chops (d : Dev) (code unit sev : Nat) (pl : List Byte) (cls count object argument : Nat) (force : Bool) : (d.record code unit sev pl cls count object argument force).chops = d.chops := rfl
@[simp] theorem Dev.record_servos (d : Dev) (code unit sev : Nat) (pl : List Byte) (cls count object argument : Nat) (force : Bool) : (d.record code unit sev pl cls count object argument force).servos = d.servos := rfl
@[simp] theorem Dev.record_freeCtr (d : Dev) (code unit sev : Nat) (pl : List Byte) (cls count object argument : Nat) (force : Bool) : (d.record code unit sev pl cls count object argument force).freeCtr = d.freeCtr := rfl

/-! ### `Dev.missRecord` -/

@[simp] theorem Dev.missRecord_fv (d : Dev) (r inst count : Nat) (u : BitVec 64) : (d.missRecord r inst count u).fv = d.fv := rfl
@[simp] theorem Dev.missRecord_msixTab (d : Dev) (r inst count : Nat) (u : BitVec 64) : (d.missRecord r inst count u).msixTab = d.msixTab := rfl
@[simp] theorem Dev.missRecord_pba (d : Dev) (r inst count : Nat) (u : BitVec 64) : (d.missRecord r inst count u).pba = d.pba := rfl
@[simp] theorem Dev.missRecord_clk (d : Dev) (r inst count : Nat) (u : BitVec 64) : (d.missRecord r inst count u).clk = d.clk := rfl
@[simp] theorem Dev.missRecord_fuse (d : Dev) (r inst count : Nat) (u : BitVec 64) : (d.missRecord r inst count u).fuse = d.fuse := rfl
@[simp] theorem Dev.missRecord_mgmt (d : Dev) (r inst count : Nat) (u : BitVec 64) : (d.missRecord r inst count u).mgmt = d.mgmt := rfl
@[simp] theorem Dev.missRecord_mem (d : Dev) (r inst count : Nat) (u : BitVec 64) : (d.missRecord r inst count u).mem = d.mem := rfl
@[simp] theorem Dev.missRecord_brine (d : Dev) (r inst count : Nat) (u : BitVec 64) : (d.missRecord r inst count u).brine = d.brine := rfl
@[simp] theorem Dev.missRecord_mmu (d : Dev) (r inst count : Nat) (u : BitVec 64) : (d.missRecord r inst count u).mmu = d.mmu := rfl
@[simp] theorem Dev.missRecord_que (d : Dev) (r inst count : Nat) (u : BitVec 64) : (d.missRecord r inst count u).que = d.que := rfl
@[simp] theorem Dev.missRecord_windows (d : Dev) (r inst count : Nat) (u : BitVec 64) : (d.missRecord r inst count u).windows = d.windows := rfl
@[simp] theorem Dev.missRecord_flash (d : Dev) (r inst count : Nat) (u : BitVec 64) : (d.missRecord r inst count u).flash = d.flash := rfl
@[simp] theorem Dev.missRecord_sal (d : Dev) (r inst count : Nat) (u : BitVec 64) : (d.missRecord r inst count u).sal = d.sal := rfl
@[simp] theorem Dev.missRecord_set (d : Dev) (r inst count : Nat) (u : BitVec 64) : (d.missRecord r inst count u).set = d.set := rfl
@[simp] theorem Dev.missRecord_peer (d : Dev) (r inst count : Nat) (u : BitVec 64) : (d.missRecord r inst count u).peer = d.peer := rfl
@[simp] theorem Dev.missRecord_ports (d : Dev) (r inst count : Nat) (u : BitVec 64) : (d.missRecord r inst count u).ports = d.ports := rfl
@[simp] theorem Dev.missRecord_spots (d : Dev) (r inst count : Nat) (u : BitVec 64) : (d.missRecord r inst count u).spots = d.spots := rfl
@[simp] theorem Dev.missRecord_yar (d : Dev) (r inst count : Nat) (u : BitVec 64) : (d.missRecord r inst count u).yar = d.yar := rfl
@[simp] theorem Dev.missRecord_reads (d : Dev) (r inst count : Nat) (u : BitVec 64) : (d.missRecord r inst count u).reads = d.reads := rfl
@[simp] theorem Dev.missRecord_burns (d : Dev) (r inst count : Nat) (u : BitVec 64) : (d.missRecord r inst count u).burns = d.burns := rfl
@[simp] theorem Dev.missRecord_cal (d : Dev) (r inst count : Nat) (u : BitVec 64) : (d.missRecord r inst count u).cal = d.cal := rfl
@[simp] theorem Dev.missRecord_spins (d : Dev) (r inst count : Nat) (u : BitVec 64) : (d.missRecord r inst count u).spins = d.spins := rfl
@[simp] theorem Dev.missRecord_axes (d : Dev) (r inst count : Nat) (u : BitVec 64) : (d.missRecord r inst count u).axes = d.axes := rfl
@[simp] theorem Dev.missRecord_coords (d : Dev) (r inst count : Nat) (u : BitVec 64) : (d.missRecord r inst count u).coords = d.coords := rfl
@[simp] theorem Dev.missRecord_chops (d : Dev) (r inst count : Nat) (u : BitVec 64) : (d.missRecord r inst count u).chops = d.chops := rfl
@[simp] theorem Dev.missRecord_servos (d : Dev) (r inst count : Nat) (u : BitVec 64) : (d.missRecord r inst count u).servos = d.servos := rfl
@[simp] theorem Dev.missRecord_freeCtr (d : Dev) (r inst count : Nat) (u : BitVec 64) : (d.missRecord r inst count u).freeCtr = d.freeCtr := rfl

/-! ### `Dev.setErr` -/

@[simp] theorem Dev.setErr_msixTab (d : Dev) (f : Fld) (k i inst addr : Nat) (further : List (Nat × Nat × Nat)) (force : Bool) : (d.setErr f k i inst addr further force).msixTab = d.msixTab := rfl
@[simp] theorem Dev.setErr_pba (d : Dev) (f : Fld) (k i inst addr : Nat) (further : List (Nat × Nat × Nat)) (force : Bool) : (d.setErr f k i inst addr further force).pba = d.pba := rfl
@[simp] theorem Dev.setErr_clk (d : Dev) (f : Fld) (k i inst addr : Nat) (further : List (Nat × Nat × Nat)) (force : Bool) : (d.setErr f k i inst addr further force).clk = d.clk := rfl
@[simp] theorem Dev.setErr_fuse (d : Dev) (f : Fld) (k i inst addr : Nat) (further : List (Nat × Nat × Nat)) (force : Bool) : (d.setErr f k i inst addr further force).fuse = d.fuse := rfl
@[simp] theorem Dev.setErr_mgmt (d : Dev) (f : Fld) (k i inst addr : Nat) (further : List (Nat × Nat × Nat)) (force : Bool) : (d.setErr f k i inst addr further force).mgmt = d.mgmt := rfl
@[simp] theorem Dev.setErr_mem (d : Dev) (f : Fld) (k i inst addr : Nat) (further : List (Nat × Nat × Nat)) (force : Bool) : (d.setErr f k i inst addr further force).mem = d.mem := rfl
@[simp] theorem Dev.setErr_brine (d : Dev) (f : Fld) (k i inst addr : Nat) (further : List (Nat × Nat × Nat)) (force : Bool) : (d.setErr f k i inst addr further force).brine = d.brine := rfl
@[simp] theorem Dev.setErr_mmu (d : Dev) (f : Fld) (k i inst addr : Nat) (further : List (Nat × Nat × Nat)) (force : Bool) : (d.setErr f k i inst addr further force).mmu = d.mmu := rfl
@[simp] theorem Dev.setErr_que (d : Dev) (f : Fld) (k i inst addr : Nat) (further : List (Nat × Nat × Nat)) (force : Bool) : (d.setErr f k i inst addr further force).que = d.que := rfl
@[simp] theorem Dev.setErr_windows (d : Dev) (f : Fld) (k i inst addr : Nat) (further : List (Nat × Nat × Nat)) (force : Bool) : (d.setErr f k i inst addr further force).windows = d.windows := rfl
@[simp] theorem Dev.setErr_flash (d : Dev) (f : Fld) (k i inst addr : Nat) (further : List (Nat × Nat × Nat)) (force : Bool) : (d.setErr f k i inst addr further force).flash = d.flash := rfl
@[simp] theorem Dev.setErr_sal (d : Dev) (f : Fld) (k i inst addr : Nat) (further : List (Nat × Nat × Nat)) (force : Bool) : (d.setErr f k i inst addr further force).sal = d.sal := rfl
@[simp] theorem Dev.setErr_set (d : Dev) (f : Fld) (k i inst addr : Nat) (further : List (Nat × Nat × Nat)) (force : Bool) : (d.setErr f k i inst addr further force).set = d.set := rfl
@[simp] theorem Dev.setErr_peer (d : Dev) (f : Fld) (k i inst addr : Nat) (further : List (Nat × Nat × Nat)) (force : Bool) : (d.setErr f k i inst addr further force).peer = d.peer := rfl
@[simp] theorem Dev.setErr_ports (d : Dev) (f : Fld) (k i inst addr : Nat) (further : List (Nat × Nat × Nat)) (force : Bool) : (d.setErr f k i inst addr further force).ports = d.ports := rfl
@[simp] theorem Dev.setErr_spots (d : Dev) (f : Fld) (k i inst addr : Nat) (further : List (Nat × Nat × Nat)) (force : Bool) : (d.setErr f k i inst addr further force).spots = d.spots := rfl
@[simp] theorem Dev.setErr_yar (d : Dev) (f : Fld) (k i inst addr : Nat) (further : List (Nat × Nat × Nat)) (force : Bool) : (d.setErr f k i inst addr further force).yar = d.yar := rfl
@[simp] theorem Dev.setErr_reads (d : Dev) (f : Fld) (k i inst addr : Nat) (further : List (Nat × Nat × Nat)) (force : Bool) : (d.setErr f k i inst addr further force).reads = d.reads := rfl
@[simp] theorem Dev.setErr_burns (d : Dev) (f : Fld) (k i inst addr : Nat) (further : List (Nat × Nat × Nat)) (force : Bool) : (d.setErr f k i inst addr further force).burns = d.burns := rfl
@[simp] theorem Dev.setErr_cal (d : Dev) (f : Fld) (k i inst addr : Nat) (further : List (Nat × Nat × Nat)) (force : Bool) : (d.setErr f k i inst addr further force).cal = d.cal := rfl
@[simp] theorem Dev.setErr_spins (d : Dev) (f : Fld) (k i inst addr : Nat) (further : List (Nat × Nat × Nat)) (force : Bool) : (d.setErr f k i inst addr further force).spins = d.spins := rfl
@[simp] theorem Dev.setErr_axes (d : Dev) (f : Fld) (k i inst addr : Nat) (further : List (Nat × Nat × Nat)) (force : Bool) : (d.setErr f k i inst addr further force).axes = d.axes := rfl
@[simp] theorem Dev.setErr_coords (d : Dev) (f : Fld) (k i inst addr : Nat) (further : List (Nat × Nat × Nat)) (force : Bool) : (d.setErr f k i inst addr further force).coords = d.coords := rfl
@[simp] theorem Dev.setErr_chops (d : Dev) (f : Fld) (k i inst addr : Nat) (further : List (Nat × Nat × Nat)) (force : Bool) : (d.setErr f k i inst addr further force).chops = d.chops := rfl
@[simp] theorem Dev.setErr_servos (d : Dev) (f : Fld) (k i inst addr : Nat) (further : List (Nat × Nat × Nat)) (force : Bool) : (d.setErr f k i inst addr further force).servos = d.servos := rfl
@[simp] theorem Dev.setErr_freeCtr (d : Dev) (f : Fld) (k i inst addr : Nat) (further : List (Nat × Nat × Nat)) (force : Bool) : (d.setErr f k i inst addr further force).freeCtr = d.freeCtr := rfl

/-! ### `Dev.setCtx` -/

@[simp] theorem Dev.setCtx_fv (d : Dev) (c : Nat) (x : Option Ctx) : (d.setCtx c x).fv = d.fv := rfl
@[simp] theorem Dev.setCtx_msixTab (d : Dev) (c : Nat) (x : Option Ctx) : (d.setCtx c x).msixTab = d.msixTab := rfl
@[simp] theorem Dev.setCtx_pba (d : Dev) (c : Nat) (x : Option Ctx) : (d.setCtx c x).pba = d.pba := rfl
@[simp] theorem Dev.setCtx_clk (d : Dev) (c : Nat) (x : Option Ctx) : (d.setCtx c x).clk = d.clk := rfl
@[simp] theorem Dev.setCtx_fuse (d : Dev) (c : Nat) (x : Option Ctx) : (d.setCtx c x).fuse = d.fuse := rfl
@[simp] theorem Dev.setCtx_mgmt (d : Dev) (c : Nat) (x : Option Ctx) : (d.setCtx c x).mgmt = d.mgmt := rfl
@[simp] theorem Dev.setCtx_mem (d : Dev) (c : Nat) (x : Option Ctx) : (d.setCtx c x).mem = d.mem := rfl
@[simp] theorem Dev.setCtx_brine (d : Dev) (c : Nat) (x : Option Ctx) : (d.setCtx c x).brine = d.brine := rfl
@[simp] theorem Dev.setCtx_mmu (d : Dev) (c : Nat) (x : Option Ctx) : (d.setCtx c x).mmu = d.mmu := rfl
@[simp] theorem Dev.setCtx_windows (d : Dev) (c : Nat) (x : Option Ctx) : (d.setCtx c x).windows = d.windows := rfl
@[simp] theorem Dev.setCtx_flash (d : Dev) (c : Nat) (x : Option Ctx) : (d.setCtx c x).flash = d.flash := rfl
@[simp] theorem Dev.setCtx_sal (d : Dev) (c : Nat) (x : Option Ctx) : (d.setCtx c x).sal = d.sal := rfl
@[simp] theorem Dev.setCtx_set (d : Dev) (c : Nat) (x : Option Ctx) : (d.setCtx c x).set = d.set := rfl
@[simp] theorem Dev.setCtx_peer (d : Dev) (c : Nat) (x : Option Ctx) : (d.setCtx c x).peer = d.peer := rfl
@[simp] theorem Dev.setCtx_ports (d : Dev) (c : Nat) (x : Option Ctx) : (d.setCtx c x).ports = d.ports := rfl
@[simp] theorem Dev.setCtx_spots (d : Dev) (c : Nat) (x : Option Ctx) : (d.setCtx c x).spots = d.spots := rfl
@[simp] theorem Dev.setCtx_yar (d : Dev) (c : Nat) (x : Option Ctx) : (d.setCtx c x).yar = d.yar := rfl
@[simp] theorem Dev.setCtx_reads (d : Dev) (c : Nat) (x : Option Ctx) : (d.setCtx c x).reads = d.reads := rfl
@[simp] theorem Dev.setCtx_burns (d : Dev) (c : Nat) (x : Option Ctx) : (d.setCtx c x).burns = d.burns := rfl
@[simp] theorem Dev.setCtx_cal (d : Dev) (c : Nat) (x : Option Ctx) : (d.setCtx c x).cal = d.cal := rfl
@[simp] theorem Dev.setCtx_spins (d : Dev) (c : Nat) (x : Option Ctx) : (d.setCtx c x).spins = d.spins := rfl
@[simp] theorem Dev.setCtx_axes (d : Dev) (c : Nat) (x : Option Ctx) : (d.setCtx c x).axes = d.axes := rfl
@[simp] theorem Dev.setCtx_coords (d : Dev) (c : Nat) (x : Option Ctx) : (d.setCtx c x).coords = d.coords := rfl
@[simp] theorem Dev.setCtx_chops (d : Dev) (c : Nat) (x : Option Ctx) : (d.setCtx c x).chops = d.chops := rfl
@[simp] theorem Dev.setCtx_servos (d : Dev) (c : Nat) (x : Option Ctx) : (d.setCtx c x).servos = d.servos := rfl
@[simp] theorem Dev.setCtx_freeCtr (d : Dev) (c : Nat) (x : Option Ctx) : (d.setCtx c x).freeCtr = d.freeCtr := rfl
@[simp] theorem Dev.setCtx_out (d : Dev) (c : Nat) (x : Option Ctx) : (d.setCtx c x).out = d.out := rfl

/-! ### `Dev.setSq` -/

@[simp] theorem Dev.setSq_fv (d : Dev) (q : Nat) (x : Option Sq) : (d.setSq q x).fv = d.fv := rfl
@[simp] theorem Dev.setSq_msixTab (d : Dev) (q : Nat) (x : Option Sq) : (d.setSq q x).msixTab = d.msixTab := rfl
@[simp] theorem Dev.setSq_pba (d : Dev) (q : Nat) (x : Option Sq) : (d.setSq q x).pba = d.pba := rfl
@[simp] theorem Dev.setSq_clk (d : Dev) (q : Nat) (x : Option Sq) : (d.setSq q x).clk = d.clk := rfl
@[simp] theorem Dev.setSq_fuse (d : Dev) (q : Nat) (x : Option Sq) : (d.setSq q x).fuse = d.fuse := rfl
@[simp] theorem Dev.setSq_mgmt (d : Dev) (q : Nat) (x : Option Sq) : (d.setSq q x).mgmt = d.mgmt := rfl
@[simp] theorem Dev.setSq_mem (d : Dev) (q : Nat) (x : Option Sq) : (d.setSq q x).mem = d.mem := rfl
@[simp] theorem Dev.setSq_brine (d : Dev) (q : Nat) (x : Option Sq) : (d.setSq q x).brine = d.brine := rfl
@[simp] theorem Dev.setSq_mmu (d : Dev) (q : Nat) (x : Option Sq) : (d.setSq q x).mmu = d.mmu := rfl
@[simp] theorem Dev.setSq_windows (d : Dev) (q : Nat) (x : Option Sq) : (d.setSq q x).windows = d.windows := rfl
@[simp] theorem Dev.setSq_flash (d : Dev) (q : Nat) (x : Option Sq) : (d.setSq q x).flash = d.flash := rfl
@[simp] theorem Dev.setSq_sal (d : Dev) (q : Nat) (x : Option Sq) : (d.setSq q x).sal = d.sal := rfl
@[simp] theorem Dev.setSq_set (d : Dev) (q : Nat) (x : Option Sq) : (d.setSq q x).set = d.set := rfl
@[simp] theorem Dev.setSq_peer (d : Dev) (q : Nat) (x : Option Sq) : (d.setSq q x).peer = d.peer := rfl
@[simp] theorem Dev.setSq_ports (d : Dev) (q : Nat) (x : Option Sq) : (d.setSq q x).ports = d.ports := rfl
@[simp] theorem Dev.setSq_spots (d : Dev) (q : Nat) (x : Option Sq) : (d.setSq q x).spots = d.spots := rfl
@[simp] theorem Dev.setSq_yar (d : Dev) (q : Nat) (x : Option Sq) : (d.setSq q x).yar = d.yar := rfl
@[simp] theorem Dev.setSq_reads (d : Dev) (q : Nat) (x : Option Sq) : (d.setSq q x).reads = d.reads := rfl
@[simp] theorem Dev.setSq_burns (d : Dev) (q : Nat) (x : Option Sq) : (d.setSq q x).burns = d.burns := rfl
@[simp] theorem Dev.setSq_cal (d : Dev) (q : Nat) (x : Option Sq) : (d.setSq q x).cal = d.cal := rfl
@[simp] theorem Dev.setSq_spins (d : Dev) (q : Nat) (x : Option Sq) : (d.setSq q x).spins = d.spins := rfl
@[simp] theorem Dev.setSq_axes (d : Dev) (q : Nat) (x : Option Sq) : (d.setSq q x).axes = d.axes := rfl
@[simp] theorem Dev.setSq_coords (d : Dev) (q : Nat) (x : Option Sq) : (d.setSq q x).coords = d.coords := rfl
@[simp] theorem Dev.setSq_chops (d : Dev) (q : Nat) (x : Option Sq) : (d.setSq q x).chops = d.chops := rfl
@[simp] theorem Dev.setSq_servos (d : Dev) (q : Nat) (x : Option Sq) : (d.setSq q x).servos = d.servos := rfl
@[simp] theorem Dev.setSq_freeCtr (d : Dev) (q : Nat) (x : Option Sq) : (d.setSq q x).freeCtr = d.freeCtr := rfl
@[simp] theorem Dev.setSq_out (d : Dev) (q : Nat) (x : Option Sq) : (d.setSq q x).out = d.out := rfl

/-! ### `Dev.setCq` -/

@[simp] theorem Dev.setCq_fv (d : Dev) (q : Nat) (x : Option Cq) : (d.setCq q x).fv = d.fv := rfl
@[simp] theorem Dev.setCq_msixTab (d : Dev) (q : Nat) (x : Option Cq) : (d.setCq q x).msixTab = d.msixTab := rfl
@[simp] theorem Dev.setCq_pba (d : Dev) (q : Nat) (x : Option Cq) : (d.setCq q x).pba = d.pba := rfl
@[simp] theorem Dev.setCq_clk (d : Dev) (q : Nat) (x : Option Cq) : (d.setCq q x).clk = d.clk := rfl
@[simp] theorem Dev.setCq_fuse (d : Dev) (q : Nat) (x : Option Cq) : (d.setCq q x).fuse = d.fuse := rfl
@[simp] theorem Dev.setCq_mgmt (d : Dev) (q : Nat) (x : Option Cq) : (d.setCq q x).mgmt = d.mgmt := rfl
@[simp] theorem Dev.setCq_mem (d : Dev) (q : Nat) (x : Option Cq) : (d.setCq q x).mem = d.mem := rfl
@[simp] theorem Dev.setCq_brine (d : Dev) (q : Nat) (x : Option Cq) : (d.setCq q x).brine = d.brine := rfl
@[simp] theorem Dev.setCq_mmu (d : Dev) (q : Nat) (x : Option Cq) : (d.setCq q x).mmu = d.mmu := rfl
@[simp] theorem Dev.setCq_windows (d : Dev) (q : Nat) (x : Option Cq) : (d.setCq q x).windows = d.windows := rfl
@[simp] theorem Dev.setCq_flash (d : Dev) (q : Nat) (x : Option Cq) : (d.setCq q x).flash = d.flash := rfl
@[simp] theorem Dev.setCq_sal (d : Dev) (q : Nat) (x : Option Cq) : (d.setCq q x).sal = d.sal := rfl
@[simp] theorem Dev.setCq_set (d : Dev) (q : Nat) (x : Option Cq) : (d.setCq q x).set = d.set := rfl
@[simp] theorem Dev.setCq_peer (d : Dev) (q : Nat) (x : Option Cq) : (d.setCq q x).peer = d.peer := rfl
@[simp] theorem Dev.setCq_ports (d : Dev) (q : Nat) (x : Option Cq) : (d.setCq q x).ports = d.ports := rfl
@[simp] theorem Dev.setCq_spots (d : Dev) (q : Nat) (x : Option Cq) : (d.setCq q x).spots = d.spots := rfl
@[simp] theorem Dev.setCq_yar (d : Dev) (q : Nat) (x : Option Cq) : (d.setCq q x).yar = d.yar := rfl
@[simp] theorem Dev.setCq_reads (d : Dev) (q : Nat) (x : Option Cq) : (d.setCq q x).reads = d.reads := rfl
@[simp] theorem Dev.setCq_burns (d : Dev) (q : Nat) (x : Option Cq) : (d.setCq q x).burns = d.burns := rfl
@[simp] theorem Dev.setCq_cal (d : Dev) (q : Nat) (x : Option Cq) : (d.setCq q x).cal = d.cal := rfl
@[simp] theorem Dev.setCq_spins (d : Dev) (q : Nat) (x : Option Cq) : (d.setCq q x).spins = d.spins := rfl
@[simp] theorem Dev.setCq_axes (d : Dev) (q : Nat) (x : Option Cq) : (d.setCq q x).axes = d.axes := rfl
@[simp] theorem Dev.setCq_coords (d : Dev) (q : Nat) (x : Option Cq) : (d.setCq q x).coords = d.coords := rfl
@[simp] theorem Dev.setCq_chops (d : Dev) (q : Nat) (x : Option Cq) : (d.setCq q x).chops = d.chops := rfl
@[simp] theorem Dev.setCq_servos (d : Dev) (q : Nat) (x : Option Cq) : (d.setCq q x).servos = d.servos := rfl
@[simp] theorem Dev.setCq_freeCtr (d : Dev) (q : Nat) (x : Option Cq) : (d.setCq q x).freeCtr = d.freeCtr := rfl
@[simp] theorem Dev.setCq_out (d : Dev) (q : Nat) (x : Option Cq) : (d.setCq q x).out = d.out := rfl

/-! ### `Dev.putX` -/

@[simp] theorem Dev.putX_fv (d : Dev) (x : Xfer) : (d.putX x).fv = d.fv := rfl
@[simp] theorem Dev.putX_msixTab (d : Dev) (x : Xfer) : (d.putX x).msixTab = d.msixTab := rfl
@[simp] theorem Dev.putX_pba (d : Dev) (x : Xfer) : (d.putX x).pba = d.pba := rfl
@[simp] theorem Dev.putX_clk (d : Dev) (x : Xfer) : (d.putX x).clk = d.clk := rfl
@[simp] theorem Dev.putX_fuse (d : Dev) (x : Xfer) : (d.putX x).fuse = d.fuse := rfl
@[simp] theorem Dev.putX_mgmt (d : Dev) (x : Xfer) : (d.putX x).mgmt = d.mgmt := rfl
@[simp] theorem Dev.putX_mem (d : Dev) (x : Xfer) : (d.putX x).mem = d.mem := rfl
@[simp] theorem Dev.putX_brine (d : Dev) (x : Xfer) : (d.putX x).brine = d.brine := rfl
@[simp] theorem Dev.putX_que (d : Dev) (x : Xfer) : (d.putX x).que = d.que := rfl
@[simp] theorem Dev.putX_windows (d : Dev) (x : Xfer) : (d.putX x).windows = d.windows := rfl
@[simp] theorem Dev.putX_flash (d : Dev) (x : Xfer) : (d.putX x).flash = d.flash := rfl
@[simp] theorem Dev.putX_sal (d : Dev) (x : Xfer) : (d.putX x).sal = d.sal := rfl
@[simp] theorem Dev.putX_set (d : Dev) (x : Xfer) : (d.putX x).set = d.set := rfl
@[simp] theorem Dev.putX_peer (d : Dev) (x : Xfer) : (d.putX x).peer = d.peer := rfl
@[simp] theorem Dev.putX_ports (d : Dev) (x : Xfer) : (d.putX x).ports = d.ports := rfl
@[simp] theorem Dev.putX_spots (d : Dev) (x : Xfer) : (d.putX x).spots = d.spots := rfl
@[simp] theorem Dev.putX_yar (d : Dev) (x : Xfer) : (d.putX x).yar = d.yar := rfl
@[simp] theorem Dev.putX_reads (d : Dev) (x : Xfer) : (d.putX x).reads = d.reads := rfl
@[simp] theorem Dev.putX_burns (d : Dev) (x : Xfer) : (d.putX x).burns = d.burns := rfl
@[simp] theorem Dev.putX_cal (d : Dev) (x : Xfer) : (d.putX x).cal = d.cal := rfl
@[simp] theorem Dev.putX_spins (d : Dev) (x : Xfer) : (d.putX x).spins = d.spins := rfl
@[simp] theorem Dev.putX_axes (d : Dev) (x : Xfer) : (d.putX x).axes = d.axes := rfl
@[simp] theorem Dev.putX_coords (d : Dev) (x : Xfer) : (d.putX x).coords = d.coords := rfl
@[simp] theorem Dev.putX_chops (d : Dev) (x : Xfer) : (d.putX x).chops = d.chops := rfl
@[simp] theorem Dev.putX_servos (d : Dev) (x : Xfer) : (d.putX x).servos = d.servos := rfl
@[simp] theorem Dev.putX_freeCtr (d : Dev) (x : Xfer) : (d.putX x).freeCtr = d.freeCtr := rfl
@[simp] theorem Dev.putX_out (d : Dev) (x : Xfer) : (d.putX x).out = d.out := rfl

/-! ### `Dev.dropX` -/

@[simp] theorem Dev.dropX_fv (d : Dev) (x : Nat) : (d.dropX x).fv = d.fv := rfl
@[simp] theorem Dev.dropX_msixTab (d : Dev) (x : Nat) : (d.dropX x).msixTab = d.msixTab := rfl
@[simp] theorem Dev.dropX_pba (d : Dev) (x : Nat) : (d.dropX x).pba = d.pba := rfl
@[simp] theorem Dev.dropX_clk (d : Dev) (x : Nat) : (d.dropX x).clk = d.clk := rfl
@[simp] theorem Dev.dropX_fuse (d : Dev) (x : Nat) : (d.dropX x).fuse = d.fuse := rfl
@[simp] theorem Dev.dropX_mgmt (d : Dev) (x : Nat) : (d.dropX x).mgmt = d.mgmt := rfl
@[simp] theorem Dev.dropX_mem (d : Dev) (x : Nat) : (d.dropX x).mem = d.mem := rfl
@[simp] theorem Dev.dropX_brine (d : Dev) (x : Nat) : (d.dropX x).brine = d.brine := rfl
@[simp] theorem Dev.dropX_que (d : Dev) (x : Nat) : (d.dropX x).que = d.que := rfl
@[simp] theorem Dev.dropX_windows (d : Dev) (x : Nat) : (d.dropX x).windows = d.windows := rfl
@[simp] theorem Dev.dropX_flash (d : Dev) (x : Nat) : (d.dropX x).flash = d.flash := rfl
@[simp] theorem Dev.dropX_sal (d : Dev) (x : Nat) : (d.dropX x).sal = d.sal := rfl
@[simp] theorem Dev.dropX_set (d : Dev) (x : Nat) : (d.dropX x).set = d.set := rfl
@[simp] theorem Dev.dropX_peer (d : Dev) (x : Nat) : (d.dropX x).peer = d.peer := rfl
@[simp] theorem Dev.dropX_ports (d : Dev) (x : Nat) : (d.dropX x).ports = d.ports := rfl
@[simp] theorem Dev.dropX_spots (d : Dev) (x : Nat) : (d.dropX x).spots = d.spots := rfl
@[simp] theorem Dev.dropX_yar (d : Dev) (x : Nat) : (d.dropX x).yar = d.yar := rfl
@[simp] theorem Dev.dropX_reads (d : Dev) (x : Nat) : (d.dropX x).reads = d.reads := rfl
@[simp] theorem Dev.dropX_burns (d : Dev) (x : Nat) : (d.dropX x).burns = d.burns := rfl
@[simp] theorem Dev.dropX_cal (d : Dev) (x : Nat) : (d.dropX x).cal = d.cal := rfl
@[simp] theorem Dev.dropX_spins (d : Dev) (x : Nat) : (d.dropX x).spins = d.spins := rfl
@[simp] theorem Dev.dropX_axes (d : Dev) (x : Nat) : (d.dropX x).axes = d.axes := rfl
@[simp] theorem Dev.dropX_coords (d : Dev) (x : Nat) : (d.dropX x).coords = d.coords := rfl
@[simp] theorem Dev.dropX_chops (d : Dev) (x : Nat) : (d.dropX x).chops = d.chops := rfl
@[simp] theorem Dev.dropX_servos (d : Dev) (x : Nat) : (d.dropX x).servos = d.servos := rfl
@[simp] theorem Dev.dropX_freeCtr (d : Dev) (x : Nat) : (d.dropX x).freeCtr = d.freeCtr := rfl
@[simp] theorem Dev.dropX_out (d : Dev) (x : Nat) : (d.dropX x).out = d.out := rfl

/-! ### `Dev.draw` -/

@[simp] theorem Dev.draw_fv (d : Dev) (w : Nat) : (d.draw w).2.fv = d.fv := rfl
@[simp] theorem Dev.draw_msixTab (d : Dev) (w : Nat) : (d.draw w).2.msixTab = d.msixTab := rfl
@[simp] theorem Dev.draw_pba (d : Dev) (w : Nat) : (d.draw w).2.pba = d.pba := rfl
@[simp] theorem Dev.draw_clk (d : Dev) (w : Nat) : (d.draw w).2.clk = d.clk := rfl
@[simp] theorem Dev.draw_fuse (d : Dev) (w : Nat) : (d.draw w).2.fuse = d.fuse := rfl
@[simp] theorem Dev.draw_mgmt (d : Dev) (w : Nat) : (d.draw w).2.mgmt = d.mgmt := rfl
@[simp] theorem Dev.draw_mem (d : Dev) (w : Nat) : (d.draw w).2.mem = d.mem := rfl
@[simp] theorem Dev.draw_brine (d : Dev) (w : Nat) : (d.draw w).2.brine = d.brine := rfl
@[simp] theorem Dev.draw_mmu (d : Dev) (w : Nat) : (d.draw w).2.mmu = d.mmu := rfl
@[simp] theorem Dev.draw_que (d : Dev) (w : Nat) : (d.draw w).2.que = d.que := rfl
@[simp] theorem Dev.draw_windows (d : Dev) (w : Nat) : (d.draw w).2.windows = d.windows := rfl
@[simp] theorem Dev.draw_flash (d : Dev) (w : Nat) : (d.draw w).2.flash = d.flash := rfl
@[simp] theorem Dev.draw_sal (d : Dev) (w : Nat) : (d.draw w).2.sal = d.sal := rfl
@[simp] theorem Dev.draw_set (d : Dev) (w : Nat) : (d.draw w).2.set = d.set := rfl
@[simp] theorem Dev.draw_peer (d : Dev) (w : Nat) : (d.draw w).2.peer = d.peer := rfl
@[simp] theorem Dev.draw_ports (d : Dev) (w : Nat) : (d.draw w).2.ports = d.ports := rfl
@[simp] theorem Dev.draw_spots (d : Dev) (w : Nat) : (d.draw w).2.spots = d.spots := rfl
@[simp] theorem Dev.draw_yar (d : Dev) (w : Nat) : (d.draw w).2.yar = d.yar := rfl
@[simp] theorem Dev.draw_reads (d : Dev) (w : Nat) : (d.draw w).2.reads = d.reads := rfl
@[simp] theorem Dev.draw_burns (d : Dev) (w : Nat) : (d.draw w).2.burns = d.burns := rfl
@[simp] theorem Dev.draw_cal (d : Dev) (w : Nat) : (d.draw w).2.cal = d.cal := rfl
@[simp] theorem Dev.draw_spins (d : Dev) (w : Nat) : (d.draw w).2.spins = d.spins := rfl
@[simp] theorem Dev.draw_axes (d : Dev) (w : Nat) : (d.draw w).2.axes = d.axes := rfl
@[simp] theorem Dev.draw_coords (d : Dev) (w : Nat) : (d.draw w).2.coords = d.coords := rfl
@[simp] theorem Dev.draw_chops (d : Dev) (w : Nat) : (d.draw w).2.chops = d.chops := rfl
@[simp] theorem Dev.draw_servos (d : Dev) (w : Nat) : (d.draw w).2.servos = d.servos := rfl
@[simp] theorem Dev.draw_out (d : Dev) (w : Nat) : (d.draw w).2.out = d.out := rfl

end Sys2Proof.Machine
end

