-- ==== Sys2Proof/Laws/Registers.lean ====
section
/-! SUPPORT. The laws of register fields: a read after a write, and what leaves every register alone. -/

namespace Sys2Proof.Machine

open Sys2Proof

/-- A field reads as it was written, in its width. -/
@[simp] theorem Dev.rd_wr_same (d : Dev) (f : Fld) (v i j : Nat) : (d.wr f v i j).rd f i j = v % 2 ^ f.w :=
  mget_mset_same _ _ _ _

/-- A write to one field leaves the fields at other bit addresses. -/
theorem Dev.rd_wr_ne (d : Dev) (f g : Fld) (v i j i' j' : Nat) (h : g.key i' j' ≠ f.key i j) :
    (d.wr f v i j).rd g i' j' = d.rd g i' j' :=
  mget_mset_ne _ _ _ _ h

/-- Registers read the register file and nothing else. -/
theorem Dev.rd_of_fv {d e : Dev} (h : d.fv = e.fv) (f : Fld) (i j : Nat) : d.rd f i j = e.rd f i j := by
  simp only [Dev.rd, h]

@[simp] theorem Dev.rd_emit (d : Dev) (e : Emit) (f : Fld) (i j : Nat) : (d.emit e).rd f i j = d.rd f i j := rfl
@[simp] theorem Dev.rd_send (d : Dev) (o : Out) (f : Fld) (i j : Nat) : (d.send o).rd f i j = d.rd f i j := rfl
@[simp] theorem Dev.rd_record (d : Dev) (code unit sev : Nat) (pl : List Byte) (cls count object argument : Nat)
    (force : Bool) (f : Fld) (i j : Nat) :
    (d.record code unit sev pl cls count object argument force).rd f i j = d.rd f i j := rfl
@[simp] theorem Dev.rd_draw (d : Dev) (w : Nat) (f : Fld) (i j : Nat) : (d.draw w).2.rd f i j = d.rd f i j := rfl
@[simp] theorem Dev.rd_setCtx (d : Dev) (c : Nat) (x : Option Ctx) (f : Fld) (i j : Nat) :
    (d.setCtx c x).rd f i j = d.rd f i j := rfl
@[simp] theorem Dev.rd_setSq (d : Dev) (q : Nat) (x : Option Sq) (f : Fld) (i j : Nat) :
    (d.setSq q x).rd f i j = d.rd f i j := rfl
@[simp] theorem Dev.rd_setCq (d : Dev) (q : Nat) (x : Option Cq) (f : Fld) (i j : Nat) :
    (d.setCq q x).rd f i j = d.rd f i j := rfl
@[simp] theorem Dev.rd_putX (d : Dev) (x : Xfer) (f : Fld) (i j : Nat) : (d.putX x).rd f i j = d.rd f i j := rfl
@[simp] theorem Dev.rd_dropX (d : Dev) (x : Nat) (f : Fld) (i j : Nat) : (d.dropX x).rd f i j = d.rd f i j := rfl

/-- An error bit is set and its other bits stay (R577). -/
theorem Dev.rd_setErr_same (d : Dev) (f : Fld) (k i inst addr : Nat) (further : List (Nat × Nat × Nat)) (force : Bool) :
    (d.setErr f k i inst addr further force).rd f i 0 = (d.rd f i 0 ||| 2 ^ k) % 2 ^ f.w :=
  Dev.rd_wr_same d f _ i 0

/-- An error bit leaves the fields at other bit addresses. -/
theorem Dev.rd_setErr_ne (d : Dev) (f g : Fld) (k i inst addr : Nat) (further : List (Nat × Nat × Nat)) (force : Bool)
    (i' j' : Nat) (h : g.key i' j' ≠ f.key i 0) :
    (d.setErr f k i inst addr further force).rd g i' j' = d.rd g i' j' :=
  Dev.rd_wr_ne d f g _ i 0 i' j' h

/-- A counter rises by `n` and saturates. -/
theorem Dev.rd_bump_same (d : Dev) (f : Fld) (n i j : Nat) :
    (d.bump f n i j).rd f i j = min (2 ^ f.w - 1) (d.rd f i j + n) := by
  have h : 0 < 2 ^ f.w := Nat.two_pow_pos _
  rw [Dev.bump, Dev.rd_wr_same, Nat.mod_eq_of_lt (by omega)]

/-- A counter leaves the fields at other bit addresses. -/
theorem Dev.rd_bump_ne (d : Dev) (f g : Fld) (n i j i' j' : Nat) (h : g.key i' j' ≠ f.key i j) :
    (d.bump f n i j).rd g i' j' = d.rd g i' j' :=
  Dev.rd_wr_ne d f g _ i j i' j' h

/-- The register file keeps its canonical form: keys rising, no field listed at its reset value. -/
theorem Dev.wr_wf (d : Dev) (f : Fld) (v i j : Nat) (dflt : Nat → Nat) (hd : dflt (f.key i j) = f.dflt j)
    (h : mwf dflt d.fv = true) : mwf dflt (d.wr f v i j).fv = true := by
  show mwf dflt (mset d.fv (f.dflt j) _ _) = true
  rw [← hd]; exact mwf_mset dflt d.fv _ _ h

/-- The register file is in its canonical form at reset: it lists nothing. -/
theorem State.reset_fv_wf (dflt : Nat → Nat) : mwf dflt State.reset.dev.fv = true := rfl

end Sys2Proof.Machine
end

