-- ==== Sys2Proof/Laws/Settle.lean ====
section
/-! SUPPORT. What the end of every command can do: posting the rings (`Dev.flush`) touches the translation unit, the
queues, the pending bits, the outputs and the registers of `ringKeys`, and nothing else. -/

namespace Sys2Proof.Machine

open Sys2Proof Sys2Proof.Safety

/-- A register file key that posting a ring leaves alone. -/
def calmKey (k : Nat) : Bool := !ringKeys.contains k

/-- The fields of `b` that posting a ring leaves are those of `a`. -/
structure Calm (a b : Dev) : Prop where
  msixTab : b.msixTab = a.msixTab
  clk : b.clk = a.clk
  fuse : b.fuse = a.fuse
  mgmt : b.mgmt = a.mgmt
  mem : b.mem = a.mem
  brine : b.brine = a.brine
  windows : b.windows = a.windows
  flash : b.flash = a.flash
  sal : b.sal = a.sal
  set : b.set = a.set
  peer : b.peer = a.peer
  ports : b.ports = a.ports
  spots : b.spots = a.spots
  yar : b.yar = a.yar
  reads : b.reads = a.reads
  burns : b.burns = a.burns
  cal : b.cal = a.cal
  spins : b.spins = a.spins
  axes : b.axes = a.axes
  coords : b.coords = a.coords
  chops : b.chops = a.chops
  servos : b.servos = a.servos
  freeCtr : b.freeCtr = a.freeCtr
  hlm : b.mmu.hlm = a.mmu.hlm
  weights : b.que.weights = a.que.weights
  fv : ∀ k dflt, calmKey k = true → mget b.fv dflt k = mget a.fv dflt k

namespace Calm

theorem refl (a : Dev) : Calm a a := by constructor <;> intros <;> rfl

theorem trans {a b c : Dev} (h : Calm a b) (g : Calm b c) : Calm a c := by
  constructor
  case fv => intro k d hk; rw [g.fv k d hk, h.fv k d hk]
  all_goals first
    | rw [g.msixTab, h.msixTab] | rw [g.clk, h.clk] | rw [g.fuse, h.fuse] | rw [g.mgmt, h.mgmt] | rw [g.mem, h.mem]
    | rw [g.brine, h.brine] | rw [g.windows, h.windows] | rw [g.flash, h.flash] | rw [g.sal, h.sal]
    | rw [g.set, h.set] | rw [g.peer, h.peer] | rw [g.ports, h.ports] | rw [g.spots, h.spots] | rw [g.yar, h.yar]
    | rw [g.reads, h.reads] | rw [g.burns, h.burns] | rw [g.cal, h.cal] | rw [g.spins, h.spins]
    | rw [g.axes, h.axes] | rw [g.coords, h.coords] | rw [g.chops, h.chops] | rw [g.servos, h.servos]
    | rw [g.freeCtr, h.freeCtr] | rw [g.hlm, h.hlm] | rw [g.weights, h.weights]

/-- A register of a field that posting a ring leaves alone reads the same. -/
theorem rd {a b : Dev} (h : Calm a b) (f : Fld) (i j : Nat) (hk : calmKey (f.key i j) = true) :
    b.rd f i j = a.rd f i j := h.fv _ _ hk

theorem wr (d : Dev) (f : Fld) (v i j : Nat) (hk : calmKey (f.key i j) = false) : Calm d (d.wr f v i j) := by
  constructor
  case fv =>
    intro k e hc
    refine mget_mset_ne _ _ _ _ ?_
    rintro rfl; simp [hk] at hc
  all_goals rfl

theorem bump (d : Dev) (f : Fld) (n i j : Nat) (hk : calmKey (f.key i j) = false) : Calm d (d.bump f n i j) :=
  wr d f _ i j hk

theorem emit (d : Dev) (e : Emit) : Calm d (d.emit e) := by constructor <;> intros <;> rfl
theorem send (d : Dev) (o : Out) : Calm d (d.send o) := emit d _

theorem ringWrite (d : Dev) (phys : Nat) (bytes : List Byte) : Calm d (d.ringWrite phys bytes) :=
  (bump d Reg.MMU_CNT_HIT_COUNT 1 0 0 (by decide)).trans (send _ _)

theorem setErr (d : Dev) (f : Fld) (k i inst addr : Nat) (further : List (Nat × Nat × Nat)) (force : Bool)
    (hk : calmKey (f.key i 0) = false) : Calm d (d.setErr f k i inst addr further force) :=
  (wr d f _ i 0 hk).trans (emit _ _)

theorem setCtx (d : Dev) (c : Nat) (x : Option Ctx) : Calm d (d.setCtx c x) := by constructor <;> intros <;> rfl
theorem setSq (d : Dev) (c : Nat) (x : Option Sq) : Calm d (d.setSq c x) := by constructor <;> intros <;> rfl
theorem setCq (d : Dev) (c : Nat) (x : Option Cq) : Calm d (d.setCq c x) := by constructor <;> intros <;> rfl
theorem putX (d : Dev) (x : Xfer) : Calm d (d.putX x) := by constructor <;> intros <;> rfl
theorem dropX (d : Dev) (x : Nat) : Calm d (d.dropX x) := by constructor <;> intros <;> rfl

/-- A change of the translation unit that keeps the grant. -/
theorem mmu (d : Dev) (m : Mmu) (h : m.hlm = d.mmu.hlm) : Calm d { d with mmu := m } := by
  constructor <;> intros <;> first | exact h | rfl

theorem msix (d : Dev) (v : Nat) : Calm d (d.msix v) := by
  unfold Dev.msix; split
  · exact send _ _
  · constructor <;> intros <;> rfl

theorem msixIf (d : Dev) (b : Bool) (v : Nat) : Calm d (if b = true then d.msix v else d) := by
  split
  · exact msix _ _
  · exact refl _

theorem latchSelf (d : Dev) (q : Bool) (t v : Nat) : Calm d (d.latchSelf q t v) := by
  unfold Dev.latchSelf
  refine trans ?_ (msix _ _)
  refine trans ?_ (setErr _ _ _ _ _ _ _ _ (by decide))
  refine trans ?_ (wr _ _ _ _ _ (by decide))
  refine trans ?_ (wr _ _ _ _ _ (by decide))
  refine trans ?_ (wr _ _ _ _ _ (by decide))
  refine trans ?_ (wr _ _ _ _ _ (by decide))
  refine trans ?_ (wr _ _ _ _ _ (by decide))
  refine trans ?_ (wr _ _ _ _ _ (by decide))
  exact mmu d _ rfl

theorem selfFault (d : Dev) (x : Xfer) (t : Nat) : Calm d (d.selfFault x t) := by
  unfold Dev.selfFault
  dsimp only
  split
  · split
    · exact putX _ _
    · exact trans (putX d { x with st := .parked selfParked }) (mmu _ _ rfl)
  · exact trans (putX _ _) (latchSelf _ _ _ _)

theorem openFault (d : Dev) (f : OpenFault) : Calm d (d.openFault f) := by
  unfold Dev.openFault
  refine trans (mmu d { d.mmu with faults := d.mmu.faults ++ [f], toPost := d.mmu.toPost ++ [f] } ?_)
    (bump _ Reg.MMU_CNT_FAULT_COUNT 1 0 0 (by decide))
  rfl

theorem fault (d : Dev) (x : Xfer) (t l : Nat) (hx : x.what ≠ .sqFetch 0) : Calm d (d.fault x t l) := by
  unfold Dev.fault
  split
  · exact selfFault _ _ _
  · split
    · exact absurd (beq_iff_eq.1 ‹_›) hx
    · split
      · exact putX _ _
      · dsimp only
        have h0 : Calm d { d with mmu := { d.mmu with nextFault := (d.mmu.nextFault + 1) % 65536 } } := mmu _ _ rfl
        have h1 := h0.trans (putX _ { x with st := .parked d.mmu.nextFault })
        have h3 := h1.trans (setErr _ Reg.MMU_ERR_TYPE t 0 0xFFFF 0 [] false (by decide))
        split
        · exact h3.trans (openFault _ _)
        · refine (h3.trans (mmu _ _ ?_)).trans (setErr _ _ _ _ _ _ _ _ (by decide))
          rfl

theorem takeBytes (d : Dev) (x : Xfer) (n : Nat) : Calm d (d.takeBytes x n).2 := by
  unfold Dev.takeBytes
  split <;> first | exact refl d | (split <;> first | exact refl d | exact setCtx _ _ _)

theorem endX (d : Dev) (x : Xfer) : Calm d (d.endX x) := by
  unfold Dev.endX
  split
  · exact dropX _ _
  · exact putX _ _

/-- Moving a transfer on. -/
theorem drive (k : Nat) (d : Dev) (x : Xfer) (hx : x.what ≠ .sqFetch 0) : Calm d (Dev.drive k d x) := by
  induction k generalizing d x with
  | zero => exact putX _ _
  | succ k ih =>
    simp only [Dev.drive]
    split
    · exact endX _ _
    · split
      · exact putX _ _
      · split
        · have hb : Calm d (d.bump Reg.MMU_CNT_HIT_COUNT) := bump d _ 1 0 0 (by decide)
          split
          · exact dropX _ _
          · split
            · exact ((hb.trans (takeBytes _ _ _)).trans (send _ _)).trans (ih _ _ hx)
            · split
              · exact (hb.trans (send _ _)).trans (putX _ _)
              · exact hb.trans (putX _ _)
        · split
          · exact fault _ _ _ _ hx
          · split
            · exact fault _ _ _ _ hx
            · split
              · exact (bump d Reg.MMU_CNT_MISS_COUNT 1 0 0 (by decide)).trans (putX _ _)
              · exact putX _ _

/-- Starting a transfer. -/
theorem start (d : Dev) (what : Purpose) (cls : Nat) (write : Bool) (asid va len sq cid ctx : Nat)
    (hx : what ≠ .sqFetch 0) : Calm d (d.start what cls write asid va len sq cid ctx) := by
  unfold Dev.start
  refine trans (mmu d _ ?_) (drive _ _ _ hx)
  rfl

theorem foldl {α : Type} (f : Dev → α → Dev) (h : ∀ d x, Calm d (f d x)) (l : List α) (d : Dev) :
    Calm d (l.foldl f d) := by
  induction l generalizing d with
  | nil => exact refl d
  | cons x t ih => exact (h d x).trans (ih _)

theorem askRing (d : Dev) (what : Purpose) (asid va len : Nat) (hx : what ≠ .sqFetch 0) : Calm d (d.askRing what asid va len) := by
  unfold Dev.askRing
  split
  · exact refl d
  · exact start _ _ _ _ _ _ _ _ _ _ hx

theorem postFaults (l : List OpenFault) (d : Dev) : Calm d (Machine.postFaults d l) := by
  induction l generalizing d with
  | nil => exact mmu d _ rfl
  | cons f t ih =>
    simp only [Machine.postFaults]
    split
    · refine trans (trans (trans (ringWrite d _ _) (mmu _ _ ?_)) (msix _ _)) (ih _)
      rfl
    · split
      · exact trans (mmu d { d.mmu with toPost := f :: t } rfl) (askRing _ _ _ _ _ (by simp))
      · exact mmu d { d.mmu with toPost := f :: t } rfl

theorem mirror (d : Dev) (q : Nat) : Calm d (d.mirror q) := by
  unfold Dev.mirror
  split
  · split
    · exact ringWrite _ _ _
    · exact askRing _ _ _ _ _ (by simp)
  · exact askRing _ _ _ _ _ (by simp)
  · exact refl d

theorem mirrorUnless (d : Dev) (q : Nat) (same : Bool) : Calm d (if same = true then d else d.mirror q) := by
  split
  · exact refl d
  · exact mirror d q

theorem postCq (c : Nat) (l : List Cqe) (d : Dev) : Calm d (Machine.postCq d c l) := by
  induction l generalizing d with
  | nil => exact refl d
  | cons e t ih =>
    simp only [Machine.postCq]
    split
    · exact refl d
    · split
      · exact refl d
      · split
        · exact askRing _ _ _ _ _ (by simp)
        · split
          · exact refl d
          · have h1 : Calm d (match d.sq e.sq with
                | some s => d.setSq e.sq (some (s.posted e.slot))
                | none => d) := by
              split
              · exact setSq _ _ _
              · exact refl d
            refine trans ?_ (ih _)
            refine trans ?_ (msixIf _ _ _)
            refine trans ?_ (mirrorUnless _ _ _)
            refine trans ?_ (bump _ Reg.QUE_CNT_CPL_COUNT 1 0 0 (by decide))
            refine trans ?_ (setCtx _ _ _)
            refine trans ?_ (setCq _ _ _)
            exact trans h1 (ringWrite _ _ _)

theorem postEvents (l : List EqEnt) (d : Dev) : Calm d (Machine.postEvents d l).1 := by
  induction l generalizing d with
  | nil => exact refl d
  | cons e t ih =>
    simp only [Machine.postEvents]
    split
    · refine trans (trans (trans (ringWrite d _ _) (mmu _ _ ?_)) (msix _ _)) (ih _)
      rfl
    · split
      · exact askRing _ _ _ _ _ (by simp)
      · exact refl d

/-- Posting the rings. -/
theorem flush (d : Dev) (w : List EqEnt) : Calm d (d.flush w).1 := by
  unfold Dev.flush
  dsimp only
  refine trans ?_ (postEvents _ _)
  refine trans ?_ (foldl _ ?_ _ _)
  · split
    · exact refl d
    · exact postFaults _ _
  · intro d x
    split
    · exact postCq _ _ _
    · exact refl d

end Calm

/-- The end of a command leaves of the device what its meaning made of it, but for the rings. -/
theorem State.settle_calm (s : State) (d : Dev) : Calm d (s.settle d).dev := by
  unfold State.settle
  have h0 : Calm d { d with out := [] } := by constructor <;> intros <;> rfl
  have h1 := h0.trans (Calm.flush { d with out := [] } (s.evr.absorb d.out).waiting)
  exact h1.trans (by constructor <;> intros <;> rfl)

/-! ### The device at the start of a command -/

@[simp] theorem State.fresh_out (s : State) : s.fresh.out = [] := rfl
@[simp] theorem State.fresh_fv (s : State) : s.fresh.fv = s.dev.fv := rfl
@[simp] theorem State.fresh_msixTab (s : State) : s.fresh.msixTab = s.dev.msixTab := rfl
@[simp] theorem State.fresh_pba (s : State) : s.fresh.pba = s.dev.pba := rfl
@[simp] theorem State.fresh_clk (s : State) : s.fresh.clk = s.dev.clk := rfl
@[simp] theorem State.fresh_fuse (s : State) : s.fresh.fuse = s.dev.fuse := rfl
@[simp] theorem State.fresh_mgmt (s : State) : s.fresh.mgmt = s.dev.mgmt := rfl
@[simp] theorem State.fresh_mem (s : State) : s.fresh.mem = s.dev.mem := rfl
@[simp] theorem State.fresh_brine (s : State) : s.fresh.brine = s.dev.brine := rfl
@[simp] theorem State.fresh_mmu (s : State) : s.fresh.mmu = s.dev.mmu := rfl
@[simp] theorem State.fresh_que (s : State) : s.fresh.que = s.dev.que := rfl
@[simp] theorem State.fresh_windows (s : State) : s.fresh.windows = s.dev.windows := rfl
@[simp] theorem State.fresh_flash (s : State) : s.fresh.flash = s.dev.flash := rfl
@[simp] theorem State.fresh_sal (s : State) : s.fresh.sal = s.dev.sal := rfl
@[simp] theorem State.fresh_set (s : State) : s.fresh.set = s.dev.set := rfl
@[simp] theorem State.fresh_peer (s : State) : s.fresh.peer = s.dev.peer := rfl
@[simp] theorem State.fresh_ports (s : State) : s.fresh.ports = s.dev.ports := rfl
@[simp] theorem State.fresh_spots (s : State) : s.fresh.spots = s.dev.spots := rfl
@[simp] theorem State.fresh_yar (s : State) : s.fresh.yar = s.dev.yar := rfl
@[simp] theorem State.fresh_reads (s : State) : s.fresh.reads = s.dev.reads := rfl
@[simp] theorem State.fresh_burns (s : State) : s.fresh.burns = s.dev.burns := rfl
@[simp] theorem State.fresh_cal (s : State) : s.fresh.cal = s.dev.cal := rfl
@[simp] theorem State.fresh_spins (s : State) : s.fresh.spins = s.dev.spins := rfl
@[simp] theorem State.fresh_axes (s : State) : s.fresh.axes = s.dev.axes := rfl
@[simp] theorem State.fresh_coords (s : State) : s.fresh.coords = s.dev.coords := rfl
@[simp] theorem State.fresh_chops (s : State) : s.fresh.chops = s.dev.chops := rfl
@[simp] theorem State.fresh_servos (s : State) : s.fresh.servos = s.dev.servos := rfl
@[simp] theorem State.fresh_freeCtr (s : State) : s.fresh.freeCtr = s.dev.freeCtr := rfl
@[simp] theorem State.fresh_rd (s : State) (f : Fld) (i j : Nat) : s.fresh.rd f i j = s.dev.rd f i j := rfl
@[simp] theorem State.fresh_flag (s : State) (f : Fld) (i j : Nat) : s.fresh.flag f i j = s.dev.flag f i j := rfl
@[simp] theorem State.fresh_ctx (s : State) (c : Nat) : s.fresh.ctx c = s.dev.ctx c := rfl
@[simp] theorem State.fresh_sq (s : State) (c : Nat) : s.fresh.sq c = s.dev.sq c := rfl
@[simp] theorem State.fresh_cq (s : State) (c : Nat) : s.fresh.cq c = s.dev.cq c := rfl
@[simp] theorem State.fresh_now (s : State) : s.fresh.now = s.dev.now := rfl

/-- Every command ends in a next state, by way of `settle`. -/
theorem State.run_next (s : State) (f : Dev → Dev) :
    s.run f = .next (s.settle (f s.fresh)) := rfl

/-- Every command that reads the recorder ends in a next state. -/
theorem State.runR_next (s : State) (f : Recorder → Dev → Dev) :
    s.runR f = .next (s.settle (f s.evr s.fresh)) := rfl

@[simp] theorem State.settle_pending (s : State) (d : Dev) : (s.settle d).pending = s.pending := rfl

/-- What a command's meaning puts on an interface is sent. -/
theorem State.mem_sent (s : State) (d : Dev) (o : Out) (h : o ∈ outsOf d.out) : o ∈ (s.settle d).sent := by
  simp [State.settle, h]

/-- A field none of whose instances posting a ring touches. -/
def Fld.calm (f : Fld) : Bool := decide (0x80000 ≤ f.base) || (f.sa == 0 && f.sb == 0 && calmKey (f.base * 8 + f.lo))

theorem ringKeys_lt : ∀ k ∈ ringKeys, k < 8 * 0x80000 := by decide

theorem Fld.calm_key {f : Fld} (h : f.calm = true) (i j : Nat) : calmKey (f.key i j) = true := by
  simp only [Fld.calm, Bool.or_eq_true, Bool.and_eq_true, decide_eq_true_eq, beq_iff_eq] at h
  rcases h with h | h
  · unfold calmKey
    rw [Bool.not_eq_true', ← Bool.not_eq_true, List.contains_iff_mem]
    intro hm
    have := ringKeys_lt _ hm
    unfold Fld.key at this
    generalize f.sa * i = x, f.sb * j = y at this
    omega
  · have : f.key i j = f.base * 8 + f.lo := by
      unfold Fld.key; rw [h.1.1, h.1.2, Nat.zero_mul, Nat.zero_mul]; rfl
    rw [this]; exact h.2

/-- A register that posting a ring leaves alone reads after a command as the meaning left it. -/
theorem State.settle_rd (s : State) (d : Dev) (f : Fld) (i j : Nat) (h : f.calm = true) :
    (s.settle d).dev.rd f i j = d.rd f i j :=
  (s.settle_calm d).rd f i j (Fld.calm_key h i j)

/-- A flag that posting a ring leaves alone reads after a command as the meaning left it. -/
theorem State.settle_flag (s : State) (d : Dev) (f : Fld) (i j : Nat) (h : f.calm = true) :
    (s.settle d).dev.flag f i j = d.flag f i j := by
  simp only [Dev.flag, State.settle_rd s d f i j h]

@[simp] theorem State.settle_msixTab (s : State) (d : Dev) : (s.settle d).dev.msixTab = d.msixTab := (s.settle_calm d).msixTab
@[simp] theorem State.settle_clk (s : State) (d : Dev) : (s.settle d).dev.clk = d.clk := (s.settle_calm d).clk
@[simp] theorem State.settle_fuse (s : State) (d : Dev) : (s.settle d).dev.fuse = d.fuse := (s.settle_calm d).fuse
@[simp] theorem State.settle_mgmt (s : State) (d : Dev) : (s.settle d).dev.mgmt = d.mgmt := (s.settle_calm d).mgmt
@[simp] theorem State.settle_mem (s : State) (d : Dev) : (s.settle d).dev.mem = d.mem := (s.settle_calm d).mem
@[simp] theorem State.settle_brine (s : State) (d : Dev) : (s.settle d).dev.brine = d.brine := (s.settle_calm d).brine
@[simp] theorem State.settle_windows (s : State) (d : Dev) : (s.settle d).dev.windows = d.windows := (s.settle_calm d).windows
@[simp] theorem State.settle_flash (s : State) (d : Dev) : (s.settle d).dev.flash = d.flash := (s.settle_calm d).flash
@[simp] theorem State.settle_sal (s : State) (d : Dev) : (s.settle d).dev.sal = d.sal := (s.settle_calm d).sal
@[simp] theorem State.settle_set (s : State) (d : Dev) : (s.settle d).dev.set = d.set := (s.settle_calm d).set
@[simp] theorem State.settle_peer (s : State) (d : Dev) : (s.settle d).dev.peer = d.peer := (s.settle_calm d).peer
@[simp] theorem State.settle_ports (s : State) (d : Dev) : (s.settle d).dev.ports = d.ports := (s.settle_calm d).ports
@[simp] theorem State.settle_spots (s : State) (d : Dev) : (s.settle d).dev.spots = d.spots := (s.settle_calm d).spots
@[simp] theorem State.settle_yar (s : State) (d : Dev) : (s.settle d).dev.yar = d.yar := (s.settle_calm d).yar
@[simp] theorem State.settle_reads (s : State) (d : Dev) : (s.settle d).dev.reads = d.reads := (s.settle_calm d).reads
@[simp] theorem State.settle_burns (s : State) (d : Dev) : (s.settle d).dev.burns = d.burns := (s.settle_calm d).burns
@[simp] theorem State.settle_cal (s : State) (d : Dev) : (s.settle d).dev.cal = d.cal := (s.settle_calm d).cal
@[simp] theorem State.settle_spins (s : State) (d : Dev) : (s.settle d).dev.spins = d.spins := (s.settle_calm d).spins
@[simp] theorem State.settle_axes (s : State) (d : Dev) : (s.settle d).dev.axes = d.axes := (s.settle_calm d).axes
@[simp] theorem State.settle_coords (s : State) (d : Dev) : (s.settle d).dev.coords = d.coords := (s.settle_calm d).coords
@[simp] theorem State.settle_chops (s : State) (d : Dev) : (s.settle d).dev.chops = d.chops := (s.settle_calm d).chops
@[simp] theorem State.settle_servos (s : State) (d : Dev) : (s.settle d).dev.servos = d.servos := (s.settle_calm d).servos
@[simp] theorem State.settle_freeCtr (s : State) (d : Dev) : (s.settle d).dev.freeCtr = d.freeCtr := (s.settle_calm d).freeCtr
@[simp] theorem State.settle_hlm (s : State) (d : Dev) : (s.settle d).dev.mmu.hlm = d.mmu.hlm := (s.settle_calm d).hlm
@[simp] theorem State.settle_weights (s : State) (d : Dev) : (s.settle d).dev.que.weights = d.que.weights :=
  (s.settle_calm d).weights

@[simp] theorem outsOf_append (l m : List Emit) : outsOf (l ++ m) = outsOf l ++ outsOf m := by
  induction l with
  | nil => rfl
  | cons e t ih => cases e <;> simp [outsOf, ih]

end Sys2Proof.Machine
end

