-- ==== Sys2Proof/Laws/Completion.lean ====
section
/-! SUPPORT. What the shared operations of a command can do: starting it (`Dev.command`) and ending it
(`Dev.complete`, `Dev.completeAll`, `Dev.reply`) change the queues, the translation unit, the pending bits, the
outputs and the registers of `ringKeys`, and nothing else. -/

namespace Sys2Proof.Machine

open Sys2Proof Sys2Proof.Safety

namespace Calm

/-- What changes no unit and no register but those of the rings leaves the units and those registers the same. -/
theorem sameUnits {a b : Dev} (h : Calm a b) : SameUnits a b :=
  ⟨h.fuse, h.mgmt, h.mem, h.brine, h.windows, h.flash, h.sal, h.set, h.peer, h.ports, h.spots, h.yar, h.reads, h.burns,
    h.cal, h.spins, h.axes, h.coords, h.chops, h.servos⟩

theorem sameRegs {a b : Dev} (h : Calm a b) (l : List Nat) : SameRegs l a b := by
  intro k dflt _ hk
  exact h.fv k dflt (by simpa [calmKey] using hk)

theorem await (d : Dev) (c : Nat) (w : Wait) : Calm d (d.await c w) := by
  unfold Dev.await
  split
  · exact setCtx _ _ _
  · exact refl d

theorem completeRaw (d : Dev) (c st r : Nat) : Calm d (d.completeRaw c st r) := by
  unfold Dev.completeRaw
  split
  · exact refl d
  · simp only
    split
    · split
      · exact trans (send _ _) (setCtx _ _ _)
      · exact trans (send _ _) (trans (setCtx _ _ _) (setCq _ _ _))
    · exact trans (send _ _) (setCtx _ _ _)

theorem checkDisabled (d : Dev) (q : Nat) : Calm d (d.checkDisabled q) := by
  unfold Dev.checkDisabled
  split
  · exact refl d
  · split
    · simp only
      split
      · exact trans (trans (setSq _ _ _) (mirror _ _)) (completeRaw _ _ _ _)
      · exact trans (setSq _ _ _) (mirror _ _)
    · exact refl d

theorem endMuted (d : Dev) (c : Nat) : Calm d (d.endMuted c) := by
  unfold Dev.endMuted
  split
  · exact refl d
  · simp only
    refine trans (trans (setCtx d c none) ?_) (checkDisabled _ _)
    split
    · exact setSq _ _ _
    · exact refl _

theorem complete (d : Dev) (c st r : Nat) : Calm d (d.complete c st r) := by
  unfold Dev.complete
  split
  · exact refl d
  · split
    · exact refl d
    · split
      · exact endMuted d c
      · exact completeRaw d c st r

theorem completeAll (d : Dev) (p : Wait → Bool) (st r : Nat) : Calm d (d.completeAll p st r) :=
  foldl _ (fun e x => complete e x st r) _ d

theorem reply (d : Dev) (c : Nat) (l : List Byte) (r : Nat) : Calm d (d.reply c l r) := by
  unfold Dev.reply
  split
  · exact refl d
  · simp only
    refine trans (setCtx _ _ _) (start _ _ _ _ _ _ _ _ _ _ ?_)
    simp

end Calm

/-- The end of a command that runs and whose queue is not being disabled posts its completion. -/
theorem Dev.complete_live {d : Dev} {c : Nat} {k : Ctx} (h : d.ctx c = some k) (hw : k.wait ≠ .finished)
    (hm : k.mute = false) (st r : Nat) : d.complete c st r = d.completeRaw c st r := by
  simp [Dev.complete, h, hw, hm]

@[simp] theorem Dev.ctx_await_same {d : Dev} {c : Nat} {k : Ctx} (h : d.ctx c = some k) (w : Wait) :
    (d.await c w).ctx c = some { k with wait := w } := by
  have e : d.await c w = d.setCtx c (some { k with wait := w }) := by simp only [Dev.await, h]
  rw [e]
  exact mget_mset_same d.que.ctxs none (some { k with wait := w }) c

@[simp] theorem Dev.verdict_await (d : Dev) (c : Nat) (w : Wait) (e : Sqe) : (d.await c w).verdict e = d.verdict e := by
  unfold Dev.await
  split <;> rfl

/-- A command that passes the checks before its own is served, and runs. -/
theorem Dev.command_served {d : Dev} {c : Nat} {k : Ctx} {u : Uses} {mine : Sqe → Bool} (h : startable d c k u = true)
    (hm : mine k.e = true) (serve : Dev → Ctx → Dev) : d.command c mine u serve = serve (d.await c .run) k := by
  simp only [startable, Bool.and_eq_true, beq_iff_eq, Bool.not_eq_true'] at h
  obtain ⟨⟨⟨⟨⟨hc, hw⟩, -⟩, hp⟩, hv⟩, hz⟩ := h
  have hv' : d.verdict k.e = none := by simpa using hv
  simp [Dev.command, hc, hw, hm, hp, hv', hz]

/-- A command that a check before its own refuses completes with that check's status. -/
theorem Dev.command_refused {d : Dev} {c st : Nat} {k : Ctx} {u : Uses} {mine : Sqe → Bool} (hc : d.ctx c = some k)
    (hw : k.wait = .fresh) (hp : d.clk.powerFail = false) (hm : mine k.e = true) (hv : d.verdict k.e = some st)
    (serve : Dev → Ctx → Dev) : d.command c mine u serve = (d.await c .run).complete c st := by
  simp [Dev.command, hc, hw, hm, hp, hv]

/-- A command with a nonzero field that it does not use completes with INVALID_FIELD. -/
theorem Dev.command_unused {d : Dev} {c : Nat} {k : Ctx} {u : Uses} {mine : Sqe → Bool} (hc : d.ctx c = some k)
    (hw : k.wait = .fresh) (hp : d.clk.powerFail = false) (hm : mine k.e = true) (hv : d.verdict k.e = none)
    (hz : k.e.unusedZero u = false) (serve : Dev → Ctx → Dev) :
    d.command c mine u serve = (d.await c .run).complete c St.invalidField := by
  simp [Dev.command, hc, hw, hm, hp, hv, hz]

/-- While a power-fail warning stands no command starts. -/
theorem Dev.command_powerFail {d : Dev} (c : Nat) (mine : Sqe → Bool) (u : Uses) (hp : d.clk.powerFail = true)
    (serve : Dev → Ctx → Dev) : d.command c mine u serve = d := by
  unfold Dev.command
  split
  · rfl
  · simp [hp]

/-- Everything a command row can do: nothing, end the command at a check, or serve it. -/
theorem Dev.command_cases (d : Dev) (c : Nat) (mine : Sqe → Bool) (u : Uses) (serve : Dev → Ctx → Dev) :
    d.command c mine u serve = d ∨ (∃ st, d.command c mine u serve = (d.await c .run).complete c st) ∨
    ∃ k, d.ctx c = some k ∧ k.wait = .fresh ∧ mine k.e = true ∧ d.clk.powerFail = false ∧ d.verdict k.e = none ∧
      k.e.unusedZero u = true ∧ d.command c mine u serve = serve (d.await c .run) k := by
  unfold Dev.command
  split
  · exact .inl rfl
  · rename_i k hc
    split
    · exact .inl rfl
    · rename_i hg
      simp only [Bool.or_eq_true, bne_iff_ne, ne_eq, Bool.not_eq_true', not_or, Decidable.not_not,
        Bool.not_eq_false, Bool.not_eq_true] at hg
      simp only [Dev.verdict_await]
      split
      · exact .inr (.inl ⟨_, rfl⟩)
      · rename_i hv
        split
        · exact .inr (.inl ⟨_, rfl⟩)
        · rename_i hz
          exact .inr (.inr ⟨k, hc, hg.1.1, hg.1.2, hg.2, hv, by simpa using hz, rfl⟩)

/-- A command row that serves by changing only queues, rings and outputs does no more. -/
theorem Calm.command {mine : Sqe → Bool} {u : Uses} {serve : Dev → Ctx → Dev} (h : ∀ d k, Calm d (serve d k)) (d : Dev)
    (c : Nat) : Calm d (d.command c mine u serve) := by
  rcases d.command_cases c mine u serve with e | ⟨st, e⟩ | ⟨k, -, -, -, -, -, -, e⟩
  · rw [e]; exact Calm.refl d
  · rw [e]; exact Calm.trans (Calm.await _ _ _) (Calm.complete _ _ _ _)
  · rw [e]; exact Calm.trans (Calm.await _ _ _) (h _ _)

end Sys2Proof.Machine
end

