-- ==== Sys2Proof/Machine/Pins.lean ====
section
/-! DEFINITION. Output pins: the gates, brake, enable and request of the spindle ports, and the write protect of the flash
channels, with the grant, the safe latch and the boundary scan over them (R288, R289, R291, R293, R363, R594, R601). -/

namespace Sys2Proof.Machine

open Sys2Proof

/-- What an output pin does. A pin that floats is held low by its board pull-down (R594). -/
inductive PinLevel
  | low
  | high
  | toggling
  | floats
deriving DecidableEq, Repr

/-- The PWM count at MOT cycle `t` of a period: up to 2,000 and back (R294). -/
def pwmCount (t : Nat) : Nat := if t ≤ 2000 then t else 4000 - t

/-- The high-side gate of a phase at a count: on at or above `2,000 · (1 − d)`, `d` in 1/4096 (R294). -/
def highOn (duty : Int) (count : Nat) : Bool := decide (2000 * (4096 - duty) ≤ (count : Int) * 4096)

/-- The low-side gate of a phase at a count: on while the high side is off, less the dead time on either side of it
(R289, R294). -/
def lowOn (dead : Nat) (duty : Int) (count : Nat) : Bool := !highOn duty (count + dead)

/-- The high-side and the low-side gate of a phase at cycle `t` of the period (R289, R294, R304, R307). -/
def GatePattern.phase (g : GatePattern) (dead k t : Nat) : Bool × Bool :=
  match g with
  | .off => (false, false)
  | .pwm l => (highOn (l.getD k 0) (pwmCount t), lowOn dead (l.getD k 0) (pwmCount t))
  | .zero a b =>
    let w := if t ≤ 2000 then a else b
    (false, decide ((pwmCount t : Int) < w ∨ 2000 ≤ w))

/-- A Boolean output. -/
def PinLevel.ofBool (b : Bool) : PinLevel := if b then .high else .low

/-- What the boundary scan, the safe latch and the supplies leave of an output: it floats unpowered and under HIGHZ, and is
driven low under EXTEST, EXTEST_PULSE, EXTEST_TRAIN and CLAMP (R594, R601) and while the safe latch is set (R363). -/
def Dev.pin (d : Dev) (v : PinLevel) : PinLevel :=
  if !d.clk.mainOk || d.clk.jtagIr == 0x04 then .floats
  else if [0x00, 0x03, 0x05, 0x06].contains d.clk.jtagIr || d.safe || d.clk.deep then .low
  else v

/-- The high-side and low-side gate pins of a phase of a spindle at a cycle of its period: low without the grant
(R293), and on the ports that the variant lacks (R4). -/
def Dev.gatePins (d : Dev) (n phase t : Nat) : PinLevel × PinLevel :=
  let g := (d.spin n).gates.phase (d.rd Reg.MOT_SP_CFG_DEADTIME n) phase t
  let on := d.granted n && d.hasSp n
  (d.pin (.ofBool (on && g.1)), d.pin (.ofBool (on && g.2)))

/-- SPn_BRK: the chopper, low without the grant (R293, R312). -/
def Dev.brakePin (d : Dev) (n : Nat) : PinLevel := d.pin (.ofBool (d.granted n && d.flag Reg.MOT_SP_STATUS_CHOP n))

/-- SPn_EN: high in every state but OFF (Table 8-3); held low on the ports that the variant lacks (R4). -/
def Dev.enablePin (d : Dev) (n : Nat) : PinLevel := d.pin (.ofBool (d.spState n != 0 && d.hasSp n))

/-- SPn_MCLK: the modulator clock, from start-up step 8 on while the clocks of the spindles run; low before and on the ports
that the variant lacks (R288, R4). R288 does not say what enables a port: the model takes step 8 for its modulator clock and the
states other than OFF for its bridge (DESIGN CHOICE, log entry 127). -/
def Dev.clockPin (d : Dev) (n : Nat) : PinLevel :=
  d.pin (if decide (8 ≤ d.bootStep) && d.hasSp n && d.clocked 8 then .toggling else .low)

/-- SPn_OREQ: toggling while the request is held (R291). -/
def Dev.requestPin (d : Dev) (n : Nat) : PinLevel := d.pin (if d.flag Reg.MOT_SP_STATUS_REQ n then .toggling else .low)

/-- ONFn_WP_N: low until the Saltern first needs to program or erase, and while its supply does not fit (R363, R604). -/
def Dev.protectPin (d : Dev) : PinLevel := d.pin (.ofBool (!d.sal.wpLow && d.clk.onfOk))

end Sys2Proof.Machine
end

