-- ==== Sys2Proof/Laws/Gates.lean ====
section
/-! SUPPORT. The gates of a phase: never both high, and DEADTIME apart (R289). -/

namespace Sys2Proof.Machine

open Sys2Proof

/-- The high side stays on at every count above one at which it is on. -/
theorem highOn_mono {duty : Int} {a b : Nat} (h : a ≤ b) (ha : highOn duty a = true) : highOn duty b = true := by
  simp only [highOn, decide_eq_true_eq] at *
  omega

/-- The high-side and the low-side gate of a phase are never both high. -/
theorem phase_not_both (g : GatePattern) (dead k t : Nat) :
    ¬((g.phase dead k t).1 = true ∧ (g.phase dead k t).2 = true) := by
  rintro ⟨h1, h2⟩
  cases g with
  | off => simp [GatePattern.phase] at h1
  | zero a b => simp [GatePattern.phase] at h1
  | pwm l =>
    simp only [GatePattern.phase] at h1 h2
    have := highOn_mono (Nat.le_add_right (pwmCount t) dead) h1
    rw [lowOn, this] at h2
    cases h2

/-- A count at which the high side is on lies more than DEADTIME above any at which the low side is on. -/
theorem dead_between {dead : Nat} {duty : Int} {a b : Nat} (ha : highOn duty a = true) (hb : lowOn dead duty b = true) :
    b + dead < a := by
  rcases Nat.lt_or_ge (b + dead) a with h | h
  · exact h
  · simp [lowOn, highOn_mono h ha] at hb

/-- Two cycles of a period are at least as far apart as their counts. -/
theorem pwmCount_dist (s t : Nat) (hs : s ≤ 4000) (ht : t ≤ 4000) : pwmCount s ≤ pwmCount t + (s - t) + (t - s) := by
  unfold pwmCount
  split <;> split <;> omega

/-- Between an edge of one gate and the opposite edge of the other, more than DEADTIME passes. -/
theorem dead_time {dead : Nat} {duty : Int} {s t : Nat} (hs : s ≤ 4000) (ht : t ≤ 4000)
    (hh : highOn duty (pwmCount s) = true) (hl : lowOn dead duty (pwmCount t) = true) : dead < (s - t) + (t - s) := by
  have := dead_between hh hl
  have := pwmCount_dist s t hs ht
  omega

/-- The gate pins of a phase are never both high. -/
theorem gatePins_not_both (d : Dev) (n k t : Nat) :
    ¬((d.gatePins n k t).1 = .high ∧ (d.gatePins n k t).2 = .high) := by
  rintro ⟨h1, h2⟩
  have high (b : Bool) (h : d.pin (.ofBool b) = .high) : b = true := by
    cases b
    · simp only [Dev.pin, PinLevel.ofBool] at h
      split at h <;> simp_all
    · rfl
  have h1 := high _ h1
  have h2 := high _ h2
  simp only [Bool.and_eq_true] at h1 h2
  exact phase_not_both _ _ _ _ ⟨h1.2, h2.2⟩

end Sys2Proof.Machine
end

