-- ==== Sys2Proof/Laws/Ledger.lean ====
section
/-! SUPPORT. Reading a ledger block that the block wrote: the seal passes and the data come back (R523, R524). -/

namespace Sys2Proof.Machine

@[simp] theorem leBytes_length (n v : Nat) : (leBytes n v).length = n := by simp [leBytes]

theorem leBytes_succ (n v : Nat) : leBytes (n + 1) v = leByte v 0 :: leBytes n (v / 256) := by
  simp only [leBytes, List.range_succ_eq_map, List.map_cons, List.map_map, List.cons.injEq, true_and]
  refine List.map_congr_left fun i _ => ?_
  simp only [leByte, Function.comp]
  rw [Nat.div_div_eq_div_mul, Nat.pow_succ, Nat.mul_comm]

/-- The number that `n` little-endian bytes spell. -/
theorem ofBytes_leBytes (n v : Nat) (h : v < 256 ^ n) : ofBytes (leBytes n v) = v := by
  induction n generalizing v with
  | zero => simp_all [leBytes, ofBytes]
  | succ n ih =>
    rw [leBytes_succ, ofBytes, ih _ (by rw [Nat.pow_succ] at h; omega)]
    simp [leByte]; omega

@[simp] theorem sealBytes_length (vol lba gen : Nat) (b : List Byte) : (sealBytes vol lba gen b).length = 16 := by
  simp [sealBytes]

/-- A block that was sealed reads back as its data. -/
theorem ledgerBlock_sealedBlock (commit i : Nat) (b : List Byte) (h : b.length = 4096) (hc : commit < 65536) :
    ledgerBlock commit i (some (sealedBlock commit i b)) = some b := by
  simp [ledgerBlock, sealedBlock, h.symm, guardOk, refOk, volOk, sealGen, sealBytes, List.drop_append,
    List.drop_eq_nil_of_le, ofBytes_leBytes 2 commit hc]

/-- The directory takes at most 16 entries of 16 bytes. -/
theorem directory_length (dir : List (Nat × Nat × Nat × Nat)) :
    ((dir.take 16).flatMap fun e => leBytes 2 e.1 ++ leBytes 2 e.2.1 ++ leBytes 2 e.2.2.1 ++ leBytes 4 e.2.2.2
      ++ leBytes 6 0).length ≤ 256 := by
  simp [List.length_flatMap]; omega

/-- A block of 4,088 bytes filled up with zero, as its first eight bytes and the rest. -/
theorem filled_eq (m u : List Byte) (hm : m.length = 8) (hu : u.length ≤ 4080) :
    ∃ t : List Byte, t.length = 4080 ∧
      m ++ (u ++ List.replicate (4088 - (m ++ u).length) 0
        ++ leBytes 8 (crc64 (m ++ (u ++ List.replicate (4088 - (m ++ u).length) 0))).toNat)
      = m ++ (t ++ leBytes 8 (crc64 (m ++ t)).toNat) :=
  ⟨_, by simp only [List.length_append, List.length_replicate]; omega, rfl⟩

/-- A header is 4,088 bytes that begin with the magic number, and their CRC-64 (Table 14-10). -/
theorem ledgerHeader_eq (x : Disc) (node side commit time : Nat) (dir : List (Nat × Nat × Nat × Nat)) :
    ∃ t : List Byte, t.length = 4080 ∧ ledgerHeader x node side commit time dir
      = leBytes 8 ledgerMagic ++ (t ++ leBytes 8 (crc64 (leBytes 8 ledgerMagic ++ t)).toNat) := by
  have h := directory_length dir
  simp only [ledgerHeader, List.append_assoc (leBytes 8 ledgerMagic)]
  refine filled_eq _ _ (by simp) ?_
  simp only [List.length_append, List.length_replicate, leBytes_length] at h ⊢
  omega

@[simp] theorem ledgerHeader_length (x : Disc) (node side commit time : Nat) (dir : List (Nat × Nat × Nat × Nat)) :
    (ledgerHeader x node side commit time dir).length = 4096 := by
  obtain ⟨t, ht, h⟩ := ledgerHeader_eq x node side commit time dir
  simp [h, ht]

/-- A commit of a header alone, as it is written, is good and reads back. -/
theorem goodCommit_header (x : Disc) (node side commit time : Nat) (hc : commit < 65536) :
    goodCommit commit [some (sealedBlock commit 0 (ledgerHeader x node side commit time []))]
      = some [ledgerHeader x node side commit time []] := by
  have hb := ledgerBlock_sealedBlock commit 0 (ledgerHeader x node side commit time []) (by simp) hc
  obtain ⟨t, ht, h⟩ := ledgerHeader_eq x node side commit time []
  have h4 : (leBytes 8 ledgerMagic ++ t).length = 4088 := by simp [ht]
  have ht : (ledgerHeader x node side commit time []).take 4088 = leBytes 8 ledgerMagic ++ t := by
    rw [h, ← List.append_assoc, List.take_left' h4]
  have hd : (ledgerHeader x node side commit time []).drop 4088 = leBytes 8 (crc64 (leBytes 8 ledgerMagic ++ t)).toNat := by
    rw [h, ← List.append_assoc, List.drop_left' h4]
  have hm : (ledgerHeader x node side commit time []).take 8 = leBytes 8 ledgerMagic := by
    rw [h, List.take_left' (by simp)]
  simp [goodCommit, hb, ht, hd, hm, ofBytes_leBytes 8 ledgerMagic (by decide), ofBytes_leBytes 8 _ (crc64 _).isLt]

/-- A side with one band that holds a good commit reads as that commit. -/
theorem sideCommit_one (w : List (Option (List Byte))) (p : List (Nat × Nat)) (bl : List (List Byte))
    (h : goodCommit 0 w = some bl) : sideCommit { bands := [w], probed := p } = some (0, bl) := by
  simp [sideCommit, h]

end Sys2Proof.Machine
end

