-- ==== Sys2Proof/Laws/Sram.lean ====
section
/-! SUPPORT. The SECDED code: a stored word is a codeword, every single-bit error is corrected, and every double-bit error is
flagged (R391, R394, R402). -/

namespace Sys2Proof.Machine

open Sys2Proof

/-- The sum of the positions of a list at which a word has ones. -/
def synOn (c : BitVec 72) : List Nat → Nat
  | [] => 0
  | n :: t => (if c.getLsbD n then n else 0) ^^^ synOn c t

/-- Whether a word has an odd number of ones at the positions of a list. -/
def oddOn (c : BitVec 72) : List Nat → Bool
  | [] => false
  | n :: t => c.getLsbD n ^^ oddOn c t

theorem foldl_xor (l : List Nat) (s : Nat) : l.foldl (fun s n => s ^^^ n) s = s ^^^ l.foldl (fun s n => s ^^^ n) 0 := by
  induction l generalizing s with
  | nil => simp
  | cons n t ih => rw [List.foldl_cons, List.foldl_cons, ih, ih (0 ^^^ n), Nat.zero_xor, Nat.xor_assoc]

theorem syndrome_filter (c : BitVec 72) (l : List Nat) :
    (l.filter c.getLsbD).foldl (fun s n => s ^^^ n) 0 = synOn c l := by
  induction l with
  | nil => rfl
  | cons n t ih =>
    cases h : c.getLsbD n
    · simp [synOn, h, ih]
    · rw [List.filter_cons_of_pos h, List.foldl_cons, foldl_xor, ih, synOn, h, Nat.zero_xor]
      rfl

theorem odd_filter (c : BitVec 72) (l : List Nat) : ((l.filter c.getLsbD).length % 2 == 1) = oddOn c l := by
  induction l with
  | nil => rfl
  | cons n t ih =>
    cases h : c.getLsbD n
    · simp [oddOn, h, ih]
    · rw [List.filter_cons_of_pos h, oddOn, h, List.length_cons, ← ih]
      rcases Nat.mod_two_eq_zero_or_one (t.filter c.getLsbD).length with e | e <;> simp [Nat.add_mod, e]

theorem syndrome_eq (c : BitVec 72) : eccSyndrome c = synOn c (List.range 72) := syndrome_filter c _

theorem odd_eq (c : BitVec 72) : eccOdd c = oddOn c (List.range 72) := odd_filter c _

/-- The syndrome is linear. -/
theorem eccSyndrome_xor (a b : BitVec 72) : eccSyndrome (a ^^^ b) = eccSyndrome a ^^^ eccSyndrome b := by
  simp only [syndrome_eq]
  induction List.range 72 with
  | nil => simp [synOn]
  | cons n t ih =>
    simp only [synOn, BitVec.getLsbD_xor, ih]
    cases a.getLsbD n <;> cases b.getLsbD n <;> simp [Nat.xor_assoc, Nat.xor_left_comm]

/-- The overall parity is linear. -/
theorem eccOdd_xor (a b : BitVec 72) : eccOdd (a ^^^ b) = (eccOdd a ^^ eccOdd b) := by
  simp only [odd_eq]
  induction List.range 72 with
  | nil => rfl
  | cons n t ih =>
    simp only [oddOn, BitVec.getLsbD_xor, ih]
    cases a.getLsbD n <;> cases b.getLsbD n <;> simp

theorem synOn_lt (c : BitVec 72) (l : List Nat) (h : ∀ n ∈ l, n < 2 ^ 7) : synOn c l < 2 ^ 7 := by
  induction l with
  | nil => simp [synOn]
  | cons n t ih =>
    refine Nat.xor_lt_two_pow ?_ (ih fun m hm => h m (List.mem_cons_of_mem _ hm))
    split
    · exact h n (List.mem_cons_self ..)
    · decide

theorem eccSyndrome_lt (c : BitVec 72) : eccSyndrome c < 128 := by
  rw [syndrome_eq]
  exact synOn_lt c _ fun n hn => by have := List.mem_range.1 hn; omega

/-- The check bits placed for a syndrome have that syndrome. -/
theorem syndrome_checks : ∀ s : Fin 128,
    eccSyndrome (bitsAt (((List.range 7).filter s.val.testBit).map fun k => 2 ^ k)) = s.val := by decide +kernel

/-- One stored bit: its syndrome is its position, and its parity is odd. -/
theorem syndrome_bit : ∀ n : Fin 72, eccSyndrome (bitsAt [n.val]) = n.val ∧ eccOdd (bitsAt [n.val]) = true := by
  decide +kernel

/-- A stored word has syndrome 0 and even parity. -/
theorem encode_syndrome (v : BitVec 64) : eccSyndrome (eccEncode v) = 0 ∧ eccOdd (eccEncode v) = false := by
  have one : eccSyndrome 1 = 0 ∧ eccOdd 1 = true := syndrome_bit 0
  unfold eccEncode
  generalize bitsAt ((List.range 64).filterMap fun i => if v.getLsbD i then eccPos[i]? else none) = c
  have h := syndrome_checks ⟨eccSyndrome c, eccSyndrome_lt c⟩
  simp only at h ⊢
  split <;> rename_i ho
  · rw [eccSyndrome_xor, eccSyndrome_xor, h, one.1, eccOdd_xor, ho, one.2]
    simp
  · rw [eccSyndrome_xor, h]
    simp at ho
    simp [ho]

/-- The check of a stored word finds nothing. -/
theorem check_encode (v : BitVec 64) : eccCheck (eccEncode v) = .clean := by
  simp [eccCheck, encode_syndrome]

/-- Every single-bit error is corrected at its position. -/
theorem check_single (v : BitVec 64) (n : Fin 72) : eccCheck (eccEncode v ^^^ bitsAt [n.val]) = .corrected (eccEncode v) := by
  have ⟨h1, h2⟩ := syndrome_bit n
  have ⟨e1, e2⟩ := encode_syndrome v
  simp only [eccCheck, eccSyndrome_xor, eccOdd_xor, e1, e2, h1, h2, Nat.zero_xor, Bool.false_xor, if_true, n.isLt]
  rw [BitVec.xor_assoc, BitVec.xor_self, BitVec.xor_zero]

/-- Every double-bit error is flagged. -/
theorem check_double (v : BitVec 64) (m n : Fin 72) (h : m ≠ n) :
    eccCheck (eccEncode v ^^^ bitsAt [m.val] ^^^ bitsAt [n.val]) = .bad := by
  have ⟨m1, m2⟩ := syndrome_bit m
  have ⟨n1, n2⟩ := syndrome_bit n
  have ⟨e1, e2⟩ := encode_syndrome v
  have hne : m.val ^^^ n.val ≠ 0 := fun hx => h (Fin.ext (Nat.xor_eq_zero_iff.1 hx))
  simp [eccCheck, eccSyndrome_xor, eccOdd_xor, e1, e2, m1, m2, n1, n2, hne]

end Sys2Proof.Machine
end

