-- ==== Sys2Proof/Laws/Units.lean ====
section
/-! SUPPORT. What the operation that stores a unit (a port, a servo, a spindle, a superblock, a set ...) leaves of the device:
one lemma per field, and that a read of the unit then gives what was stored. -/

namespace Sys2Proof.Machine

open Sys2Proof

/-! ### `Dev.setPort` -/

@[simp] theorem Dev.setPort_fv (d : Dev) (p : Nat) (x : Port) : (d.setPort p x).fv = d.fv := rfl
@[simp] theorem Dev.setPort_msixTab (d : Dev) (p : Nat) (x : Port) : (d.setPort p x).msixTab = d.msixTab := rfl
@[simp] theorem Dev.setPort_pba (d : Dev) (p : Nat) (x : Port) : (d.setPort p x).pba = d.pba := rfl
@[simp] theorem Dev.setPort_clk (d : Dev) (p : Nat) (x : Port) : (d.setPort p x).clk = d.clk := rfl
@[simp] theorem Dev.setPort_fuse (d : Dev) (p : Nat) (x : Port) : (d.setPort p x).fuse = d.fuse := rfl
@[simp] theorem Dev.setPort_mgmt (d : Dev) (p : Nat) (x : Port) : (d.setPort p x).mgmt = d.mgmt := rfl
@[simp] theorem Dev.setPort_mem (d : Dev) (p : Nat) (x : Port) : (d.setPort p x).mem = d.mem := rfl
@[simp] theorem Dev.setPort_brine (d : Dev) (p : Nat) (x : Port) : (d.setPort p x).brine = d.brine := rfl
@[simp] theorem Dev.setPort_mmu (d : Dev) (p : Nat) (x : Port) : (d.setPort p x).mmu = d.mmu := rfl
@[simp] theorem Dev.setPort_que (d : Dev) (p : Nat) (x : Port) : (d.setPort p x).que = d.que := rfl
@[simp] theorem Dev.setPort_windows (d : Dev) (p : Nat) (x : Port) : (d.setPort p x).windows = d.windows := rfl
@[simp] theorem Dev.setPort_flash (d : Dev) (p : Nat) (x : Port) : (d.setPort p x).flash = d.flash := rfl
@[simp] theorem Dev.setPort_sal (d : Dev) (p : Nat) (x : Port) : (d.setPort p x).sal = d.sal := rfl
@[simp] theorem Dev.setPort_set (d : Dev) (p : Nat) (x : Port) : (d.setPort p x).set = d.set := rfl
@[simp] theorem Dev.setPort_peer (d : Dev) (p : Nat) (x : Port) : (d.setPort p x).peer = d.peer := rfl
@[simp] theorem Dev.setPort_spots (d : Dev) (p : Nat) (x : Port) : (d.setPort p x).spots = d.spots := rfl
@[simp] theorem Dev.setPort_yar (d : Dev) (p : Nat) (x : Port) : (d.setPort p x).yar = d.yar := rfl
@[simp] theorem Dev.setPort_reads (d : Dev) (p : Nat) (x : Port) : (d.setPort p x).reads = d.reads := rfl
@[simp] theorem Dev.setPort_burns (d : Dev) (p : Nat) (x : Port) : (d.setPort p x).burns = d.burns := rfl
@[simp] theorem Dev.setPort_cal (d : Dev) (p : Nat) (x : Port) : (d.setPort p x).cal = d.cal := rfl
@[simp] theorem Dev.setPort_spins (d : Dev) (p : Nat) (x : Port) : (d.setPort p x).spins = d.spins := rfl
@[simp] theorem Dev.setPort_axes (d : Dev) (p : Nat) (x : Port) : (d.setPort p x).axes = d.axes := rfl
@[simp] theorem Dev.setPort_coords (d : Dev) (p : Nat) (x : Port) : (d.setPort p x).coords = d.coords := rfl
@[simp] theorem Dev.setPort_chops (d : Dev) (p : Nat) (x : Port) : (d.setPort p x).chops = d.chops := rfl
@[simp] theorem Dev.setPort_servos (d : Dev) (p : Nat) (x : Port) : (d.setPort p x).servos = d.servos := rfl
@[simp] theorem Dev.setPort_freeCtr (d : Dev) (p : Nat) (x : Port) : (d.setPort p x).freeCtr = d.freeCtr := rfl
@[simp] theorem Dev.setPort_out (d : Dev) (p : Nat) (x : Port) : (d.setPort p x).out = d.out := rfl
@[simp] theorem Dev.port_setPort_same (d : Dev) (p : Nat) (x : Port) : (d.setPort p x).port p = x :=
  mget_mset_same _ _ x _
theorem Dev.port_setPort_ne (d : Dev) (p : Nat) (x : Port) (q : Nat) (h : q ≠ p) : (d.setPort p x).port q = d.port q :=
  mget_mset_ne _ _ _ _ h

/-! ### `Dev.setSvo` -/

@[simp] theorem Dev.setSvo_fv (d : Dev) (p : Nat) (x : Servo) : (d.setSvo p x).fv = d.fv := rfl
@[simp] theorem Dev.setSvo_msixTab (d : Dev) (p : Nat) (x : Servo) : (d.setSvo p x).msixTab = d.msixTab := rfl
@[simp] theorem Dev.setSvo_pba (d : Dev) (p : Nat) (x : Servo) : (d.setSvo p x).pba = d.pba := rfl
@[simp] theorem Dev.setSvo_clk (d : Dev) (p : Nat) (x : Servo) : (d.setSvo p x).clk = d.clk := rfl
@[simp] theorem Dev.setSvo_fuse (d : Dev) (p : Nat) (x : Servo) : (d.setSvo p x).fuse = d.fuse := rfl
@[simp] theorem Dev.setSvo_mgmt (d : Dev) (p : Nat) (x : Servo) : (d.setSvo p x).mgmt = d.mgmt := rfl
@[simp] theorem Dev.setSvo_mem (d : Dev) (p : Nat) (x : Servo) : (d.setSvo p x).mem = d.mem := rfl
@[simp] theorem Dev.setSvo_brine (d : Dev) (p : Nat) (x : Servo) : (d.setSvo p x).brine = d.brine := rfl
@[simp] theorem Dev.setSvo_mmu (d : Dev) (p : Nat) (x : Servo) : (d.setSvo p x).mmu = d.mmu := rfl
@[simp] theorem Dev.setSvo_que (d : Dev) (p : Nat) (x : Servo) : (d.setSvo p x).que = d.que := rfl
@[simp] theorem Dev.setSvo_windows (d : Dev) (p : Nat) (x : Servo) : (d.setSvo p x).windows = d.windows := rfl
@[simp] theorem Dev.setSvo_flash (d : Dev) (p : Nat) (x : Servo) : (d.setSvo p x).flash = d.flash := rfl
@[simp] theorem Dev.setSvo_sal (d : Dev) (p : Nat) (x : Servo) : (d.setSvo p x).sal = d.sal := rfl
@[simp] theorem Dev.setSvo_set (d : Dev) (p : Nat) (x : Servo) : (d.setSvo p x).set = d.set := rfl
@[simp] theorem Dev.setSvo_peer (d : Dev) (p : Nat) (x : Servo) : (d.setSvo p x).peer = d.peer := rfl
@[simp] theorem Dev.setSvo_ports (d : Dev) (p : Nat) (x : Servo) : (d.setSvo p x).ports = d.ports := rfl
@[simp] theorem Dev.setSvo_spots (d : Dev) (p : Nat) (x : Servo) : (d.setSvo p x).spots = d.spots := rfl
@[simp] theorem Dev.setSvo_yar (d : Dev) (p : Nat) (x : Servo) : (d.setSvo p x).yar = d.yar := rfl
@[simp] theorem Dev.setSvo_reads (d : Dev) (p : Nat) (x : Servo) : (d.setSvo p x).reads = d.reads := rfl
@[simp] theorem Dev.setSvo_burns (d : Dev) (p : Nat) (x : Servo) : (d.setSvo p x).burns = d.burns := rfl
@[simp] theorem Dev.setSvo_cal (d : Dev) (p : Nat) (x : Servo) : (d.setSvo p x).cal = d.cal := rfl
@[simp] theorem Dev.setSvo_spins (d : Dev) (p : Nat) (x : Servo) : (d.setSvo p x).spins = d.spins := rfl
@[simp] theorem Dev.setSvo_axes (d : Dev) (p : Nat) (x : Servo) : (d.setSvo p x).axes = d.axes := rfl
@[simp] theorem Dev.setSvo_coords (d : Dev) (p : Nat) (x : Servo) : (d.setSvo p x).coords = d.coords := rfl
@[simp] theorem Dev.setSvo_chops (d : Dev) (p : Nat) (x : Servo) : (d.setSvo p x).chops = d.chops := rfl
@[simp] theorem Dev.setSvo_freeCtr (d : Dev) (p : Nat) (x : Servo) : (d.setSvo p x).freeCtr = d.freeCtr := rfl
@[simp] theorem Dev.setSvo_out (d : Dev) (p : Nat) (x : Servo) : (d.setSvo p x).out = d.out := rfl
@[simp] theorem Dev.svo_setSvo_same (d : Dev) (p : Nat) (x : Servo) : (d.setSvo p x).svo p = x :=
  mget_mset_same _ _ x _
theorem Dev.svo_setSvo_ne (d : Dev) (p : Nat) (x : Servo) (q : Nat) (h : q ≠ p) : (d.setSvo p x).svo q = d.svo q :=
  mget_mset_ne _ _ _ _ h

/-! ### `Dev.setSpin` -/

@[simp] theorem Dev.setSpin_fv (d : Dev) (n : Nat) (x : Spin) : (d.setSpin n x).fv = d.fv := rfl
@[simp] theorem Dev.setSpin_msixTab (d : Dev) (n : Nat) (x : Spin) : (d.setSpin n x).msixTab = d.msixTab := rfl
@[simp] theorem Dev.setSpin_pba (d : Dev) (n : Nat) (x : Spin) : (d.setSpin n x).pba = d.pba := rfl
@[simp] theorem Dev.setSpin_clk (d : Dev) (n : Nat) (x : Spin) : (d.setSpin n x).clk = d.clk := rfl
@[simp] theorem Dev.setSpin_fuse (d : Dev) (n : Nat) (x : Spin) : (d.setSpin n x).fuse = d.fuse := rfl
@[simp] theorem Dev.setSpin_mgmt (d : Dev) (n : Nat) (x : Spin) : (d.setSpin n x).mgmt = d.mgmt := rfl
@[simp] theorem Dev.setSpin_mem (d : Dev) (n : Nat) (x : Spin) : (d.setSpin n x).mem = d.mem := rfl
@[simp] theorem Dev.setSpin_brine (d : Dev) (n : Nat) (x : Spin) : (d.setSpin n x).brine = d.brine := rfl
@[simp] theorem Dev.setSpin_mmu (d : Dev) (n : Nat) (x : Spin) : (d.setSpin n x).mmu = d.mmu := rfl
@[simp] theorem Dev.setSpin_que (d : Dev) (n : Nat) (x : Spin) : (d.setSpin n x).que = d.que := rfl
@[simp] theorem Dev.setSpin_windows (d : Dev) (n : Nat) (x : Spin) : (d.setSpin n x).windows = d.windows := rfl
@[simp] theorem Dev.setSpin_flash (d : Dev) (n : Nat) (x : Spin) : (d.setSpin n x).flash = d.flash := rfl
@[simp] theorem Dev.setSpin_sal (d : Dev) (n : Nat) (x : Spin) : (d.setSpin n x).sal = d.sal := rfl
@[simp] theorem Dev.setSpin_set (d : Dev) (n : Nat) (x : Spin) : (d.setSpin n x).set = d.set := rfl
@[simp] theorem Dev.setSpin_peer (d : Dev) (n : Nat) (x : Spin) : (d.setSpin n x).peer = d.peer := rfl
@[simp] theorem Dev.setSpin_ports (d : Dev) (n : Nat) (x : Spin) : (d.setSpin n x).ports = d.ports := rfl
@[simp] theorem Dev.setSpin_spots (d : Dev) (n : Nat) (x : Spin) : (d.setSpin n x).spots = d.spots := rfl
@[simp] theorem Dev.setSpin_yar (d : Dev) (n : Nat) (x : Spin) : (d.setSpin n x).yar = d.yar := rfl
@[simp] theorem Dev.setSpin_reads (d : Dev) (n : Nat) (x : Spin) : (d.setSpin n x).reads = d.reads := rfl
@[simp] theorem Dev.setSpin_burns (d : Dev) (n : Nat) (x : Spin) : (d.setSpin n x).burns = d.burns := rfl
@[simp] theorem Dev.setSpin_cal (d : Dev) (n : Nat) (x : Spin) : (d.setSpin n x).cal = d.cal := rfl
@[simp] theorem Dev.setSpin_axes (d : Dev) (n : Nat) (x : Spin) : (d.setSpin n x).axes = d.axes := rfl
@[simp] theorem Dev.setSpin_coords (d : Dev) (n : Nat) (x : Spin) : (d.setSpin n x).coords = d.coords := rfl
@[simp] theorem Dev.setSpin_chops (d : Dev) (n : Nat) (x : Spin) : (d.setSpin n x).chops = d.chops := rfl
@[simp] theorem Dev.setSpin_servos (d : Dev) (n : Nat) (x : Spin) : (d.setSpin n x).servos = d.servos := rfl
@[simp] theorem Dev.setSpin_freeCtr (d : Dev) (n : Nat) (x : Spin) : (d.setSpin n x).freeCtr = d.freeCtr := rfl
@[simp] theorem Dev.setSpin_out (d : Dev) (n : Nat) (x : Spin) : (d.setSpin n x).out = d.out := rfl
@[simp] theorem Dev.spin_setSpin_same (d : Dev) (n : Nat) (x : Spin) : (d.setSpin n x).spin n = x :=
  mget_mset_same _ _ x _
theorem Dev.spin_setSpin_ne (d : Dev) (n : Nat) (x : Spin) (q : Nat) (h : q ≠ n) : (d.setSpin n x).spin q = d.spin q :=
  mget_mset_ne _ _ _ _ h

/-! ### `Dev.setChop` -/

@[simp] theorem Dev.setChop_fv (d : Dev) (p : Nat) (x : Chop) : (d.setChop p x).fv = d.fv := rfl
@[simp] theorem Dev.setChop_msixTab (d : Dev) (p : Nat) (x : Chop) : (d.setChop p x).msixTab = d.msixTab := rfl
@[simp] theorem Dev.setChop_pba (d : Dev) (p : Nat) (x : Chop) : (d.setChop p x).pba = d.pba := rfl
@[simp] theorem Dev.setChop_clk (d : Dev) (p : Nat) (x : Chop) : (d.setChop p x).clk = d.clk := rfl
@[simp] theorem Dev.setChop_fuse (d : Dev) (p : Nat) (x : Chop) : (d.setChop p x).fuse = d.fuse := rfl
@[simp] theorem Dev.setChop_mgmt (d : Dev) (p : Nat) (x : Chop) : (d.setChop p x).mgmt = d.mgmt := rfl
@[simp] theorem Dev.setChop_mem (d : Dev) (p : Nat) (x : Chop) : (d.setChop p x).mem = d.mem := rfl
@[simp] theorem Dev.setChop_brine (d : Dev) (p : Nat) (x : Chop) : (d.setChop p x).brine = d.brine := rfl
@[simp] theorem Dev.setChop_mmu (d : Dev) (p : Nat) (x : Chop) : (d.setChop p x).mmu = d.mmu := rfl
@[simp] theorem Dev.setChop_que (d : Dev) (p : Nat) (x : Chop) : (d.setChop p x).que = d.que := rfl
@[simp] theorem Dev.setChop_windows (d : Dev) (p : Nat) (x : Chop) : (d.setChop p x).windows = d.windows := rfl
@[simp] theorem Dev.setChop_flash (d : Dev) (p : Nat) (x : Chop) : (d.setChop p x).flash = d.flash := rfl
@[simp] theorem Dev.setChop_sal (d : Dev) (p : Nat) (x : Chop) : (d.setChop p x).sal = d.sal := rfl
@[simp] theorem Dev.setChop_set (d : Dev) (p : Nat) (x : Chop) : (d.setChop p x).set = d.set := rfl
@[simp] theorem Dev.setChop_peer (d : Dev) (p : Nat) (x : Chop) : (d.setChop p x).peer = d.peer := rfl
@[simp] theorem Dev.setChop_ports (d : Dev) (p : Nat) (x : Chop) : (d.setChop p x).ports = d.ports := rfl
@[simp] theorem Dev.setChop_spots (d : Dev) (p : Nat) (x : Chop) : (d.setChop p x).spots = d.spots := rfl
@[simp] theorem Dev.setChop_yar (d : Dev) (p : Nat) (x : Chop) : (d.setChop p x).yar = d.yar := rfl
@[simp] theorem Dev.setChop_reads (d : Dev) (p : Nat) (x : Chop) : (d.setChop p x).reads = d.reads := rfl
@[simp] theorem Dev.setChop_burns (d : Dev) (p : Nat) (x : Chop) : (d.setChop p x).burns = d.burns := rfl
@[simp] theorem Dev.setChop_cal (d : Dev) (p : Nat) (x : Chop) : (d.setChop p x).cal = d.cal := rfl
@[simp] theorem Dev.setChop_spins (d : Dev) (p : Nat) (x : Chop) : (d.setChop p x).spins = d.spins := rfl
@[simp] theorem Dev.setChop_axes (d : Dev) (p : Nat) (x : Chop) : (d.setChop p x).axes = d.axes := rfl
@[simp] theorem Dev.setChop_coords (d : Dev) (p : Nat) (x : Chop) : (d.setChop p x).coords = d.coords := rfl
@[simp] theorem Dev.setChop_servos (d : Dev) (p : Nat) (x : Chop) : (d.setChop p x).servos = d.servos := rfl
@[simp] theorem Dev.setChop_freeCtr (d : Dev) (p : Nat) (x : Chop) : (d.setChop p x).freeCtr = d.freeCtr := rfl
@[simp] theorem Dev.setChop_out (d : Dev) (p : Nat) (x : Chop) : (d.setChop p x).out = d.out := rfl
@[simp] theorem Dev.chop_setChop_same (d : Dev) (p : Nat) (x : Chop) : (d.setChop p x).chop p = x :=
  mget_mset_same _ _ x _
theorem Dev.chop_setChop_ne (d : Dev) (p : Nat) (x : Chop) (q : Nat) (h : q ≠ p) : (d.setChop p x).chop q = d.chop q :=
  mget_mset_ne _ _ _ _ h

/-! ### `Dev.setReadRev` -/

@[simp] theorem Dev.setReadRev_fv (d : Dev) (p : Nat) (x : Option ReadRev) : (d.setReadRev p x).fv = d.fv := rfl
@[simp] theorem Dev.setReadRev_msixTab (d : Dev) (p : Nat) (x : Option ReadRev) : (d.setReadRev p x).msixTab = d.msixTab := rfl
@[simp] theorem Dev.setReadRev_pba (d : Dev) (p : Nat) (x : Option ReadRev) : (d.setReadRev p x).pba = d.pba := rfl
@[simp] theorem Dev.setReadRev_clk (d : Dev) (p : Nat) (x : Option ReadRev) : (d.setReadRev p x).clk = d.clk := rfl
@[simp] theorem Dev.setReadRev_fuse (d : Dev) (p : Nat) (x : Option ReadRev) : (d.setReadRev p x).fuse = d.fuse := rfl
@[simp] theorem Dev.setReadRev_mgmt (d : Dev) (p : Nat) (x : Option ReadRev) : (d.setReadRev p x).mgmt = d.mgmt := rfl
@[simp] theorem Dev.setReadRev_mem (d : Dev) (p : Nat) (x : Option ReadRev) : (d.setReadRev p x).mem = d.mem := rfl
@[simp] theorem Dev.setReadRev_brine (d : Dev) (p : Nat) (x : Option ReadRev) : (d.setReadRev p x).brine = d.brine := rfl
@[simp] theorem Dev.setReadRev_mmu (d : Dev) (p : Nat) (x : Option ReadRev) : (d.setReadRev p x).mmu = d.mmu := rfl
@[simp] theorem Dev.setReadRev_que (d : Dev) (p : Nat) (x : Option ReadRev) : (d.setReadRev p x).que = d.que := rfl
@[simp] theorem Dev.setReadRev_windows (d : Dev) (p : Nat) (x : Option ReadRev) : (d.setReadRev p x).windows = d.windows := rfl
@[simp] theorem Dev.setReadRev_flash (d : Dev) (p : Nat) (x : Option ReadRev) : (d.setReadRev p x).flash = d.flash := rfl
@[simp] theorem Dev.setReadRev_sal (d : Dev) (p : Nat) (x : Option ReadRev) : (d.setReadRev p x).sal = d.sal := rfl
@[simp] theorem Dev.setReadRev_set (d : Dev) (p : Nat) (x : Option ReadRev) : (d.setReadRev p x).set = d.set := rfl
@[simp] theorem Dev.setReadRev_peer (d : Dev) (p : Nat) (x : Option ReadRev) : (d.setReadRev p x).peer = d.peer := rfl
@[simp] theorem Dev.setReadRev_ports (d : Dev) (p : Nat) (x : Option ReadRev) : (d.setReadRev p x).ports = d.ports := rfl
@[simp] theorem Dev.setReadRev_spots (d : Dev) (p : Nat) (x : Option ReadRev) : (d.setReadRev p x).spots = d.spots := rfl
@[simp] theorem Dev.setReadRev_yar (d : Dev) (p : Nat) (x : Option ReadRev) : (d.setReadRev p x).yar = d.yar := rfl
@[simp] theorem Dev.setReadRev_burns (d : Dev) (p : Nat) (x : Option ReadRev) : (d.setReadRev p x).burns = d.burns := rfl
@[simp] theorem Dev.setReadRev_cal (d : Dev) (p : Nat) (x : Option ReadRev) : (d.setReadRev p x).cal = d.cal := rfl
@[simp] theorem Dev.setReadRev_spins (d : Dev) (p : Nat) (x : Option ReadRev) : (d.setReadRev p x).spins = d.spins := rfl
@[simp] theorem Dev.setReadRev_axes (d : Dev) (p : Nat) (x : Option ReadRev) : (d.setReadRev p x).axes = d.axes := rfl
@[simp] theorem Dev.setReadRev_coords (d : Dev) (p : Nat) (x : Option ReadRev) : (d.setReadRev p x).coords = d.coords := rfl
@[simp] theorem Dev.setReadRev_chops (d : Dev) (p : Nat) (x : Option ReadRev) : (d.setReadRev p x).chops = d.chops := rfl
@[simp] theorem Dev.setReadRev_servos (d : Dev) (p : Nat) (x : Option ReadRev) : (d.setReadRev p x).servos = d.servos := rfl
@[simp] theorem Dev.setReadRev_freeCtr (d : Dev) (p : Nat) (x : Option ReadRev) : (d.setReadRev p x).freeCtr = d.freeCtr := rfl
@[simp] theorem Dev.setReadRev_out (d : Dev) (p : Nat) (x : Option ReadRev) : (d.setReadRev p x).out = d.out := rfl
@[simp] theorem Dev.readRev_setReadRev_same (d : Dev) (p : Nat) (x : Option ReadRev) : (d.setReadRev p x).readRev p = x :=
  mget_mset_same _ _ x _
theorem Dev.readRev_setReadRev_ne (d : Dev) (p : Nat) (x : Option ReadRev) (q : Nat) (h : q ≠ p) : (d.setReadRev p x).readRev q = d.readRev q :=
  mget_mset_ne _ _ _ _ h

/-! ### `Dev.setCalPk` -/

@[simp] theorem Dev.setCalPk_fv (d : Dev) (p : Nat) (x : CalPk) : (d.setCalPk p x).fv = d.fv := rfl
@[simp] theorem Dev.setCalPk_msixTab (d : Dev) (p : Nat) (x : CalPk) : (d.setCalPk p x).msixTab = d.msixTab := rfl
@[simp] theorem Dev.setCalPk_pba (d : Dev) (p : Nat) (x : CalPk) : (d.setCalPk p x).pba = d.pba := rfl
@[simp] theorem Dev.setCalPk_clk (d : Dev) (p : Nat) (x : CalPk) : (d.setCalPk p x).clk = d.clk := rfl
@[simp] theorem Dev.setCalPk_fuse (d : Dev) (p : Nat) (x : CalPk) : (d.setCalPk p x).fuse = d.fuse := rfl
@[simp] theorem Dev.setCalPk_mgmt (d : Dev) (p : Nat) (x : CalPk) : (d.setCalPk p x).mgmt = d.mgmt := rfl
@[simp] theorem Dev.setCalPk_mem (d : Dev) (p : Nat) (x : CalPk) : (d.setCalPk p x).mem = d.mem := rfl
@[simp] theorem Dev.setCalPk_brine (d : Dev) (p : Nat) (x : CalPk) : (d.setCalPk p x).brine = d.brine := rfl
@[simp] theorem Dev.setCalPk_mmu (d : Dev) (p : Nat) (x : CalPk) : (d.setCalPk p x).mmu = d.mmu := rfl
@[simp] theorem Dev.setCalPk_que (d : Dev) (p : Nat) (x : CalPk) : (d.setCalPk p x).que = d.que := rfl
@[simp] theorem Dev.setCalPk_windows (d : Dev) (p : Nat) (x : CalPk) : (d.setCalPk p x).windows = d.windows := rfl
@[simp] theorem Dev.setCalPk_flash (d : Dev) (p : Nat) (x : CalPk) : (d.setCalPk p x).flash = d.flash := rfl
@[simp] theorem Dev.setCalPk_sal (d : Dev) (p : Nat) (x : CalPk) : (d.setCalPk p x).sal = d.sal := rfl
@[simp] theorem Dev.setCalPk_set (d : Dev) (p : Nat) (x : CalPk) : (d.setCalPk p x).set = d.set := rfl
@[simp] theorem Dev.setCalPk_peer (d : Dev) (p : Nat) (x : CalPk) : (d.setCalPk p x).peer = d.peer := rfl
@[simp] theorem Dev.setCalPk_ports (d : Dev) (p : Nat) (x : CalPk) : (d.setCalPk p x).ports = d.ports := rfl
@[simp] theorem Dev.setCalPk_spots (d : Dev) (p : Nat) (x : CalPk) : (d.setCalPk p x).spots = d.spots := rfl
@[simp] theorem Dev.setCalPk_yar (d : Dev) (p : Nat) (x : CalPk) : (d.setCalPk p x).yar = d.yar := rfl
@[simp] theorem Dev.setCalPk_reads (d : Dev) (p : Nat) (x : CalPk) : (d.setCalPk p x).reads = d.reads := rfl
@[simp] theorem Dev.setCalPk_burns (d : Dev) (p : Nat) (x : CalPk) : (d.setCalPk p x).burns = d.burns := rfl
@[simp] theorem Dev.setCalPk_spins (d : Dev) (p : Nat) (x : CalPk) : (d.setCalPk p x).spins = d.spins := rfl
@[simp] theorem Dev.setCalPk_axes (d : Dev) (p : Nat) (x : CalPk) : (d.setCalPk p x).axes = d.axes := rfl
@[simp] theorem Dev.setCalPk_coords (d : Dev) (p : Nat) (x : CalPk) : (d.setCalPk p x).coords = d.coords := rfl
@[simp] theorem Dev.setCalPk_chops (d : Dev) (p : Nat) (x : CalPk) : (d.setCalPk p x).chops = d.chops := rfl
@[simp] theorem Dev.setCalPk_servos (d : Dev) (p : Nat) (x : CalPk) : (d.setCalPk p x).servos = d.servos := rfl
@[simp] theorem Dev.setCalPk_freeCtr (d : Dev) (p : Nat) (x : CalPk) : (d.setCalPk p x).freeCtr = d.freeCtr := rfl
@[simp] theorem Dev.setCalPk_out (d : Dev) (p : Nat) (x : CalPk) : (d.setCalPk p x).out = d.out := rfl
@[simp] theorem Dev.calPk_setCalPk_same (d : Dev) (p : Nat) (x : CalPk) : (d.setCalPk p x).calPk p = x :=
  mget_mset_same _ _ x _
theorem Dev.calPk_setCalPk_ne (d : Dev) (p : Nat) (x : CalPk) (q : Nat) (h : q ≠ p) : (d.setCalPk p x).calPk q = d.calPk q :=
  mget_mset_ne _ _ _ _ h

/-! ### `Dev.setAxis` -/

@[simp] theorem Dev.setAxis_msixTab (d : Dev) (a : Nat) (x : Axis) : (d.setAxis a x).msixTab = d.msixTab := by unfold Dev.setAxis; split <;> rfl
@[simp] theorem Dev.setAxis_pba (d : Dev) (a : Nat) (x : Axis) : (d.setAxis a x).pba = d.pba := by unfold Dev.setAxis; split <;> rfl
@[simp] theorem Dev.setAxis_clk (d : Dev) (a : Nat) (x : Axis) : (d.setAxis a x).clk = d.clk := by unfold Dev.setAxis; split <;> rfl
@[simp] theorem Dev.setAxis_fuse (d : Dev) (a : Nat) (x : Axis) : (d.setAxis a x).fuse = d.fuse := by unfold Dev.setAxis; split <;> rfl
@[simp] theorem Dev.setAxis_mgmt (d : Dev) (a : Nat) (x : Axis) : (d.setAxis a x).mgmt = d.mgmt := by unfold Dev.setAxis; split <;> rfl
@[simp] theorem Dev.setAxis_mem (d : Dev) (a : Nat) (x : Axis) : (d.setAxis a x).mem = d.mem := by unfold Dev.setAxis; split <;> rfl
@[simp] theorem Dev.setAxis_brine (d : Dev) (a : Nat) (x : Axis) : (d.setAxis a x).brine = d.brine := by unfold Dev.setAxis; split <;> rfl
@[simp] theorem Dev.setAxis_mmu (d : Dev) (a : Nat) (x : Axis) : (d.setAxis a x).mmu = d.mmu := by unfold Dev.setAxis; split <;> rfl
@[simp] theorem Dev.setAxis_que (d : Dev) (a : Nat) (x : Axis) : (d.setAxis a x).que = d.que := by unfold Dev.setAxis; split <;> rfl
@[simp] theorem Dev.setAxis_windows (d : Dev) (a : Nat) (x : Axis) : (d.setAxis a x).windows = d.windows := by unfold Dev.setAxis; split <;> rfl
@[simp] theorem Dev.setAxis_flash (d : Dev) (a : Nat) (x : Axis) : (d.setAxis a x).flash = d.flash := by unfold Dev.setAxis; split <;> rfl
@[simp] theorem Dev.setAxis_sal (d : Dev) (a : Nat) (x : Axis) : (d.setAxis a x).sal = d.sal := by unfold Dev.setAxis; split <;> rfl
@[simp] theorem Dev.setAxis_set (d : Dev) (a : Nat) (x : Axis) : (d.setAxis a x).set = d.set := by unfold Dev.setAxis; split <;> rfl
@[simp] theorem Dev.setAxis_peer (d : Dev) (a : Nat) (x : Axis) : (d.setAxis a x).peer = d.peer := by unfold Dev.setAxis; split <;> rfl
@[simp] theorem Dev.setAxis_ports (d : Dev) (a : Nat) (x : Axis) : (d.setAxis a x).ports = d.ports := by unfold Dev.setAxis; split <;> rfl
@[simp] theorem Dev.setAxis_spots (d : Dev) (a : Nat) (x : Axis) : (d.setAxis a x).spots = d.spots := by unfold Dev.setAxis; split <;> rfl
@[simp] theorem Dev.setAxis_yar (d : Dev) (a : Nat) (x : Axis) : (d.setAxis a x).yar = d.yar := by unfold Dev.setAxis; split <;> rfl
@[simp] theorem Dev.setAxis_reads (d : Dev) (a : Nat) (x : Axis) : (d.setAxis a x).reads = d.reads := by unfold Dev.setAxis; split <;> rfl
@[simp] theorem Dev.setAxis_burns (d : Dev) (a : Nat) (x : Axis) : (d.setAxis a x).burns = d.burns := by unfold Dev.setAxis; split <;> rfl
@[simp] theorem Dev.setAxis_cal (d : Dev) (a : Nat) (x : Axis) : (d.setAxis a x).cal = d.cal := by unfold Dev.setAxis; split <;> rfl
@[simp] theorem Dev.setAxis_spins (d : Dev) (a : Nat) (x : Axis) : (d.setAxis a x).spins = d.spins := by unfold Dev.setAxis; split <;> rfl
@[simp] theorem Dev.setAxis_coords (d : Dev) (a : Nat) (x : Axis) : (d.setAxis a x).coords = d.coords := by unfold Dev.setAxis; split <;> rfl
@[simp] theorem Dev.setAxis_chops (d : Dev) (a : Nat) (x : Axis) : (d.setAxis a x).chops = d.chops := by unfold Dev.setAxis; split <;> rfl
@[simp] theorem Dev.setAxis_servos (d : Dev) (a : Nat) (x : Axis) : (d.setAxis a x).servos = d.servos := by unfold Dev.setAxis; split <;> rfl
@[simp] theorem Dev.setAxis_freeCtr (d : Dev) (a : Nat) (x : Axis) : (d.setAxis a x).freeCtr = d.freeCtr := by unfold Dev.setAxis; split <;> rfl
@[simp] theorem Dev.setAxis_out (d : Dev) (a : Nat) (x : Axis) : (d.setAxis a x).out = d.out := by unfold Dev.setAxis; split <;> rfl

/-! ### `Dev.setSpot` -/

@[simp] theorem Dev.setSpot_msixTab (d : Dev) (g : Nat) (x : Spot) : (d.setSpot g x).msixTab = d.msixTab := rfl
@[simp] theorem Dev.setSpot_pba (d : Dev) (g : Nat) (x : Spot) : (d.setSpot g x).pba = d.pba := rfl
@[simp] theorem Dev.setSpot_clk (d : Dev) (g : Nat) (x : Spot) : (d.setSpot g x).clk = d.clk := rfl
@[simp] theorem Dev.setSpot_fuse (d : Dev) (g : Nat) (x : Spot) : (d.setSpot g x).fuse = d.fuse := rfl
@[simp] theorem Dev.setSpot_mgmt (d : Dev) (g : Nat) (x : Spot) : (d.setSpot g x).mgmt = d.mgmt := rfl
@[simp] theorem Dev.setSpot_mem (d : Dev) (g : Nat) (x : Spot) : (d.setSpot g x).mem = d.mem := rfl
@[simp] theorem Dev.setSpot_brine (d : Dev) (g : Nat) (x : Spot) : (d.setSpot g x).brine = d.brine := rfl
@[simp] theorem Dev.setSpot_mmu (d : Dev) (g : Nat) (x : Spot) : (d.setSpot g x).mmu = d.mmu := rfl
@[simp] theorem Dev.setSpot_que (d : Dev) (g : Nat) (x : Spot) : (d.setSpot g x).que = d.que := rfl
@[simp] theorem Dev.setSpot_windows (d : Dev) (g : Nat) (x : Spot) : (d.setSpot g x).windows = d.windows := rfl
@[simp] theorem Dev.setSpot_flash (d : Dev) (g : Nat) (x : Spot) : (d.setSpot g x).flash = d.flash := rfl
@[simp] theorem Dev.setSpot_sal (d : Dev) (g : Nat) (x : Spot) : (d.setSpot g x).sal = d.sal := rfl
@[simp] theorem Dev.setSpot_set (d : Dev) (g : Nat) (x : Spot) : (d.setSpot g x).set = d.set := rfl
@[simp] theorem Dev.setSpot_peer (d : Dev) (g : Nat) (x : Spot) : (d.setSpot g x).peer = d.peer := rfl
@[simp] theorem Dev.setSpot_ports (d : Dev) (g : Nat) (x : Spot) : (d.setSpot g x).ports = d.ports := rfl
@[simp] theorem Dev.setSpot_yar (d : Dev) (g : Nat) (x : Spot) : (d.setSpot g x).yar = d.yar := rfl
@[simp] theorem Dev.setSpot_reads (d : Dev) (g : Nat) (x : Spot) : (d.setSpot g x).reads = d.reads := rfl
@[simp] theorem Dev.setSpot_burns (d : Dev) (g : Nat) (x : Spot) : (d.setSpot g x).burns = d.burns := rfl
@[simp] theorem Dev.setSpot_cal (d : Dev) (g : Nat) (x : Spot) : (d.setSpot g x).cal = d.cal := rfl
@[simp] theorem Dev.setSpot_spins (d : Dev) (g : Nat) (x : Spot) : (d.setSpot g x).spins = d.spins := rfl
@[simp] theorem Dev.setSpot_axes (d : Dev) (g : Nat) (x : Spot) : (d.setSpot g x).axes = d.axes := rfl
@[simp] theorem Dev.setSpot_coords (d : Dev) (g : Nat) (x : Spot) : (d.setSpot g x).coords = d.coords := rfl
@[simp] theorem Dev.setSpot_chops (d : Dev) (g : Nat) (x : Spot) : (d.setSpot g x).chops = d.chops := rfl
@[simp] theorem Dev.setSpot_servos (d : Dev) (g : Nat) (x : Spot) : (d.setSpot g x).servos = d.servos := rfl
@[simp] theorem Dev.setSpot_freeCtr (d : Dev) (g : Nat) (x : Spot) : (d.setSpot g x).freeCtr = d.freeCtr := rfl
@[simp] theorem Dev.setSpot_out (d : Dev) (g : Nat) (x : Spot) : (d.setSpot g x).out = d.out := rfl
@[simp] theorem Dev.spot_setSpot_same (d : Dev) (g : Nat) (x : Spot) : (d.setSpot g x).spot g = x :=
  mget_mset_same _ _ x _
theorem Dev.spot_setSpot_ne (d : Dev) (g : Nat) (x : Spot) (q : Nat) (h : q ≠ g) : (d.setSpot g x).spot q = d.spot q :=
  mget_mset_ne _ _ _ _ h

/-! ### `Dev.setBurn` -/

@[simp] theorem Dev.setBurn_msixTab (d : Dev) (p : Nat) (x : Option Burn) : (d.setBurn p x).msixTab = d.msixTab := rfl
@[simp] theorem Dev.setBurn_pba (d : Dev) (p : Nat) (x : Option Burn) : (d.setBurn p x).pba = d.pba := rfl
@[simp] theorem Dev.setBurn_clk (d : Dev) (p : Nat) (x : Option Burn) : (d.setBurn p x).clk = d.clk := rfl
@[simp] theorem Dev.setBurn_fuse (d : Dev) (p : Nat) (x : Option Burn) : (d.setBurn p x).fuse = d.fuse := rfl
@[simp] theorem Dev.setBurn_mgmt (d : Dev) (p : Nat) (x : Option Burn) : (d.setBurn p x).mgmt = d.mgmt := rfl
@[simp] theorem Dev.setBurn_mem (d : Dev) (p : Nat) (x : Option Burn) : (d.setBurn p x).mem = d.mem := rfl
@[simp] theorem Dev.setBurn_brine (d : Dev) (p : Nat) (x : Option Burn) : (d.setBurn p x).brine = d.brine := rfl
@[simp] theorem Dev.setBurn_mmu (d : Dev) (p : Nat) (x : Option Burn) : (d.setBurn p x).mmu = d.mmu := rfl
@[simp] theorem Dev.setBurn_que (d : Dev) (p : Nat) (x : Option Burn) : (d.setBurn p x).que = d.que := rfl
@[simp] theorem Dev.setBurn_windows (d : Dev) (p : Nat) (x : Option Burn) : (d.setBurn p x).windows = d.windows := rfl
@[simp] theorem Dev.setBurn_flash (d : Dev) (p : Nat) (x : Option Burn) : (d.setBurn p x).flash = d.flash := rfl
@[simp] theorem Dev.setBurn_sal (d : Dev) (p : Nat) (x : Option Burn) : (d.setBurn p x).sal = d.sal := rfl
@[simp] theorem Dev.setBurn_set (d : Dev) (p : Nat) (x : Option Burn) : (d.setBurn p x).set = d.set := rfl
@[simp] theorem Dev.setBurn_peer (d : Dev) (p : Nat) (x : Option Burn) : (d.setBurn p x).peer = d.peer := rfl
@[simp] theorem Dev.setBurn_ports (d : Dev) (p : Nat) (x : Option Burn) : (d.setBurn p x).ports = d.ports := rfl
@[simp] theorem Dev.setBurn_spots (d : Dev) (p : Nat) (x : Option Burn) : (d.setBurn p x).spots = d.spots := rfl
@[simp] theorem Dev.setBurn_yar (d : Dev) (p : Nat) (x : Option Burn) : (d.setBurn p x).yar = d.yar := rfl
@[simp] theorem Dev.setBurn_reads (d : Dev) (p : Nat) (x : Option Burn) : (d.setBurn p x).reads = d.reads := rfl
@[simp] theorem Dev.setBurn_cal (d : Dev) (p : Nat) (x : Option Burn) : (d.setBurn p x).cal = d.cal := rfl
@[simp] theorem Dev.setBurn_spins (d : Dev) (p : Nat) (x : Option Burn) : (d.setBurn p x).spins = d.spins := rfl
@[simp] theorem Dev.setBurn_axes (d : Dev) (p : Nat) (x : Option Burn) : (d.setBurn p x).axes = d.axes := rfl
@[simp] theorem Dev.setBurn_coords (d : Dev) (p : Nat) (x : Option Burn) : (d.setBurn p x).coords = d.coords := rfl
@[simp] theorem Dev.setBurn_chops (d : Dev) (p : Nat) (x : Option Burn) : (d.setBurn p x).chops = d.chops := rfl
@[simp] theorem Dev.setBurn_servos (d : Dev) (p : Nat) (x : Option Burn) : (d.setBurn p x).servos = d.servos := rfl
@[simp] theorem Dev.setBurn_freeCtr (d : Dev) (p : Nat) (x : Option Burn) : (d.setBurn p x).freeCtr = d.freeCtr := rfl
@[simp] theorem Dev.setBurn_out (d : Dev) (p : Nat) (x : Option Burn) : (d.setBurn p x).out = d.out := rfl
@[simp] theorem Dev.burn_setBurn_same (d : Dev) (p : Nat) (x : Option Burn) : (d.setBurn p x).burn p = x :=
  mget_mset_same _ _ x _
theorem Dev.burn_setBurn_ne (d : Dev) (p : Nat) (x : Option Burn) (q : Nat) (h : q ≠ p) : (d.setBurn p x).burn q = d.burn q :=
  mget_mset_ne _ _ _ _ h

/-! ### `Dev.setSb` -/

@[simp] theorem Dev.setSb_fv (d : Dev) (b : Nat) (x : SbEnt) : (d.setSb b x).fv = d.fv := rfl
@[simp] theorem Dev.setSb_msixTab (d : Dev) (b : Nat) (x : SbEnt) : (d.setSb b x).msixTab = d.msixTab := rfl
@[simp] theorem Dev.setSb_pba (d : Dev) (b : Nat) (x : SbEnt) : (d.setSb b x).pba = d.pba := rfl
@[simp] theorem Dev.setSb_clk (d : Dev) (b : Nat) (x : SbEnt) : (d.setSb b x).clk = d.clk := rfl
@[simp] theorem Dev.setSb_fuse (d : Dev) (b : Nat) (x : SbEnt) : (d.setSb b x).fuse = d.fuse := rfl
@[simp] theorem Dev.setSb_mgmt (d : Dev) (b : Nat) (x : SbEnt) : (d.setSb b x).mgmt = d.mgmt := rfl
@[simp] theorem Dev.setSb_mem (d : Dev) (b : Nat) (x : SbEnt) : (d.setSb b x).mem = d.mem := rfl
@[simp] theorem Dev.setSb_brine (d : Dev) (b : Nat) (x : SbEnt) : (d.setSb b x).brine = d.brine := rfl
@[simp] theorem Dev.setSb_mmu (d : Dev) (b : Nat) (x : SbEnt) : (d.setSb b x).mmu = d.mmu := rfl
@[simp] theorem Dev.setSb_que (d : Dev) (b : Nat) (x : SbEnt) : (d.setSb b x).que = d.que := rfl
@[simp] theorem Dev.setSb_windows (d : Dev) (b : Nat) (x : SbEnt) : (d.setSb b x).windows = d.windows := rfl
@[simp] theorem Dev.setSb_flash (d : Dev) (b : Nat) (x : SbEnt) : (d.setSb b x).flash = d.flash := rfl
@[simp] theorem Dev.setSb_set (d : Dev) (b : Nat) (x : SbEnt) : (d.setSb b x).set = d.set := rfl
@[simp] theorem Dev.setSb_peer (d : Dev) (b : Nat) (x : SbEnt) : (d.setSb b x).peer = d.peer := rfl
@[simp] theorem Dev.setSb_ports (d : Dev) (b : Nat) (x : SbEnt) : (d.setSb b x).ports = d.ports := rfl
@[simp] theorem Dev.setSb_spots (d : Dev) (b : Nat) (x : SbEnt) : (d.setSb b x).spots = d.spots := rfl
@[simp] theorem Dev.setSb_yar (d : Dev) (b : Nat) (x : SbEnt) : (d.setSb b x).yar = d.yar := rfl
@[simp] theorem Dev.setSb_reads (d : Dev) (b : Nat) (x : SbEnt) : (d.setSb b x).reads = d.reads := rfl
@[simp] theorem Dev.setSb_burns (d : Dev) (b : Nat) (x : SbEnt) : (d.setSb b x).burns = d.burns := rfl
@[simp] theorem Dev.setSb_cal (d : Dev) (b : Nat) (x : SbEnt) : (d.setSb b x).cal = d.cal := rfl
@[simp] theorem Dev.setSb_spins (d : Dev) (b : Nat) (x : SbEnt) : (d.setSb b x).spins = d.spins := rfl
@[simp] theorem Dev.setSb_axes (d : Dev) (b : Nat) (x : SbEnt) : (d.setSb b x).axes = d.axes := rfl
@[simp] theorem Dev.setSb_coords (d : Dev) (b : Nat) (x : SbEnt) : (d.setSb b x).coords = d.coords := rfl
@[simp] theorem Dev.setSb_chops (d : Dev) (b : Nat) (x : SbEnt) : (d.setSb b x).chops = d.chops := rfl
@[simp] theorem Dev.setSb_servos (d : Dev) (b : Nat) (x : SbEnt) : (d.setSb b x).servos = d.servos := rfl
@[simp] theorem Dev.setSb_freeCtr (d : Dev) (b : Nat) (x : SbEnt) : (d.setSb b x).freeCtr = d.freeCtr := rfl
@[simp] theorem Dev.setSb_out (d : Dev) (b : Nat) (x : SbEnt) : (d.setSb b x).out = d.out := rfl
@[simp] theorem Dev.sb_setSb_same (d : Dev) (b : Nat) (x : SbEnt) : (d.setSb b x).sb b = x :=
  mget_mset_same _ _ x _
theorem Dev.sb_setSb_ne (d : Dev) (b : Nat) (x : SbEnt) (q : Nat) (h : q ≠ b) : (d.setSb b x).sb q = d.sb q :=
  mget_mset_ne _ _ _ _ h

/-! ### `Dev.setSeg` -/

@[simp] theorem Dev.setSeg_fv (d : Dev) (l : Nat) (x : Option SegEnt) : (d.setSeg l x).fv = d.fv := rfl
@[simp] theorem Dev.setSeg_msixTab (d : Dev) (l : Nat) (x : Option SegEnt) : (d.setSeg l x).msixTab = d.msixTab := rfl
@[simp] theorem Dev.setSeg_pba (d : Dev) (l : Nat) (x : Option SegEnt) : (d.setSeg l x).pba = d.pba := rfl
@[simp] theorem Dev.setSeg_clk (d : Dev) (l : Nat) (x : Option SegEnt) : (d.setSeg l x).clk = d.clk := rfl
@[simp] theorem Dev.setSeg_fuse (d : Dev) (l : Nat) (x : Option SegEnt) : (d.setSeg l x).fuse = d.fuse := rfl
@[simp] theorem Dev.setSeg_mgmt (d : Dev) (l : Nat) (x : Option SegEnt) : (d.setSeg l x).mgmt = d.mgmt := rfl
@[simp] theorem Dev.setSeg_mem (d : Dev) (l : Nat) (x : Option SegEnt) : (d.setSeg l x).mem = d.mem := rfl
@[simp] theorem Dev.setSeg_brine (d : Dev) (l : Nat) (x : Option SegEnt) : (d.setSeg l x).brine = d.brine := rfl
@[simp] theorem Dev.setSeg_mmu (d : Dev) (l : Nat) (x : Option SegEnt) : (d.setSeg l x).mmu = d.mmu := rfl
@[simp] theorem Dev.setSeg_que (d : Dev) (l : Nat) (x : Option SegEnt) : (d.setSeg l x).que = d.que := rfl
@[simp] theorem Dev.setSeg_windows (d : Dev) (l : Nat) (x : Option SegEnt) : (d.setSeg l x).windows = d.windows := rfl
@[simp] theorem Dev.setSeg_flash (d : Dev) (l : Nat) (x : Option SegEnt) : (d.setSeg l x).flash = d.flash := rfl
@[simp] theorem Dev.setSeg_set (d : Dev) (l : Nat) (x : Option SegEnt) : (d.setSeg l x).set = d.set := rfl
@[simp] theorem Dev.setSeg_peer (d : Dev) (l : Nat) (x : Option SegEnt) : (d.setSeg l x).peer = d.peer := rfl
@[simp] theorem Dev.setSeg_ports (d : Dev) (l : Nat) (x : Option SegEnt) : (d.setSeg l x).ports = d.ports := rfl
@[simp] theorem Dev.setSeg_spots (d : Dev) (l : Nat) (x : Option SegEnt) : (d.setSeg l x).spots = d.spots := rfl
@[simp] theorem Dev.setSeg_yar (d : Dev) (l : Nat) (x : Option SegEnt) : (d.setSeg l x).yar = d.yar := rfl
@[simp] theorem Dev.setSeg_reads (d : Dev) (l : Nat) (x : Option SegEnt) : (d.setSeg l x).reads = d.reads := rfl
@[simp] theorem Dev.setSeg_burns (d : Dev) (l : Nat) (x : Option SegEnt) : (d.setSeg l x).burns = d.burns := rfl
@[simp] theorem Dev.setSeg_cal (d : Dev) (l : Nat) (x : Option SegEnt) : (d.setSeg l x).cal = d.cal := rfl
@[simp] theorem Dev.setSeg_spins (d : Dev) (l : Nat) (x : Option SegEnt) : (d.setSeg l x).spins = d.spins := rfl
@[simp] theorem Dev.setSeg_axes (d : Dev) (l : Nat) (x : Option SegEnt) : (d.setSeg l x).axes = d.axes := rfl
@[simp] theorem Dev.setSeg_coords (d : Dev) (l : Nat) (x : Option SegEnt) : (d.setSeg l x).coords = d.coords := rfl
@[simp] theorem Dev.setSeg_chops (d : Dev) (l : Nat) (x : Option SegEnt) : (d.setSeg l x).chops = d.chops := rfl
@[simp] theorem Dev.setSeg_servos (d : Dev) (l : Nat) (x : Option SegEnt) : (d.setSeg l x).servos = d.servos := rfl
@[simp] theorem Dev.setSeg_freeCtr (d : Dev) (l : Nat) (x : Option SegEnt) : (d.setSeg l x).freeCtr = d.freeCtr := rfl
@[simp] theorem Dev.setSeg_out (d : Dev) (l : Nat) (x : Option SegEnt) : (d.setSeg l x).out = d.out := rfl
@[simp] theorem Dev.seg_setSeg_same (d : Dev) (l : Nat) (x : Option SegEnt) : (d.setSeg l x).seg l = x :=
  mget_mset_same _ _ x _
theorem Dev.seg_setSeg_ne (d : Dev) (l : Nat) (x : Option SegEnt) (q : Nat) (h : q ≠ l) : (d.setSeg l x).seg q = d.seg q :=
  mget_mset_ne _ _ _ _ h

/-! ### `Dev.setStream` -/

@[simp] theorem Dev.setStream_fv (d : Dev) (s : Nat) (x : Stream) : (d.setStream s x).fv = d.fv := rfl
@[simp] theorem Dev.setStream_msixTab (d : Dev) (s : Nat) (x : Stream) : (d.setStream s x).msixTab = d.msixTab := rfl
@[simp] theorem Dev.setStream_pba (d : Dev) (s : Nat) (x : Stream) : (d.setStream s x).pba = d.pba := rfl
@[simp] theorem Dev.setStream_clk (d : Dev) (s : Nat) (x : Stream) : (d.setStream s x).clk = d.clk := rfl
@[simp] theorem Dev.setStream_fuse (d : Dev) (s : Nat) (x : Stream) : (d.setStream s x).fuse = d.fuse := rfl
@[simp] theorem Dev.setStream_mgmt (d : Dev) (s : Nat) (x : Stream) : (d.setStream s x).mgmt = d.mgmt := rfl
@[simp] theorem Dev.setStream_mem (d : Dev) (s : Nat) (x : Stream) : (d.setStream s x).mem = d.mem := rfl
@[simp] theorem Dev.setStream_brine (d : Dev) (s : Nat) (x : Stream) : (d.setStream s x).brine = d.brine := rfl
@[simp] theorem Dev.setStream_mmu (d : Dev) (s : Nat) (x : Stream) : (d.setStream s x).mmu = d.mmu := rfl
@[simp] theorem Dev.setStream_que (d : Dev) (s : Nat) (x : Stream) : (d.setStream s x).que = d.que := rfl
@[simp] theorem Dev.setStream_windows (d : Dev) (s : Nat) (x : Stream) : (d.setStream s x).windows = d.windows := rfl
@[simp] theorem Dev.setStream_flash (d : Dev) (s : Nat) (x : Stream) : (d.setStream s x).flash = d.flash := rfl
@[simp] theorem Dev.setStream_set (d : Dev) (s : Nat) (x : Stream) : (d.setStream s x).set = d.set := rfl
@[simp] theorem Dev.setStream_peer (d : Dev) (s : Nat) (x : Stream) : (d.setStream s x).peer = d.peer := rfl
@[simp] theorem Dev.setStream_ports (d : Dev) (s : Nat) (x : Stream) : (d.setStream s x).ports = d.ports := rfl
@[simp] theorem Dev.setStream_spots (d : Dev) (s : Nat) (x : Stream) : (d.setStream s x).spots = d.spots := rfl
@[simp] theorem Dev.setStream_yar (d : Dev) (s : Nat) (x : Stream) : (d.setStream s x).yar = d.yar := rfl
@[simp] theorem Dev.setStream_reads (d : Dev) (s : Nat) (x : Stream) : (d.setStream s x).reads = d.reads := rfl
@[simp] theorem Dev.setStream_burns (d : Dev) (s : Nat) (x : Stream) : (d.setStream s x).burns = d.burns := rfl
@[simp] theorem Dev.setStream_cal (d : Dev) (s : Nat) (x : Stream) : (d.setStream s x).cal = d.cal := rfl
@[simp] theorem Dev.setStream_spins (d : Dev) (s : Nat) (x : Stream) : (d.setStream s x).spins = d.spins := rfl
@[simp] theorem Dev.setStream_axes (d : Dev) (s : Nat) (x : Stream) : (d.setStream s x).axes = d.axes := rfl
@[simp] theorem Dev.setStream_coords (d : Dev) (s : Nat) (x : Stream) : (d.setStream s x).coords = d.coords := rfl
@[simp] theorem Dev.setStream_chops (d : Dev) (s : Nat) (x : Stream) : (d.setStream s x).chops = d.chops := rfl
@[simp] theorem Dev.setStream_servos (d : Dev) (s : Nat) (x : Stream) : (d.setStream s x).servos = d.servos := rfl
@[simp] theorem Dev.setStream_freeCtr (d : Dev) (s : Nat) (x : Stream) : (d.setStream s x).freeCtr = d.freeCtr := rfl
@[simp] theorem Dev.setStream_out (d : Dev) (s : Nat) (x : Stream) : (d.setStream s x).out = d.out := rfl

/-! ### `Dev.putSet` -/

@[simp] theorem Dev.putSet_fv (d : Dev) (v : Nat) (x : Option DiscSet) : (d.putSet v x).fv = d.fv := rfl
@[simp] theorem Dev.putSet_msixTab (d : Dev) (v : Nat) (x : Option DiscSet) : (d.putSet v x).msixTab = d.msixTab := rfl
@[simp] theorem Dev.putSet_pba (d : Dev) (v : Nat) (x : Option DiscSet) : (d.putSet v x).pba = d.pba := rfl
@[simp] theorem Dev.putSet_clk (d : Dev) (v : Nat) (x : Option DiscSet) : (d.putSet v x).clk = d.clk := rfl
@[simp] theorem Dev.putSet_fuse (d : Dev) (v : Nat) (x : Option DiscSet) : (d.putSet v x).fuse = d.fuse := rfl
@[simp] theorem Dev.putSet_mgmt (d : Dev) (v : Nat) (x : Option DiscSet) : (d.putSet v x).mgmt = d.mgmt := rfl
@[simp] theorem Dev.putSet_mem (d : Dev) (v : Nat) (x : Option DiscSet) : (d.putSet v x).mem = d.mem := rfl
@[simp] theorem Dev.putSet_brine (d : Dev) (v : Nat) (x : Option DiscSet) : (d.putSet v x).brine = d.brine := rfl
@[simp] theorem Dev.putSet_mmu (d : Dev) (v : Nat) (x : Option DiscSet) : (d.putSet v x).mmu = d.mmu := rfl
@[simp] theorem Dev.putSet_que (d : Dev) (v : Nat) (x : Option DiscSet) : (d.putSet v x).que = d.que := rfl
@[simp] theorem Dev.putSet_windows (d : Dev) (v : Nat) (x : Option DiscSet) : (d.putSet v x).windows = d.windows := rfl
@[simp] theorem Dev.putSet_flash (d : Dev) (v : Nat) (x : Option DiscSet) : (d.putSet v x).flash = d.flash := rfl
@[simp] theorem Dev.putSet_sal (d : Dev) (v : Nat) (x : Option DiscSet) : (d.putSet v x).sal = d.sal := rfl
@[simp] theorem Dev.putSet_peer (d : Dev) (v : Nat) (x : Option DiscSet) : (d.putSet v x).peer = d.peer := rfl
@[simp] theorem Dev.putSet_ports (d : Dev) (v : Nat) (x : Option DiscSet) : (d.putSet v x).ports = d.ports := rfl
@[simp] theorem Dev.putSet_spots (d : Dev) (v : Nat) (x : Option DiscSet) : (d.putSet v x).spots = d.spots := rfl
@[simp] theorem Dev.putSet_yar (d : Dev) (v : Nat) (x : Option DiscSet) : (d.putSet v x).yar = d.yar := rfl
@[simp] theorem Dev.putSet_reads (d : Dev) (v : Nat) (x : Option DiscSet) : (d.putSet v x).reads = d.reads := rfl
@[simp] theorem Dev.putSet_burns (d : Dev) (v : Nat) (x : Option DiscSet) : (d.putSet v x).burns = d.burns := rfl
@[simp] theorem Dev.putSet_cal (d : Dev) (v : Nat) (x : Option DiscSet) : (d.putSet v x).cal = d.cal := rfl
@[simp] theorem Dev.putSet_spins (d : Dev) (v : Nat) (x : Option DiscSet) : (d.putSet v x).spins = d.spins := rfl
@[simp] theorem Dev.putSet_axes (d : Dev) (v : Nat) (x : Option DiscSet) : (d.putSet v x).axes = d.axes := rfl
@[simp] theorem Dev.putSet_coords (d : Dev) (v : Nat) (x : Option DiscSet) : (d.putSet v x).coords = d.coords := rfl
@[simp] theorem Dev.putSet_chops (d : Dev) (v : Nat) (x : Option DiscSet) : (d.putSet v x).chops = d.chops := rfl
@[simp] theorem Dev.putSet_servos (d : Dev) (v : Nat) (x : Option DiscSet) : (d.putSet v x).servos = d.servos := rfl
@[simp] theorem Dev.putSet_freeCtr (d : Dev) (v : Nat) (x : Option DiscSet) : (d.putSet v x).freeCtr = d.freeCtr := rfl
@[simp] theorem Dev.putSet_out (d : Dev) (v : Nat) (x : Option DiscSet) : (d.putSet v x).out = d.out := rfl
@[simp] theorem Dev.volSet_putSet_same (d : Dev) (v : Nat) (x : Option DiscSet) : (d.putSet v x).volSet v = x :=
  mget_mset_same _ _ x _
theorem Dev.volSet_putSet_ne (d : Dev) (v : Nat) (x : Option DiscSet) (q : Nat) (h : q ≠ v) : (d.putSet v x).volSet q = d.volSet q :=
  mget_mset_ne _ _ _ _ h

/-! ### `Dev.putStripe` -/

@[simp] theorem Dev.putStripe_fv (d : Dev) (v n : Nat) (x : Option Stripe) : (d.putStripe v n x).fv = d.fv := rfl
@[simp] theorem Dev.putStripe_msixTab (d : Dev) (v n : Nat) (x : Option Stripe) : (d.putStripe v n x).msixTab = d.msixTab := rfl
@[simp] theorem Dev.putStripe_pba (d : Dev) (v n : Nat) (x : Option Stripe) : (d.putStripe v n x).pba = d.pba := rfl
@[simp] theorem Dev.putStripe_clk (d : Dev) (v n : Nat) (x : Option Stripe) : (d.putStripe v n x).clk = d.clk := rfl
@[simp] theorem Dev.putStripe_fuse (d : Dev) (v n : Nat) (x : Option Stripe) : (d.putStripe v n x).fuse = d.fuse := rfl
@[simp] theorem Dev.putStripe_mgmt (d : Dev) (v n : Nat) (x : Option Stripe) : (d.putStripe v n x).mgmt = d.mgmt := rfl
@[simp] theorem Dev.putStripe_mem (d : Dev) (v n : Nat) (x : Option Stripe) : (d.putStripe v n x).mem = d.mem := rfl
@[simp] theorem Dev.putStripe_brine (d : Dev) (v n : Nat) (x : Option Stripe) : (d.putStripe v n x).brine = d.brine := rfl
@[simp] theorem Dev.putStripe_mmu (d : Dev) (v n : Nat) (x : Option Stripe) : (d.putStripe v n x).mmu = d.mmu := rfl
@[simp] theorem Dev.putStripe_que (d : Dev) (v n : Nat) (x : Option Stripe) : (d.putStripe v n x).que = d.que := rfl
@[simp] theorem Dev.putStripe_windows (d : Dev) (v n : Nat) (x : Option Stripe) : (d.putStripe v n x).windows = d.windows := rfl
@[simp] theorem Dev.putStripe_flash (d : Dev) (v n : Nat) (x : Option Stripe) : (d.putStripe v n x).flash = d.flash := rfl
@[simp] theorem Dev.putStripe_sal (d : Dev) (v n : Nat) (x : Option Stripe) : (d.putStripe v n x).sal = d.sal := rfl
@[simp] theorem Dev.putStripe_peer (d : Dev) (v n : Nat) (x : Option Stripe) : (d.putStripe v n x).peer = d.peer := rfl
@[simp] theorem Dev.putStripe_ports (d : Dev) (v n : Nat) (x : Option Stripe) : (d.putStripe v n x).ports = d.ports := rfl
@[simp] theorem Dev.putStripe_spots (d : Dev) (v n : Nat) (x : Option Stripe) : (d.putStripe v n x).spots = d.spots := rfl
@[simp] theorem Dev.putStripe_yar (d : Dev) (v n : Nat) (x : Option Stripe) : (d.putStripe v n x).yar = d.yar := rfl
@[simp] theorem Dev.putStripe_reads (d : Dev) (v n : Nat) (x : Option Stripe) : (d.putStripe v n x).reads = d.reads := rfl
@[simp] theorem Dev.putStripe_burns (d : Dev) (v n : Nat) (x : Option Stripe) : (d.putStripe v n x).burns = d.burns := rfl
@[simp] theorem Dev.putStripe_cal (d : Dev) (v n : Nat) (x : Option Stripe) : (d.putStripe v n x).cal = d.cal := rfl
@[simp] theorem Dev.putStripe_spins (d : Dev) (v n : Nat) (x : Option Stripe) : (d.putStripe v n x).spins = d.spins := rfl
@[simp] theorem Dev.putStripe_axes (d : Dev) (v n : Nat) (x : Option Stripe) : (d.putStripe v n x).axes = d.axes := rfl
@[simp] theorem Dev.putStripe_coords (d : Dev) (v n : Nat) (x : Option Stripe) : (d.putStripe v n x).coords = d.coords := rfl
@[simp] theorem Dev.putStripe_chops (d : Dev) (v n : Nat) (x : Option Stripe) : (d.putStripe v n x).chops = d.chops := rfl
@[simp] theorem Dev.putStripe_servos (d : Dev) (v n : Nat) (x : Option Stripe) : (d.putStripe v n x).servos = d.servos := rfl
@[simp] theorem Dev.putStripe_freeCtr (d : Dev) (v n : Nat) (x : Option Stripe) : (d.putStripe v n x).freeCtr = d.freeCtr := rfl
@[simp] theorem Dev.putStripe_out (d : Dev) (v n : Nat) (x : Option Stripe) : (d.putStripe v n x).out = d.out := rfl
@[simp] theorem Dev.stripe_putStripe_same (d : Dev) (v n : Nat) (x : Option Stripe) : (d.putStripe v n x).stripe v n = x :=
  mget_mset_same _ _ x _

/-! ### `Dev.putDisc` -/

@[simp] theorem Dev.putDisc_fv (d : Dev) (s : Nat) (x : Option Disc) : (d.putDisc s x).fv = d.fv := rfl
@[simp] theorem Dev.putDisc_msixTab (d : Dev) (s : Nat) (x : Option Disc) : (d.putDisc s x).msixTab = d.msixTab := rfl
@[simp] theorem Dev.putDisc_pba (d : Dev) (s : Nat) (x : Option Disc) : (d.putDisc s x).pba = d.pba := rfl
@[simp] theorem Dev.putDisc_clk (d : Dev) (s : Nat) (x : Option Disc) : (d.putDisc s x).clk = d.clk := rfl
@[simp] theorem Dev.putDisc_fuse (d : Dev) (s : Nat) (x : Option Disc) : (d.putDisc s x).fuse = d.fuse := rfl
@[simp] theorem Dev.putDisc_mgmt (d : Dev) (s : Nat) (x : Option Disc) : (d.putDisc s x).mgmt = d.mgmt := rfl
@[simp] theorem Dev.putDisc_mem (d : Dev) (s : Nat) (x : Option Disc) : (d.putDisc s x).mem = d.mem := rfl
@[simp] theorem Dev.putDisc_brine (d : Dev) (s : Nat) (x : Option Disc) : (d.putDisc s x).brine = d.brine := rfl
@[simp] theorem Dev.putDisc_mmu (d : Dev) (s : Nat) (x : Option Disc) : (d.putDisc s x).mmu = d.mmu := rfl
@[simp] theorem Dev.putDisc_que (d : Dev) (s : Nat) (x : Option Disc) : (d.putDisc s x).que = d.que := rfl
@[simp] theorem Dev.putDisc_windows (d : Dev) (s : Nat) (x : Option Disc) : (d.putDisc s x).windows = d.windows := rfl
@[simp] theorem Dev.putDisc_flash (d : Dev) (s : Nat) (x : Option Disc) : (d.putDisc s x).flash = d.flash := rfl
@[simp] theorem Dev.putDisc_sal (d : Dev) (s : Nat) (x : Option Disc) : (d.putDisc s x).sal = d.sal := rfl
@[simp] theorem Dev.putDisc_peer (d : Dev) (s : Nat) (x : Option Disc) : (d.putDisc s x).peer = d.peer := rfl
@[simp] theorem Dev.putDisc_ports (d : Dev) (s : Nat) (x : Option Disc) : (d.putDisc s x).ports = d.ports := rfl
@[simp] theorem Dev.putDisc_spots (d : Dev) (s : Nat) (x : Option Disc) : (d.putDisc s x).spots = d.spots := rfl
@[simp] theorem Dev.putDisc_yar (d : Dev) (s : Nat) (x : Option Disc) : (d.putDisc s x).yar = d.yar := rfl
@[simp] theorem Dev.putDisc_reads (d : Dev) (s : Nat) (x : Option Disc) : (d.putDisc s x).reads = d.reads := rfl
@[simp] theorem Dev.putDisc_burns (d : Dev) (s : Nat) (x : Option Disc) : (d.putDisc s x).burns = d.burns := rfl
@[simp] theorem Dev.putDisc_cal (d : Dev) (s : Nat) (x : Option Disc) : (d.putDisc s x).cal = d.cal := rfl
@[simp] theorem Dev.putDisc_spins (d : Dev) (s : Nat) (x : Option Disc) : (d.putDisc s x).spins = d.spins := rfl
@[simp] theorem Dev.putDisc_axes (d : Dev) (s : Nat) (x : Option Disc) : (d.putDisc s x).axes = d.axes := rfl
@[simp] theorem Dev.putDisc_coords (d : Dev) (s : Nat) (x : Option Disc) : (d.putDisc s x).coords = d.coords := rfl
@[simp] theorem Dev.putDisc_chops (d : Dev) (s : Nat) (x : Option Disc) : (d.putDisc s x).chops = d.chops := rfl
@[simp] theorem Dev.putDisc_servos (d : Dev) (s : Nat) (x : Option Disc) : (d.putDisc s x).servos = d.servos := rfl
@[simp] theorem Dev.putDisc_freeCtr (d : Dev) (s : Nat) (x : Option Disc) : (d.putDisc s x).freeCtr = d.freeCtr := rfl
@[simp] theorem Dev.putDisc_out (d : Dev) (s : Nat) (x : Option Disc) : (d.putDisc s x).out = d.out := rfl
@[simp] theorem Dev.disc_putDisc_same (d : Dev) (s : Nat) (x : Option Disc) : (d.putDisc s x).disc s = x :=
  mget_mset_same _ _ x _
theorem Dev.disc_putDisc_ne (d : Dev) (s : Nat) (x : Option Disc) (q : Nat) (h : q ≠ s) : (d.putDisc s x).disc q = d.disc q :=
  mget_mset_ne _ _ _ _ h

end Sys2Proof.Machine
end

