-- ==== Sys2Proof/Tests/Slice0.lean ====
section
/-! SUPPORT. The model's own tests: well-formedness refuses ill-formed commands, the spec's worked examples, and for
every statement about the block a state and operands that meet its hypotheses. -/

namespace Sys2Proof.Tests

open Sys2Proof Sys2Proof.Machine Sys2Proof.Safety

set_option linter.unusedVariables false
set_option Elab.async false

/-! ## States for the tests -/

namespace W

/-- A device after start-up: step 8, the clocks good, the link and the sideband up. -/
def dev : Dev :=
  (((((((((Dev.reset.wr Reg.HIF_BOOT_STEP 8).wr Reg.CLK_STATUS_SAFE 0).wr Reg.CLK_STATUS_ROOT_LOCK 1).wr
    Reg.CLK_STATUS_FBO_STABLE 1).wr Reg.CLK_STATUS_REF_VALID 1).wr Reg.CLK_STATUS_ONF_LOCK 1).wr Reg.HIF_STATUS_SB_UP 1).wr
    Reg.HIF_STATUS_LINK_UP 1).wr Reg.HIF_STATUS_BME 1).wr Reg.LCS_STATUS_STATE 2

/-- A state with a device. -/
def on (d : Dev) : State := { State.reset with dev := d, evr := { Recorder.reset with live := true } }

/-- The state after start-up. -/
def up : State := on dev

/-- One field written: an axis's field at its axis, any other at its index. -/
def put (d : Dev) (e : Fld × Nat × Nat) : Dev := if e.1.sb = 0x400 then d.wrAx e.1 e.2.2 e.2.1 else d.wr e.1 e.2.2 e.2.1

/-- Start-up with some register fields set. -/
def fv (l : List (Fld × Nat × Nat)) : State := on (l.foldl put dev)

end W
namespace W

/-- A state in which QUE_CTL.EN would be accepted. -/
def que : State := fv [(Reg.QUE_STATUS_AQ_READY, 0, 1), (Reg.MMU_AS0_ROOT_LO_VALID, 0, 1), (Reg.QUE_RING_HI_SIZE, 0, 63),
  (Reg.QUE_RING_HI_SIZE, 1, 63), (Reg.QUE_RING_HI_SIZE, 2, 63), (Reg.QUE_RING_HI_SIZE, 3, 63)]

end W
namespace W

/-- The register TG_LOAD_LO and its field, as the register map has them. -/
def reg : RegDef := match regAt 0x20028 with | some x => x.1 | none => ⟨"", 0, 0, 0, 0, 0, []⟩
def fld : RField := reg.fields.headD ⟨0, 0, .ro, [], false⟩

end W
namespace W

/-- A state after a trip. -/
def tripped : State := on { dev with clk := { dev.clk with tripped := true } }

/-- A device whose time is synchronised. -/
def tsy : Dev := dev.wr Reg.TG_CTL_TSY_EN 1

/-- A state in DEEP. -/
def deep : State := on { dev with clk := { dev.clk with deep := true } }

/-- Start-up after step 1, with FBO good for two periods. -/
def step1 : State := on { Dev.reset.wr Reg.HIF_BOOT_STEP 1 with clk := { Clk.reset with fboPeriods := 2 } }

/-- An image that passes the checks of R586. -/
def image : FwHeader :=
  { magic := 0x4D49574630383156, version := 1, secVer := 0, keyIndex := 0, rev := 0xA1, length := 4096, signatureOk := true }

/-- A slot with that image. -/
def slot : FwSlot := { loaded := 4096, image := [], header := some image, valid := true }

/-- Step 7 with an image in the active slot. -/
def offer : State :=
  on { dev.wr Reg.HIF_BOOT_STEP 6 with mgmt := { Mgmt.reset with slots := [slot, FwSlot.empty] } }

end W

namespace W

/-- Start-up with some register fields set, and a change of the units. -/
def mk (l : List (Fld × Nat × Nat)) (f : Dev → Dev) : State := on (f (l.foldl put dev))

/-- Port 3 UP and owned. -/
def own : List (Fld × Nat × Nat) := [(Reg.SOR_STATUS_STATE, 3, 2), (Reg.SOR_STATUS_OWNER, 3, 1)]

/-- Port 3 in a state, as given. -/
def port (st : Nat) (x : Port) : State := mk [(Reg.SOR_STATUS_STATE, 3, st), (Reg.SOR_STATUS_OWNER, 3, 1)] fun d => { d with ports := [(3, x)] }

/-- Spot 100 (of port 3) in a mode, as given. -/
def spot (l : List (Fld × Nat × Nat)) (x : Machine.Spot) : State := mk (own ++ l) fun d => { d with spots := [(100, x)] }

end W

namespace W

/-- A fill frame of band 20 (slot 83 of track 28), sampled by spot 100. -/
def frame : SFrame :=
  { addr := packFrame 1 0 20 28 83, spot := 100, zone := 0, speed := 0, inferred := false, near := false, slip := false,
    uncertain := false, training := false, land := false, draw := false, delta := 0, dist := 0, time := 0, cyc := 5,
    defects := 0, slot := 0, pf := 0, start := 0, synced := true, samples := [] }

/-- A pass-1 job for that frame, and an engine at work on it. -/
def job : Job := { fr := frame, joint := false, dl := 93270, wait := 0, elig := true, boost := false, shift := 0, soft := none, iters := 0 }
def work (st : Stage) : Work :=
  { job := job, stage := st, ends := 0, iters := 0, limit := 16, det := [], l := [], r := [], weight := 4161, stall := 0,
    conv := false, shift := 0, screened := false, cut := false, minus := [], stopped := false, near := [] }

/-- The pool with that engine, or with that job waiting. -/
def yar (st : Stage) : State := mk [] fun d => { d with yar := { Yar.reset with eng := [(5, some (work st))] } }
def jobs (l : List Job) : State := mk [] fun d => { d with yar := { Yar.reset with jobs := l } }

/-- A cluster with three erasures at the outer decoder of pickup 3. -/
def cluster : Clu :=
  { pk := 3, disc := 77, addr := packCluster 1 0 20 6, attempt := 0, acc := true, a0 := [], a1 := [], got := [],
    bad := [0, 1, 2], words := [], held := false }
def clu : State := mk [] fun d => { d with yar := { Yar.reset with clus := [cluster] } }

/-- A disc of a member, its set at the peer, and one replacement cluster that the peer has sent. -/
def member : Disc :=
  { id := 77, epoch := 1, blank := false, foreign := false, formatted := true, member := some (5, 0), commits := [1, 1],
    bands := [], spare := false, spares := [], runs := [], seals := [] }
def away : DiscSet :=
  { k := 2, p := 1, cross := false, gen := 1, reserve := 0, members := [(77, 0), (78, 0), (79, 0)], failed := [],
    spared := [], unread := [], offline := false, dead := false, rebuilding := [], reshaping := false, sealedVol := false,
    reserveNext := 0, owed := [], unwritten := [], destroyed := false, home := false, created := 0 }
def spareSlot : Nat := packCluster 1 0 361 0
def withDisc (l : List (Fld × Nat × Nat)) (f : Dev → Dev) : State :=
  mk ([(Reg.SVO_STATE_STATE, 3, 5), (Reg.SVO_STATE_SPEED, 3, 1), (Reg.MOT_SP_STATUS_AT_SPEED, 1, 1),
    (Reg.SVO_POS_VERIFIED, 3, 1)] ++ own ++ l)
    fun d => f { d with cal := { d.cal with pk := [(3, { CalPk.reset with ready := true })] },
                        set := { d.set with
                          discs := [(1, some member)], sets := [(5, some away)],
                          remaps := [{ vol := 5, stripe := 1, old := 0, new := spareSlot, cause := 0, member := some 0, committed := false, commit := 0 }],
                          guest := [(77, spareSlot, [])] } }

/-- A burn of band 20 by pickup 3. -/
def burn : Burn :=
  { disc := 77, vol := 5, member := 0, side := 1, layer := 0, band := 20, spare := false, slot0 := none, rev := 0, on := false,
    clusters := [], parity := [], spots := List.replicate 8 emptyWSpot, failed := [], passed := [], flips := 0 }
def burning (b : Burn) (we : Bool) : State :=
  withDisc [] fun d => { d with burns := [(3, some b)], servos := [(3, { Servo.reset with we := we })] }

end W

namespace W

/-- The servo engine of pickup 3 in a state, as given. -/
def svo (st : Nat) (l : List (Fld × Nat × Nat)) (x : Servo) : State :=
  mk (own ++ [(Reg.SVO_STATE_STATE, 3, st)] ++ l) fun d => { d with servos := [(3, x)] }

/-- Pickup 3 ready for focus acquisition. -/
def ready (st : Nat) (x : Servo) : State :=
  mk (own ++ [(Reg.SVO_STATE_STATE, 3, st), (Reg.MOT_SP_STATUS_AT_SPEED, 1, 1), (Reg.MOT_AX_STATUS_HOMED, 6, 1),
      (Reg.MOT_AX_STATUS_HOMED, 7, 1)])
    fun d => { d with servos := [(3, x)], cal := { d.cal with pk := [(3, { CalPk.reset with ready := true })] } }

/-- A good wedge of spot 16: track 0, layer 0, side 1, index 2. -/
def wedge : WedgeRead :=
  { spot := 1, sync := some 0, cells := (List.range 128).map fun c => if c = 70 ∨ c = 86 then 1 else 0 }

end W

namespace W

/-- Spindle 1 in a state, as given. -/
def spin (st : Nat) (l : List (Fld × Nat × Nat)) (x : Spin) : State :=
  mk ([(Reg.MOT_SP_STATUS_STATE, 1, st)] ++ l) fun d => { d with spins := [(1, x)] }

/-- 64 probes whose angle turns by `step` from one to the next, the newest first. -/
def probes (step : Nat) : List (Int × Int) := (List.range 64).map fun k => (30000, ((64 - k) * step % 65536 : Nat))

/-- A disc on spindle 1 that the catch interval finds turning. -/
def caught : State :=
  spin 1 [(Reg.MOT_SP_RPM_TARGET, 1, 7500), (Reg.MOT_SP_KE_KE, 1, 100), (Reg.MOT_SP_KEM_KE_MEAS, 1, 115)]
    { Spin.reset with start := true, probes := probes 2000 }

/-- Axis 6 (of pickup 3), as given. -/
def axis (l : List (Fld × Nat × Nat)) (x : Axis) : State := mk (own ++ l) fun d => { d with axes := [(6, x)] }

/-- An entry with an opcode and some of its bytes 40 to 63. -/
def sqe (op : Nat) (l : List (Nat × Nat)) : Sqe :=
  { opcode := BitVec.ofNat 8 op, flags := 0, cid := 7, volume := 0, rsv := 0, lba := 0, count := 0, xflags := 0, data := 0,
    sealPtr := 0,
    b := (List.range 24).map fun i => match l.find? (fun q => q.1 == 40 + i) with | some q => BitVec.ofNat 8 q.2 | none => 0 }

/-- The context of a command just fetched. -/
def ctx (e : Sqe) : Ctx :=
  { sq := 0, slot := 0, e := e, wait := .fresh, mute := false, buf := [], seals := [], todo := [], acc0 := 0, acc1 := 0, got := [],
    stop := none, st := 0, after := [], order := 0 }

/-- A command in context 9, with memory granted. -/
def cmd (e : Sqe) (l : List (Fld × Nat × Nat)) (f : Dev → Dev) : State :=
  mk l fun d => f { d with que := { Que.reset with ctxs := [(9, some (ctx e))] }, mmu := { Mmu.reset with hlm := some (1, 0, 0) } }

end W

namespace W

/-- Transfer 4, of 64 bytes or so. -/
def xfer (va left : Nat) (write : Bool) (what : Purpose) (st : XSt) (asid : Nat) : Xfer :=
  { id := 4, what := what, cls := 2, write := write, asid := asid, va := va, left := left, sq := 0, cid := 0, ctx := 0, st := st }

/-- That transfer walks with the last table in the walk cache, or has a read on the link. -/
def walking : State := mk [(Reg.MMU_AS0_ROOT_LO_VALID, 0, 1)] fun d => { d with mmu := { d.mmu with
  xfers := [xfer 0 64 false (.dataRead 9) .walking 0]
  walks := [{ asid := 0, level := 1, va := 0, table := 0x9000, r := true, w := true }] } }
def issued : State := mk [] fun d => { d with
  que := { d.que with ctxs := [(9, some { ctx (sqe 0x18 []) with wait := .run })] }
  mmu := { d.mmu with
  xfers := [xfer 0 8192 false (.dataRead 9) (.issued 4096) 0]
  tlb := [{ asid := 0, va := 0, size := 2097152, frame := 0, r := true, w := true }] } }

/-- An open fault, and a valid LEND MEMORY. -/
def fault (id : Nat) : OpenFault :=
  { id := id, type := 0, level := 4, write := false, cls := 2, src := 2, asid := 1, va := 0, sq := 1, cid := 0, ctx := 64,
    left := 0, time := 0 }
def lendSqe : Sqe := { sqe 0x0A [(40, 2), (52, 1)] with data := 0x200000 }
def lend : State :=
  mk [(Reg.MMU_AS_ROOT_LO_VALID, 1, 1)] fun d => { d with que := { Que.reset with ctxs := [(9, some (ctx lendSqe))] } }

/-- A READ of LB 0 of volume 5 in delivery, its transfer parked, its cluster under pickup 3. -/
def heldX : Xfer := xfer 0 4096 true (.dataWrite 70) (.parked 2) 1
def holding : State := withDisc [] fun d => { d with
  mmu := { d.mmu with xfers := [heldX] }
  que := { d.que with ctxs := [(70, some { ctx { sqe 0x80 [] with volume := 5, count := 1 } with wait := .deliver })] }
  set := { d.set with stripes := [(5 * 2 ^ 32, some { slot := packCluster 1 0 20 6, burned := 7, recorded := 0, released := false, closed := false, anew := false, pads := [], gens := [] })] } }

end W

namespace W

/-- A command in context 9, with no memory granted. -/
def cmd0 (e : Sqe) (l : List (Fld × Nat × Nat)) (f : Dev → Dev) : State :=
  mk l fun d => f { d with que := { Que.reset with ctxs := [(9, some (ctx e))] } }

end W

namespace W

/-- An enabled SQ of 64 entries bound to CQ 0, an empty CQ, and a poll that finds nothing new. -/
def sq : Sq :=
  { state := 0, asid := 0, prio := 0, cq := 0, size := 64, base := 0x10000, limit := 0, fetch := 0, head := 0, tail := 0,
    latched := 0, cause := 0, slots := [], discarded := 0, ended := 0 }
def cq : Cq :=
  { err := false, asid := 0, vector := 0, size := 64, base := 0x20000, tail := 0, phase := true, head := 0, held := [],
    unsig := 0, count := 0, timeUs := 1 }
def poll : DoorbellRead :=
  { fault := none, counters := [], adminTail := 0, adminCqHead := 0, faultHead := 0, eventHead := 0, tails := [], cqHeads := [] }

end W

namespace W

/-- A command whose buffer at 0x4000 translates in the TLB. -/
def mapped (e : Sqe) (l : List (Fld × Nat × Nat)) (f : Dev → Dev) : State :=
  cmd e l fun d => f { d with
    que := { d.que with sqs := [(0, some sq)] }
    mmu := { d.mmu with tlb := [{ asid := 0, va := 0, size := 2097152, frame := 0, r := true, w := true }] } }

/-- A running SANITISE, the ledger of a disc of no set, and discs. -/
def op : BgOp := { type := 2, state := 0, step := 0, done := 0, object := 0, arg := 0, plan := [] }
def discOf (id : Nat) : Disc :=
  { id := id, epoch := 0, blank := false, foreign := false, formatted := true, member := none, commits := [1, 1], bands := [],
    spare := false, spares := [], runs := [], seals := [] }
def blankDisc : Disc := { discOf 0 with blank := true, formatted := false, commits := [0, 0] }
def blank1 (d : Dev) : Dev := { d with set := { d.set with discs := [(1, some blankDisc)] } }

/-- The ledger of disc 71 with one commit on each side, and what it says; the ledger of a blank disc. -/
def ledgerSide (side : Nat) : LedgerSide :=
  { bands := [[some (sealedBlock 0 0 (ledgerHeader (discOf 71) 9 side 0 0 []))]], probed := [] }
def ledger : LedgerRead := { a := ledgerSide 0, b := ledgerSide 1 }
def ledgerSays : LedgerInfo :=
  { readable := true, blank := false, version := 1, agree := true, epoch := 0, disc := 71, member := none, destroyed := false,
    commits := [1, 1], bands := [], probed := [], runs := [], remaps := [], seals := [], flight := [], lost := [] }
def blankLedger : LedgerRead := { a := { bands := [], probed := [] }, b := { bands := [], probed := [] } }

/-- Discs 71 to 73 on spindles 1 to 3, and the list that names them. -/
def three (d : Dev) : Dev :=
  { d with set := { d.set with discs := [(1, some (discOf 71)), (2, some (discOf 72)), (3, some (discOf 73))] } }
def threeList : List Byte := [71, 72, 73].flatMap fun n => leBytes 8 n

/-- Volume 5, homed here, with members elsewhere; and with member 0 failed, its spare and the others loaded. -/
def setH : DiscSet := { away with home := true }
def homed (d : Dev) : Dev := { d with set := { d.set with sets := [(5, some setH)] } }
def setR : DiscSet := { setH with members := [(71, 0), (72, 0), (73, 0)], failed := [0], spared := [0] }
def rebuildable : State := mk [(Reg.SET_CFG_REBUILD_EN, 0, 1)] fun d => three { d with set := { d.set with sets := [(5, some setR)] } }

end W

namespace W

/-- The first part of an image of 8 KiB, and a recorder with records 5 and 6. -/
def part : List Byte := List.replicate 16 0 ++ [0, 32, 0, 0] ++ List.replicate 4076 0
def rec (n : Nat) : EvRec :=
  { seq := BitVec.ofNat 48 n, time := 0, node := 0, unit := 1, code := 0, sev := 0, payload := List.replicate 40 0 }
def recorded (e : Sqe) : State :=
  let s := mapped e [] id
  { s with evr := { s.evr with held := [rec 5, rec 6], next := 7 } }

end W

namespace W

/-- A ready Saltern, and an I/O command on volume 5 with it, its buffer translated. -/
def salReady (f : Dev → Dev) : State :=
  mk [(Reg.SAL_STATUS_STATE, 0, 2), (Reg.SAL_STATUS_INDEX_READY, 0, 1)] fun d =>
    f { d with sal := { d.sal with wpAll := false }, clk := { d.clk with onfOk := true } }
def io (e : Sqe) (l : List (Fld × Nat × Nat)) (f : Dev → Dev) : State :=
  mapped e ([(Reg.SAL_STATUS_STATE, 0, 2), (Reg.SAL_STATUS_INDEX_READY, 0, 1)] ++ l) fun d =>
    f (homed { d with sal := { d.sal with wpAll := false }, clk := { d.clk with onfOk := true } })
def waits (w : Wait) (d : Dev) : Dev :=
  { d with que := { d.que with ctxs := d.que.ctxs.map fun q => (q.1, q.2.map fun (k : Ctx) => { k with wait := w }) } }

/-- A SEAL VOLUME of volume 5 that waits for its stripes, beside the command. -/
def sealWaits (d : Dev) : Dev :=
  { d with que := { d.que with ctxs := d.que.ctxs ++ [(10, some { ctx { sqe 0x85 [] with volume := 5 } with wait := .recorded })] } }
/-- Volume 5 taken offline. -/
def offVol (d : Dev) : Dev := { d with set := { d.set with sets := [(5, some { setH with offline := true })] } }

/-- LB 0 of volume 5 as a pad LB, in a page that is being programmed. -/
def padLb : StagedLb := { gen := 0, data := List.replicate 4096 0, tag := List.replicate 16 0 }
def pageOf (slots : List (Nat × Nat × Nat × StagedLb)) : FlashPage :=
  { kind := 1, mirror := false, gcCopy := false, lsn := 3, page := 2, gen := 0, seq := 1, time := 0, opseq := 1, slots := slots }
def progOf : Prog := { stream := 1, lun := some 0, issued := true, sb := 12, seg := 0, pg := pageOf [], ctxs := [], ack := 0 }
def inFlight (d : Dev) : Dev :=
  { d with sal := { d.sal with progs := [{ progOf with stream := 0, pg := pageOf [(8, 5, 0, padLb)] }] } }
def prog : State := salReady fun d => { d with sal := { d.sal with progs := [progOf] } }

/-- A page read for the peer, and a segment of an old LB. -/
def peerRead : PRead := { id := 4, lun := some 0, issued := true, lsn := 3, page := 2, why := .peer 5 7, pg := some (pageOf []) }
def reading : State := mk [(Reg.PEER_STATUS_LINK, 0, 1)] fun d => { d with sal := { d.sal with reads := [peerRead] } }
def old : State := salReady fun d => { d with
  clk := { d.clk with time := 65536000000000000000000#80 }
  flash := { d.flash with pages := [(pageKey 12 0 2, some (pageOf [(8, 5, 0, padLb)]))] }
  sal := { d.sal with
    map := [(3, some { sb := 12, seg := 0, state := 2, mirror := false, live := 1, gen := 0, opseq := 1 })]
    idx := [{ vol := 5, lba := 0, lsn := 3, slot := 8, gen := 0, mirror := false }] } }

end W

namespace W

/-- A HEARTBEAT of the peer, and a mirror stream with an open segment. -/
def beat : Heartbeat :=
  { seq := 9, node := 6, role := true, lifeCycle := 2, spindles := 0, pickups := 0, volumes := [], saltern := 2, time := 0,
    acks := [] }
def mirrorSeg : SegEnt := { sb := 12, seg := 0, state := 1, mirror := true, live := 0, gen := 0, opseq := 1 }
def mirrored : State :=
  mk [(Reg.PEER_STATUS_LINK, 0, 1), (Reg.SAL_STATUS_STATE, 0, 2)] fun d => { d with sal := { d.sal with
    map := [(3, some mirrorSeg)]
    streams := [Stream.reset, { lsn := some 3, sb := some 12, seg := 1, page := 2 }, Stream.reset] } }
def reported : State :=
  mk [(Reg.PEER_STATUS_LINK, 0, 1)] fun d => homed { d with set := { d.set with stripes := [(5 * 2 ^ 32 + 6, some (Stripe.fresh 9))] } }

end W

namespace W

/-- Start-up on a SYV8160-AB. -/
def ab : State := on { dev with fuse := { dev.fuse with variant := 1 } }

end W

namespace W

/-- A read of a data command parked on open fault 5, whose page translates now. -/
def parkedX : Xfer := { xfer 0x4000 64 false (.dataRead 64) (.parked 5) 0 with cid := 7, ctx := 64 }
def parked (d : Dev) : Dev :=
  { d with
    mmu := { d.mmu with faults := [fault 5], xfers := [parkedX]
                        tlb := [{ asid := 0, va := 0, size := 2097152, frame := 0, r := true, w := true }] }
    que := { d.que with ctxs := d.que.ctxs ++ [(64, some { ctx (sqe 0x18 []) with wait := .run, slot := 1 })] } }

/-- Stripe 0 of volume 5, recorded and released, or not yet. -/
def released (d : Dev) : Dev :=
  { d with set := { d.set with stripes := [(5 * 2 ^ 32, some { Stripe.fresh 9 with burned := 1, recorded := 1, released := true })] } }
def unreleased (d : Dev) : Dev := { d with set := { d.set with stripes := [(5 * 2 ^ 32, some (Stripe.fresh 9))] } }

/-- The peer's LB 7 of volume 5 held mirrored here; one asked of the peer. -/
def fetchedE : IdxEnt := { vol := 5, lba := 7, lsn := 3, slot := 8, gen := 0, mirror := true }
def fetched : State := on { mirrored.dev with sal := { mirrored.dev.sal with idx := [fetchedE] } }
def fetching : State :=
  on { mirrored.dev with sal := { mirrored.dev.sal with
    fetching := [(5, 7)]
    streams := [{ lsn := some 3, sb := some 12, seg := 1, page := 2 }, Stream.reset, Stream.reset] } }

end W


/-! ## Well-formedness -/

/-- A context identifier has 14 bits: no command of a higher one is well formed. -/
theorem test_wf_context : ([.identify 16384, .createQueue 16384, .deleteQueue 16384, .disableQueue 16384, .enableQueue 16384, .getQueueState 16384, .getFeature 16384, .setFeaturePowerState 16384, .setFeatureAsidRoot 16384, .setFeatureInvalidate 16384, .cacheEnable 16384, .cacheDisable 16384, .cacheMasks 16384, .cacheConvert 16384, .setFeaturePoll 16384, .setFeatureEventFilter 16384, .setFeatureCoalesce 16384, .setFeatureArbitration 16384, .lendMemory 16384, .returnMemory 16384, .resolveFaultRetry 16384, .resolveFaultAbort 16384, .mediaEventUnload 16384, .mediaEventEmpty 16384, .formatSaltern 16384, .formatDisc 16384, .sanitise 16384, .progress 16384, .destroySet 16384, .sparePoolList 16384, .setStateQuery 16384, .setStateOffline 16384, .setStateOnline 16384, .setStateFailMember 16384, .calibrateFull 16384, .calibrateDrift 16384, .calibrateDiscard 16384, .firmwareActivate 16384, .recorderRead 16384, .recorderChallenge 16384, .peerConfigure 16384, .peerTakeoverClaim 16384, .peerTakeover 16384, .diagnosticClear 16384, .diagnosticSnapshot 16384, .motionSpin 16384, .motionRelease 16384, .motionMove 16384, .motionCoordinated 16384, .motionHome 16384, .servoModeStart 16384, .servoModeStop 16384, .servoModeRestart 16384, .servoModeLoop 16384, .servoModeSeek 16384, .read 16384, .write 16384, .commit 16384, .verify 16384, .lbaStatus 16384, .sealVolume 16384, .admissionGranted 16384] : List Instr).all (fun i => !i.wf) = true := by decide

/-- The same of the commands that carry a buffer or a ledger. -/
theorem test_wf_context_buffer :
    ([.createSet 16384 [], .reshapeSet 16384 [], .sparePoolAdd 16384 [], .sparePoolRemove 16384 [], .calibrateLoadStrategy 16384 [], .firmwareLoad 16384 [], .recorderClear 16384 [], .lifeCycle 16384 [], .mediaEventLoaded 16384 W.blankLedger] : List Instr).all (fun i => !i.wf) = true := by decide

/-- A register access is aligned and inside BAR0, and a partial one drops a byte. -/
theorem test_wf_offset :
    ([.registerWrite 2 0,
      .registerWrite 16777216 0,
      .partialRegisterWrite 2 1 0,
      .partialRegisterWrite 16777216 1 0,
      .partialRegisterWrite 0 0xF 0,
      .sidebandRegisterAccess true 3 0,
      .sidebandRegisterAccess true 16777216 0] : List Instr).all (fun i => !i.wf) = true := by
  decide +kernel

/-- Instances, symbol errors and cells have their sizes. -/
theorem test_wf_link :
    ([.deadlineWindowEnd 0 512,
      .codewordReceive 3 0 545 [],
      .sampleCellReceive 3 0 0 [],
      .servoCellReceive 3 0 0 []] : List Instr).all (fun i => !i.wf) = true := by
  decide +kernel

/-- A cluster address, a band and a frame slot exist. -/
theorem test_wf_medium :
    ([.clusterTimeout 3 0xFFFFFFFF,
      .assemblyDeadlineMiss 3 0xFFFFFFFF,
      .bandReadStart 3 0 8856 0,
      .bandReadStart 3 0 0 231,
      .revolutionStart 3 231,
      .writeResume 3 0 231] : List Instr).all (fun i => !i.wf) = true := by
  decide +kernel

/-- A fault names an array, a bit and a critical word that exist, a request an internal address; a line has 128 bytes. -/
theorem test_wf_memory :
    ([.marchDone [{ array := 11, bank := 0, word := 0, validRow := false, flips := [] }],
      .marchDone [{ array := 3, bank := 0, word := 0, validRow := false, flips := [72] }],
      .scrubWalk [{ word := 1024, a := 0, b := 0, c := 0, shadow := 0 }] [],
      .scrubWalk [] [.fault { array := 11, bank := 0, word := 0, validRow := false, flips := [] }],
      .scrubWalk [] [.cycle [{ user := .dma 0, addr := 4294967296, write := none }]],
      .brineFillDone 0 0 { data := [], err := none }] : List Instr).all (fun i => !i.wf) = true := by
  decide +kernel

/-- A firmware header has its widths. -/
theorem test_wf_firmware :
    ([.firmwareFetchDone (some { W.image with secVer := 256 }),
      .firmwareFetchDone (some { W.image with keyIndex := 256 }),
      .firmwareFetchDone (some { W.image with rev := 65536 }),
      .firmwareFetchDone (some { W.image with length := 4294967296 })] : List Instr).all (fun i => !i.wf) = true := by
  decide +kernel

/-- Queue identifiers, entries and operation identifiers have their ranges. -/
theorem test_wf_queues :
    ([.doorbellPoll { W.poll with tails := [(1024, 0)] },
      .doorbellPoll { W.poll with cqHeads := [(1024, 0)] },
      .sqEntryFetch 1024 [],
      .sqEntryFetch 3 [{ W.sqe 0x81 [] with b := [] }],
      .coalesceTimeout 1024,
      .operationStepDone 65535 true true 0,
      .operationStepDone 0 true true 65536] : List Instr).all (fun i => !i.wf) = true := by
  decide +kernel

/-- A side has 8 ledger bands of 2,784 blocks of 4,112 bytes, 4 layers and 8,856 bands. -/
theorem test_wf_ledger :
    ([.mediaEventLoaded 9 { W.blankLedger with a := { bands := List.replicate 9 [], probed := [] } },
      .mediaEventLoaded 9 { W.blankLedger with b := { bands := [List.replicate 2785 none], probed := [] } },
      .mediaEventLoaded 9 { W.blankLedger with a := { bands := [[some [0]]], probed := [] } },
      .mediaEventLoaded 9 { W.blankLedger with b := { bands := [], probed := [(4, 20)] } },
      .mediaEventLoaded 9 { W.blankLedger with b := { bands := [], probed := [(0, 8856)] } },
      .rebuildStart 65536 0,
      .rebuildStart 5 16] : List Instr).all (fun i => !i.wf) = true := by
  decide +kernel

/-- A superblock and a segment have their widths. -/
theorem test_wf_saltern :
    ([.blockEraseDone 65536 none,
      .residencyPriority 524288,
      .residencyBound 524288] : List Instr).all (fun i => !i.wf) = true := by
  decide +kernel

/-- A message names nodes, volumes, pages, blocks and clusters of their sizes. -/
theorem test_wf_peer :
    ([.heartbeatReceive { W.beat with node := 16384 },
      .heartbeatReceive { W.beat with volumes := [65536] },
      .mirrorDataReceive 0 { W.pageOf [] with lsn := 524288 },
      .mirrorDataReceive 0 { W.pageOf [] with page := 2048 },
      .mirrorDataReceive 0 { W.pageOf [] with slots := [(0, 65536, 0, W.padLb)] },
      .mirrorDataReceive 0 { W.pageOf [] with slots := [(0, 5, 0, { W.padLb with data := [] })] },
      .mirrorDataReceive 0 { W.pageOf [] with slots := [(0, 5, 0, { W.padLb with tag := [] })] },
      .mirrorReleaseReceive 0 [{ volume := 65536, lba := 0, count := 0, gen := 0 }],
      .clusterReceive 0 281474976710656 0 [],
      .clusterReceive 0 0 0 [[]],
      .fetchReceive 0 65536 0 0,
      .fetchDataReceive 0 65536 0 [],
      .homeReceive 0 65536 0 0,
      .homeReceive 0 5 16384 0,
      .homeReceive 0 5 0 65536,
      .becomeHome 65536] : List Instr).all (fun i => !i.wf) = true := by
  decide +kernel


/-! ## The spec's worked examples -/

/-- A 6+2 set with the default reserve of 64 bands has 1,935,985,152 LBs (the worked example of 01_architecture.md). -/
theorem test_capacity_of_the_herbarium_set : capacityOf 6 64 = 1935985152 := by decide +kernel

/-- Cluster 237 of band 8,500 (the example of 02_medium_and_spots.md): band 8,500 lies in zone 23, which has 231 frames a track
and 410 clusters a band; role 0 lies on track 10 at frame 163, role 15 on track 25 at frame 208, the outer parity
frames on tracks 26 and 27 at frames 211 and 214; track 272,010 is groove and carries 0x635CF. -/
theorem test_frames_of_cluster_237 :
    zoneOf 8500 = 23 ∧ framesOf 23 = 231 ∧ clustersOf 23 = 410 ∧ placeFrame 23 (18 * 237) = (10, 163) ∧
    placeFrame 23 (18 * 237 + 15) = (25, 208) ∧ placeFrame 23 (18 * 237 + 16) = (26, 211) ∧
    placeFrame 23 (18 * 237 + 17) = (27, 214) ∧ isLand 272010 = false ∧ gray 272010 = 0x635CF := by decide +kernel

/-- The twelve fill frames of the band lie on tracks 20 to 31 at frames 59 to 92 (the same example). -/
theorem test_fill_frames_of_zone_23 :
    placeFrame 23 7380 = (20, 59) ∧ placeFrame 23 7391 = (31, 92) ∧ roleOf 23 7380 = 31 ∧ roleOf 23 7379 = 17 := by
  decide +kernel

/-- Taps c_6 and c_7 of spot 179 lie in RCH_SP_EQ3 at 0x21_B32C (the example of 17_package_registers.md). -/
theorem test_equaliser_tap_offset :
    (regAt 0x21B32C).map (fun x => (x.1.name, x.2)) = some ("RCH_SP_EQ", 179, 3) := by decide +kernel

/-- On SYV8160-AB the window of port 9 reads zero, and a nonzero write to it is entered as 0x2001, a zero write is not
(the example of 00_scope.md). -/
theorem test_fused_off_port_window :
    W.ab.dev.readWord W.ab.evr 0x109000 = 0 ∧
    After (.registerWrite 0x109000 1) W.ab (fun t => t.evr.held.map (·.code) = [0x2001]) ∧
    After (.registerWrite 0x109000 0) W.ab (fun t => t.evr.held = []) := by
  refine ⟨by decide +kernel, ?_, ?_⟩ <;> exact ⟨_, rfl, by decide +kernel⟩


/-! ## The hypotheses of the statements can be met -/

theorem part_length : W.part.length = 4096 := by
  rw [W.part, List.length_append, List.length_append, List.length_replicate, List.length_replicate]; rfl

/-- The side of the test's ledger reads back. -/
theorem sideCommit_ledger (side : Nat) :
    sideCommit (W.ledgerSide side) = some (0, [ledgerHeader (W.discOf 71) 9 side 0 0 []]) :=
  sideCommit_one _ _ _ (goodCommit_header (W.discOf 71) 9 side 0 0 (by omega))


/-- What a read of two such sides says. -/
theorem ledger_read (l : LedgerRead) (ha : sideCommit l.a = some (0, [ledgerHeader (W.discOf 71) 9 0 0 0 []]))
    (hb : sideCommit l.b = some (0, [ledgerHeader (W.discOf 71) 9 1 0 0 []])) (na : l.a.bands.length = 1)
    (nb : l.b.bands.length = 1) (ea : l.a.bands.isEmpty = false) (pa : l.a.probed = []) (pb : l.b.probed = []) :
    W.ledgerSays = ledgerInfo l := by
  simp only [ledgerInfo, ha, hb, na, nb, Bool.false_and, ea, pa, pb]
  decide +kernel

theorem ledger_says : W.ledgerSays = ledgerInfo W.ledger :=
  ledger_read W.ledger (sideCommit_ledger 0) (sideCommit_ledger 1) rfl rfl rfl rfl rfl

/-- The disc of the test's catch turns at 5,587 rev/min or one more. -/
theorem caught_rpm : (5587 : Int) ≤ (W.caught.dev.rotation 1).rpm := by
  have h : W.caught.dev.probeStep 1 = 131072000 := by decide +kernel
  have hp : W.caught.dev.rd Reg.MOT_SP_CFG_POLES 1 = 4 := by decide +kernel
  simp only [Dev.rotation, Dev.probeRpm, h, hp, slopeRpm, divR]
  split <;> (try split) <;> (try split) <;> omega

/-- A state with records and a command to run meets the premises of RecorderInvariantKept. -/
theorem witness_RecorderInvariantKept_with_records : ∃ s t : State, RecorderOk s.evr ∧ s.evr.held ≠ [] ∧ s.pending ≠ [] ∧ step s = .next t :=
  ⟨{ W.recorded (W.sqe 0x81 []) with pending := [.hifFwGo 0] }, _, ⟨by decide +kernel, by decide +kernel, by decide +kernel, True.intro⟩,
    by decide +kernel, by decide +kernel, rfl⟩

/-- The hypotheses of StepRunsFrontCommand can be met, clause by clause. -/
theorem witness_StepRunsFrontCommand :
    ∃ (s : State), s.pending = [] := by
  exact ⟨W.up, by decide +kernel⟩

/-- The hypotheses of RegisterWriteTakesAccessType can be met, clause by clause. -/
theorem witness_RegisterWriteTakesAccessType :
    ∃ (s : State) (off : Nat) (val : Word) (g : RegDef) (f : RField) (i j : Nat), regAt off = some (g, i, j) ∧ f ∈
        g.fields ∧ off % 4 = 0 ∧ s.dev.fusedOff off = false ∧ clocked s.dev off = true ∧ (s.dev.safe && heldAt off) =
        false ∧ plainOff off = true ∧ s.dev.shown s.evr (keyOf g f i j) = none ∧ refused (keyOf g f i j) (val.toNat / 2
        ^ f.lo % 2 ^ f.w) val.toNat = false ∧ ¬ keyOf g f i j ∈ ringKeys := by
  exact ⟨W.up, 0x20028, 5#32, W.reg, W.fld, 0, 0, by decide +kernel⟩

/-- The hypotheses of RegisterWriteFrame can be met, clause by clause. -/
theorem witness_RegisterWriteFrame :
    (∃ (s : State) (off : Nat) (val : Word), off % 4 = 0 ∧ plainOff off = true ∧ loopOff off = false) ∧
    (∃ (s : State) (off : Nat) (be : BitVec 4) (val : Word), be ≠ 0xF#4) := by
  refine ⟨?_, ?_⟩
  · exact ⟨W.up, 0x20028, 5#32, by decide +kernel⟩
  · exact ⟨W.up, 0x20028, 3#4, 5#32, by decide +kernel⟩

/-- The hypotheses of RegisterAccessAndLocks can be met, clause by clause. -/
theorem witness_RegisterAccessAndLocks :
    (∃ (s : State) (off : Nat) (be : BitVec 4) (val : Word), be ≠ 0xF#4) ∧
    (∃ (s : State) (write : Bool) (off : Nat) (val : Word), s.dev.flag Reg.HIF_STATUS_SB_UP = true ∧ sidebandReaches off
        = false) ∧
    (∃ (s : State) (off : Nat) (val : Word), s.dev.flag Reg.HIF_STATUS_SB_UP = true ∧ sidebandReaches off = true ∧ 3 ≤
        s.dev.bootStep) ∧
    (∃ (s : State) (off : Nat) (val : Word), s.dev.flag Reg.HIF_STATUS_SB_UP = true ∧ sidebandReaches off = true ∧ 3 ≤
        s.dev.bootStep) := by
  refine ⟨?_, ?_, ?_, ?_⟩
  · exact ⟨W.up, 0x20028, 3#4, 5#32, by decide +kernel⟩
  · exact ⟨W.up, true, 0x70000, 5#32, by decide +kernel⟩
  · exact ⟨W.up, 0x20028, 5#32, by decide +kernel⟩
  · exact ⟨W.up, 0x20028, 5#32, by decide +kernel⟩

/-- The hypotheses of SoftwareResetNeedsItsKey can be met, clause by clause. -/
theorem witness_SoftwareResetNeedsItsKey :
    (∃ (s : State) (val : Word), val.toNat % 256 = 0xC5) ∧
    (∃ (s : State) (val : Word), val.toNat % 256 ≠ 0xC5 ∧ s.dev.flag Reg.CLK_RST_SW_RESET = false) := by
  refine ⟨?_, ?_⟩
  · exact ⟨W.up, 0xC5#32, by decide +kernel⟩
  · exact ⟨W.up, 0#32, by decide +kernel⟩

/-- The hypotheses of ClockGatingAndOutput can be met, clause by clause. -/
theorem witness_ClockGatingAndOutput :
    (∃ (s : State) (val : Word) (u : Fin 14), val.toNat.testBit u.val = true ∧ (s.dev.isAB && (u.val == 2 || u.val ==
        3)) = false) ∧
    (∃ (s : State) (u : Fin 14), (s.dev.rd Reg.CLK_GATE_ST_PEND).testBit u.val = true) ∧
    (∃ (s : State) (u : Fin 14), (s.dev.rd Reg.CLK_GATE_ST_PEND).testBit u.val = true) ∧
    (∃ (s : State) (u : Fin 14), (s.dev.rd Reg.CLK_AUTO_EN).testBit u.val = true ∧ (s.dev.rd Reg.CLK_GATE_EN).testBit
        u.val = true ∧ s.dev.unitBusy u.val = false ∧ s.dev.servesMotion u.val = false ∧ s.dev.runsClassH u.val = false) ∧
    (∃ (s : State) (u : Fin 14), s.dev.clk.autoOff.getLsbD u.val = true) ∧
    (∃ (s : State) (val : Word) (mv : Nat), s.dev.sal.scan = none) := by
  and_intros
  · exact ⟨W.up, 1#32, 0, by decide +kernel⟩
  · exact ⟨W.fv [(Reg.CLK_GATE_ST_PEND, 0, 1)], 0, by decide +kernel⟩
  · exact ⟨W.fv [(Reg.CLK_GATE_ST_PEND, 0, 1)], 0, by decide +kernel⟩
  · exact ⟨W.fv [(Reg.CLK_AUTO_EN, 0, 1)], 0, by decide +kernel⟩
  · exact ⟨W.on { W.dev with clk := { W.dev.clk with autoOff := 1 } }, 0, by decide +kernel⟩
  · exact ⟨W.up, 16#32, 1200, by decide +kernel⟩

/-- The hypotheses of SetEnablesStartTheirUnits can be met, clause by clause. -/
theorem witness_SetEnablesStartTheirUnits :
    (∃ (s : State) (val : Word), s.dev.atStep 6 = true ∧ s.dev.flag Reg.HIF_STATUS_LINK_UP = true ∧ s.dev.rd
        Reg.HIF_FW_CTL_STATUS = 0 ∧ s.dev.flag Reg.HIF_BOOT_ROM = false ∧ s.dev.rd Reg.HIF_BOOT_IMAGE = 0 ∧ s.dev.rd
        Reg.HIF_FW_LEN_LEN ≤ 2 ^ 24 ∧ s.dev.safe = false ∧ s.dev.bme = true) ∧
    (∃ (s : State) (val : Word), (!s.dev.atStep 6 || !s.dev.flag Reg.HIF_STATUS_LINK_UP || !s.dev.bme) = true ∧
        s.dev.safe = false) ∧
    (∃ (s : State) (p : Pk) (val : Word), s.dev.hasPk p.val = true ∧ (s.dev.rd Reg.CLK_GATE_ST_RUN).testBit (p.val / 4)
        = true ∧ s.dev.flag Reg.GLB_SETUP_LOCK_LOCK = false ∧ s.dev.flag Reg.SOR_CFG_EN p.val = false ∧ s.dev.portState
        p.val = 0 ∧ s.dev.rd Reg.SOR_CFG_TEST p = 0 ∧ s.dev.safe = false ∧ s.dev.bootStep = 8) ∧
    (∃ (s : State) (p : Pk) (val : Word), s.dev.hasPk p.val = true ∧ (s.dev.rd Reg.CLK_GATE_ST_RUN).testBit (p.val / 4)
        = true ∧ s.dev.flag Reg.GLB_SETUP_LOCK_LOCK = false ∧ s.dev.flag Reg.SOR_CFG_EN p.val = true ∧ s.dev.portState
        p.val ≠ 4 ∧ s.dev.rd Reg.SOR_CFG_TEST p = 0 ∧ s.dev.safe = false) ∧
    (∃ (s : State) (val : Word), s.dev.flag Reg.QUE_STATUS_AQ_READY = true ∧ s.dev.flag Reg.QUE_STATUS_ENABLED = false ∧
        s.dev.ringsValid = true ∧ s.dev.safe = false) ∧
    (∃ (s : State) (val : Word), s.dev.flag Reg.QUE_STATUS_AQ_READY = true ∧ s.dev.flag Reg.QUE_STATUS_ENABLED = false ∧
        s.dev.ringsValid = false ∧ s.dev.safe = false) ∧
    (∃ (s : State) (val : Word), s.dev.flag Reg.QUE_STATUS_ENABLED = true ∧ s.dev.safe = false) ∧
    (∃ (s : State) (val : Word), s.dev.flag Reg.QUE_STATUS_POLL_STOPPED = true ∧ (s.dev.que.sqs.all fun e =>
        s.dev.mayFetch e.1 == 0) = true ∧ s.dev.safe = false) ∧
    (∃ (s : State) (val : Word), (s.dev.que.sqs.all fun e => s.dev.mayFetch e.1 == 0) = true ∧ s.dev.safe = false) := by
  and_intros
  · exact ⟨W.fv [(Reg.HIF_BOOT_STEP, 0, 6)], 0#32, by decide +kernel⟩
  · exact ⟨W.fv [(Reg.HIF_BOOT_STEP, 0, 6), (Reg.HIF_STATUS_BME, 0, 0)], 0#32, by decide +kernel⟩
  · exact ⟨W.up, 3, 0#32, by decide +kernel⟩
  · exact ⟨W.fv [(Reg.SOR_CFG_EN, 3, 1), (Reg.SOR_STATUS_STATE, 3, 2)], 3, 0#32, by decide +kernel⟩
  · exact ⟨W.que, 0#32, by decide +kernel⟩
  · exact ⟨W.fv [(Reg.QUE_STATUS_AQ_READY, 0, 1)], 0#32, by decide +kernel⟩
  · exact ⟨W.mk [(Reg.QUE_STATUS_ENABLED, 0, 1)] fun d =>
      { d with que := { d.que with sqs := [(0, some W.sq), (3, some W.sq)], cqs := [(0, some W.cq), (3, some W.cq)] } },
      0#32, by decide +kernel⟩
  · exact ⟨W.fv [(Reg.QUE_STATUS_POLL_STOPPED, 0, 1)], 0#32, by decide +kernel⟩
  · exact ⟨W.up, 0#32, by decide +kernel⟩

/-- The hypotheses of ClockFaultsAndMonitors can be met, clause by clause. -/
theorem witness_ClockFaultsAndMonitors :
    (∃ (s : State), s.dev.refJudged = true) ∧
    (∃ (s : State) (count : Nat), s.dev.refJudged = true ∧ s.dev.flag Reg.CLK_STATUS_FBO_STABLE = true ∧ (count < 944 ∨
        1107 < count)) ∧
    (∃ (s : State) (count : Nat), s.dev.refJudged = true ∧ s.dev.flag Reg.CLK_STATUS_FBO_STABLE = true ∧ 944 ≤ count ∧
        count ≤ 1107) ∧
    (∃ (s : State) (dom : Fin 5) (count : Nat), s.dev.refJudged = true ∧ s.dev.flag Reg.CLK_STATUS_FBO_STABLE = true ∧
        s.dev.flag Reg.CLK_STATUS_ROOT_LOCK = true ∧ divGood dom.val count = false) ∧
    (∃ (s : State), s.dev.powered = true ∧ s.dev.flag Reg.CLK_STATUS_ROOT_LOCK = true) ∧
    (∃ (s : State) (count : Nat), s.dev.powered = true ∧ s.dev.flag Reg.CLK_STATUS_FBO_STABLE = true ∧ (count < 4523 ∨
        4998 < count)) ∧
    (∃ (s : State) (count : Nat), s.dev.powered = true ∧ s.dev.flag Reg.CLK_STATUS_FBO_STABLE = false ∧ 4523 ≤ count ∧
        count ≤ 4998) ∧
    (∃ (s : State), s.dev.refJudged = true) ∧
    (∃ (s : State), s.dev.powered = true ∧ s.dev.clk.tripped = true ∧ s.dev.flag Reg.CLK_STATUS_FBO_STABLE = true ∧
        s.dev.flag Reg.HIF_BOOT_FALLBACK = false) ∧
    (∃ (s : State), s.dev.powered = true ∧ s.dev.flag Reg.CLK_STATUS_SOURCE = true ∧ s.dev.flag Reg.CLK_STATUS_ROOT_LOCK
        = true ∧ s.dev.clk.tripped = false) ∧
    (∃ (s : State), s.dev.powered = true ∧ s.dev.clk.tripped = true ∧ s.dev.flag Reg.CLK_STATUS_REF_VALID = true ∧
        s.dev.clk.relocks < s.dev.rd Reg.CLK_MON_RELOCK_TRIES) ∧
    (∃ (s : State), s.dev.powered = true ∧ s.dev.clk.tripped = true ∧ s.dev.flag Reg.CLK_STATUS_REF_VALID = true ∧
        s.dev.clk.relocks + 1 = s.dev.rd Reg.CLK_MON_RELOCK_TRIES) ∧
    (∃ (s : State), s.dev.flag Reg.CLK_STATUS_ONF_LOCK = true) := by
  and_intros
  · exact ⟨W.up, by decide +kernel⟩
  · exact ⟨W.up, 943, by decide +kernel⟩
  · exact ⟨W.up, 944, by decide +kernel⟩
  · exact ⟨W.up, 4, 0, by decide +kernel⟩
  · exact ⟨W.up, by decide +kernel⟩
  · exact ⟨W.up, 4999, by decide +kernel⟩
  · exact ⟨W.fv [(Reg.CLK_STATUS_FBO_STABLE, 0, 0)], 4523, by decide +kernel⟩
  · exact ⟨W.up, by decide +kernel⟩
  · exact ⟨W.tripped, by decide +kernel⟩
  · exact ⟨W.fv [(Reg.CLK_STATUS_SOURCE, 0, 1)], by decide +kernel⟩
  · exact ⟨W.tripped, by decide +kernel⟩
  · exact ⟨W.on { W.tripped.dev with clk := { W.tripped.dev.clk with relocks := 2 } }, by decide +kernel⟩
  · exact ⟨W.up, by decide +kernel⟩

/-- The hypotheses of DeviceTimeEvents can be met, clause by clause. -/
theorem witness_DeviceTimeEvents :
    (∃ (s : State) (rising : Bool), s.dev.powered = true ∧ s.dev.flag Reg.TG_CTL_TSY_EN = true ∧ rising = !s.dev.flag
        Reg.TG_CTL_PPS_EDGE ∧ s.dev.clk.secArmed = true) ∧
    (∃ (s : State) (rising : Bool), s.dev.powered = true ∧ s.dev.flag Reg.TG_CTL_TSY_EN = true ∧ rising = !s.dev.flag
        Reg.TG_CTL_PPS_EDGE ∧ s.dev.clk.secArmed = false ∧ (ppsOffset s.dev.now.toNat).natAbs ≤ 1000) ∧
    (∃ (s : State) (rising : Bool), s.dev.powered = true ∧ s.dev.flag Reg.TG_CTL_TSY_EN = true ∧ rising = !s.dev.flag
        Reg.TG_CTL_PPS_EDGE ∧ s.dev.clk.secArmed = false ∧ 1000 < (ppsOffset s.dev.now.toNat).natAbs) ∧
    (∃ (s : State), s.dev.powered = true ∧ s.dev.flag Reg.TG_CTL_TSY_EN = true) ∧
    (∃ (s : State), s.dev.powered = true ∧ s.dev.flag Reg.TG_CTL_TSY_EN = true) ∧
    (∃ (s : State), s.dev.powered = true ∧ s.dev.flag Reg.TG_CTL_TSY_EN = true) ∧
    (∃ (s : State) (k : Fin 4), s.dev.powered = true ∧ (s.dev.rd Reg.TG_CMP_CTL_EN).testBit k.val = true ∧ s.dev.rd
        Reg.TG_CMP_LO_TIME k.val + 2 ^ 32 * s.dev.rd Reg.TG_CMP_HI_TIME k.val ≤ s.dev.now.toNat) := by
  and_intros
  · exact ⟨W.on { W.tsy with clk := { W.tsy.clk with secArmed := true } }, true, by decide +kernel⟩
  · exact ⟨W.on W.tsy, true, by decide +kernel⟩
  · exact ⟨W.on { W.tsy with clk := { W.tsy.clk with time := BitVec.ofNat 80 (65536 * 1001) } }, true, by
      decide +kernel⟩
  · exact ⟨W.on W.tsy, by decide +kernel⟩
  · exact ⟨W.on W.tsy, by decide +kernel⟩
  · exact ⟨W.on W.tsy, by decide +kernel⟩
  · exact ⟨W.fv [(Reg.TG_CMP_CTL_EN, 0, 8)], 3, by decide +kernel⟩

/-- The hypotheses of PinsActAsTidegateSays can be met, clause by clause. -/
theorem witness_PinsActAsTidegateSays :
    (∃ (s : State), s.dev.clk.tideOk = true ∧ s.dev.bootStep ≠ 8) ∧
    (∃ (s : State), s.dev.powered = true ∧ s.dev.safe = false ∧ s.dev.bootStep = 8) ∧
    (∃ (s : State), s.dev.clk.tideOk = true ∧ s.dev.bootStep ≠ 8) ∧
    (∃ (s : State), s.dev.clk.tideOk = true ∧ s.dev.clk.mainOk = true ∧ s.dev.clk.deep = true) ∧
    (∃ (s : State), s.dev.clk.tideOk = true ∧ s.dev.clk.deep = false) ∧
    (∃ (s : State), s.dev.clk.tideOk = true ∧ s.dev.clk.mainOk = true ∧ s.dev.clk.deep = true) ∧
    (∃ (s : State), s.dev.clk.deep = false) := by
  and_intros
  · exact ⟨W.fv [(Reg.HIF_BOOT_STEP, 0, 7)], by decide +kernel⟩
  · exact ⟨W.up, by decide +kernel⟩
  · exact ⟨W.fv [(Reg.HIF_BOOT_STEP, 0, 7)], by decide +kernel⟩
  · exact ⟨W.deep, by decide +kernel⟩
  · exact ⟨W.up, by decide +kernel⟩
  · exact ⟨W.deep, by decide +kernel⟩
  · exact ⟨W.up, by decide +kernel⟩

/-- The hypotheses of SuppliesResetsAndBoard can be met, clause by clause. -/
theorem witness_SuppliesResetsAndBoard :
    (∃ (s : State), s.dev.clk.tideOk = true ∧ s.dev.clk.thermHold = false) ∧
    (∃ (s : State), s.dev.powered = true ∧ 2 ≤ s.dev.bootStep) ∧
    (∃ (s : State), s.dev.powered = true ∧ 2 ≤ s.dev.bootStep) ∧
    (∃ (s : State), s.dev.powered = true) ∧
    (∃ (s : State), s.dev.clk.entering = true ∧ s.dev.deepAsked = false) ∧
    (∃ (s : State) (ptr : Byte) (data : List Byte) (reads : Nat), s.dev.i2cAnswers = true) ∧
    (∃ (s : State) (ptr : Byte) (data : List Byte) (reads : Nat), s.dev.i2cAnswers = false) ∧
    (∃ (s : State) (code : Byte), code ≠ 0x10#8) ∧
    (∃ (s : State), s.dev.powered = true) ∧
    (∃ (s : State) (l : List Int), s.dev.clk.mainOk = true ∧ s.dev.clk.tideOk = true ∧ s.dev.clk.thermHold = false ∧
        l.length = 16) ∧
    (∃ (s : State), s.dev.clk.mainOk = true ∧ s.dev.clk.tideOk = true) := by
  and_intros
  · exact ⟨W.up, by decide +kernel⟩
  · exact ⟨W.up, by decide +kernel⟩
  · exact ⟨W.up, by decide +kernel⟩
  · exact ⟨W.up, by decide +kernel⟩
  · exact ⟨W.on { W.dev with clk := { W.dev.clk with entering := true } }, by decide +kernel⟩
  · exact ⟨W.up, 7#8, [1#8], 3, by decide +kernel⟩
  · exact ⟨State.reset, 7#8, [], 1, by decide +kernel⟩
  · exact ⟨W.up, 2#8, by decide +kernel⟩
  · exact ⟨W.up, by decide +kernel⟩
  · exact ⟨W.up, List.replicate 16 1680, by decide +kernel⟩
  · exact ⟨W.up, by decide +kernel⟩

/-- The hypotheses of StartupStepsFollowTheTable can be met, clause by clause. -/
theorem witness_StartupStepsFollowTheTable :
    (∃ (s : State) (role : Bool) (nid : BitVec 4), s.dev.atStep 0 = true) ∧
    (∃ (s : State) (role : Bool) (nid : BitVec 4), s.dev.atStep 0 = true) ∧
    (∃ (s : State), s.dev.atStep 1 = true ∧ 2 ≤ s.dev.clk.fboPeriods ∧ s.dev.flag Reg.CLK_STATUS_FBO_STABLE = false) ∧
    (∃ (s : State) (mv : Nat), s.dev.atStep 2 = true ∧ s.dev.flag Reg.CLK_STATUS_REF_VALID = true ∧ s.dev.clk.tripped =
        false) ∧
    (∃ (s : State), s.dev.atStep 3 = true) ∧
    (∃ (s : State), s.dev.atStep 3 = true) ∧
    (∃ (s : State) (rb : List (BitVec 64)), s.dev.atStep 4 = true) ∧
    (∃ (s : State) (l : List MemFault), s.dev.atStep 5 = true ∧ s.dev.rd Reg.TG_BOOT_MARCH = 0) ∧
    (∃ (s : State), s.dev.atStep 5 = true ∧ s.dev.rd Reg.TG_BOOT_MARCH = 1) := by
  and_intros
  · exact ⟨State.reset, true, 3#4, by decide +kernel⟩
  · exact ⟨State.reset, true, 3#4, by decide +kernel⟩
  · exact ⟨W.step1, by decide +kernel⟩
  · exact ⟨W.fv [(Reg.HIF_BOOT_STEP, 0, 2)], 1200, by decide +kernel⟩
  · exact ⟨W.fv [(Reg.HIF_BOOT_STEP, 0, 3)], by decide +kernel⟩
  · exact ⟨W.fv [(Reg.HIF_BOOT_STEP, 0, 3)], by decide +kernel⟩
  · exact ⟨W.fv [(Reg.HIF_BOOT_STEP, 0, 4)], [], by decide +kernel⟩
  · exact ⟨W.fv [(Reg.HIF_BOOT_STEP, 0, 5)], [], by decide +kernel⟩
  · exact ⟨W.fv [(Reg.HIF_BOOT_STEP, 0, 5), (Reg.TG_BOOT_MARCH, 0, 1)], by decide +kernel⟩

/-- The hypotheses of FirmwareComesToRun can be met, clause by clause. -/
theorem witness_FirmwareComesToRun :
    (∃ (s : State) (rate : Fin 2) (rep : Bool), s.dev.atStep 6 = true ∧ s.dev.clk.tripped = false ∧ s.dev.flag
        Reg.HIF_STATUS_LINK_UP = false) ∧
    (∃ (s : State) (rate : Fin 2) (rep : Bool), s.dev.atStep 6 = true ∧ s.dev.clk.tripped = false ∧ s.dev.flag
        Reg.HIF_STATUS_LINK_UP = false) ∧
    (∃ (s : State) (h : FwHeader), s.dev.atStep 6 = true ∧ s.dev.rd Reg.HIF_FW_CTL_STATUS = 1 ∧ s.dev.imageOk h = true) ∧
    (∃ (s : State) (h : FwHeader), s.dev.atStep 6 = true ∧ s.dev.rd Reg.HIF_FW_CTL_STATUS = 1 ∧ s.dev.imageOk h = false) ∧
    (∃ (s : State) (x : FwSlot) (h : FwHeader), s.dev.atStep 6 = true ∧ s.dev.flag Reg.HIF_STATUS_LINK_UP = true ∧
        s.dev.rd Reg.HIF_FW_CTL_STATUS = 0 ∧ s.dev.flag Reg.HIF_BOOT_ROM = false ∧ s.dev.flag Reg.HIF_FW_CTL_GO = false
        ∧ s.dev.clk.onfOk = true ∧ s.dev.mgmt.slots[s.dev.mgmt.nextActive]? = some x ∧ x.valid = true ∧ x.header = some
        h ∧ s.dev.imageOk h = true) ∧
    (∃ (s : State), s.dev.atStep 6 = true ∧ s.dev.flag Reg.HIF_STATUS_LINK_UP = true ∧ s.dev.rd Reg.HIF_FW_CTL_STATUS =
        0 ∧ s.dev.flag Reg.HIF_BOOT_ROM = false ∧ s.dev.flag Reg.HIF_FW_CTL_GO = false ∧ s.dev.mgmt.slots =
        [FwSlot.empty, FwSlot.empty] ∧ s.dev.mgmt.recovery = FwSlot.empty ∧ s.dev.mgmt.nextActive < 2) ∧
    (∃ (s : State) (rd : SalternScan), s.dev.atStep 7 = true) := by
  and_intros
  · exact ⟨W.fv [(Reg.HIF_BOOT_STEP, 0, 6), (Reg.HIF_STATUS_LINK_UP, 0, 0)], 1, true, by decide +kernel⟩
  · exact ⟨W.fv [(Reg.HIF_BOOT_STEP, 0, 6), (Reg.HIF_STATUS_LINK_UP, 0, 0)], 1, true, by decide +kernel⟩
  · exact ⟨W.fv [(Reg.HIF_BOOT_STEP, 0, 6), (Reg.HIF_FW_CTL_STATUS, 0, 1)], W.image, by decide +kernel⟩
  · exact ⟨W.fv [(Reg.HIF_BOOT_STEP, 0, 6), (Reg.HIF_FW_CTL_STATUS, 0, 1)], { W.image with rev := 0 }, by
      decide +kernel⟩
  · exact ⟨W.offer, W.slot, W.image, by decide +kernel⟩
  · exact ⟨W.fv [(Reg.HIF_BOOT_STEP, 0, 6)], by decide +kernel⟩
  · exact ⟨W.fv [(Reg.HIF_BOOT_STEP, 0, 7)], { ckptGood := true, keyGood := true, journalBad := false, cuts := [] }, by
      decide +kernel⟩

/-- The hypotheses of LanesAndCodewords can be met, clause by clause. -/
theorem witness_LanesAndCodewords :
    (∃ (s : State) (p : Pk) (lane : Fin 8) (n : Nat) (cells : List (Fin 4)), s.dev.portState p ≠ 0 ∧ s.dev.portState p ≠
        4 ∧ n ≤ 15) ∧
    (∃ (s : State) (p : Pk) (lane : Fin 8) (n : Nat), s.dev.portState p ≠ 0 ∧ s.dev.portState p ≠ 4 ∧ 15 < n) ∧
    (∃ (s : State) (p : Pk) (lane : Fin 8) (v : BitVec 256) (u rtt skew : Nat), s.dev.portState p ≠ 0 ∧ s.dev.portState
        p ≠ 4 ∧ v.toNat % 256 ≠ 0xE1 ∧ v.toNat % 256 ≠ 0x1E) ∧
    (∃ (s : State) (p : Pk) (lane : Fin 8) (v : BitVec 256) (u rtt skew n : Nat), s.dev.portUp p = true ∧ v.toNat % 256
        = 0xE1 ∧ (s.dev.port p).delin.getD lane none = some n ∧ (n + u) % 16 ≠ v.toNat / 2 ^ 60 % 16) ∧
    (∃ (s : State) (p : Pk) (up : BitVec 8), s.dev.portState p = 2 ∧ (s.dev.port p).lostUp = 0#8 ∧ (s.dev.port p).lostDn
        = 0#2 ∧ up ≠ 0#8 ∧ (lanesOf 8 up.toNat).length ≤ 2 ∧ ((lanesOf 8 up.toNat).all (s.dev.port p).laneGone) = true) ∧
    (∃ (s : State) (p : Pk) (lane : Fin 8), s.dev.laneRetraining p false lane = true ∧ (s.dev.port p).lostUp = 1#8 <<<
        lane.val ∧ (s.dev.port p).lostDn = 0#2) ∧
    (∃ (s : State) (p : Pk) (lane : Fin 8), s.dev.laneRetraining p true lane = true ∧ (s.dev.port p).lostUp = 0#8 ∧
        (s.dev.port p).lostDn = 1#2 <<< lane.val ∧ s.dev.rd Reg.SOR_CFG_TEST p = 0) ∧
    (∃ (s : State) (p : Pk) (down : Bool) (lane : Fin 8), s.dev.laneRetraining p down lane = true ∧ s.dev.rd
        Reg.SOR_CFG_TEST p = 0) := by
  and_intros
  · exact ⟨W.port 2 Port.reset, 3, 5, 15, [], by decide +kernel⟩
  · exact ⟨W.port 2 Port.reset, 3, 5, 16, by decide +kernel⟩
  · exact ⟨W.port 2 Port.reset, 3, 5, 0x33#256, 0, 0, 0, by decide +kernel⟩
  · exact ⟨W.port 2 { Port.reset with delin := List.replicate 8 (some 3) }, 3, 5, 0x8E1#256, 1, 0, 0, 3, by
      decide +kernel⟩
  · exact ⟨W.port 2 { Port.reset with runs := List.replicate 8 8 }, 3, 0x81#8, by decide +kernel⟩
  · exact ⟨W.mk [(Reg.SOR_STATUS_STATE, 3, 3), (Reg.SOR_CFG_AUTORETRAIN, 3, 1)] fun d =>
      { d with ports := [(3, { Port.reset with lostUp := 32 })] }, 3, 5, by decide +kernel⟩
  · exact ⟨W.mk [(Reg.SOR_STATUS_STATE, 3, 3), (Reg.SOR_CFG_AUTORETRAIN, 3, 1)] fun d =>
      { d with ports := [(3, { Port.reset with lostDn := 2 })] }, 3, 1, by decide +kernel⟩
  · exact ⟨W.mk [(Reg.SOR_STATUS_STATE, 3, 3), (Reg.SOR_CFG_AUTORETRAIN, 3, 1)] fun d =>
      { d with ports := [(3, { Port.reset with lostUp := 32 })] }, 3, false, 5, by decide +kernel⟩

/-- The hypotheses of PortTraining can be met, clause by clause. -/
theorem witness_PortTraining :
    (∃ (s : State) (p : Pk) (r : TrainReport), s.dev.portState p = 1 ∧ 1 ≤ (s.dev.port p).step ∧ (s.dev.port p).step ≤ 4
        ∧ s.dev.rd Reg.SOR_CFG_TEST p = 0) ∧
    (∃ (s : State) (p : Pk) (r : TrainReport), s.dev.portState p = 1 ∧ (s.dev.port p).step = 5 ∧ (s.dev.port p).lostDn =
        0#2 ∧ r.numbersOk = true ∧ r.rtt ≤ 22500 ∧ r.skew ≤ 562 ∧ s.dev.rd Reg.SOR_CFG_TEST p = 0) ∧
    (∃ (s : State) (p : Pk) (r : TrainReport), s.dev.portState p = 1 ∧ (s.dev.port p).step = 6) ∧
    (∃ (s : State) (p : Pk), s.dev.portState p = 1 ∧ (s.dev.port p).step ≠ 0 ∧ (s.dev.port p).tries < s.dev.rd
        Reg.SOR_CFG_TRAIN_RETRIES p ∧ s.dev.rd Reg.SOR_CFG_TEST p = 0) := by
  refine ⟨?_, ?_, ?_, ?_⟩
  · exact ⟨W.port 1 { Port.reset with step := 4 }, 3,
      { inverted := 0, numbersOk := true, skew := 0, rtt := 0, identity := 7 }, by decide +kernel⟩
  · exact ⟨W.port 1 { Port.reset with step := 5 }, 3,
      { inverted := 0, numbersOk := true, skew := 562, rtt := 22500, identity := 7 }, by decide +kernel⟩
  · exact ⟨W.port 1 { Port.reset with step := 6 }, 3,
      { inverted := 0, numbersOk := true, skew := 562, rtt := 22500, identity := 7 }, by decide +kernel⟩
  · exact ⟨W.port 1 { Port.reset with step := 6 }, 3, by decide +kernel⟩

/-- The hypotheses of UpstreamCells can be met, clause by clause. -/
theorem witness_UpstreamCells :
    (∃ (s : State) (p : Pk) (lane : Fin 8) (h : BitVec 16) (l : List Byte) (n : Nat), s.dev.streams p = true ∧
        (s.dev.port p).lostUp.getLsbD lane = false ∧ h.toNat / 2 ^ 13 = 1 ∧ (s.dev.spot (32 * p + 4 * lane.val + h.toNat
        / 2 ^ 11 % 4)).next = some (h.toNat % 1024, n) ∧ s.dev.mode (32 * p + 4 * lane.val + h.toNat / 2 ^ 11 % 4) = 0) ∧
    (∃ (s : State) (p : Pk) (lane : Fin 8) (h : BitVec 16) (l : List Byte) (n g : Nat), s.dev.streams p = true ∧
        (s.dev.port p).lostUp.getLsbD lane = false ∧ h.toNat / 2 ^ 13 = 1 ∧ g = 32 * p + 4 * lane.val + h.toNat / 2 ^ 11
        % 4 ∧ (s.dev.spot g).next = some (h.toNat % 1024, n) ∧ s.dev.mode g ≠ 0 ∧ s.dev.mode g ≠ 4) ∧
    (∃ (s : State) (p : Pk) (lane : Fin 8) (h : BitVec 16) (l : List (BitVec 16)), s.dev.streams p = true ∧ (s.dev.port
        p).lostUp.getLsbD lane = false ∧ h.toNat / 2 ^ 13 = 2 ∧ (lane.val = h.toNat / 2 ^ 10 % 8 ∨ lane.val = (h.toNat /
        2 ^ 10 % 8 + 4) % 8) ∧ (h.toNat + 1) % 512 = (s.dev.port p).sf % 512 ∧ ((s.dev.port p).servo.any fun q => q.1 ==
        2 * (h.toNat / 2 ^ 10 % 8) + h.toNat / 2 ^ 9 % 2) = false) ∧
    (∃ (s : State) (p : Pk) (lane : Fin 8) (v : BitVec 64), s.dev.streams p = true ∧ (s.dev.port p).lostUp.getLsbD lane
        = false ∧ v.toNat / 2 ^ 13 % 8 = 3) ∧
    (∃ (s : State) (p : Pk) (v : BitVec 96), s.dev.portUp p = true ∧ s.dev.ownerView p (v.toNat / 2 ^ 16 % 4) = s.dev.rd
        Reg.SOR_STATUS_OWNER p ∧ v.toNat / 2 ^ 18 % 2 = 0 ∧ v.toNat / 2 ^ 23 % 256 = 0) ∧
    (∃ (s : State) (p : Pk) (v : BitVec 88) (w : CtlWait), s.dev.portUp p = true ∧ s.dev.owns p = true ∧ (s.dev.port
        p).ctl = [w] ∧ w.op = .ownRelease ∧ w.tag = v.toNat % 256 ∧ v.toNat / 2 ^ 8 % 256 = 5 ∧ v.toNat / 2 ^ 16 % 256 =
        0) ∧
    (∃ (s : State) (p : Pk) (tag : Byte) (w : CtlWait), s.dev.portUp p = true ∧ (s.dev.port p).ctl = [w] ∧ w.tag =
        tag.toNat ∧ w.tries < 2 ∧ s.dev.rd Reg.SOR_CFG_TEST p = 0) := by
  and_intros
  · exact ⟨W.spot [] { Machine.Spot.reset with next := some (1023, 64) }, 3, 1, 0x23FF#16, [], 64, by decide +kernel⟩
  · exact ⟨W.spot [(Reg.RCH_SP_STATE_MODE, 100, 1)] { Machine.Spot.reset with next := some (1023, 64) }, 3, 1,
      0x23FF#16, [], 64, 100, by decide +kernel⟩
  · exact ⟨W.port 2 { Port.reset with sf := 512 }, 3, 6, 0x4BFF#16, [], by decide +kernel⟩
  · exact ⟨W.port 2 Port.reset, 3, 4, 0xFFF6005#64, by decide +kernel⟩
  · exact ⟨W.port 2 Port.reset, 3, 0x310000#96, by decide +kernel⟩
  · exact ⟨W.port 2 { Port.reset with ctl := [{ tag := 9, op := .ownRelease, tries := 0 }] }, 3, 0x509#88,
      { tag := 9, op := .ownRelease, tries := 0 }, by decide +kernel⟩
  · exact ⟨W.port 2 { Port.reset with ctl := [{ tag := 9, op := .ownRelease, tries := 1 }] }, 3, 9#8,
      { tag := 9, op := .ownRelease, tries := 1 }, by decide +kernel⟩

/-- The hypotheses of DownstreamSuperframe can be met, clause by clause. -/
theorem witness_DownstreamSuperframe :
    (∃ (s : State) (p : Pk) (late : BitVec 8) (m : Bool), s.dev.portUp p = true ∧ s.dev.rd Reg.SOR_CFG_TEST p = 0 ∧
        s.dev.owns p = false ∧ (drain (sfsUnits ((s.dev.port p).sf + 1)) ((s.dev.port p).queue.getD 0 [])).1 < 16 ∧
        (drain (sfsUnits ((s.dev.port p).sf + 1)) ((s.dev.port p).queue.getD 1 [])).1 < 16) ∧
    (∃ (s : State) (p : Pk) (late : BitVec 8), s.dev.portUp p = true ∧ s.dev.rd Reg.SOR_CFG_TEST p = 0 ∧ s.dev.owns p =
        true ∧ s.dev.svoState p ≠ 0) ∧
    (∃ (s : State) (p : Pk) (late : BitVec 8), s.dev.portUp p = true ∧ s.dev.rd Reg.SOR_CFG_TEST p = 0 ∧ s.dev.owns p =
        true ∧ s.dev.svoState p ≠ 0 ∧ s.dev.burn p = none) := by
  refine ⟨?_, ?_, ?_⟩
  · exact ⟨W.mk [(Reg.SOR_STATUS_STATE, 3, 2)] id, 3, 0#8, false, by decide +kernel⟩
  · exact ⟨W.mk (W.own ++ [(Reg.SVO_STATE_STATE, 3, 3)]) id, 3, 0#8, by decide +kernel⟩
  · exact ⟨W.mk (W.own ++ [(Reg.SVO_STATE_STATE, 3, 3)]) id, 3, 0#8, by decide +kernel⟩

/-- The hypotheses of ReadChannelEvents can be met, clause by clause. -/
theorem witness_ReadChannelEvents :
    (∃ (s : State) (g : Sys2Proof.Spot), s.dev.streams (g / 32) = true ∧ s.dev.mode g ≠ 0 ∧ s.dev.mode g ≠ 4) ∧
    (∃ (s : State) (g : Sys2Proof.Spot), s.dev.mode g = 3 ∧ 4 * s.dev.rd Reg.RCH_DEFECT_HANGOVER ≤ (s.dev.spot g).hang ∧
        (s.dev.spot g).keep = 0 ∧ (s.dev.spot g).frz = false) ∧
    (∃ (s : State) (g : Sys2Proof.Spot), (s.dev.spot g).boost = 1) ∧
    (∃ (s : State) (g : Sys2Proof.Spot), (s.dev.spot g).acq = 1) ∧
    (∃ (s : State) (g : Sys2Proof.Spot), s.dev.mode g = 3 ∧ s.dev.rd Reg.RCH_FLY_FLY_MAX < (s.dev.spot g).defLen ∧
        s.dev.flag Reg.RCH_SP_STATE_TIMING_UNCERTAIN g = false) ∧
    (∃ (s : State) (g : Sys2Proof.Spot) (c : Bool), (s.dev.mode g = 2 ∨ s.dev.mode g = 3) ∧ (s.dev.spot g).gap = true) ∧
    (∃ (s : State) (g : Sys2Proof.Spot) (off : Int) (c : Bool), s.dev.mode g = 1 ∧ off.natAbs ≤ 64 * 65536) ∧
    (∃ (s : State) (g : Sys2Proof.Spot) (n : Fin 4) (a : Int × Int × Bool) (l : List (Int × Int × Bool)) (h : Nat),
        s.dev.spotRuns g = true ∧ s.dev.spotRuns h = true ∧ (n.val, h) ∈ neighbours g ∧ g.val < h ∧ (s.dev.spot g).fifo
        = a :: l ∧ (s.dev.spot g).canc + 224 ≤ a.1 ∧ s.dev.written h ((s.dev.spot g).canc + 2) = false) := by
  and_intros
  · exact ⟨W.spot [(Reg.RCH_SP_STATE_MODE, 100, 2)] Machine.Spot.reset, 100, by decide +kernel⟩
  · exact ⟨W.spot [(Reg.RCH_SP_STATE_MODE, 100, 3)] { Machine.Spot.reset with hang := 5000 }, 100, by decide +kernel⟩
  · exact ⟨W.spot [] { Machine.Spot.reset with boost := 1 }, 100, by decide +kernel⟩
  · exact ⟨W.spot [] { Machine.Spot.reset with acq := 1 }, 100, by decide +kernel⟩
  · exact ⟨W.spot [(Reg.RCH_SP_STATE_MODE, 100, 3)] { Machine.Spot.reset with defLen := 2 ^ 32 }, 100, by
      decide +kernel⟩
  · exact ⟨W.spot [(Reg.RCH_SP_STATE_MODE, 100, 2)] { Machine.Spot.reset with gap := true, seg := 512 }, 100, false, by
      decide +kernel⟩
  · exact ⟨W.spot [(Reg.RCH_SP_STATE_MODE, 100, 1)] Machine.Spot.reset, 100, 64 * 65536, false, by decide +kernel⟩
  · exact ⟨W.mk [(Reg.RCH_SP_STATE_MODE, 100, 2), (Reg.RCH_SP_STATE_MODE, 101, 2)] fun d =>
      { d with spots := [(100, { Machine.Spot.reset with fifo := [(224, 0, false)] }), (101, { Machine.Spot.reset with fifo := [(1, 0, false)] })] },
      100, 2, (224, 0, false), [], 101, by decide +kernel⟩

/-- The hypotheses of DecoderPoolJobs can be met, clause by clause. -/
theorem witness_DecoderPoolJobs :
    (∃ (s : State) (g : Sys2Proof.Spot) (f : SFrame) (l : List SFrame), (s.dev.spot g).full = f :: l) ∧
    (∃ (s : State) (e : Eng) (j : Job) (l : List Job), s.dev.inService e = true ∧ s.dev.work e = none ∧
        (s.dev.yar.jobs.filter fun j => j.elig).foldl (fun l j => insJob j l) [] = j :: l ∧ j.joint = false) ∧
    (∃ (s : State) (e : Eng) (w : Work), s.dev.work e = some w ∧ w.stage = .load) ∧
    (∃ (s : State) (e : Eng) (w : Work), s.dev.work e = some w ∧ w.stage = .detect) ∧
    (∃ (s : State) (e : Eng) (w : Work), s.dev.work e = some w ∧ roleOf (zoneOf (faBand w.job.fr.addr)) (frameNumber
        (zoneOf (faBand w.job.fr.addr)) (faTrack w.job.fr.addr) (faFrame w.job.fr.addr)) = 31 ∧ w.job.fr.draw = false) ∧
    (∃ (s : State) (g : Sys2Proof.Spot) (j : Job), s.dev.pass1.find? (fun j => j.fr.spot == g.val) = some j ∧ roleOf
        (zoneOf (faBand j.fr.addr)) (frameNumber (zoneOf (faBand j.fr.addr)) (faTrack j.fr.addr) (faFrame j.fr.addr)) =
        31 ∧ j.fr.draw = false) ∧
    (∃ (s : State) (e : Eng) (w : Work), s.dev.work e = some w ∧ w.stage ≠ .output) := by
  and_intros
  · exact ⟨W.spot [] { Machine.Spot.reset with full := [W.frame] }, 100, W.frame, [], by decide +kernel⟩
  · exact ⟨W.jobs [W.job], 5, W.job, [], by decide +kernel⟩
  · exact ⟨W.yar .load, 5, W.work .load, by decide +kernel⟩
  · exact ⟨W.yar .detect, 5, W.work .detect, by decide +kernel⟩
  · exact ⟨W.yar .detect, 5, W.work .detect, by decide +kernel⟩
  · exact ⟨W.jobs [W.job], 100, W.job, by decide +kernel⟩
  · exact ⟨W.yar .iterate, 5, W.work .iterate, by decide +kernel⟩

/-- The hypotheses of ClusterTimersAndMissWindows can be met, clause by clause. -/
theorem witness_ClusterTimersAndMissWindows :
    (∃ (s : State) (p : Pk) (a : Word) (c : Clu), s.dev.clu p a.toNat = some c ∧ c.held = false ∧ s.dev.cluClosed p
        a.toNat = false ∧ c.acc = true ∧ 2 < (c.bad ++ ((List.range 18).filter fun r => !c.got.contains r &&
        !c.bad.contains r)).length ∧ c.attempt + 1 ≤ s.dev.rd Reg.YAR_OUTER_REREAD_MAX ∧ (s.dev.yar.clus.filter fun q =>
        q.held && !(q.pk == c.pk && q.addr == c.addr)).length < 256) ∧
    (∃ (s : State) (p : Pk) (a : Word) (c : Clu), s.dev.clu p a.toNat = some c ∧ c.attempt + 1 ≤ s.dev.rd
        Reg.YAR_OUTER_REREAD_MAX) ∧
    (∃ (s : State) (r : Fin 8) (i : Nat) (e : BitVec 64 × Nat), mget s.dev.windows none (r.val * 65536 + i) = some e) := by
  refine ⟨?_, ?_, ?_⟩
  · exact ⟨W.clu, 3, BitVec.ofNat 32 W.cluster.addr, W.cluster, by decide +kernel⟩
  · exact ⟨W.clu, 3, BitVec.ofNat 32 W.cluster.addr, W.cluster, by decide +kernel⟩
  · exact ⟨W.mk [] fun d => { d with windows := [(4 * 65536 + 7, some (9, 2))] }, 4, 7, (9, 2), by decide +kernel⟩

/-- The hypotheses of BandReadsAndBurns can be met, clause by clause. -/
theorem witness_BandReadsAndBurns :
    (∃ (s : State) (p : Pk) (layer : Fin 4) (b slot : Nat) (x : Disc), s.dev.disc (spindleOf p) = some x ∧ s.dev.burn p
        = none ∧ b < bandCount ∧ (s.dev.calPk p).ready = true ∧ (s.dev.calPk p).run = none ∧ s.dev.overBand p layer b 16
        = true ∧ s.dev.clocked 4 = true) ∧
    (∃ (s : State) (p : Pk) (x : Disc) (v m layer b : Nat) (cl : List (Nat × List (List Byte))), s.dev.disc (spindleOf
        p) = some x ∧ s.dev.mayBurn p = true ∧ s.dev.presented p x = some (v, m, layer, b, cl) ∧ s.dev.calHolds p =
        false ∧ s.dev.burnBad v (sideOf p) layer b = [] ∧ s.dev.overBand p layer b 16 = true ∧ s.dev.clocked 6 = true) ∧
    (∃ (s : State) (p : Pk) (slot : Nat) (b : Burn), s.dev.burn p = some b ∧ b.on = false ∧ b.rev = 0 ∧ b.slot0 = none ∧
        s.dev.svoState p = 5 ∧ s.dev.verified p = true) ∧
    (∃ (s : State) (p : Pk) (b : Burn), s.dev.burn p = some b ∧ b.on = true ∧ b.rev = 3 ∧ s.dev.stillReads ((List.range
        8).map fun w => 32 * p.val + 4 * w) = false ∧ (b.spots.all fun x => x.ends.isEmpty && x.buf.isEmpty) = true) ∧
    (∃ (s : State) (p : Pk) (r : ReadRev), s.dev.burn p = none ∧ s.dev.readRev p = some r ∧ s.dev.stillReads (spotsOf p)
        = false) ∧
    (∃ (s : State) (p : Pk) (w : Fin 8) (slot : Nat) (b : Burn), s.dev.burn p = some b ∧ b.on = true ∧ (b.ws w).off =
        true ∧ b.spots.length = 8 ∧ (s.dev.svo p).we = true ∧ (s.dev.port p).lostDn.getLsbD (w.val / 4) = false ∧ (slot
        + framesOf (zoneOf b.band) - b.slotAt 0) % framesOf (zoneOf b.band) = (b.ws w).enc) ∧
    (∃ (s : State) (p : Pk) (b : Burn), s.dev.burn p = some b ∧ 4 ≤ b.rev) := by
  and_intros
  · exact ⟨W.withDisc [(Reg.SVO_TARGET_TRACK, 3, 656)] id, 3, 0, 20, 99, W.member, by decide +kernel⟩
  · refine ⟨W.withDisc [(Reg.SVO_TARGET_TRACK, 3, 11568)] id, 3, W.member, 5, 0, 0, 361, [(0, [])], ?_⟩
    and_intros
    all_goals first | decide +kernel | rfl
  · exact ⟨W.burning W.burn false, 3, 99, W.burn, by decide +kernel⟩
  · exact ⟨W.burning { W.burn with on := true, rev := 3 } false, 3, { W.burn with on := true, rev := 3 }, by
      decide +kernel⟩
  · exact ⟨W.mk [] fun d =>
      { d with reads := [(3, some { disc := 77, side := 1, layer := 0, band := 20, slot := 0 })] }, 3,
      { disc := 77, side := 1, layer := 0, band := 20, slot := 0 }, by decide +kernel⟩
  · exact ⟨W.burning { W.burn with on := true } true, 3, 2, 0, { W.burn with on := true }, by decide +kernel⟩
  · exact ⟨W.burning { W.burn with rev := 4 } false, 3, { W.burn with rev := 4 }, by decide +kernel⟩

/-- The hypotheses of ServoTicks can be met, clause by clause. -/
theorem witness_ServoTicks :
    (∃ (s : State) (p : Pk), s.dev.svoState p = 3 ∧ (s.dev.svo p).phase = .profile ∧ s.dev.svoBurn p = false ∧
        (s.dev.svo p).leaving = 0 ∧ s.dev.clocked 7 = true) ∧
    (∃ (s : State) (p : Pk), s.dev.svoRuns p = true ∧ (s.dev.svo p).misses = 0 ∧ s.dev.clocked 7 = true) ∧
    (∃ (s : State) (p : Pk), s.dev.svoRuns p = true ∧ s.dev.svoState p ≠ 6 ∧ (s.dev.svo p).misses = 1 ∧ s.dev.clocked 7
        = true) ∧
    (∃ (s : State) (p : Pk) (l : Fin 5), s.dev.svoRuns p = true ∧ s.dev.svoState p ≠ 6 ∧ s.dev.rd
        Reg.SVO_PLAUS_BRIDGE_MAX p ≤ ((s.dev.svo p).loop l).run ∧ 0 < ((s.dev.svo p).loop l).run) ∧
    (∃ (s : State) (p : Pk), s.dev.svoRuns p = true ∧ s.dev.svoState p ≠ 6 ∧ 0 < (s.dev.svo p).chRun ∧ s.dev.rd
        Reg.SVO_PLAUS_MISS_MAX p ≤ (s.dev.svo p).chRun) ∧
    (∃ (s : State) (p : Pk), s.dev.svoRuns p = true ∧ 0 < (s.dev.svo p).misses ∧ s.dev.rd Reg.SVO_HOLD_FAULT_MISS p ≤
        (s.dev.svo p).misses) ∧
    (∃ (s : State) (p : Pk) (l : Fin 5), s.dev.svoRuns p = true ∧ 64 ≤ ((s.dev.svo p).loop l).sat) := by
  and_intros
  · exact ⟨W.svo 3 [] { Servo.reset with phase := .profile, misses := 1 }, 3, by decide +kernel⟩
  · exact ⟨W.svo 5 [] Servo.reset, 3, by decide +kernel⟩
  · exact ⟨W.svo 5 [] { Servo.reset with misses := 1 }, 3, by decide +kernel⟩
  · exact ⟨W.svo 5 [] { Servo.reset with loops := List.replicate 5 { Loop.reset with run := 5000 } }, 3, 1, by
      decide +kernel⟩
  · exact ⟨W.svo 5 [] { Servo.reset with chRun := 5000 }, 3, by decide +kernel⟩
  · exact ⟨W.svo 6 [] { Servo.reset with misses := 5000 }, 3, by decide +kernel⟩
  · exact ⟨W.svo 5 [] { Servo.reset with loops := List.replicate 5 { Loop.reset with sat := 64 } }, 3, 1, by
      decide +kernel⟩

/-- The hypotheses of ServoTracking can be met, clause by clause. -/
theorem witness_ServoTracking :
    (∃ (s : State) (p : Pk), s.dev.svoState p = 3 ∧ (s.dev.svo p).phase = .land ∧ s.dev.rd
        Reg.SVO_TRK_THR_ON_TRACK_TICKS p ≤ (s.dev.svo p).teRun ∧ (s.dev.svoBurn p = false ∨ s.dev.verified p = true) ∧
        ((s.dev.svo p).own = true ∨ 2 ≤ (s.dev.svo p).pair) ∧ s.dev.que.ctxs = []) ∧
    (∃ (s : State) (p : Pk), s.dev.svoState p = 6 ∧ 4 ≤ (s.dev.svo p).absent) ∧
    (∃ (s : State) (p : Pk), s.dev.svoState p = 6 ∧ s.dev.rd Reg.SVO_HOLD_HOLD_MAX p ≤ (s.dev.svo p).hticks ∧ (s.dev.svo
        p).focOk = true ∧ s.dev.flag Reg.SVO_TARGET_VALID p = true ∧ ((s.dev.svoTarget p : Int) - s.dev.svoTrack
        p).natAbs ≤ 32) ∧
    (∃ (s : State) (p : Pk) (w : WedgeRead) (u : Nat), s.dev.svoState p = 5 ∧ s.dev.verified p = true ∧ w.spot = 1 ∧
        w.sync = some u ∧ wedgeCheck w.bits = true ∧ unGray 19 (w.bits.toNat / 8192) < trackCount ∧ w.bits.toNat / 2048
        % 4 = s.dev.svoLayer p ∧ w.bits.toNat / 1024 % 2 = sideOf p ∧ 64 * ((u : Int) - ((s.dev.svo p).wtime + s.dev.rd
        Reg.SVO_PW_PW p / 16 : Nat)).natAbs ≤ s.dev.rd Reg.SVO_WEDGE_CFG_WEDGE_WIN p ∧ (s.dev.svo p).phase ≠ .sled ∧
        s.dev.yar.recheck.contains p.val = false ∧ w.bits.toNat / 2 % 512 ≠ 0) ∧
    (∃ (s : State) (p : Pk), s.dev.svoState p = 5 ∧ s.dev.svoBurn p = false ∧ 0 < (s.dev.svo p).slips ∧ s.dev.rd
        Reg.SVO_WEDGE_CFG_SLIP_WEDGES p ≤ (s.dev.svo p).slips ∧ ((s.dev.svoTarget p : Int) - s.dev.svoTrack p).natAbs ≤
        32) ∧
    (∃ (s : State) (p : Pk), s.dev.svoRuns p = true ∧ (s.dev.rd Reg.SVO_WEDGE_INDEX p + 1) % 512 ≠ 0) ∧
    (∃ (s : State) (p : Pk), s.dev.svoState p = 5 ∧ 0 < s.dev.rd Reg.SVO_WEDGE_MISSED p ∧ s.dev.rd
        Reg.SVO_WEDGE_CFG_WEDGE_MISS_MAX p ≤ s.dev.rd Reg.SVO_WEDGE_MISSED p) ∧
    (∃ (s : State) (p : Pk) (n : Nat), s.dev.svoState p = 2 ∧ (s.dev.svo p).search = some n ∧ 512 ≤ n) := by
  and_intros
  · exact ⟨W.svo 3 [] { Servo.reset with phase := .land, own := true, teRun := 5000 }, 3, by decide +kernel⟩
  · exact ⟨W.svo 6 [] { Servo.reset with absent := 4 }, 3, by decide +kernel⟩
  · exact ⟨W.svo 6 [(Reg.SVO_TARGET_VALID, 3, 1), (Reg.SVO_TARGET_TRACK, 3, 32)] { Servo.reset with hticks := 50000 },
      3, by decide +kernel⟩
  · exact ⟨W.svo 5 [(Reg.SVO_POS_VERIFIED, 3, 1), (Reg.SVO_WEDGE_MISSED, 3, 2), (Reg.SVO_WEDGE_CFG_WEDGE_WIN, 3, 64),
      (Reg.SVO_PW_PW, 3, 0)] Servo.reset, 3, W.wedge, 0, by decide +kernel⟩
  · exact ⟨W.svo 5 [] { Servo.reset with slips := 5000 }, 3, by decide +kernel⟩
  · exact ⟨W.svo 5 [] Servo.reset, 3, by decide +kernel⟩
  · exact ⟨W.svo 5 [(Reg.SVO_WEDGE_MISSED, 3, 255)] Servo.reset, 3, by decide +kernel⟩
  · exact ⟨W.svo 2 [] { Servo.reset with search := some 512 }, 3, 512, by decide +kernel⟩

/-- The hypotheses of ServoProcedures can be met, clause by clause. -/
theorem witness_ServoProcedures :
    (∃ (s : State) (p : Pk) (l : Nat), (s.dev.svo p).want = some l ∧ s.dev.svoState p = 0 ∧ s.dev.facqReady p = true ∧ l
        < 4 ∧ s.dev.clocked 7 = true) ∧
    (∃ (s : State) (p : Pk), s.dev.svoState p = 1 ∧ (s.dev.svo p).phase = .capture ∧ 16 ≤ (s.dev.svo p).feRun) ∧
    (∃ (s : State) (p : Pk), s.dev.svoState p = 1 ∧ (s.dev.svo p).phase = .sweep ∧ s.dev.outLim p 0 ≤ ((s.dev.svo
        p).loop 0).uPrev ∧ (s.dev.svo p).facq < s.dev.rd Reg.SVO_FACQ_FACQ_RETRIES p) ∧
    (∃ (s : State) (p : Pk), (s.dev.svo p).phase = .kick ∧ s.dev.rd Reg.SVO_LJUMP_KICK_TICKS p ≤ (s.dev.svo p).t) ∧
    (∃ (s : State) (p : Pk), ((s.dev.svo p).phase = .kick ∨ (s.dev.svo p).phase = .coast) ∧ 8 * s.dev.rd
        Reg.SVO_LJUMP_JUMP_TIMEOUT p ≤ (s.dev.svo p).jticks ∧ s.dev.facqReady p = true) ∧
    (∃ (s : State) (p : Pk), (s.dev.svo p).phase = .profile ∧ 2 * (s.dev.svo p).mvH ≤ (s.dev.svo p).mvK ∧ s.dev.burn p =
        none) ∧
    (∃ (s : State) (p : Pk), s.dev.svoState p = 3 ∧ (s.dev.svo p).phase = .land ∧ s.dev.rd Reg.SVO_MOVE_SETTLE_MAX p ≤
        (s.dev.svo p).t ∧ (s.dev.svo p).teRun < s.dev.rd Reg.SVO_TRK_THR_ON_TRACK_TICKS p) ∧
    (∃ (s : State) (p : Pk), (s.dev.svo p).phase = .sled ∧ (s.dev.axis (2 * p.val)).kind = 0) ∧
    (∃ (s : State) (p : Pk), (s.dev.svo p).phase = .fine ∧ (s.dev.svo p).left.natAbs = 1) := by
  and_intros
  · exact ⟨W.ready 0 { Servo.reset with want := some 2 }, 3, 2, by decide +kernel⟩
  · exact ⟨W.svo 1 [] { Servo.reset with phase := .capture, feRun := 16 }, 3, by decide +kernel⟩
  · exact ⟨W.svo 1 []
      { Servo.reset with phase := .sweep, loops := List.replicate 5 { Loop.reset with uPrev := 2 ^ 40 } }, 3, by
      decide +kernel⟩
  · exact ⟨W.svo 4 [] { Servo.reset with phase := .kick, t := 5000 }, 3, by decide +kernel⟩
  · exact ⟨W.ready 4 { Servo.reset with phase := .coast, jticks := 5000 }, 3, by decide +kernel⟩
  · exact ⟨W.svo 3 [(Reg.SVO_TARGET_TRACK, 3, 33)] { Servo.reset with phase := .profile, mvH := 8, mvK := 16 }, 3, by
      decide +kernel⟩
  · exact ⟨W.svo 3 [] { Servo.reset with phase := .land, t := 5000 }, 3, by decide +kernel⟩
  · exact ⟨W.svo 3 [] { Servo.reset with phase := .sled }, 3, by decide +kernel⟩
  · exact ⟨W.svo 3 [] { Servo.reset with phase := .fine, left := -1 }, 3, by decide +kernel⟩

/-- The hypotheses of SpindleStart can be met, clause by clause. -/
theorem witness_SpindleStart :
    (∃ (s : State) (n : Spn), s.dev.hasSp n = true ∧ s.dev.peer.wantSp.testBit n = false ∧ s.dev.flag
        Reg.LCS_STATUS_TAMPER_HOLD = false ∧ (s.dev.spin n).start = true ∧ s.dev.flag Reg.MOT_SP_STATUS_REQ n = true ∧
        s.dev.spState n = 0 ∧ s.dev.clocked 8 = true) ∧
    (∃ (s : State) (n : Spn), s.dev.granted n = true ∧ s.dev.flag Reg.MOT_SP_STATUS_REQ n = true ∧ noBurns s.dev n =
        true) ∧
    (∃ (s : State) (n : Spn) (o : Option (Int × Int)), s.dev.spState n = 1 ∧ (s.dev.spin n).start = true ∧ s.dev.rd
        Reg.MOT_SP_RPM_TARGET n ≠ 0 ∧ ((s.dev.lastProbe n o).rotation n).found = false) ∧
    (∃ (s : State) (n : Spn) (o : Option (Int × Int)), s.dev.spState n = 1 ∧ (s.dev.spin n).start = true ∧ s.dev.rd
        Reg.MOT_SP_RPM_TARGET n ≠ 0 ∧ ((s.dev.lastProbe n o).rotation n).found = true ∧ 0 < ((s.dev.lastProbe n
        o).rotation n).rpm ∧ (s.dev.rd Reg.MOT_SP_START_HANDOVER n : Int) ≤ ((s.dev.lastProbe n o).rotation n).rpm ∧
        (s.dev.lastProbe n o).keOk n ((s.dev.lastProbe n o).rd Reg.MOT_SP_KEM_KE_MEAS n) = true) ∧
    (∃ (s : State) (n : Spn) (o : Option (Int × Int)), s.dev.spState n = 1 ∧ s.dev.rd Reg.MOT_SP_RPM_TARGET n ≠ 0 ∧
        ((s.dev.lastProbe n o).rotation n).found = true ∧ (((s.dev.lastProbe n o).rotation n).rpm.natAbs : Int) <
        s.dev.rd Reg.MOT_SP_START_HANDOVER n) ∧
    (∃ (s : State) (n : Spn), s.dev.spState n = 3) ∧
    (∃ (s : State) (n : Spn), s.dev.spState n = 4 ∧ (s.dev.spin n).pause = false ∧ 32 ≤ (s.dev.spin n).lock ∧ (s.dev.rd
        Reg.MOT_SP_START_HANDOVER n : Int) * 65536 ≤ (s.dev.spin n).fSpd) ∧
    (∃ (s : State) (n : Spn), s.dev.spState n = 4 ∧ (s.dev.spin n).pause = false ∧ (s.dev.rd Reg.MOT_SP_START_HANDOVER n
        : Int) * 65536 ≤ (s.dev.spin n).fSpd) ∧
    (∃ (s : State) (n : Spn), s.dev.spState n = 4 ∧ (s.dev.spin n).pause = true ∧ (s.dev.spin n).tries < s.dev.rd
        Reg.MOT_SP_START_START_TRIES n) ∧
    (∃ (s : State) (n : Spn), s.dev.spState n = 2 ∧ 2000000 ≤ (s.dev.spin n).calm * 2048 ∧ (s.dev.spin n).start = true ∧
        (s.dev.spin n).esc = false) ∧
    (∃ (s : State) (n : Spn), s.dev.spState n = 2 ∧ 2000000 ≤ (s.dev.spin n).calm * 2048 ∧ ((s.dev.spin n).start = false
        ∨ (s.dev.spin n).esc = true)) := by
  and_intros
  · exact ⟨W.spin 0 [(Reg.MOT_SP_STATUS_REQ, 1, 1)] { Spin.reset with start := true }, 1, by decide +kernel⟩
  · exact ⟨W.spin 5 [(Reg.MOT_SP_STATUS_REQ, 1, 1), (Reg.MOT_SP_STATUS_GRANT, 1, 1)] { Spin.reset with start := true },
      1, by decide +kernel⟩
  · exact ⟨W.spin 1 [(Reg.MOT_SP_RPM_TARGET, 1, 7500)] { Spin.reset with start := true }, 1, none, by decide +kernel⟩
  · refine ⟨W.caught, 1, none, ?_⟩
    and_intros
    rotate_left 4
    · exact lt_of_lt_of_le (by decide) caught_rpm
    · exact le_trans (by decide +kernel) caught_rpm
    all_goals decide +kernel
  · exact ⟨W.spin 1 [(Reg.MOT_SP_RPM_TARGET, 1, 7500), (Reg.MOT_SP_START_HANDOVER, 1, 50)]
      { Spin.reset with start := true, probes := W.probes 0 }, 1, none, by decide +kernel⟩
  · exact ⟨W.spin 3 [] Spin.reset, 1, by decide +kernel⟩
  · exact ⟨W.spin 4 [] { Spin.reset with lock := 32, fSpd := 2 ^ 40 }, 1, by decide +kernel⟩
  · exact ⟨W.spin 4 [] { Spin.reset with fSpd := 2 ^ 40 }, 1, by decide +kernel⟩
  · exact ⟨W.spin 4 [(Reg.MOT_SP_START_START_TRIES, 1, 3)] { Spin.reset with pause := true, tries := 2 }, 1, by
      decide +kernel⟩
  · exact ⟨W.spin 2 [] { Spin.reset with start := true, calm := 1000 }, 1, by decide +kernel⟩
  · exact ⟨W.spin 2 [] { Spin.reset with esc := true, calm := 1000 }, 1, by decide +kernel⟩

/-- The hypotheses of SpindleSpeedAndFaults can be met, clause by clause. -/
theorem witness_SpindleSpeedAndFaults :
    (∃ (s : State) (n : Spn) (m : FocSample), s.dev.hasSp n = true ∧ ((s.dev.takeCurrents n m).phasePeak n : Int) ≤
        s.dev.rd Reg.MOT_SP_LIM_I_TRIP n ∧ s.dev.clocked 8 = true) ∧
    (∃ (s : State) (n : Spn), s.dev.focDue n = true ∧ (s.dev.spin n).misses = 0 ∧ s.dev.clocked 8 = true) ∧
    (∃ (s : State) (n : Spn) (ea eb : Int), s.dev.spState n = 5 ∧ s.dev.wedgeRpm (2 * n) = none ∧ s.dev.wedgeRpm (2 * n
        + 1) = none ∧ (s.dev.spin n).keBad = 0 ∧ s.dev.clocked 8 = true) ∧
    (∃ (s : State) (n : Spn), s.dev.spState n = 5 ∧ 64 ≤ (s.dev.spin n).near ∧ s.dev.flag Reg.MOT_SP_STATUS_AT_SPEED n =
        false) ∧
    (∃ (s : State) (n : Spn), s.dev.spState n = 5 ∧ s.dev.flag Reg.MOT_SP_STATUS_AT_SPEED n = false ∧ (s.dev.spin n).ref
        = (s.dev.rd Reg.MOT_SP_RPM_TARGET n : Int) * 65536) ∧
    (∃ (s : State) (n : Spn), s.dev.spState n = 5 ∧ 64 ≤ (s.dev.spin n).clamped) ∧
    (∃ (s : State) (n : Spn) (m : BusSample), s.dev.hasSp n = true ∧ s.dev.spState n ≠ 0 ∧ 125 * s.dev.rd
        Reg.MOT_SP_BUS_CHOP_ON n < (s.dev.takeBus n m).busMv n ∧ (s.dev.takeBus n m).busMv n ≤ 125 * s.dev.rd
        Reg.MOT_SP_BUS_TRIP n ∧ s.dev.clocked 8 = true) ∧
    (∃ (s : State) (n : Spn) (m : FocSample), s.dev.hasSp n = true ∧ s.dev.spState n ≠ 0 ∧ s.dev.spState n ≠ 7 ∧ noBurns
        s.dev n = true ∧ (s.dev.rd Reg.MOT_SP_LIM_I_TRIP n : Int) < ((s.dev.takeCurrents n m).phasePeak n : Int) ∧
        s.dev.clocked 8 = true) ∧
    (∃ (s : State) (n : Spn), s.dev.focDue n = true ∧ (s.dev.spin n).misses = 1 ∧ noBurns s.dev n = true ∧ s.dev.clocked
        8 = true) ∧
    (∃ (s : State) (n : Spn), s.dev.spState n ≠ 0 ∧ s.dev.spState n ≠ 7 ∧ noBurns s.dev n = true ∧ lasts 100000000
        (s.dev.spin n).uvRun = true) ∧
    (∃ (s : State) (n : Spn), s.dev.spState n ≠ 0 ∧ s.dev.spState n ≠ 7 ∧ noBurns s.dev n = true ∧ s.dev.clocked 8 =
        true) ∧
    (∃ (s : State) (n : Spn), s.dev.spState n ≠ 0 ∧ s.dev.spState n ≠ 7 ∧ noBurns s.dev n = true ∧ (s.dev.spin
        n).stuckAt 2 = true ∧ s.dev.clocked 8 = true) ∧
    (∃ (s : State) (n : Spn), s.dev.spState n ≠ 0 ∧ s.dev.spState n ≠ 7 ∧ s.dev.flag Reg.MOT_SP_STATUS_CHOP n = true ∧
        (lasts 20000000 (s.dev.spin n).escRun = true ∨ lasts 20000000 (s.dev.spin n).lowRun = true)) := by
  and_intros
  · exact ⟨W.spin 5 []
      { Spin.reset with next := [1, 2, 3], histA := BitVec.ofNat 600 ((2 ^ 600 - 1) / 3), histB := BitVec.ofNat 600 ((2 ^ 600 - 1) / 3) },
      1, FocSample.mk (BitVec.ofNat 500 ((2 ^ 500 - 1) / 3)) (BitVec.ofNat 500 ((2 ^ 500 - 1) / 3)) false, by
      decide +kernel⟩
  · exact ⟨W.spin 5 [] { Spin.reset with duties := [1, 2, 3] }, 1, by decide +kernel⟩
  · exact ⟨W.spin 5 [(Reg.MOT_SP_RPM_TARGET, 1, 7500)] { Spin.reset with we := 2 ^ 24 }, 1, 0, 0, by decide +kernel⟩
  · exact ⟨W.spin 5 [] { Spin.reset with near := 64 }, 1, by decide +kernel⟩
  · exact ⟨W.spin 5 [] Spin.reset, 1, by decide +kernel⟩
  · exact ⟨W.spin 5 [] { Spin.reset with clamped := 64 }, 1, by decide +kernel⟩
  · exact ⟨W.spin 5 [(Reg.MOT_SP_BUS_CHOP_ON, 1, 0), (Reg.MOT_SP_BUS_TRIP, 1, 255)]
      { Spin.reset with histV := BitVec.ofNat 96 ((2 ^ 96 - 1) / 15 * 11) }, 1,
      { bus := BitVec.ofNat 32 ((2 ^ 32 - 1) / 15 * 11), brake := 0 }, by decide +kernel⟩
  · exact ⟨W.spin 5 [] Spin.reset, 1, { a := 0, b := 0, late := false }, by decide +kernel⟩
  · exact ⟨W.spin 5 [] { Spin.reset with misses := 1 }, 1, by decide +kernel⟩
  · exact ⟨W.spin 5 [] { Spin.reset with uvRun := 763 }, 1, by decide +kernel⟩
  · exact ⟨W.spin 5 [] Spin.reset, 1, by decide +kernel⟩
  · exact ⟨W.spin 5 [] { Spin.reset with quiet := List.replicate 4 (false, 64, 64) }, 1, by decide +kernel⟩
  · exact ⟨W.spin 5 [(Reg.MOT_SP_STATUS_CHOP, 1, 1)] { Spin.reset with escRun := 153 }, 1, by decide +kernel⟩

/-- The hypotheses of AxesMove can be met, clause by clause. -/
theorem witness_AxesMove :
    (∃ (s : State) (a : Ax), s.dev.hasAx a = true ∧ s.dev.coords = [] ∧ (s.dev.axes.all fun q => !q.2.again) = true ∧
        (s.dev.axis a).kind ≠ 0 ∧ (s.dev.axis a).wait = false ∧ s.dev.axState a ≠ 4 ∧ (profileStep (s.dev.axis a).pos
        (s.dev.axis a).vel (s.dev.axTarget a * 65536) ((s.dev.axis a).vmax * 65536) (s.dev.aStep a)).1 ≠ s.dev.axTarget
        a * 65536 ∧ s.dev.clocked 8 = true) ∧
    (∃ (s : State) (a : Ax), (s.dev.axis a).wait = true ∧ (s.dev.axis a).low = 0 ∧ (s.dev.chop (a.val / 2)).frozen =
        false) ∧
    (∃ (s : State) (a : Ax), s.dev.hasAx a = true ∧ (s.dev.axis a).kind = 0 ∧ (s.dev.axis a).next = none ∧ (s.dev.axis
        a).wait = false ∧ (s.dev.axis a).low = 0 ∧ s.dev.groupOf a = none) ∧
    (∃ (s : State) (a : Ax) (u v : Int) (k : Nat), (s.dev.axis a).next = some (u, v, k)) ∧
    (∃ (s : State) (p : Pk) (lost : Bool), s.dev.portUp p = true ∧ s.dev.owns p = true ∧ s.dev.clocked 8 = true) ∧
    (∃ (s : State) (p : Pk) (lost : Bool), s.dev.portUp p = true ∧ s.dev.owns p = true ∧ s.dev.clocked 8 = true) ∧
    (∃ (s : State) (p : Pk), (s.dev.chop p).frozen = false ∧ s.dev.rdAx Reg.MOT_AX_CFG_CUR_MISS_MAX (2 * p.val) ≤
        (s.dev.chop p).lost) ∧
    (∃ (s : State) (p : Pk), (s.dev.chop p).frozen = true ∧ 4 ≤ (s.dev.chop p).got ∧ (s.dev.axis (2 * p.val + 1)).kind =
        0) := by
  and_intros
  · exact ⟨W.axis [(Reg.MOT_AX_STATUS_STATE, 6, 2), (Reg.MOT_AX_TGT_TARGET, 6, 1000), (Reg.MOT_AX_VA_A_MAX, 6, 0)]
      { Axis.reset with kind := 1, vel := -390625, vmax := 1000 }, 6, by decide +kernel⟩
  · exact ⟨W.axis [] { Axis.reset with wait := true }, 6, by decide +kernel⟩
  · exact ⟨W.axis [] Axis.reset, 6, by decide +kernel⟩
  · exact ⟨W.axis [] { Axis.reset with next := some (5, 6, 1) }, 6, 5, 6, 1, by decide +kernel⟩
  · exact ⟨W.mk W.own id, 3, false, by decide +kernel⟩
  · exact ⟨W.mk W.own id, 3, false, by decide +kernel⟩
  · exact ⟨W.mk [] fun d => { d with chops := [(3, { Chop.reset with lost := 1000 })] }, 3, by decide +kernel⟩
  · exact ⟨W.mk [(Reg.MOT_AX_STATUS_STATE, 7, 4)] fun d =>
      { d with chops := [(3, { Chop.reset with frozen := true, got := 4 })] }, 3, by decide +kernel⟩

/-- The hypotheses of MotionCommands can be met, clause by clause. -/
theorem witness_MotionCommands :
    (∃ (s : State) (c : Nat) (k : Ctx), startable s.dev c k { b := [40, 41, 42] } = true ∧ isMotion 0 k.e = true ∧
        s.dev.mmu.hlm.isSome = true ∧ k.e.at 41 < 8 ∧ s.dev.hasSp (k.e.at 41) = true ∧ k.e.at 42 = 1 ∧ s.dev.spState
        (k.e.at 41) = 0 ∧ s.dev.clocked 8 = true) ∧
    (∃ (s : State) (c : Nat) (k : Ctx), startable s.dev c k { b := [40, 41, 42] } = true ∧ isMotion 0 k.e = true ∧
        s.dev.mmu.hlm.isSome = true ∧ k.e.at 41 < 8 ∧ s.dev.hasSp (k.e.at 41) = true ∧ k.e.at 42 = 0 ∧ s.dev.spState
        (k.e.at 41) = 5 ∧ s.dev.clocked 8 = true) ∧
    (∃ (s : State) (c : Nat) (k : Ctx), startable s.dev c k { b := [40, 41] } = true ∧ isMotion 1 k.e = true ∧
        s.dev.mmu.hlm.isSome = true ∧ k.e.at 41 < 8 ∧ s.dev.hasSp (k.e.at 41) = true ∧ noBurns s.dev (k.e.at 41) = true
        ∧ s.dev.clocked 8 = true) ∧
    (∃ (s : State) (c : Nat) (k : Ctx), startable s.dev c k { b := [40, 41, 48, 49, 50, 51] } = true ∧ isMotion 2 k.e =
        true ∧ s.dev.mmu.hlm.isSome = true ∧ k.e.at 41 < 32 ∧ s.dev.hasAx (k.e.at 41) = true ∧ s.dev.homed (k.e.at 41) =
        true ∧ s.dev.groupOf (k.e.at 41) = none ∧ (s.dev.axis (k.e.at 41)).low = 0 ∧ (s.dev.chop (k.e.at 41 / 2)).frozen
        = false ∧ s.dev.clocked 8 = true) ∧
    (∃ (s : State) (c : Nat) (k : Ctx), startable s.dev c k { b := [40, 41, 48, 49, 50, 51] } = true ∧ isMotion 2 k.e =
        true ∧ s.dev.mmu.hlm.isSome = true ∧ k.e.at 41 < 32 ∧ s.dev.hasAx (k.e.at 41) = true ∧ s.dev.homed (k.e.at 41) =
        false ∧ s.dev.clocked 8 = true) ∧
    (∃ (s : State) (c : Nat) (k : Ctx), startable s.dev c k
        { b := [40, 41, 44, 45, 46, 47, 48, 49, 50, 51, 52, 53, 54, 55, 56, 57, 58, 59, 60, 61, 62, 63] } = true ∧
        isMotion 3 k.e = true ∧ s.dev.groupCheck k.e = none ∧ (((List.range (k.e.at 41)).map fun i => k.e.at (44 +
        i)).all fun a => s.dev.homed a) = true ∧ s.dev.clocked 8 = true) ∧
    (∃ (s : State) (c : Nat) (k : Ctx), startable s.dev c k { b := [40, 41] } = true ∧ isMotion 4 k.e = true ∧
        s.dev.mmu.hlm.isSome = true ∧ k.e.at 41 < 32 ∧ s.dev.hasAx (k.e.at 41) = true ∧ (s.dev.chop (k.e.at 41 /
        2)).frozen = false ∧ s.dev.clocked 8 = true) := by
  and_intros
  · exact ⟨W.cmd (W.sqe 0x40 [(41, 1), (42, 1)]) ([]) (id), 9, W.ctx (W.sqe 0x40 [(41, 1), (42, 1)]), by decide +kernel⟩
  · exact ⟨W.cmd (W.sqe 0x40 [(41, 1)]) ([(Reg.MOT_SP_STATUS_STATE, 1, 5)]) (id), 9, W.ctx (W.sqe 0x40 [(41, 1)]), by
      decide +kernel⟩
  · exact ⟨W.cmd (W.sqe 0x40 [(40, 1), (41, 1)]) ([]) (id), 9, W.ctx (W.sqe 0x40 [(40, 1), (41, 1)]), by decide +kernel⟩
  · exact ⟨W.cmd (W.sqe 0x40 [(40, 2), (41, 6), (48, 100)]) ([(Reg.MOT_AX_STATUS_HOMED, 6, 1)]) (id), 9, W.ctx (W.sqe
      0x40 [(40, 2), (41, 6), (48, 100)]), by decide +kernel⟩
  · exact ⟨W.cmd (W.sqe 0x40 [(40, 2), (41, 6), (48, 100)]) ([]) (id), 9, W.ctx (W.sqe 0x40 [(40, 2), (41, 6), (48,
      100)]), by decide +kernel⟩
  · exact ⟨W.cmd (W.sqe 0x40 [(40, 3), (41, 2), (44, 6), (45, 7)]) ([(Reg.MOT_AX_STATUS_HOMED, 6, 1),
      (Reg.MOT_AX_STATUS_HOMED, 7, 1)]) (id), 9, W.ctx (W.sqe 0x40 [(40, 3), (41, 2), (44, 6), (45, 7)]), by
      decide +kernel⟩
  · exact ⟨W.cmd (W.sqe 0x40 [(40, 4), (41, 6)]) ([(Reg.MOT_AX_STATUS_HOMED, 6, 1)]) (id), 9, W.ctx (W.sqe 0x40 [(40,
      4), (41, 6)]), by decide +kernel⟩

/-- The hypotheses of ServoModeCommands can be met, clause by clause. -/
theorem witness_ServoModeCommands :
    (∃ (s : State) (c : Nat) (k : Ctx), startable s.dev c k { b := [40, 41, 42] } = true ∧ isServo 0 k.e = true ∧
        s.dev.mmu.hlm.isSome = true ∧ k.e.at 40 < 16 ∧ s.dev.hasPk (k.e.at 40) = true ∧ s.dev.burn (k.e.at 40) = none ∧
        s.dev.calFirst (k.e.at 40) = false ∧ k.e.at 42 < 4 ∧ s.dev.svoState (k.e.at 40) = 0 ∧ s.dev.facqReady (k.e.at
        40) = true ∧ s.dev.flag Reg.SOR_CFG_EN (k.e.at 40) = true ∧ s.dev.clocked 7 = true) ∧
    (∃ (s : State) (c : Nat) (k : Ctx), startable s.dev c k { b := [40, 41] } = true ∧ isServo 1 k.e = true ∧
        s.dev.mmu.hlm.isSome = true ∧ k.e.at 40 < 16 ∧ s.dev.hasPk (k.e.at 40) = true ∧ s.dev.burn (k.e.at 40) = none ∧
        s.dev.calFirst (k.e.at 40) = false ∧ s.dev.moving (k.e.at 40) = false ∧ s.dev.svoState (k.e.at 40) ≠ 7 ∧
        s.dev.clocked 7 = true) ∧
    (∃ (s : State) (c : Nat) (k : Ctx), startable s.dev c k { b := [40, 41] } = true ∧ isServo 2 k.e = true ∧
        s.dev.mmu.hlm.isSome = true ∧ k.e.at 40 < 16 ∧ s.dev.hasPk (k.e.at 40) = true ∧ s.dev.burn (k.e.at 40) = none ∧
        s.dev.calFirst (k.e.at 40) = false ∧ s.dev.svoState (k.e.at 40) = 7 ∧ s.dev.portUp (k.e.at 40) = true ∧
        s.dev.owns (k.e.at 40) = true ∧ s.dev.flag Reg.SOR_CFG_EN (k.e.at 40) = true ∧ s.dev.clocked 7 = true) ∧
    (∃ (s : State) (c : Nat) (k : Ctx), startable s.dev c k { b := [40, 41, 42, 43, 44, 45] } = true ∧ isServo 3 k.e =
        true ∧ s.dev.mmu.hlm.isSome = true ∧ k.e.at 40 < 16 ∧ s.dev.hasPk (k.e.at 40) = true ∧ s.dev.burn (k.e.at 40) =
        none ∧ s.dev.calFirst (k.e.at 40) = false ∧ k.e.at 42 ≤ 4 ∧ k.e.at 43 ≤ 2 ∧ s.dev.svoRuns (k.e.at 40) = true ∧
        s.dev.moving (k.e.at 40) = false ∧ s.dev.clocked 7 = true) ∧
    (∃ (s : State) (c : Nat) (k : Ctx), startable s.dev c k { b := [40, 41, 42, 48, 49, 50, 51] } = true ∧ isServo 4 k.e
        = true ∧ s.dev.mmu.hlm.isSome = true ∧ k.e.at 40 < 16 ∧ s.dev.hasPk (k.e.at 40) = true ∧ s.dev.burn (k.e.at 40)
        = none ∧ s.dev.calFirst (k.e.at 40) = false ∧ (s.dev.svoState (k.e.at 40) = 2 ∨ s.dev.svoState (k.e.at 40) = 5)
        ∧ k.e.at 42 = s.dev.svoLayer (k.e.at 40) ∧ k.e.le 48 4 < trackCount ∧ ((k.e.le 48 4 : Int) - s.dev.svoTrack
        (k.e.at 40)).natAbs ≤ 32 ∧ s.dev.clocked 7 = true) := by
  and_intros
  · exact ⟨W.cmd (W.sqe 0x41 [(40, 3), (42, 2)]) (W.own ++ [(Reg.MOT_SP_STATUS_AT_SPEED, 1, 1),
      (Reg.MOT_AX_STATUS_HOMED, 6, 1), (Reg.MOT_AX_STATUS_HOMED, 7, 1), (Reg.SOR_CFG_EN, 3, 1)]) (fun d =>
      { d with cal := { d.cal with pk := [(3, { CalPk.reset with ready := true })] } }), 9, W.ctx (W.sqe 0x41 [(40, 3),
      (42, 2)]), by decide +kernel⟩
  · exact ⟨W.cmd (W.sqe 0x41 [(40, 3), (41, 1)]) ([(Reg.SVO_STATE_STATE, 3, 5)]) (id), 9, W.ctx (W.sqe 0x41 [(40, 3),
      (41, 1)]), by decide +kernel⟩
  · exact ⟨W.cmd (W.sqe 0x41 [(40, 3), (41, 2)]) (W.own ++ [(Reg.SVO_STATE_STATE, 3, 7), (Reg.SOR_CFG_EN, 3, 1)]) (id),
      9, W.ctx (W.sqe 0x41 [(40, 3), (41, 2)]), by decide +kernel⟩
  · exact ⟨W.cmd (W.sqe 0x41 [(40, 3), (41, 3), (42, 4), (43, 1)]) ([(Reg.SVO_STATE_STATE, 3, 5), (Reg.LCS_STATUS_STATE,
      0, 3)]) (id), 9, W.ctx (W.sqe 0x41 [(40, 3), (41, 3), (42, 4), (43, 1)]), by decide +kernel⟩
  · exact ⟨W.cmd (W.sqe 0x41 [(40, 3), (41, 4), (48, 32)]) ([(Reg.SVO_STATE_STATE, 3, 5)]) (id), 9, W.ctx (W.sqe 0x41
      [(40, 3), (41, 4), (48, 32)]), by decide +kernel⟩

/-- The hypotheses of CalibrationRuns can be met, clause by clause. -/
theorem witness_CalibrationRuns :
    (∃ (s : State) (c : Nat) (k : Ctx), startable s.dev c k { b := [40, 41] } = true ∧ isCalibrate 0 k.e = true ∧ k.e.at
        40 < 16 ∧ s.dev.hasPk (k.e.at 40) = true ∧ s.dev.clocked 9 = true) ∧
    (∃ (s : State) (c : Nat) (k : Ctx), startable s.dev c k { b := [40, 41] } = true ∧ isCalibrate 1 k.e = true ∧ k.e.at
        40 < 16 ∧ s.dev.hasPk (k.e.at 40) = true ∧ s.dev.clocked 9 = true) ∧
    (∃ (s : State) (p : Pk), (s.dev.calPk p).run = none ∧ (s.dev.calPk p).due = 2 ∧ s.dev.calMayRun p true = true ∧
        s.dev.svoState p = 0 ∧ s.dev.homed (2 * p.val) = true ∧ s.dev.homed (2 * p.val + 1) = true ∧ s.dev.clocked 9 =
        true) ∧
    (∃ (s : State) (p : Pk) (r : CalRun) (u : List Nat) (l : List (List Nat)), (s.dev.calPk p).run = some r ∧ r.steps =
        u :: l ∧ readsBand u = false ∧ r.paused = true ∧ s.dev.calMayRun p r.full = true ∧ s.dev.clocked 9 = true) ∧
    (∃ (s : State) (p : Pk) (r : CalRun) (u : List Nat) (l : List (List Nat)) (v : List Int), (s.dev.calPk p).run = some
        r ∧ r.steps = u :: l ∧ r.runs = [] ∧ r.paused = false ∧ readsState u = false ∧ s.dev.calPlaced p u = true) ∧
    (∃ (s : State) (c : Nat) (k : Ctx) (buf : List Byte) (key : Nat) (v : List Int), startable s.dev c k
        { count := true, data := true, b := [40, 41] } = true ∧ isCalibrate 2 k.e = true ∧ k.e.at 40 < 16 ∧ s.dev.hasPk
        (k.e.at 40) = true ∧ k.e.count.toNat = 1 ∧ strategyEntry ≤ buf.length ∧ strategyOf (k.e.at 40) (buf.take
        strategyEntry) = some (key, v) ∧ s.dev.calFull (k.e.at 40) = false ∧ s.dev.clocked 9 = true) ∧
    (∃ (s : State) (c : Nat) (k : Ctx), startable s.dev c k { b := [40, 41] } = true ∧ isCalibrate 3 k.e = true ∧ k.e.at
        40 < 16 ∧ s.dev.hasPk (k.e.at 40) = true ∧ s.dev.calFull (k.e.at 40) = false ∧ s.dev.clocked 9 = true) := by
  and_intros
  · exact ⟨W.cmd (W.sqe 0x20 [(40, 3)]) ([]) (id), 9, W.ctx (W.sqe 0x20 [(40, 3)]), by decide +kernel⟩
  · exact ⟨W.cmd (W.sqe 0x20 [(40, 3), (41, 1)]) ([]) (id), 9, W.ctx (W.sqe 0x20 [(40, 3), (41, 1)]), by decide +kernel⟩
  · exact ⟨W.mk (W.own ++ [(Reg.MOT_SP_STATUS_AT_SPEED, 1, 1), (Reg.MOT_AX_STATUS_HOMED, 6, 1),
      (Reg.MOT_AX_STATUS_HOMED, 7, 1), (Reg.SOR_CFG_EN, 3, 1)]) fun d =>
      { d with cal := { d.cal with pk := [(3, { CalPk.reset with due := 2 })] } }, 3, by decide +kernel⟩
  · exact ⟨W.mk (W.own ++ [(Reg.MOT_SP_STATUS_AT_SPEED, 1, 1), (Reg.MOT_AX_STATUS_HOMED, 6, 1),
      (Reg.MOT_AX_STATUS_HOMED, 7, 1), (Reg.SOR_CFG_EN, 3, 1)] ++ [(Reg.SVO_STATE_STATE, 3, 2)]) fun d =>
      { d with cal := { d.cal with pk := [(3, { CalPk.reset with run := some { full := false, steps := [[qSled]], runs := [], asked := true, paused := true, found := [], read := [], serves := [] } })] } },
      3,
      { full := false, steps := [[qSled]], runs := [], asked := true, paused := true, found := [], read := [], serves := [] },
      [qSled], [], by decide +kernel⟩
  · exact ⟨W.mk [] fun d =>
      { d with cal := { d.cal with pk := [(3, { CalPk.reset with run := some { full := true, steps := [[qOffsets]], runs := [], asked := false, paused := false, found := [], read := [], serves := [] } })] } },
      3,
      { full := true, steps := [[qOffsets]], runs := [], asked := false, paused := false, found := [], read := [], serves := [] },
      [qOffsets], [], [5], by decide +kernel⟩
  · exact ⟨W.cmd { W.sqe 0x20 [(40, 3), (41, 2)] with count := 1 } [] id, 9, W.ctx
      { W.sqe 0x20 [(40, 3), (41, 2)] with count := 1 }, List.replicate 156 0, calKey qStrategy 3 0 0 0 0,
      List.replicate 53 0, by decide +kernel⟩
  · exact ⟨W.cmd (W.sqe 0x20 [(40, 3), (41, 3)]) ([]) (fun d =>
      { d with cal := { d.cal with sets := [(calKey qStrategy 3 0 0 0 0, [(5, [6])])] } }), 9, W.ctx (W.sqe 0x20 [(40,
      3), (41, 3)]), by decide +kernel⟩

/-- The hypotheses of MemoriesAndCache can be met, clause by clause. -/
theorem witness_MemoriesAndCache :
    (∃ (s : State) (f : CritFault), s.dev.powered = true ∧ s.dev.safe = false ∧ s.dev.flag Reg.MEM_CFG_SCRUB_EN = true ∧
        f.word < 1024 ∧ f.a = f.b ∧ f.a ≠ f.c) ∧
    (∃ (s : State) (cls : Fin 4) (line : Nat) (data : List Byte) (asid base size : Nat), s.dev.mmu.hlm = some (asid,
        base, size) ∧ 128 * line < size ∧ s.dev.rd Reg.BRC_STATUS_STATE = 1 ∧ s.dev.mmu.faults = [] ∧ ((List.range
        16).all fun w => (mget s.dev.brine.lines none (line % 16384 * 16 + w)).isNone) = true ∧ (s.dev.rd
        Reg.BRC_WAY_ALLOC).testBit 0 = true ∧ s.dev.clocked 13 = true) ∧
    (∃ (s : State) (c : Nat) (k : Ctx), startable s.dev c k { b := [40, 41] } = true ∧ isCache 0 k.e = true ∧
        s.dev.clocked 13 = true) ∧
    (∃ (s : State) (c : Nat) (k : Ctx), startable s.dev c k { b := [40, 41] } = true ∧ isCache 1 k.e = true ∧ s.dev.rd
        Reg.BRC_STATUS_STATE = 0 ∧ s.dev.clocked 13 = true) ∧
    (∃ (s : State) (c : Nat) (k : Ctx), startable s.dev c k { b := [40, 41] } = true ∧ isCache 1 k.e = true ∧ s.dev.rd
        Reg.BRC_STATUS_STATE = 1 ∧ s.dev.brine.lines = [] ∧ s.dev.mmu.xfers = [] ∧ s.dev.clocked 13 = true) ∧
    (∃ (s : State), s.dev.rd Reg.BRC_STATUS_STATE = 2 ∧ s.dev.brine.lines = [] ∧ s.dev.mmu.xfers = [] ∧ s.dev.clocked 13
        = true) ∧
    (∃ (s : State) (c : Nat) (k : Ctx), startable s.dev c k { b := [40, 41, 44, 45, 46, 47] } = true ∧ isCache 2 k.e =
        true ∧ k.e.le 44 2 &&& k.e.le 46 2 = 0 ∧ (k.e.le 44 2 ||| k.e.le 46 2) &&& (s.dev.rd Reg.BRC_WAY_ST_DISABLED |||
        s.dev.rd Reg.BRC_WAY_ST_SCRATCH) = 0 ∧ s.dev.clocked 13 = true) ∧
    (∃ (s : State) (c : Nat) (k : Ctx), startable s.dev c k { b := [40, 41, 42] } = true ∧ isCache 3 k.e = true ∧ k.e.at
        42 ≤ 8 ∧ s.dev.brine.lines = [] ∧ s.dev.mmu.xfers = [] ∧ s.dev.clocked 13 = true) := by
  and_intros
  · exact ⟨W.mk [(Reg.MEM_CFG_SCRUB_EN, 0, 1)] fun d => { d with clk := { d.clk with tideOk := true, mainOk := true } },
      { word := 3, a := 5, b := 5, c := 6, shadow := 0 }, by decide +kernel⟩
  · exact ⟨W.mk [(Reg.BRC_STATUS_STATE, 0, 1), (Reg.BRC_WAY_ALLOC, 0, 0xFFFF)] fun d =>
      { d with mmu := { d.mmu with hlm := some (1, 0, 4294967296) } }, 2, 16385, [1, 2], 1, 0, 4294967296, by
      decide +kernel⟩
  · exact ⟨W.cmd (W.sqe 0x09 [(40, 4)]) ([]) (id), 9, W.ctx (W.sqe 0x09 [(40, 4)]), by decide +kernel⟩
  · exact ⟨W.cmd (W.sqe 0x09 [(40, 4), (41, 1)]) ([]) (id), 9, W.ctx (W.sqe 0x09 [(40, 4), (41, 1)]), by decide +kernel⟩
  · exact ⟨W.cmd (W.sqe 0x09 [(40, 4), (41, 1)]) ([(Reg.BRC_STATUS_STATE, 0, 1)]) (id), 9, W.ctx (W.sqe 0x09 [(40, 4),
      (41, 1)]), by decide +kernel⟩
  · exact ⟨W.fv [(Reg.BRC_STATUS_STATE, 0, 2)], by decide +kernel⟩
  · exact ⟨W.cmd (W.sqe 0x09 [(40, 4), (41, 2), (44, 0xF0), (46, 0x0F)]) ([]) (id), 9, W.ctx (W.sqe 0x09 [(40, 4), (41,
      2), (44, 0xF0), (46, 0x0F)]), by decide +kernel⟩
  · exact ⟨W.cmd (W.sqe 0x09 [(40, 4), (41, 3), (42, 3)]) ([(Reg.BRC_WAY_ALLOC, 0, 0xFFFF)]) (id), 9, W.ctx (W.sqe 0x09
      [(40, 4), (41, 3), (42, 3)]), by decide +kernel⟩

/-- The hypotheses of HostLinkAndBusMastering can be met, clause by clause. -/
theorem witness_HostLinkAndBusMastering :
    (∃ (s : State), s.dev.flag Reg.HIF_STATUS_SB_UP = true) ∧
    (∃ (s : State), s.dev.flag Reg.HIF_STATUS_LINK_UP = true ∧ s.dev.flag Reg.HIF_STATUS_WIDTH = false) ∧
    (∃ (s : State), s.dev.flag Reg.HIF_STATUS_LINK_UP = true) ∧
    (∃ (s : State) (v : Nat), s.dev.flag Reg.HIF_STATUS_LINK_UP = true ∧ quiet s.dev = true ∧ v ∈ s.dev.pba ∧ mget
        s.dev.msixTab 1 (4 * v + 3) % 2 = 0) ∧
    (∃ (s : State), s.dev.flag Reg.HIF_STATUS_LINK_UP = true ∧ s.dev.bme = false ∧ s.dev.mmu.xfers = [] ∧ s.dev.atStep 6
        = true ∧ s.dev.flag Reg.HIF_FW_CTL_GO = true ∧ s.dev.rd Reg.HIF_FW_CTL_STATUS = 0 ∧ s.dev.flag Reg.HIF_BOOT_ROM
        = false ∧ s.dev.rd Reg.HIF_BOOT_IMAGE = 0 ∧ s.dev.rd Reg.HIF_FW_LEN_LEN ≤ 2 ^ 24) ∧
    (∃ (s : State) (p : Pk) (x : Xfer), s.dev.mmu.xfers.find? (fun y => (s.dev.heldCluster p y).isSome) = some x) := by
  and_intros
  · exact ⟨W.up, by decide +kernel⟩
  · exact ⟨W.up, by decide +kernel⟩
  · exact ⟨W.up, by decide +kernel⟩
  · exact ⟨W.mk [(Reg.HIF_STATUS_BME, 0, 0)] fun d => { d with pba := [7], msixTab := [(31, 0)] }, 7, by decide +kernel⟩
  · exact ⟨W.fv [(Reg.HIF_BOOT_STEP, 0, 6), (Reg.HIF_STATUS_BME, 0, 0), (Reg.HIF_FW_CTL_GO, 0, 1)], by decide +kernel⟩
  · exact ⟨W.holding, 3, W.heldX, by decide +kernel⟩

/-- The hypotheses of WalksAndReadCompletions can be met, clause by clause. -/
theorem witness_WalksAndReadCompletions :
    (∃ (s : State) (x : Nat) (y : Xfer) (reads : List TableRead) (level : Nat) (r w : Bool) (t0 : Tlb) (path : List
        WalkEnt) (phys : Nat), s.dev.mmu.xfers.find? (fun z => z.id == x && z.st == .walking) = some y ∧
        s.dev.mmu.xfers.find? (fun z => z.id == x) = some y ∧ y.write = false ∧ 0 < y.left ∧ y.what.marker = false ∧
        s.dev.bme = true ∧ (s.dev.root y.asid).isSome = true ∧ s.dev.walkFrom y.asid y.va = (level, r, w) ∧ walk y.asid
        y.va false level r w reads = .leaf t0 path ∧ ((s.dev.walkAdd path).tlbAdd t0).tlbHit y.asid y.va false = some
        phys ∧ s.dev.tagsOf y.cls ≤ 64 - 1) ∧
    (∃ (s : State) (x : Nat) (y : Xfer) (n phys : Nat) (bytes : List Byte), s.dev.mmu.xfers.find? (fun z => z.id == x) =
        some y ∧ y.st = .issued n ∧ y.write = false ∧ y.what.marker = false ∧ n < y.left ∧ s.dev.bme = true ∧
        s.dev.tlbHit y.asid (y.va + n) false = some phys ∧ s.dev.tagsOf y.cls ≤ 64) ∧
    (∃ (s : State) (x : Nat) (y : Xfer) (n phys c : Nat) (k : Ctx) (bytes : List Byte), s.dev.mmu.xfers.find? (fun z =>
        z.id == x) = some y ∧ y.st = .issued n ∧ y.write = false ∧ y.what.marker = false ∧ n < y.left ∧ s.dev.bme = true
        ∧ s.dev.tlbHit y.asid (y.va + n) false = some phys ∧ s.dev.tagsOf y.cls ≤ 64 ∧ y.what = .dataRead c ∧ s.dev.ctx
        c = some k ∧ k.wait = .run) ∧
    (∃ (s : State) (x : Nat) (y : Xfer) (n : Nat), s.dev.mmu.xfers.find? (fun z => z.id == x) = some y ∧ y.st = .issued
        n ∧ y.what ≠ .dataRead noCtx) ∧
    (∃ (s : State) (x : Nat) (y : Xfer) (n : Nat), s.dev.mmu.xfers.find? (fun z => z.id == x) = some y ∧ y.st = .issued
        n ∧ y.what ≠ .dataRead noCtx) ∧
    (∃ (s : State) (x : Nat) (y : Xfer) (n : Nat), s.dev.mmu.xfers.find? (fun z => z.id == x) = some y ∧ y.st = .issued
        n ∧ y.what ≠ .dataRead noCtx) ∧
    (∃ (s : State) (x : Nat) (y : Xfer) (n : Nat), s.dev.mmu.xfers.find? (fun z => z.id == x) = some y ∧ y.st = .issued
        n ∧ y.what.isSelf = false ∧ y.what ≠ .dataRead noCtx ∧ y.what ≠ .sqFetch 0 ∧ y.what.marker = false ∧
        ((s.dev.mmu.faults ++ s.dev.mmu.spill).all fun f => !(f.asid == y.asid && f.va / 4096 == y.va % 2 ^ 48 / 4096 &&
        f.write == y.write)) = true ∧ s.dev.mmu.faults.length < 256) ∧
    (∃ (s : State) (x : Nat) (y : Xfer) (n : Nat), s.dev.mmu.xfers.find? (fun z => z.id == x) = some y ∧ y.st = .walking
        ∧ y.what.isSelf = false ∧ y.what ≠ .dataRead noCtx ∧ y.what ≠ .sqFetch 0 ∧ y.what.marker = false ∧
        ((s.dev.mmu.faults ++ s.dev.mmu.spill).all fun f => !(f.asid == y.asid && f.va / 4096 == y.va % 2 ^ 48 / 4096 &&
        f.write == y.write)) = true ∧ s.dev.mmu.faults.length < 256) := by
  and_intros
  · exact ⟨W.walking, 4, W.xfer 0 64 false (.dataRead 9) .walking 0, [.entry 0x5007], 1, true, true,
      { asid := 0, va := 0, size := 4096, frame := 0x5000, r := true, w := true }, [], 0x5000, by decide +kernel⟩
  · exact ⟨W.issued, 4, W.xfer 0 8192 false (.dataRead 9) (.issued 4096) 0, 4096, 0x1000, [], by decide +kernel⟩
  · exact ⟨W.issued, 4, W.xfer 0 8192 false (.dataRead 9) (.issued 4096) 0, 4096, 0x1000, 9,
      { W.ctx (W.sqe 0x18 []) with wait := .run }, [1, 2], by decide +kernel⟩
  · exact ⟨W.issued, 4, W.xfer 0 8192 false (.dataRead 9) (.issued 4096) 0, 4096, by decide +kernel⟩
  · exact ⟨W.issued, 4, W.xfer 0 8192 false (.dataRead 9) (.issued 4096) 0, 4096, by decide +kernel⟩
  · exact ⟨W.issued, 4, W.xfer 0 8192 false (.dataRead 9) (.issued 4096) 0, 4096, by decide +kernel⟩
  · exact ⟨W.issued, 4, W.xfer 0 8192 false (.dataRead 9) (.issued 4096) 0, 4096, by decide +kernel⟩
  · exact ⟨W.walking, 4, W.xfer 0 64 false (.dataRead 9) .walking 0, 0, by decide +kernel⟩

/-- The hypotheses of HostMemoryAndFaults can be met, clause by clause. -/
theorem witness_HostMemoryAndFaults :
    (∃ (s : State) (c : Nat) (k : Ctx), startable s.dev c k { data := true, b := [40, 48, 49, 50, 51, 52, 53, 54, 55] }
        = true ∧ (k.e.op == 0x0A && k.e.le 48 8 != 0) = true ∧ s.dev.mmu.hlm = none ∧ (s.dev.root (k.e.at 40)).isSome =
        true ∧ k.e.data.toNat % 2 ^ 21 = 0 ∧ k.e.le 48 8 % 2 ^ 21 = 0 ∧ 2 ^ 32 ≤ k.e.le 48 8 ∧ k.e.le 48 8 ≤ 2 ^ 36 ∧
        k.e.data.toNat + k.e.le 48 8 ≤ 2 ^ 48) ∧
    (∃ (s : State) (c : Nat) (k : Ctx), startable s.dev c k { data := true, b := [40] } = true ∧ (k.e.op == 0x0A &&
        k.e.le 48 8 == 0) = true ∧ s.dev.mmu.hlm = none) ∧
    (∃ (s : State) (c : Nat) (k : Ctx), startable s.dev c k { data := true, b := [40] } = true ∧ (k.e.op == 0x0A &&
        k.e.le 48 8 == 0) = true ∧ s.dev.mmu.hlm.isSome = true ∧ s.dev.rd Reg.BRC_STATUS_STATE = 0) ∧
    (∃ (s : State) (c : Nat) (k : Ctx) (f : OpenFault) (y : Xfer) (phys : Nat), startable s.dev c k
        { b := [40, 41, 42, 43] } = true ∧ (k.e.op == 0x0C && k.e.at 42 == 0) = true ∧ k.e.at 43 = 0 ∧ f ∈
        s.dev.mmu.faults ∧ f.id = k.e.le 40 2 ∧ s.dev.parkedOn f.id = [y] ∧ s.dev.mmu.xfers.find? (fun z => z.id ==
        y.id) = some y ∧ y.what.marker = false ∧ s.dev.heldBackX y = false ∧ s.dev.bme = true ∧ y.write = false ∧ 0 <
        y.left ∧ s.dev.tlbHit y.asid y.va false = some phys ∧ s.dev.tagsOf y.cls ≤ 63) ∧
    (∃ (s : State) (c : Nat) (k : Ctx) (f : OpenFault) (y : Xfer) (c1 : Nat) (k1 : Ctx), startable s.dev c k
        { b := [40, 41, 42, 43] } = true ∧ (k.e.op == 0x0C && k.e.at 42 == 1) = true ∧ k.e.at 43 = 0 ∧ f ∈
        s.dev.mmu.faults ∧ f.id = k.e.le 40 2 ∧ s.dev.parkedOn f.id = [y] ∧ s.dev.mmu.xfers.find? (fun z => z.id ==
        y.id) = some y ∧ y.what.marker = false ∧ s.dev.heldBackX y = false ∧ y.what = .dataRead c1 ∧ s.dev.ctx c1 = some
        k1 ∧ k1.wait = .run ∧ k1.mute = false ∧ c1 ≠ c) ∧
    (∃ (s : State) (c : Nat) (k : Ctx), startable s.dev c k { b := [40, 41, 48, 49, 50, 51, 52, 53, 54, 55] } = true ∧
        isFeature 0x02 k.e = true ∧ k.e.at 41 ≠ 0 ∧ k.e.le 48 8 / 2 % 2 ^ 11 = 0 ∧ k.e.le 48 8 / 2 ^ 52 = 0 ∧
        (s.dev.que.sqs.all fun e => e.2.all fun q => !(q.asid == k.e.at 41 && q.state == 0)) = true ∧ (s.dev.que.cqs.all
        fun e => e.2.all fun q => !(q.asid == k.e.at 41 && !q.err)) = true ∧ s.dev.mmu.hlm.all (fun h => h.1 != k.e.at
        41) = true) ∧
    (∃ (s : State) (c : Nat) (k : Ctx), startable s.dev c k
        { b := [40, 41, 42, 48, 49, 50, 51, 52, 53, 54, 55, 56, 57, 58, 59] } = true ∧ isFeature 0x03 k.e = true ∧
        k.e.at 42 = 0 ∧ k.e.le 48 8 = 0 ∧ k.e.le 56 4 = 0 ∧ s.dev.mmu.xfers = []) := by
  and_intros
  · exact ⟨W.lend, 9, W.ctx W.lendSqe, by decide +kernel⟩
  · exact ⟨W.cmd0 (W.sqe 0x0A []) [] id, 9, W.ctx (W.sqe 0x0A []), by decide +kernel⟩
  · exact ⟨W.cmd (W.sqe 0x0A []) [] id, 9, W.ctx (W.sqe 0x0A []), by decide +kernel⟩
  · exact ⟨W.cmd (W.sqe 0x0C [(40, 5)]) [] W.parked, 9, W.ctx (W.sqe 0x0C [(40, 5)]), W.fault 5, W.parkedX, 0x4000, by
      decide +kernel⟩
  · exact ⟨W.cmd (W.sqe 0x0C [(40, 5), (42, 1)]) [] W.parked, 9, W.ctx (W.sqe 0x0C [(40, 5), (42, 1)]), W.fault 5,
      W.parkedX, 64, { W.ctx (W.sqe 0x18 []) with wait := .run, slot := 1 }, by decide +kernel⟩
  · exact ⟨W.cmd (W.sqe 0x09 [(40, 2), (41, 3), (48, 1), (49, 0x50)]) [] fun d =>
      { d with que := { d.que with sqs := [(0, some W.sq), (1, some { W.sq with asid := 3, state := 1 })], cqs := [(0, some W.cq)] } },
      9, W.ctx (W.sqe 0x09 [(40, 2), (41, 3), (48, 1), (49, 0x50)]), by decide +kernel⟩
  · exact ⟨W.cmd (W.sqe 0x09 [(40, 3), (41, 3)]) ([]) (id), 9, W.ctx (W.sqe 0x09 [(40, 3), (41, 3)]), by decide +kernel⟩

/-- The hypotheses of PollingFetchAndCoalescing can be met, clause by clause. -/
theorem witness_PollingFetchAndCoalescing :
    (∃ (s : State) (rd : DoorbellRead) (type : Fin 6) (va : Nat), s.dev.flag Reg.QUE_STATUS_ENABLED = true ∧ s.dev.flag
        Reg.QUE_STATUS_POLL_STOPPED = false ∧ s.dev.bme = true ∧ rd.fault = some (type, va) ∧ va < 2 ^ 48) ∧
    (∃ (s : State) (rd : DoorbellRead) (q : Sq), s.dev.flag Reg.QUE_STATUS_ENABLED = true ∧ s.dev.flag
        Reg.QUE_STATUS_POLL_STOPPED = false ∧ s.dev.bme = true ∧ rd.fault = none ∧ rd.tails = [] ∧ s.dev.sq 0 = some q ∧
        rd.adminTail % 65536 < q.size ∧ noneHeld s.dev = true) ∧
    (∃ (s : State) (q c : Nat) (e : Sqe) (x : Xfer) (a : Sq), s.dev.sq q = some a ∧ s.dev.mmu.xfers.find? (fun z =>
        z.what == .sqFetch q) = some x ∧ x.st = .issued x.left ∧ x.va + x.left = a.base + 64 * a.fetch + 64 ∧
        s.dev.malformed q a e = none ∧ (knownOp e.op && !rowless e) = true ∧ s.dev.freeCtx q = some c ∧ noneHeld s.dev =
        true) ∧
    (∃ (s : State) (n : Nat) (q : Cq), s.dev.cq n = some q ∧ q.unsig ≠ 0 ∧ s.dev.bme = true ∧ mget s.dev.msixTab 1 (4 *
        q.vector + 3) % 2 = 0) := by
  refine ⟨?_, ?_, ?_, ?_⟩
  · exact ⟨W.fv [(Reg.QUE_STATUS_ENABLED, 0, 1)], { W.poll with fault := some (2, 77) }, 2, 77, by decide +kernel⟩
  · exact ⟨W.mk [(Reg.QUE_STATUS_ENABLED, 0, 1)] fun d =>
      { d with que := { d.que with sqs := [(0, some W.sq)], cqs := [(0, some W.cq)] } }, { W.poll with adminTail := 5 },
      W.sq, by decide +kernel⟩
  · exact ⟨W.mk [(Reg.QUE_STATUS_ENABLED, 0, 1)] fun d =>
      { d with que := { d.que with sqs := [(0, some W.sq)], cqs := [(0, some W.cq)] }, mmu := { d.mmu with xfers := [W.xfer 0x10000 64 false (.sqFetch 0) (.issued 64) 0] } },
      0, 0, W.sqe 0x01 [], W.xfer 0x10000 64 false (.sqFetch 0) (.issued 64) 0, W.sq, by decide +kernel⟩
  · exact ⟨W.mk [] fun d =>
      { d with msixTab := [(31, 0)], que := { d.que with cqs := [(5, some { W.cq with unsig := 2, vector := 7 })] } },
      5, { W.cq with unsig := 2, vector := 7 }, by decide +kernel⟩

/-- The hypotheses of QueueCommands can be met, clause by clause. -/
theorem witness_QueueCommands :
    (∃ (s : State) (c : Nat) (k : Ctx), startable s.dev c k
        { data := true, b := [40, 42, 43, 44, 45, 46, 47, 48, 49, 50, 51] } = true ∧ (k.e.op == 0x02) = true ∧ k.e.at 40
        = 0 ∧ s.dev.sq (k.e.le 42 2) = none ∧ (k.e.le 42 2) ≠ 0 ∧ (k.e.le 42 2) ≤ 512 ∧ k.e.le 48 2 ≠ 0 ∧ k.e.data.toNat
        % 4096 = 0 ∧ k.e.data.toNat < 2 ^ 48 ∧ (s.dev.root (k.e.at 44)).isSome = true ∧ k.e.at 45 ≤ 3 ∧ (s.dev.cq
        (k.e.le 46 2)).isSome = true) ∧
    (∃ (s : State) (c : Nat) (k : Ctx), startable s.dev c k
        { data := true, b := [40, 42, 43, 44, 45, 46, 47, 48, 49, 50, 51] } = true ∧ (k.e.op == 0x02) = true ∧ k.e.at 40
        = 1 ∧ s.dev.cq (k.e.le 42 2) = none ∧ (k.e.le 42 2) ≠ 0 ∧ (k.e.le 42 2) ≤ 512 ∧ k.e.le 48 2 ≠ 0 ∧ k.e.data.toNat
        % 4096 = 0 ∧ k.e.data.toNat < 2 ^ 48 ∧ (s.dev.root (k.e.at 44)).isSome = true ∧ k.e.at 45 = 0 ∧ k.e.le 50 2 = 0
        ∧ k.e.le 46 2 ≤ 1023) ∧
    (∃ (s : State) (c : Nat) (k : Ctx), startable s.dev c k { b := [40, 42, 43] } = true ∧ (k.e.op == 0x03) = true ∧
        k.e.at 40 = 0 ∧ (k.e.le 42 2) ≠ 0 ∧ (s.dev.sq (k.e.le 42 2)).map (·.state) = some 2) ∧
    (∃ (s : State) (c : Nat) (k : Ctx), startable s.dev c k { b := [40, 42, 43] } = true ∧ (k.e.op == 0x03) = true ∧
        k.e.at 40 = 1 ∧ (k.e.le 42 2) ≠ 0 ∧ (s.dev.cq (k.e.le 42 2)).isSome = true ∧ cqUnused s.dev (k.e.le 42 2) =
        true) ∧
    (∃ (s : State) (c : Nat) (k : Ctx) (q : Sq), startable s.dev c k { b := [40, 42, 43] } = true ∧ (k.e.op == 0x04) =
        true ∧ k.e.at 40 = 0 ∧ (k.e.le 42 2) ≠ 0 ∧ k.sq ≠ (k.e.le 42 2) ∧ s.dev.sq (k.e.le 42 2) = some q ∧ q.state = 0
        ∧ s.dev.ctxsOf (k.e.le 42 2) = [] ∧ (s.dev.waiting fun w => w == .queueOff (k.e.le 42 2)) = []) ∧
    (∃ (s : State) (c : Nat) (k : Ctx) (q : Sq), startable s.dev c k { b := [40, 42, 43, 44, 45] } = true ∧ (k.e.op ==
        0x05) = true ∧ k.e.at 40 = 0 ∧ (k.e.le 42 2) ≠ 0 ∧ s.dev.sq (k.e.le 42 2) = some q ∧ q.state = 2 ∧ k.e.le 44 2 <
        q.size) ∧
    (∃ (s : State) (c : Nat) (k : Ctx), startable s.dev c k { b := [40, 42, 43, 44, 45] } = true ∧ (k.e.op == 0x05) =
        true ∧ k.e.at 40 = 1 ∧ k.e.le 44 2 = 0 ∧ (s.dev.cq (k.e.le 42 2)).map (·.err) = some true ∧ s.dev.cqOf k.sq ≠
        (k.e.le 42 2)) ∧
    (∃ (s : State) (c : Nat) (k : Ctx) (q : Sq), startable s.dev c k { b := [40, 42, 43] } = true ∧ (k.e.op == 0x06) =
        true ∧ k.e.at 40 = 0 ∧ s.dev.sq (k.e.le 42 2) = some q) := by
  and_intros
  · exact ⟨W.cmd (W.sqe 0x02 [(42, 6), (48, 63), (46, 5)]) ([(Reg.MMU_AS0_ROOT_LO_VALID, 0, 1)]) fun d =>
      { d with que := { d.que with sqs := [(0, some W.sq), (5, some W.sq)], cqs := [(0, some W.cq), (5, some W.cq)] } },
      9, W.ctx (W.sqe 0x02 [(42, 6), (48, 63), (46, 5)]), by decide +kernel⟩
  · exact ⟨W.cmd (W.sqe 0x02 [(40, 1), (42, 6), (48, 63), (46, 5)]) ([(Reg.MMU_AS0_ROOT_LO_VALID, 0, 1)]) fun d =>
      { d with que := { d.que with sqs := [(0, some W.sq), (5, some W.sq)], cqs := [(0, some W.cq), (5, some W.cq)] } },
      9, W.ctx (W.sqe 0x02 [(40, 1), (42, 6), (48, 63), (46, 5)]), by decide +kernel⟩
  · exact ⟨W.cmd (W.sqe 0x03 [(42, 5)]) ([]) fun d =>
      { d with que := { d.que with sqs := [(0, some W.sq), (5, some { W.sq with state := 2 })], cqs := [(0, some W.cq), (5, some W.cq)] } },
      9, W.ctx (W.sqe 0x03 [(42, 5)]), by decide +kernel⟩
  · exact ⟨W.cmd (W.sqe 0x03 [(40, 1), (42, 5)]) ([]) fun d =>
      { d with que := { d.que with sqs := [(0, some W.sq), (5, some W.sq)], cqs := [(0, some W.cq), (5, some W.cq)] } },
      9, W.ctx (W.sqe 0x03 [(40, 1), (42, 5)]), by decide +kernel⟩
  · exact ⟨W.cmd (W.sqe 0x04 [(42, 5)]) ([]) fun d =>
      { d with que := { d.que with sqs := [(0, some W.sq), (5, some { W.sq with head := 3 })], cqs := [(0, some W.cq), (5, some W.cq)] } },
      9, W.ctx (W.sqe 0x04 [(42, 5)]), { W.sq with head := 3 }, by decide +kernel⟩
  · exact ⟨W.cmd (W.sqe 0x05 [(42, 5), (44, 9)]) ([]) fun d =>
      { d with que := { d.que with sqs := [(0, some W.sq), (5, some { W.sq with state := 2 })], cqs := [(0, some W.cq), (5, some W.cq)] } },
      9, W.ctx (W.sqe 0x05 [(42, 5), (44, 9)]), { W.sq with state := 2 }, by decide +kernel⟩
  · exact ⟨W.cmd (W.sqe 0x05 [(40, 1), (42, 5)]) ([]) fun d =>
      { d with que := { d.que with sqs := [(0, some W.sq), (5, some W.sq)], cqs := [(0, some W.cq), (5, some { W.cq with err := true })] } },
      9, W.ctx (W.sqe 0x05 [(40, 1), (42, 5)]), by decide +kernel⟩
  · exact ⟨W.cmd (W.sqe 0x06 [(42, 5)]) ([]) fun d =>
      { d with que := { d.que with sqs := [(0, some W.sq), (5, some { W.sq with head := 3, state := 2 })], cqs := [(0, some W.cq), (5, some W.cq)] } },
      9, W.ctx (W.sqe 0x06 [(42, 5)]), { W.sq with head := 3, state := 2 }, by decide +kernel⟩

/-- The hypotheses of DeviceFeatures can be met, clause by clause. -/
theorem witness_DeviceFeatures :
    (∃ (s : State) (c : Nat) (k : Ctx), startable s.dev c k { b := [40, 44, 45] } = true ∧ isFeature 0x05 k.e = true ∧ 5
        ≤ k.e.le 44 2 ∧ k.e.le 44 2 ≤ 1000) ∧
    (∃ (s : State) (c : Nat) (k : Ctx), startable s.dev c k { b := [40, 42, 43, 44, 46, 47] } = true ∧ isFeature 0x07
        k.e = true ∧ (s.dev.cq (k.e.le 42 2)).isSome = true ∧ k.e.le 46 2 ≠ 0) ∧
    (∃ (s : State) (c : Nat) (k : Ctx), startable s.dev c k { b := [40, 41, 42, 43] } = true ∧ isFeature 0x08 k.e = true
        ∧ k.e.at 41 ≠ 0 ∧ k.e.at 42 ≠ 0 ∧ k.e.at 43 ≠ 0) ∧
    (∃ (s : State) (c : Nat) (k : Ctx), startable s.dev c k { b := [40, 41] } = true ∧ isFeature 0x06 k.e = true ∧
        k.e.at 41 ≤ 5) ∧
    (∃ (s : State) (c : Nat) (k : Ctx), startable s.dev c k { b := [40, 41] } = true ∧ isFeature 0x01 k.e = true ∧
        k.e.at 41 = 1 ∧ s.dev.powerState = 2 ∧ s.dev.bootStep = 8 ∧ s.dev.safe = false ∧ s.dev.que.ctxs = [(c, some k)]
        ∧ s.dev.salState ≠ 2) ∧
    (∃ (s : State) (c : Nat) (k : Ctx), startable s.dev c k { b := [40, 41, 42, 43] } = true ∧ (k.e.op == 0x08) = true ∧
        k.e.at 40 = 5 ∧ k.e.at 41 = 0 ∧ k.e.at 42 = 0 ∧ k.e.at 43 = 0) ∧
    (∃ (s : State) (c : Nat) (k : Ctx), startable s.dev c k { b := [40, 41, 42, 43] } = true ∧ (k.e.op == 0x08) = true ∧
        k.e.at 40 = 6 ∧ k.e.at 41 = 0 ∧ k.e.at 42 = 0 ∧ k.e.at 43 = 0) := by
  and_intros
  · exact ⟨W.cmd (W.sqe 0x09 [(40, 5), (44, 100)]) ([]) (id), 9, W.ctx (W.sqe 0x09 [(40, 5), (44, 100)]), by
      decide +kernel⟩
  · exact ⟨W.cmd (W.sqe 0x09 [(40, 7), (42, 5), (44, 3), (46, 20)]) ([]) fun d =>
      { d with que := { d.que with sqs := [(0, some W.sq), (5, some W.sq)], cqs := [(0, some W.cq), (5, some W.cq)] } },
      9, W.ctx (W.sqe 0x09 [(40, 7), (42, 5), (44, 3), (46, 20)]), by decide +kernel⟩
  · exact ⟨W.cmd (W.sqe 0x09 [(40, 8), (41, 4), (42, 2), (43, 1)]) ([]) (id), 9, W.ctx (W.sqe 0x09 [(40, 8), (41, 4),
      (42, 2), (43, 1)]), by decide +kernel⟩
  · exact ⟨W.cmd (W.sqe 0x09 [(40, 6), (41, 4)]) ([]) (id), 9, W.ctx (W.sqe 0x09 [(40, 6), (41, 4)]), by decide +kernel⟩
  · exact ⟨W.cmd (W.sqe 0x09 [(40, 1), (41, 1)]) ([]) (fun d =>
      { d with clk := { d.clk with tideOk := true, mainOk := true } }), 9, W.ctx (W.sqe 0x09 [(40, 1), (41, 1)]), by
      decide +kernel⟩
  · exact ⟨W.cmd (W.sqe 0x08 [(40, 5)]) ([]) (id), 9, W.ctx (W.sqe 0x08 [(40, 5)]), by decide +kernel⟩
  · exact ⟨W.cmd (W.sqe 0x08 [(40, 6)]) ([]) (id), 9, W.ctx (W.sqe 0x08 [(40, 6)]), by decide +kernel⟩

/-- The hypotheses of IdentifyDiagnosticProgress can be met, clause by clause. -/
theorem witness_IdentifyDiagnosticProgress :
    (∃ (s : State) (c : Nat) (k : Ctx) (a phys : Nat), startable s.dev c k { volume := true, data := true, b := [40] } =
        true ∧ (k.e.op == 0x01) = true ∧ s.dev.bme = true ∧ s.dev.mmu.xfers = [] ∧ (s.dev.sq k.sq).map (·.asid) = some a
        ∧ k.e.data.toNat % 4096 = 0 ∧ s.dev.tlbHit a k.e.data.toNat true = some phys ∧ k.e.at 40 ≤ 3 ∧ k.e.at 40 ≠ 1 ∧
        k.e.volume = 0) ∧
    (∃ (s : State) (c : Nat) (k : Ctx) (x : DiscSet), startable s.dev c k { volume := true, data := true, b := [40] } =
        true ∧ (k.e.op == 0x01) = true ∧ k.e.at 40 = 1 ∧ s.dev.volSet k.e.volume.toNat = some x ∧ x.home = true ∧
        x.destroyed = false ∧ x.offline = true) ∧
    (∃ (s : State) (c : Nat) (k : Ctx) (a phys : Nat) (off n : Nat), startable s.dev c k
        { data := true, b := [40, 41, 42, 43] } = true ∧ (k.e.op == 0x3C && k.e.at 40 == 1) = true ∧ s.dev.bme = true ∧
        s.dev.mmu.xfers = [] ∧ (s.dev.sq k.sq).map (·.asid) = some a ∧ k.e.data.toNat % 4096 = 0 ∧ s.dev.tlbHit a
        k.e.data.toNat true = some phys ∧ windowIs s.dev (k.e.at 41) (k.e.le 42 2) off n = true ∧ 0 < n ∧ n ≤ 4096) ∧
    (∃ (s : State) (c : Nat) (k : Ctx) (off n key dflt : Nat), startable s.dev c k { b := [40, 41, 42, 43] } = true ∧
        (k.e.op == 0x3C && k.e.at 40 == 0) = true ∧ windowIs s.dev (k.e.at 41) (k.e.le 42 2) off n = true ∧ counterKey
        off (off + n) key = true ∧ ¬ key ∈ ringKeys) ∧
    (∃ (s : State) (c : Nat) (k : Ctx) (o : BgOp), startable s.dev c k { data := true, b := [40, 41] } = true ∧ (k.e.op
        == 0x13) = true ∧ k.e.le 40 2 ≠ 0xFFFF ∧ k.e.data = 0 ∧ s.dev.bgOp (k.e.le 40 2) = some o) := by
  and_intros
  · exact ⟨W.mapped ({ W.sqe 0x01 [] with data := 0x4000 }) ([]) (id), 9, W.ctx { W.sqe 0x01 [] with data := 0x4000 },
      0, 0x4000, by decide +kernel⟩
  · exact ⟨W.cmd { W.sqe 0x01 [(40, 1)] with volume := 5 } [] W.offVol, 9, W.ctx
      { W.sqe 0x01 [(40, 1)] with volume := 5 }, { W.setH with offline := true }, by decide +kernel⟩
  · exact ⟨W.mapped ({ W.sqe 0x3C [(40, 1), (41, 0x20), (42, 5)] with data := 0x4000 }) ([]) (id), 9, W.ctx
      { W.sqe 0x3C [(40, 1), (41, 0x20), (42, 5)] with data := 0x4000 }, 0, 0x4000, 0x210500, 0x100, by decide +kernel⟩
  · exact ⟨W.cmd (W.sqe 0x3C [(41, 0x05), (42, 0xFF), (43, 0xFF)]) ([(Reg.HIF_CNT_CPL_ERR_COUNT, 0, 9)]) (id), 9, W.ctx
      (W.sqe 0x3C [(41, 0x05), (42, 0xFF), (43, 0xFF)]), 0x50000, 0x10000, Reg.HIF_CNT_CPL_ERR_COUNT.key 0 0, 0, by
      decide +kernel⟩
  · exact ⟨W.cmd (W.sqe 0x13 [(40, 4)]) ([]) (fun d => { d with mgmt := { d.mgmt with bgOps := [(4, some W.op)] } }), 9,
      W.ctx (W.sqe 0x13 [(40, 4)]), W.op, by decide +kernel⟩

/-- The hypotheses of MediaFormatAndSanitise can be met, clause by clause. -/
theorem witness_MediaFormatAndSanitise :
    (∃ (s : State) (c : Nat) (k : Ctx) (led : LedgerRead), startable s.dev c k { b := [40, 41] } = true ∧ isMedia 0 k.e
        = true ∧ k.e.at 40 < 8 ∧ s.dev.hasSp (k.e.at 40) = true ∧ s.dev.mmu.hlm.isSome = true ∧ (ledgerInfo led).blank =
        true ∧ quiet s.dev = true ∧ s.dev.clocked 11 = true) ∧
    (∃ (s : State) (c : Nat) (k : Ctx) (led : LedgerRead) (info : LedgerInfo), startable s.dev c k { b := [40, 41] } =
        true ∧ isMedia 0 k.e = true ∧ k.e.at 40 < 8 ∧ s.dev.hasSp (k.e.at 40) = true ∧ s.dev.mmu.hlm.isSome = true ∧
        info = ledgerInfo led ∧ info.blank = false ∧ info.readable = true ∧ info.version = 1 ∧ info.agree = true ∧
        info.member = none ∧ s.dev.set.sets = [] ∧ quiet s.dev = true ∧ s.dev.clocked 11 = true) ∧
    (∃ (s : State) (c : Nat) (k : Ctx), startable s.dev c k { b := [40, 41] } = true ∧ isMedia 1 k.e = true ∧ k.e.at 40
        < 8 ∧ s.dev.hasSp (k.e.at 40) = true ∧ (s.dev.disc (k.e.at 40)).isSome = true ∧ s.dev.unloadReady (k.e.at 40) =
        true ∧ s.dev.clocked 11 = true) ∧
    (∃ (s : State) (c : Nat) (k : Ctx), startable s.dev c k { b := [40, 41] } = true ∧ isMedia 2 k.e = true ∧ k.e.at 40
        < 8 ∧ s.dev.hasSp (k.e.at 40) = true ∧ noBurns s.dev (k.e.at 40) = true ∧ s.dev.set.wants = [] ∧ s.dev.clocked
        11 = true) ∧
    (∃ (s : State) (c : Nat) (k : Ctx), startable s.dev c k { b := [40, 42] } = true ∧ (k.e.op == 0x11 && k.e.at 40 ==
        0) = true ∧ k.e.at 42 ≤ 1 ∧ s.dev.clearing = false ∧ (k.e.at 42 == 1 || !s.dev.stagedAny) = true ∧
        s.dev.flash.geometryOk = true ∧ s.dev.ioCtxs = [] ∧ s.dev.stagedOpen = [] ∧ s.dev.clocked 10 = true) ∧
    (∃ (s : State) (c : Nat) (k : Ctx), startable s.dev c k { b := [40, 42] } = true ∧ (k.e.op == 0x12) = true ∧ k.e.at
        40 ≤ 1 ∧ k.e.at 42 ≤ 1 ∧ s.dev.clearing = false ∧ (k.e.at 42 == 1 || !s.dev.stagedAny) = true ∧ s.dev.ioCtxs =
        [] ∧ s.dev.stagedOpen = [] ∧ s.dev.clocked 10 = true) ∧
    (∃ (s : State) (c : Nat) (k : Ctx) (x : Disc), startable s.dev c k { b := [40, 41, 42] } = true ∧ (k.e.op == 0x11 &&
        k.e.at 40 == 1) = true ∧ k.e.at 41 < 8 ∧ s.dev.hasSp (k.e.at 41) = true ∧ k.e.at 42 ≤ 1 ∧ s.dev.disc (k.e.at 41)
        = some x ∧ x.blank = true ∧ x.foreign = false ∧ s.dev.mgmt.bgOps = [] ∧ s.dev.clocked 11 = true) ∧
    (∃ (s : State) (op fraction : Nat) (ok : Bool) (o : BgOp), s.dev.bgOp op = some o ∧ o.state = 0 ∧ o.type < 3 ∧ quiet
        s.dev = true) ∧
    (∃ (s : State) (op fraction : Nat) (o : BgOp), s.dev.bgOp op = some o ∧ o.state = 0 ∧ o.type = 2 ∧ quiet s.dev =
        true) := by
  and_intros
  · exact ⟨W.cmd (W.sqe 0x10 [(40, 1)]) ([]) (id), 9, W.ctx (W.sqe 0x10 [(40, 1)]), W.blankLedger, by decide +kernel⟩
  · refine ⟨W.cmd (W.sqe 0x10 [(40, 1)]) ([]) (id), 9, W.ctx (W.sqe 0x10 [(40, 1)]), W.ledger, W.ledgerSays, ?_⟩
    and_intros
    rotate_left 5
    · exact ledger_says
    all_goals decide +kernel
  · exact ⟨W.cmd (W.sqe 0x10 [(40, 1), (41, 1)]) ([]) (W.blank1), 9, W.ctx (W.sqe 0x10 [(40, 1), (41, 1)]), by
      decide +kernel⟩
  · exact ⟨W.cmd (W.sqe 0x10 [(40, 1), (41, 2)]) ([]) (W.blank1), 9, W.ctx (W.sqe 0x10 [(40, 1), (41, 2)]), by
      decide +kernel⟩
  · exact ⟨W.cmd (W.sqe 0x11 []) ([]) (id), 9, W.ctx (W.sqe 0x11 []), by decide +kernel⟩
  · exact ⟨W.cmd (W.sqe 0x12 []) ([]) (id), 9, W.ctx (W.sqe 0x12 []), by decide +kernel⟩
  · exact ⟨W.cmd (W.sqe 0x11 [(40, 1), (41, 1)]) ([]) (W.blank1), 9, W.ctx (W.sqe 0x11 [(40, 1), (41, 1)]), W.blankDisc,
      by decide +kernel⟩
  · exact ⟨W.mk [] fun d => { d with mgmt := { d.mgmt with bgOps := [(4, some W.op)] } }, 4, 300, true, W.op, by
      decide +kernel⟩
  · exact ⟨W.mk [] fun d => { d with mgmt := { d.mgmt with bgOps := [(4, some W.op)] } }, 4, 0, W.op, by decide +kernel⟩

/-- The hypotheses of SetCommands can be met, clause by clause. -/
theorem witness_SetCommands :
    (∃ (s : State) (c : Nat) (k : Ctx) (buf : List Byte) (l : List (Nat × Nat)), startable s.dev c k
        { volume := true, count := true, data := true, b := [40, 41, 42] } = true ∧ (k.e.op == 0x18) = true ∧ k.e.at 42
        ≤ 1 ∧ k.e.volume.toNat ≠ 0 ∧ k.e.volume.toNat ≠ 0xFFFF ∧ s.dev.volSet k.e.volume.toNat = none ∧
        s.dev.set.sets.length < 256 ∧ k.e.count.toNat = k.e.at 40 + k.e.at 41 ∧ memberEntries k.e.count.toNat buf = some
        l ∧ s.dev.membersCheck (k.e.at 40) (k.e.at 41) (k.e.at 42 == 1) l = none ∧ s.dev.clocked 11 = true) ∧
    (∃ (s : State) (c : Nat) (k : Ctx) (x : DiscSet), startable s.dev c k { volume := true, b := [42] } = true ∧ (k.e.op
        == 0x19) = true ∧ k.e.at 42 ≤ 1 ∧ s.dev.volSet k.e.volume.toNat = some x ∧ x.home = true ∧ x.destroyed = false ∧
        x.offline = false ∧ x.reshaping = false ∧ x.rebuilding = [] ∧ s.dev.stagedOf k.e.volume.toNat = false ∧
        s.dev.ioCtxs = [] ∧ s.dev.ownSides x = [] ∧ s.dev.clocked 11 = true) ∧
    (∃ (s : State) (c : Nat) (k : Ctx) (buf : List Byte) (l : List (Nat × Nat)) (x : DiscSet), startable s.dev c k
        { volume := true, count := true, data := true, b := [40, 41, 42] } = true ∧ (k.e.op == 0x1A) = true ∧ k.e.at 42
        ≤ 1 ∧ s.dev.volSet k.e.volume.toNat = some x ∧ x.home = true ∧ x.destroyed = false ∧ x.offline = false ∧
        noReshape s.dev = true ∧ k.e.count.toNat = k.e.at 40 + k.e.at 41 ∧ memberEntries k.e.count.toNat buf = some l ∧
        s.dev.membersCheck (k.e.at 40) (k.e.at 41) (k.e.at 42 == 1) l = none ∧ x.cap ≤ (s.dev.newSet (k.e.at 40) (k.e.at
        41) (k.e.at 42 == 1) (x.gen + 1) l).cap ∧ s.dev.set.stripes = [] ∧ quiet s.dev = true ∧ s.dev.clocked 11 = true) ∧
    (∃ (s : State) (vol m sp : Nat) (x : DiscSet) (y : Disc), s.dev.volSet vol = some x ∧ s.dev.spindleOfDisc
        (x.members.getD m (0, 0)).1 = some sp ∧ s.dev.disc sp = some y ∧ s.dev.blankMember y = true ∧ s.dev.flag
        Reg.SET_CFG_REBUILD_EN = true ∧ s.dev.flag Reg.LCS_STATUS_TAMPER_HOLD = false ∧ x.home = true ∧ x.destroyed =
        false ∧ m ∈ x.failed ∧ m ∈ x.spared ∧ noRebuild s.dev = true ∧ s.dev.setLoaded x = true ∧ s.dev.set.stripes = []
        ∧ quiet s.dev = true ∧ s.dev.clocked 11 = true) := by
  refine ⟨?_, ?_, ?_, ?_⟩
  · exact ⟨W.cmd ({ W.sqe 0x18 [(40, 2), (41, 1)] with volume := 5, count := 3 }) ([]) (W.three), 9, W.ctx
      { W.sqe 0x18 [(40, 2), (41, 1)] with volume := 5, count := 3 }, W.threeList, [(71, 0), (72, 0), (73, 0)], by
      decide +kernel⟩
  · exact ⟨W.cmd ({ W.sqe 0x19 [] with volume := 5 }) ([(Reg.GLB_NODE_NID, 0, 9)]) (W.homed), 9, W.ctx
      { W.sqe 0x19 [] with volume := 5 }, W.setH, by decide +kernel⟩
  · exact ⟨W.cmd ({ W.sqe 0x1A [(40, 2), (41, 1)] with volume := 5, count := 3 }) ([(Reg.SET_CFG_RESERVE, 0, 0)]) (fun d
      => W.homed (W.three d)), 9, W.ctx { W.sqe 0x1A [(40, 2), (41, 1)] with volume := 5, count := 3 }, W.threeList,
      [(71, 0), (72, 0), (73, 0)], W.setH, by decide +kernel⟩
  · exact ⟨W.rebuildable, 5, 0, 1, W.setR, W.discOf 71, by decide +kernel⟩

/-- The hypotheses of SparePoolAndSetState can be met, clause by clause. -/
theorem witness_SparePoolAndSetState :
    (∃ (s : State) (c : Nat) (k : Ctx) (buf : List Byte) (l : List (Nat × Nat)), startable s.dev c k
        { count := true, data := true, b := [40] } = true ∧ isPool 0 k.e = true ∧ k.e.count ≠ 0 ∧ memberEntries
        k.e.count.toNat buf = some l ∧ (((l.map (·.1)).eraseDups.length == l.length) && l.all fun q =>
        !(s.dev.set.pool.any fun r => r.1 == q.1)) = true ∧ l.filterMap s.dev.memberCheck = [] ∧ s.dev.flag
        Reg.SET_CFG_SPARE_AUTO = false ∧ s.dev.clocked 11 = true) ∧
    (∃ (s : State) (c : Nat) (k : Ctx) (buf : List Byte) (l : List (Nat × Nat)), startable s.dev c k
        { count := true, data := true, b := [40] } = true ∧ isPool 1 k.e = true ∧ k.e.count ≠ 0 ∧ memberEntries
        k.e.count.toNat buf = some l ∧ (l.all fun q => s.dev.set.pool.contains q) = true ∧ s.dev.clocked 11 = true) ∧
    (∃ (s : State) (c : Nat) (k : Ctx) (a phys : Nat), startable s.dev c k { count := true, data := true, b := [40] } =
        true ∧ isPool 2 k.e = true ∧ s.dev.bme = true ∧ s.dev.mmu.xfers = [] ∧ (s.dev.sq k.sq).map (·.asid) = some a ∧
        k.e.data.toNat % 4096 = 0 ∧ s.dev.tlbHit a k.e.data.toNat true = some phys ∧ s.dev.set.pool ≠ [] ∧ k.e.count ≠ 0
        ∧ (s.dev.set.pool.take k.e.count.toNat).length ≤ 512 ∧ s.dev.clocked 11 = true) ∧
    (∃ (s : State) (c : Nat) (k : Ctx) (x : DiscSet), startable s.dev c k { volume := true, b := [40] } = true ∧
        isSetState 0 k.e = true ∧ s.dev.volSet k.e.volume.toNat = some x ∧ x.home = true ∧ x.destroyed = false ∧
        s.dev.clocked 11 = true) ∧
    (∃ (s : State) (c : Nat) (k : Ctx) (x : DiscSet), startable s.dev c k { volume := true, b := [40] } = true ∧
        isSetState 1 k.e = true ∧ s.dev.volSet k.e.volume.toNat = some x ∧ x.home = true ∧ x.destroyed = false ∧
        s.dev.clocked 11 = true) ∧
    (∃ (s : State) (c : Nat) (k : Ctx) (x : DiscSet), startable s.dev c k { volume := true, b := [40] } = true ∧
        isSetState 2 k.e = true ∧ s.dev.volSet k.e.volume.toNat = some x ∧ x.home = true ∧ x.destroyed = false ∧
        s.dev.clocked 11 = true) ∧
    (∃ (s : State) (c : Nat) (k : Ctx) (x : DiscSet), startable s.dev c k { volume := true, b := [40, 41] } = true ∧
        isSetState 3 k.e = true ∧ s.dev.volSet k.e.volume.toNat = some x ∧ x.home = true ∧ x.destroyed = false ∧
        x.offline = false ∧ k.e.at 41 < x.w ∧ ¬ k.e.at 41 ∈ x.failed ∧ x.rebuilding = [] ∧ s.dev.flag
        Reg.SET_CFG_SPARE_AUTO = false ∧ s.dev.clocked 11 = true) := by
  and_intros
  · exact ⟨W.cmd { W.sqe 0x1B [] with count := 3 } [(Reg.SET_CFG_SPARE_AUTO, 0, 0)] W.three, 9, W.ctx
      { W.sqe 0x1B [] with count := 3 }, W.threeList, [(71, 0), (72, 0), (73, 0)], by decide +kernel⟩
  · exact ⟨W.cmd { W.sqe 0x1B [(40, 1)] with count := 3 } [] fun d =>
      { d with set := { d.set with pool := [(71, 0), (72, 0), (73, 0), (74, 0)] } }, 9, W.ctx
      { W.sqe 0x1B [(40, 1)] with count := 3 }, W.threeList, [(71, 0), (72, 0), (73, 0)], by decide +kernel⟩
  · exact ⟨W.mapped { W.sqe 0x1B [(40, 2)] with data := 0x4000, count := 3 } [] (fun d =>
      { d with set := { d.set with pool := [(71, 0), (72, 0)] } }), 9, W.ctx
      { W.sqe 0x1B [(40, 2)] with data := 0x4000, count := 3 }, 0, 0x4000, by decide +kernel⟩
  · exact ⟨W.cmd ({ W.sqe 0x1C [] with volume := 5 }) ([]) (W.homed), 9, W.ctx { W.sqe 0x1C [] with volume := 5 },
      W.setH, by decide +kernel⟩
  · exact ⟨W.cmd ({ W.sqe 0x1C [(40, 1)] with volume := 5 }) ([]) (W.homed), 9, W.ctx
      { W.sqe 0x1C [(40, 1)] with volume := 5 }, W.setH, by decide +kernel⟩
  · exact ⟨W.cmd ({ W.sqe 0x1C [(40, 2)] with volume := 5 }) ([]) (W.homed), 9, W.ctx
      { W.sqe 0x1C [(40, 2)] with volume := 5 }, W.setH, by decide +kernel⟩
  · exact ⟨W.cmd ({ W.sqe 0x1C [(40, 3), (41, 1)] with volume := 5 }) ([(Reg.SET_CFG_SPARE_AUTO, 0, 0)]) (W.homed), 9,
      W.ctx { W.sqe 0x1C [(40, 3), (41, 1)] with volume := 5 }, W.setH, by decide +kernel⟩

/-- The hypotheses of FirmwareAndLifeCycle can be met, clause by clause. -/
theorem witness_FirmwareAndLifeCycle :
    (∃ (s : State) (c : Nat) (k : Ctx) (buf img : List Byte), startable s.dev c k
        { count := true, data := true, b := [40, 41, 42, 43, 44] } = true ∧ (k.e.op == 0x24) = true ∧ k.e.at 44 ≤ 1 ∧
        k.e.at 44 ≠ s.dev.mgmt.active ∧ s.dev.mgmt.slots.length = 2 ∧ k.e.count ≠ 0 ∧ k.e.count.toNat ≤ buf.length ∧
        k.e.count.toNat % 4096 = 0 ∧ (k.e.le 40 4 == 0 || (!(s.dev.mgmt.slots.getD (k.e.at 44) FwSlot.empty).valid &&
        k.e.le 40 4 == (s.dev.mgmt.slots.getD (k.e.at 44) FwSlot.empty).loaded)) = true ∧ img = (if k.e.le 40 4 = 0 then
        [] else (s.dev.mgmt.slots.getD (k.e.at 44) FwSlot.empty).image) ++ buf.take k.e.count.toNat ∧ img.length <
        (headerOf img).length) ∧
    (∃ (s : State) (c : Nat) (k : Ctx), startable s.dev c k { b := [40, 41] } = true ∧ (k.e.op == 0x25) = true ∧ k.e.at
        40 ≤ 1 ∧ k.e.at 41 = 0 ∧ (s.dev.mgmt.slots.getD (k.e.at 40) FwSlot.empty).valid = true ∧ (s.dev.mgmt.slots.getD
        (k.e.at 40) FwSlot.empty).header.isSome = true) ∧
    (∃ (s : State) (c : Nat) (k : Ctx) (buf : List Byte), startable s.dev c k { data := true, b := [40] } = true ∧
        (k.e.op == 0x38) = true ∧ k.e.at 40 ≤ 4 ∧ s.dev.lifeCycle = k.e.at 40 ∧ k.e.at 40 ≠ 3) ∧
    (∃ (s : State) (c : Nat) (k : Ctx) (key buf : List Byte), startable s.dev c k { data := true, b := [40] } = true ∧
        (k.e.op == 0x38) = true ∧ s.dev.lifeCycle = 1 ∧ k.e.at 40 = 2 ∧ s.dev.mgmt.lockout = false ∧ s.dev.ownerKey =
        some key ∧ codeOf key (s.dev.keyed [0x4C, 0x43, 0x59, 0x43] (leBytes 1 s.dev.lifeCycle ++ leBytes 1 (k.e.at 40)
        ++ leBytes 4 s.dev.fuse.transCnt)) = buf.take 16) ∧
    (∃ (s : State) (c : Nat) (k : Ctx) (buf : List Byte), startable s.dev c k { data := true, b := [40] } = true ∧
        (k.e.op == 0x38) = true ∧ s.dev.lifeCycle = 1 ∧ k.e.at 40 = 2 ∧ s.dev.mgmt.lockout = false ∧ buf.length < 16) := by
  and_intros
  · refine ⟨W.cmd { W.sqe 0x24 [(44, 1)] with count := 4096 } [] id, 9, W.ctx
      { W.sqe 0x24 [(44, 1)] with count := 4096 }, W.part, W.part, ?_⟩
    and_intros
    rotate_left 6
    · exact part_length.ge
    rotate_left 2
    · exact (List.take_of_length_le part_length.le).symm
    · rw [part_length, show (headerOf W.part).length = 8192 by decide +kernel]; decide
    all_goals decide +kernel
  · exact ⟨W.cmd (W.sqe 0x25 [(40, 0)]) ([]) (fun d =>
      { d with mgmt := { d.mgmt with slots := [W.slot, FwSlot.empty] } }), 9, W.ctx (W.sqe 0x25 [(40, 0)]), by
      decide +kernel⟩
  · exact ⟨W.cmd (W.sqe 0x38 [(40, 2)]) ([]) (id), 9, W.ctx (W.sqe 0x38 [(40, 2)]), [], by decide +kernel⟩
  · refine ⟨W.cmd (W.sqe 0x38 [(40, 2)]) ([(Reg.LCS_STATUS_STATE, 0, 1)]) (id), 9, W.ctx (W.sqe 0x38 [(40, 2)]), [],
      codeOf [] (W.dev.keyed [0x4C, 0x43, 0x59, 0x43] (leBytes 1 1 ++ leBytes 1 2 ++ leBytes 4 0)), ?_⟩
    and_intros
    all_goals first | decide +kernel | rfl
  · exact ⟨W.cmd (W.sqe 0x38 [(40, 2)]) ([(Reg.LCS_STATUS_STATE, 0, 1)]) (id), 9, W.ctx (W.sqe 0x38 [(40, 2)]), [], by
      decide +kernel⟩

/-- The hypotheses of RecorderCommands can be met, clause by clause. -/
theorem witness_RecorderCommands :
    (∃ (s : State) (c : Nat) (k : Ctx) (a phys : Nat) (e : EvRec), startable s.dev c k
        { lba := true, count := true, data := true } = true ∧ (k.e.op == 0x28) = true ∧ s.dev.bme = true ∧
        s.dev.mmu.xfers = [] ∧ (s.dev.sq k.sq).map (·.asid) = some a ∧ k.e.data.toNat % 4096 = 0 ∧ s.dev.tlbHit a
        k.e.data.toNat true = some phys ∧ (s.evr.range k.e.lba.toNat k.e.count.toNat).getLast? = some e ∧ (s.evr.range
        k.e.lba.toNat k.e.count.toNat).length ≤ 64 ∧ (s.evr.held.all fun q => q.payload.length == 40) = true) ∧
    (∃ (s : State) (c : Nat) (k : Ctx) (a phys : Nat) (e f : EvRec) (key : List Byte), startable s.dev c k
        { lba := true, count := true, data := true, b := [48, 49, 50, 51, 52, 53, 54, 55, 56, 57, 58, 59, 60, 61, 62, 63] }
        = true ∧ (k.e.op == 0x29) = true ∧ s.dev.bme = true ∧ s.dev.mmu.xfers = [] ∧ (s.dev.sq k.sq).map (·.asid) = some
        a ∧ k.e.data.toNat % 4096 = 0 ∧ s.dev.tlbHit a k.e.data.toNat true = some phys ∧ (s.evr.range k.e.lba.toNat
        k.e.count.toNat).head? = some e ∧ (s.evr.range k.e.lba.toNat k.e.count.toNat).getLast? = some f ∧
        s.dev.recorderKey = some key) ∧
    (∃ (s : State) (c : Nat) (k : Ctx) (key buf : List Byte), startable s.dev c k { lba := true, data := true } = true ∧
        (k.e.op == 0x2A) = true ∧ s.dev.mgmt.lockout = false ∧ s.evr.oldest.toNat ≤ k.e.lba.toNat ∧ k.e.lba.toNat <
        s.evr.next.toNat ∧ s.evr.live = true ∧ s.evr.held.length < recorderSize ∧ s.dev.ownerKey = some key ∧ codeOf key
        (s.dev.keyed [0x52, 0x43, 0x4C, 0x52] (leBytes 6 k.e.lba.toNat ++ leBytes 4 s.evr.clears)) = buf.take 16) := by
  refine ⟨?_, ?_, ?_⟩
  · exact ⟨W.recorded { W.sqe 0x28 [] with data := 0x4000, lba := 5, count := 2 }, 9, W.ctx
      { W.sqe 0x28 [] with data := 0x4000, lba := 5, count := 2 }, 0, 0x4000, W.rec 6, by decide +kernel⟩
  · refine ⟨W.recorded { W.sqe 0x29 [] with data := 0x4000, lba := 5, count := 2 }, 9, W.ctx
      { W.sqe 0x29 [] with data := 0x4000, lba := 5, count := 2 }, 0, 0x4000, W.rec 5, W.rec 6, hmacBytes [] [0x52,
      0x45, 0x43, 0x2D, 0x41, 0x54, 0x54, 0x45, 0x53, 0x54], ?_⟩
    and_intros
    all_goals first | decide +kernel | rfl
  · refine ⟨W.recorded { W.sqe 0x2A [] with lba := 5 }, 9, W.ctx { W.sqe 0x2A [] with lba := 5 }, [], codeOf []
      (W.dev.keyed [0x52, 0x43, 0x4C, 0x52] (leBytes 6 5 ++ leBytes 4 0)), ?_⟩
    and_intros
    all_goals first | decide +kernel | rfl

/-- The hypotheses of ReadVerifyWriteCommitSeal can be met, clause by clause. -/
theorem witness_ReadVerifyWriteCommitSeal :
    (∃ (s : State) (c : Nat) (k : Ctx) (a phys : Nat) (x : DiscSet), startable s.dev c k
        { volume := true, lba := true, count := true, xflags := 1, data := true, seals := true } = true ∧ (k.e.op ==
        0x80) = true ∧ s.dev.bme = true ∧ s.dev.mmu.xfers = [] ∧ (s.dev.sq k.sq).map (·.asid) = some a ∧ k.e.data.toNat
        % 4096 = 0 ∧ s.dev.tlbHit a k.e.data.toNat true = some phys ∧ newCtx k = true ∧ s.dev.flag
        Reg.SAL_STATUS_INDEX_READY = true ∧ s.dev.salState = 2 ∧ k.e.count = 1 ∧ s.dev.earlierWrites k.order k.e = [] ∧
        s.dev.volSet k.e.volume.toNat = some x ∧ s.dev.ioVerdict k.e true false = none ∧ k.e.seals = false ∧
        s.dev.inFlight k.e.volume.toNat k.e.lba.toNat = none ∧ s.dev.idxOf k.e.volume.toNat k.e.lba.toNat = none ∧
        s.dev.heldBlock k.e.volume.toNat k.e.lba.toNat = none ∧ s.dev.isLost x k.e.volume.toNat k.e.lba.toNat = false ∧
        s.dev.burnedGen x k.e.volume.toNat k.e.lba.toNat = none ∧ s.dev.clocked 11 = true) ∧
    (∃ (s : State) (c : Nat) (k : Ctx) (a phys : Nat) (x : DiscSet) (b : StagedLb), startable s.dev c k
        { volume := true, lba := true, count := true, xflags := 1, data := true, seals := true } = true ∧ (k.e.op ==
        0x80) = true ∧ s.dev.bme = true ∧ s.dev.mmu.xfers = [] ∧ (s.dev.sq k.sq).map (·.asid) = some a ∧ k.e.data.toNat
        % 4096 = 0 ∧ s.dev.tlbHit a k.e.data.toNat true = some phys ∧ newCtx k = true ∧ s.dev.flag
        Reg.SAL_STATUS_INDEX_READY = true ∧ s.dev.salState = 2 ∧ k.e.count = 1 ∧ s.dev.earlierWrites k.order k.e = [] ∧
        s.dev.volSet k.e.volume.toNat = some x ∧ s.dev.ioVerdict k.e true false = none ∧ k.e.seals = false ∧
        s.dev.inFlight k.e.volume.toNat k.e.lba.toNat = some b ∧ b.data.length = 4096 ∧ (isPad b.data b.tag || guardOk
        b.data b.tag) = true ∧ s.dev.clocked 11 = true) ∧
    (∃ (s : State) (c : Nat) (k : Ctx) (x : DiscSet), startable s.dev c k
        { volume := true, lba := true, count := true, xflags := 1 } = true ∧ (k.e.op == 0x83) = true ∧ newCtx k = true ∧
        s.dev.flag Reg.SAL_STATUS_INDEX_READY = true ∧ s.dev.salState = 2 ∧ k.e.count = 1 ∧ s.dev.earlierWrites k.order
        k.e = [] ∧ s.dev.volSet k.e.volume.toNat = some x ∧ s.dev.ioVerdict k.e false false = none ∧ k.e.xflags.getLsbD
        0 = false ∧ s.dev.inFlight k.e.volume.toNat k.e.lba.toNat = none ∧ s.dev.idxOf k.e.volume.toNat k.e.lba.toNat =
        none ∧ s.dev.heldBlock k.e.volume.toNat k.e.lba.toNat = none ∧ s.dev.isLost x k.e.volume.toNat k.e.lba.toNat =
        false ∧ s.dev.burnedGen x k.e.volume.toNat k.e.lba.toNat = none ∧ s.dev.clocked 11 = true) ∧
    (∃ (s : State) (c : Nat) (k : Ctx) (a phys : Nat) (x : DiscSet), startable s.dev c k
        { volume := true, lba := true, count := true, data := true, seals := true } = true ∧ (k.e.op == 0x81) = true ∧
        s.dev.flag Reg.SAL_STATUS_INDEX_READY = true ∧ s.dev.salState = 2 ∧ s.dev.admits k.e = true ∧ k.e.seals = false
        ∧ s.dev.bme = true ∧ s.dev.tagsOf 2 ≤ 703 ∧ s.dev.asidOf k.sq = a ∧ s.dev.tlbHit a k.e.data.toNat false = some
        phys ∧ k.e.count ≠ 0 ∧ newCtx k = true ∧ s.dev.ioVerdict k.e true false = none ∧ s.dev.volSet k.e.volume.toNat =
        some x ∧ s.dev.cannotOverwrite x k.e = false ∧ s.dev.clocked 10 = true) ∧
    (∃ (s : State) (c : Nat) (k : Ctx) (a phys : Nat), s.dev.ctx c = some k ∧ k.wait = .admission ∧ (k.e.op == 0x81) =
        true ∧ s.dev.flag Reg.SAL_STATUS_INDEX_READY = true ∧ s.dev.salState = 2 ∧ s.dev.admits k.e = true ∧ k.e.seals =
        false ∧ s.dev.bme = true ∧ s.dev.tagsOf 2 ≤ 703 ∧ s.dev.asidOf k.sq = a ∧ s.dev.tlbHit a k.e.data.toNat false =
        some phys ∧ k.e.count ≠ 0 ∧ s.dev.clocked 10 = true) ∧
    (∃ (s : State) (c : Nat) (k : Ctx) (x : DiscSet), startable s.dev c k
        { volume := true, lba := true, count := true, data := true, seals := true } = true ∧ (k.e.op == 0x81) = true ∧
        s.dev.volSet k.e.volume.toNat = some x ∧ x.home = true ∧ x.destroyed = false ∧ x.offline = false ∧ s.dev.sealing
        k.e.volume.toNat = true ∧ s.dev.salState = 2 ∧ s.dev.clocked 10 = true) ∧
    (∃ (s : State) (c : Nat) (k : Ctx), startable s.dev c k { volume := true, lba := true, count := true, xflags := 1 }
        = true ∧ (k.e.op == 0x82) = true ∧ newCtx k = true ∧ s.dev.ioVerdict k.e false true = none ∧
        ((s.dev.set.stripes.all fun e => e.2.all fun y => e.1 / 2 ^ 32 != k.e.volume.toNat || y.released) &&
        (s.dev.que.ctxs.all fun e => e.2.all fun w => !(w.ingesting && w.e.volume == k.e.volume))) = true ∧
        s.dev.clocked 11 = true) ∧
    (∃ (s : State) (c : Nat) (k : Ctx) (x : DiscSet) (n : Nat) (y : Stripe), startable s.dev c k
        { volume := true, lba := true, count := true, xflags := 1 } = true ∧ (k.e.op == 0x82) = true ∧ newCtx k = true ∧
        s.dev.ioVerdict k.e false true = none ∧ s.dev.volSet k.e.volume.toNat = some x ∧ k.e.xflags.getLsbD 0 = false ∧
        s.dev.stripe k.e.volume.toNat n = some y ∧ y.released = false ∧ n * (16 * x.k) < k.e.lba.toNat + k.e.count.toNat
        ∧ k.e.lba.toNat < (n + 1) * (16 * x.k) ∧ k.e.count ≠ 0 ∧ s.dev.clocked 11 = true) ∧
    (∃ (s : State) (c : Nat) (k : Ctx) (x : DiscSet), startable s.dev c k { volume := true } = true ∧ (k.e.op == 0x85) =
        true ∧ newCtx k = true ∧ s.dev.ioVerdict k.e false true = none ∧ s.dev.volSet k.e.volume.toNat = some x ∧
        ((s.dev.set.stripes.all fun e => e.2.all fun y => e.1 / 2 ^ 32 != k.e.volume.toNat || y.released) &&
        (s.dev.que.ctxs.all fun e => e.2.all fun w => !(w.ingesting && w.e.volume == k.e.volume))) = true ∧
        s.dev.clocked 11 = true) ∧
    (∃ (s : State) (c : Nat) (k : Ctx) (a phys : Nat) (x : DiscSet) (l : List (Nat × Nat × Nat × Nat)), startable s.dev
        c k { volume := true, lba := true, count := true, data := true, b := [40, 41, 42, 43] } = true ∧ (k.e.op ==
        0x84) = true ∧ s.dev.bme = true ∧ s.dev.mmu.xfers = [] ∧ (s.dev.sq k.sq).map (·.asid) = some a ∧ k.e.data.toNat
        % 4096 = 0 ∧ s.dev.tlbHit a k.e.data.toNat true = some phys ∧ newCtx k = true ∧ s.dev.ioVerdict k.e false false
        = none ∧ s.dev.volSet k.e.volume.toNat = some x ∧ s.dev.earlierWrites k.order k.e = [] ∧ s.dev.lbRuns x
        k.e.volume.toNat k.e.lba.toNat k.e.count.toNat = l ∧ l ≠ [] ∧ l.length ≤ k.e.le 40 4 ∧ l.length ≤ 256 ∧
        s.dev.clocked 11 = true) := by
  and_intros
  · exact ⟨W.io ({ W.sqe 0x80 [] with volume := 5, count := 1, data := 0x4000 }) ([]) (id), 9, W.ctx
      { W.sqe 0x80 [] with volume := 5, count := 1, data := 0x4000 }, 0, 0x4000, W.setH, by decide +kernel⟩
  · refine ⟨W.io ({ W.sqe 0x80 [] with volume := 5, count := 1, data := 0x4000 }) ([]) (W.inFlight), 9, W.ctx
      { W.sqe 0x80 [] with volume := 5, count := 1, data := 0x4000 }, 0, 0x4000, W.setH, W.padLb, ?_⟩
    and_intros
    rotate_left 15
    · rfl
    · exact List.length_replicate
    · exact (Bool.or_eq_true _ _).mpr (Or.inl ((Bool.and_eq_true _ _).mpr ⟨beq_self_eq_true _, beq_self_eq_true _⟩))
    all_goals decide +kernel
  · exact ⟨W.io ({ W.sqe 0x83 [] with volume := 5, count := 1 }) ([]) (id), 9, W.ctx
      { W.sqe 0x83 [] with volume := 5, count := 1 }, W.setH, by decide +kernel⟩
  · exact ⟨W.io ({ W.sqe 0x81 [] with volume := 5, count := 1, data := 0x4000 }) ([(Reg.SAL_GEOM_SEGS, 0, 100),
      (Reg.SAL_ADMIT_LBS, 0, 1000)]) (id), 9, W.ctx { W.sqe 0x81 [] with volume := 5, count := 1, data := 0x4000 }, 0,
      0x4000, W.setH, by decide +kernel⟩
  · exact ⟨(W.io { W.sqe 0x81 [] with volume := 5, count := 1, data := 0x4000 } [(Reg.SAL_GEOM_SEGS, 0, 100),
      (Reg.SAL_ADMIT_LBS, 0, 1000)] (W.waits .admission)), 9,
      { W.ctx { W.sqe 0x81 [] with volume := 5, count := 1, data := 0x4000 } with wait := .admission }, 0, 0x4000, by
      decide +kernel⟩
  · exact ⟨W.io ({ W.sqe 0x81 [] with volume := 5, count := 1, data := 0x4000 }) ([]) (W.sealWaits), 9, W.ctx
      { W.sqe 0x81 [] with volume := 5, count := 1, data := 0x4000 }, W.setH, by decide +kernel⟩
  · exact ⟨W.io ({ W.sqe 0x82 [] with volume := 5, count := 1 }) ([]) (W.released), 9, W.ctx
      { W.sqe 0x82 [] with volume := 5, count := 1 }, by decide +kernel⟩
  · exact ⟨W.io ({ W.sqe 0x82 [] with volume := 5, count := 1 }) ([]) (W.unreleased), 9, W.ctx
      { W.sqe 0x82 [] with volume := 5, count := 1 }, W.setH, 0, Stripe.fresh 9, by decide +kernel⟩
  · exact ⟨W.io { W.sqe 0x85 [] with volume := 5 } [] W.released, 9, W.ctx { W.sqe 0x85 [] with volume := 5 }, W.setH,
      by decide +kernel⟩
  · exact ⟨W.io { W.sqe 0x84 [(40, 4)] with volume := 5, count := 3, data := 0x4000 } [] id, 9, W.ctx
      { W.sqe 0x84 [(40, 4)] with volume := 5, count := 3, data := 0x4000 }, 0, 0x4000, W.setH, [(0, 3, 0, 0)], by
      decide +kernel⟩

/-- The hypotheses of SalternPrograms can be met, clause by clause. -/
theorem witness_SalternPrograms :
    (∃ (s : State) (u : Fin 3) (p : Prog), s.dev.flashOk = true ∧ s.dev.sal.progs.find? (fun q => q.stream == u.val &&
        q.issued) = some p) ∧
    (∃ (s : State) (u : Fin 3) (p : Prog), s.dev.flashOk = true ∧ s.dev.sal.progs.find? (fun q => q.stream == u.val &&
        q.issued) = some p) ∧
    (∃ (s : State) (b : Nat), (s.dev.sb b).state = 4 ∧ s.dev.sal.gcVictim ≠ some b ∧ (s.dev.sal.progs.all fun q =>
        q.lun.isSome) = true) ∧
    (∃ (s : State) (id n vol lba : Nat) (r : PRead), s.dev.sal.reads.find? (fun r => r.id == id && r.issued) = some r ∧
        r.why = .peer vol lba ∧ n ≤ s.dev.rd Reg.SAL_CFG_RD_THR ∧ s.dev.linkUp = true ∧ quiet s.dev = true) ∧
    (∃ (s : State) (id : Nat) (r : PRead), s.dev.sal.reads.find? (fun r => r.id == id && r.issued) = some r ∧ r.why =
        .gc ∧ quiet s.dev = true) := by
  and_intros
  · exact ⟨W.prog, 1, W.progOf, by decide +kernel⟩
  · exact ⟨W.prog, 1, W.progOf, by decide +kernel⟩
  · exact ⟨W.mk [] fun d => { d with sal := { d.sal with sbs := [(20, { SbEnt.free with state := 4 })] } }, 20, by
      decide +kernel⟩
  · exact ⟨W.reading, 4, 0, 5, 7, W.peerRead, by decide +kernel⟩
  · exact ⟨W.mk [] fun d => { d with sal := { d.sal with reads := [{ W.peerRead with why := .gc }] } }, 4,
      { W.peerRead with why := .gc }, by decide +kernel⟩

/-- The hypotheses of SalternUpkeep can be met, clause by clause. -/
theorem witness_SalternUpkeep :
    (∃ (s : State), s.dev.mmu.hlm.isSome = true ∧ s.dev.salState = 2 ∧ s.dev.flag Reg.SAL_STATUS_INDEX_READY = false ∧
        (s.dev.waiting fun w => w == .admission) = [] ∧ (s.dev.waiting fun w => w == .ingest) = [] ∧
        (s.dev.mmu.xfers.all fun y => y.st != .done) = true ∧ s.dev.clocked 10 = true) ∧
    (∃ (s : State), s.dev.flashOk = true ∧ s.dev.sal.pend ≠ [] ∧ s.dev.clocked 10 = true) ∧
    (∃ (s : State), s.dev.flashOk = true ∧ s.dev.salState = 2 ∧ s.dev.clocked 10 = true) ∧
    (∃ (s : State) (b : Nat), s.dev.sal.gcVictim = none ∧ s.dev.flashOk = true ∧ s.dev.salState = 2 ∧ s.dev.freeSbs <
        s.dev.rd Reg.SAL_CFG_GC_LOW ∧ s.dev.gcPick = some b ∧ s.dev.clocked 10 = true) ∧
    (∃ (s : State) (lsn : Nat), (s.dev.seg lsn).isSome = true ∧ 3 * s.dev.rd Reg.SAL_TIME_RESID_H * hourNs ≤ 4 *
        s.dev.ageOf lsn ∧ s.dev.clocked 10 = true) ∧
    (∃ (s : State) (lsn : Nat), (s.dev.seg lsn).isSome = true ∧ s.dev.rd Reg.SAL_TIME_RESID_H * hourNs ≤ s.dev.ageOf lsn
        ∧ ¬ lsn ∈ s.dev.sal.aged ∧ s.dev.clocked 10 = true) ∧
    (∃ (s : State) (p : Pk) (x : Disc), s.dev.disc (spindleOf p.val) = some x ∧ x.sideClosed (sideOf p.val) = false ∧
        s.dev.commitDue (spindleOf p.val) (sideOf p.val) = true ∧ s.dev.clk.powerFail = false ∧ s.dev.flag
        Reg.LCS_STATUS_TAMPER_HOLD = false ∧ (s.dev.waiting fun w => w == .unload (spindleOf p.val)) = []) := by
  and_intros
  · exact ⟨W.mk [(Reg.SAL_STATUS_STATE, 0, 2)] fun d => { d with mmu := { d.mmu with hlm := some (1, 0, 4294967296) } },
      by decide +kernel⟩
  · exact ⟨W.salReady fun d => { d with sal := { d.sal with pend := [5#128] } }, by decide +kernel⟩
  · exact ⟨W.salReady id, by decide +kernel⟩
  · exact ⟨W.salReady fun d =>
      { d with flash := { d.flash with blocks := 14 }, sal := { d.sal with sbs := [(12, { SbEnt.free with state := 2 })] } },
      12, by decide +kernel⟩
  · exact ⟨W.old, 3, by decide +kernel⟩
  · exact ⟨W.old, 3, by decide +kernel⟩
  · exact ⟨W.mk [] fun d =>
      { d with set := { d.set with discs := [(1, some { W.discOf 71 with member := some (5, 0) })], sets := [(5, some { W.setR with failed := [], spared := [], owed := [0, 1] })] } },
      3, { W.discOf 71 with member := some (5, 0) }, by decide +kernel⟩

/-- The hypotheses of PeerLinkAndHeartbeats can be met, clause by clause. -/
theorem witness_PeerLinkAndHeartbeats :
    (∃ (s : State), s.dev.peer.training = true ∧ s.dev.clocked 12 = true) ∧
    (∃ (s : State) (lane : Fin 4), s.dev.linkUp = true ∧ s.dev.peerAlive = false ∧ s.dev.clocked 12 = true) ∧
    (∃ (s : State), s.dev.flag Reg.PEER_STATUS_CONFIGURED = true ∧ s.dev.linkUp = true ∧ s.dev.clocked 12 = true) ∧
    (∃ (s : State) (m : Heartbeat), s.dev.linkUp = true ∧ ¬ m.seq ∈ s.dev.peer.seen ∧ s.dev.flag
        Reg.PEER_STATUS_CONFIGURED = true ∧ s.dev.peer.waitClaim = false ∧ s.dev.peerAlive = true ∧ s.dev.clocked 12 =
        true) ∧
    (∃ (s : State), s.dev.peerAlive = true ∧ s.dev.sal.unacked = [] ∧ s.dev.sal.fetching = [] ∧ s.dev.flag
        Reg.PEER_CFG_AUTO_TAKEOVER = false ∧ s.dev.clocked 12 = true) ∧
    (∃ (s : State) (q : BitVec 16), s.dev.linkUp = true ∧ q ∈ s.dev.peer.toAck ∧ s.dev.clocked 12 = true) ∧
    (∃ (s : State) (q : BitVec 16) (m : NerMsg), s.dev.linkUp = true ∧ s.dev.peer.unacked.find? (fun u => u.1 == q) =
        some (q, m) ∧ s.dev.clocked 12 = true) := by
  and_intros
  · exact ⟨W.mk [] fun d => { d with peer := { d.peer with training := true } }, by decide +kernel⟩
  · exact ⟨W.fv [(Reg.PEER_STATUS_LINK, 0, 1)], 2, by decide +kernel⟩
  · exact ⟨W.fv [(Reg.PEER_STATUS_LINK, 0, 1), (Reg.PEER_STATUS_CONFIGURED, 0, 1)], by decide +kernel⟩
  · exact ⟨W.fv [(Reg.PEER_STATUS_LINK, 0, 1), (Reg.PEER_STATUS_CONFIGURED, 0, 1), (Reg.PEER_STATUS_ALIVE, 0, 1)],
      W.beat, by decide +kernel⟩
  · exact ⟨W.fv ([(Reg.PEER_STATUS_LINK, 0, 1), (Reg.PEER_STATUS_CONFIGURED, 0, 1), (Reg.PEER_STATUS_ALIVE, 0, 1)] ++
      [(Reg.PEER_CFG_AUTO_TAKEOVER, 0, 0)]), by decide +kernel⟩
  · exact ⟨W.mk [(Reg.PEER_STATUS_LINK, 0, 1)] fun d => { d with peer := { d.peer with toAck := [4] } }, 4, by
      decide +kernel⟩
  · exact ⟨W.mk [(Reg.PEER_STATUS_LINK, 0, 1)] fun d =>
      { d with peer := { d.peer with unacked := [(4, .mirrorAck 3)] } }, 4, .mirrorAck 3, by decide +kernel⟩

/-- The hypotheses of MirroringAndCrossPair can be met, clause by clause. -/
theorem witness_MirroringAndCrossPair :
    (∃ (s : State) (q : BitVec 16) (pg : FlashPage) (l n : Nat) (e : SegEnt), s.dev.linkUp = true ∧ ¬ q ∈
        s.dev.peer.seen ∧ s.dev.salState = 2 ∧ (s.dev.stream 1).lsn = some l ∧ s.dev.sal.streams.length = 3 ∧ s.dev.seg
        l = some e ∧ (s.dev.stream 1).page = n ∧ n < 2043 ∧ s.dev.clocked 12 = true) ∧
    (∃ (s : State) (q : BitVec 16) (n : Nat), s.dev.linkUp = true ∧ ¬ q ∈ s.dev.peer.seen ∧ s.dev.clocked 12 = true) ∧
    (∃ (s : State) (q : BitVec 16) (recs : List (BitVec 128)) (l n : Nat) (e : SegEnt), s.dev.linkUp = true ∧ ¬ q ∈
        s.dev.peer.seen ∧ recs ≠ [] ∧ s.dev.salState = 2 ∧ (s.dev.stream 1).lsn = some l ∧ s.dev.sal.streams.length = 3
        ∧ s.dev.seg l = some e ∧ (s.dev.stream 1).page = n ∧ n < 2043 ∧ s.dev.clocked 12 = true) ∧
    (∃ (s : State) (q : BitVec 16) (r : ReleaseRange), s.dev.linkUp = true ∧ ¬ q ∈ s.dev.peer.seen ∧ s.dev.clocked 12 =
        true) ∧
    (∃ (s : State) (q : BitVec 16) (disc : Nat) (addr : Word) (words : List (List Byte)), s.dev.linkUp = true ∧ ¬ q ∈
        s.dev.peer.seen ∧ s.dev.clocked 12 = true) ∧
    (∃ (s : State) (q : BitVec 16) (r : BitVec 128) (x : DiscSet) (y : Stripe), s.dev.linkUp = true ∧ ¬ q ∈
        s.dev.peer.seen ∧ recAt r 8 4 = 1 ∧ s.dev.volSet (recAt r 12 16) = some x ∧ x.reshaping = false ∧ s.dev.stripe
        (recAt r 12 16) (recAt r 28 32) = some y ∧ y.burned.testBit (recAt r 92 4) = false ∧ s.dev.clocked 12 = true) ∧
    (∃ (s : State) (q : BitVec 16) (vol lba : Nat), s.dev.linkUp = true ∧ ¬ q ∈ s.dev.peer.seen ∧ s.dev.idxOf vol lba
        true = none ∧ s.dev.clocked 12 = true) ∧
    (∃ (s : State) (q : BitVec 16) (vol lba : Nat) (e : IdxEnt), s.dev.linkUp = true ∧ ¬ q ∈ s.dev.peer.seen ∧
        s.dev.idxOf vol lba true = some e ∧ s.dev.clocked 12 = true) ∧
    (∃ (s : State) (q : BitVec 16) (vol lba l n : Nat) (b : StagedLb) (e : SegEnt), s.dev.linkUp = true ∧ ¬ q ∈
        s.dev.peer.seen ∧ (vol, lba) ∈ s.dev.sal.fetching ∧ (s.dev.stream 0).lsn = some l ∧ s.dev.sal.streams.length = 3
        ∧ s.dev.seg l = some e ∧ (s.dev.stream 0).page = n ∧ n < 2043 ∧ (s.dev.waiting fun w => w == .staging) = [] ∧
        (s.dev.waiting fun w => w == .ingest) = [] ∧ (s.dev.mmu.xfers.all fun y => y.st != .done) = true ∧ s.dev.clocked
        12 = true) ∧
    (∃ (s : State) (q : BitVec 16) (vol lba : Nat), s.dev.linkUp = true ∧ ¬ q ∈ s.dev.peer.seen ∧ (vol, lba) ∈
        s.dev.sal.fetching ∧ s.dev.idxOf vol lba = none ∧ (s.dev.waiting fun w => w == .staging) = [] ∧ quiet s.dev =
        true ∧ s.dev.clocked 12 = true) := by
  and_intros
  · exact ⟨W.mirrored, 4, W.pageOf [], 3, 2, W.mirrorSeg, by decide +kernel⟩
  · exact ⟨W.mirrored, 4, 7, by decide +kernel⟩
  · exact ⟨W.mirrored, 4, [5], 3, 2, W.mirrorSeg, by decide +kernel⟩
  · exact ⟨W.mirrored, 4, { volume := 5, lba := 0, count := 8, gen := 0 }, by decide +kernel⟩
  · exact ⟨W.mirrored, 4, 77, 5#32, [[1]], by decide +kernel⟩
  · exact ⟨W.reported, 4, recStripe 1 5 [(28, 6), (60, 9), (92, 2)], W.setH, Stripe.fresh 9, by decide +kernel⟩
  · exact ⟨W.mirrored, 4, 5, 0, by decide +kernel⟩
  · exact ⟨W.fetched, 4, 5, 7, W.fetchedE, by decide +kernel⟩
  · exact ⟨W.fetching, 4, 5, 7, 3, 2, W.padLb, W.mirrorSeg, by decide +kernel⟩
  · exact ⟨W.mk [(Reg.PEER_STATUS_LINK, 0, 1)] fun d => { d with sal := { d.sal with fetching := [(5, 7)] } }, 4, 5, 7,
      by decide +kernel⟩

/-- The hypotheses of PeerOwnershipAndHome can be met, clause by clause. -/
theorem witness_PeerOwnershipAndHome :
    (∃ (s : State) (c : Nat) (k : Ctx), startable s.dev c k { b := [40, 41, 42, 44, 45] } = true ∧ (k.e.op == 0x30) =
        true ∧ k.e.le 40 2 ≠ s.dev.node ∧ k.e.le 40 2 < 2 ^ 14 ∧ k.e.at 42 < 4 ∧ 10 ≤ k.e.le 44 2 ∧ k.e.le 44 2 ≤ 10000
        ∧ s.dev.linkUp = true ∧ s.dev.clocked 12 = true) ∧
    (∃ (s : State) (n : Nat), s.dev.peer.waitClaim = true ∧ n < 8 ∧ (s.dev.rd Reg.PEER_CFG_HOME_SP).testBit n = true ∧
        s.dev.hasSp n = true ∧ s.dev.granted n = false ∧ s.dev.peerHasSp n = false ∧ s.dev.clocked 12 = true) ∧
    (∃ (s : State) (c : Nat) (k : Ctx) (n : Nat), startable s.dev c k { b := [40, 41, 42, 43] } = true ∧ isTakeover 0
        k.e = true ∧ k.e.le 40 2 = 0 ∧ n < 8 ∧ (k.e.at 42).testBit n = true ∧ s.dev.isAB = false ∧ s.dev.granted n =
        false ∧ s.dev.peerHasSp n = false ∧ s.dev.clocked 12 = true) ∧
    (∃ (s : State) (c : Nat) (k : Ctx) (n : Nat), startable s.dev c k { b := [40, 41, 42, 43] } = true ∧ isTakeover 0
        k.e = true ∧ k.e.le 40 2 = 0 ∧ n < 8 ∧ k.e.at 42 = 2 ^ n ∧ s.dev.hasSp n = true ∧ s.dev.granted n = true ∧
        s.dev.clocked 12 = true) ∧
    (∃ (s : State) (c : Nat) (k : Ctx) (n : Nat), startable s.dev c k { b := [40, 41, 42, 43] } = true ∧ isTakeover 1
        k.e = true ∧ k.e.le 40 2 = 0 ∧ n < 8 ∧ k.e.at 42 = 2 ^ n ∧ s.dev.hasSp n = true ∧ s.dev.granted n = true ∧
        s.dev.flag Reg.PEER_STATUS_CONFIGURED = true ∧ s.dev.peerAlive = true ∧ s.dev.peerHas 0 (k.e.at 42) = false ∧
        s.dev.clocked 12 = true) ∧
    (∃ (s : State) (c : Nat) (k : Ctx) (n : Nat), startable s.dev c k { b := [40, 41, 42, 43] } = true ∧ isTakeover 1
        k.e = true ∧ k.e.le 40 2 = 0 ∧ n < 8 ∧ (k.e.at 42).testBit n = true ∧ s.dev.isAB = false ∧ s.dev.granted n =
        false ∧ s.dev.flag Reg.PEER_STATUS_CONFIGURED = true ∧ s.dev.peerAlive = true ∧ s.dev.linkUp = true ∧
        s.dev.peerHas 0 (k.e.at 42) = false ∧ s.dev.clocked 12 = true) ∧
    (∃ (s : State) (c : Nat) (k : Ctx), startable s.dev c k { b := [40, 41, 42, 43] } = true ∧ isTakeover 1 k.e = true ∧
        s.dev.isAB = false ∧ s.dev.flag Reg.PEER_STATUS_CONFIGURED = true ∧ s.dev.peerAlive = true ∧ s.dev.linkUp = true
        ∧ s.dev.peerHas (k.e.le 40 2) (k.e.at 42) = true ∧ s.dev.clocked 12 = true) ∧
    (∃ (s : State) (n : Nat), s.dev.peer.lost = true ∧ n < 8 ∧ s.dev.peer.wantSp.testBit n = true ∧ s.dev.granted n =
        false ∧ s.dev.clocked 12 = true) ∧
    (∃ (s : State) (q : BitVec 16) (m : BitVec 8) (n : Nat), s.dev.linkUp = true ∧ ¬ q ∈ s.dev.peer.seen ∧ n < 8 ∧
        m.getLsbD n = true ∧ s.dev.clocked 12 = true) ∧
    (∃ (s : State) (q : BitVec 16) (vol node gen : Nat) (x : DiscSet), s.dev.linkUp = true ∧ ¬ q ∈ s.dev.peer.seen ∧
        s.dev.volSet vol = some x ∧ x.gen ≤ gen ∧ node ≠ s.dev.node ∧ x.home = true ∧ s.dev.holdsMember x = false ∧
        s.dev.clocked 12 = true) ∧
    (∃ (s : State) (vol : Nat) (x : DiscSet), s.dev.volSet vol = some x ∧ x.home = false ∧ s.dev.mayBeHome x = true ∧
        s.dev.linkUp = true ∧ s.dev.clocked 12 = true) := by
  and_intros
  · exact ⟨W.cmd (W.sqe 0x30 [(40, 6), (42, 1), (44, 100)]) ([(Reg.PEER_STATUS_LINK, 0, 1)]) (id), 9, W.ctx (W.sqe 0x30
      [(40, 6), (42, 1), (44, 100)]), by decide +kernel⟩
  · exact ⟨W.mk [(Reg.PEER_CFG_HOME_SP, 0, 2)] fun d => { d with peer := { d.peer with waitClaim := true } }, 1, by
      decide +kernel⟩
  · exact ⟨W.cmd (W.sqe 0x31 [(42, 2)]) ([]) (id), 9, W.ctx (W.sqe 0x31 [(42, 2)]), 1, by decide +kernel⟩
  · exact ⟨W.cmd (W.sqe 0x31 [(42, 2)]) ([(Reg.MOT_SP_STATUS_GRANT, 1, 1)]) (id), 9, W.ctx (W.sqe 0x31 [(42, 2)]), 1, by
      decide +kernel⟩
  · exact ⟨W.cmd (W.sqe 0x31 [(42, 2), (43, 1)]) ([(Reg.PEER_STATUS_LINK, 0, 1), (Reg.PEER_STATUS_CONFIGURED, 0, 1),
      (Reg.PEER_STATUS_ALIVE, 0, 1)] ++ [(Reg.MOT_SP_STATUS_GRANT, 1, 1)]) (id), 9, W.ctx (W.sqe 0x31 [(42, 2), (43,
      1)]), 1, by decide +kernel⟩
  · exact ⟨W.cmd (W.sqe 0x31 [(42, 2), (43, 1)]) ([(Reg.PEER_STATUS_LINK, 0, 1), (Reg.PEER_STATUS_CONFIGURED, 0, 1),
      (Reg.PEER_STATUS_ALIVE, 0, 1)]) (id), 9, W.ctx (W.sqe 0x31 [(42, 2), (43, 1)]), 1, by decide +kernel⟩
  · exact ⟨W.cmd (W.sqe 0x31 [(42, 2), (43, 1)]) ([(Reg.PEER_STATUS_LINK, 0, 1), (Reg.PEER_STATUS_CONFIGURED, 0, 1),
      (Reg.PEER_STATUS_ALIVE, 0, 1)]) (fun d =>
      { d with peer := { d.peer with last := some { W.beat with spindles := 2 } } }), 9, W.ctx (W.sqe 0x31 [(42, 2),
      (43, 1)]), by decide +kernel⟩
  · exact ⟨W.mk [] fun d => { d with peer := { d.peer with lost := true, wantSp := 2 } }, 1, by decide +kernel⟩
  · exact ⟨W.fv ([(Reg.PEER_STATUS_LINK, 0, 1)] ++ [(Reg.MOT_SP_STATUS_REQ, 1, 1), (Reg.MOT_SP_STATUS_STATE, 1, 5)]), 4,
      2, 1, by decide +kernel⟩
  · exact ⟨W.reported, 4, 5, 6, 1, W.setH, by decide +kernel⟩
  · exact ⟨W.mk [(Reg.PEER_STATUS_LINK, 0, 1)] fun d => { d with set := { d.set with sets := [(5, some W.away)] } }, 5,
      W.away, by decide +kernel⟩

/-- The hypotheses of RefusedCommandsChangeNothing can be met, clause by clause. -/
theorem witness_RefusedCommandsChangeNothing :
    (∃ (s : State) (c : Nat) (k : Ctx) (st : Nat), s.dev.ctx c = some k ∧ k.wait = .fresh ∧ k.mute = false ∧
        s.dev.clk.powerFail = false ∧ isCache 0 k.e = true ∧ s.dev.verdict k.e = some st ∧ s.dev.clocked 13 = true) ∧
    (∃ (s : State) (c : Nat) (k : Ctx) (st : Nat), s.dev.ctx c = some k ∧ k.wait = .fresh ∧ k.mute = false ∧
        s.dev.clk.powerFail = false ∧ (k.e.op == 0x0A && k.e.le 48 8 != 0) = true ∧ s.dev.verdict k.e = some st) ∧
    (∃ (s : State) (c : Nat) (k : Ctx) (st : Nat), s.dev.ctx c = some k ∧ k.wait = .fresh ∧ k.mute = false ∧
        s.dev.clk.powerFail = false ∧ (k.e.op == 0x02) = true ∧ s.dev.verdict k.e = some st) ∧
    (∃ (s : State) (c : Nat) (k : Ctx) (st : Nat), s.dev.ctx c = some k ∧ k.wait = .fresh ∧ k.mute = false ∧
        s.dev.clk.powerFail = false ∧ isMotion 0 k.e = true ∧ s.dev.verdict k.e = some st ∧ s.dev.clocked 8 = true) ∧
    (∃ (s : State) (c : Nat) (k : Ctx) (st : Nat), s.dev.ctx c = some k ∧ k.wait = .fresh ∧ k.mute = false ∧
        s.dev.clk.powerFail = false ∧ isServo 1 k.e = true ∧ s.dev.verdict k.e = some st ∧ s.dev.clocked 7 = true) ∧
    (∃ (s : State) (c : Nat) (k : Ctx) (st : Nat), s.dev.ctx c = some k ∧ k.wait = .fresh ∧ k.mute = false ∧
        s.dev.clk.powerFail = false ∧ isCalibrate 3 k.e = true ∧ s.dev.verdict k.e = some st ∧ s.dev.clocked 9 = true) ∧
    (∃ (s : State) (c : Nat) (k : Ctx) (st : Nat), s.dev.ctx c = some k ∧ k.wait = .fresh ∧ k.mute = false ∧
        s.dev.clk.powerFail = false ∧ isMedia 1 k.e = true ∧ s.dev.verdict k.e = some st ∧ s.dev.clocked 11 = true) ∧
    (∃ (s : State) (c : Nat) (k : Ctx) (st : Nat), s.dev.ctx c = some k ∧ k.wait = .fresh ∧ k.mute = false ∧
        s.dev.clk.powerFail = false ∧ (k.e.op == 0x11 && k.e.at 40 == 0) = true ∧ s.dev.verdict k.e = some st ∧
        s.dev.clocked 10 = true) ∧
    (∃ (s : State) (c : Nat) (k : Ctx) (st : Nat), s.dev.ctx c = some k ∧ k.wait = .fresh ∧ k.mute = false ∧
        s.dev.clk.powerFail = false ∧ isPool 2 k.e = true ∧ s.dev.verdict k.e = some st ∧ s.dev.clocked 11 = true) ∧
    (∃ (s : State) (c : Nat) (k : Ctx) (st : Nat), s.dev.ctx c = some k ∧ k.wait = .fresh ∧ k.mute = false ∧
        s.dev.clk.powerFail = false ∧ (k.e.op == 0x82) = true ∧ s.dev.verdict k.e = some st ∧ s.dev.clocked 11 = true) ∧
    (∃ (s : State) (c : Nat) (k : Ctx) (st : Nat), s.dev.ctx c = some k ∧ k.wait = .fresh ∧ k.mute = false ∧
        s.dev.clk.powerFail = false ∧ (k.e.op == 0x25) = true ∧ s.dev.verdict k.e = some st) ∧
    (∃ (s : State) (c : Nat) (k : Ctx) (st : Nat), s.dev.ctx c = some k ∧ k.wait = .fresh ∧ k.mute = false ∧
        s.dev.clk.powerFail = false ∧ isTakeover 1 k.e = true ∧ s.dev.verdict k.e = some st ∧ s.dev.clocked 12 = true) ∧
    (∃ (s : State) (c : Nat), s.dev.clk.powerFail = true) ∧
    (∃ (s : State) (c : Nat), s.dev.clk.powerFail = true) ∧
    (∃ (s : State) (c : Nat), s.dev.clk.powerFail = true) ∧
    (∃ (s : State) (c : Nat), s.dev.clk.powerFail = true) ∧
    (∃ (s : State) (c : Nat), s.dev.clk.powerFail = true) ∧
    (∃ (s : State) (c : Nat), s.dev.clk.powerFail = true) ∧
    (∃ (s : State) (c : Nat), s.dev.clk.powerFail = true) ∧
    (∃ (s : State) (c : Nat), s.dev.clk.powerFail = true) ∧
    (∃ (s : State) (c : Nat), s.dev.clk.powerFail = true) ∧
    (∃ (s : State) (c : Nat), s.dev.clk.powerFail = true) ∧
    (∃ (s : State) (c : Nat), s.dev.clk.powerFail = true) ∧
    (∃ (s : State) (c : Nat), s.dev.clk.powerFail = true) := by
  and_intros
  · exact ⟨W.cmd (W.sqe 0x09 [(40, 4)]) [(Reg.HIF_BOOT_ROM, 0, 1)] id, 9, W.ctx (W.sqe 0x09 [(40, 4)]), St.invalidState,
      by decide +kernel⟩
  · exact ⟨W.cmd (W.sqe 0x0A [(48, 1)]) [(Reg.LCS_STATUS_STATE, 0, 4)] id, 9, W.ctx (W.sqe 0x0A [(48, 1)]),
      St.lifeCycleDenied, by decide +kernel⟩
  · exact ⟨W.cmd (W.sqe 0x02 []) [(Reg.HIF_BOOT_ROM, 0, 1)] id, 9, W.ctx (W.sqe 0x02 []), St.invalidState, by
      decide +kernel⟩
  · exact ⟨W.cmd (W.sqe 0x40 []) [(Reg.LCS_STATUS_STATE, 0, 4)] id, 9, W.ctx (W.sqe 0x40 []), St.lifeCycleDenied, by
      decide +kernel⟩
  · exact ⟨W.cmd (W.sqe 0x41 [(41, 1)]) [(Reg.LCS_STATUS_STATE, 0, 4)] id, 9, W.ctx (W.sqe 0x41 [(41, 1)]),
      St.lifeCycleDenied, by decide +kernel⟩
  · exact ⟨W.cmd (W.sqe 0x20 [(41, 3)]) [(Reg.LCS_STATUS_STATE, 0, 4)] id, 9, W.ctx (W.sqe 0x20 [(41, 3)]),
      St.lifeCycleDenied, by decide +kernel⟩
  · exact ⟨W.cmd (W.sqe 0x10 [(41, 1)]) [(Reg.LCS_STATUS_STATE, 0, 4)] id, 9, W.ctx (W.sqe 0x10 [(41, 1)]),
      St.lifeCycleDenied, by decide +kernel⟩
  · exact ⟨W.cmd (W.sqe 0x11 []) [(Reg.LCS_STATUS_STATE, 0, 4)] id, 9, W.ctx (W.sqe 0x11 []), St.lifeCycleDenied, by
      decide +kernel⟩
  · exact ⟨W.cmd (W.sqe 0x1B [(40, 2)]) [(Reg.LCS_STATUS_STATE, 0, 4)] id, 9, W.ctx (W.sqe 0x1B [(40, 2)]),
      St.lifeCycleDenied, by decide +kernel⟩
  · exact ⟨W.cmd (W.sqe 0x82 []) [(Reg.LCS_STATUS_STATE, 0, 4)] id, 9, W.ctx (W.sqe 0x82 []), St.lifeCycleDenied, by
      decide +kernel⟩
  · exact ⟨W.cmd (W.sqe 0x25 []) [(Reg.LCS_STATUS_STATE, 0, 4)] id, 9, W.ctx (W.sqe 0x25 []), St.lifeCycleDenied, by
      decide +kernel⟩
  · exact ⟨W.cmd (W.sqe 0x31 [(43, 1)]) [(Reg.LCS_STATUS_STATE, 0, 4)] id, 9, W.ctx (W.sqe 0x31 [(43, 1)]),
      St.lifeCycleDenied, by decide +kernel⟩
  · exact ⟨W.on { W.dev with clk := { W.dev.clk with powerFail := true } }, 9, by decide +kernel⟩
  · exact ⟨W.on { W.dev with clk := { W.dev.clk with powerFail := true } }, 9, by decide +kernel⟩
  · exact ⟨W.on { W.dev with clk := { W.dev.clk with powerFail := true } }, 9, by decide +kernel⟩
  · exact ⟨W.on { W.dev with clk := { W.dev.clk with powerFail := true } }, 9, by decide +kernel⟩
  · exact ⟨W.on { W.dev with clk := { W.dev.clk with powerFail := true } }, 9, by decide +kernel⟩
  · exact ⟨W.on { W.dev with clk := { W.dev.clk with powerFail := true } }, 9, by decide +kernel⟩
  · exact ⟨W.on { W.dev with clk := { W.dev.clk with powerFail := true } }, 9, by decide +kernel⟩
  · exact ⟨W.on { W.dev with clk := { W.dev.clk with powerFail := true } }, 9, by decide +kernel⟩
  · exact ⟨W.on { W.dev with clk := { W.dev.clk with powerFail := true } }, 9, by decide +kernel⟩
  · exact ⟨W.on { W.dev with clk := { W.dev.clk with powerFail := true } }, 9, by decide +kernel⟩
  · exact ⟨W.on { W.dev with clk := { W.dev.clk with powerFail := true } }, 9, by decide +kernel⟩
  · exact ⟨W.on { W.dev with clk := { W.dev.clk with powerFail := true } }, 9, by decide +kernel⟩

/-- The hypotheses of UnusedFieldsAreRefused can be met, clause by clause. -/
theorem witness_UnusedFieldsAreRefused :
    (∃ (s : State) (c : Nat) (k : Ctx), s.dev.ctx c = some k ∧ k.wait = .fresh ∧ k.mute = false ∧ s.dev.clk.powerFail =
        false ∧ isCache 1 k.e = true ∧ s.dev.verdict k.e = none ∧ k.e.unusedZero { b := [40, 41] } = false ∧
        s.dev.clocked 13 = true) ∧
    (∃ (s : State) (c : Nat) (k : Ctx), s.dev.ctx c = some k ∧ k.wait = .fresh ∧ k.mute = false ∧ s.dev.clk.powerFail =
        false ∧ (k.e.op == 0x03) = true ∧ s.dev.verdict k.e = none ∧ k.e.unusedZero { b := [40, 42, 43] } = false) ∧
    (∃ (s : State) (c : Nat) (k : Ctx), s.dev.ctx c = some k ∧ k.wait = .fresh ∧ k.mute = false ∧ s.dev.clk.powerFail =
        false ∧ isMotion 4 k.e = true ∧ s.dev.verdict k.e = none ∧ k.e.unusedZero { b := [40, 41] } = false ∧
        s.dev.clocked 8 = true) ∧
    (∃ (s : State) (c : Nat) (k : Ctx), s.dev.ctx c = some k ∧ k.wait = .fresh ∧ k.mute = false ∧ s.dev.clk.powerFail =
        false ∧ isServo 2 k.e = true ∧ s.dev.verdict k.e = none ∧ k.e.unusedZero { b := [40, 41] } = false ∧
        s.dev.clocked 7 = true) ∧
    (∃ (s : State) (c : Nat) (k : Ctx), s.dev.ctx c = some k ∧ k.wait = .fresh ∧ k.mute = false ∧ s.dev.clk.powerFail =
        false ∧ (k.e.op == 0x85) = true ∧ s.dev.verdict k.e = none ∧ k.e.unusedZero { volume := true } = false ∧
        s.dev.clocked 11 = true) ∧
    (∃ (s : State) (c : Nat) (k : Ctx), s.dev.ctx c = some k ∧ k.wait = .fresh ∧ k.mute = false ∧ s.dev.clk.powerFail =
        false ∧ isSetState 0 k.e = true ∧ s.dev.verdict k.e = none ∧ k.e.unusedZero { volume := true, b := [40] } =
        false ∧ s.dev.clocked 11 = true) := by
  and_intros
  · exact ⟨W.cmd { W.sqe 0x09 [(40, 4), (41, 1)] with rsv := 1 } [] id, 9, W.ctx
      { W.sqe 0x09 [(40, 4), (41, 1)] with rsv := 1 }, by decide +kernel⟩
  · exact ⟨W.cmd { W.sqe 0x03 [] with rsv := 1 } [] id, 9, W.ctx { W.sqe 0x03 [] with rsv := 1 }, by decide +kernel⟩
  · exact ⟨W.cmd { W.sqe 0x40 [(40, 4)] with rsv := 1 } [] id, 9, W.ctx { W.sqe 0x40 [(40, 4)] with rsv := 1 }, by
      decide +kernel⟩
  · exact ⟨W.cmd { W.sqe 0x41 [(41, 2)] with rsv := 1 } [] id, 9, W.ctx { W.sqe 0x41 [(41, 2)] with rsv := 1 }, by
      decide +kernel⟩
  · exact ⟨W.cmd { W.sqe 0x85 [] with rsv := 1 } [] id, 9, W.ctx { W.sqe 0x85 [] with rsv := 1 }, by decide +kernel⟩
  · exact ⟨W.cmd { W.sqe 0x1C [] with rsv := 1 } [] id, 9, W.ctx { W.sqe 0x1C [] with rsv := 1 }, by decide +kernel⟩

/-- The hypotheses of LifeCycleDeniesOutsideItsStates can be met, clause by clause. -/
theorem witness_LifeCycleDeniesOutsideItsStates :
    (∃ (l : Nat) (e : Sqe), l < 5 ∧ e.op = 0x41) ∧
    (∃ (d : Dev) (e : Sqe), knownOp e.op = true ∧ permitted d.lifeCycle e = false) ∧
    (∃ (s : State) (c : Nat) (k : Ctx), s.dev.ctx c = some k ∧ k.wait = .fresh ∧ k.mute = false ∧ s.dev.clk.powerFail =
        false ∧ (k.e.op == 0x81) = true ∧ permitted s.dev.lifeCycle k.e = false ∧ quiet s.dev = true ∧ s.dev.clocked 10
        = true) ∧
    (∃ (l : Nat) (e : Sqe), l < 5 ∧ e.op = 0x3C) ∧
    (∃ (l : Nat) (e : Sqe), l < 5 ∧ e.op = 0x24) ∧
    (∃ (l : Nat) (e : Sqe), l < 5 ∧ e.op = 0x12) ∧
    (∃ (l : Nat) (e : Sqe), l < 5 ∧ e.op = 0x85) := by
  and_intros
  · exact ⟨2, W.sqe 0x41 [(41, 3)], by decide +kernel⟩
  · exact ⟨W.dev.wr Reg.LCS_STATUS_STATE 4, W.sqe 0x81 [], by decide +kernel⟩
  · exact ⟨W.cmd (W.sqe 0x81 []) [(Reg.LCS_STATUS_STATE, 0, 4)] id, 9, W.ctx (W.sqe 0x81 []), by decide +kernel⟩
  · exact ⟨4, W.sqe 0x3C [], by decide +kernel⟩
  · exact ⟨4, W.sqe 0x24 [], by decide +kernel⟩
  · exact ⟨4, W.sqe 0x12 [], by decide +kernel⟩
  · exact ⟨4, W.sqe 0x85 [], by decide +kernel⟩

/-- The hypotheses of OneUnitCommandsFrame can be met, clause by clause. -/
theorem witness_OneUnitCommandsFrame :
    (∃ (s : State) (c : Nat), s.dev.coords = []) ∧
    (∃ (s : State) (c : Nat), s.dev.coords = []) := by
  refine ⟨?_, ?_⟩
  · exact ⟨W.up, 9, by decide +kernel⟩
  · exact ⟨W.up, 9, by decide +kernel⟩

/-- The hypotheses of RecorderInvariantKept can be met, clause by clause. -/
theorem witness_RecorderInvariantKept :
    ∃ (s t : State), RecorderOk s.evr ∧ step s = .next t := by
  exact ⟨W.up, W.up.idle, ⟨by decide +kernel, True.intro⟩, rfl⟩

/-- The hypotheses of FullRecorderOverwritesItsOldest can be met, clause by clause. -/
theorem witness_FullRecorderOverwritesItsOldest :
    (∃ (r : Recorder), r.live = true ∧ r.held.length < recorderSize) ∧
    (∃ (r : Recorder), r.live = true ∧ r.held.length = recorderSize) := by
  refine ⟨?_, ?_⟩
  · exact ⟨W.up.evr, by decide +kernel⟩
  · exact ⟨{ Recorder.reset with live := true, held := List.replicate recorderSize (W.rec 0) }, rfl,
      List.length_replicate⟩

end Sys2Proof.Tests
end

/-! SUPPORT. Frames: what an operation leaves alone, as one relation that composes. -/

namespace Sys2Proof.Safety

open Sys2Proof Sys2Proof.Machine

namespace SameUnits

theorem refl (a : Dev) : SameUnits a a := by constructor <;> rfl

theorem trans {a b c : Dev} (h : SameUnits a b) (g : SameUnits b c) : SameUnits a c where
  fuse := g.fuse.trans h.fuse
  mgmt := g.mgmt.trans h.mgmt
  mem := g.mem.trans h.mem
  brine := g.brine.trans h.brine
  windows := g.windows.trans h.windows
  flash := g.flash.trans h.flash
  sal := g.sal.trans h.sal
  set := g.set.trans h.set
  peer := g.peer.trans h.peer
  ports := g.ports.trans h.ports
  spots := g.spots.trans h.spots
  yar := g.yar.trans h.yar
  reads := g.reads.trans h.reads
  burns := g.burns.trans h.burns
  cal := g.cal.trans h.cal
  spins := g.spins.trans h.spins
  axes := g.axes.trans h.axes
  coords := g.coords.trans h.coords
  chops := g.chops.trans h.chops
  servos := g.servos.trans h.servos

end SameUnits

namespace SameRegs

variable {ks ls : List Nat} {a b c : Dev}

theorem of_fv (ks : List Nat) (h : b.fv = a.fv) : SameRegs ks a b := fun _ _ _ _ => by rw [h]

theorem trans (h : SameRegs ks a b) (g : SameRegs ks b c) : SameRegs ks a c :=
  fun k dflt hk hr => (g k dflt hk hr).trans (h k dflt hk hr)

theorem mono (h : SameRegs ks a b) (hs : ∀ k ∈ ks, k ∈ ls) : SameRegs ls a b :=
  fun k dflt hk hr => h k dflt (fun hm => hk (hs k hm)) hr

/-- A change of the field at one key. -/
theorem mset (d : Dev) (dflt k v : Nat) : SameRegs [k] d { d with fv := Machine.mset d.fv dflt k v } :=
  fun _ _ hk _ => mget_mset_ne _ _ _ _ fun e => hk (List.mem_singleton.2 e)

theorem wr (d : Dev) (f : Fld) (v i j : Nat) : SameRegs [f.key i j] d (d.wr f v i j) := mset d _ _ _

theorem rd (h : SameRegs ks a b) (f : Fld) (i j : Nat) (hk : f.key i j ∉ ks) (hr : f.key i j ∉ ringKeys) :
    b.rd f i j = a.rd f i j := h _ _ hk hr

theorem flag (h : SameRegs ks a b) (f : Fld) (i j : Nat) (hk : f.key i j ∉ ks) (hr : f.key i j ∉ ringKeys) :
    b.flag f i j = a.flag f i j := by rw [Dev.flag, Dev.flag, h.rd f i j hk hr]

theorem stored (h : SameRegs ks a b) (g : RegDef) (f : RField) (i j : Nat) (hk : keyOf g f i j ∉ ks)
    (hr : keyOf g f i j ∉ ringKeys) : stored b g f i j = stored a g f i j := h _ _ hk hr

end SameRegs

/-- From `a` to `b` every unit stays, and every register field but those at `ks` and those of the rings. -/
structure Leaves (ks : List Nat) (a b : Dev) : Prop where
  units : SameUnits a b
  regs : SameRegs ks a b

namespace Leaves

variable {ks ls : List Nat} {a b c : Dev}

theorem refl (ks : List Nat) (a : Dev) : Leaves ks a a := ⟨.refl a, .of_fv ks rfl⟩

theorem trans (h : Leaves ks a b) (g : Leaves ks b c) : Leaves ks a c := ⟨h.units.trans g.units, h.regs.trans g.regs⟩

theorem mono (h : Leaves ks a b) (hs : ∀ k ∈ ks, k ∈ ls) : Leaves ls a b := ⟨h.units, h.regs.mono hs⟩

theorem of_calm (ks : List Nat) (h : Calm a b) : Leaves ks a b := ⟨h.sameUnits, h.sameRegs ks⟩

theorem mset (d : Dev) (dflt k v : Nat) : Leaves [k] d { d with fv := Machine.mset d.fv dflt k v } :=
  ⟨by constructor <;> rfl, .mset d dflt k v⟩

theorem wr (d : Dev) (f : Fld) (v i j : Nat) : Leaves [f.key i j] d (d.wr f v i j) := mset d _ _ _

theorem clk (ks : List Nat) (d : Dev) (c : Clk) : Leaves ks d { d with clk := c } :=
  ⟨by constructor <;> rfl, .of_fv ks rfl⟩

/-- A command that reads the recorder leaves what its meaning leaves. -/
theorem settle (s : State) {d : Dev} (h : Leaves ks s.dev d) : Leaves ks s.dev (s.settle d).dev :=
  h.trans (of_calm ks (s.settle_calm d))

/-- The start of a command empties the outputs and no more. -/
theorem fresh (ks : List Nat) (s : State) : Leaves ks s.dev s.fresh :=
  ⟨by constructor <;> rfl, .of_fv ks rfl⟩

end Leaves

end Sys2Proof.Safety

/-! SUPPORT. The register map: what `regAt` finds, and where the fields of a register lie (R616). -/

namespace Sys2Proof.Machine

open Sys2Proof Sys2Proof.Safety

/-- The indices that an offset has in a register are those of the place it lies at. -/
theorem RegDef.at?_offset {g : RegDef} {off i j : Nat} (h : g.at? off = some (i, j)) :
    g.base + g.sa * i + g.sb * j = off := by
  simp only [RegDef.at?, Option.ite_none_left_eq_some, Option.ite_none_right_eq_some, Bool.and_eq_true,
    decide_eq_true_eq, Option.some.injEq, Prod.mk.injEq] at h
  obtain ⟨hbase, ⟨⟨hrem, -⟩, -⟩, rfl, rfl⟩ := h
  have hi := Nat.div_add_mod (off - g.base) g.sa
  have hj := Nat.div_add_mod (if g.sa = 0 then off - g.base else (off - g.base) % g.sa) g.sb
  split_ifs at hrem hj ⊢ <;> omega

/-- What a search of a table finds stands in the table. -/
theorem findReg_some {off i j : Nat} {g : RegDef} {l : List RegDef} (h : findReg off l = some (g, i, j)) :
    g ∈ l ∧ g.at? off = some (i, j) := by
  induction l with
  | nil => cases h
  | cons r t ih =>
    simp only [findReg] at h
    split at h
    · next hat => cases h; exact ⟨List.mem_cons_self, hat⟩
    · obtain ⟨hm, hat⟩ := ih h; exact ⟨List.mem_cons_of_mem _ hm, hat⟩

/-- The fields of a register lie in its 32 bits, each at a place of its own. -/
theorem regTable_fields : ∀ g ∈ regTable, (∀ f ∈ g.fields, f.lo < 32) ∧ (g.fields.map (·.lo)).Nodup := by
  decide +kernel

section
variable {off i j : Nat} {g : RegDef} (h : regAt off = some (g, i, j))
include h

/-- The bit address of a field of the register at an offset. -/
theorem keyOf_regAt (f : RField) : keyOf g f i j = off * 8 + f.lo := by
  rw [keyOf, RegDef.at?_offset (findReg_some h).2]

theorem lo_lt_of_regAt {f : RField} (hf : f ∈ g.fields) : f.lo < 32 := (regTable_fields g (findReg_some h).1).1 f hf

/-- The fields of the register at an offset have bit addresses of their own. -/
theorem nodup_keys_of_regAt : (g.fields.map fun f => keyOf g f i j).Nodup := by
  have hn := (regTable_fields g (findReg_some h).1).2.map (f := (off * 8 + ·)) fun a b e => Nat.add_left_cancel e
  simpa [keyOf_regAt h, Function.comp_def] using hn

/-- A field of another word of the map is no field of this register. -/
theorem key_not_mem_of_regAt (ho : off % 4 = 0) (x : Fld) (hx : x.base % 4 = 0) (hlo : x.lo < 32) (hne : off ≠ x.base) :
    x.key 0 0 ∉ g.fields.map fun f => keyOf g f i j := by
  rw [List.mem_map]
  rintro ⟨f, hf, e⟩
  have := lo_lt_of_regAt h hf
  simp only [keyOf_regAt h, Fld.key, Nat.mul_zero, Nat.add_zero] at e
  omega

end

/-- GLB_SETUP_LOCK, at offset 4, has no field that the set-up lock itself protects. -/
theorem setupLock_not_rwl {g : RegDef} {i j : Nat} (h : regAt 4 = some (g, i, j)) {f : RField} (hf : f ∈ g.fields) :
    f.acc ≠ .rwl := by
  have hall : (regAt 4).all (fun x => x.1.fields.all fun f => f.acc != .rwl) = true := by decide +kernel
  rw [h] at hall
  simpa using List.all_eq_true.1 hall f hf

/-! SUPPORT. What the parts of a host write do (R12, R14, R356, R357, R424). -/

/-- The units of CLK_GATE have numbers below 14, and their blocks lie above the clock unit's. -/
theorem gateOf_some {off u : Nat} (h : gateOf off = some u) : u < 14 ∧ 0x40000 ≤ off := by
  simp only [gateOf, Bool.and_eq_true, decide_eq_true_eq, ite_eq_iff, Option.some.injEq, reduceCtorEq, and_false,
    or_false] at h
  omega

theorem Dev.badAccess_leaves (d : Dev) (off : Nat) : Leaves [Reg.HIF_ERR_BAD_ACCESS.key 0 0] d (d.badAccess off) :=
  (Leaves.wr d Reg.HIF_ERR_BAD_ACCESS _ 0 0).trans (.of_calm _ (Calm.emit _ _))

theorem Dev.discarded_calm (d : Dev) (off val : Nat) : Calm d (d.discarded off val) := Calm.emit d _

theorem Dev.discardedIf_calm (d : Dev) (b : Bool) (off val : Nat) :
    Calm d (if b = true then d.discarded off val else d) := by
  split
  · exact Dev.discarded_calm d off val
  · exact Calm.refl d

/-- Undoing automatic gating changes the clock gate's state alone. -/
theorem Dev.autoWake_leaves (d : Dev) (u : Nat) : Leaves [Reg.CLK_GATE_ST_RUN.key 0 0] d (d.autoWake u) := by
  unfold Dev.autoWake
  split
  · exact (Leaves.wr d Reg.CLK_GATE_ST_RUN _ 0 0).trans (.clk _ _ _)
  · exact .refl _ d

/-- Undoing automatic gating stops no clock. -/
theorem Dev.autoWake_runs (d : Dev) {u : Nat} (hu : u < 14) (h : (d.rd Reg.CLK_GATE_ST_RUN).testBit u = true) :
    ((d.autoWake u).rd Reg.CLK_GATE_ST_RUN).testBit u = true := by
  unfold Dev.autoWake
  split
  · show ((d.setBit Reg.CLK_GATE_ST_RUN u).rd Reg.CLK_GATE_ST_RUN).testBit u = true
    rw [Dev.setBit, Dev.rd_wr_same, Nat.testBit_mod_two_pow, Nat.testBit_or, h]
    simpa using (show u < Reg.CLK_GATE_ST_RUN.w from hu)
  · exact h

theorem Dev.wakeAt_some {off u : Nat} (hu : gateOf off = some u) (d : Dev) : d.wakeAt off = d.autoWake u := by
  simp only [Dev.wakeAt, hu]

theorem Dev.wakeAt_none {off : Nat} (hu : gateOf off = none) (d : Dev) : d.wakeAt off = d := by
  simp only [Dev.wakeAt, hu]

theorem clocked_some {off u : Nat} (hu : gateOf off = some u) (d : Dev) :
    Safety.clocked d off = (d.rd Reg.CLK_GATE_ST_RUN).testBit u := by
  simp only [Safety.clocked, hu]

theorem Dev.wakeAt_leaves (d : Dev) (off : Nat) : Leaves [Reg.CLK_GATE_ST_RUN.key 0 0] d (d.wakeAt off) := by
  cases hu : gateOf off with
  | none => rw [Dev.wakeAt_none hu]; exact .refl _ d
  | some u => rw [Dev.wakeAt_some hu]; exact d.autoWake_leaves u

theorem Dev.wakeAt_clocked (d : Dev) (off : Nat) (h : Safety.clocked d off = true) :
    Safety.clocked (d.wakeAt off) off = true := by
  cases hu : gateOf off with
  | none => rw [Dev.wakeAt_none hu]; exact h
  | some u =>
    rw [clocked_some hu] at h ⊢
    rw [Dev.wakeAt_some hu]
    exact d.autoWake_runs (gateOf_some hu).1 h

/-! ### One field -/

/-- Whether a field shows state held elsewhere is a matter of its bit address alone. -/
theorem Dev.shown_isNone (d e : Dev) (r : Recorder) (key : Nat) : (d.shown r key).isNone = (e.shown r key).isNone := by
  have hseed (x : Dev) : (x.seedPoints key).isNone =
      ((List.range 16).find? fun p => key == Reg.CAL_PK_TEMP_POINTS.key p 0).isNone := by
    simp only [Dev.seedPoints, Option.isNone_map]
  have htbl (x : Dev) : (x.tblData key).isNone =
      (decide (key / 32 * 4 < 0x400084) || (key / 32 * 4 - 0x400084) % 0x4000 != 0
        || decide (16 ≤ (key / 32 * 4 - 0x400084) / 0x4000)) := by
    unfold Dev.tblData
    dsimp only
    split
    · next hc => exact hc.symm
    · next hc => exact (eq_false_of_ne_true hc).symm
  simp only [Dev.shown, apply_ite Option.isNone, Option.isNone_some, Option.orElse_eq_or, Option.isNone_or, hseed, htbl]

theorem Dev.shown_eq_none {d : Dev} {r : Recorder} {key : Nat} (h : d.shown r key = none) (e : Dev) :
    e.shown r key = none := by
  rw [← Option.isNone_iff_eq_none, Dev.shown_isNone e d, h, Option.isNone_none]

section
variable (d : Dev) (r : Recorder) (g : RegDef) (i j val : Nat)

/-- A write of one field changes the register file at its key or nothing. -/
theorem Dev.writeField_leaves (f : RField) : Leaves [keyOf g f i j] d (d.writeField r g i j val f).1 := by
  have put (n : Nat) : Leaves [keyOf g f i j] d
      { d with fv := mset d.fv (f.rst.getD j (f.rst.headD 0)) (keyOf g f i j) n } := .mset d _ _ n
  have keep : Leaves [keyOf g f i j] d d := .refl _ d
  simp only [Dev.writeField]
  split
  · exact keep
  · split
    · exact keep
    · cases f.acc with
      | ro => exact keep
      | rw | w1c | w1s => exact put _
      | rwl => dsimp only; split <;> [exact keep; exact put _]

/-- A write of the fields of a register changes the register file at their keys. -/
theorem Dev.writeFields_leaves (l : List RField) :
    Leaves (l.map fun f => keyOf g f i j) d (d.writeFields r g i j val l).1 := by
  induction l generalizing d with
  | nil => exact .refl _ d
  | cons f t ih =>
    exact ((d.writeField_leaves r g i j val f).mono (by simp)).trans ((ih _).mono (by simp +contextual))

/-- A field that takes the write holds afterwards what its access type says (Table 0-4). -/
theorem Dev.stored_writeField {f : RField} (hs : d.shown r (keyOf g f i j) = none)
    (hr : refused (keyOf g f i j) (val / 2 ^ f.lo % 2 ^ f.w) val = false)
    (hg : keyOf g f i j ≠ Reg.CLK_GATE_EN.key 0 0) :
    Safety.stored (d.writeField r g i j val f).1 g f i j =
      Safety.written (d.flag Reg.GLB_SETUP_LOCK_LOCK) f.acc (Safety.stored d g f i j) (val / 2 ^ f.lo % 2 ^ f.w) := by
  have hc : d.fieldAt r g f i j = Safety.stored d g f i j := by
    unfold keyOf at hs; simp only [Dev.fieldAt, hs]; rfl
  have put (n : Nat) :
      Safety.stored { d with fv := mset d.fv (f.rst.getD j (f.rst.headD 0)) (keyOf g f i j) n } g f i j = n :=
    mget_mset_same _ _ _ _
  unfold keyOf at hr hg put
  simp only [Dev.writeField, hr, hc, beq_eq_false_iff_ne.2 hg, Bool.false_eq_true, if_false]
  cases f.acc with
  | ro => rfl
  | rw | w1c | w1s => exact put _
  | rwl => simp only [Safety.written]; split <;> [rfl; exact put _]

end

/-- The set-up lock matters to RWL fields alone. -/
theorem written_lock_congr {a : Acc} {b c : Bool} (h : a = .rwl → b = c) (cur v : Nat) :
    written b a cur v = written c a cur v := by
  cases a with
  | rwl => rw [h rfl]
  | ro | rw | w1c | w1s => rfl

/-- Among the fields of a register, with keys of their own, each takes the write as if it were alone. -/
theorem Dev.stored_writeFields (d : Dev) (r : Recorder) (g : RegDef) (i j val : Nat) {f : RField} {l : List RField}
    (hf : f ∈ l) (hn : (l.map fun f => keyOf g f i j).Nodup) (hs : d.shown r (keyOf g f i j) = none)
    (hr : refused (keyOf g f i j) (val / 2 ^ f.lo % 2 ^ f.w) val = false)
    (hg : keyOf g f i j ≠ Reg.CLK_GATE_EN.key 0 0) (hring : keyOf g f i j ∉ ringKeys)
    (hlock : f.acc = .rwl → Reg.GLB_SETUP_LOCK_LOCK.key 0 0 ∉ l.map fun f => keyOf g f i j) :
    Safety.stored (d.writeFields r g i j val l).1 g f i j =
      Safety.written (d.flag Reg.GLB_SETUP_LOCK_LOCK) f.acc (Safety.stored d g f i j) (val / 2 ^ f.lo % 2 ^ f.w) := by
  induction l generalizing d with
  | nil => cases hf
  | cons x t ih =>
    rw [List.map_cons, List.nodup_cons] at hn
    obtain ⟨hx, ht⟩ := hn
    simp only [List.map_cons, List.mem_cons, not_or] at hlock
    have hfirst := (d.writeField_leaves r g i j val x).regs
    simp only [Dev.writeFields]
    rcases List.mem_cons.1 hf with rfl | hft
    · rw [((Dev.writeFields_leaves _ r g i j val t).regs).stored g f i j hx hring]
      exact d.stored_writeField r g i j val hs hr hg
    · have hne : keyOf g f i j ∉ [keyOf g x i j] := fun e =>
        hx (List.mem_singleton.1 e ▸ List.mem_map_of_mem (f := fun f => keyOf g f i j) hft)
      rw [ih _ hft ht (Dev.shown_eq_none hs _) fun e => (hlock e).2, hfirst.stored g f i j hne hring]
      exact written_lock_congr (fun e => hfirst.flag _ 0 0 (by simpa using (hlock e).1) (by decide)) _ _

/-! ### The whole write -/

theorem plainOff_not_msix {off : Nat} (h : plainOff off = true) : ¬(0x58000 ≤ off ∧ off < 0x5C000) := by
  simp only [plainOff, Bool.and_eq_true, Bool.not_eq_true', Bool.and_eq_false_iff, decide_eq_false_iff_not] at h
  omega

theorem plainOff_ne_clkGate {off : Nat} (h : plainOff off = true) : off ≠ 0x10008 := by
  rintro rfl; exact absurd h (by decide)

/-- The only action of a write that starts none is that of a loop's coefficients (R261). -/
theorem Dev.action_plain {off : Nat} (h : plainOff off = true) (d old : Dev) (val : Nat) :
    d.action old off val = if loopOff off = true then
      d.loopWritten ((off - 0x400000) / 0x4000) ((off % 0x4000 - 0x100) / 0x40) else d := by
  simp only [plainOff, List.contains_eq_mem, List.mem_cons, List.not_mem_nil, or_false, Bool.and_eq_true,
    Bool.not_eq_true', decide_eq_false_iff_not, not_or, Bool.and_eq_false_iff, beq_eq_false_iff_ne] at h
  obtain ⟨⟨⟨h1, h2, h3, h4, h5, h6, h7, h8, h9⟩, hsor⟩, -⟩ := h
  have hsor' : ¬((decide (0x100000 ≤ off) && decide (off < 0x110000) && decide (off % 0x1000 = 0)) = true) := by
    simp only [Bool.and_eq_true, decide_eq_true_eq]; omega
  simp only [Dev.action, h1, h2, h3, h4, h5, h6, h7, h8, h9, hsor', Bool.false_eq_true, if_false, loopOff]
  rfl

/-- The keys that a host write to a register without an action can change: its own, and that of CLK_GATE_ST.RUN. -/
def writeKeys (off : Nat) : List Nat := Reg.CLK_GATE_ST_RUN.key 0 0 :: (List.range 32).map (off * 8 + ·)

/-- The field part of a write, outside the MSI-X table, changes no unit, and of the other registers CLK_GATE_ST alone. -/
theorem Dev.hostFields_leaves (d : Dev) (r : Recorder) {off : Nat} (val : Nat) (ho : off % 4 = 0)
    (hm : ¬(0x58000 ≤ off ∧ off < 0x5C000)) : Leaves (writeKeys off) d (d.hostFields r off val).1 := by
  have wake : Leaves (writeKeys off) d (d.wakeAt off) := (d.wakeAt_leaves off).mono (by simp [writeKeys])
  have hm' : ¬((decide (0x58000 ≤ off) && decide (off < 0x5C000)) = true) := by simpa using hm
  simp only [Dev.hostFields, ho, bne_self_eq_false, Bool.false_eq_true, if_false, hm']
  split
  · split
    · exact .refl _ d
    · exact .of_calm _ (d.discarded_calm off val)
  · -- neither the safe latch nor a stopped clock lets the write past the restart of the clock
    refine iteInduction (motive := fun p : Dev × Bool => Leaves (writeKeys off) d p.1) (fun _ => wake) fun _ => ?_
    refine iteInduction (motive := fun p : Dev × Bool => Leaves (writeKeys off) d p.1) (fun _ => wake) fun _ => ?_
    split
    · exact wake
    · next g i j hat =>
      refine (wake.trans ?_).trans (.of_calm _ (Dev.discardedIf_calm _ _ off val))
      refine (Dev.writeFields_leaves _ r g i j val g.fields).mono fun k hk => ?_
      obtain ⟨f, hf, rfl⟩ := List.mem_map.1 hk
      have hlo := lo_lt_of_regAt hat hf
      rw [keyOf_regAt hat]
      simp [writeKeys, hlo]

/-- A write that the part takes writes the fields of the register, and its action follows. -/
theorem Dev.hostFields_taken {d : Dev} {off : Nat} (r : Recorder) (val : Nat) {g : RegDef} {i j : Nat}
    (hat : regAt off = some (g, i, j)) (ho : off % 4 = 0) (hfuse : d.fusedOff off = false)
    (hclk : Safety.clocked d off = true) (hsafe : (d.safe && heldAt off) = false)
    (hm : ¬(0x58000 ≤ off ∧ off < 0x5C000)) :
    d.hostFields r off val =
      (let p := (d.wakeAt off).writeFields r g i j val g.fields
       (if p.2 then p.1.discarded off val else p.1, true)) := by
  have hm' : ¬((decide (0x58000 ≤ off) && decide (off < 0x5C000)) = true) := by simpa using hm
  have hsafe' : ((d.wakeAt off).safe && heldAt off) = false := by
    rw [Dev.safe, (d.wakeAt_leaves off).regs.flag _ 0 0 (by decide) (by decide)]; exact hsafe
  have hclk' := d.wakeAt_clocked off hclk
  simp only [Dev.hostFields, ho, bne_self_eq_false, Bool.false_eq_true, if_false, hfuse, hsafe', hm', hat]
  cases hu : gateOf off with
  | none => simp only [Bool.false_eq_true, if_false]
  | some u =>
    rw [clocked_some hu] at hclk'
    simp only [hclk', Bool.not_true, Bool.false_eq_true, if_false]

/-- A write to a register that starts no action leaves every unit, and the fields of the other registers (R12, R14). -/
theorem Dev.hostWrite_leaves (d : Dev) (r : Recorder) {off : Nat} (val : Nat) (ho : off % 4 = 0)
    (hp : plainOff off = true) (hl : loopOff off = false) : Leaves (writeKeys off) d (d.hostWrite r off val) := by
  simp only [Dev.hostWrite, Dev.action_plain hp, hl, Bool.false_eq_true, if_false, ite_self]
  exact d.hostFields_leaves r val ho (plainOff_not_msix hp)

theorem exec_registerWrite (off : Nat) (val : Word) (s : State) :
    exec (.registerWrite off val) s = .next (s.settle (s.fresh.hostWrite s.evr off val.toNat)) := rfl

theorem exec_partialRegisterWrite {be : BitVec 4} (hbe : be ≠ 0xF#4) (off : Nat) (val : Word) (s : State) :
    exec (.partialRegisterWrite off be val) s = .next (s.settle (s.fresh.badAccess off)) := by
  show execPartialRegisterWrite off be val s = _
  rw [execPartialRegisterWrite, State.runR_next, if_neg (show ¬be = 0xF from hbe)]

/-! ### The action of a loop's registers: it leaves every register but the loop's mode (R261) -/

theorem foldl_fv {α : Type} {f : Dev → α → Dev} (h : ∀ d x, (f d x).fv = d.fv) (l : List α) (d : Dev) :
    (l.foldl f d).fv = d.fv := by
  induction l generalizing d with
  | nil => rfl
  | cons x t ih => exact (ih _).trans (h d x)

@[simp] theorem Dev.takeTargets_fv (d : Dev) (p l : Nat) : (d.takeTargets p l).fv = d.fv := by
  unfold Dev.takeTargets
  refine foldl_fv (fun d q => foldl_fv (fun d i => ?_) _ d) _ d
  dsimp only
  split
  · split <;> rfl
  · rfl

theorem Dev.loopWritten_sameRegs (d : Dev) (p l : Nat) : SameRegs [(modeFld l).key p 0] d (d.loopWritten p l) := by
  have hauto : SameRegs [(modeFld l).key p 0] d (d.auto p l) := by
    refine SameRegs.trans (.of_fv _ ?_) (.wr _ (modeFld l) 2 p 0)
    rw [Dev.setSvo_fv]
    split
    · exact d.takeTargets_fv p l
    · rfl
  unfold Dev.loopWritten Dev.rebump
  split
  · split
    · exact hauto
    · exact .of_fv _ rfl
  · exact .of_fv _ rfl

/-- The mode of a loop lies in SVO_MODE, whatever the loop. -/
theorem modeFld_key (l p : Nat) : ∃ k < 32, (modeFld l).key p 0 = (0x400004 + 0x4000 * p) * 8 + k := by
  unfold modeFld
  split <;> exact ⟨_, by decide, rfl⟩

/-- The action of a write that starts none changes no field of its register. -/
theorem Dev.stored_action_plain {off : Nat} (hp : plainOff off = true) (d old : Dev) (val : Nat) {g : RegDef} {i j : Nat}
    (hat : regAt off = some (g, i, j)) {f : RField} (hf : f ∈ g.fields) (hring : keyOf g f i j ∉ ringKeys) :
    Safety.stored (d.action old off val) g f i j = Safety.stored d g f i j := by
  rw [Dev.action_plain hp]
  split
  · next hl =>
    refine (d.loopWritten_sameRegs _ _).stored g f i j (fun hk => ?_) hring
    obtain ⟨k, hk32, e⟩ := modeFld_key ((off % 0x4000 - 0x100) / 0x40) ((off - 0x400000) / 0x4000)
    have hlo := lo_lt_of_regAt hat hf
    simp only [loopOff, Bool.and_eq_true, decide_eq_true_eq] at hl
    rw [List.mem_singleton, keyOf_regAt hat, e] at hk
    omega
  · rfl

/-- Restarting the clock of a unit changes no field of the unit's registers. -/
theorem Dev.stored_wakeAt (d : Dev) {off : Nat} {g : RegDef} {f : RField} {i j : Nat} (hat : regAt off = some (g, i, j))
    (hf : f ∈ g.fields) (hring : keyOf g f i j ∉ ringKeys) :
    Safety.stored (d.wakeAt off) g f i j = Safety.stored d g f i j := by
  cases hu : gateOf off with
  | none => rw [Dev.wakeAt_none hu]
  | some u =>
    rw [Dev.wakeAt_some hu]
    refine (d.autoWake_leaves u).regs.stored g f i j (fun hk => ?_) hring
    have hoff := (gateOf_some hu).2
    have hlo := lo_lt_of_regAt hat hf
    rw [List.mem_singleton, keyOf_regAt hat, show Reg.CLK_GATE_ST_RUN.key 0 0 = 0x1000C * 8 from rfl] at hk
    omega

/-- What a write that the part takes leaves in a field of the register (Table 0-4). -/
theorem Dev.stored_hostWrite {d : Dev} {r : Recorder} {off val : Nat} {g : RegDef} {f : RField} {i j : Nat}
    (hat : regAt off = some (g, i, j)) (hf : f ∈ g.fields) (ho : off % 4 = 0) (hfuse : d.fusedOff off = false)
    (hclk : Safety.clocked d off = true) (hsafe : (d.safe && heldAt off) = false) (hp : plainOff off = true)
    (hs : d.shown r (keyOf g f i j) = none)
    (hr : refused (keyOf g f i j) (val / 2 ^ f.lo % 2 ^ f.w) val = false) (hring : keyOf g f i j ∉ ringKeys) :
    Safety.stored (d.hostWrite r off val) g f i j =
      Safety.written (d.flag Reg.GLB_SETUP_LOCK_LOCK) f.acc (Safety.stored d g f i j) (val / 2 ^ f.lo % 2 ^ f.w) := by
  have hgate : keyOf g f i j ≠ Reg.CLK_GATE_EN.key 0 0 := fun e =>
    key_not_mem_of_regAt hat ho Reg.CLK_GATE_EN (by decide) (by decide) (plainOff_ne_clkGate hp)
      (List.mem_map.2 ⟨f, hf, e⟩)
  have hlock : f.acc = .rwl → Reg.GLB_SETUP_LOCK_LOCK.key 0 0 ∉ g.fields.map fun f => keyOf g f i j := fun hacc =>
    key_not_mem_of_regAt hat ho Reg.GLB_SETUP_LOCK_LOCK (by decide) (by decide) fun e =>
      setupLock_not_rwl (e ▸ hat) hf hacc
  simp only [Dev.hostWrite, Dev.hostFields_taken r val hat ho hfuse hclk hsafe (plainOff_not_msix hp), if_true]
  rw [Dev.stored_action_plain hp _ _ _ hat hf hring,
    ((Dev.discardedIf_calm _ _ off val).sameRegs []).stored g f i j List.not_mem_nil hring,
    Dev.stored_writeFields _ r g i j val hf (nodup_keys_of_regAt hat) (Dev.shown_eq_none hs _) hr hgate hring
      hlock,
    d.stored_wakeAt hat hf hring, (d.wakeAt_leaves off).regs.flag _ 0 0 (by decide) (by decide)]

end Sys2Proof.Machine

namespace Sys2Proof

open Sys2Proof.Machine Sys2Proof.Safety

/-! The register file under host writes (00_scope.md). -/

/-- Settles O3: each field takes the write as if it were alone, and neither the action nor the rings touch it. -/
theorem registerWriteTakesAccessType : Obligations.RegisterWriteTakesAccessType := by
  intro s off val g f i j hat hf ho hfuse hclk hsafe hp hs hr hring
  refine ⟨_, exec_registerWrite off val s, ?_⟩
  refine (((s.settle_calm _).sameRegs []).stored g f i j List.not_mem_nil hring).trans ?_
  exact Dev.stored_hostWrite (d := s.fresh) hat hf ho hfuse hclk hsafe hp hs hr hring

/-- Settles O4: the write's parts change the clock gate and the keys of the register, or HIF_ERR.BAD_ACCESS alone. -/
theorem registerWriteFrame : Obligations.RegisterWriteFrame := by
  refine ⟨fun s off val ho hp hl => ?_, fun s off be val hbe => ?_⟩
  · have h := ((Leaves.fresh _ s).trans (s.fresh.hostWrite_leaves s.evr val.toNat ho hp hl)).settle
    exact ⟨_, exec_registerWrite off val s, h.units, h.regs⟩
  · have h := ((Leaves.fresh _ s).trans (s.fresh.badAccess_leaves off)).settle
    exact ⟨_, exec_partialRegisterWrite hbe off val s, h.units, h.regs⟩

end Sys2Proof

/-! SUPPORT. Frames by name: which units and which registers an operation may change. -/

namespace Sys2Proof.Safety

open Sys2Proof Sys2Proof.Machine

-- The theorems here cite each other closely: elaborated one at a time, they wait for no other thread and need less memory.
set_option Elab.async false

/-- The units that `SameUnits` speaks of. -/
inductive DevPart
  | fuse | mgmt | mem | brine | windows | flash | sal | set | peer | ports | spots | yar | reads | burns | cal | spins
  | axes | coords | chops | servos
deriving DecidableEq

/-- A unit of the second device is that of the first. -/
def DevPart.Same (a b : Dev) : DevPart → Prop
  | .fuse => b.fuse = a.fuse
  | .mgmt => b.mgmt = a.mgmt
  | .mem => b.mem = a.mem
  | .brine => b.brine = a.brine
  | .windows => b.windows = a.windows
  | .flash => b.flash = a.flash
  | .sal => b.sal = a.sal
  | .set => b.set = a.set
  | .peer => b.peer = a.peer
  | .ports => b.ports = a.ports
  | .spots => b.spots = a.spots
  | .yar => b.yar = a.yar
  | .reads => b.reads = a.reads
  | .burns => b.burns = a.burns
  | .cal => b.cal = a.cal
  | .spins => b.spins = a.spins
  | .axes => b.axes = a.axes
  | .coords => b.coords = a.coords
  | .chops => b.chops = a.chops
  | .servos => b.servos = a.servos

namespace DevPart

variable {a b c : Dev}

theorem Same.refl (a : Dev) (u : DevPart) : u.Same a a := by cases u <;> rfl

theorem Same.trans {u : DevPart} (h : u.Same a b) (g : u.Same b c) : u.Same a c := by
  cases u <;> exact Eq.trans g h

theorem same_of_sameUnits (h : SameUnits a b) (u : DevPart) : u.Same a b :=
  match u with
  | .fuse => h.fuse | .mgmt => h.mgmt | .mem => h.mem | .brine => h.brine | .windows => h.windows
  | .flash => h.flash | .sal => h.sal | .set => h.set | .peer => h.peer | .ports => h.ports
  | .spots => h.spots | .yar => h.yar | .reads => h.reads | .burns => h.burns | .cal => h.cal
  | .spins => h.spins | .axes => h.axes | .coords => h.coords | .chops => h.chops | .servos => h.servos

theorem sameUnits_of_same (h : ∀ u : DevPart, u.Same a b) : SameUnits a b :=
  ⟨h .fuse, h .mgmt, h .mem, h .brine, h .windows, h .flash, h .sal, h .set, h .peer, h .ports, h .spots, h .yar,
    h .reads, h .burns, h .cal, h .spins, h .axes, h .coords, h .chops, h .servos⟩

end DevPart

/-- From `a` to `b` the units other than `us` stay, and the register fields other than those at `ks` and of the rings. -/
structure Changes (us : List DevPart) (ks : List Nat) (a b : Dev) : Prop where
  units : ∀ u, u ∉ us → u.Same a b
  regs : SameRegs ks a b

namespace Changes

variable {us : List DevPart} {ks ls : List Nat} {a b c d : Dev}

theorem refl (us : List DevPart) (ks : List Nat) (a : Dev) : Changes us ks a a := ⟨fun u _ => .refl a u, .of_fv ks rfl⟩

theorem trans (h : Changes us ks a b) (g : Changes us ks b c) : Changes us ks a c :=
  ⟨fun u hu => (h.units u hu).trans (g.units u hu), h.regs.trans g.regs⟩

theorem of_leaves (h : Leaves ks a b) : Changes us ks a b := ⟨fun u _ => u.same_of_sameUnits h.units, h.regs⟩

theorem of_calm (h : Calm a b) : Changes us ks a b := of_leaves (.of_calm ks h)

theorem of_eq (h : b = a) : Changes us ks a b := h ▸ refl us ks a

/-- A change outside the register file that touches one unit at most. -/
theorem of_part (u : DevPart) (hu : u ∈ us) (hs : ∀ v, v ≠ u → v.Same a b) (hf : b.fv = a.fv) : Changes us ks a b :=
  ⟨fun v hv => hs v fun e => hv (e ▸ hu), .of_fv ks hf⟩

/-- The units given to `a'` are those that may change, so in `b` nothing else of `a'` does. -/
theorem sameUnits {a' : Dev} (h : Changes us ks a b) (hg : Changes us ls a a') (hs : ∀ u ∈ us, u.Same a' b) :
    SameUnits a' b := DevPart.sameUnits_of_same fun u => by
  by_cases hu : u ∈ us
  · exact hs u hu
  · have hback : u.Same a' a := by cases u <;> exact Eq.symm (hg.units _ hu)
    exact hback.trans (h.units u hu)

theorem wr (d : Dev) (f : Fld) (v i j : Nat) (hk : f.key i j ∈ ks) : Changes us ks d (d.wr f v i j) :=
  of_leaves ((Leaves.wr d f v i j).mono (by simpa using hk))

theorem setErrAt (d : Dev) (f : Fld) (k i j inst addr : Nat) (further : List (Nat × Nat × Nat)) (force : Bool)
    (hk : f.key i j ∈ ks) : Changes us ks d (d.setErrAt f k i j inst addr further force) :=
  (wr d f _ i j hk).trans (of_calm (Calm.emit _ _))

theorem setErr (d : Dev) (f : Fld) (k i inst addr : Nat) (further : List (Nat × Nat × Nat)) (force : Bool)
    (hk : f.key i 0 ∈ ks) : Changes us ks d (d.setErr f k i inst addr further force) :=
  setErrAt d f k i 0 inst addr further force hk

theorem foldl {α : Type} {f : Dev → α → Dev} (l : List α) (h : ∀ d, ∀ x ∈ l, Changes us ks d (f d x)) (d : Dev) :
    Changes us ks d (l.foldl f d) := by
  induction l generalizing d with
  | nil => exact refl us ks d
  | cons x t ih => exact (h d x List.mem_cons_self).trans (ih (fun d y hy => h d y (List.mem_cons_of_mem _ hy)) _)

section
variable (d : Dev)

theorem windows (x : List (Nat × Option (BitVec 64 × Nat))) (h : .windows ∈ us := by simp) :
    Changes us ks d { d with windows := x } :=
  of_part .windows h (fun v hv => by cases v <;> simp_all [DevPart.Same]) rfl

theorem mgmt (x : Mgmt) (h : .mgmt ∈ us := by simp) : Changes us ks d { d with mgmt := x } :=
  of_part .mgmt h (fun v hv => by cases v <;> simp_all [DevPart.Same]) rfl

theorem cal (x : CalEng) (h : .cal ∈ us := by simp) : Changes us ks d { d with cal := x } :=
  of_part .cal h (fun v hv => by cases v <;> simp_all [DevPart.Same]) rfl

theorem flash (x : Flash) (h : .flash ∈ us := by simp) : Changes us ks d { d with flash := x } :=
  of_part .flash h (fun v hv => by cases v <;> simp_all [DevPart.Same]) rfl

theorem sal (x : Sal) (h : .sal ∈ us := by simp) : Changes us ks d { d with sal := x } :=
  of_part .sal h (fun v hv => by cases v <;> simp_all [DevPart.Same]) rfl

theorem set (x : SetEng) (h : .set ∈ us := by simp) : Changes us ks d { d with set := x } :=
  of_part .set h (fun v hv => by cases v <;> simp_all [DevPart.Same]) rfl

theorem peer (x : Peer) (h : .peer ∈ us := by simp) : Changes us ks d { d with peer := x } :=
  of_part .peer h (fun v hv => by cases v <;> simp_all [DevPart.Same]) rfl

theorem axes (x : List (Nat × Axis)) (h : .axes ∈ us := by simp) : Changes us ks d { d with axes := x } :=
  of_part .axes h (fun v hv => by cases v <;> simp_all [DevPart.Same]) rfl

theorem coords (x : List Coord) (h : .coords ∈ us := by simp) : Changes us ks d { d with coords := x } :=
  of_part .coords h (fun v hv => by cases v <;> simp_all [DevPart.Same]) rfl

end

/-- A command row that may change some units and registers in what it serves changes no more. -/
theorem command {mine : Sqe → Bool} {u : Uses} {serve : Dev → Ctx → Dev} (d : Dev) (c : Nat)
    (h : ∀ e k, Calm d e → Changes us ks e (serve e k)) : Changes us ks d (d.command c mine u serve) := by
  rcases d.command_cases c mine u serve with e | ⟨st, e⟩ | ⟨k, -, -, -, -, -, -, e⟩
  · exact of_eq e
  · rw [e]; exact of_calm ((Calm.await _ _ _).trans (Calm.complete _ _ _ _))
  · rw [e]; exact (of_calm (Calm.await _ _ _)).trans (h _ _ (Calm.await _ _ _))

end Changes

/-- An outcome is a next state, in which no more than some units and register fields of `s` have changed. -/
def Ends (us : List DevPart) (ks : List Nat) (s : State) (o : Host.Outcome State Fault Refusal) : Prop :=
  ∃ t, o = .next t ∧ Changes us ks s.dev t.dev

namespace Ends

variable {us : List DevPart} {ks : List Nat} {s : State}

theorem run {f : Dev → Dev} (h : Changes us ks s.fresh (f s.fresh)) : Ends us ks s (s.run f) :=
  ⟨_, s.run_next f, ((Changes.of_leaves (.fresh ks s)).trans h).trans (.of_calm (s.settle_calm _))⟩

/-- Automatic gating of a unit is undone by a request, and with the clock stopped there is no effect (R354, R357). -/
theorem runUnit {n : Nat} {f : Dev → Dev}
    (h : ∀ d, Leaves [Reg.CLK_GATE_ST_RUN.key 0 0] s.dev d → Changes us ks d (f d)) (hk : Reg.CLK_GATE_ST_RUN.key 0 0 ∈ ks := by simp) : Ends us ks s (State.runUnit n s f) := by
  have hstart := Leaves.fresh [Reg.CLK_GATE_ST_RUN.key 0 0] s
  refine .run ?_
  split
  · exact h _ hstart
  · split
    · have hwake := Dev.autoWake_leaves s.fresh n
      exact (Changes.of_leaves (hwake.mono (by simpa using hk))).trans (h _ (hstart.trans hwake))
    · exact .refl us ks _

/-- What a command may change, as the statements say it: `give` puts the units that may change into the state before. -/
theorem after {i : Instr} (h : Ends us ks s (exec i s)) (give : Dev → Dev)
    (hg : ∀ b, Changes us [] s.dev (give b)) (hs : ∀ b, ∀ u ∈ us, u.Same (give b) b) :
    After i s fun t => SameUnits (give t.dev) t.dev ∧ SameRegs ks s.dev t.dev :=
  have ⟨t, ht, hc⟩ := h
  ⟨t, ht, hc.sameUnits (hg _) (hs _), hc.regs⟩

/-- A command that may change no unit. -/
theorem after_same {i : Instr} (h : Ends [] ks s (exec i s)) :
    After i s fun t => SameUnits s.dev t.dev ∧ SameRegs ks s.dev t.dev :=
  h.after (fun _ => s.dev) (fun _ => .refl _ _ _) (by simp)

end Ends

end Sys2Proof.Safety

/-! SUPPORT. The staging flash: what the journal, the streams and the page programs change (R499 to R505). -/

namespace Sys2Proof.Machine

open Sys2Proof Sys2Proof.Safety

set_option Elab.async false

/-- A message to the peer changes its unit alone (R562). -/
theorem Dev.ner_changes {us : List DevPart} {ks : List Nat} (d : Dev) (m : NerMsg) (h : .peer ∈ us := by simp) :
    Changes us ks d (d.ner m) := by
  unfold Dev.ner
  split
  · exact (Changes.peer d _ h).trans (.of_calm (.send _ _))
  · exact .refl us ks d

/-- A message taken changes the peer's unit, and what its meaning changes (R562). -/
theorem Dev.nerTake_changes {us : List DevPart} {ks : List Nat} (d : Dev) (q : BitVec 16) {f : Dev → Dev}
    (hf : ∀ d, Changes us ks d (f d)) (h : .peer ∈ us := by simp) : Changes us ks d (d.nerTake q f) := by
  unfold Dev.nerTake
  split
  · exact .refl us ks d
  · have hack (x : Peer) := Changes.peer (ks := ks) d x h
    dsimp only
    split
    · exact hack _
    · exact ((hack _).trans (.peer _ _ h)).trans (hf _)

/-- The units and the registers that staging changes. -/
abbrev Stages : Dev → Dev → Prop :=
  Changes [.sal, .flash, .peer] [Reg.CLK_GATE_ST_RUN.key 0 0, Reg.SAL_JRNL_SEQ.key 0 0]

namespace Dev

variable (d : Dev)

theorem flashWrite_stages (op : FlashOp) : Stages d (d.flashWrite op) :=
  (Changes.sal d _).trans (.of_calm (.send _ _))

/-- A page of records that stands on the flash, with its sequence in the register. -/
theorem journalPage_stages (f : Flash) (x : Sal) (n : Nat) (op : FlashOp) :
    Stages d ((({ d with flash := f, sal := x } : Dev).wr Reg.SAL_JRNL_SEQ n).flashWrite op) :=
  (((Changes.flash d f).trans (.sal _ x)).trans (.wr _ _ n 0 0 (by simp))).trans (flashWrite_stages _ op)

theorem flushJournal_stages : Stages d d.flushJournal := by
  unfold flushJournal
  split
  · exact .refl _ _ d
  · dsimp only
    split
    · exact (journalPage_stages d _ _ _ _).trans (ner_changes _ _)
    · exact journalPage_stages d _ _ _ _

theorem journal_stages (r : BitVec 128) : Stages d (d.journal r) := by
  have hpend : Stages d _ := .sal d { d.sal with pend := d.sal.pend ++ [r] }
  unfold journal
  dsimp only
  split
  · exact hpend.trans (flushJournal_stages _)
  · exact hpend

theorem sbState_stages (b st : Nat) : Stages d (d.sbState b st) := (Changes.sal d _).trans (journal_stages _ _)

/-- A stream takes the first segment of a superblock that it opens. -/
theorem newSb_stages {f : Dev} (hf : Stages d f) (b n : Nat) (x : Stream) :
    Stages d ((f.sbState b 1).setStream n x) := (hf.trans (sbState_stages _ _ _)).trans (.sal _ _)

theorem takeSeg_stages {n b g : Nat} {e : Dev} (h : d.takeSeg n = some (b, g, e)) : Stages d e := by
  unfold takeSeg at h
  dsimp only at h
  split at h
  · split at h
    · cases h; exact .sal d _
    · split at h
      · cases h; exact newSb_stages d (sbState_stages d _ _) _ n _
      · cases h
  · split at h
    · cases h; exact newSb_stages d (.refl _ _ d) _ n _
    · cases h

theorem openSeg_stages {n l : Nat} {e : Dev} (h : d.openSeg n = some (l, e)) : Stages d e := by
  unfold openSeg at h
  split at h
  · cases h; exact .refl _ _ _
  · split at h
    · cases h
    · next b g f hf =>
      cases h
      exact (((takeSeg_stages d hf).trans (.sal f _)).trans (.sal _ _)).trans (journal_stages _ _)

theorem issueProg_stages (p : Prog) : Stages d (d.issueProg p) := by
  unfold issueProg
  split
  · exact .refl _ _ d
  · exact (Changes.sal d _).trans (flashWrite_stages _ _)

theorem issueRead_stages (r : PRead) : Stages d (d.issueRead r) := by
  unfold issueRead
  split
  · exact .refl _ _ d
  · exact (Changes.sal d _).trans (.of_calm (.send _ _))

theorem serve_stages : Stages d d.serve := by
  have progs (l : List Prog) (d : Dev) : Stages d (l.foldl issueProg d) := .foldl l (fun d p _ => d.issueProg_stages p) d
  have reads (l : List PRead) (d : Dev) : Stages d (l.foldl issueRead d) := .foldl l (fun d r _ => d.issueRead_stages r) d
  have waiting (own : List Prog) (host burn : List PRead) (copies : List Prog) (gc : List PRead) :
      Stages d (gc.foldl issueRead (copies.foldl issueProg (burn.foldl issueRead (host.foldl issueRead
        (own.foldl issueProg d))))) :=
    ((((progs own d).trans (reads host _)).trans (reads burn _)).trans (progs copies _)).trans (reads gc _)
  unfold serve
  dsimp only
  split
  · exact waiting _ _ _ _ _
  · exact ((waiting _ _ _ _ _).trans (.sal _ _)).trans (.foldl _ (fun d b _ => d.flashWrite_stages _) _)

theorem askProg_stages (p : Prog) : Stages d (d.askProg p) := (Changes.sal d _).trans (serve_stages _)

theorem programAt_stages {s kind lsn : Nat} {e : SegEnt} {page gen : Nat} {copy : Bool}
    {slots : List (Nat × Nat × Nat × StagedLb)} {ctxs : List Nat} {ack : Nat} {recs : List (BitVec 128)} :
    Stages d (d.programAt s kind lsn e page gen copy slots ctxs ack recs) :=
  (Changes.sal d _).trans (askProg_stages _ _)

theorem programNext_stages {s : Nat} {slots : List (Nat × Nat × StagedLb)} {ctxs : List Nat} {ack : Nat}
    {recs : List (BitVec 128)} {e : Dev} (h : d.programNext s slots ctxs ack recs = some e) : Stages d e := by
  unfold programNext at h
  split at h
  · cases h
  · next l f hf =>
    split at h
    · cases h
    · have hpage (kind : Nat) (g : SegEnt) (n gen : Nat) (sl : List (Nat × Nat × Nat × StagedLb)) :
          Stages d (f.programAt s kind l g n gen false sl ctxs ack recs) :=
        (openSeg_stages d hf).trans (programAt_stages _)
      dsimp only at h
      split at h
      · rw [← Option.some.inj h]
        exact .trans (.trans (hpage _ _ _ _ _) (.foldl _ (fun d i _ => d.programAt_stages) _)) (.sal _ _)
      · rw [← Option.some.inj h]
        exact (hpage _ _ _ _ _).trans (.sal _ _)

theorem programOrWait_stages (s : Nat) (slots : List (Nat × Nat × StagedLb)) (ctxs : List Nat) (ack : Nat)
    (recs : List (BitVec 128)) : Stages d (d.programOrWait s slots ctxs ack recs) := by
  unfold programOrWait
  split
  · next h => exact programNext_stages d h
  · exact .sal d _

end Dev

end Sys2Proof.Machine

/-! SUPPORT. The axes: what a move changes (R316 to R320). -/

namespace Sys2Proof.Machine

open Sys2Proof Sys2Proof.Safety

set_option Elab.async false

/-- The bit addresses of the windows of the axes, and that of the clock gate. -/
def axKeys : List Nat := Reg.CLK_GATE_ST_RUN.key 0 0 :: (List.range 262144).map (0x508000 * 8 + ·)

/-- A field of the windows of the axes, a word of 32 bits 0x400 apart. -/
def axFld (f : Fld) : Bool :=
  f.sa == 0x800 && f.sb == 0x400 && decide (0x508000 ≤ f.base) && decide (f.base + 4 ≤ 0x508400) && decide (f.lo < 32)

theorem key_mem_axKeys {f : Fld} {a : Nat} (hf : axFld f = true) (ha : a < 32) : f.key (a / 2) (a % 2) ∈ axKeys := by
  simp only [axFld, Bool.and_eq_true, beq_iff_eq, decide_eq_true_eq] at hf
  obtain ⟨⟨⟨⟨hsa, hsb⟩, hlo⟩, hhi⟩, hbit⟩ := hf
  refine List.mem_cons_of_mem _ (List.mem_map.2 ⟨f.key (a / 2) (a % 2) - 0x508000 * 8, ?_, ?_⟩)
  · rw [List.mem_range, Fld.key, hsa, hsb]
    omega
  · rw [Fld.key, hsa, hsb]
    omega

/-- The units and the registers that a move of axes changes. -/
abbrev Moves : Dev → Dev → Prop := Changes [.axes, .coords] axKeys

namespace Dev

variable (d : Dev) {a : Nat} (ha : a < 32)
include ha

theorem wrAx_moves (f : Fld) (v : Nat) (hf : axFld f = true := by decide) : Moves d (d.wrAx f v a) :=
  .wr d f v _ _ (key_mem_axKeys hf ha)

theorem wrAxS_moves (f : Fld) (v : Int) (hf : axFld f = true := by decide) : Moves d (d.wrAxS f v a) :=
  wrAx_moves d ha f _ hf

theorem axErr_moves (f : Fld) (hf : axFld f = true := by decide) : Moves d (d.axErr f a) :=
  .setErrAt d f 0 _ _ _ _ _ _ (key_mem_axKeys hf ha)

theorem setAxis_moves (x : Axis) : Moves d (d.setAxis a x) := by
  have shown (m : List (Nat × Axis)) (p v : Int) :
      Moves d (({ d with axes := m }.wrAxS Reg.MOT_AX_POS_POS p a).wrAxS Reg.MOT_AX_VEL_VEL v a) :=
    ((Changes.axes d m).trans (wrAxS_moves _ ha _ p)).trans (wrAxS_moves _ ha _ v)
  unfold setAxis
  dsimp only
  split
  · exact shown _ _ _
  · exact (shown _ _ _).trans (wrAx_moves _ ha _ _)

theorem setAxState_moves (st : Nat) : Moves d (d.setAxState a st) := by
  unfold setAxState
  split
  · exact wrAx_moves d ha _ _
  · exact wrAx_moves d ha _ _

theorem clipTarget_moves (t : Int) : Moves d (d.clipTarget a t).2 := by
  unfold clipTarget
  dsimp only
  split
  · exact .refl _ _ d
  · exact axErr_moves d ha _

theorem startMove_moves (t vmax : Int) (kind : Nat) : Moves d (d.startMove a t vmax kind) := by
  unfold startMove
  dsimp only
  split
  · exact ((setAxis_moves d ha _).trans (wrAxS_moves _ ha _ _)).trans (setAxState_moves _ ha _)
  · exact setAxis_moves d ha _

theorem axisMove_moves (t vmax : Int) (kind : Nat) : Moves d (d.axisMove a t vmax kind) := by
  unfold axisMove
  split
  · exact axErr_moves d ha _
  · have hclip := clipTarget_moves d ha t
    dsimp only
    split
    · exact hclip.trans (startMove_moves _ ha _ _ _)
    · exact ((hclip.trans (wrAxS_moves _ ha _ _)).trans (setAxState_moves _ ha _)).trans (.coords _ _)

omit ha in
theorem supersede_calm (b : Nat) : Calm d (d.supersede b) := .completeAll d _ _ _

omit ha in
/-- With no coordinated move under way there is none to leave. -/
theorem dropGroup_of_coords_nil (b : Nat) (h : d.coords = []) : d.dropGroup b = d := by
  simp [dropGroup, groupOf, h]

theorem home_moves (h : d.coords = []) : Moves d (d.home a) := by
  unfold home
  dsimp only
  rw [dropGroup_of_coords_nil d a h]
  refine .trans ?_ (startMove_moves _ ha _ _ _)
  refine .trans ?_ (wrAx_moves _ ha _ _)
  refine .trans ?_ (setAxis_moves _ ha _)
  exact (Changes.of_calm (supersede_calm d a)).trans (wrAx_moves _ ha _ _)

omit ha in
theorem startGroup_moves {l : List Nat} (goal : List Int) (hl : ∀ a ∈ l, a < 32) : Moves d (d.startGroup l goal) := by
  unfold startGroup
  dsimp only
  refine .trans ?_ (.coords _ _)
  refine .trans (.trans (.foldl l (fun d a _ => .of_calm (supersede_calm d a)) d) (.coords _ _))
    (.foldl _ (fun d q hq => ?_) _)
  have ha : q.1 < 32 := hl _ (List.of_mem_zip hq).1
  exact (((setAxis_moves d ha _).trans (wrAxS_moves _ ha _ _)).trans (wrAx_moves _ ha _ _)).trans (setAxState_moves _ ha _)

end Dev

end Sys2Proof.Machine

/-! SUPPORT. The twenty-one commands of one unit: each ends in a next state, and changes no more than is named. -/

namespace Sys2Proof.Machine

open Sys2Proof Sys2Proof.Safety

set_option Elab.async false

/-- The end of a command row completes it, in the queues and rings alone. -/
theorem Dev.complete_changes {us : List DevPart} {ks : List Nat} (d : Dev) (c st r : Nat) :
    Changes us ks d (d.complete c st r) := .of_calm (.complete d c st r)

section
variable (s : State) (c : Nat)

/-! ### The host link, the queues and the windows -/

theorem linkWidthDegrade_ends :
    Ends [] [Reg.HIF_STATUS_WIDTH.key 0 0, Reg.HIF_ERR_WIDTH_DEGRADED.key 0 0] s (execLinkWidthDegrade s) := by
  refine .run ?_
  split
  · exact (Changes.wr _ _ _ _ _ (by simp)).trans (.setErr _ _ _ _ _ _ _ _ (by simp))
  · exact .refl _ _ _

theorem linkRetrain_ends : Ends [] [Reg.HIF_ERR_RETRAIN.key 0 0] s (execLinkRetrain s) := by
  refine .run ?_
  split
  · exact .setErr _ _ _ _ _ _ _ _ (by simp)
  · exact .refl _ _ _

theorem Dev.sendStatus_calm (d : Dev) : Calm d d.sendStatus := by
  unfold Dev.sendStatus
  split
  · exact .send d _
  · exact .refl d

theorem sidebandStatusQuery_ends : Ends [] [] s (execSidebandStatusQuery s) := by
  refine .run ?_
  split
  · exact .of_calm (Dev.sendStatus_calm _)
  · exact .refl _ _ _

theorem coalesceTimeout_ends (n : Nat) : Ends [] [] s (execCoalesceTimeout n s) := by
  refine .run ?_
  split
  · split
    · exact .refl _ _ _
    · exact .of_calm ((Calm.setCq _ _ _).trans (.msix _ _))
  · exact .refl _ _ _

theorem deadlineWindowEnd_ends (r : Fin 8) (i : Nat) : Ends [.windows] [] s (execDeadlineWindowEnd r i s) := by
  refine .run ?_
  unfold Dev.missEnd
  dsimp only
  split
  · exact .refl _ _ _
  · split
    · exact .windows _ _
    · exact (Changes.windows _ _).trans (.of_calm (.emit _ _))

theorem authLockoutEnd_ends : Ends [.mgmt] [] s (execAuthLockoutEnd s) := .run (.mgmt _ _)

/-! ### Calibration -/

theorem Dev.calNamed_lt {d : Dev} {b p : Nat} (h : p ∈ d.calNamed b) : p < 16 := by
  unfold Dev.calNamed at h
  split at h
  · exact List.mem_range.1 (List.mem_filter.1 h).1
  · split at h
    · next hb => rwa [List.mem_singleton.1 h]
    · cases h

/-- A CALIBRATE that names no pickup, or one that is absent, completes; the others change what their action changes. -/
theorem Dev.calServe_changes {us : List DevPart} {ks : List Nat} (d : Dev) (k : Ctx) {f : Dev → List Nat → Dev}
    (h : ∀ l, (∀ p ∈ l, p < 16) → Changes us ks d (f d l)) : Changes us ks d (d.calServe c k f) := by
  have hlt : ∀ p ∈ d.calNamed (k.e.at 40), p < 16 := fun p => Dev.calNamed_lt
  unfold Dev.calServe
  split
  · exact d.complete_changes _ _ _
  · split
    · exact h _ hlt
    · exact d.complete_changes _ _ _

theorem calibrateFull_ends : Ends [.cal]
    (Reg.CLK_GATE_ST_RUN.key 0 0 :: (List.range 16).map fun p => Reg.CAL_PK_TEMP_PENDING.key p 0) s
    (execCalibrateFull c s) := by
  refine .runUnit fun d _ => .command d c fun d k _ => d.calServe_changes c k fun l hl => ?_
  refine .trans (.foldl l (fun d p hp => ?_) d) (.of_calm (.await _ _ _))
  refine (Changes.cal d _).trans (.wr _ _ _ _ _ (List.mem_cons_of_mem _ ?_))
  exact List.mem_map_of_mem (f := fun p => Reg.CAL_PK_TEMP_PENDING.key p 0) (List.mem_range.2 (hl p hp))

/-- The sets of calibration and their copies in the flash. -/
theorem calSets_changes {ks : List Nat} (d : Dev) (x : CalEng) (y : Flash) :
    Changes [.cal, .flash] ks d { d with cal := x, flash := y } :=
  (Changes.cal d x).trans (.flash _ y)

theorem calibrateDiscard_ends : Ends [.cal, .flash]
    (Reg.CLK_GATE_ST_RUN.key 0 0 ::
      (Reg.CAL_STATUS_VALID.key 0 0 :: (List.range 16).map fun p => Reg.CAL_PK_TEMP_POINTS.key p 0)) s
    (execCalibrateDiscard c s) := by
  refine .runUnit fun d _ => .command d c fun d k _ => d.calServe_changes c k fun l _ => ?_
  split
  · exact .of_calm (.await d _ _)
  · refine .trans (.trans ?_ (.foldl l (fun d p _ => ?_) _)) (Dev.complete_changes _ _ _ _)
    · exact calSets_changes d _ _
    · exact (Changes.wr d _ _ _ _ (by simp)).trans (.cal _ _)

/-! ### Axes -/

theorem Dev.lt_of_mechCheck_none {d : Dev} {i n : Nat} {here : Bool} (h : d.mechCheck i n here = none) : i < n := by
  simp only [Dev.mechCheck, ite_eq_iff, reduceCtorEq, and_false, false_or] at h
  omega

theorem motionMove_ends : Ends [.axes, .coords] axKeys s (execMotionMove c s) := by
  refine .runUnit (fun d _ => .command d c fun d k _ => ?_) List.mem_cons_self
  dsimp only
  split
  · exact d.complete_changes _ _ _
  · next h =>
    have ha := Dev.lt_of_mechCheck_none h
    split
    · exact (d.axErr_moves ha _).trans (Dev.complete_changes _ _ _ _)
    · exact (Changes.of_calm ((d.supersede_calm _).trans (.await _ _ _))).trans (Dev.axisMove_moves _ ha _ _ _)

theorem motionHome_ends (hc : s.dev.coords = []) : Ends [.axes, .coords] axKeys s (execMotionHome c s) := by
  refine .runUnit (fun d hd => .command d c fun e k he => ?_) List.mem_cons_self
  dsimp only
  split
  · exact e.complete_changes _ _ _
  · next h =>
    have hnone : e.coords = [] := he.coords.trans (hd.units.coords.trans hc)
    exact (e.home_moves (Dev.lt_of_mechCheck_none h) hnone).trans (.of_calm (.await _ _ _))

theorem Dev.lt_of_groupCheck_none {d : Dev} {e : Sqe} (h : d.groupCheck e = none) :
    ∀ a ∈ (List.range (e.at 41)).map (fun i => e.at (44 + i)), a < 32 := by
  simp only [Dev.groupCheck, ite_eq_iff, reduceCtorEq, and_false, false_or, Bool.or_eq_true, not_or, List.any_eq_true,
    not_exists, not_and, decide_eq_true_eq, not_le] at h
  obtain ⟨-, ⟨⟨-, hlt⟩, -⟩, -⟩ := h
  exact hlt

/-- Clipping the targets of a coordinated move, one after the other. -/
theorem clipTargets_moves (goal : Nat → Int) (l : List (Nat × Nat)) (hl : ∀ q ∈ l, q.2 < 32) (p : List Int × Dev) :
    Moves p.2 (l.foldl (fun (p : List Int × Dev) q =>
      let (t, d) := p.2.clipTarget q.2 (goal q.1)
      (p.1 ++ [t], d)) p).2 := by
  induction l generalizing p with
  | nil => exact .refl _ _ _
  | cons q t ih =>
    refine .trans ?_ (ih (fun r hr => hl r (List.mem_cons_of_mem _ hr)) _)
    exact p.2.clipTarget_moves (hl q List.mem_cons_self) _

theorem motionCoordinated_ends : Ends [.axes, .coords] axKeys s (execMotionCoordinated c s) := by
  refine .runUnit (fun d _ => .command d c fun d k _ => ?_) List.mem_cons_self
  dsimp only
  split
  · exact d.complete_changes _ _ _
  · next h =>
    have hlt := Dev.lt_of_groupCheck_none h
    split
    · refine .trans (.trans (clipTargets_moves (fun i => Sqe.signed k.e (48 + 4 * i) 4) _ (fun q hq => ?_) ([], d))
        (Dev.startGroup_moves _ _ hlt)) (.of_calm (.await _ _ _))
      exact hlt _ (List.of_mem_zip hq).2
    · refine .trans (.foldl _ (fun d a ha => d.axErr_moves (hlt a ?_) _) d) (Dev.complete_changes _ _ _ _)
      exact (List.mem_filter.1 ha).1

/-! ### Sets, staging and the peer -/

theorem setStateOffline_ends : Ends [.set] [Reg.CLK_GATE_ST_RUN.key 0 0] s (execSetStateOffline c s) := by
  refine .runUnit fun d _ => .command d c fun d k _ => ?_
  unfold Dev.setStateServe
  dsimp only
  split
  · exact d.complete_changes _ _ _
  · exact (Changes.set d _).trans (Dev.complete_changes _ _ _ _)

theorem sparePoolRemove_ends (buf : List Byte) :
    Ends [.set] [Reg.CLK_GATE_ST_RUN.key 0 0] s (execSparePoolRemove c buf s) := by
  refine .runUnit fun d _ => .command d c fun d k _ => ?_
  split
  · exact d.complete_changes _ _ _
  · split
    · exact d.complete_changes _ _ _
    · exact (Changes.set d _).trans (Dev.complete_changes _ _ _ _)

theorem residencyPriority_ends (l : Nat) :
    Ends [.sal] [Reg.CLK_GATE_ST_RUN.key 0 0] s (execResidencyPriority l s) := by
  refine .runUnit fun d _ => ?_
  split
  · exact .sal d _
  · exact .refl _ _ d

theorem residencyBound_ends (l : Nat) :
    Ends [.sal] [Reg.CLK_GATE_ST_RUN.key 0 0, Reg.SAL_ERR_RESIDENCY.key 0 0] s (execResidencyBound l s) := by
  refine .runUnit fun d _ => ?_
  split
  · split
    · exact (Changes.sal d _).trans (.setErr _ _ _ _ _ _ _ _ (by simp))
    · exact .refl _ _ d
  · exact .refl _ _ d

theorem journalFlush_ends : Ends [.sal, .flash, .peer]
    [Reg.CLK_GATE_ST_RUN.key 0 0, Reg.SAL_JRNL_SEQ.key 0 0] s (execJournalFlush s) :=
  .runUnit fun d _ => d.flushJournal_stages

theorem heartbeatSend_ends : Ends [.peer] [Reg.CLK_GATE_ST_RUN.key 0 0] s (execHeartbeatSend s) := by
  refine .runUnit fun d _ => ?_
  split
  · exact .refl _ _ d
  · exact (Changes.peer d _).trans (Dev.ner_changes _ _)

theorem ackSend_ends : Ends [.peer] [Reg.CLK_GATE_ST_RUN.key 0 0] s (execAckSend s) := by
  refine .runUnit fun d _ => ?_
  split
  · exact (Changes.peer d _).trans (.of_calm (.foldl _ (fun d q => .send d _) _ _))
  · exact .refl _ _ d

theorem messageResend_ends (q : BitVec 16) : Ends []
    [Reg.CLK_GATE_ST_RUN.key 0 0, Reg.PEER_ERR_RESEND.key 0 0, Reg.PEER_CNT_LOSS_RESENT.key 0 0] s
    (execMessageResend q s) := by
  refine .runUnit fun d _ => ?_
  split
  · split
    · refine .trans (.trans (.setErr d _ _ _ _ _ _ _ ?_) (.wr _ _ _ _ _ ?_)) (.of_calm (.send _ _)) <;> simp
    · exact .refl _ _ d
  · exact .refl _ _ d

theorem journalReceive_ends (q : BitVec 16) (l : List (BitVec 128)) : Ends [.sal, .flash, .peer]
    [Reg.CLK_GATE_ST_RUN.key 0 0, Reg.SAL_JRNL_SEQ.key 0 0] s (execJournalReceive q l s) := by
  refine .runUnit fun d _ => d.nerTake_changes q fun d => ?_
  split
  · exact .refl _ _ d
  · exact d.programOrWait_stages _ _ _ _ _

theorem clusterReceive_ends (q : BitVec 16) (a : Nat) (b : Word) (l : List (List Byte)) :
    Ends [.peer, .set] [Reg.CLK_GATE_ST_RUN.key 0 0] s (execClusterReceive q a b l s) :=
  .runUnit fun d _ => d.nerTake_changes q fun d => .set d _

end

end Sys2Proof.Machine

namespace Sys2Proof

open Sys2Proof.Machine Sys2Proof.Safety

set_option Elab.async false

/-! Frames of the commands of one unit (01_architecture.md). -/

/-- Settles O57: each command's meaning is followed once, and the units that it may change are given to the state before. -/
theorem oneUnitCommandsFrame : Obligations.OneUnitCommandsFrame := by
  have calFlash (s : State) (b : Dev) : Changes [.cal, .flash] [] s.dev { s.dev with cal := b.cal, flash := b.flash } :=
    calSets_changes s.dev b.cal b.flash
  have moved (s : State) (b : Dev) : Changes [.axes, .coords] [] s.dev { s.dev with axes := b.axes, coords := b.coords } :=
    (Changes.axes s.dev b.axes).trans (.coords _ b.coords)
  have staged (s : State) (b : Dev) :
      Changes [.sal, .flash, .peer] [] s.dev { s.dev with sal := b.sal, flash := b.flash, peer := b.peer } :=
    ((Changes.sal s.dev b.sal).trans (.flash _ b.flash)).trans (.peer _ b.peer)
  refine ⟨?_, ?_, ?_, ?_, ?_, ?_, ?_, ?_, ?_, ?_, ?_, ?_, ?_, ?_, ?_, ?_, ?_, ?_, ?_, ?_, ?_⟩
  · exact fun s => (linkWidthDegrade_ends s).after_same
  · exact fun s => (linkRetrain_ends s).after_same
  · exact fun s => (sidebandStatusQuery_ends s).after_same
  · exact fun s n => (coalesceTimeout_ends s n).after_same
  · exact fun s r i => (deadlineWindowEnd_ends s r i).after (fun b => { s.dev with windows := b.windows })
      (fun _ => .windows _ _) (by simp [DevPart.Same])
  · exact fun s => (authLockoutEnd_ends s).after (fun b => { s.dev with mgmt := b.mgmt })
      (fun _ => .mgmt _ _) (by simp [DevPart.Same])
  · exact fun s c => (calibrateFull_ends s c).after (fun b => { s.dev with cal := b.cal })
      (fun _ => .cal _ _) (by simp [DevPart.Same])
  · exact fun s c => (calibrateDiscard_ends s c).after _ (calFlash s) (by simp [DevPart.Same])
  · exact fun s c => (motionMove_ends s c).after _ (moved s) (by simp [DevPart.Same])
  · exact fun s c hc => (motionHome_ends s c hc).after _ (moved s) (by simp [DevPart.Same])
  · exact fun s c _ => (motionCoordinated_ends s c).after _ (moved s) (by simp [DevPart.Same])
  · exact fun s c => (setStateOffline_ends s c).after (fun b => { s.dev with set := b.set })
      (fun _ => .set _ _) (by simp [DevPart.Same])
  · exact fun s c buf => (sparePoolRemove_ends s c buf).after (fun b => { s.dev with set := b.set })
      (fun _ => .set _ _) (by simp [DevPart.Same])
  · exact fun s l => (residencyPriority_ends s l).after (fun b => { s.dev with sal := b.sal })
      (fun _ => .sal _ _) (by simp [DevPart.Same])
  · exact fun s l => (residencyBound_ends s l).after (fun b => { s.dev with sal := b.sal })
      (fun _ => .sal _ _) (by simp [DevPart.Same])
  · exact fun s => (journalFlush_ends s).after _ (staged s) (by simp [DevPart.Same])
  · exact fun s => (heartbeatSend_ends s).after (fun b => { s.dev with peer := b.peer })
      (fun _ => .peer _ _) (by simp [DevPart.Same])
  · exact fun s => (ackSend_ends s).after (fun b => { s.dev with peer := b.peer })
      (fun _ => .peer _ _) (by simp [DevPart.Same])
  · exact fun s q => (messageResend_ends s q).after_same
  · exact fun s q l => (journalReceive_ends s q l).after
      (fun b => { s.dev with peer := b.peer, sal := b.sal, flash := b.flash }) (staged s) (by simp [DevPart.Same])
  · exact fun s q a b l => (clusterReceive_ends s q a b l).after (fun x => { s.dev with peer := x.peer, set := x.set })
      (fun x => (Changes.peer s.dev x.peer).trans (.set _ x.set)) (by simp [DevPart.Same])

end Sys2Proof

/-! SUPPORT. What posting the host rings asks of the recorder and the interfaces, and what it keeps of the queues (R437,
R472 to R475). -/

namespace Sys2Proof.Machine

open Sys2Proof Sys2Proof.Safety

set_option Elab.async false

/-- The requests that posting a ring makes: an event to record, a request to host memory, an interrupt. -/
def Emit.isPosting : Emit → Bool
  | .record _ => true
  | .out (.hostWrite ..) => true
  | .out (.hostRead ..) => true
  | .out (.msix _) => true
  | _ => false

/-- What SET FEATURE COALESCE holds of a completion queue (R475). -/
def Cq.coalescing (q : Cq) : Nat × Nat := (q.count, q.timeUs)

/-- From `a` to `b` nothing but posting was requested, and the coalescing of every completion queue stays. -/
structure Posting (a b : Dev) : Prop where
  out : ∃ l, b.out = a.out ++ l ∧ ∀ e ∈ l, e.isPosting = true
  coalescing : ∀ n, (b.cq n).map Cq.coalescing = (a.cq n).map Cq.coalescing

namespace Posting

variable {a b c : Dev}

theorem of_same (ho : b.out = a.out) (hc : b.que.cqs = a.que.cqs) : Posting a b :=
  ⟨⟨[], by simp [ho], by simp⟩, fun n => by simp only [Dev.cq, hc]⟩

theorem refl (a : Dev) : Posting a a := of_same rfl rfl

theorem trans (h : Posting a b) (g : Posting b c) : Posting a c := by
  obtain ⟨⟨l, hl, hpl⟩, hc⟩ := h
  obtain ⟨⟨m, hm, hpm⟩, hd⟩ := g
  refine ⟨⟨l ++ m, by rw [hm, hl, List.append_assoc], ?_⟩, fun n => (hd n).trans (hc n)⟩
  exact fun e he => (List.mem_append.1 he).elim (hpl e) (hpm e)

/-- `trans`, the second step first: it says from where the first step leads. -/
theorem after (g : Posting b c) (h : Posting a b) : Posting a c := h.trans g

theorem foldl {α : Type} {f : Dev → α → Dev} (h : ∀ d x, Posting d (f d x)) (l : List α) (d : Dev) :
    Posting d (l.foldl f d) := by
  induction l generalizing d with
  | nil => exact refl d
  | cons x t ih => exact (h d x).trans (ih _)

theorem emit (d : Dev) (e : Emit) (he : e.isPosting = true := by rfl) : Posting d (d.emit e) :=
  ⟨⟨[e], rfl, by simpa using he⟩, fun _ => rfl⟩

theorem setErr (d : Dev) (f : Fld) (k i inst addr : Nat) (further : List (Nat × Nat × Nat)) (force : Bool) :
    Posting d (d.setErr f k i inst addr further force) :=
  .after (emit _ _) (of_same rfl rfl)

theorem setCq (d : Dev) (n : Nat) {q x : Cq} (h : d.cq n = some q) (hx : x.coalescing = q.coalescing) :
    Posting d (d.setCq n (some x)) := by
  refine ⟨⟨[], by simp [Dev.setCq], by simp⟩, fun m => ?_⟩
  by_cases hm : m = n
  · have hset : (d.setCq n (some x)).cq n = some x := mget_mset_same d.que.cqs none (some x) n
    rw [hm, hset, h, Option.map_some, Option.map_some, hx]
  · have hkeep : (d.setCq n (some x)).cq m = d.cq m := mget_mset_ne d.que.cqs none none (some x) hm
    rw [hkeep]

theorem ringWrite (d : Dev) (phys : Nat) (bytes : List Byte) : Posting d (d.ringWrite phys bytes) :=
  .after (emit _ _) (of_same rfl rfl)

theorem msix (d : Dev) (v : Nat) : Posting d (d.msix v) := by
  unfold Dev.msix
  split
  · exact emit d _
  · exact of_same rfl rfl

theorem latchSelf (d : Dev) (q : Bool) (t v : Nat) : Posting d (d.latchSelf q t v) := by
  unfold Dev.latchSelf
  exact .after (msix _ _) (.after (setErr _ _ _ _ _ _ _ _) (of_same rfl rfl))

theorem selfFault (d : Dev) (x : Xfer) (t : Nat) : Posting d (d.selfFault x t) := by
  unfold Dev.selfFault
  dsimp only
  split
  · split
    · exact of_same rfl rfl
    · exact of_same rfl rfl
  · exact .after (latchSelf _ _ _ _) (of_same rfl rfl)

theorem adminFault (d : Dev) (source t v : Nat) : Posting d (d.adminFault source t v) := by
  unfold Dev.adminFault
  exact .after (msix _ _) (.after (setErr _ _ _ _ _ _ _ _) (of_same rfl rfl))

theorem fault (d : Dev) (x : Xfer) (t l : Nat) : Posting d (d.fault x t l) := by
  unfold Dev.fault
  split
  · exact selfFault d x t
  · split
    · exact .after (adminFault _ _ _ _) (of_same rfl rfl)
    · split
      · exact of_same rfl rfl
      · have entered : Posting d (({ d with mmu := { d.mmu with nextFault := (d.mmu.nextFault + 1) % 65536 } }.putX
            { x with st := .parked d.mmu.nextFault }).setErr Reg.MMU_ERR_TYPE t) :=
          .after (setErr _ _ _ _ _ _ _ _) (of_same rfl rfl)
        dsimp only
        split
        · exact entered.trans (of_same rfl rfl)
        · exact .after (setErr _ _ _ _ _ _ _ _) (entered.trans (of_same rfl rfl))

theorem takeBytes (d : Dev) (x : Xfer) (n : Nat) : Posting d (d.takeBytes x n).2 := by
  have keeps : (d.takeBytes x n).2.out = d.out ∧ (d.takeBytes x n).2.que.cqs = d.que.cqs := by
    unfold Dev.takeBytes
    repeat' split
    all_goals exact ⟨rfl, rfl⟩
  exact of_same keeps.1 keeps.2

theorem endX (d : Dev) (x : Xfer) : Posting d (d.endX x) := by
  unfold Dev.endX
  split
  · exact of_same rfl rfl
  · exact of_same rfl rfl

/-- A transfer that moves on reads and writes host memory, or faults. -/
theorem drive (k : Nat) (d : Dev) (x : Xfer) : Posting d (Dev.drive k d x) := by
  induction k generalizing d x with
  | zero => exact of_same rfl rfl
  | succ k ih =>
    have hit : Posting d (d.bump Reg.MMU_CNT_HIT_COUNT) := of_same rfl rfl
    simp only [Dev.drive]
    split
    · exact endX d x
    · split
      · exact of_same rfl rfl
      · split
        · split
          · exact of_same rfl rfl
          · split
            · exact .after (ih _ _) (.after (emit _ _) (hit.trans (takeBytes _ _ _)))
            · split
              · exact .trans (hit.trans (emit _ _)) (of_same rfl rfl)
              · exact of_same rfl rfl
        · split
          · exact fault d x _ _
          · split
            · exact fault d x _ _
            · split
              · exact of_same rfl rfl
              · exact of_same rfl rfl

theorem askRing (d : Dev) (what : Purpose) (asid va len : Nat) : Posting d (d.askRing what asid va len) := by
  unfold Dev.askRing
  split
  · exact refl d
  · exact .after (drive _ _ _) (of_same rfl rfl)

theorem postFaults (l : List OpenFault) (d : Dev) : Posting d (Machine.postFaults d l) := by
  induction l generalizing d with
  | nil => exact of_same rfl rfl
  | cons f t ih =>
    simp only [Machine.postFaults]
    split
    · exact .after (ih _) (.after (msix _ _) (.trans (ringWrite d _ _) (of_same rfl rfl)))
    · split
      · exact .after (askRing _ _ _ _ _) (of_same rfl rfl)
      · exact of_same rfl rfl

theorem mirror (d : Dev) (q : Nat) : Posting d (d.mirror q) := by
  unfold Dev.mirror
  split
  · split
    · exact ringWrite _ _ _
    · exact askRing _ _ _ _ _
  · exact askRing _ _ _ _ _
  · exact refl d

/-- Posting a completion takes the SQ's slot, and moves the CQ on without its coalescing. -/
theorem postCq (n : Nat) (l : List Cqe) (d : Dev) : Posting d (Machine.postCq d n l) := by
  induction l generalizing d with
  | nil => exact refl d
  | cons e t ih =>
    have slot : Posting d (match d.sq e.sq with | some s => d.setSq e.sq (some (s.posted e.slot)) | none => d) ∧
        (match d.sq e.sq with | some s => d.setSq e.sq (some (s.posted e.slot)) | none => d).cq n = d.cq n := by
      split
      · exact ⟨of_same rfl rfl, rfl⟩
      · exact ⟨refl d, rfl⟩
    have mirrored (d : Dev) (same : Bool) : Posting d (if same = true then d else d.mirror e.sq) := by
      split
      · exact refl d
      · exact mirror d _
    have signalled (d : Dev) (now : Bool) (v : Nat) : Posting d (if now = true then d.msix v else d) := by
      split
      · exact msix d v
      · exact refl d
    simp only [Machine.postCq]
    split
    · exact refl d
    · next q hq =>
      split
      · exact refl d
      · split
        · exact askRing d _ _ _ _
        · split
          · exact refl d
          · refine .trans ?_ (ih _)
            refine .after (signalled _ _ _) (.after (mirrored _ _) ?_)
            refine .trans (.trans (slot.1.trans (ringWrite _ _ _)) (setCq _ n (q := q) ?_ ?_)) (of_same rfl rfl)
            · exact slot.2.trans hq
            · rfl

theorem postEvents (l : List EqEnt) (d : Dev) : Posting d (Machine.postEvents d l).1 := by
  induction l generalizing d with
  | nil => exact refl d
  | cons e t ih =>
    simp only [Machine.postEvents]
    split
    · exact .after (ih _) (.after (msix _ _) (.trans (ringWrite d _ _) (of_same rfl rfl)))
    · split
      · exact askRing d _ _ _ _
      · exact refl d

theorem flush (d : Dev) (w : List EqEnt) : Posting d (d.flush w).1 := by
  unfold Dev.flush
  dsimp only
  refine .trans (.trans ?_ (foldl (fun d x => ?_) _ _)) (postEvents _ _)
  · split
    · exact refl d
    · exact postFaults _ d
  · split
    · exact postCq _ _ d
    · exact refl d

end Posting

/-- The coalescing of a completion queue is after a command as the meaning left it. -/
theorem State.settle_coalescing (s : State) (d : Dev) (n : Nat) :
    ((s.settle d).dev.cq n).map Cq.coalescing = (d.cq n).map Cq.coalescing :=
  (Posting.flush { d with out := [] } (s.evr.absorb d.out).waiting).coalescing n

theorem mem_outsOf {o : Out} {l : List Emit} : o ∈ outsOf l ↔ Emit.out o ∈ l := by
  induction l with
  | nil => simp [outsOf]
  | cons e t ih => cases e <;> simp [outsOf, ih]

/-- What the end of a command sends besides what its meaning sent is of the host rings. -/
theorem State.mem_settle_sent {s : State} {d : Dev} {o : Out} (h : o ∈ (s.settle d).sent) :
    Emit.out o ∈ d.out ∨ (Emit.out o).isPosting = true := by
  obtain ⟨⟨l, hl, hp⟩, -⟩ := Posting.flush { d with out := [] } (s.evr.absorb d.out).waiting
  simp only [State.settle, List.mem_append, mem_outsOf, hl, List.nil_append] at h
  exact h.imp_right (hp _)

theorem Recorder.append_filter (r : Recorder) (q : RecReq) : (r.append q).filter = r.filter := by
  unfold Recorder.append
  dsimp only
  split <;> rfl

/-- Posting leaves the event filter. -/
theorem Recorder.take_filter (r : Recorder) {e : Emit} (h : e.isPosting = true) : (r.take e).filter = r.filter := by
  cases e with
  | record q =>
    simp only [Recorder.take, Recorder.push]
    split
    · exact r.append_filter q
    · split <;> rfl
  | out => rfl
  | _ => cases h

theorem Recorder.absorb_filter {l : List Emit} (h : ∀ e ∈ l, e.isPosting = true) (r : Recorder) :
    (r.absorb l).filter = r.filter := by
  induction l generalizing r with
  | nil => rfl
  | cons e t ih =>
    rw [Recorder.absorb, ih (fun e he => h e (List.mem_cons_of_mem _ he)), r.take_filter (h e List.mem_cons_self)]

/-- The event filter is after a command as the requests of its meaning left it. -/
theorem State.settle_filter (s : State) (d : Dev) : (s.settle d).evr.filter = (s.evr.absorb d.out).filter := by
  obtain ⟨⟨l, hl, hp⟩, -⟩ := Posting.flush { d with out := [] } (s.evr.absorb d.out).waiting
  simp only [State.settle, hl, List.nil_append, Recorder.absorb_filter hp]

end Sys2Proof.Machine

/-! SUPPORT. A command that passes the checks before its own, and its completion (R474, R482). -/

namespace Sys2Proof.Machine

open Sys2Proof Sys2Proof.Safety

set_option Elab.async false

theorem ctx_of_startable {d : Dev} {c : Nat} {k : Ctx} {u : Uses} (h : startable d c k u = true) :
    d.ctx c = some k ∧ k.mute = false := by
  simp only [startable, Bool.and_eq_true, beq_iff_eq, Bool.not_eq_true'] at h
  obtain ⟨⟨⟨⟨⟨hc, -⟩, hm⟩, -⟩, -⟩, -⟩ := h
  exact ⟨hc, hm⟩

/-- A device in which a command of context `c` runs, whose queue is not being disabled. -/
def Dev.Runs (d : Dev) (c : Nat) (k : Ctx) : Prop := d.ctx c = some { k with wait := .run } ∧ k.mute = false

theorem Dev.runs_await {s : State} {c : Nat} {k : Ctx} {u : Uses} (h : startable s.dev c k u = true) :
    (s.fresh.await c .run).Runs c k :=
  ⟨Dev.ctx_await_same (d := s.fresh) (ctx_of_startable h).1 .run, (ctx_of_startable h).2⟩

/-- A startable command of the row is served, in its run. -/
theorem State.fresh_served {s : State} {c : Nat} {k : Ctx} {u : Uses} {mine : Sqe → Bool}
    (h : startable s.dev c k u = true) (hm : mine k.e = true) (serve : Dev → Ctx → Dev) :
    s.fresh.command c mine u serve = serve (s.fresh.await c .run) k :=
  Dev.command_served (d := s.fresh) h hm serve

theorem Dev.completeRaw_out {d : Dev} {c : Nat} {k : Ctx} (h : d.ctx c = some k) (st r : Nat) :
    (d.completeRaw c st r).out = d.out ++ [.out (.completed k.sq k.e.cid.toNat st (BitVec.ofNat 64 r))] := by
  simp only [Dev.completeRaw, h]
  split
  · split <;> rfl
  · rfl

theorem Dev.completeRaw_coalescing (d : Dev) (c st r n : Nat) :
    ((d.completeRaw c st r).cq n).map Cq.coalescing = (d.cq n).map Cq.coalescing := by
  unfold Dev.completeRaw
  split
  · rfl
  · dsimp only
    split
    · next q hq =>
      split
      · rfl
      · refine (Posting.setCq _ _ (q := q) ?_ ?_).coalescing n
        · exact hq
        · rfl
    · rfl

section
variable {d : Dev} {c : Nat} {k : Ctx} (h : d.Runs c k)
include h

theorem Dev.Runs.complete (st r : Nat) : d.complete c st r = d.completeRaw c st r :=
  Dev.complete_live h.1 (by simp) h.2 st r

theorem Dev.Runs.mem_out (st r : Nat) :
    Emit.out (.completed k.sq k.e.cid.toNat st (BitVec.ofNat 64 r)) ∈ (d.complete c st r).out := by
  simp [h.complete, Dev.completeRaw_out h.1]

theorem Dev.Runs.sent (s : State) (st r : Nat) :
    Out.completed k.sq k.e.cid.toNat st (BitVec.ofNat 64 r) ∈ (s.settle (d.complete c st r)).sent :=
  s.mem_sent _ _ (mem_outsOf.2 (h.mem_out st r))

theorem Dev.Runs.coalescing (st r n : Nat) :
    ((d.complete c st r).cq n).map Cq.coalescing = (d.cq n).map Cq.coalescing := by
  rw [h.complete, Dev.completeRaw_coalescing]

end

theorem Dev.await_out (d : Dev) (c : Nat) (w : Wait) : (d.await c w).out = d.out := by
  unfold Dev.await
  split <;> rfl

theorem Dev.cq_await (d : Dev) (c : Nat) (w : Wait) (n : Nat) : (d.await c w).cq n = d.cq n := by
  unfold Dev.await
  split <;> rfl

/-- A command that runs does not change what the power state and start-up say of the device. -/
theorem Dev.power_await (d : Dev) (c : Nat) (w : Wait) : (d.await c w).powerState = d.powerState ∧
    (d.await c w).bootStep = d.bootStep ∧ (d.await c w).safe = d.safe ∧ (d.await c w).salState = d.salState := by
  unfold Dev.await
  split <;> exact ⟨rfl, rfl, rfl, rfl⟩

/-- The only command in flight is still the only one as it runs. -/
theorem Dev.only_await {d : Dev} {c : Nat} {k : Ctx} (h : d.que.ctxs = [(c, some k)]) (w : Wait) :
    ((d.await c w).que.ctxs.any fun e => e.1 != c) = false := by
  simp [Dev.await, Dev.ctx, Dev.setCtx, h, mget, mset, merase, mins]

/-! ### SET FEATURE and GET FEATURE (Table 13-12) -/

section
variable {s : State} {c : Nat} {k : Ctx}

theorem setFeaturePoll_sets (h : startable s.dev c k { b := [40, 44, 45] } = true) (hm : isFeature 0x05 k.e = true)
    (hlo : 5 ≤ k.e.le 44 2) (hhi : k.e.le 44 2 ≤ 1000) : After (.setFeaturePoll c) s fun t =>
      Out.completed k.sq k.e.cid.toNat St.success 0 ∈ t.sent ∧ t.dev.rd Reg.QUE_POLL_INTERVAL = k.e.le 44 2 := by
  refine ⟨_, rfl, ?_⟩
  dsimp only
  have hr : ((s.fresh.await c .run).wr Reg.QUE_POLL_INTERVAL (k.e.le 44 2)).Runs c k := Dev.runs_await h
  rw [State.fresh_served h hm, if_neg (by simp; omega)]
  refine ⟨hr.sent s _ 0, ?_⟩
  rw [State.settle_rd _ _ _ _ _ (by decide), (Calm.complete _ c _ _).rd _ _ _ (by decide)]
  exact (Dev.rd_wr_same _ _ _ _ _).trans (Nat.mod_eq_of_lt (hhi.trans_lt (by decide)))

theorem setFeatureCoalesce_sets (h : startable s.dev c k { b := [40, 42, 43, 44, 46, 47] } = true)
    (hm : isFeature 0x07 k.e = true) (hq : (s.dev.cq (k.e.le 42 2)).isSome = true) (ht : k.e.le 46 2 ≠ 0) :
    After (.setFeatureCoalesce c) s fun t => Out.completed k.sq k.e.cid.toNat St.success 0 ∈ t.sent ∧
      (t.dev.cq (k.e.le 42 2)).map (fun q => (q.count, q.timeUs)) = some (k.e.at 44, k.e.le 46 2) := by
  refine ⟨_, rfl, ?_⟩
  dsimp only
  obtain ⟨q, hq⟩ := Option.isSome_iff_exists.1 hq
  have he : (s.fresh.await c .run).cq (k.e.le 42 2) = some q := (s.fresh.cq_await c .run _).trans hq
  have hr : ((s.fresh.await c .run).setCq (k.e.le 42 2)
      (some { q with count := k.e.at 44, timeUs := k.e.le 46 2 })).Runs c k := Dev.runs_await h
  simp only [State.fresh_served h hm, he, if_neg ht]
  refine ⟨hr.sent s _ 0, ?_⟩
  refine (s.settle_coalescing _ _).trans ((hr.coalescing _ _ _).trans ?_)
  exact congrArg (Option.map Cq.coalescing) (mget_mset_same (s.fresh.await c .run).que.cqs none (some _) _)

theorem setFeatureArbitration_sets (h : startable s.dev c k { b := [40, 41, 42, 43] } = true)
    (hm : isFeature 0x08 k.e = true) (h1 : k.e.at 41 ≠ 0) (h2 : k.e.at 42 ≠ 0) (h3 : k.e.at 43 ≠ 0) :
    After (.setFeatureArbitration c) s fun t => Out.completed k.sq k.e.cid.toNat St.success 0 ∈ t.sent ∧
      t.dev.que.weights = [k.e.at 41, k.e.at 42, k.e.at 43] := by
  refine ⟨_, rfl, ?_⟩
  dsimp only
  have hr (w : List Nat) : ({ s.fresh.await c .run with
      que := { (s.fresh.await c .run).que with weights := w, credits := w } } : Dev).Runs c k := Dev.runs_await h
  rw [State.fresh_served h hm, if_neg (by simp [h1.symm, h2.symm, h3.symm])]
  refine ⟨(hr _).sent s _ 0, ?_⟩
  rw [State.settle_weights, (Calm.complete _ c _ _).weights]

theorem setFeatureEventFilter_sets (h : startable s.dev c k { b := [40, 41] } = true) (hm : isFeature 0x06 k.e = true)
    (hsev : k.e.at 41 ≤ 5) : After (.setFeatureEventFilter c) s fun t =>
      Out.completed k.sq k.e.cid.toNat St.success 0 ∈ t.sent ∧ t.evr.filter = k.e.at 41 := by
  refine ⟨_, rfl, ?_⟩
  dsimp only
  have hr : ((s.fresh.await c .run).emit (.filter (k.e.at 41))).Runs c k := Dev.runs_await h
  rw [State.fresh_served h hm, if_neg (Nat.not_lt.2 hsev)]
  refine ⟨hr.sent s _ 0, ?_⟩
  rw [State.settle_filter, hr.complete, Dev.completeRaw_out hr.1]
  have he : ((s.fresh.await c .run).emit (.filter (k.e.at 41))).out = [.filter (k.e.at 41)] :=
    congrArg (· ++ [Emit.filter (k.e.at 41)]) (s.fresh.await_out c .run)
  rw [he]
  rfl

theorem setFeaturePowerState_enters (h : startable s.dev c k { b := [40, 41] } = true) (hm : isFeature 0x01 k.e = true)
    (hdeep : k.e.at 41 = 1) (hidle : s.dev.powerState = 2) (hstep : s.dev.bootStep = 8) (hsafe : s.dev.safe = false)
    (honly : s.dev.que.ctxs = [(c, some k)]) (hsal : s.dev.salState ≠ 2) :
    After (.setFeaturePowerState c) s fun t => t.dev.clk.entering = true ∧
      Out.completed k.sq k.e.cid.toNat St.success 0 ∈ t.sent := by
  refine ⟨_, rfl, ?_⟩
  dsimp only
  have hr := Dev.runs_await h
  obtain ⟨hp, hb, hs, hl⟩ := s.fresh.power_await c .run
  have hn := Dev.only_await (d := s.fresh) honly .run
  have hready : ¬ ((s.fresh.await c .run).powerState != 2 || (s.fresh.await c .run).bootStep != 8 ||
      (s.fresh.await c .run).safe || (s.fresh.await c .run).que.ctxs.any fun e => e.1 != c) = true := by
    simp [hn, hp.trans hidle, hb.trans hstep, hs.trans hsafe]
  rw [State.fresh_served h hm, if_neg (by simp [hdeep]), if_neg hready, if_neg (by rw [hl]; exact hsal)]
  refine ⟨by rw [State.settle_clk], s.mem_sent _ _ (mem_outsOf.2 (hr.mem_out _ 0))⟩

/-- The features of the device as a whole: a GET FEATURE whose other bytes are 0 completes with what holds. -/
theorem Dev.getFeature_plain (d : Dev) (r : Recorder) {e : Sqe} (h41 : e.at 41 = 0) (h42 : e.at 42 = 0)
    (h43 : e.at 43 = 0) :
    (e.at 40 = 5 → d.getFeature r c e = d.complete c St.success (d.rd Reg.QUE_POLL_INTERVAL)) ∧
    (e.at 40 = 6 → d.getFeature r c e = d.complete c St.success r.filter) := by
  constructor <;> intro h40 <;> simp [Dev.getFeature, h40, h41, h42, h43]

theorem getFeature_answers (h : startable s.dev c k { b := [40, 41, 42, 43] } = true) (hm : (k.e.op == 0x08) = true)
    (h41 : k.e.at 41 = 0) (h42 : k.e.at 42 = 0) (h43 : k.e.at 43 = 0) :
    (k.e.at 40 = 5 → After (.getFeature c) s fun t => Out.completed k.sq k.e.cid.toNat St.success
      (BitVec.ofNat 64 (s.dev.rd Reg.QUE_POLL_INTERVAL)) ∈ t.sent) ∧
    (k.e.at 40 = 6 → After (.getFeature c) s fun t => Out.completed k.sq k.e.cid.toNat St.success
      (BitVec.ofNat 64 s.evr.filter) ∈ t.sent) := by
  have hr := Dev.runs_await h
  obtain ⟨hpoll, hfilter⟩ := (s.fresh.await c .run).getFeature_plain (c := c) s.evr h41 h42 h43
  refine ⟨fun h40 => ⟨_, rfl, ?_⟩, fun h40 => ⟨_, rfl, ?_⟩⟩
  · dsimp only
    rw [State.fresh_served h hm, hpoll h40, (Calm.await s.fresh c .run).rd _ _ _ (by decide)]
    exact hr.sent s _ _
  · dsimp only
    rw [State.fresh_served h hm, hfilter h40]
    exact hr.sent s _ _

end

end Sys2Proof.Machine

namespace Sys2Proof

open Sys2Proof.Machine Sys2Proof.Safety

/-- Settles O38: each feature's row is served and completes, and what posting the completion keeps holds after it. -/
theorem deviceFeatures : Obligations.DeviceFeatures := by
  refine ⟨?_, ?_, ?_, ?_, ?_, ?_, ?_⟩
  · exact fun s c k h hm hlo hhi => setFeaturePoll_sets h hm hlo hhi
  · exact fun s c k h hm hq ht => setFeatureCoalesce_sets h hm hq ht
  · exact fun s c k h hm h1 h2 h3 => setFeatureArbitration_sets h hm h1 h2 h3
  · exact fun s c k h hm hsev => setFeatureEventFilter_sets h hm hsev
  · exact fun s c k h hm hdeep hidle hstep hsafe honly hsal =>
      setFeaturePowerState_enters h hm hdeep hidle hstep hsafe honly hsal
  · exact fun s c k h hm h40 h41 h42 h43 => (getFeature_answers h hm h41 h42 h43).1 h40
  · exact fun s c k h hm h40 h41 h42 h43 => (getFeature_answers h hm h41 h42 h43).2 h40

end Sys2Proof

/-! SUPPORT. A cluster that fails with an attempt left (R198 to R202), and the windows of the deadline misses (R28). -/

namespace Sys2Proof.Machine

open Sys2Proof Sys2Proof.Safety

set_option Elab.async false

/-! ### Error bits and miss windows -/

section
variable (d : Dev)

theorem Dev.flag_errOnce_same {f : Fld} (hw : f.w = 1) (who inst addr : Nat) :
    (d.errOnce f who inst addr).flag f = true := by
  unfold Dev.errOnce
  dsimp only
  split
  · simp [Dev.flag, hw]
  · have h : (d.setErr f 0 0 inst addr).rd f = 1 := by
      rw [Dev.rd_setErr_same, hw]
      exact Nat.or_mod_two_eq_one.2 (.inr rfl)
    exact bne_iff_ne.2 (h ▸ Nat.one_ne_zero)

theorem Dev.rd_errOnce_ne {f g : Fld} (h : g.key 0 0 ≠ f.key 0 0) (who inst addr : Nat) :
    (d.errOnce f who inst addr).rd g = d.rd g := by
  unfold Dev.errOnce
  dsimp only
  split
  · exact d.rd_wr_ne f g _ 0 0 0 0 h
  · exact d.rd_setErr_ne f g 0 0 inst addr [] false 0 0 h

theorem Dev.errOnce_windows (f : Fld) (who inst addr : Nat) : (d.errOnce f who inst addr).windows = d.windows := by
  unfold Dev.errOnce
  dsimp only
  split <;> rfl

theorem Dev.errOnce_clus (f : Fld) (who inst addr : Nat) : (d.errOnce f who inst addr).yar.clus = d.yar.clus := by
  unfold Dev.errOnce
  dsimp only
  split <;> rfl

theorem Dev.rd_miss (r inst : Nat) (f : Fld) : (d.miss r inst).rd f = d.rd f := by
  unfold Dev.miss
  dsimp only
  split <;> rfl

/-- A miss opens a window, or counts in the one that is open. -/
theorem Dev.miss_isSome (r inst : Nat) : (mget (d.miss r inst).windows none (r * 65536 + inst)).isSome = true := by
  have opened (e : BitVec 64 × Nat) :
      (mget (mset d.windows none (r * 65536 + inst) (some e)) none (r * 65536 + inst)).isSome = true := by simp
  unfold Dev.miss
  dsimp only
  split <;> exact opened _

/-- The end of a window closes it. -/
theorem Dev.missEnd_closes (r inst : Nat) : mget (d.missEnd r inst).windows none (r * 65536 + inst) = none := by
  have closed : mget (mset d.windows none (r * 65536 + inst) none) none (r * 65536 + inst) = none := by simp
  unfold Dev.missEnd
  dsimp only
  split
  · assumption
  · split <;> exact closed

/-! ### Clusters -/

theorem Dev.clu_key {d : Dev} {p a : Nat} {c : Clu} (h : d.clu p a = some c) : c.pk = p ∧ c.addr = a := by
  simpa using List.find?_some h

theorem Dev.cluClose_keeps (p a : Nat) : (d.cluClose p a).fv = d.fv ∧ (d.cluClose p a).windows = d.windows ∧
    (d.cluClose p a).yar.clus = d.yar.clus := by
  unfold Dev.cluClose
  split <;> exact ⟨rfl, rfl, rfl⟩

/-- A cluster put at its pickup and address is found there. -/
theorem Dev.clu_putClu (c : Clu) : (d.putClu c.pk c.addr (some c)).clu c.pk c.addr = some c := by
  have others : (d.yar.clus.filter fun q => !(q.pk == c.pk && q.addr == c.addr)).find?
      (fun q => q.pk == c.pk && q.addr == c.addr) = none :=
    List.find?_eq_none.2 fun q hq => by simpa [imp_iff_not_or] using (List.mem_filter.1 hq).2
  simp only [Dev.clu, Dev.putClu, List.find?_append, others]
  simp

/-- A cluster that failed and may be read again is reported, with CLU_FAIL and its next attempt (R202). -/
def Dev.cluRetry (d : Dev) (c : Clu) : Dev :=
  (((d.bump Reg.YAR_CNT_CLU_FAIL_COUNT).cluClose c.pk c.addr).cluErr Reg.YAR_ERR_CLU_FAIL c.pk c.addr).noteReread
    c.disc c.addr (some (c.attempt + 1))

theorem Dev.cluRetry_keeps (c : Clu) : (d.cluRetry c).windows = d.windows ∧ (d.cluRetry c).yar.clus = d.yar.clus := by
  obtain ⟨-, hw, hc⟩ := (d.bump Reg.YAR_CNT_CLU_FAIL_COUNT).cluClose_keeps c.pk c.addr
  exact ⟨(Dev.errOnce_windows _ _ _ _ _).trans hw, (Dev.errOnce_clus _ _ _ _ _).trans hc⟩

theorem Dev.flag_cluRetry (c : Clu) : (d.cluRetry c).flag Reg.YAR_ERR_CLU_FAIL = true :=
  Dev.flag_errOnce_same _ rfl _ _ _

theorem Dev.rd_cluClose (p a : Nat) (f : Fld) : (d.cluClose p a).rd f = d.rd f := Dev.rd_of_fv (d.cluClose_keeps p a).1 f 0 0

theorem Dev.rd_cluRetry (c : Clu) {f : Fld} (hf : f.key 0 0 ≠ Reg.YAR_ERR_CLU_FAIL.key 0 0)
    (hn : f.key 0 0 ≠ Reg.YAR_CNT_CLU_FAIL_COUNT.key 0 0) : (d.cluRetry c).rd f = d.rd f :=
  (Dev.rd_errOnce_ne _ hf _ _ _).trans ((Dev.rd_cluClose _ _ _ f).trans (d.rd_bump_ne _ f _ _ _ _ _ hn))

variable {d} {c : Clu} (h : c.attempt + 1 ≤ d.rd Reg.YAR_OUTER_REREAD_MAX)
include h

theorem Dev.cluFail_retry : d.cluFail c =
    if c.acc && decide (((d.cluRetry c).yar.clus.filter fun q => q.held && !(q.pk == c.pk && q.addr == c.addr)).length < 256)
    then (d.cluRetry c).putClu c.pk c.addr (some { c with held := true, attempt := c.attempt + 1 })
    else ((d.cluRetry c).putClu c.pk c.addr none).setAttempts c.disc c.addr (c.attempt + 1) := by
  have hmax : ((d.bump Reg.YAR_CNT_CLU_FAIL_COUNT).cluClose c.pk c.addr).rd Reg.YAR_OUTER_REREAD_MAX =
      d.rd Reg.YAR_OUTER_REREAD_MAX := (Dev.rd_cluClose _ _ _ _).trans (d.rd_bump_ne _ _ _ _ _ _ _ (by decide))
  unfold Dev.cluFail
  dsimp only
  rw [if_neg (by rw [hmax]; omega)]
  rfl

omit h in
theorem State.settle_clu (s : State) (d : Dev) (p a : Nat) : (s.settle d).dev.clu p a = d.clu p a := by
  rw [Dev.clu, Dev.clu, State.settle_yar]

/-- With an accumulator pair and a free place it is held for the re-read. -/
theorem Dev.cluFail_held (hacc : c.acc = true)
    (hfree : (d.yar.clus.filter fun q => q.held && !(q.pk == c.pk && q.addr == c.addr)).length < 256) :
    (d.cluFail c).clu c.pk c.addr = some { c with held := true, attempt := c.attempt + 1 } := by
  have again := (d.cluRetry c).clu_putClu { c with held := true, attempt := c.attempt + 1 }
  rwa [Dev.cluFail_retry h, (d.cluRetry_keeps c).2, if_pos (by rw [hacc, decide_eq_true hfree]; rfl)]

/-- Held or not, the registers and the windows are those of the report. -/
theorem Dev.cluFail_keeps : (d.cluFail c).fv = (d.cluRetry c).fv ∧ (d.cluFail c).windows = d.windows := by
  have held (e : Dev) (x : Option Clu) :
      (e.putClu c.pk c.addr x).fv = e.fv ∧ (e.putClu c.pk c.addr x).windows = e.windows := ⟨rfl, rfl⟩
  have dropped (e : Dev) (n : Nat) : ((e.putClu c.pk c.addr none).setAttempts c.disc c.addr n).fv = e.fv ∧
      ((e.putClu c.pk c.addr none).setAttempts c.disc c.addr n).windows = e.windows := ⟨rfl, rfl⟩
  rw [Dev.cluFail_retry h, ← (d.cluRetry_keeps c).1]
  split
  · exact held _ _
  · exact dropped _ _

theorem Dev.rd_cluFail (f : Fld) : (d.cluFail c).rd f = (d.cluRetry c).rd f := Dev.rd_of_fv (Dev.cluFail_keeps h).1 f 0 0

theorem Dev.flag_cluFail : (d.cluFail c).flag Reg.YAR_ERR_CLU_FAIL = true := by
  rw [Dev.flag, Dev.rd_cluFail h]
  exact d.flag_cluRetry c

end

/-- Erasures not yet known are added to those of the cluster. -/
theorem foldl_erased {l : List Nat} {c : Clu} (hl : l.Nodup) (hc : ∀ r ∈ l, r ∉ c.bad) :
    l.foldl Clu.erased c = { c with bad := c.bad ++ l } := by
  induction l generalizing c with
  | nil => simp
  | cons r t ih =>
    obtain ⟨hr, ht⟩ := List.nodup_cons.1 hl
    have hone : c.erased r = { c with bad := c.bad ++ [r] } := by simp [Clu.erased, hc r List.mem_cons_self]
    rw [List.foldl_cons, hone, ih ht]
    · simp
    · intro q hq
      have hne : q ≠ r := fun e => hr (e ▸ hq)
      simpa [hne] using hc q (List.mem_cons_of_mem _ hq)

/-- The counts of erased frames leave the decoders, and the attempts allowed. -/
theorem foldl_countErased (p a : Nat) (l : List Nat) (d : Dev) :
    (l.foldl (fun d r => d.countErased p a r) d).yar = d.yar ∧
    (l.foldl (fun d r => d.countErased p a r) d).rd Reg.YAR_OUTER_REREAD_MAX = d.rd Reg.YAR_OUTER_REREAD_MAX := by
  induction l generalizing d with
  | nil => exact ⟨rfl, rfl⟩
  | cons r t ih =>
    have hspot (n : Nat) : Reg.YAR_OUTER_REREAD_MAX.key 0 0 ≠ Reg.YAR_SP_CNT_B_FAILED.key n 0 := by
      simp only [Fld.key, Reg.YAR_OUTER_REREAD_MAX, Reg.YAR_SP_CNT_B_FAILED]
      omega
    have hone : (d.countErased p a r).rd Reg.YAR_OUTER_REREAD_MAX = d.rd Reg.YAR_OUTER_REREAD_MAX :=
      (Dev.rd_bump_ne _ _ _ _ _ _ _ _ (hspot _)).trans (d.rd_bump_ne _ _ _ _ _ _ _ (by decide))
    exact ⟨(ih _).1, (ih _).2.trans hone⟩

/-- More than two erasures cannot be solved. -/
theorem Dev.cluSolve_many {d : Dev} {c : Clu} (hacc : c.acc = true) (h : 2 < c.bad.length) : d.cluSolve c = d.cluFail c := by
  match hb : c.bad with
  | [] | [_] | [_, _] => simp [hb] at h
  | _ :: _ :: _ :: _ => simp [Dev.cluSolve, hacc, hb]

/-- The frames of a cluster that have neither been accepted nor erased. -/
def Clu.missing (c : Clu) : List Nat := (List.range 18).filter fun r => !c.got.contains r && !c.bad.contains r

/-- A cluster with its missing frames among the erasures. -/
def Clu.closed (c : Clu) : Clu := { c with bad := c.bad ++ c.missing }

/-- A timeout makes the missing frames erasures, and the cluster is solved with them (R198). -/
theorem Dev.cluTimeout_solves {d : Dev} {p a : Nat} {c : Clu} (hc : d.clu p a = some c) (hh : c.held = false)
    (ho : d.cluClosed p a = false) : d.cluTimeout p a =
      (c.missing.foldl (fun d r => d.countErased p a r) d).cluSolve c.closed := by
  have herased : c.missing.foldl Clu.erased c = c.closed :=
    foldl_erased (List.nodup_range.filter _) fun r hr => by simp_all [Clu.missing]
  unfold Dev.cluTimeout
  rw [hc]
  dsimp only
  rw [if_neg (by simp [ho]), if_neg (by simp [hh])]
  exact congrArg (Dev.cluSolve _) herased

section
variable {s : State} {p : Pk} {a : Word} {c : Clu} (hc : s.dev.clu p a.toNat = some c)
include hc

theorem clusterTimeout_held (hh : c.held = false) (ho : s.dev.cluClosed p a.toNat = false) (hacc : c.acc = true)
    (hmany : 2 < c.closed.bad.length) (hmax : c.attempt + 1 ≤ s.dev.rd Reg.YAR_OUTER_REREAD_MAX)
    (hfree : (s.dev.yar.clus.filter fun q => q.held && !(q.pk == c.pk && q.addr == c.addr)).length < 256) :
    After (.clusterTimeout p a) s fun t =>
      (t.dev.clu p a.toNat).map (fun q => (q.held, q.attempt, q.bad)) = some (true, c.attempt + 1, c.closed.bad) ∧
      t.dev.flag Reg.YAR_ERR_CLU_FAIL = true := by
  obtain ⟨hyar, hrd⟩ := foldl_countErased p a.toNat c.missing s.fresh
  have hleft : c.closed.attempt + 1 ≤
      (c.missing.foldl (fun d r => d.countErased p a.toNat r) s.fresh).rd Reg.YAR_OUTER_REREAD_MAX := by rw [hrd]; exact hmax
  have hheld := Dev.cluFail_held hleft hacc (by rw [hyar]; exact hfree)
  obtain ⟨hp, ha⟩ := Dev.clu_key hc
  rw [show c.closed.pk = p from hp, show c.closed.addr = a.toNat from ha] at hheld
  refine ⟨_, rfl, ?_⟩
  dsimp only
  rw [Dev.cluTimeout_solves (d := s.fresh) hc hh ho, Dev.cluSolve_many (c := c.closed) hacc hmany]
  refine ⟨?_, ?_⟩
  · rw [State.settle_clu, hheld]
    rfl
  · rw [State.settle_flag _ _ _ _ _ (by decide), Dev.flag_cluFail hleft]

theorem assemblyDeadlineMiss_reported (hmax : c.attempt + 1 ≤ s.dev.rd Reg.YAR_OUTER_REREAD_MAX) :
    After (.assemblyDeadlineMiss p a) s fun t => t.dev.flag Reg.YAR_ERR_ASSEMBLY_MISS = true ∧
      t.dev.flag Reg.YAR_ERR_CLU_FAIL = true ∧ (mget t.dev.windows none (6 * 65536 + p.val)).isSome = true := by
  have hwait : s.fresh.clu p a.toNat = some c := hc
  have hleft : c.attempt + 1 ≤
      ((s.fresh.cluErr Reg.YAR_ERR_ASSEMBLY_MISS p a.toNat).miss 6 p).rd Reg.YAR_OUTER_REREAD_MAX := by
    rw [Dev.rd_miss, Dev.cluErr, Dev.rd_errOnce_ne _ (by decide)]
    exact hmax
  refine ⟨_, rfl, ?_⟩
  dsimp only
  rw [hwait]
  refine ⟨?_, ?_, ?_⟩
  · rw [State.settle_flag _ _ _ _ _ (by decide), Dev.flag, Dev.rd_cluFail hleft,
      Dev.rd_cluRetry _ _ (by decide) (by decide), Dev.rd_miss]
    exact Dev.flag_errOnce_same _ rfl _ _ _
  · rw [State.settle_flag _ _ _ _ _ (by decide), Dev.flag_cluFail hleft]
  · rw [State.settle_windows, (Dev.cluFail_keeps hleft).2]
    exact Dev.miss_isSome _ 6 p

end

theorem deadlineWindowEnd_closes (s : State) (r : Fin 8) (i : Nat) :
    After (.deadlineWindowEnd r i) s fun t => mget t.dev.windows none (r.val * 65536 + i) = none := by
  refine ⟨_, rfl, ?_⟩
  dsimp only
  rw [State.settle_windows]
  exact Dev.missEnd_closes _ r i

end Sys2Proof.Machine

namespace Sys2Proof

open Sys2Proof.Machine Sys2Proof.Safety

/-- Settles O21: more than two erasures fail a cluster, and one that fails with an attempt left is reported and held. -/
theorem clusterTimersAndMissWindows : Obligations.ClusterTimersAndMissWindows := by
  refine ⟨?_, ?_, ?_⟩
  · exact fun s p a c hc hh ho hacc hmany hmax hfree => clusterTimeout_held hc hh ho hacc hmany hmax hfree
  · exact fun s p a c hc hmax => assemblyDeadlineMiss_reported hc hmax
  · exact fun s r i e _ => deadlineWindowEnd_closes s r i

end Sys2Proof

/-! SUPPORT. The start of a downstream superframe: what it sends on a port, and what sends no more than cells behind it
(R27, R81 to R85, R97, R109). -/

namespace Sys2Proof.Machine

open Sys2Proof Sys2Proof.Safety

set_option Elab.async false

/-- From `a` to `b` requests are added to those made, the port keeps its superframe and its last ACTUATOR cell, and no
burn of the pickup begins. -/
structure Sends (p : Nat) (a b : Dev) : Prop where
  out : ∃ l, b.out = a.out ++ l
  sf : (b.port p).sf = (a.port p).sf
  lastCell : (b.port p).lastCell = (a.port p).lastCell
  burn : a.burn p = none → b.burn p = none

namespace Sends

variable {p : Nat} {a b c : Dev}

theorem mem (h : Sends p a b) {e : Emit} (he : e ∈ a.out) : e ∈ b.out := by
  obtain ⟨l, hl⟩ := h.out
  rw [hl]
  exact List.mem_append_left l he

theorem of_same (ho : b.out = a.out) (hp : b.ports = a.ports) (hb : b.burns = a.burns) : Sends p a b :=
  ⟨⟨[], by simp [ho]⟩, by rw [Dev.port, Dev.port, hp], by rw [Dev.port, Dev.port, hp],
    fun h => by rw [Dev.burn, hb]; exact h⟩

theorem refl (p : Nat) (a : Dev) : Sends p a a := of_same rfl rfl rfl

theorem trans (h : Sends p a b) (g : Sends p b c) : Sends p a c := by
  obtain ⟨⟨l, hl⟩, hs, hc, hb⟩ := h
  obtain ⟨⟨m, hm⟩, gs, gc, gb⟩ := g
  exact ⟨⟨l ++ m, by rw [hm, hl, List.append_assoc]⟩, gs.trans hs, gc.trans hc, fun h => gb (hb h)⟩

/-- `trans`, the second step first: it says from where the first step leads. -/
theorem after (g : Sends p b c) (h : Sends p a b) : Sends p a c := h.trans g

theorem foldl {α : Type} {f : Dev → α → Dev} (h : ∀ d x, Sends p d (f d x)) (l : List α) (d : Dev) :
    Sends p d (l.foldl f d) := by
  induction l generalizing d with
  | nil => exact refl p d
  | cons x t ih => exact (h d x).trans (ih _)

variable (d : Dev)

theorem emit (e : Emit) : Sends p d (d.emit e) := ⟨⟨[e], rfl⟩, rfl, rfl, id⟩

theorem wr (f : Fld) (v i j : Nat) : Sends p d (d.wr f v i j) := of_same rfl rfl rfl

theorem bump (f : Fld) (n i j : Nat) : Sends p d (d.bump f n i j) := wr d f _ i j

theorem setSvo (q : Nat) (x : Servo) : Sends p d (d.setSvo q x) := of_same rfl rfl rfl

theorem setCalPk (q : Nat) (x : CalPk) : Sends p d (d.setCalPk q x) := of_same rfl rfl rfl

theorem setErr (f : Fld) (k i inst addr : Nat) (further : List (Nat × Nat × Nat)) (force : Bool) :
    Sends p d (d.setErr f k i inst addr further force) :=
  .after (emit _ _) (wr d f _ i 0)

/-- A change of the port that keeps its superframe and its last cell. -/
theorem setPort (x : Port) (hs : x.sf = (d.port p).sf := by rfl) (hc : x.lastCell = (d.port p).lastCell := by rfl) :
    Sends p d (d.setPort p x) :=
  ⟨⟨[], by simp⟩, by simpa using hs, by simpa using hc, id⟩

/-- A burn that goes on. -/
theorem setBurn {y : Burn} (h : d.burn p = some y) (x : Burn) : Sends p d (d.setBurn p (some x)) :=
  ⟨⟨[], by simp⟩, rfl, rfl, fun hn => absurd (h.symm.trans hn) (by simp)⟩

theorem sendDown (c : DownCell) : Sends p d (d.sendDown p c) := by
  unfold Dev.sendDown
  split
  · exact refl p d
  · exact .after (emit _ _) (setPort d _)

theorem ctlNow (op : CtlOp) (tries : Nat) : Sends p d (d.ctlNow p op tries) := by
  unfold Dev.ctlNow Dev.sendControl
  exact .after (sendDown _ _) (setPort d _)

theorem ctl (op : CtlOp) : Sends p d (d.ctl p op) := by
  unfold Dev.ctl
  split
  · exact ctlNow d op 0
  · split
    · exact setPort d _
    · exact refl p d

/-! ### write_en falls (R227, R272) -/

theorem drawFail (addr cause : Nat) (replace : Bool) : Sends p d (d.drawFail p addr cause replace) := by
  unfold Dev.drawFail
  split
  · exact refl p d
  · next b hb =>
    split
    · exact refl p d
    · have failed (x : Burn) : Sends p d
          ((((d.setBurn p (some x)).setErr Reg.WCH_ERR_VERIFY_FAIL 0 0 p addr).bump Reg.WCH_CNT_VFAIL_COUNT).bump
            Reg.WCH_PK_CNT_VFAIL 1 p) :=
        .after (bump _ _ _ _ _) (.after (bump _ _ _ _ _) (.after (setErr _ _ _ _ _ _ _ _) (setBurn d hb x)))
      dsimp only
      split
      · split
        · exact .after (bump _ _ _ _ _) (.after (bump _ _ _ _ _) (failed _))
        · exact failed _
      · exact failed _

theorem failUnfinished (w : Nat) : Sends p d (d.failUnfinished p w) := by
  unfold Dev.failUnfinished
  split
  · exact refl p d
  · next b hb => exact .trans (setBurn d hb _) (foldl (fun d f => drawFail d _ _ _) _ _)

theorem writeCut (okSf sf : Nat) : Sends p d (d.writeCut p okSf sf) := by
  unfold Dev.writeCut
  split
  · exact refl p d
  · split
    · exact refl p d
    · have abort : Sends p d (d.writeAbort p 0xFF) := by
        unfold Dev.writeAbort
        split
        · exact ctl d _
        · exact refl p d
      dsimp only
      refine .after (foldl (fun d q => drawFail d _ _ _) _ _) (.after (foldl (fun d w => failUnfinished d w) _ _) ?_)
      split
      · exact abort.trans (setErr _ _ _ _ _ _ _ _)
      · exact abort

theorem svoErr (f : Fld) : Sends p d (d.svoErr f p) := by
  unfold Dev.svoErr
  dsimp only
  generalize (d.svo p).errAt.any _ = made
  split
  · exact wr d _ _ _ _
  · exact .after (setSvo _ _ _) (setErr d _ _ _ _ _ _ _)

theorem writeOffAt (sf : Nat) : Sends p d (d.writeOffAt p sf) := by
  unfold Dev.writeOffAt
  dsimp only
  split
  · exact refl p d
  · split
    · exact .after (writeCut _ _ _) (.after (bump _ _ _ _ _) (.after (svoErr _ _) (setSvo d _ _)))
    · exact setSvo d _ _

theorem emitOnly (sf : Nat) : Sends p d (d.emitOnly p sf) := by
  unfold Dev.emitOnly
  split
  · exact refl p d
  · next b hb =>
    split
    · exact refl p d
    · exact setBurn d hb _

theorem miss (r inst : Nat) : Sends p d (d.miss r inst) := by
  unfold Dev.miss
  dsimp only
  split
  · exact .after (emit _ _) (of_same rfl rfl rfl)
  · exact of_same rfl rfl rfl

/-! ### The engine goes to OFF (R303) -/

theorem setSpot (g : Nat) (x : Spot) : Sends p d (d.setSpot g x) :=
  of_same (d.setSpot_out g x) (d.setSpot_ports g x) (d.setSpot_burns g x)

theorem checkJoint : Sends p d d.checkJoint := of_same rfl rfl rfl

theorem spotIdle (g : Nat) : Sends p d (d.spotIdle g) := by
  have missed : Sends p d (d.missRest g) := by
    unfold Dev.missRest
    dsimp only
    split
    · exact refl p d
    · exact .after (setSpot _ _ _) (of_same rfl rfl rfl)
  unfold Dev.spotIdle
  dsimp only
  split
  · exact refl p d
  · split
    · exact .after (setSpot _ _ _) missed
    · exact .after (checkJoint _) (.after (wr _ _ _ _ _) (.after (setSpot _ _ _) missed))

theorem offTrack : Sends p d (d.offTrack p) :=
  .after (setSvo _ _ _) (.after (foldl (fun d g => spotIdle d g) _ _) (writeOffAt d _))

theorem setLoopMode (l m : Nat) : Sends p d (d.setLoopMode p l m) := by
  unfold Dev.setLoopMode
  dsimp only
  split
  · exact wr d _ _ _ _
  · exact .after (setSvo _ _ _) (wr d _ _ _ _)

/-- With no burn on the pickup there is none to end. -/
theorem svoOff (h : d.burn p = none) : Sends p d (d.svoOff p) := by
  have stopped : Sends p d (((d.offTrack p).setSvoState p 0).each 5 fun d l => d.setLoopMode p l 0) :=
    .after (foldl (fun d l => setLoopMode d l 0) _ _) (.after (wr _ _ _ _ _) (offTrack d))
  have none_ends {e : Dev} (he : Sends p d e) : Sends p d (e.burnEnd p) := by
    have hn := he.burn h
    unfold Dev.burnEnd
    rwa [hn]
  unfold Dev.svoOff
  dsimp only
  generalize Dev.each _ 5 _ = e at stopped ⊢
  have off (x : Servo) (y : CalPk) :
      Sends p d ((((e.setSvo p x).setCalPk p y).setVerified p false).wr Reg.SVO_TARGET_VALID 0 p) :=
    .after (wr _ _ _ _ _) (.after (wr _ _ _ _ _) (.after (setCalPk _ _ _) (.after (setSvo _ _ _) stopped)))
  split
  · exact off _ _
  · exact none_ends (off _ _)

theorem resumeCount : Sends p d (d.resumeCount p) := by
  unfold Dev.resumeCount
  dsimp only
  split
  · exact refl p d
  · split
    · exact .after (ctl _ _) (setSvo d _ _)
    · exact setSvo d _ _

end Sends

end Sys2Proof.Machine

/-! SUPPORT. The start of a downstream superframe: its SFS on each lane, and the ACTUATOR cell behind it (R81 to R85,
R97). -/

namespace Sys2Proof.Machine

open Sys2Proof Sys2Proof.Safety

set_option Elab.async false

theorem State.settle_port (s : State) (d : Dev) (p : Nat) : (s.settle d).dev.port p = d.port p := by
  rw [Dev.port, Dev.port, State.settle_ports]

theorem Sends.settle_sf {p : Nat} {a b : Dev} (h : Sends p a b) (s : State) :
    ((s.settle b).dev.port p).sf = (a.port p).sf := by rw [State.settle_port, h.sf]

theorem Sends.settle_lastCell {p : Nat} {a b : Dev} (h : Sends p a b) (s : State) :
    ((s.settle b).dev.port p).lastCell = (a.port p).lastCell := by rw [State.settle_port, h.lastCell]

/-- What was asked for on the way to a device is sent. -/
theorem Sends.sent {p : Nat} {a b : Dev} (h : Sends p a b) {o : Out} (ho : Emit.out o ∈ a.out) (s : State) :
    o ∈ (s.settle b).sent := s.mem_sent _ _ (mem_outsOf.2 (h.mem ho))

/-- Outside a test a cell that is sent goes out. -/
theorem Dev.mem_sendDown {d : Dev} {p : Nat} (h : d.rd Reg.SOR_CFG_TEST p = 0) (c : DownCell) :
    Emit.out (.down p c) ∈ (d.sendDown p c).out := by
  simp [Dev.sendDown, h, Dev.send, Dev.emit]

/-! ### The start block of a superframe -/

/-- The part of `Dev.sendSfs` for one lane. -/
def Dev.sfsLane (d : Dev) (p s code l : Nat) : Dev :=
  let x := d.port p
  if x.lostDn.getLsbD l then d.setPort p { x with queue := x.queue.set l [] }
  else
    let q := Machine.drain (sfsUnits s) (x.queue.getD l [])
    let d := d.setPort p { x with queue := x.queue.set l q.2 }
    let v := if q.1 < 16 then (q.1, d) else d.draw 4
    v.2.sendDown p (.sfs l code (s % 2 ^ 32) (sfsOffset s) v.1)

theorem Dev.sendSfs_eq (d : Dev) (p s code : Nat) : d.sendSfs p s code = (d.sfsLane p s code 0).sfsLane p s code 1 := rfl

/-- From `a` to `b` all stays that an ACTUATOR cell is made of. -/
structure CellKeeps (p : Nat) (a b : Dev) : Prop where
  fv : b.fv = a.fv
  servos : b.servos = a.servos
  cal : b.cal = a.cal
  lostDn : (b.port p).lostDn = (a.port p).lostDn

namespace CellKeeps

variable {p : Nat} {a b c : Dev}

theorem trans (h : CellKeeps p a b) (g : CellKeeps p b c) : CellKeeps p a c :=
  ⟨g.fv.trans h.fv, g.servos.trans h.servos, g.cal.trans h.cal, g.lostDn.trans h.lostDn⟩

theorem setPort (d : Dev) (x : Port) (hl : x.lostDn = (d.port p).lostDn := by rfl) : CellKeeps p d (d.setPort p x) :=
  ⟨rfl, rfl, rfl, by simpa using hl⟩

theorem sendDown (d : Dev) (x : DownCell) : CellKeeps p d (d.sendDown p x) := by
  unfold Dev.sendDown
  split
  · exact ⟨rfl, rfl, rfl, rfl⟩
  · exact .trans (setPort d _) ⟨rfl, rfl, rfl, rfl⟩

theorem rd (h : CellKeeps p a b) (f : Fld) (i j : Nat) : b.rd f i j = a.rd f i j := Dev.rd_of_fv h.fv f i j

theorem owns (h : CellKeeps p a b) : b.owns p = a.owns p := by rw [Dev.owns, Dev.owns, h.rd]

theorem svo (h : CellKeeps p a b) : b.svo p = a.svo p := by rw [Dev.svo, Dev.svo, h.servos]

theorem svoState (h : CellKeeps p a b) : b.svoState p = a.svoState p := h.rd _ _ _

theorem svoRuns (h : CellKeeps p a b) : b.svoRuns p = a.svoRuns p := by rw [Dev.svoRuns, Dev.svoRuns, h.svoState]

theorem calSweeps (h : CellKeeps p a b) : b.calSweeps p = a.calSweeps p := by
  rw [Dev.calSweeps, Dev.calSweeps, h.svoState, Dev.calPk, Dev.calPk, h.cal]

theorem downLanes (h : CellKeeps p a b) : b.downLanes p = a.downLanes p := by rw [Dev.downLanes, Dev.downLanes, h.lostDn]

theorem actuatorCell (h : CellKeeps p a b) (sf : Nat) : b.actuatorCell p sf = a.actuatorCell p sf := by
  unfold Dev.actuatorCell Dev.svoZone Dev.svoTarget
  rw [h.svo, h.svoState, h.svoRuns, h.calSweeps, h.downLanes]
  simp only [h.rd]

end CellKeeps

/-- What a start block does besides: it sends, and keeps all that an ACTUATOR cell is made of. -/
structure SfsKeeps (p : Nat) (a b : Dev) : Prop where
  cell : CellKeeps p a b
  sends : Sends p a b

namespace SfsKeeps

variable {p : Nat} {a b c : Dev}

theorem trans (h : SfsKeeps p a b) (g : SfsKeeps p b c) : SfsKeeps p a c :=
  ⟨h.cell.trans g.cell, h.sends.trans g.sends⟩

theorem sfsLane (d : Dev) (s code l : Nat) : SfsKeeps p d (d.sfsLane p s code l) := by
  have queued (q : List (List Nat)) : SfsKeeps p d (d.setPort p { d.port p with queue := q }) :=
    ⟨.setPort d _, .setPort d _⟩
  unfold Dev.sfsLane
  dsimp only
  split
  · exact queued _
  · refine .trans ?_ ⟨.sendDown _ _, .sendDown _ _⟩
    split
    · exact queued _
    · exact (queued _).trans ⟨⟨rfl, rfl, rfl, rfl⟩, .of_same rfl rfl rfl⟩

theorem sendSfs (d : Dev) (s code : Nat) : SfsKeeps p d (d.sendSfs p s code) :=
  .trans (sfsLane d s code 0) (sfsLane _ s code 1)

end SfsKeeps

/-- The SFS of a lane, where the lane is not lost, and what follows of the lane's cells at the next start block. -/
def Dev.sfsOut (d : Dev) (p s code l : Nat) : List Emit :=
  if (d.port p).lostDn.getLsbD l then []
  else [.out (.down p (.sfs l code (s % 2 ^ 32) (sfsOffset s)
    (Machine.drain (sfsUnits s) ((d.port p).queue.getD l [])).1))]

section
variable {d : Dev} {p s code l : Nat} (ht : d.rd Reg.SOR_CFG_TEST p = 0)
include ht

/-- A start block takes no place in the queue of cells. -/
theorem Dev.sendDown_sfs (a b c e f : Nat) :
    (d.sendDown p (.sfs a b c e f)).out = d.out ++ [.out (.down p (.sfs a b c e f))] ∧
    ((d.sendDown p (.sfs a b c e f)).port p).queue = (d.port p).queue := by
  have hq : ((d.port p).queue.mapIdx fun l q => if Nat.testBit 0 l then q ++ [0] else q) = (d.port p).queue := by
    simp [List.mapIdx_eq_iff]
  rw [Dev.sendDown, if_neg (by simp [ht])]
  exact ⟨rfl, (congrArg Port.queue (d.port_setPort_same p _)).trans hq⟩

/-- Where the lane's queue says when its next cell starts, the SFS is all that is sent, and the other queues stay. -/
theorem Dev.sfsLane_sends (hn : (Machine.drain (sfsUnits s) ((d.port p).queue.getD l [])).1 < 16) :
    (d.sfsLane p s code l).out = d.out ++ d.sfsOut p s code l ∧
    ∀ m, m ≠ l → ((d.sfsLane p s code l).port p).queue.getD m [] = (d.port p).queue.getD m [] := by
  have others (v : List Nat) (m : Nat) (hm : m ≠ l) :
      ((d.port p).queue.set l v).getD m [] = (d.port p).queue.getD m [] := by
    simp [List.getD, List.getElem?_set_ne hm.symm]
  unfold Dev.sfsLane Dev.sfsOut
  dsimp only
  split
  · exact ⟨by simp, fun m hm => by rw [Dev.port_setPort_same]; exact others _ m hm⟩
  · refine ⟨(Dev.sendDown_sfs (d := d.setPort p _) ht _ _ _ _ _).1, fun m hm => ?_⟩
    rw [(Dev.sendDown_sfs (d := d.setPort p _) ht _ _ _ _ _).2, Dev.port_setPort_same]
    exact others _ m hm

theorem Dev.sendSfs_out (h0 : (Machine.drain (sfsUnits s) ((d.port p).queue.getD 0 [])).1 < 16)
    (h1 : (Machine.drain (sfsUnits s) ((d.port p).queue.getD 1 [])).1 < 16) :
    (d.sendSfs p s code).out = d.out ++ (d.sfsOut p s code 0 ++ d.sfsOut p s code 1) := by
  have hkeep := SfsKeeps.sfsLane (p := p) d s code 0
  obtain ⟨ho, hq⟩ := Dev.sfsLane_sends (code := code) ht h0
  have hq1 := hq 1 (by decide)
  have hnext : (d.sfsLane p s code 0).sfsOut p s code 1 = d.sfsOut p s code 1 := by
    simp only [Dev.sfsOut, hkeep.cell.lostDn, hq1]
  obtain ⟨ho1, -⟩ := Dev.sfsLane_sends (d := d.sfsLane p s code 0) (code := code) (l := 1)
    ((hkeep.cell.rd _ _ _).trans ht) (by rw [hq1]; exact h1)
  rw [Dev.sendSfs_eq, ho1, ho, hnext, List.append_assoc]

end

/-! ### The superframe -/

/-- A port that carries traffic counts its superframe. -/
def Dev.nextSf (d : Dev) (p : Nat) : Dev :=
  d.setPort p { d.port p with sf := (d.port p).sf + 1, quiet := (d.port p).quiet.map (· + 1), servo := [], ticked := false }

/-- The device once the SFS of the next superframe has been sent. -/
def Dev.framed (d : Dev) (p : Nat) : Dev := (d.nextSf p).sendSfs p ((d.port p).sf + 1) 0xE1

/-- On a port that carries traffic, in no test, what a superframe does after its SFS. -/
theorem Dev.superframe_up {d : Dev} {p : Nat} (hup : d.portUp p = true) (ht : d.rd Reg.SOR_CFG_TEST p = 0)
    (late : BitVec 8) (missed : Bool) : d.superframe p late missed =
      if !(d.framed p).owns p || ((d.framed p).svoState p == 0 && ((d.framed p).svo p).phase == .takeover) then d.framed p
      else if missed then (d.framed p).missedSuperframe p ((d.port p).sf + 1)
      else (d.framed p).ownerCells p ((d.port p).sf + 1) late := by
  have hst : d.portState p = 2 ∨ d.portState p = 3 := by simpa [Dev.portUp] using hup
  have hone : d.portState p ≠ 1 := by omega
  unfold Dev.superframe
  dsimp only
  rw [if_neg hone, if_pos (by simpa using hst), if_neg (by simp [ht])]
  rfl

theorem Dev.mem_sfsOut {d : Dev} {p s code l : Nat} (h : (d.port p).lostDn.getLsbD l = false) :
    Emit.out (.down p (.sfs l code (s % 2 ^ 32) (sfsOffset s)
      (Machine.drain (sfsUnits s) ((d.port p).queue.getD l [])).1)) ∈ d.sfsOut p s code l := by
  rw [Dev.sfsOut, if_neg (by rw [h]; exact Bool.false_ne_true)]
  exact List.mem_singleton_self _

/-- A cell of a lane's start block is an SFS. -/
theorem Dev.sfs_of_mem_sfsOut {d : Dev} {p s code l : Nat} {e : Emit} (h : e ∈ d.sfsOut p s code l) :
    ∃ n o x, e = .out (.down p (.sfs l code n o x)) := by
  unfold Dev.sfsOut at h
  split at h
  · simp at h
  · exact ⟨_, _, _, List.mem_singleton.1 h⟩

/-- The WRITE cells of a pickup that burns nothing: none. -/
theorem Dev.writeCells_none {d : Dev} {p : Nat} (h : d.burn p = none) (sf : Nat) (late : BitVec 8) :
    d.writeCells p sf late = d := by
  have supplied (w : Nat) (a b : Bool) : d.supply p sf w a b = d := by rw [Dev.supply, h]
  have kept (l : List Nat) (we : Bool) : l.foldl (fun d w =>
      if (d.port p).lostDn.getLsbD (w / 4) then d else d.supply p sf w (late.getLsbD w) we) d = d := by
    induction l with
    | nil => rfl
    | cons w t ih => rw [List.foldl_cons, supplied, ite_self, ih]
  exact kept _ _

/-- A port that takes the ACTUATOR cell of superframe `sf` as its last. -/
def Dev.withCell (d : Dev) (p sf : Nat) : Dev := d.setPort p { d.port p with lastCell := some (d.actuatorCell p sf) }

theorem Dev.rd_withCell (d : Dev) (p sf : Nat) (f : Fld) (i j : Nat) : (d.withCell p sf).rd f i j = d.rd f i j := rfl

/-- What an owner does once its cells are sent: RESUME, and the way to OFF. -/
theorem Dev.ownerRest_sends {d : Dev} {p : Nat} (h : d.burn p = none) (we : Nat) :
    Sends p d (if (((d.wr Reg.SVO_STATE_WRITE_EN we p).resumeCount p).svo p).leaving = 2
      then ((d.wr Reg.SVO_STATE_WRITE_EN we p).resumeCount p).svoOff p
      else (d.wr Reg.SVO_STATE_WRITE_EN we p).resumeCount p) := by
  have hresume : Sends p d ((d.wr Reg.SVO_STATE_WRITE_EN we p).resumeCount p) := .after (.resumeCount _) (.wr d _ _ _ _)
  split
  · exact .after (.svoOff _ (hresume.burn h)) hresume
  · exact hresume

/-- Behind the ACTUATOR cell a pickup that burns nothing only adds to what is sent. -/
theorem Dev.ownerCells_sends {d : Dev} {p : Nat} (late : BitVec 8) (sf : Nat) (h : d.burn p = none) :
    Sends p ((d.withCell p sf).sendDown p (d.actuatorCell p sf)) (d.ownerCells p sf late) := by
  have hsent : ((d.withCell p sf).sendDown p (d.actuatorCell p sf)).burn p = none :=
    (Sends.sendDown (d.withCell p sf) _).burn h
  unfold Dev.ownerCells
  dsimp only
  rw [Dev.writeCells_none]
  · exact Dev.ownerRest_sends hsent _
  · exact hsent

section
variable (s : State) (p : Nat)

/-- The SFS is sent of the superframe after the last one, and leaves the registers and the engines. -/
theorem State.framed_cell : CellKeeps p s.dev (s.fresh.framed p) :=
  have counted : CellKeeps p s.dev (s.fresh.nextSf p) := ⟨rfl, rfl, rfl, by rw [Dev.nextSf, Dev.port_setPort_same]; rfl⟩
  .trans counted (SfsKeeps.sendSfs _ _ _).cell

theorem State.framed_sends : Sends p (s.fresh.nextSf p) (s.fresh.framed p) := (SfsKeeps.sendSfs _ _ _).sends

theorem State.framed_sf : ((s.fresh.framed p).port p).sf = (s.dev.port p).sf + 1 :=
  (s.framed_sends p).sf.trans (congrArg Port.sf (Dev.port_setPort_same _ _ _))

theorem State.framed_out (ht : s.dev.rd Reg.SOR_CFG_TEST p = 0)
    (h0 : (drain (sfsUnits ((s.dev.port p).sf + 1)) ((s.dev.port p).queue.getD 0 [])).1 < 16)
    (h1 : (drain (sfsUnits ((s.dev.port p).sf + 1)) ((s.dev.port p).queue.getD 1 [])).1 < 16) :
    (s.fresh.framed p).out =
      s.dev.sfsOut p ((s.dev.port p).sf + 1) 0xE1 0 ++ s.dev.sfsOut p ((s.dev.port p).sf + 1) 0xE1 1 := by
  have hport : (s.fresh.nextSf p).port p = { s.dev.port p with
      sf := (s.dev.port p).sf + 1, quiet := (s.dev.port p).quiet.map (· + 1), servo := [], ticked := false } :=
    Dev.port_setPort_same _ _ _
  have hsame (l : Nat) : (s.fresh.nextSf p).sfsOut p ((s.dev.port p).sf + 1) 0xE1 l =
      s.dev.sfsOut p ((s.dev.port p).sf + 1) 0xE1 l := by simp only [Dev.sfsOut, hport]
  have hout := Dev.sendSfs_out (d := s.fresh.nextSf p) (s := (s.dev.port p).sf + 1) (code := 0xE1) ht
    (by rw [hport]; exact h0) (by rw [hport]; exact h1)
  rwa [hsame, hsame] at hout

end

section
variable {s : State} {p : Pk} (late : BitVec 8) (hup : s.dev.portUp p = true) (ht : s.dev.rd Reg.SOR_CFG_TEST p = 0)
include hup ht

/-- A port that does not own its front-end sends the SFS and nothing else. -/
theorem downstreamSuperframe_sfs (missed : Bool) (ho : s.dev.owns p = false)
    (h0 : (drain (sfsUnits ((s.dev.port p).sf + 1)) ((s.dev.port p).queue.getD 0 [])).1 < 16)
    (h1 : (drain (sfsUnits ((s.dev.port p).sf + 1)) ((s.dev.port p).queue.getD 1 [])).1 < 16) :
    After (.downstreamSuperframe p late missed) s fun t => (t.dev.port p).sf = (s.dev.port p).sf + 1 ∧ ∀ lane c,
      (lane < 2 → (s.dev.port p).lostDn.getLsbD lane = false →
        Out.down p (.sfs lane 0xE1 (((s.dev.port p).sf + 1) % 2 ^ 32) (sfsOffset ((s.dev.port p).sf + 1))
          (drain (sfsUnits ((s.dev.port p).sf + 1)) ((s.dev.port p).queue.getD lane [])).1) ∈ t.sent) ∧
      (Out.down p c ∈ t.sent → ∃ l n o x, c = .sfs l 0xE1 n o x) := by
  have hout := s.framed_out p ht h0 h1
  refine ⟨_, rfl, ?_⟩
  dsimp only
  rw [Dev.superframe_up (d := s.fresh) hup ht, if_pos (by simp [(s.framed_cell p).owns, ho])]
  refine ⟨(Sends.refl p _).settle_sf s |>.trans (s.framed_sf p), fun lane c => ⟨fun hlane hlost => ?_, fun hc => ?_⟩⟩
  · refine s.mem_sent _ _ (mem_outsOf.2 ?_)
    rw [hout, List.mem_append]
    match lane, hlane with
    | 0, _ => exact .inl (Dev.mem_sfsOut hlost)
    | 1, _ => exact .inr (Dev.mem_sfsOut hlost)
  · rcases State.mem_settle_sent hc with hmem | hpost
    · rw [hout, List.mem_append] at hmem
      rcases hmem with hmem | hmem
      · obtain ⟨n, o, x, he⟩ := Dev.sfs_of_mem_sfsOut hmem
        exact ⟨_, n, o, x, by simpa using he⟩
      · obtain ⟨n, o, x, he⟩ := Dev.sfs_of_mem_sfsOut hmem
        exact ⟨_, n, o, x, by simpa using he⟩
    · cases hpost

variable (ho : s.dev.owns p = true) (hs : s.dev.svoState p ≠ 0)
include ho hs

/-- An owner whose engine is out of OFF goes on behind the SFS. -/
theorem State.superframe_owner (missed : Bool) : s.fresh.superframe p late missed =
    if missed then (s.fresh.framed p).missedSuperframe p ((s.dev.port p).sf + 1)
    else (s.fresh.framed p).ownerCells p ((s.dev.port p).sf + 1) late := by
  rw [Dev.superframe_up (d := s.fresh) hup ht,
    if_neg (by simp [(s.framed_cell p).owns, (s.framed_cell p).svoState, ho, hs])]
  rfl

/-- A missed deadline: the hold cell, and a window of row 3. -/
theorem downstreamSuperframe_missed : After (.downstreamSuperframe p late true) s fun t =>
    Out.down p (.actuator (s.dev.downLanes p) (((s.dev.port p).sf + 1) % 8192) true (s.dev.svoRuns p) false 0 0 0 0 0 0 0
      0) ∈ t.sent ∧
    (mget t.dev.windows none (3 * 65536 + p.val)).isSome = true ∧ (t.dev.port p).sf = (s.dev.port p).sf + 1 := by
  have hcell := s.framed_cell p
  have hhold : (s.fresh.framed p).holdCell p = .actuator (s.dev.downLanes p) (((s.dev.port p).sf + 1) % 8192) true
      (s.dev.svoRuns p) false 0 0 0 0 0 0 0 0 := by
    rw [Dev.holdCell, hcell.downLanes, hcell.svoRuns, s.framed_sf]
  have hmem := Dev.mem_sendDown ((hcell.rd _ _ _).trans ht) ((s.fresh.framed p).holdCell p)
  have hrest (d : Dev) (n : Nat) : Sends p d ((((d.emitOnly p n).writeOffAt p n).wr Reg.SVO_STATE_WRITE_EN 0 p).miss 3 p) :=
    .after (.miss _ _ _) (.after (.wr _ _ _ _ _) (.after (.writeOffAt _ _) (.emitOnly d n)))
  refine ⟨_, rfl, ?_⟩
  dsimp only
  rw [State.superframe_owner late hup ht ho hs, if_pos rfl]
  refine ⟨?_, ?_, ?_⟩
  · rw [← hhold]
    exact (hrest _ _).sent hmem s
  · rw [State.settle_windows]
    exact Dev.miss_isSome _ 3 p
  · exact (((Sends.sendDown _ _).trans (hrest _ _)).settle_sf s).trans (s.framed_sf p)

/-- A pickup that burns nothing sends the cell that its engine computed, and no WRITE cell. -/
theorem downstreamSuperframe_actuator (hb : s.dev.burn p = none) : After (.downstreamSuperframe p late false) s fun t =>
    Out.down p (s.dev.actuatorCell p ((s.dev.port p).sf + 1)) ∈ t.sent ∧
    (t.dev.port p).lastCell = some (s.dev.actuatorCell p ((s.dev.port p).sf + 1)) := by
  have hcell := s.framed_cell p
  have hnone : (s.fresh.framed p).burn p = none := (s.framed_sends p).burn hb
  have hrest := Dev.ownerCells_sends late ((s.dev.port p).sf + 1) hnone
  have hlast := (Sends.sendDown (p := p) ((s.fresh.framed p).withCell p ((s.dev.port p).sf + 1))
    ((s.fresh.framed p).actuatorCell p ((s.dev.port p).sf + 1))).lastCell
  rw [hcell.actuatorCell] at hrest hlast
  refine ⟨_, rfl, ?_⟩
  dsimp only
  rw [State.superframe_owner late hup ht ho hs, if_neg Bool.false_ne_true]
  have hmem := Dev.mem_sendDown ((Dev.rd_withCell _ p ((s.dev.port p).sf + 1) _ _ _).trans ((hcell.rd _ _ _).trans ht))
    (s.dev.actuatorCell p ((s.dev.port p).sf + 1))
  refine ⟨hrest.sent hmem s, ?_⟩
  rw [hrest.settle_lastCell s, hlast, Dev.withCell, Dev.port_setPort_same, hcell.actuatorCell]

end

end Sys2Proof.Machine

namespace Sys2Proof

open Sys2Proof.Machine Sys2Proof.Safety

/-- Settles O18: the SFS leaves what the cell is made of, and what follows the cell only adds to what is sent. -/
theorem downstreamSuperframe : Obligations.DownstreamSuperframe := by
  refine ⟨?_, ?_, ?_⟩
  · exact fun s p late m hup ht ho h0 h1 => downstreamSuperframe_sfs late hup ht m ho h0 h1
  · exact fun s p late hup ht ho hs => downstreamSuperframe_missed late hup ht ho hs
  · exact fun s p late hup ht ho hs hb => downstreamSuperframe_actuator late hup ht ho hs hb

end Sys2Proof

/-! SUPPORT. A drift run that is due keeps a pickup from starting a burn (R340, Table 9-3). -/

namespace Sys2Proof.Machine

open Sys2Proof Sys2Proof.Safety

set_option Elab.async false

theorem Dev.burn_none_of_mayBurn {d : Dev} {p : Nat} (h : d.mayBurn p = true) : d.burn p = none := by
  unfold Dev.mayBurn at h
  simp only [Bool.and_eq_true, Option.isNone_iff_eq_none] at h
  tauto

theorem Dev.calHolds_of_run_none {d : Dev} {p : Nat} (h : (d.calPk p).run = none) : d.calHolds p = false := by
  simp [Dev.calHolds, h]

theorem State.settle_burn (s : State) (d : Dev) (p : Nat) : (s.settle d).dev.burn p = d.burn p := by
  rw [Dev.burn, Dev.burn, State.settle_burns]

section
variable {s : State} {p : Pk} (hclk : s.dev.clocked 6 = true) (hmay : s.dev.mayBurn p = true)
  (hdue : (s.dev.calPk p).due ≠ 0) (hrun : (s.dev.calPk p).run = none)
include hclk hmay hdue hrun

/-- Whatever is presented, the row does nothing: the run comes first, at the band boundary (Table 9-3). -/
theorem bandBurnStart_awaits_drift (bad : List Nat) : exec (.bandBurnStart p bad) s = .next (s.settle s.fresh) := by
  have hclk : s.fresh.clocked 6 = true := hclk
  have hmay : (!s.fresh.mayBurn p) = false := by rw [Bool.not_eq_false']; exact hmay
  have hfree : s.fresh.calHolds p = false := Dev.calHolds_of_run_none hrun
  have hwait : ((s.fresh.calPk p).due != 0 && (s.fresh.calPk p).run.isNone) = true := by
    rw [Bool.and_eq_true, bne_iff_ne, Option.isNone_iff_eq_none]
    exact ⟨hdue, hrun⟩
  refine congrArg (fun d => Host.Outcome.next (s.settle d)) ?_
  dsimp only
  rw [if_pos hclk, hmay]
  split
  · rfl
  · rw [if_neg Bool.false_ne_true]
    split
    · rfl
    · rw [hfree, if_neg Bool.false_ne_true, if_pos hwait]

theorem burn_none_after_bandBurnStart {bad : List Nat} {t : State} (ht : exec (.bandBurnStart p bad) s = .next t) :
    t.dev.burn p = none := by
  rw [bandBurnStart_awaits_drift hclk hmay hdue hrun, Host.Outcome.next.injEq] at ht
  rw [← ht, State.settle_burn]
  exact s.fresh.burn_none_of_mayBurn hmay

end

/-! ### Such a pickup -/

/-- A disc that is member 0 of volume 5. -/
def dueDisc : Disc := { Disc.empty with id := 77, blank := false, formatted := true, member := some (5, 0) }

/-- Volume 5, homed at the peer. -/
def dueSet : DiscSet :=
  { k := 2, p := 1, cross := false, gen := 1, reserve := 0, members := [(77, 0), (78, 0), (79, 0)], failed := [],
    spared := [], unread := [], offline := false, dead := false, rebuilding := [], reshaping := false, sealedVol := false,
    reserveNext := 0, owed := [], unwritten := [], destroyed := false, home := false, created := 0 }

/-- The replacement, in spare band 361 of side 0, of a cluster of that disc. -/
def dueRemap : Remap :=
  { vol := 5, stripe := 1, old := 0, new := packCluster 0 0 361 0, cause := 0, member := some 0, committed := false, commit := 0 }

/-- Pickup 0 on the first track of that band at burn speed, the band's one cluster received from the peer, and a drift run
due (R340). -/
def driftDue : State :=
  let d := [(Reg.CLK_STATUS_SAFE, 0), (Reg.SOR_STATUS_STATE, 2), (Reg.SOR_STATUS_OWNER, 1), (Reg.SVO_STATE_STATE, 5),
    (Reg.SVO_STATE_SPEED, 1), (Reg.SVO_TARGET_TRACK, 32 * 361 + 16), (Reg.MOT_SP_STATUS_AT_SPEED, 1)].foldl
      (fun d (e : Fld × Nat) => d.wr e.1 e.2) Dev.reset
  { State.reset with dev := { d with
      cal := { d.cal with pk := [(0, { CalPk.reset with ready := true, due := 1 })] }
      set := { d.set with discs := [(0, some dueDisc)], sets := [(5, some dueSet)], remaps := [dueRemap],
                          guest := [(77, dueRemap.new, [])] } } }

/-- The band is presented, and everything else that a burn needs is there. -/
theorem driftDue_mayBurn : driftDue.dev.disc (spindleOf 0) = some dueDisc ∧ driftDue.dev.mayBurn 0 = true ∧
    driftDue.dev.presented 0 dueDisc = some (5, 0, 0, 361, [(0, [])]) ∧ driftDue.dev.burnBad 5 (sideOf 0) 0 361 = [] ∧
    driftDue.dev.overBand 0 0 361 16 = true ∧ driftDue.dev.clocked 6 = true := by
  refine ⟨?_, ?_, rfl, ?_, ?_, ?_⟩ <;> decide +kernel

theorem driftDue_cal : (driftDue.dev.calPk 0).due = 1 ∧ (driftDue.dev.calPk 0).run = none := by decide +kernel

end Sys2Proof.Machine

namespace Sys2Proof

open Sys2Proof.Machine Sys2Proof.Safety

/-- Refutes O22: a burn does not begin while a drift run is due, which the second clause leaves open (Table 9-3). -/
theorem not_bandReadsAndBurns : ¬ Obligations.BandReadsAndBurns := by
  rintro ⟨-, hburns, -⟩
  obtain ⟨hdisc, hmay, hband, hgood, hover, hclk⟩ := driftDue_mayBurn
  obtain ⟨hdue, hrun⟩ := driftDue_cal
  have hholds := Dev.calHolds_of_run_none hrun
  obtain ⟨t, ht, hstarted, -⟩ := hburns driftDue 0 dueDisc 5 0 0 361 _ hdisc hmay hband hholds hgood hover hclk
  have hnone := burn_none_after_bandBurnStart hclk hmay (hdue ▸ Nat.one_ne_zero) hrun ht
  rw [hnone] at hstarted
  cases hstarted

end Sys2Proof

/-! SUPPORT. Frames of units alone: which units an operation may change, whatever it does to the registers. -/

namespace Sys2Proof.Safety

open Sys2Proof Sys2Proof.Machine

set_option Elab.async false

/-- From `a` to `b` the units other than `us` stay. -/
def Touches (us : List DevPart) (a b : Dev) : Prop := ∀ u, u ∉ us → u.Same a b

namespace Touches

variable {us vs : List DevPart} {a b c : Dev}

theorem refl (us : List DevPart) (a : Dev) : Touches us a a := fun u _ => .refl a u

theorem trans (h : Touches us a b) (g : Touches us b c) : Touches us a c := fun u hu => (h u hu).trans (g u hu)

/-- `trans`, the second step first: it says from where the first step leads. -/
theorem after (g : Touches us b c) (h : Touches us a b) : Touches us a c := h.trans g

theorem mono (h : Touches vs a b) (hs : ∀ u ∈ vs, u ∈ us := by simp) : Touches us a b :=
  fun u hu => h u fun hm => hu (hs u hm)

theorem of_changes {ks : List Nat} (h : Changes us ks a b) : Touches us a b := h.units

theorem of_sameUnits (h : SameUnits a b) : Touches us a b := fun u _ => u.same_of_sameUnits h

theorem of_calm (h : Calm a b) : Touches us a b := of_sameUnits h.sameUnits

/-- A change of one unit at most. -/
theorem of_part (u : DevPart) (hu : u ∈ us) (hs : ∀ v, v ≠ u → v.Same a b) : Touches us a b :=
  fun v hv => hs v fun e => hv (e ▸ hu)

theorem foldl {α : Type} {f : Dev → α → Dev} (h : ∀ d x, Touches us d (f d x)) (l : List α) (d : Dev) :
    Touches us d (l.foldl f d) := by
  induction l generalizing d with
  | nil => exact refl us d
  | cons x t ih => exact (h d x).trans (ih _)

/-- The units given to `a'` are those that may change, so in `b` nothing else of `a'` does. -/
theorem sameUnits {a' : Dev} (h : Touches us a b) (hg : Touches us a a') (hs : ∀ u ∈ us, u.Same a' b) :
    SameUnits a' b := DevPart.sameUnits_of_same fun u => by
  by_cases hu : u ∈ us
  · exact hs u hu
  · have hback : u.Same a' a := by cases u <;> exact Eq.symm (hg _ hu)
    exact hback.trans (h u hu)

section
variable (d : Dev)

/-! ### What changes no unit -/

theorem wr (f : Fld) (v i j : Nat) : Touches us d (d.wr f v i j) := of_sameUnits (Leaves.wr d f v i j).units

theorem setErrAt (f : Fld) (k i j inst addr : Nat) (further : List (Nat × Nat × Nat)) (force : Bool) :
    Touches us d (d.setErrAt f k i j inst addr further force) :=
  .after (of_calm (.emit _ _)) (wr d f _ i j)

theorem setErr (f : Fld) (k i inst addr : Nat) (further : List (Nat × Nat × Nat)) (force : Bool) :
    Touches us d (d.setErr f k i inst addr further force) := setErrAt d f k i 0 inst addr further force

theorem clk (x : Clk) : Touches us d { d with clk := x } := of_sameUnits (Leaves.clk [] d x).units

theorem draw (w : Nat) : Touches us d (d.draw w).2 := of_sameUnits (by constructor <;> rfl)

theorem send (o : Out) : Touches us d (d.send o) := of_calm (.send d o)

theorem sendStatus : Touches us d d.sendStatus := of_calm d.sendStatus_calm

theorem setBoot (f : Fld) (v : Nat) : Touches us d (d.setBoot f v) := by
  unfold Dev.setBoot
  dsimp only
  split
  · exact wr d f v 0 0
  · exact .after (sendStatus _) (wr d f v 0 0)

theorem autoWake (n : Nat) : Touches us d (d.autoWake n) := of_sameUnits (d.autoWake_leaves n).units

/-! ### What changes one unit -/

theorem windows (x : List (Nat × Option (BitVec 64 × Nat))) (h : .windows ∈ us := by simp) :
    Touches us d { d with windows := x } := (Changes.windows (ks := []) d x h).units

theorem mgmt (x : Mgmt) (h : .mgmt ∈ us := by simp) : Touches us d { d with mgmt := x } :=
  (Changes.mgmt (ks := []) d x h).units

theorem flash (x : Flash) (h : .flash ∈ us := by simp) : Touches us d { d with flash := x } :=
  (Changes.flash (ks := []) d x h).units

theorem sal (x : Sal) (h : .sal ∈ us := by simp) : Touches us d { d with sal := x } :=
  (Changes.sal (ks := []) d x h).units

theorem peer (x : Peer) (h : .peer ∈ us := by simp) : Touches us d { d with peer := x } :=
  (Changes.peer (ks := []) d x h).units

theorem axes (x : List (Nat × Axis)) (h : .axes ∈ us := by simp) : Touches us d { d with axes := x } :=
  (Changes.axes (ks := []) d x h).units

theorem mem (x : MemSys) (h : .mem ∈ us := by simp) : Touches us d { d with mem := x } :=
  of_part .mem h fun v hv => by
    cases v with
    | mem => exact absurd rfl hv
    | _ => rfl

theorem ports (x : List (Nat × Port)) (h : .ports ∈ us := by simp) : Touches us d { d with ports := x } :=
  of_part .ports h fun v hv => by
    cases v with
    | ports => exact absurd rfl hv
    | _ => rfl

theorem spots (x : List (Nat × Machine.Spot)) (h : .spots ∈ us := by simp) : Touches us d { d with spots := x } :=
  of_part .spots h fun v hv => by
    cases v with
    | spots => exact absurd rfl hv
    | _ => rfl

theorem yar (x : Yar) (h : .yar ∈ us := by simp) : Touches us d { d with yar := x } :=
  of_part .yar h fun v hv => by
    cases v with
    | yar => exact absurd rfl hv
    | _ => rfl

theorem spins (x : List (Nat × Spin)) (h : .spins ∈ us := by simp) : Touches us d { d with spins := x } :=
  of_part .spins h fun v hv => by
    cases v with
    | spins => exact absurd rfl hv
    | _ => rfl

theorem chops (x : List (Nat × Chop)) (h : .chops ∈ us := by simp) : Touches us d { d with chops := x } :=
  of_part .chops h fun v hv => by
    cases v with
    | chops => exact absurd rfl hv
    | _ => rfl

theorem servos (x : List (Nat × Servo)) (h : .servos ∈ us := by simp) : Touches us d { d with servos := x } :=
  of_part .servos h fun v hv => by
    cases v with
    | servos => exact absurd rfl hv
    | _ => rfl

theorem sendDown (p : Nat) (c : DownCell) (h : .ports ∈ us := by simp) : Touches us d (d.sendDown p c) := by
  unfold Dev.sendDown
  split
  · exact refl us d
  · exact .after (send _ _) (ports d _ h)

theorem setSpot (g : Nat) (x : Machine.Spot) (h : .spots ∈ us := by simp) : Touches us d (d.setSpot g x) := by
  have written (d : Dev) (i : Nat) (f : Fld) (v : Int) : Touches us d (d.wrS f v g i) := wr d _ _ _ _
  unfold Dev.setSpot
  refine .after (foldl (fun d i => .after (written _ _ _ _) (written d _ _ _)) _ _)
    (.after (foldl (fun d i => ?_) _ _) ?_)
  · split
    · exact .after (written _ _ _ _) (written d _ _ _)
    · exact written d _ _ _
  · exact .after (wr _ _ _ _ _) (.after (wr _ _ _ _ _) (.after (wr _ _ _ _ _) (.after (wr _ _ _ _ _) (.after (wr _ _ _ _ _)
      (.after (wr _ _ _ _ _) (spots d _ h))))))

theorem miss (r inst : Nat) (h : .windows ∈ us := by simp) : Touches us d (d.miss r inst) := by
  unfold Dev.miss
  dsimp only
  split
  · exact .after (of_calm (.emit _ _)) (windows d _ h)
  · exact windows d _ h

end

end Touches

/-- An outcome is a next state in which no unit but `us` is another than in `s`. -/
def Reaches (us : List DevPart) (s : State) (o : Host.Outcome State Fault Refusal) : Prop :=
  ∃ t, o = .next t ∧ Touches us s.dev t.dev

namespace Reaches

variable {us : List DevPart} {s : State} {i : Instr}

theorem run {f : Dev → Dev} (h : ∀ d, Touches us d (f d)) : Reaches us s (s.run f) :=
  ⟨_, s.run_next f, .trans (.trans (.of_sameUnits (Leaves.fresh [] s).units) (h _)) (.of_calm (s.settle_calm _))⟩

/-- With the clock of the unit stopped there is no period of it (R354). -/
theorem runTick {n : Nat} {f : Dev → Dev} (h : ∀ d, Touches us d (f d)) : Reaches us s (State.runTick n s f) := by
  refine run fun d => ?_
  split
  · exact h d
  · exact .refl us d

/-- Automatic gating of a unit is undone by a request, and with the clock stopped there is no effect (R354, R357). -/
theorem runUnit {n : Nat} {f : Dev → Dev} (h : ∀ d, Touches us d (f d)) : Reaches us s (State.runUnit n s f) := by
  refine run fun d => ?_
  split
  · exact h d
  · split
    · exact (Touches.autoWake d n).trans (h _)
    · exact .refl us d

theorem after (h : Reaches us s (exec i s)) (give : Dev → Dev) (hg : ∀ b, Touches us s.dev (give b))
    (hs : ∀ b, ∀ u ∈ us, u.Same (give b) b) : After i s fun t => SameUnits (give t.dev) t.dev :=
  have ⟨t, ht, hc⟩ := h
  ⟨t, ht, hc.sameUnits (hg _) (hs _)⟩

/-! ### The forms in which the frame of event commands is stated -/

theorem none (h : Reaches [] s (exec i s)) : After i s fun t => SameUnits s.dev t.dev :=
  h.after (fun _ => s.dev) (fun _ => .refl _ _) (by simp)

theorem mgmt (h : Reaches [.mgmt] s (exec i s)) : After i s fun t => SameUnits { s.dev with mgmt := t.dev.mgmt } t.dev :=
  h.after (fun b => { s.dev with mgmt := b.mgmt }) (fun _ => .mgmt _ _) (by simp [DevPart.Same])

theorem ports (h : Reaches [.ports] s (exec i s)) : After i s fun t => SameUnits { s.dev with ports := t.dev.ports } t.dev :=
  h.after (fun b => { s.dev with ports := b.ports }) (fun _ => .ports _ _) (by simp [DevPart.Same])

theorem spots (h : Reaches [.spots] s (exec i s)) : After i s fun t => SameUnits { s.dev with spots := t.dev.spots } t.dev :=
  h.after (fun b => { s.dev with spots := b.spots }) (fun _ => .spots _ _) (by simp [DevPart.Same])

theorem spins (h : Reaches [.spins] s (exec i s)) : After i s fun t => SameUnits { s.dev with spins := t.dev.spins } t.dev :=
  h.after (fun b => { s.dev with spins := b.spins }) (fun _ => .spins _ _) (by simp [DevPart.Same])

theorem servos (h : Reaches [.servos] s (exec i s)) :
    After i s fun t => SameUnits { s.dev with servos := t.dev.servos } t.dev :=
  h.after (fun b => { s.dev with servos := b.servos }) (fun _ => .servos _ _) (by simp [DevPart.Same])

theorem axes (h : Reaches [.axes] s (exec i s)) : After i s fun t => SameUnits { s.dev with axes := t.dev.axes } t.dev :=
  h.after (fun b => { s.dev with axes := b.axes }) (fun _ => .axes _ _) (by simp [DevPart.Same])

/-- The staging flash: the Saltern, its pages, and what it tells the peer. -/
theorem staging (h : Reaches [.flash, .peer, .sal] s (exec i s)) : After i s fun t =>
    SameUnits { s.dev with flash := t.dev.flash, peer := t.dev.peer, sal := t.dev.sal } t.dev :=
  h.after (fun b => { s.dev with flash := b.flash, peer := b.peer, sal := b.sal })
    (fun b => .trans (.trans (.flash s.dev b.flash) (.peer _ b.peer)) (.sal _ b.sal)) (by simp [DevPart.Same])

end Reaches

end Sys2Proof.Safety

/-! SUPPORT. Which units the parts of the event commands change. -/

namespace Sys2Proof.Machine

open Sys2Proof Sys2Proof.Safety

set_option Elab.async false

namespace Dev

variable {us : List DevPart} (d : Dev)

/-! ### Start-up and the clocks -/

theorem memErr_touches (f : Fld) (array bank word : Nat) : Touches us d (d.memErr f array bank word) := .setErr d _ _ _ _ _ _ _

theorem stopBoot_touches : Touches us d d.stopBoot := .clk d _

theorem fboGone_touches : Touches us d d.fboGone := by
  unfold fboGone
  split
  · exact .after (.wr _ _ _ _ _) (.after (.wr _ _ _ _ _) (.setBoot d _ _))
  · exact .refl us d

theorem fboPeriod_touches (count : Nat) : Touches us d (d.fboPeriod count) := by
  have counted (n m : Nat) : Touches us d { d.wr Reg.CLK_MON_CNT_FBO n with clk := { d.clk with fboPeriods := m } } :=
    .after (.clk _ _) (.wr d _ _ _ _)
  unfold fboPeriod
  dsimp only
  split
  · split
    · exact .after (fboGone_touches _) (.after (.setErr _ _ _ _ _ _ _ _) (.after (.wr _ _ _ _ _) (counted _ _)))
    · exact counted _ _
  · split
    · exact counted _ _
    · split
      · exact .after (.clk _ _) (.after (.wr _ _ _ _ _) (counted _ _))
      · have failed := Touches.after (us := us) (.setErr _ Reg.TG_EVENT_XTAL_FAIL 0 0 0xFFFF 0 [] false)
          (.after (.wr _ Reg.TG_STATUS_XTAL_OK 0 0 0) (counted count (d.clk.fboPeriods + 1)))
        refine .after (.clk _ _) ?_
        split
        · exact .after (.wr _ _ _ _ _) failed
        · exact failed

theorem clockSwitch_touches (toFbo : Bool) : Touches us d (d.clockSwitch toFbo) := by
  unfold clockSwitch
  split
  · split
    · exact .after (.setBoot _ _ _) (.after (.setBoot _ _ _) (.after (.wr _ _ _ _ _) (.after (.wr _ _ _ _ _)
        (.after (.of_calm (.emit _ _)) (.wr d _ _ _ _)))))
    · exact .refl us d
  · split
    · exact .after (.setBoot _ _ _) (.wr d _ _ _ _)
    · exact .refl us d

theorem pps_touches : Touches us d d.pps := by
  have set (e : Dev) (ns : Nat) : Touches us e (e.setTime ns) := .clk e _
  unfold pps
  dsimp only
  refine .after (.wr _ _ _ _ _) (.after (.draw _ _) ?_)
  split
  · exact .after (.clk _ _) (.after (.wr _ _ _ _ _) (set d _))
  · refine .after (.wr _ _ _ _ _) ?_
    split
    · exact .after (.clk _ _) (.wr d _ _ _ _)
    · exact .after (.setErr _ _ _ _ _ _ _ _) (.after (set _ _) (.wr d _ _ _ _))

/-! ### Firmware images -/

theorem runImage_touches (h : FwHeader) (image : Nat) (hm : .mgmt ∈ us := by simp) : Touches us d (d.runImage h image) :=
  .after (.setBoot _ _ _) (.after (.setBoot _ _ _) (.after (.wr _ _ _ _ _) (.mgmt d _ hm)))

theorem rejectImage_touches (slot : Nat) (h : Option FwHeader) : Touches us d (d.rejectImage slot h) := by
  unfold rejectImage
  dsimp only
  refine .after (.of_calm (.emit _ _)) (.after (.draw _ _) ?_)
  split
  · split
    · exact .after (.setErr _ _ _ _ _ _ _ _) (.setErr d _ _ _ _ _ _ _)
    · exact .setErr d _ _ _ _ _ _ _
  · exact .setErr d _ _ _ _ _ _ _

theorem recoveryImage_touches (hm : .mgmt ∈ us := by simp) : Touches us d d.recoveryImage := by
  have rom (e : Dev) : Touches us e ((e.wr Reg.QUE_STATUS_AQ_READY 1).setBoot Reg.HIF_BOOT_ROM 1) :=
    .after (.setBoot _ _ _) (.wr e _ _ _ _)
  unfold recoveryImage
  dsimp only
  refine .trans (.mgmt d { d.mgmt with active := d.mgmt.nextActive } hm) ?_
  split
  · exact rom _
  · split
    · exact runImage_touches _ _ _ hm
    · split
      · exact .after (runImage_touches _ _ _ hm) (.mgmt _ _ hm)
      · split
        · exact runImage_touches _ _ _ hm
        · exact rom _

theorem fwGo_touches (hm : .mgmt ∈ us := by simp) : Touches us d d.fwGo := by
  have taken : Touches us d (d.wr Reg.HIF_FW_CTL_GO 0) := .wr d _ _ _ _
  unfold fwGo
  split
  · exact .refl us d
  · dsimp only
    split
    · exact taken
    · split
      · exact .after (recoveryImage_touches _ hm) (.after (rejectImage_touches _ _ _) (.after (.wr _ _ _ _ _) taken))
      · exact .after (.send _ _) (.after (.wr _ _ _ _ _) taken)

/-! ### Memories -/

theorem useSpare_touches (array bank word : Nat) (h : .mem ∈ us := by simp) : Touches us d (d.useSpare array bank word) := by
  unfold useSpare
  dsimp only
  split
  · exact .after (.wr _ _ _ _ _) (.after (.wr _ _ _ _ _) (.after (.wr _ _ _ _ _) (.mem d _ h)))
  · exact .mem d _ h

theorem showFuses_touches (role : Bool) (nidLo : Nat) : Touches us d (d.showFuses role nidLo) := by
  unfold showFuses
  dsimp only
  refine iteInduction (motive := Touches us d) (fun _ => ?_) fun _ => ?_
  · exact .of_sameUnits (by constructor <;> rfl)
  · exact .of_sameUnits (by constructor <;> rfl)

theorem wipe_touches (readBack : List (BitVec 64)) : Touches [.mem, .mgmt, .sal] d (d.wipe readBack) := by
  have wiped (x : MemSys) (y : Mgmt) (z : Sal) : Touches [.mem, .mgmt, .sal] d
      { d.wr Reg.MEM_STATUS_WIPED 1 with mem := x, mgmt := y, sal := z } := by
    have before : Touches [.mem, .mgmt, .sal] d _ := .trans (.wr d Reg.MEM_STATUS_WIPED 1 0 0) (.mem _ x)
    exact (before.trans (.mgmt _ y)).trans (.sal _ z)
  unfold wipe
  dsimp only
  split
  · exact .after (.wr _ _ _ _ _) (.after (memErr_touches _ _ _ _ _) (wiped _ _ _))
  · exact wiped _ _ _

/-! ### Axes and choppers -/

section
variable (h : .axes ∈ us := by simp)
include h

theorem setAxis_touches (a : Nat) (x : Axis) : Touches us d (d.setAxis a x) := by
  unfold setAxis
  dsimp only
  split
  · exact .after (.wr _ _ _ _ _) (.after (.wr _ _ _ _ _) (.axes d _ h))
  · exact .after (.wr _ _ _ _ _) (.after (.wr _ _ _ _ _) (.after (.wr _ _ _ _ _) (.axes d _ h)))

omit h in
theorem setAxState_touches (a st : Nat) : Touches us d (d.setAxState a st) := by
  unfold setAxState
  split <;> exact .wr d _ _ _ _

theorem startMove_touches (a : Nat) (t vmax : Int) (kind : Nat) : Touches us d (d.startMove a t vmax kind) := by
  unfold startMove
  dsimp only
  split
  · exact .after (setAxState_touches _ _ _) (.after (.wr _ _ _ _ _) (setAxis_touches d h _ _))
  · exact setAxis_touches d h _ _

theorem currentSlot_touches (a : Nat) : Touches us d (d.currentSlot a) := by
  unfold currentSlot
  dsimp only
  split
  · exact .after (.wr _ _ _ _ _) (setAxis_touches d h _ _)
  · split
    · exact setAxis_touches d h _ _
    · exact .refl us d

end

theorem adaptSlope_touches (p w : Nat) (x : Chop) (k : Nat) (i : Int) : Touches us d (d.adaptSlope p w x k i) := by
  unfold adaptSlope
  split
  · exact .refl us d
  · exact .wr d _ _ _ _

theorem currentCell_touches (p k : Nat) (vals : List Int) (h : .chops ∈ us := by simp) :
    Touches us d (d.currentCell p k vals) := by
  unfold currentCell
  dsimp only
  split
  · exact .refl us d
  · exact .after (.chops _ _ h) (.foldl (fun d w => adaptSlope_touches d _ _ _ _ _) _ d)

/-- A slot in which the CURRENT cell is lost, before its decision: the fields that count it (R329). -/
theorem chopperSlot_touches (p : Nat) (ready lost : Bool) :
    Touches [.axes, .chops, .ports, .windows] d (d.chopperSlot p ready lost) := by
  have decided (e : Dev) (x : Chop) : Touches [.axes, .chops, .ports, .windows] e (e.setChop p x) := .chops e _
  have counted (e : Dev) : Touches [.axes, .chops, .ports, .windows] e
      ([2 * p, 2 * p + 1].foldl (fun d a => d.bumpAx Reg.MOT_AX_CNT_CUR_MISS a) e) := .foldl (fun d a => .wr d _ _ _ _) _ e
  have missed (e : Dev) : Touches [.axes, .chops, .ports, .windows] e ([2 * p, 2 * p + 1].foldl (fun d a =>
      (d.bumpAx Reg.MOT_AX_CNT_CHOP_MISS a).axErr Reg.MOT_AX_ERR_CHOP_MISS a) e) :=
    .foldl (fun d a => .after (.setErrAt _ _ _ _ _ _ _ _ _) (.wr d _ _ _ _)) _ e
  have stepped := Touches.after (decided _ { d.chop p with part := min 125 ((d.chop p).part + 1) })
    (.foldl (fun d a => currentSlot_touches d (by simp) a) [2 * p, 2 * p + 1] d)
  unfold chopperSlot
  dsimp only
  split
  · refine .after (.sendDown _ _ _) (.after (decided _ _) ?_)
    split
    · exact .after (counted _) stepped
    · exact stepped
  · refine .after (.miss _ _ _) (.after (missed _) (.after (decided _ _) ?_))
    split
    · exact .after (counted _) stepped
    · exact stepped

end Dev

end Sys2Proof.Machine

/-! SUPPORT. Which units garbage collection and the end of an erase change (R502, R505 to R507). -/

namespace Sys2Proof.Machine

open Sys2Proof Sys2Proof.Safety

set_option Elab.async false

/-- From `a` to `b` the staging flash may have changed, and no other unit. -/
abbrev StagesUnits : Dev → Dev → Prop := Touches [.flash, .peer, .sal]

theorem Stages.touches {a b : Dev} (h : Stages a b) : StagesUnits a b := (Touches.of_changes h).mono

namespace Dev

variable (d : Dev)

theorem setSb_stagesUnits (b : Nat) (x : SbEnt) : StagesUnits d (d.setSb b x) := .sal d _

theorem sbState_stagesUnits (b st : Nat) : StagesUnits d (d.sbState b st) := (sbState_stages d b st).touches

theorem salErr_touches {us : List DevPart} (f : Fld) (sb : Nat) (lun : Option Nat) : Touches us d (d.salErr f sb lun) :=
  .setErr d _ _ _ _ _ _ _

theorem readPage_stagesUnits (lsn page : Nat) (why : ReadFor) : StagesUnits d (d.readPage lsn page why) :=
  .trans (.sal d _) (serve_stages _).touches

theorem askErase_stagesUnits (b : Nat) : StagesUnits d (d.askErase b) := .trans (.sal d _) (serve_stages _).touches

theorem gcNext_stagesUnits : StagesUnits d d.gcNext := by
  unfold gcNext
  split
  · exact .refl _ d
  · split
    · split
      · exact .sal d _
      · next h =>
        have taken := (takeSeg_stages d h).touches
        exact .after (readPage_stagesUnits _ _ _ _) (.trans (taken.trans (.sal _ _)) (.sal _ _))
    · exact .after (askErase_stagesUnits _ _) (.trans (sbState_stagesUnits d _ _) (.sal _ _))

theorem gcBegin_stagesUnits : StagesUnits d d.gcBegin := by
  unfold gcBegin
  split
  · exact .refl _ d
  · split
    · refine iteInduction (motive := StagesUnits d) (fun _ => gcNext_stagesUnits d) fun _ => .refl _ d
    · split
      · split
        · exact .refl _ d
        · exact .after (gcNext_stagesUnits _)
            (.trans (.trans (sbState_stagesUnits d _ _) (.wr _ _ _ _ _)) (.sal _ _))
      · exact .refl _ d

theorem badBlock_stagesUnits (f : Fld) (b lun : Nat) : StagesUnits d (d.badBlock f b lun) := by
  unfold badBlock
  extract_lets x bad marked
  split
  extract_lets logged retired
  have hmarked : StagesUnits d marked := .after (salErr_touches _ _ _ _) (setSb_stagesUnits d b _)
  have hlogged : StagesUnits d logged := .after (.wr _ _ _ _ _) (hmarked.trans (journal_stages _ _).touches)
  have hretired : StagesUnits d retired := hlogged.trans (salErr_touches _ _ _ _)
  split
  · split
    · exact hretired.trans (sbState_stagesUnits _ _ _)
    · exact hretired
  · exact hlogged

theorem placeWaiting_stagesUnits : StagesUnits d d.placeWaiting :=
  .trans (.sal d _) (.foldl (fun d p => (programOrWait_stages d _ _ _ _ _).touches) _ _)

theorem eraseDone_stagesUnits (b : Nat) (failed : Option Nat) : StagesUnits d (d.eraseDone b failed) := by
  unfold eraseDone
  split
  · exact .refl _ d
  · extract_lets erased x counted pages dropped placed left freed
    have herased : StagesUnits d erased := by
      unfold erased
      split
      · exact badBlock_stagesUnits d _ _ _
      · exact .refl _ d
    have hdropped : StagesUnits d dropped := (herased.trans (setSb_stagesUnits _ b _)).trans (.flash _ _)
    have hplaced : StagesUnits d placed := .after (placeWaiting_stagesUnits _)
      ((hdropped.trans (sbState_stagesUnits _ _ _)).trans (flushJournal_stages _).touches)
    have hfreed : StagesUnits d freed := hplaced.trans (.sal _ _)
    split
    · split
      · exact hfreed.trans (.wr _ _ _ _ _)
      · split
        · exact hfreed.trans (.wr _ _ _ _ _)
        · exact .after (gcNext_stagesUnits _) ((hfreed.trans (sbState_stagesUnits _ _ _)).trans (.sal _ _))
    · exact hplaced

end Dev

end Sys2Proof.Machine

/-! SUPPORT. Which units the event commands change: each ends in a next state, and changes no more than is named. -/

namespace Sys2Proof.Machine

open Sys2Proof Sys2Proof.Safety

set_option Elab.async false

section
variable (s : State)

/-! ### Gating, clocks and board inputs -/

theorem gateClosure_reaches (u : Fin 14) : Reaches [] s (execGateClosure u s) := by
  refine .run fun d => ?_
  split
  · exact .after (.wr _ _ _ _ _) (.wr d _ _ _ _)
  · exact .refl _ d

theorem gateTimeout_reaches (u : Fin 14) : Reaches [] s (execGateTimeout u s) := by
  refine .run fun d => ?_
  split
  · exact .setErr d _ _ _ _ _ _ _
  · exact .refl _ d

theorem autoGateIdle_reaches (u : Fin 14) : Reaches [] s (execAutoGateIdle u s) := by
  refine .run fun d => ?_
  split
  · exact .after (.clk _ _) (.wr d _ _ _ _)
  · exact .refl _ d

theorem autoGateWake_reaches (u : Fin 14) : Reaches [] s (execAutoGateWake u s) := .run fun d => .autoWake d _

theorem fboPeriodCheck_reaches (count : Nat) : Reaches [] s (execFboPeriodCheck count s) := by
  refine .run fun d => ?_
  split
  · exact d.fboPeriod_touches count
  · exact .refl _ d

theorem mgmtClockSwitch_reaches (toFbo : Bool) : Reaches [] s (execMgmtClockSwitch toFbo s) := by
  refine .run fun d => ?_
  split
  · exact d.clockSwitch_touches toFbo
  · exact .refl _ d

theorem refclkValid_reaches : Reaches [] s (execRefclkValid s) := by
  refine .run fun d => ?_
  split
  · exact .after (.setBoot _ _ _) (.wr d _ _ _ _)
  · exact .refl _ d

theorem onfPllUnlock_reaches : Reaches [] s (execOnfPllUnlock s) := by
  refine .run fun d => ?_
  split
  · exact .after (.setErr _ _ _ _ _ _ _ _) (.wr d _ _ _ _)
  · exact .refl _ d

theorem ppsEdge_reaches (rising : Bool) : Reaches [] s (execPpsEdge rising s) := by
  refine .run fun d => ?_
  split
  · exact d.pps_touches
  · exact .refl _ d

theorem ppsLoss_reaches : Reaches [] s (execPpsLoss s) := by
  refine .run fun d => ?_
  split
  · exact .after (.clk _ _) (.after (.setErr _ _ _ _ _ _ _ _) (.wr d _ _ _ _))
  · exact .refl _ d

theorem tsy10mLoss_reaches : Reaches [] s (execTsy10mLoss s) := by
  refine .run fun d => ?_
  split
  · exact .after (.clk _ _) (.setErr d _ _ _ _ _ _ _)
  · exact .refl _ d

theorem tsy10mReturn_reaches : Reaches [] s (execTsy10mReturn s) := by
  refine .run fun d => ?_
  split
  · exact .clk d _
  · exact .refl _ d

theorem i2cPointerWrite_reaches (x : I2cTransfer) : Reaches [] s (execI2cPointerWrite x s) := by
  refine .run fun d => ?_
  split
  · refine .after (.clk _ _) ?_
    have taken : Touches [] d (x.data.foldl (fun (d : Dev) _ => d.send (.i2cAck false)) (d.send (.i2cAck true))) :=
      .after (.foldl (fun d _ => .send d _) _ _) (.send d _)
    split
    · exact taken
    · exact .after (.send _ _) taken
  · exact .send d _

/-! ### Start-up -/

theorem fboStable_reaches : Reaches [] s (execFboStable s) := by
  refine .run fun d => ?_
  split
  · exact .refl _ d
  · extract_lets stable shown switched
    have hshown : Touches [] d shown := by
      unfold shown
      split
      · exact .after (.wr _ _ _ _ _) (.wr d _ _ _ _)
      · exact .wr d _ _ _ _
    have hswitched : Touches [] d switched := .after (.setBoot _ _ _) (.after (.wr _ _ _ _ _) hshown)
    split
    · split
      · exact hswitched
      · exact .after (.setBoot _ _ _) hswitched
    · exact hshown

theorem rootPllLock_reaches (vddqMv : Nat) : Reaches [] s (execRootPllLock vddqMv s) := by
  refine .run fun d => ?_
  split
  · exact .refl _ d
  · exact .after (.setBoot _ _ _) (.after (.setBoot _ _ _) (.after (.clk _ _) (.after (.wr _ _ _ _ _)
      (.after (.wr _ _ _ _ _) (.after (.wr _ _ _ _ _) (.wr d _ _ _ _))))))

theorem selfTestDone_reaches (pass : Bool) : Reaches [] s (execSelfTestDone pass s) := by
  refine .run fun d => ?_
  split
  · exact .refl _ d
  · split
    · exact .after (.setBoot _ _ _) (.wr d _ _ _ _)
    · exact .after (Dev.stopBoot_touches _) (d.memErr_touches _ _ _ _)

theorem mainbandTrained_reaches (rate : Fin 2) (x32 repaired : Bool) :
    Reaches [.mgmt] s (execMainbandTrained rate x32 repaired s) := by
  refine .run fun d => ?_
  split
  · exact .refl _ d
  · refine .after (Dev.fwGo_touches _) ?_
    have trained (a b c : Nat) : Touches [.mgmt] d ((((d.wr Reg.HIF_STATUS_LINK_UP 1).wr Reg.HIF_STATUS_RATE a).wr
        Reg.HIF_STATUS_WIDTH b).wr Reg.HIF_STATUS_REPAIRED c) :=
      .after (.wr _ _ _ _ _) (.after (.wr _ _ _ _ _) (.after (.wr _ _ _ _ _) (.wr d _ _ _ _)))
    refine iteInduction (motive := Touches [.mgmt] d) (fun _ => ?_) fun _ => trained _ _ _
    exact .after (.setErr _ _ _ _ _ _ _ _) (trained _ _ _)

theorem fuseLoadDone_reaches (role : Bool) (nidLo : BitVec 4) (intact : Bool) :
    Reaches [.mem] s (execFuseLoadDone role nidLo intact s) := by
  refine .run fun d => ?_
  split
  · exact .refl _ d
  · split
    · exact d.stopBoot_touches
    · exact .after (.setBoot _ _ _) (.after (.foldl (fun d k => d.useSpare_touches _ _ _) _ _) (d.showFuses_touches _ _))

theorem firmwareFetchDone_reaches (img : Option FwHeader) : Reaches [.mgmt] s (execFirmwareFetchDone img s) := by
  have rejected (d : Dev) : Touches [.mgmt] d ((d.wr Reg.HIF_FW_CTL_STATUS 3).rejectImage 0xFF img).recoveryImage :=
    .after (Dev.recoveryImage_touches _) (.after (Dev.rejectImage_touches _ _ _) (.wr d _ _ _ _))
  refine .run fun d => ?_
  split
  · exact .refl _ d
  · split
    · split
      · exact .after (Dev.runImage_touches _ _ _) (.wr d _ _ _ _)
      · exact rejected d
    · exact rejected d

theorem firmwareOfferTimeout_reaches : Reaches [.mgmt] s (execFirmwareOfferTimeout s) := by
  refine .run fun d => ?_
  split
  · exact d.recoveryImage_touches
  · exact .refl _ d

theorem invalidationDone_reaches (readBack : List (BitVec 64)) :
    Reaches [.mem, .mgmt, .sal] s (execInvalidationDone readBack s) := by
  refine .run fun d => ?_
  split
  · exact .after (.setBoot _ _ _) (.after (Dev.wipe_touches _ _) (.mem d _))
  · exact .refl _ d

/-! ### Spindles -/

theorem speedErrTimeout_reaches (n : Spn) : Reaches [] s (execSpeedErrTimeout n s) := by
  refine .run fun d => ?_
  split
  · exact .setErr d _ _ _ _ _ _ _
  · exact .refl _ d

theorem modulationLimit_reaches (n : Spn) : Reaches [] s (execModulationLimit n s) := by
  refine .run fun d => ?_
  split
  · exact .setErr d _ _ _ _ _ _ _
  · exact .refl _ d

theorem angleBlendEnd_reaches (n : Spn) : Reaches [.spins] s (execAngleBlendEnd n s) := .run fun d => .spins d _

theorem Dev.setSpState_touches (d : Dev) (n st : Nat) : Touches [.spins] d (d.setSpState n st) :=
  .after (.spins _ _) (.wr d _ _ _ _)

theorem alignEnd_reaches (n : Spn) : Reaches [.spins] s (execAlignEnd n s) := by
  refine .run fun d => ?_
  split
  · exact d.setSpState_touches _ _
  · exact .refl _ d

theorem handover_reaches (n : Spn) : Reaches [.spins] s (execHandover n s) := by
  refine .run fun d => ?_
  dsimp only
  split
  · exact .after (.spins _ _) (d.setSpState_touches _ _)
  · exact .refl _ d

theorem handoverTimeout_reaches (n : Spn) : Reaches [.spins] s (execHandoverTimeout n s) := by
  refine .run fun d => ?_
  dsimp only
  split
  · exact .spins d _
  · exact .refl _ d

theorem Dev.spBrake_touches (d : Dev) (n : Nat) : Touches [.spins] d (d.spBrake n) :=
  .after (.wr _ _ _ _ _) (.after (.spins _ _) (.after (.spins _ _) (.after (.wr _ _ _ _ _) (d.setSpState_touches _ _))))

theorem escTimeout_reaches (n : Spn) : Reaches [.spins] s (execEscTimeout n s) := by
  refine .run fun d => ?_
  dsimp only
  split
  · exact .refl _ d
  · have marked : Touches [.spins] d ((d.spErr Reg.MOT_SP_ERR_CHOP_FAULT n).setSpin n
        { (d.spErr Reg.MOT_SP_ERR_CHOP_FAULT n).spin n with esc := true }) :=
      .after (.spins _ _) (.setErr d _ _ _ _ _ _ _)
    split
    · exact marked
    · exact marked.trans (Dev.spBrake_touches _ _)

/-! ### Ports and spots -/

theorem laneRetrainDone_reaches (p : Pk) (down : Bool) (lane : Fin 8) :
    Reaches [.ports] s (execLaneRetrainDone p down lane s) := by
  refine .run fun d => ?_
  split
  · exact .refl _ d
  · extract_lets x framed y carried locked
    have hframed : Touches [.ports] d framed := by
      unfold framed
      split
      · exact .sendDown d _ _
      · exact .refl _ d
    have hlocked : Touches [.ports] d locked := by
      unfold locked
      split
      · exact hframed.trans (.ports _ _)
      · exact (hframed.trans (.ports _ _)).trans (.wr _ _ _ _ _)
    split
    · exact hlocked.trans (.wr _ _ _ _ _)
    · exact hlocked

/-- A cell of a reserved type sets an error; one of its own type does what it does. -/
theorem Dev.cellType_touches {us : List DevPart} (d : Dev) (p lane : Nat) (h : BitVec 16) (t : Nat) {f : Dev → Dev}
    (hf : Touches us d (f d)) : Touches us d (d.cellType p lane h t f) := by
  unfold Dev.cellType
  dsimp only
  split
  · exact .refl us d
  · split
    · exact .setErr d _ _ _ _ _ _ _
    · split
      · exact hf
      · exact .refl us d

theorem servoCellReceive_reaches (p : Pk) (lane : Fin 8) (h : BitVec 16) (l : List (BitVec 16)) :
    Reaches [.ports] s (execServoCellReceive p lane h l s) := by
  refine .run fun d => d.cellType_touches _ _ _ _ ?_
  dsimp only
  split
  · exact .refl _ d
  · exact .ports d _

theorem currentCellReceive_reaches (p : Pk) (lane : Fin 8) (cell : BitVec 64) :
    Reaches [.ports, .chops] s (execCurrentCellReceive p lane cell s) :=
  .run fun d => d.cellType_touches _ _ _ _ (.trans (.ports d _) (Dev.currentCell_touches _ _ _ _))

theorem Dev.channelStall_touches (d : Dev) (g : Nat) : Touches [.spots] d (d.channelStall g) := by
  unfold Dev.channelStall
  extract_lets m x fz missed stalled counted
  have hcounted : Touches [.spots] d counted := .after (.wr _ _ _ _ _) (.after (.wr _ _ _ _ _) (.setSpot d g _))
  split
  · exact hcounted
  · exact hcounted.trans (.wr _ _ _ _ _)

theorem Dev.spotStall_touches (d : Dev) (g : Nat) : Touches [.spots] d (d.spotStall g) := by
  unfold Dev.spotStall
  dsimp only
  split
  · exact .refl _ d
  · have hushed : Touches [.spots] d (d.setSpot g { d.spot g with hush := 2 }) := .setSpot d g _
    refine .after (.setErr _ _ _ _ _ _ _ _) (.after (.wr _ _ _ _ _) ?_)
    split
    · exact hushed
    · exact hushed.trans (Dev.channelStall_touches _ _)

theorem spotStall_reaches (g : Sys2Proof.Spot) : Reaches [.spots] s (execSpotStall g s) := by
  refine .run fun d => ?_
  split
  · exact d.spotStall_touches _
  · exact .refl _ d

theorem resumeBoostEnd_reaches (g : Sys2Proof.Spot) : Reaches [.spots] s (execResumeBoostEnd g s) := by
  refine .run fun d => ?_
  split
  · exact .setSpot d _ _
  · exact .refl _ d

theorem acqGainEnd_reaches (g : Sys2Proof.Spot) : Reaches [.spots] s (execAcqGainEnd g s) := by
  refine .run fun d => ?_
  split
  · exact .setSpot d _ _
  · exact .refl _ d

theorem jointWaitExpiry_reaches (g : Sys2Proof.Spot) : Reaches [.yar] s (execJointWaitExpiry g s) :=
  .run fun d => .after (.wr _ _ _ _ _) (.after (.wr _ _ _ _ _) (.after (.wr _ _ _ _ _) (.yar d _)))

/-! ### Servo engines, axes and choppers -/

theorem kickEnd_reaches (p : Pk) : Reaches [.servos] s (execKickEnd p s) := by
  refine .run fun d => ?_
  dsimp only
  split
  · exact .servos d _
  · exact .refl _ d

theorem sledSeekDone_reaches (p : Pk) : Reaches [.servos] s (execSledSeekDone p s) := by
  refine .run fun d => ?_
  split
  · exact .servos d _
  · exact .refl _ d

theorem homeStopWait_reaches (a : Ax) : Reaches [.axes] s (execHomeStopWait a s) := by
  refine .run fun d => ?_
  dsimp only
  split
  · exact .refl _ d
  · exact (d.setAxis_touches (by simp) _ _).trans (Dev.startMove_touches _ (by simp) _ _ _ _)

theorem standstillTimeout_reaches (a : Ax) : Reaches [.axes] s (execStandstillTimeout a s) := by
  refine .run fun d => ?_
  dsimp only
  split
  · exact (d.setAxis_touches (by simp) _ _).trans (.wr _ _ _ _ _)
  · exact .refl _ d

theorem currentRaiseDone_reaches (a : Ax) : Reaches [.axes] s (execCurrentRaiseDone a s) := by
  have raised (d : Dev) (x : Axis) : Touches [.axes] d ((d.setAxis a x).wrAx Reg.MOT_AX_STATUS_REDUCED 0 a) :=
    (d.setAxis_touches (by simp) _ _).trans (.wr _ _ _ _ _)
  refine .run fun d => ?_
  dsimp only
  split
  · split
    · exact raised d _
    · exact .refl _ d
  · exact (raised d _).trans (Dev.startMove_touches _ (by simp) _ _ _ _)

theorem currentMissLimit_reaches (p : Pk) : Reaches [.chops] s (execCurrentMissLimit p s) := by
  refine .run fun d => ?_
  dsimp only
  split
  · exact .refl _ d
  · exact .after (.foldl (fun d a => .after (.setErrAt _ _ _ _ _ _ _ _ _) (d.setAxState_touches _ _)) _ _) (.chops d _)

theorem chopperSlot_reaches (p : Pk) (ready lost : Bool) :
    Reaches [.axes, .chops, .ports, .windows] s (execChopperSlot p ready lost s) := by
  refine .runTick fun d => ?_
  split
  · exact d.chopperSlot_touches _ _ _
  · split
    · exact .chops d _
    · exact .refl _ d

/-! ### The peer and the staging flash -/

theorem nerLinkUp_reaches : Reaches [.peer] s (execNerLinkUp s) := by
  refine .runUnit fun d => ?_
  split
  · exact .refl _ d
  · exact .after (.peer _ _) (.wr d _ _ _ _)

theorem blockEraseDone_reaches (sb : Nat) (failed : Option Nat) :
    Reaches [.flash, .peer, .sal] s (execBlockEraseDone sb failed s) := .run fun d => d.eraseDone_stagesUnits sb failed

theorem gcStart_reaches : Reaches [.flash, .peer, .sal] s (execGcStart s) := .runUnit fun d => d.gcBegin_stagesUnits

theorem mirrorDataReceive_reaches (q : BitVec 16) (pg : FlashPage) :
    Reaches [.flash, .peer, .sal] s (execMirrorDataReceive q pg s) := by
  refine .runUnit fun d => Stages.touches (d.nerTake_changes q fun d => ?_)
  split
  · exact .refl _ _ d
  · exact d.programOrWait_stages _ _ _ _ _

end

end Sys2Proof.Machine

namespace Sys2Proof

open Sys2Proof.Machine Sys2Proof.Safety

set_option Elab.async false

/-! Frames of the event commands (03_sorrel_link.md). -/

/-- Settles O51: each command's meaning is followed once, and the units that it may change are given to the state before. -/
theorem eventCommandsFrame : Obligations.EventCommandsFrame := by
  refine ⟨?_, ?_, ?_, ?_, ?_, ?_, ?_, ?_, ?_, ?_, ?_, ?_, ?_, ?_, ?_, ?_, ?_, ?_, ?_, ?_, ?_, ?_, ?_, ?_, ?_, ?_, ?_, ?_,
    ?_, ?_, ?_, ?_, ?_, ?_, ?_, ?_, ?_, ?_, ?_, ?_, ?_, ?_, ?_, ?_, ?_, ?_⟩
  · exact fun s u => (gateClosure_reaches s u).none
  · exact fun s u => (gateTimeout_reaches s u).none
  · exact fun s u => (autoGateIdle_reaches s u).none
  · exact fun s u => (autoGateWake_reaches s u).none
  · exact fun s n => (speedErrTimeout_reaches s n).none
  · exact fun s n => (modulationLimit_reaches s n).none
  · exact fun s n => (fboPeriodCheck_reaches s n).none
  · exact fun s b => (mgmtClockSwitch_reaches s b).none
  · exact fun s => (refclkValid_reaches s).none
  · exact fun s b => (ppsEdge_reaches s b).none
  · exact fun s => (ppsLoss_reaches s).none
  · exact fun s => (tsy10mLoss_reaches s).none
  · exact fun s => (fboStable_reaches s).none
  · exact fun s n => (rootPllLock_reaches s n).none
  · exact fun s b => (selfTestDone_reaches s b).none
  · exact fun s r x y => (mainbandTrained_reaches s r x y).mgmt
  · exact fun s p l n => (i2cPointerWrite_reaches s _).none
  · exact fun s => (onfPllUnlock_reaches s).none
  · exact fun s => (tsy10mReturn_reaches s).none
  · exact fun s n => (angleBlendEnd_reaches s n).spins
  · exact fun s n => (alignEnd_reaches s n).spins
  · exact fun s n => (handover_reaches s n).spins
  · exact fun s n => (handoverTimeout_reaches s n).spins
  · exact fun s n => (escTimeout_reaches s n).spins
  · exact fun s p b l => (laneRetrainDone_reaches s p b l).ports
  · exact fun s p l h x => (servoCellReceive_reaches s p l h x).ports
  · exact fun s p l c => (currentCellReceive_reaches s p l c).after
      (fun b => { s.dev with ports := b.ports, chops := b.chops })
      (fun b => .trans (.ports s.dev b.ports) (.chops _ b.chops)) (by simp [DevPart.Same])
  · exact fun s g => (spotStall_reaches s g).spots
  · exact fun s g => (resumeBoostEnd_reaches s g).spots
  · exact fun s g => (acqGainEnd_reaches s g).spots
  · exact fun s g => (jointWaitExpiry_reaches s g).after (fun b => { s.dev with yar := b.yar })
      (fun _ => .yar _ _) (by simp [DevPart.Same])
  · exact fun s p => (kickEnd_reaches s p).servos
  · exact fun s p => (sledSeekDone_reaches s p).servos
  · exact fun s a => (homeStopWait_reaches s a).axes
  · exact fun s a => (standstillTimeout_reaches s a).axes
  · exact fun s a => (currentRaiseDone_reaches s a).axes
  · exact fun s p => (currentMissLimit_reaches s p).after (fun b => { s.dev with chops := b.chops })
      (fun _ => .chops _ _) (by simp [DevPart.Same])
  · exact fun s p r l => (chopperSlot_reaches s p r l).after
      (fun b => { s.dev with axes := b.axes, chops := b.chops, ports := b.ports, windows := b.windows })
      (fun b => .trans (.trans (.trans (.axes s.dev b.axes) (.chops _ b.chops)) (.ports _ b.ports)) (.windows _ b.windows))
      (by simp [DevPart.Same])
  · exact fun s r n i => (fuseLoadDone_reaches s r n i).after (fun b => { s.dev with mem := b.mem })
      (fun _ => .mem _ _) (by simp [DevPart.Same])
  · exact fun s i => (firmwareFetchDone_reaches s i).mgmt
  · exact fun s => (firmwareOfferTimeout_reaches s).mgmt
  · exact fun s => (nerLinkUp_reaches s).after (fun b => { s.dev with peer := b.peer })
      (fun _ => .peer _ _) (by simp [DevPart.Same])
  · exact fun s l => (invalidationDone_reaches s l).after
      (fun b => { s.dev with mem := b.mem, mgmt := b.mgmt, sal := b.sal })
      (fun b => .trans (.trans (.mem s.dev b.mem) (.mgmt _ b.mgmt)) (.sal _ b.sal)) (by simp [DevPart.Same])
  · exact fun s b l => (blockEraseDone_reaches s b l).staging
  · exact fun s => (gcStart_reaches s).staging
  · exact fun s q pg => (mirrorDataReceive_reaches s q pg).staging

end Sys2Proof

/-! SUPPORT. A SERVO cell that comes when the tick of its superframe has run supplies no channel (R91, R92). -/

namespace Sys2Proof.Machine

open Sys2Proof Sys2Proof.Safety

set_option Elab.async false

/-- A cell of its own type, of an owner and from a lane in use, does what it does. -/
theorem Dev.cellType_taken {d : Dev} {p lane : Nat} {h : BitVec 16} {t : Nat} {f : Dev → Dev} (hs : d.streams p = true)
    (hl : (d.port p).lostUp.getLsbD lane = false) (ht : h.toNat / 2 ^ 13 = t) (h5 : t < 5) :
    d.cellType p lane h t f = f d := by
  obtain ⟨hup, how⟩ := Bool.and_eq_true_iff.1 hs
  unfold Dev.cellType
  dsimp only
  rw [if_neg (by simp [hup, hl]), if_neg (by omega), if_pos (by rw [ht, how]; simp)]

/-- Once the tick has run, its channels are closed. -/
theorem servoCellReceive_ticked {s : State} {p : Pk} {lane : Fin 8} {h : BitVec 16} {l : List (BitVec 16)}
    (hs : s.dev.streams p = true) (hl : (s.dev.port p).lostUp.getLsbD lane = false) (ht : h.toNat / 2 ^ 13 = 2)
    (hticked : (s.dev.port p).ticked = true) : exec (.servoCellReceive p lane h l) s = .next (s.settle s.fresh) := by
  refine congrArg (fun d => Host.Outcome.next (s.settle d)) ?_
  dsimp only
  rw [Dev.cellType_taken (d := s.fresh) hs hl ht (by decide)]
  exact if_pos (by simp [show (s.fresh.port p).ticked = true from hticked])

/-- Port 0 UP and owned, in superframe 1, whose tick has run. -/
def tickedPort : State :=
  { State.reset with dev := { (Dev.reset.wr Reg.SOR_STATUS_STATE 2).wr Reg.SOR_STATUS_OWNER 1 with
      ports := [(0, { Port.reset with sf := 1, ticked := true })] } }

end Sys2Proof.Machine

namespace Sys2Proof

open Sys2Proof.Machine Sys2Proof.Safety

/-- Refutes O17: a SERVO cell of the tick's superframe that comes after the tick supplies nothing, which the third clause
leaves open (R92). -/
theorem not_upstreamCells : ¬ Obligations.UpstreamCells := by
  rintro ⟨-, -, hservo, -⟩
  have hs : tickedPort.dev.streams 0 = true := by decide +kernel
  obtain ⟨t, ht, hsupplied⟩ := hservo tickedPort 0 0 0x4000#16 [] hs rfl rfl (.inl rfl) rfl rfl
  rw [servoCellReceive_ticked hs rfl rfl rfl, Host.Outcome.next.injEq] at ht
  rw [← ht, State.settle_port] at hsupplied
  exact absurd hsupplied (by simp [tickedPort, State.fresh, Dev.port, mget])

end Sys2Proof

/-! SUPPORT. A spot whose stall was declared does not stall again until its cells resume (R114). -/

namespace Sys2Proof.Machine

open Sys2Proof Sys2Proof.Safety

set_option Elab.async false

theorem Dev.spotStall_declared {d : Dev} {g : Nat} (h : (d.spot g).hush = 2) : d.spotStall g = d := by
  unfold Dev.spotStall
  dsimp only
  exact if_pos (by simp [h])

/-- Spot 0 of an owner's port, in ACQUIRE: its stall was declared while it was idle, and its cells have not resumed. -/
def declaredStall : State :=
  { State.reset with dev := { ((Dev.reset.wr Reg.SOR_STATUS_STATE 2).wr Reg.SOR_STATUS_OWNER 1).wr Reg.RCH_SP_STATE_MODE 1 with
      spots := [(0, { Spot.reset with hush := 2 })] } }

theorem spotStall_declaredStall : exec (.spotStall 0) declaredStall = .next (declaredStall.settle declaredStall.fresh) := by
  refine congrArg (fun d => Host.Outcome.next (declaredStall.settle d)) ?_
  exact (congrArg (fun d => if declaredStall.fresh.streams 0 = true then d else declaredStall.fresh)
    (Dev.spotStall_declared (d := declaredStall.fresh) (g := 0) rfl)).trans (ite_self _)

end Sys2Proof.Machine

namespace Sys2Proof

open Sys2Proof.Machine Sys2Proof.Safety

/-- Refutes O19: a channel that runs while the stall of its spot stands declared does not go to STALLED, which the first
clause leaves open (R114). -/
theorem not_readChannelEvents : ¬ Obligations.ReadChannelEvents := by
  rintro ⟨hstall, -⟩
  have hs : declaredStall.dev.streams 0 = true := by decide +kernel
  have hmode : declaredStall.dev.mode 0 = 1 := by decide +kernel
  obtain ⟨t, ht, hstalled, -⟩ := hstall declaredStall 0 hs (by decide +kernel) (by decide +kernel)
  rw [spotStall_declaredStall, Host.Outcome.next.injEq] at ht
  rw [← ht] at hstalled
  have hkept : declaredStall.dev.mode 0 = 4 :=
    (declaredStall.settle_rd declaredStall.fresh Reg.RCH_SP_STATE_MODE 0 0 (by decide)).symm.trans hstalled
  omega

end Sys2Proof

/-! SUPPORT. The eighth uncorrectable codeword in a row on a lane that trains fails the training, which starts again with its
counts at 0 (R80, R105). -/

namespace Sys2Proof.Machine

open Sys2Proof Sys2Proof.Safety

/-- Port 0 in step 5 of its training, after seven uncorrectable codewords in a row on each lane, and with retries left. -/
def sevenLost : State :=
  { State.reset with dev := { Dev.reset.wr Reg.SOR_STATUS_STATE 1 with
      ports := [(0, { Port.reset with step := 5, runs := List.replicate 8 7 })] } }

theorem sevenLost_trains : sevenLost.dev.portState 0 = 1 ∧ (sevenLost.dev.port 0).runs = List.replicate 8 7 := by
  decide +kernel

theorem codeword_sevenLost_runs : ((sevenLost.fresh.codeword 0 0 16 []).port 0).runs = List.replicate 8 0 := by
  decide +kernel

end Sys2Proof.Machine

namespace Sys2Proof

open Sys2Proof.Machine Sys2Proof.Safety

/-- Refutes O15: the eighth codeword in a row starts a training again, and the run of its lane with it, which the second clause
leaves open (R80, R105). -/
theorem not_lanesAndCodewords : ¬ Obligations.LanesAndCodewords := by
  rintro ⟨-, hlost, -⟩
  obtain ⟨htrain, hruns⟩ := sevenLost_trains
  obtain ⟨t, ht, -, hcounted⟩ := hlost sevenLost 0 0 16 (htrain ▸ by decide) (htrain ▸ by decide) (by decide)
  have hnext : exec (.codewordReceive 0 0 16 []) sevenLost =
      .next (sevenLost.settle (sevenLost.fresh.codeword 0 0 16 [])) := rfl
  rw [hnext, Host.Outcome.next.injEq] at ht
  rw [← ht, State.settle_port] at hcounted
  have hkept : List.replicate 8 0 = (sevenLost.dev.port 0).runs.set 0 ((sevenLost.dev.port 0).runs.getD 0 0 + 1) :=
    codeword_sevenLost_runs.symm.trans hcounted
  rw [hruns] at hkept
  exact absurd hkept (by decide)

end Sys2Proof

/-! SUPPORT. A write of SOR_CFG that sets EN and a test pattern trains the port behind the pattern: no training goes out
(R105, Table 3-10). -/

namespace Sys2Proof.Machine

open Sys2Proof Sys2Proof.Safety

/-- A device past start-up, with every port DOWN. -/
def downPorts : State :=
  { State.reset with dev := (Dev.reset.wr Reg.HIF_BOOT_STEP 8).wr Reg.CLK_STATUS_SAFE 0 }

theorem downPorts_enable : downPorts.dev.hasPk 0 = true ∧ (downPorts.dev.rd Reg.CLK_GATE_ST_RUN).testBit 0 = true ∧
    downPorts.dev.flag Reg.GLB_SETUP_LOCK_LOCK = false ∧ downPorts.dev.flag Reg.SOR_CFG_EN 0 = false ∧
    downPorts.dev.portState 0 = 0 ∧ downPorts.dev.rd Reg.SOR_CFG_TEST 0 = 0 ∧ downPorts.dev.safe = false ∧
    downPorts.dev.bootStep = 8 := by decide +kernel

/-- The write sends the test pattern, PRBS31, and nothing else. -/
theorem hostWrite_downPorts_out : (downPorts.fresh.hostWrite downPorts.evr 0x100000 0x201).out =
    [.out (.down 0 (.pattern 2))] := by decide +kernel

end Sys2Proof.Machine

namespace Sys2Proof

open Sys2Proof.Machine Sys2Proof.Safety

/-- Refutes O8: SOR_CFG.TEST set by the write that sets EN takes the lanes, and the PRBS13 of the training is not sent, which the
third clause leaves open (Table 3-10). -/
theorem not_setEnablesStartTheirUnits : ¬ Obligations.SetEnablesStartTheirUnits := by
  rintro ⟨-, -, henable, -⟩
  obtain ⟨hpk, hclk, hlock, hen, hdown, htest, hsafe, hstep⟩ := downPorts_enable
  obtain ⟨t, ht, -, -, hsent⟩ := henable downPorts 0 0x200#32 hpk hclk hlock hen hdown htest hsafe hstep
  have hnext : exec (.sorCfgEnSet 0 0x200#32) downPorts =
      .next (downPorts.settle (downPorts.fresh.hostWrite downPorts.evr 0x100000 0x201)) := rfl
  rw [hnext, Host.Outcome.next.injEq] at ht
  rw [← ht] at hsent
  rcases State.mem_settle_sent hsent with hmem | hpost
  · rw [hostWrite_downPorts_out] at hmem
    exact absurd hmem (by decide)
  · cases hpost

end Sys2Proof

/-! SUPPORT. What sending on a port keeps: its registers, the step of its training, and what was sent before (R100, R105,
R116). -/

namespace Sys2Proof.Machine

open Sys2Proof Sys2Proof.Safety

set_option Elab.async false

/-- Fields of registers that are repeated in the same way lie at different bit addresses in every copy. -/
theorem Fld.key_ne {f g : Fld} (i j : Nat) (hsa : f.sa = g.sa := by rfl) (hsb : f.sb = g.sb := by rfl)
    (h : f.base * 8 + f.lo ≠ g.base * 8 + g.lo := by decide) : f.key i j ≠ g.key i j := by
  unfold Fld.key
  rw [hsa, hsb]
  omega

/-- Sending on a port changes nothing of it but what waits on its lanes. -/
theorem Dev.port_sendDown (d : Dev) (p : Nat) (c : DownCell) :
    ∃ q, (d.sendDown p c).port p = { d.port p with queue := q } := by
  unfold Dev.sendDown
  split
  · exact ⟨_, rfl⟩
  · exact ⟨_, d.port_setPort_same p _⟩

theorem Dev.port_wr (d : Dev) (f : Fld) (v i j q : Nat) : (d.wr f v i j).port q = d.port q := rfl

/-- From `a` to `b` requests are added to those made, and the registers and the step of the port's training stay. -/
structure StepKeeps (p : Nat) (a b : Dev) : Prop where
  fv : b.fv = a.fv
  step : (b.port p).step = (a.port p).step
  sends : Sends p a b

namespace StepKeeps

variable {p : Nat} {a b c : Dev}

theorem refl (p : Nat) (a : Dev) : StepKeeps p a a := ⟨rfl, rfl, .refl p a⟩

theorem trans (h : StepKeeps p a b) (g : StepKeeps p b c) : StepKeeps p a c :=
  ⟨g.fv.trans h.fv, g.step.trans h.step, h.sends.trans g.sends⟩

theorem foldl {α : Type} {f : Dev → α → Dev} (h : ∀ d x, StepKeeps p d (f d x)) (l : List α) (d : Dev) :
    StepKeeps p d (l.foldl f d) := by
  induction l generalizing d with
  | nil => exact refl p d
  | cons x t ih => exact (h d x).trans (ih _)

theorem rd (h : StepKeeps p a b) (f : Fld) (i j : Nat) : b.rd f i j = a.rd f i j := Dev.rd_of_fv h.fv f i j

variable (d : Dev)

/-- A change of the port that keeps its step, its superframe and its last cell. -/
theorem setPort (x : Port) (hs : x.step = (d.port p).step := by rfl) (hf : x.sf = (d.port p).sf := by rfl)
    (hc : x.lastCell = (d.port p).lastCell := by rfl) : StepKeeps p d (d.setPort p x) :=
  ⟨rfl, by simpa using hs, .setPort d x hf hc⟩

theorem sendDown (c : DownCell) : StepKeeps p d (d.sendDown p c) := by
  obtain ⟨q, hq⟩ := d.port_sendDown p c
  exact ⟨(CellKeeps.sendDown (p := p) d c).fv, by rw [hq], .sendDown d c⟩

theorem sendSfs (n code : Nat) : StepKeeps p d (d.sendSfs p n code) := by
  have lane (d : Dev) (l : Nat) : StepKeeps p d (d.sfsLane p n code l) := by
    have queued (q : List (List Nat)) : StepKeeps p d (d.setPort p { d.port p with queue := q }) := .setPort d _
    unfold Dev.sfsLane
    dsimp only
    split
    · exact queued _
    · refine .trans ?_ (sendDown _ _)
      split
      · exact queued _
      · exact (queued _).trans ⟨rfl, rfl, .of_same rfl rfl rfl⟩
  exact .trans (lane d 0) (lane _ 1)

theorem ctlNow (op : CtlOp) (tries : Nat) : StepKeeps p d (d.ctlNow p op tries) := by
  unfold Dev.ctlNow Dev.sendControl
  exact .trans (setPort d _) (sendDown _ _)

theorem ctl (op : CtlOp) : StepKeeps p d (d.ctl p op) := by
  unfold Dev.ctl
  split
  · exact ctlNow d op 0
  · split
    · exact setPort d _
    · exact refl p d

theorem ctlRelease : StepKeeps p d (d.ctlRelease p) :=
  .trans (setPort d _) (foldl (fun d q => ctlNow d _ _) _ _)

theorem claimPk : StepKeeps p d (d.claimPk p) := by
  unfold Dev.claimPk
  dsimp only
  split
  · exact refl p d
  · exact ctl d _

end StepKeeps

/-! SUPPORT. The steps of a port's training (Table 3-6). -/

/-- The part of `Dev.trainStep` that begins step `n`. -/
def Dev.beginStep (d : Dev) (p n : Nat) : Dev := (d.setPort p { d.port p with step := n }).sendDown p (.training 3 n)

section
variable {d : Dev} {p : Nat} {r : TrainReport} (hs : d.portState p = 1)
include hs

theorem Dev.trainStep_one (hn : (d.port p).step = 1) : d.trainStep p r = d.beginStep p 2 := by
  simp [Dev.trainStep, hs, hn, Dev.beginStep]

theorem Dev.trainStep_two (hn : (d.port p).step = 2) : d.trainStep p r =
    ((d.wr Reg.SOR_LANE_POL_UP_INV r.inverted.toNat p).wr Reg.SOR_STATUS_UP_LOCK 0xFF p).beginStep p 3 := by
  simp [Dev.trainStep, hs, hn, Dev.beginStep]

theorem Dev.trainStep_three (hn : (d.port p).step = 3) : d.trainStep p r =
    (((d.setPort p { d.port p with sf := 0 }).setChop p { d.chop p with slot := 0 }).beginStep p 4).sendSfs p 0 0x1E := by
  simp [Dev.trainStep, hs, hn, Dev.beginStep]

theorem Dev.trainStep_four (hn : (d.port p).step = 4) : d.trainStep p r = d.beginStep p 5 := by
  simp [Dev.trainStep, hs, hn, Dev.beginStep]

theorem Dev.trainStep_five (hn : (d.port p).step = 5) (hok : r.numbersOk = true) (hrtt : r.rtt ≤ 22500) (hskew : r.skew ≤ 562) :
    d.trainStep p r = (((d.wr Reg.SOR_TIMING_RTT r.rtt p).wr Reg.SOR_TIMING_SKEW r.skew p).beginStep p 6).ctlNow p .identify := by
  have hrtt' : ¬ 22500 < r.rtt := by omega
  have hskew' : ¬ 562 < r.skew := by omega
  simp [Dev.trainStep, hs, hn, Dev.beginStep, Dev.timing, hok, hrtt', hskew']

theorem Dev.trainStep_six (hn : (d.port p).step = 6) : d.trainStep p r =
    (d.setPort p { d.port p with ctl := (d.port p).ctl.filter fun w => w.op != .identify }).portReady p r.identity.toNat := by
  simp [Dev.trainStep, hs, hn]

end

/-- A step that has begun: its pattern is sent on both lanes, and what follows keeps it. -/
theorem Dev.beginStep_keeps (d : Dev) (p n : Nat) : StepKeeps p (d.setPort p { d.port p with step := n }) (d.beginStep p n) :=
  .sendDown _ _

theorem Dev.port_beginStep (d : Dev) (p n : Nat) :
    ∃ q, (d.beginStep p n).port p = { d.port p with step := n, queue := q } := by
  obtain ⟨q, hq⟩ := (d.setPort p { d.port p with step := n }).port_sendDown p (.training 3 n)
  exact ⟨q, hq.trans (by rw [Dev.port_setPort_same])⟩

/-- With lane 0 in use a command goes out on it under the next tag (R100). -/
theorem Dev.mem_ctlNow {d : Dev} {p : Nat} (hl : (d.port p).lostDn = 0#2) (op : CtlOp)
    (ht : d.rd Reg.SOR_CFG_TEST p = 0) : Emit.out (.down p (.control 0 (d.port p).nextTag op)) ∈ (d.ctlNow p op).out := by
  have h0 : (if (d.port p).lostDn.getLsbD 0 then 1 else 0) = 0 := by rw [hl]; rfl
  unfold Dev.ctlNow Dev.sendControl
  dsimp only
  rw [Dev.port_setPort_same]
  dsimp only
  rw [h0]
  exact Dev.mem_sendDown (d := d.setPort p _) ht _

section
variable {d e : Dev} {p n : Nat} (h : StepKeeps p (d.beginStep p n) e)
include h

theorem Dev.step_beginStep : (e.port p).step = n := by
  rw [h.step, (d.beginStep_keeps p n).step, Dev.port_setPort_same]

theorem Dev.sf_beginStep : (e.port p).sf = (d.port p).sf := by
  rw [h.sends.sf, (d.beginStep_keeps p n).sends.sf, Dev.port_setPort_same]

theorem Dev.rd_beginStep (f : Fld) (i j : Nat) : e.rd f i j = d.rd f i j :=
  (h.rd f i j).trans ((d.beginStep_keeps p n).rd f i j)

theorem Dev.mem_beginStep (ht : d.rd Reg.SOR_CFG_TEST p = 0) : Emit.out (.down p (.training 3 n)) ∈ e.out :=
  h.sends.mem (Dev.mem_sendDown (d := d.setPort p { d.port p with step := n }) ht _)

end

/-- The port shows that it trains, and sends what it has to. -/
def Dev.Training (d : Dev) (p : Nat) : Prop := d.portState p = 1 ∧ d.rd Reg.SOR_CFG_TEST p = 0

theorem Dev.Training.wr {d : Dev} {p : Nat} (h : d.Training p) {f : Fld} (v : Nat)
    (hs : Reg.SOR_STATUS_STATE.key p 0 ≠ f.key p 0) (ht : Reg.SOR_CFG_TEST.key p 0 ≠ f.key p 0) : (d.wr f v p).Training p :=
  ⟨(Dev.rd_wr_ne d f _ v p 0 p 0 hs).trans h.1, (Dev.rd_wr_ne d f _ v p 0 p 0 ht).trans h.2⟩

/-- The completion of one of the first four steps begins the next one from a device that still trains, with a superframe count
of 0 where framed training starts. -/
theorem Dev.trainStep_begins {d : Dev} {p : Nat} (r : TrainReport) (h : d.Training p) (h1 : 1 ≤ (d.port p).step)
    (h4 : (d.port p).step ≤ 4) :
    ∃ e : Dev, e.Training p ∧ ((d.port p).step = 3 → (e.port p).sf = 0) ∧
      StepKeeps p (e.beginStep p ((d.port p).step + 1)) (d.trainStep p r) := by
  have hc : (d.port p).step = 1 ∨ (d.port p).step = 2 ∨ (d.port p).step = 3 ∨ (d.port p).step = 4 := by omega
  rcases hc with hn | hn | hn | hn
  · rw [Dev.trainStep_one h.1 hn, hn]
    exact ⟨d, h, by simp, .refl _ _⟩
  · rw [Dev.trainStep_two h.1 hn, hn]
    exact ⟨_, (h.wr _ (Fld.key_ne p 0) (Fld.key_ne p 0)).wr _ (Fld.key_ne p 0) (Fld.key_ne p 0), by simp, .refl _ _⟩
  · rw [Dev.trainStep_three h.1 hn, hn]
    exact ⟨(d.setPort p { d.port p with sf := 0 }).setChop p { d.chop p with slot := 0 }, h,
      fun _ => congrArg Port.sf (d.port_setPort_same p _), .sendSfs _ _ _⟩
  · rw [Dev.trainStep_four h.1 hn, hn]
    exact ⟨d, h, by simp, .refl _ _⟩

/-! SUPPORT. The identity answered, and the port ready (Table 3-6, R325). -/

/-- The part of `Dev.portReady` that shows the front-end and the state. -/
def Dev.showReady (d : Dev) (p identity : Nat) : Dev :=
  let d := ((d.wr Reg.SOR_FE_ID_LO_ID (identity % 2 ^ 32) p).wr Reg.SOR_FE_ID_HI_ID (identity / 2 ^ 32) p).wr
    Reg.SOR_STATUS_STATE 2 p
  d.setPort p { d.port p with step := 0, tries := 0 }

theorem Dev.rd_showReady (d : Dev) (p identity : Nat) (f : Fld) (i j : Nat) : (d.showReady p identity).rd f i j =
    (((d.wr Reg.SOR_FE_ID_LO_ID (identity % 2 ^ 32) p).wr Reg.SOR_FE_ID_HI_ID (identity / 2 ^ 32) p).wr
      Reg.SOR_STATUS_STATE 2 p).rd f i j := rfl

/-- What follows sends the requests that waited, and the request for the front-end. -/
theorem Dev.portReady_keeps (d : Dev) (p identity : Nat) :
    ∃ rtt, StepKeeps p ((d.showReady p identity).setAdvance p rtt) (d.portReady p identity) := by
  refine ⟨(d.showReady p identity).rd Reg.SOR_TIMING_RTT p, ?_⟩
  unfold Dev.portReady
  dsimp only
  split
  · exact (StepKeeps.ctlRelease _).trans (.claimPk _)
  · exact .ctlRelease _

theorem Fld.key_le (f : Fld) {i k : Nat} (h : i ≤ k) : f.key i 0 ≤ f.key k 0 := by
  have := Nat.mul_le_mul_left f.sa h
  unfold Fld.key
  omega

/-- The advance of the chopper stands above the registers of the ports. -/
theorem Dev.rd_setAdvance (d : Dev) (p : Pk) (rtt : Nat) (f : Fld)
    (h : f.key 16 0 < Reg.MOT_AX_CFG_D_CH.base * 8 := by decide) : (d.setAdvance p rtt).rd f p = d.rd f p := by
  have ne (i j : Nat) : f.key p 0 ≠ Reg.MOT_AX_CFG_D_CH.key i j := by
    have := f.key_le p.isLt.le
    unfold Fld.key at *
    omega
  unfold Dev.setAdvance
  generalize chopperAdvance rtt = n
  dsimp only
  rw [Dev.wrAx, Dev.wrAx, Dev.rd_wr_ne _ _ _ _ _ _ _ _ (ne _ _), Dev.rd_wr_ne _ _ _ _ _ _ _ _ (ne _ _)]
  rfl

theorem Dev.step_setAdvance (d : Dev) (p rtt : Nat) : ((d.setAdvance p rtt).port p).step = (d.port p).step := by
  unfold Dev.setAdvance
  generalize chopperAdvance rtt = n
  dsimp only
  rw [Dev.wrAx, Dev.port_wr, Dev.wrAx, Dev.port_wr, Dev.port_setPort_same]

section
variable (d : Dev) (p : Pk) (identity : Nat)

theorem Dev.rd_portReady (f : Fld) (h : f.key 16 0 < Reg.MOT_AX_CFG_D_CH.base * 8 := by decide) :
    (d.portReady p identity).rd f p = (d.showReady p identity).rd f p := by
  obtain ⟨rtt, hk⟩ := d.portReady_keeps p identity
  rw [hk.rd, Dev.rd_setAdvance _ _ _ _ h]

theorem Dev.step_portReady : ((d.portReady p identity).port p).step = 0 := by
  obtain ⟨rtt, hk⟩ := d.portReady_keeps p identity
  rw [hk.step, Dev.step_setAdvance, Dev.showReady, Dev.port_setPort_same]

theorem Dev.portState_portReady : (d.portReady p identity).portState p = 2 :=
  (d.rd_portReady p identity _).trans ((Dev.rd_showReady _ _ _ _ _ _).trans (Dev.rd_wr_same _ _ _ _ _))

theorem Dev.feIdLo_portReady : (d.portReady p identity).rd Reg.SOR_FE_ID_LO_ID p = identity % 2 ^ 32 := by
  rw [Dev.rd_portReady _ _ _ _ (by decide), Dev.rd_showReady, Dev.rd_wr_ne _ _ _ _ _ _ _ _ (Fld.key_ne _ _), Dev.rd_wr_ne _ _ _ _ _ _ _ _ (Fld.key_ne _ _), Dev.rd_wr_same]
  exact Nat.mod_mod _ _

theorem Dev.feIdHi_portReady : (d.portReady p identity).rd Reg.SOR_FE_ID_HI_ID p = identity / 2 ^ 32 % 2 ^ 32 := by
  rw [Dev.rd_portReady _ _ _ _ (by decide), Dev.rd_showReady, Dev.rd_wr_ne _ _ _ _ _ _ _ _ (Fld.key_ne _ _), Dev.rd_wr_same]
  rfl

end

/-! SUPPORT. A training that starts again (R105, R116). -/

/-- The state of a port whose training starts. -/
def Port.trained (x : Port) (tries : Nat) : Port :=
  { x with
    step := 1, tries := tries, runs := List.replicate 8 0, quiet := List.replicate 8 0, delin := List.replicate 8 none,
    lostUp := 0, lostDn := 0, servo := [], queue := [[], []], ctl := x.ctl.filter fun w => w.op != .identify }

section
variable (d : Dev) (p n : Nat)

theorem Dev.train_eq : d.train p n = (((d.setPort p ((d.port p).trained n)).wr Reg.SOR_STATUS_STATE 1 p).wr
    Reg.SOR_STATUS_UP_LOCK 0 p).sendDown p (.training 3 1) := rfl

theorem Dev.port_train : ∃ q, (d.train p n).port p = { (d.port p).trained n with queue := q } := by
  obtain ⟨q, hq⟩ := Dev.port_sendDown (((d.setPort p ((d.port p).trained n)).wr Reg.SOR_STATUS_STATE 1 p).wr
    Reg.SOR_STATUS_UP_LOCK 0 p) p (.training 3 1)
  exact ⟨q, hq.trans (by rw [Dev.port_wr, Dev.port_wr, Dev.port_setPort_same])⟩

theorem Dev.rd_train (f : Fld) (i : Nat) (hs : f.key i 0 ≠ Reg.SOR_STATUS_STATE.key p 0)
    (hu : f.key i 0 ≠ Reg.SOR_STATUS_UP_LOCK.key p 0) : (d.train p n).rd f i = d.rd f i := by
  rw [Dev.train_eq, (StepKeeps.sendDown _ _).rd, Dev.rd_wr_ne _ _ _ _ _ _ _ _ hu, Dev.rd_wr_ne _ _ _ _ _ _ _ _ hs]
  rfl

theorem Dev.portState_train : (d.train p n).portState p = 1 := by
  rw [Dev.portState, Dev.train_eq, (StepKeeps.sendDown _ _).rd, Dev.rd_wr_ne _ _ _ _ _ _ _ _ (Fld.key_ne _ _), Dev.rd_wr_same]
  rfl

theorem Dev.mem_train (ht : d.rd Reg.SOR_CFG_TEST p = 0) : Emit.out (.down p (.training 3 1)) ∈ (d.train p n).out := by
  rw [Dev.train_eq]
  refine Dev.mem_sendDown ?_ _
  rw [Dev.rd_wr_ne _ _ _ _ _ _ _ _ (Fld.key_ne _ _), Dev.rd_wr_ne _ _ _ _ _ _ _ _ (Fld.key_ne _ _)]
  exact ht

/-- An error of a port sets its flag. -/
theorem Dev.flag_sorErr (f : Fld) (hw : 0 < f.w) : (d.sorErr f p).flag f p = true := by
  have hb : ((d.rd f p ||| 2 ^ 0) % 2 ^ f.w).testBit 0 = true := by rw [Nat.testBit_mod_two_pow]; simp [hw]
  unfold Dev.sorErr Dev.flag
  rw [Dev.rd_setErr_same]
  refine bne_iff_ne.2 fun h => ?_
  rw [h] at hb
  exact absurd hb (by decide)

/-- With tries left, a training that fails sets its flag and starts again. -/
theorem Dev.trainFail_retry (h : (d.port p).tries < d.rd Reg.SOR_CFG_TRAIN_RETRIES p) :
    d.trainFail p = (d.sorErr Reg.SOR_ERR_TRAIN_FAIL p).train p ((d.port p).tries + 1) := by
  have hr : (d.sorErr Reg.SOR_ERR_TRAIN_FAIL p).rd Reg.SOR_CFG_TRAIN_RETRIES p = d.rd Reg.SOR_CFG_TRAIN_RETRIES p :=
    Dev.rd_setErr_ne _ _ _ _ _ _ _ _ _ _ _ (Fld.key_ne p 0)
  unfold Dev.trainFail
  dsimp only
  rw [hr]
  exact if_pos h

end

end Sys2Proof.Machine

/-! O16. The training of a port, step by step. -/

namespace Sys2Proof.Machine

open Sys2Proof Sys2Proof.Safety

set_option Elab.async false

section
variable (s : State) (p : Pk) (r : TrainReport)

/-- A completed step of 1 to 4 begins the next (Table 3-6). -/
theorem trainingStepDone_begins (h : s.dev.portState p = 1) (h1 : 1 ≤ (s.dev.port p).step) (h4 : (s.dev.port p).step ≤ 4)
    (ht : s.dev.rd Reg.SOR_CFG_TEST p = 0) : After (.trainingStepDone p r) s fun t =>
      (t.dev.port p).step = (s.dev.port p).step + 1 ∧ t.dev.portState p = 1 ∧
      Out.down p (.training 3 ((s.dev.port p).step + 1)) ∈ t.sent ∧ ((s.dev.port p).step = 3 → (t.dev.port p).sf = 0) := by
  refine ⟨_, rfl, ?_⟩
  dsimp only
  obtain ⟨e, he, hsf, hk⟩ := Dev.trainStep_begins (d := s.fresh) r ⟨h, ht⟩ h1 h4
  refine ⟨?_, ?_, (Sends.refl p _).sent (Dev.mem_beginStep hk he.2) s, fun h3 => ?_⟩
  · rw [State.settle_port, Dev.step_beginStep hk]
    rfl
  · rw [Dev.portState, State.settle_rd _ _ _ _ _ (by decide), Dev.rd_beginStep hk]
    exact he.1
  · rw [State.settle_port, Dev.sf_beginStep hk, hsf h3]

/-- A measurement within its bounds sends IDENTIFY and begins step 6 (R108). -/
theorem trainingStepDone_identifies (h : s.dev.portState p = 1) (h5 : (s.dev.port p).step = 5)
    (hl : (s.dev.port p).lostDn = 0#2) (hok : r.numbersOk = true) (hrtt : r.rtt ≤ 22500) (hskew : r.skew ≤ 562)
    (ht : s.dev.rd Reg.SOR_CFG_TEST p = 0) : After (.trainingStepDone p r) s fun t =>
      (t.dev.port p).step = 6 ∧ Out.down p (.control 0 (s.dev.port p).nextTag .identify) ∈ t.sent ∧
      t.dev.rd Reg.SOR_TIMING_RTT p = r.rtt ∧ t.dev.rd Reg.SOR_TIMING_SKEW p = r.skew := by
  have hk := StepKeeps.ctlNow (p := p)
    (((s.fresh.wr Reg.SOR_TIMING_RTT r.rtt p).wr Reg.SOR_TIMING_SKEW r.skew p).beginStep p 6) .identify 0
  refine ⟨_, rfl, ?_⟩
  dsimp only
  rw [Dev.trainStep_five (d := s.fresh) h h5 hok hrtt hskew]
  refine ⟨?_, (Sends.refl p _).sent ?_ s, ?_, ?_⟩
  · rw [State.settle_port, Dev.step_beginStep hk]
  · obtain ⟨q, hq⟩ := Dev.port_beginStep ((s.fresh.wr Reg.SOR_TIMING_RTT r.rtt p).wr Reg.SOR_TIMING_SKEW r.skew p) p 6
    have hc := Dev.mem_ctlNow (p := p)
      (d := ((s.fresh.wr Reg.SOR_TIMING_RTT r.rtt p).wr Reg.SOR_TIMING_SKEW r.skew p).beginStep p 6)
      (by rw [hq]; exact hl) .identify
      (by
        rw [Dev.rd_beginStep (.refl _ _), Dev.rd_wr_ne _ _ _ _ _ _ _ _ (Fld.key_ne _ _),
          Dev.rd_wr_ne _ _ _ _ _ _ _ _ (Fld.key_ne _ _)]
        exact ht)
    rw [hq] at hc
    exact hc
  · rw [State.settle_rd _ _ _ _ _ (by decide), Dev.rd_beginStep hk, Dev.rd_wr_ne _ _ _ _ _ _ _ _ (Fld.key_ne _ _),
      Dev.rd_wr_same]
    exact Nat.mod_eq_of_lt (by show r.rtt < 65536; omega)
  · rw [State.settle_rd _ _ _ _ _ (by decide), Dev.rd_beginStep hk, Dev.rd_wr_same]
    exact Nat.mod_eq_of_lt (by show r.skew < 65536; omega)

/-- The identity answered makes the port UP (R105, R107). -/
theorem trainingStepDone_up (h : s.dev.portState p = 1) (h6 : (s.dev.port p).step = 6) :
    After (.trainingStepDone p r) s fun t => t.dev.portState p = 2 ∧
      t.dev.rd Reg.SOR_FE_ID_LO_ID p = r.identity.toNat % 2 ^ 32 ∧
      t.dev.rd Reg.SOR_FE_ID_HI_ID p = r.identity.toNat / 2 ^ 32 ∧ (t.dev.port p).step = 0 := by
  refine ⟨_, rfl, ?_⟩
  dsimp only
  rw [Dev.trainStep_six (d := s.fresh) h h6]
  refine ⟨?_, ?_, ?_, ?_⟩
  · rw [Dev.portState, State.settle_rd _ _ _ _ _ (by decide)]
    exact Dev.portState_portReady _ p _
  · rw [State.settle_rd _ _ _ _ _ (by decide), Dev.feIdLo_portReady]
  · rw [State.settle_rd _ _ _ _ _ (by decide), Dev.feIdHi_portReady]
    exact Nat.mod_eq_of_lt (Nat.div_lt_of_lt_mul r.identity.isLt)
  · rw [State.settle_port, Dev.step_portReady]

/-- A step that exceeds its bound, with tries left, starts training again (R105, R116). -/
theorem trainingStepTimeout_retries (h : s.dev.portState p = 1) (h0 : (s.dev.port p).step ≠ 0)
    (hn : (s.dev.port p).tries < s.dev.rd Reg.SOR_CFG_TRAIN_RETRIES p) (ht : s.dev.rd Reg.SOR_CFG_TEST p = 0) :
    After (.trainingStepTimeout p) s fun t => t.dev.flag Reg.SOR_ERR_TRAIN_FAIL p = true ∧ t.dev.portState p = 1 ∧
      (t.dev.port p).step = 1 ∧ (t.dev.port p).tries = (s.dev.port p).tries + 1 ∧
      Out.down p (.training 3 1) ∈ t.sent := by
  have hc : (s.fresh.portState p = 1 && (s.fresh.port p).step != 0) = true :=
    Bool.and_eq_true_iff.2 ⟨decide_eq_true h, bne_iff_ne.2 h0⟩
  refine ⟨_, rfl, ?_⟩
  dsimp only
  rw [if_pos hc, Dev.trainFail_retry s.fresh p hn]
  obtain ⟨q, hq⟩ := (s.fresh.sorErr Reg.SOR_ERR_TRAIN_FAIL p).port_train p ((s.fresh.port p).tries + 1)
  refine ⟨?_, ?_, ?_, ?_, (Sends.refl p _).sent (Dev.mem_train _ p _ ?_) s⟩
  · rw [State.settle_flag _ _ _ _ _ (by decide), Dev.flag, Dev.rd_train _ _ _ _ _ (Fld.key_ne _ _) (Fld.key_ne _ _)]
    exact Dev.flag_sorErr s.fresh p Reg.SOR_ERR_TRAIN_FAIL (by decide)
  · rw [Dev.portState, State.settle_rd _ _ _ _ _ (by decide)]
    exact Dev.portState_train _ p _
  · rw [State.settle_port, hq]
    rfl
  · rw [State.settle_port, hq]
    rfl
  · exact (Dev.rd_setErr_ne _ _ _ _ _ _ _ _ _ _ _ (Fld.key_ne p 0)).trans ht

end

end Sys2Proof.Machine

namespace Sys2Proof

open Machine

/-- Settles O16, one lemma per clause: the steps 1 to 4, the measurement, the identity, and the bound exceeded. -/
theorem portTraining : Obligations.PortTraining := by
  unfold Obligations.PortTraining
  exact ⟨trainingStepDone_begins, trainingStepDone_identifies, trainingStepDone_up, trainingStepTimeout_retries⟩

end Sys2Proof

/-! SUPPORT. What the Yarrow pool keeps where it gives work to its engines: its registers, its jobs, and what its engines do
(R173, R204, R208). -/

namespace Sys2Proof.Machine

open Sys2Proof Sys2Proof.Safety

/-- A fill frame, which belongs to no cluster (R185). -/
def SFrame.Fill (f : SFrame) : Prop :=
  roleOf (zoneOf (faBand f.addr)) (frameNumber (zoneOf (faBand f.addr)) (faTrack f.addr) (faFrame f.addr)) = 31

/-- The bit addresses of YAR_STATUS. -/
def yarStatusKeys : List Nat :=
  [Reg.YAR_STATUS_BUSY.key 0 0, Reg.YAR_STATUS_QUEUED.key 0 0, Reg.YAR_STATUS_JOINT_QUEUED.key 0 0]

theorem State.settle_work (s : State) (d : Dev) (e : Nat) : (s.settle d).dev.work e = d.work e := by
  rw [Dev.work, State.settle_yar, Dev.work]

theorem State.settle_spot (s : State) (d : Dev) (g : Nat) : (s.settle d).dev.spot g = d.spot g := by
  rw [Dev.spot, State.settle_spots, Dev.spot]

theorem State.settle_inService (s : State) (d : Dev) (e : Nat) : (s.settle d).dev.inService e = d.inService e := by
  unfold Dev.inService
  rw [State.settle_rd _ _ _ _ _ (by decide), State.settle_rd _ _ _ _ _ (by decide)]

section
variable (d : Dev)

/-- A counter of a spot stands above the registers of the pool. -/
theorem Dev.rd_bump_spotCounter {f c : Fld} (g : Nat) (h : f.key 0 0 < c.base * 8 := by decide) :
    (d.bump c 1 g).rd f = d.rd f :=
  d.rd_bump_ne c f 1 g 0 0 0 (Nat.ne_of_lt (h.trans_le (by unfold Fld.key; omega)))

theorem Dev.rd_showYar {f : Fld} (h : f.key 0 0 ∉ yarStatusKeys := by decide) : d.showYar.rd f = d.rd f := by
  simp only [yarStatusKeys, List.mem_cons, List.not_mem_nil, or_false, not_or] at h
  obtain ⟨hbusy, hqueued, hjoint⟩ := h
  unfold Dev.showYar
  rw [Dev.rd_wr_ne _ _ _ _ _ _ _ _ hjoint, Dev.rd_wr_ne _ _ _ _ _ _ _ _ hqueued, Dev.rd_wr_ne _ _ _ _ _ _ _ _ hbusy]

theorem Dev.rd_setJobs (l : List Job) {f : Fld} (h : f.key 0 0 ∉ yarStatusKeys := by decide) :
    (d.setJobs l).rd f = d.rd f := Dev.rd_showYar _ h

theorem Dev.rd_setWork (e : Nat) (w : Option Work) {f : Fld} (h : f.key 0 0 ∉ yarStatusKeys := by decide) :
    (d.setWork e w).rd f = d.rd f := Dev.rd_showYar _ h

@[simp] theorem Dev.setJobs_jobs (l : List Job) : (d.setJobs l).yar.jobs = l := rfl

@[simp] theorem Dev.setWork_jobs (e : Nat) (w : Option Work) : (d.setWork e w).yar.jobs = d.yar.jobs := rfl

@[simp] theorem Dev.work_setWork (e : Nat) (w : Option Work) : (d.setWork e w).work e = w := mget_mset_same _ _ _ _

theorem Dev.work_stage' (e : Nat) (w : Work) (st : Stage) :
    (d.stage' e w st).work e = some { w with stage := st, ends := d.clk.cyc + st.cost } := d.work_setWork e _

/-- The service of an engine is read from YAR_ENG_FAULT alone. -/
theorem Dev.inService_of_rd {a b : Dev} (e : Nat) (hlo : b.rd Reg.YAR_ENG_FAULT_LO_FAULT = a.rd Reg.YAR_ENG_FAULT_LO_FAULT)
    (hhi : b.rd Reg.YAR_ENG_FAULT_HI_FAULT = a.rd Reg.YAR_ENG_FAULT_HI_FAULT) : b.inService e = a.inService e := by
  unfold Dev.inService
  rw [hlo, hhi]

/-- An error bit marks that it has made its record, and leaves the rest of the pool. -/
theorem Dev.errOnce_pool (f : Fld) (who inst addr : Nat) : (d.errOnce f who inst addr).yar.jobs = d.yar.jobs ∧
    (d.errOnce f who inst addr).yar.eng = d.yar.eng ∧ (d.errOnce f who inst addr).clk = d.clk := by
  unfold Dev.errOnce
  dsimp only
  split <;> exact ⟨rfl, rfl, rfl⟩

theorem Dev.miss_pool (r inst : Nat) : (d.miss r inst).yar = d.yar ∧ (d.miss r inst).clk = d.clk := by
  unfold Dev.miss
  dsimp only
  split <;> exact ⟨rfl, rfl⟩

end

/-! ### A frame that is decided too late (R187, R188) -/

/-- A frame decode miss: an error bit, a miss of row 4, and the counts of dropped and stopped jobs. -/
def Dev.decodeMiss (d : Dev) (f : Fld) (fr : SFrame) (g : Nat) : Dev :=
  (((d.errOnce f (1000 + fr.pk) g fr.addr).miss 4 g).bump Reg.YAR_CNT_DROPPED_COUNT).bump Reg.YAR_SP_CNT_C_DROPPED 1 g

section
variable (d : Dev) (f : Fld) (fr : SFrame) (g : Nat)

theorem Dev.decodeMiss_pool : (d.decodeMiss f fr g).yar.jobs = d.yar.jobs ∧ (d.decodeMiss f fr g).clk = d.clk := by
  obtain ⟨hjobs, -, hclk⟩ := d.errOnce_pool f (1000 + fr.pk) g fr.addr
  obtain ⟨hyar, hclk'⟩ := (d.errOnce f (1000 + fr.pk) g fr.addr).miss_pool 4 g
  exact ⟨(congrArg Yar.jobs hyar).trans hjobs, hclk'.trans hclk⟩

theorem Dev.decodeMiss_window : (mget (d.decodeMiss f fr g).windows none (4 * 65536 + g)).isSome = true :=
  Dev.miss_isSome _ 4 g

theorem Dev.flag_decodeMiss (hw : f.w = 1) (hc : f.key 0 0 ≠ Reg.YAR_CNT_DROPPED_COUNT.key 0 0 := by decide)
    (hs : f.key 0 0 < Reg.YAR_SP_CNT_C_DROPPED.base * 8 := by decide) : (d.decodeMiss f fr g).flag f = true := by
  unfold Dev.decodeMiss Dev.flag
  rw [Dev.rd_bump_spotCounter _ _ hs, Dev.rd_bump_ne _ _ _ _ _ _ _ _ hc, Dev.rd_miss]
  exact d.flag_errOnce_same hw _ _ _

theorem Dev.dropped_decodeMiss (hf : Reg.YAR_CNT_DROPPED_COUNT.key 0 0 ≠ f.key 0 0 := by decide) :
    (d.decodeMiss f fr g).rd Reg.YAR_CNT_DROPPED_COUNT =
      min (2 ^ Reg.YAR_CNT_DROPPED_COUNT.w - 1) (d.rd Reg.YAR_CNT_DROPPED_COUNT + 1) := by
  unfold Dev.decodeMiss
  rw [Dev.rd_bump_spotCounter, Dev.rd_bump_same, Dev.rd_miss, Dev.rd_errOnce_ne _ hf]

end

/-! ### A fill frame that is erased (R197), and an engine that leaves service (R204) -/

section
variable (d : Dev) {fr : SFrame} (hfill : fr.Fill) (hdraw : fr.draw = false)
include hfill hdraw

/-- The erasure of a fill frame is counted, and its slot returns: no cluster and no draw check hears of it. -/
theorem Dev.eraseFrame_fill (cause : Nat) : d.eraseFrame fr cause =
    ((d.slotBack fr).bump Reg.YAR_CNT_FAILED_COUNT).bump Reg.YAR_SP_CNT_B_FAILED 1 fr.spot := by
  unfold Dev.eraseFrame Dev.toCluster
  dsimp only
  rw [if_neg (by simp [hdraw])]
  exact if_pos (by simpa [hdraw, SFrame.Fill] using hfill)

theorem Dev.eraseFrame_fill_keeps (cause : Nat) :
    (d.eraseFrame fr cause).yar = d.yar ∧ (d.eraseFrame fr cause).windows = d.windows := by
  rw [d.eraseFrame_fill hfill hdraw]
  exact ⟨rfl, rfl⟩

theorem Dev.rd_eraseFrame_fill (cause : Nat) {f : Fld} (hc : f.key 0 0 ≠ Reg.YAR_CNT_FAILED_COUNT.key 0 0 := by decide)
    (hs : f.key 0 0 < Reg.YAR_SP_CNT_B_FAILED.base * 8 := by decide) : (d.eraseFrame fr cause).rd f = d.rd f := by
  rw [d.eraseFrame_fill hfill hdraw, Dev.rd_bump_spotCounter _ _ hs, Dev.rd_bump_ne _ _ _ _ _ _ _ _ hc]
  rfl

end

/-- The part of `Dev.engineFault` that sets the engine's bit in YAR_ENG_FAULT. -/
def Dev.outOfService (d : Dev) (e : Nat) : Dev :=
  if e < 32 then d.wr Reg.YAR_ENG_FAULT_LO_FAULT (d.rd Reg.YAR_ENG_FAULT_LO_FAULT ||| 2 ^ e)
  else d.wr Reg.YAR_ENG_FAULT_HI_FAULT (d.rd Reg.YAR_ENG_FAULT_HI_FAULT ||| 2 ^ (e - 32))

section
variable (d : Dev) (e : Eng)

theorem Dev.engineFault_eq (w : Work) : d.engineFault e w = (((d.setWork e none).outOfService e).errOnce Reg.YAR_ERR_ENG_FAULT
    (1000 + w.job.fr.pk) w.job.fr.spot w.job.fr.addr).eraseFrame w.job.fr 2 := rfl

theorem Dev.outOfService_yar : (d.outOfService e).yar = d.yar := by
  unfold Dev.outOfService
  split <;> rfl

/-- A bit that is set in a register of 32 bits reads 1. -/
theorem testBit_or_two_pow_mod {v k : Nat} (h : k < 32) : ((v ||| 2 ^ k) % 2 ^ 32).testBit k = true := by
  rw [Nat.testBit_mod_two_pow, Nat.testBit_or, Nat.testBit_two_pow_self]
  simp [h]

theorem Dev.inService_outOfService : (d.outOfService e).inService e = false := by
  unfold Dev.outOfService Dev.inService
  by_cases he : e.val < 32
  · rw [if_pos he, if_pos he, Dev.rd_wr_same]
    exact congrArg not (testBit_or_two_pow_mod he)
  · rw [if_neg he, if_neg he, Dev.rd_wr_same]
    exact congrArg not (testBit_or_two_pow_mod (by omega))

end

end Sys2Proof.Machine

/-! O20. The jobs of the decoder pool, clause by clause. -/

namespace Sys2Proof.Machine

open Sys2Proof Sys2Proof.Safety

/-- The oldest complete frame of a spot becomes a pass-1 job, and its slot is away (R162, R173, R190). -/
theorem frameHandover_queues {s : State} {g : Sys2Proof.Spot} {f : SFrame} {l : List SFrame}
    (h : (s.dev.spot g).full = f :: l) : After (.frameHandover g) s fun t =>
      t.dev.yar.jobs.map (·.fr) = s.dev.yar.jobs.map (·.fr) ++ [f] ∧
      t.dev.yar.jobs.map (·.dl) = s.dev.yar.jobs.map (·.dl) ++ [f.deadline] ∧ (t.dev.spot g).full = l ∧
      (t.dev.spot g).away = ((s.dev.spot g).away.filter fun q => q.1 != f.slot) ++ [(f.slot, f.deadline)] := by
  have hfull : (s.fresh.spot g).full = f :: l := h
  refine ⟨_, rfl, ?_⟩
  dsimp only
  rw [hfull]
  have hspot {x : Machine.Spot} : mget (mset s.fresh.spots Spot.reset g x) Spot.reset g = x := mget_mset_same _ _ _ _
  refine ⟨?_, ?_, ?_, ?_⟩
  · rw [State.settle_yar]
    exact List.map_append
  · rw [State.settle_yar]
    exact List.map_append
  · rw [State.settle_spot]
    exact congrArg Spot.full hspot
  · rw [State.settle_spot]
    exact congrArg Spot.away hspot

/-- An idle engine in service loads the pass-1 job of the earliest deadline (R187). -/
theorem engineJobStart_loads {s : State} {e : Eng} {j : Job} {l : List Job} (hserves : s.dev.inService e = true)
    (hidle : s.dev.work e = none)
    (hfirst : (s.dev.yar.jobs.filter fun j => j.elig).foldl (fun l j => insJob j l) [] = j :: l) (hj : j.joint = false) :
    After (.engineJobStart e) s fun t => (t.dev.work e).map (fun w => (w.job, w.stage, w.ends)) =
      some (j, .load, s.dev.clk.cyc + 586) ∧ t.dev.yar.jobs = s.dev.yar.jobs.erase j := by
  have hfree : ¬ (!s.fresh.inService e || (s.fresh.work e).isSome) = true := by
    rw [show s.fresh.inService e = true from hserves, show s.fresh.work e = none from hidle]
    decide
  have hnext : (s.fresh.yar.jobs.filter fun j => j.elig).foldl (fun l j => insJob j l) [] = j :: l := hfirst
  refine ⟨_, rfl, ?_⟩
  dsimp only
  rw [if_neg hfree, hnext]
  dsimp only
  rw [if_neg (by simp [hj])]
  refine ⟨?_, ?_⟩
  · rw [State.settle_work, Dev.work_setWork]
    rfl
  · rw [State.settle_yar, Dev.setWork_jobs, Dev.setJobs_jobs]
    rfl

section
variable {s : State} {e : Eng} {w : Work} (hw : s.dev.work e = some w)
include hw

/-- The end of loading begins detection (Table 5-1). -/
theorem engineStageEnd_detects (hst : w.stage = .load) : After (.engineStageEnd e false) s fun t =>
    t.dev.work e = some { w with stage := .detect, ends := s.dev.clk.cyc + 1200 } := by
  have hwork : s.fresh.work e = some w := hw
  refine ⟨_, rfl, ?_⟩
  dsimp only
  rw [hwork]
  dsimp only
  rw [hst, State.settle_work]
  exact Dev.work_stage' _ e w .detect

/-- The end of detection begins iteration (Table 5-1). -/
theorem engineStageEnd_iterates (hst : w.stage = .detect) : After (.engineStageEnd e false) s fun t =>
    (t.dev.work e).map (fun q => (q.job, q.stage, q.iters)) = some (w.job, .iterate, w.iters) := by
  have hwork : s.fresh.work e = some w := hw
  refine ⟨_, rfl, ?_⟩
  dsimp only
  rw [hwork]
  dsimp only
  rw [hst, State.settle_work]
  exact congrArg (Option.map fun q : Work => (q.job, q.stage, q.iters)) (Dev.work_stage' _ e _ .iterate)

/-- An engine whose checks fail ends its job and leaves service (R204). -/
theorem engineStageEnd_faults (hfill : w.job.fr.Fill) (hdraw : w.job.fr.draw = false) :
    After (.engineStageEnd e true) s fun t => t.dev.work e = none ∧ t.dev.inService e = false ∧
      t.dev.flag Reg.YAR_ERR_ENG_FAULT = true := by
  have hwork : s.fresh.work e = some w := hw
  refine ⟨_, rfl, ?_⟩
  dsimp only
  rw [hwork]
  dsimp only
  rw [if_pos rfl, Dev.engineFault_eq]
  have hrd (a : Dev) {f : Fld} (hf : f.key 0 0 ≠ Reg.YAR_ERR_ENG_FAULT.key 0 0 := by decide)
      (hc : f.key 0 0 ≠ Reg.YAR_CNT_FAILED_COUNT.key 0 0 := by decide)
      (hs : f.key 0 0 < Reg.YAR_SP_CNT_B_FAILED.base * 8 := by decide) :
      ((a.errOnce Reg.YAR_ERR_ENG_FAULT (1000 + w.job.fr.pk) w.job.fr.spot w.job.fr.addr).eraseFrame w.job.fr 2).rd f =
        a.rd f := by
    rw [Dev.rd_eraseFrame_fill _ hfill hdraw _ hc hs, Dev.rd_errOnce_ne _ hf]
  refine ⟨?_, ?_, ?_⟩
  · rw [State.settle_work, Dev.work, (Dev.eraseFrame_fill_keeps _ hfill hdraw _).1, (Dev.errOnce_pool _ _ _ _ _).2.1,
      Dev.outOfService_yar]
    exact Dev.work_setWork _ e none
  · rw [State.settle_inService, Dev.inService_of_rd e (hrd _) (hrd _)]
    exact Dev.inService_outOfService _ e
  · rw [State.settle_flag _ _ _ _ _ (by decide), Dev.flag, Dev.rd_eraseFrame_fill _ hfill hdraw]
    exact Dev.flag_errOnce_same _ rfl _ _ _

/-- A job that is not at its output by its deadline goes there, and is a decode miss (R188). -/
theorem hardStop_outputs (hst : w.stage ≠ .output) : After (.hardStop e) s fun t =>
    t.dev.work e = some { w with stage := .output, ends := s.dev.clk.cyc + Stage.output.cost, stopped := true } ∧
    t.dev.flag Reg.YAR_ERR_HARD_STOP = true ∧ (mget t.dev.windows none (4 * 65536 + w.job.fr.spot)).isSome = true := by
  have hwork : s.fresh.work e = some w := hw
  have heq : exec (.hardStop e) s = .next (s.settle ((s.fresh.decodeMiss Reg.YAR_ERR_HARD_STOP w.job.fr w.job.fr.spot).stage' e
      { w with stopped := true } .output)) := by
    refine congrArg (fun d => Host.Outcome.next (s.settle d)) ?_
    dsimp only
    rw [hwork]
    exact if_neg (by simpa using hst)
  refine ⟨_, heq, ?_, ?_, ?_⟩
  · rw [State.settle_work, Dev.work_stage', (Dev.decodeMiss_pool _ _ _ _).2]
    rfl
  · rw [State.settle_flag _ _ _ _ _ (by decide), Dev.flag, Dev.stage', Dev.rd_setWork]
    exact Dev.flag_decodeMiss _ _ _ _ rfl
  · rw [State.settle_windows]
    exact Dev.decodeMiss_window _ _ _ _

end

/-- The joint jobs of a spot become eligible at the end of their wait (R184). -/
theorem jointWaitExpiry_frees (s : State) (g : Sys2Proof.Spot) : After (.jointWaitExpiry g) s fun t =>
    t.dev.yar.jobs = s.dev.yar.jobs.map fun j => if j.joint = true ∧ j.fr.spot = g.val then { j with elig := true } else j := by
  refine ⟨_, rfl, ?_⟩
  dsimp only
  rw [State.settle_yar, Dev.setJobs_jobs]
  simp only [Bool.and_eq_true, beq_iff_eq, State.fresh_yar]

/-- The earliest pass-1 job of a spot is dropped, which is counted and a decode miss (R187). -/
theorem jobDrop_drops {s : State} {g : Sys2Proof.Spot} {j : Job}
    (hj : s.dev.pass1.find? (fun j => j.fr.spot == g.val) = some j) (hfill : j.fr.Fill) (hdraw : j.fr.draw = false) :
    After (.jobDrop g) s fun t => t.dev.yar.jobs = s.dev.yar.jobs.erase j ∧ t.dev.flag Reg.YAR_ERR_DROP = true ∧
      t.dev.rd Reg.YAR_CNT_DROPPED_COUNT = min (2 ^ Reg.YAR_CNT_DROPPED_COUNT.w - 1) (s.dev.rd Reg.YAR_CNT_DROPPED_COUNT + 1) ∧
      (mget t.dev.windows none (4 * 65536 + g.val)).isSome = true := by
  have hfound : s.fresh.pass1.find? (fun j => j.fr.spot == g.val) = some j := hj
  have heq : exec (.jobDrop g) s = .next (s.settle (((s.fresh.setJobs (s.fresh.yar.jobs.erase j)).decodeMiss Reg.YAR_ERR_DROP
      j.fr g).eraseFrame j.fr)) := by
    refine congrArg (fun d => Host.Outcome.next (s.settle d)) ?_
    dsimp only
    rw [hfound]
    rfl
  obtain ⟨hyar, hwindows⟩ := Dev.eraseFrame_fill_keeps
    ((s.fresh.setJobs (s.fresh.yar.jobs.erase j)).decodeMiss Reg.YAR_ERR_DROP j.fr g) hfill hdraw 1
  refine ⟨_, heq, ?_, ?_, ?_, ?_⟩
  · rw [State.settle_yar, hyar, (Dev.decodeMiss_pool _ _ _ _).1]
    rfl
  · rw [State.settle_flag _ _ _ _ _ (by decide), Dev.flag, Dev.rd_eraseFrame_fill _ hfill hdraw]
    exact Dev.flag_decodeMiss _ _ _ _ rfl
  · rw [State.settle_rd _ _ _ _ _ (by decide), Dev.rd_eraseFrame_fill _ hfill hdraw,
      Dev.dropped_decodeMiss _ _ _ _ (by decide), Dev.rd_setJobs]
    rfl
  · rw [State.settle_windows, hwindows]
    exact Dev.decodeMiss_window _ _ _ _

end Sys2Proof.Machine

namespace Sys2Proof

open Machine

/-- Settles O20, one lemma per clause: the handover, the stages of an engine, the joint wait, and the jobs dropped or stopped. -/
theorem decoderPoolJobs : Obligations.DecoderPoolJobs := by
  unfold Obligations.DecoderPoolJobs
  refine ⟨?_, ?_, ?_, ?_, ?_, jointWaitExpiry_frees, ?_, ?_⟩
  · exact fun s g f l h => frameHandover_queues h
  · exact fun s e j l hserves hidle hfirst hj => engineJobStart_loads hserves hidle hfirst hj
  · exact fun s e w hw hst => engineStageEnd_detects hw hst
  · exact fun s e w hw hst => engineStageEnd_iterates hw hst
  · exact fun s e w hw hfill hdraw => engineStageEnd_faults hw hfill hdraw
  · exact fun s g j hj hfill hdraw => jobDrop_drops hj hfill hdraw
  · exact fun s e w hw hst => hardStop_outputs hw hst

end Sys2Proof
/-! SUPPORT. What the operations of a servo engine leave of it: its registers in the block of Table 7-12, and the course of its
procedure. -/

namespace Sys2Proof.Machine

open Sys2Proof Sys2Proof.Safety

set_option Elab.async false

/-- The bit address of a field in the first of its copies. -/
def Fld.place (f : Fld) : Nat := f.base * 8 + f.lo

/-- A field of the block of registers that every servo engine has. -/
def Fld.engine (f : Fld) : Bool :=
  f.sa == 0x4000 && f.sb == 0 && decide (0x400000 ≤ f.base) && decide (f.base + 4 ≤ 0x404000) && decide (f.lo < 32)

/-- A field that stands below the servo engines, in as many copies as any has. -/
def Fld.belowEngines (f : Fld) : Bool := decide (f.base + f.sa * 511 + f.sb * 15 + 4 ≤ 0x400000) && decide (f.lo < 32)

theorem Fld.engine_bounds {f : Fld} (h : f.engine = true) {p : Nat} (hp : p < 16) :
    0x400000 * 8 ≤ f.key p 0 ∧ f.key p 0 < 0x500000 * 8 := by
  simp only [Fld.engine, Bool.and_eq_true, beq_iff_eq, decide_eq_true_eq] at h
  obtain ⟨⟨⟨⟨hsa, hsb⟩, hlo⟩, hhi⟩, hbit⟩ := h
  unfold Fld.key
  rw [hsa, hsb]
  omega

theorem Fld.key_lt_of_belowEngines {f : Fld} (h : f.belowEngines = true) {i j : Nat} (hi : i < 512) (hj : j < 16) :
    f.key i j < 0x400000 * 8 := by
  simp only [Fld.belowEngines, Bool.and_eq_true, decide_eq_true_eq] at h
  obtain ⟨hbase, hbit⟩ := h
  have := Nat.mul_le_mul_left f.sa (Nat.le_of_lt_succ hi)
  have := Nat.mul_le_mul_left f.sb (Nat.le_of_lt_succ hj)
  unfold Fld.key
  omega

theorem Fld.engine_key_ne {f g : Fld} (hf : f.engine = true) (hg : g.engine = true) (h : f.place ≠ g.place) (p : Nat) :
    f.key p 0 ≠ g.key p 0 := by
  simp only [Fld.engine, Bool.and_eq_true, beq_iff_eq, decide_eq_true_eq] at hf hg
  obtain ⟨⟨⟨⟨hfa, hfb⟩, -⟩, -⟩, -⟩ := hf
  obtain ⟨⟨⟨⟨hga, hgb⟩, -⟩, -⟩, -⟩ := hg
  exact Fld.key_ne p 0 (hfa.trans hga.symm) (hfb.trans hgb.symm) h

theorem Fld.calm_of_engine {f : Fld} (h : f.engine = true) : f.calm = true := by
  simp only [Fld.engine, Bool.and_eq_true, decide_eq_true_eq] at h
  have : 0x80000 ≤ f.base := by omega
  simp [Fld.calm, this]

theorem modeFld_engine (l : Nat) : (modeFld l).engine = true := by
  unfold modeFld
  split <;> decide

/-- The places of the modes of the loops. -/
def modePlaces : List Nat := (List.range 5).map fun l => (modeFld l).place

theorem place_modeFld_mem (l : Nat) : (modeFld l).place ∈ modePlaces := by
  unfold modeFld
  split <;> decide

/-- The places in which a fall of write_en shows (R272). -/
def writeOffPlaces : List Nat := [Reg.SVO_ERR_WRITE_OFF.place, Reg.SVO_CNT_D_WRITE_OFF.place]

/-- Where the procedure of an engine stands: its phase, whether tracking is held, and the sweeps of an acquisition. -/
def Servo.course (x : Servo) : Phase × Bool × Nat := (x.phase, x.held, x.facq)

/-- From `a` to `b` engine `p` keeps its registers but those at the places `ks`, and the course of its procedure. -/
structure EngineKeeps (ks : List Nat) (p : Nat) (a b : Dev) : Prop where
  rd : ∀ f : Fld, f.engine = true → f.place ∉ ks → b.rd f p = a.rd f p
  course : (b.svo p).course = (a.svo p).course

namespace EngineKeeps

variable {ks ls : List Nat} {p : Nat} {a b c d : Dev}

theorem of_same (hf : b.fv = a.fv) (hs : b.servos = a.servos) : EngineKeeps ks p a b :=
  ⟨fun f _ _ => Dev.rd_of_fv hf f p 0, by rw [Dev.svo, Dev.svo, hs]⟩

theorem refl (ks : List Nat) (p : Nat) (a : Dev) : EngineKeeps ks p a a := of_same rfl rfl

theorem trans (h : EngineKeeps ks p a b) (g : EngineKeeps ks p b c) : EngineKeeps ks p a c :=
  ⟨fun f hf hk => (g.rd f hf hk).trans (h.rd f hf hk), g.course.trans h.course⟩

/-- `trans`, the second step first: it says from where the first step leads. -/
theorem after (g : EngineKeeps ks p b c) (h : EngineKeeps ks p a b) : EngineKeeps ks p a c := h.trans g

theorem foldl {α : Type} {f : Dev → α → Dev} (l : List α) (h : ∀ d, ∀ x ∈ l, EngineKeeps ks p d (f d x)) (d : Dev) :
    EngineKeeps ks p d (l.foldl f d) := by
  induction l generalizing d with
  | nil => exact refl ks p d
  | cons x t ih => exact (h d x List.mem_cons_self).trans (ih (fun d y hy => h d y (List.mem_cons_of_mem _ hy)) _)

theorem each {f : Dev → Nat → Dev} (n : Nat) (h : ∀ d, ∀ i < n, EngineKeeps ks p d (f d i)) (d : Dev) :
    EngineKeeps ks p d (d.each n f) := foldl _ (fun d i hi => h d i (List.mem_range.1 hi)) d

theorem ite {P : Prop} [Decidable P] (h : EngineKeeps ks p a b) (g : EngineKeeps ks p a c) :
    EngineKeeps ks p a (if P then b else c) := by
  split
  · exact h
  · exact g

theorem of_calm (h : Calm a b) : EngineKeeps ks p a b :=
  ⟨fun f hf _ => h.rd f p 0 (Fld.calm_key (Fld.calm_of_engine hf) p 0), by rw [Dev.svo, Dev.svo, h.servos]⟩

theorem of_cell (h : CellKeeps p a b) : EngineKeeps ks p a b := of_same h.fv h.servos

theorem phase (h : EngineKeeps ks p a b) : (b.svo p).phase = (a.svo p).phase := congrArg Prod.fst h.course

theorem held (h : EngineKeeps ks p a b) : (b.svo p).held = (a.svo p).held := congrArg (·.2.1) h.course

theorem facq (h : EngineKeeps ks p a b) : (b.svo p).facq = (a.svo p).facq := congrArg (·.2.2) h.course

section
variable (d : Dev)

/-- A step of an engine that leaves the course of its procedure. -/
theorem setSvo (x : Servo) (h : x.course = (d.svo p).course := by simp only [Servo.course, Servo.setLoop, Servo.setTab]) :
    EngineKeeps ks p d (d.setSvo p x) :=
  ⟨fun _ _ _ => rfl, by rw [Dev.svo_setSvo_same, h]⟩

theorem yar (y : Yar) : EngineKeeps ks p d { d with yar := y } := of_same rfl rfl

theorem setCalPk (q : Nat) (x : CalPk) : EngineKeeps ks p d (d.setCalPk q x) := of_same rfl rfl

/-- A register of the engine's own. -/
theorem wr (f : Fld) (v : Nat) (hk : f.place ∈ ks) (hf : f.engine = true := by decide) :
    EngineKeeps ks p d (d.wr f v p) :=
  ⟨fun _ hg hn => Dev.rd_wr_ne _ _ _ _ _ _ _ _ (Fld.engine_key_ne hg hf (fun e => hn (e ▸ hk)) p), rfl⟩

theorem setErr (f : Fld) (k inst addr : Nat) (further : List (Nat × Nat × Nat)) (force : Bool) (hk : f.place ∈ ks)
    (hf : f.engine = true := by decide) : EngineKeeps ks p d (d.setErr f k p inst addr further force) :=
  .after (of_calm (.emit _ _)) (wr d f _ hk hf)

theorem svoErr (f : Fld) (hk : f.place ∈ ks) (hf : f.engine = true := by decide) : EngineKeeps ks p d (d.svoErr f p) := by
  unfold Dev.svoErr
  dsimp only
  generalize (d.svo p).errAt.any _ = made
  split
  · exact wr d f 1 hk hf
  · exact .after (setSvo _ _) (setErr d f _ _ _ _ _ hk hf)

theorem ctl (op : CtlOp) : EngineKeeps ks p d (d.ctl p op) := by
  unfold Dev.ctl
  split
  · unfold Dev.ctlNow Dev.sendControl
    exact of_cell (.trans (.setPort d _) (.sendDown _ _))
  · split
    · exact of_cell (.setPort d _)
    · exact refl ks p d

theorem setLoopMode (l m : Nat) (hk : (modeFld l).place ∈ ks) : EngineKeeps ks p d (d.setLoopMode p l m) := by
  have hw := wr d (modeFld l) (p := p) m hk (modeFld_engine l)
  unfold Dev.setLoopMode
  dsimp only
  split
  · exact hw
  · exact .after (setSvo _ _) hw

theorem manual (l : Nat) (v : Int) (hk : (modeFld l).place ∈ ks) : EngineKeeps ks p d (d.manual p l v) :=
  .after (setSvo _ _) (setLoopMode d l 1 hk)

/-! ### Calibration values in use (R346, R347) -/

theorem useScope : EngineKeeps ks p d (d.useScope p) := by
  unfold Dev.useScope Dev.useNow
  dsimp only
  refine .after (foldl _ (fun d q _ => each q.2 (fun d i _ => ?_) d) _) (setCalPk d p _)
  split
  · exact refl ks p d
  · exact setCalPk d p _

theorem takeTargets (l : Nat) : EngineKeeps ks p d (d.takeTargets p l) := by
  unfold Dev.takeTargets
  refine foldl _ (fun d q _ => each q.2 (fun d i _ => ?_) d) _
  dsimp only
  split
  · split
    · exact setCalPk d p _
    · exact refl ks p d
  · exact refl ks p d

theorem calAtOnce : EngineKeeps ks p d (d.calAtOnce p) := .after (useScope _) (setCalPk d p _)

theorem setPower (v : Int) : EngineKeeps ks p d (d.setPower p v) := by
  unfold Dev.setPower
  dsimp only
  split
  · exact refl ks p d
  · exact .after (ctl _ _) (setSvo d _)

theorem auto (l : Nat) (hk : (modeFld l).place ∈ ks) : EngineKeeps ks p d (d.auto p l) := by
  unfold Dev.auto
  dsimp only
  refine .after (setLoopMode _ l 2 hk) (.after (setSvo _ _) ?_)
  split
  · exact takeTargets d l
  · exact refl ks p d

theorem rebump (l : Nat) (hk : (modeFld l).place ∈ ks) : EngineKeeps ks p d (d.rebump p l) := by
  unfold Dev.rebump
  split
  · exact auto d l hk
  · exact refl ks p d

theorem takeZone (hk : ∀ l, (modeFld l).place ∈ ks) : EngineKeeps ks p d (d.takeZone p) := by
  unfold Dev.takeZone
  dsimp only
  split
  · exact useScope d
  · exact .after (foldl _ (fun d l _ => rebump d l (hk l)) _) (.after (useScope _) (setSvo d _))

theorem seedTables : EngineKeeps ks p d (d.seedTables p) := by
  refine foldl _ (fun d r _ => ?_) d
  have setTab (key : Nat) (t : Tab) : EngineKeeps ks p d (d.setSvo p ((d.svo p).setTab key t)) := setSvo d _
  unfold Dev.seedTable
  generalize (if p % 2 = 0 then p + 1 else p - 1) = q
  dsimp only
  split
  · exact refl ks p d
  split
  · exact setTab _ _
  split
  · exact setTab _ _
  split
  · split
    · exact setTab _ _
    · split
      · exact setTab _ _
      · exact refl ks p d
  · exact refl ks p d

theorem setLand (land : Bool) (hk : ∀ l, (modeFld l).place ∈ ks) (hl : Reg.SVO_STATE_LAND.place ∈ ks) :
    EngineKeeps ks p d (d.setLand p land) := by
  unfold Dev.setLand
  generalize (if land = true then 1 else 0) = v
  dsimp only
  split
  · exact refl ks p d
  · exact .after (rebump _ 4 (hk 4)) (.after (rebump _ 3 (hk 3)) (.after (rebump _ 1 (hk 1)) (.after (useScope _)
      (wr d _ _ hl))))

end

/-! ### What stands below the servo engines: spots, write spots, decoders -/

section
variable (d : Dev) (hp : p < 16)
include hp

theorem wrBelow (f : Fld) (v : Nat) {i j : Nat} (hi : i < 512) (hj : j < 16 := by omega)
    (hf : f.belowEngines = true := by decide) : EngineKeeps ks p d (d.wr f v i j) :=
  ⟨fun _ hg _ => Dev.rd_wr_ne _ _ _ _ _ _ _ _ (Nat.ne_of_gt
    ((Fld.key_lt_of_belowEngines hf hi hj).trans_le (Fld.engine_bounds hg hp).1)), rfl⟩

theorem bumpBelow (f : Fld) (n : Nat) {i j : Nat} (hi : i < 512) (hj : j < 16 := by omega)
    (hf : f.belowEngines = true := by decide) : EngineKeeps ks p d (d.bump f n i j) := wrBelow d hp f _ hi hj hf

theorem setErrBelow (f : Fld) (k inst addr : Nat) (further : List (Nat × Nat × Nat)) (force : Bool)
    (hf : f.belowEngines = true := by decide) : EngineKeeps ks p d (d.setErr f k 0 inst addr further force) :=
  .after (of_calm (.emit _ _)) (wrBelow d hp f _ (by omega) (by omega) hf)

theorem setBurn (b : Option Burn) : EngineKeeps ks p d (d.setBurn p b) :=
  .after (wrBelow _ hp _ _ (by omega)) (.after (wrBelow _ hp _ _ (by omega)) (of_same rfl rfl))

/-! ### write_en falls (R227, R272) -/

theorem drawFail (addr cause : Nat) (replace : Bool) : EngineKeeps ks p d (d.drawFail p addr cause replace) := by
  have count (d : Dev) (f g : Fld) (hf : f.belowEngines = true) (hg : g.belowEngines = true) :
      EngineKeeps ks p d ((d.bump f).bump g 1 p) :=
    .after (bumpBelow _ hp g 1 (by omega) (by omega) hg) (bumpBelow d hp f 1 (by omega) (by omega) hf)
  have failed (x : Burn) : EngineKeeps ks p d
      ((((d.setBurn p (some x)).setErr Reg.WCH_ERR_VERIFY_FAIL 0 0 p addr).bump Reg.WCH_CNT_VFAIL_COUNT).bump
        Reg.WCH_PK_CNT_VFAIL 1 p) :=
    .after (count _ _ _ (by decide) (by decide)) (.after (setErrBelow _ hp _ _ _ _ _ _) (setBurn d hp _))
  unfold Dev.drawFail
  split
  · exact refl ks p d
  split
  · exact refl ks p d
  dsimp only
  split
  · split
    · exact .after (count _ _ _ (by decide) (by decide)) (failed _)
    · exact failed _
  · exact failed _

theorem failUnfinished (w : Nat) : EngineKeeps ks p d (d.failUnfinished p w) := by
  unfold Dev.failUnfinished
  split
  · exact refl ks p d
  · exact .after (foldl _ (fun d f _ => drawFail d hp _ _ _) _) (setBurn d hp _)

theorem writeCut (okSf sf : Nat) : EngineKeeps ks p d (d.writeCut p okSf sf) := by
  have abort : EngineKeeps ks p d (d.writeAbort p 0xFF) := by
    unfold Dev.writeAbort
    split
    · exact ctl d _
    · exact refl ks p d
  unfold Dev.writeCut
  split
  · exact refl ks p d
  split
  · exact refl ks p d
  dsimp only
  refine .after (foldl _ (fun d q _ => drawFail d hp _ _ _) _) (.after (each 8 (fun d w _ => failUnfinished d hp w) _) ?_)
  split
  · exact .after (setErrBelow _ hp _ _ _ _ _ _) abort
  · exact abort

theorem writeOff (hk : ∀ k ∈ writeOffPlaces, k ∈ ks) : EngineKeeps ks p d (d.writeOff p) := by
  have herr : Reg.SVO_ERR_WRITE_OFF.place ∈ ks := hk _ (by decide)
  have hcnt : Reg.SVO_CNT_D_WRITE_OFF.place ∈ ks := hk _ (by decide)
  unfold Dev.writeOff Dev.writeOffAt
  dsimp only
  split
  · exact refl ks p d
  split
  · exact .after (writeCut _ hp _ _) (.after (wr _ _ _ hcnt) (.after (svoErr _ _ herr) (setSvo d _)))
  · exact setSvo d _

/-! ### The spot channels (R127, R128, R166) -/

theorem setSpot {g : Nat} (hg : g < 512) (x : Spot) : EngineKeeps ks p d (d.setSpot g x) := by
  have wr2 (d : Dev) (f h : Fld) (v w j : Nat) (hj : j < 16) (hf : f.belowEngines = true) (hh : h.belowEngines = true) :
      EngineKeeps ks p d ((d.wr f v g j).wr h w g j) := .after (wrBelow _ hp h w hg hj hh) (wrBelow d hp f v hg hj hf)
  unfold Dev.setSpot
  dsimp only [Dev.wrS]
  refine .after (each 10 (fun d i hi => wr2 d _ _ _ _ i (by omega) (by decide) (by decide)) _)
    (.after (each 8 (fun d i hi => ?_) _) ?_)
  · split
    · exact wr2 d _ _ _ _ i (by omega) (by decide) (by decide)
    · exact wrBelow d hp _ _ hg
  · refine .after (wr2 _ _ _ _ _ 0 (by omega) (by decide) (by decide)) ?_
    refine .after (wr2 _ _ _ _ _ 0 (by omega) (by decide) (by decide)) ?_
    exact .after (wr2 _ _ _ _ _ 0 (by omega) (by decide) (by decide)) (of_same rfl rfl)

theorem missRest {g : Nat} (hg : g < 512) : EngineKeeps ks p d (d.missRest g) := by
  unfold Dev.missRest
  dsimp only
  split
  · exact refl ks p d
  · exact .after (setSpot _ hp hg _) (of_same rfl rfl)

theorem showYar : EngineKeeps ks p d d.showYar := by
  unfold Dev.showYar
  exact .after (wrBelow _ hp _ _ (by omega)) (.after (wrBelow _ hp _ _ (by omega)) (wrBelow d hp _ _ (by omega)))

theorem checkJoint : EngineKeeps ks p d d.checkJoint := .after (showYar _ hp) (yar d _)

theorem spotIdle {g : Nat} (hg : g < 512) : EngineKeeps ks p d (d.spotIdle g) := by
  have idled (x : Spot) : EngineKeeps ks p d ((d.missRest g).setSpot g x) :=
    .after (setSpot _ hp hg _) (missRest d hp hg)
  unfold Dev.spotIdle Dev.setMode
  dsimp only
  split
  · exact refl ks p d
  split
  · exact idled _
  · exact .after (checkJoint _ hp) (.after (wrBelow _ hp _ _ hg) (idled _))

omit hp in
theorem seedVoid (g : Nat) : EngineKeeps ks p d (d.seedVoid g) := of_same rfl rfl

theorem seedJoint {g : Nat} (hg : g < 512) (h : List Int) : EngineKeeps ks p d (d.seedJoint g h) := by
  unfold Dev.seedJoint
  dsimp only [Dev.wrS]
  exact .after (yar _ _) (each 10 (fun d i hi => .after (wrBelow _ hp _ _ hg) (wrBelow d hp _ _ hg)) d)

theorem seedSpot {g : Nat} (hg : g < 512) (side layer zone speed land : Nat) :
    EngineKeeps ks p d (d.seedSpot g side layer zone speed land) := by
  have state (d : Dev) (v w : Nat) :
      EngineKeeps ks p d ((d.wr Reg.RCH_SP_STATE_SEEDED v g).wr Reg.RCH_SP_STATE_TRAINING w g) :=
    .after (wrBelow _ hp _ _ hg) (wrBelow d hp _ _ hg)
  have started (x : Spot) (h : List Int) (v w : Nat) : EngineKeeps ks p d
      ((((d.setSpot g x).seedJoint g h).wr Reg.RCH_SP_STATE_SEEDED v g).wr Reg.RCH_SP_STATE_TRAINING w g) :=
    .after (state _ _ _) (.after (seedJoint _ hp hg _) (setSpot d hp hg _))
  unfold Dev.seedSpot
  dsimp only
  split
  · exact refl ks p d
  split
  · split
    · exact .after (seedJoint _ hp hg _) (.after (state _ _ _) (setSpot d hp hg _))
    · exact .after (seedJoint _ hp hg _) (.after (state _ _ _) (setSpot d hp hg _))
  refine .ite ?_ ?_
  · exact .after (wrBelow _ hp _ _ (by omega)) (started _ _ _ _)
  · exact .after (yar _ _) (.after (setErrBelow _ hp _ _ _ _ _ _) (started _ _ _ _))

theorem spotBegin {g : Nat} (hg : g < 512) (side layer band t speed : Nat) (writes draw : Bool) :
    EngineKeeps ks p d (d.spotBegin g side layer band t speed writes draw) := by
  have acquired (d : Dev) : EngineKeeps ks p d (d.spotAcquire g side layer band t speed writes draw) := by
    unfold Dev.spotAcquire Dev.setMode
    dsimp only
    refine .after (wrBelow _ hp _ _ hg) (.after (setSpot _ hp hg _) (.after (seedSpot _ hp hg _ _ _ _ _) ?_))
    refine .after (setSpot _ hp hg _) (.after (yar _ _) ?_)
    exact .after (wrBelow _ hp _ _ hg) (wrBelow d hp _ _ hg)
  unfold Dev.spotBegin
  dsimp only
  refine .after (setSpot _ hp hg _) (.after ?_ (missRest d hp hg))
  split
  · exact setSpot _ hp hg _
  · exact acquired _

theorem spotsRow (layer band rev : Nat) : EngineKeeps ks p d (d.spotsRow p layer band rev) := by
  refine foldl _ (fun d j hj => ?_) d
  have hg : 32 * p + j < 512 := by have := List.mem_range.1 hj; omega
  dsimp only
  split
  · exact .after (seedVoid _ _) (spotIdle d hp hg)
  split
  · exact spotBegin d hp hg _ _ _ _ _ _ _
  · exact refl ks p d

theorem spotsRun : EngineKeeps ks p d (d.spotsRun p) := by
  unfold Dev.spotsRun
  dsimp only
  split
  · split
    · exact refl ks p d
    · exact spotsRow d hp _ _ _
  split
  · refine foldl _ (fun d j hj => ?_) d
    have hg : 32 * p + j < 512 := by have := List.mem_range.1 hj; omega
    split
    · exact spotBegin d hp hg _ _ _ _ _ _ _
    · exact refl ks p d
  · exact refl ks p d

theorem spotsNext : EngineKeeps ks p d (d.spotsNext p) := by
  unfold Dev.spotsNext
  split
  · split
    · exact spotsRow d hp _ _ _
    · exact refl ks p d
  · exact refl ks p d

theorem offTrack (hk : ∀ k ∈ writeOffPlaces, k ∈ ks) : EngineKeeps ks p d (d.offTrack p) := by
  have idle : EngineKeeps ks p d ((d.writeOff p).spotsIdle p) := ?_
  · exact idle.trans (setSvo _ _)
  refine .after (foldl _ (fun d g hg => ?_) _) (writeOff d hp hk)
  obtain ⟨j, hj, rfl⟩ := List.mem_map.1 hg
  have := List.mem_range.1 hj
  exact spotIdle d hp (by omega)

end

end EngineKeeps

end Sys2Proof.Machine
/-! SUPPORT. The steps that the procedures of a servo engine share: leaving the track, closing a loop, a move and its landing,
the beginning of a focus acquisition (R261, R273, R278, R282, R283). -/

namespace Sys2Proof.Machine

open Sys2Proof Sys2Proof.Safety

set_option Elab.async false

/-! ### Loops and polarity -/

section
variable (d : Dev) (p l : Nat)

theorem Dev.rd_setSvo (x : Servo) (f : Fld) (i j : Nat) : (d.setSvo p x).rd f i j = d.rd f i j := rfl

theorem Dev.flag_congr {a b : Dev} {f : Fld} {i j : Nat} (h : b.rd f i j = a.rd f i j) : b.flag f i j = a.flag f i j := by
  rw [Dev.flag, Dev.flag, h]

theorem modeFld_w : (modeFld l).w = 2 := by
  unfold modeFld
  split <;> rfl

theorem Dev.loopMode_setLoopMode {m : Nat} (hm : m < 4) : (d.setLoopMode p l m).loopMode p l = m := by
  have hw : (d.wr (modeFld l) m p).rd (modeFld l) p = m := by
    rw [Dev.rd_wr_same, modeFld_w]
    exact Nat.mod_eq_of_lt hm
  unfold Dev.setLoopMode Dev.loopMode
  dsimp only
  split
  · exact hw
  · exact hw

theorem Dev.loopMode_auto : (d.auto p l).loopMode p l = 2 := Dev.loopMode_setLoopMode _ p l (by omega)

theorem Dev.svoLand_setLand (land : Bool) : (d.setLand p land).svoLand p = if land then 1 else 0 := by
  have keeps (e : Dev) : EngineKeeps modePlaces p e ((((e.useScope p).rebump p 1).rebump p 3).rebump p 4) :=
    .after (.rebump _ 4 (place_modeFld_mem 4)) (.after (.rebump _ 3 (place_modeFld_mem 3))
      (.after (.rebump _ 1 (place_modeFld_mem 1)) (.useScope e)))
  have hv : (if land then 1 else 0) < 2 ^ Reg.SVO_STATE_LAND.w := by cases land <;> decide
  unfold Dev.setLand
  generalize (if land = true then 1 else 0) = v at hv ⊢
  dsimp only
  split
  · assumption
  · refine ((keeps _).rd Reg.SVO_STATE_LAND (by decide) (by decide)).trans ?_
    rw [Dev.rd_wr_same, Nat.mod_eq_of_lt hv]

end

/-! ### Leaving the track -/

/-- The places that leaving the track changes. -/
def leavePlaces : List Nat := Reg.SVO_STATE_STATE.place :: Reg.SVO_POS_VERIFIED.place :: writeOffPlaces

section
variable (d : Dev) {p : Nat} (hp : p < 16)
include hp

theorem Dev.leaveTrack_keeps (st : Nat) : EngineKeeps leavePlaces p d (d.leaveTrack p st) := by
  have left : EngineKeeps leavePlaces p d (((d.offTrack p).setSvoState p st).setVerified p false) :=
    .after (.wr _ _ _ (by decide)) (.after (.wr _ _ _ (by decide)) (.offTrack d hp (by decide)))
  exact left.trans (.setSvo _ _)

omit hp in
theorem Dev.svoState_leaveTrack {st : Nat} (hst : st < 8) : (d.leaveTrack p st).svoState p = st := by
  have left : EngineKeeps [] p (((d.offTrack p).setSvoState p st).setVerified p false) (d.leaveTrack p st) := .setSvo _ _
  rw [Dev.svoState, left.rd _ (by decide) List.not_mem_nil, Dev.setVerified, Dev.rd_wr_ne _ _ _ _ _ _ _ _ (Fld.key_ne p 0),
    Dev.setSvoState, Dev.rd_wr_same]
  exact Nat.mod_eq_of_lt hst

omit hp in
theorem Dev.engage_keeps (ks : List Nat) (hk : ∀ k ∈ modePlaces, k ∈ ks) : EngineKeeps ks p d (d.engage p) := by
  refine .foldl _ (fun d l _ => ?_) d
  split
  · exact .auto d l (hk _ (place_modeFld_mem l))
  · exact .refl _ p d

/-! ### A move and its landing -/

/-- The places that the end of a profile changes. -/
def landPlaces : List Nat := Reg.SVO_STATE_LAND.place :: modePlaces

/-- A device whose move has come to the end of its profile: the polarity follows T*, and tracking and yaw close (R283). -/
def Dev.landed (d : Dev) (p : Nat) : Dev :=
  let d := d.setSvo p { d.svo p with phase := .land, t := 0, teRun := 0, pair := 0, held := false }
  ((d.setLand p (isLand (d.svoTarget p))).auto p 1).auto p 4

/-- What follows the landing concerns the spot channels alone. -/
theorem Dev.profileEnd_keeps : EngineKeeps [] p (d.landed p) (d.profileEnd p) := by
  unfold Dev.profileEnd
  dsimp only
  split
  · exact .ite (.spotsRun _ hp) (.spotsNext _ hp)
  · exact .ite (.spotsNext _ hp) (.refl _ p _)

omit hp in
/-- Landing closes the loops and turns the polarity. -/
theorem Dev.landed_keeps :
    EngineKeeps landPlaces p (d.setSvo p { d.svo p with phase := .land, t := 0, teRun := 0, pair := 0, held := false })
      (d.landed p) := by
  have hk (l : Nat) : (modeFld l).place ∈ landPlaces := List.mem_cons_of_mem _ (place_modeFld_mem l)
  exact .after (.auto _ 4 (hk 4)) (.after (.auto _ 1 (hk 1)) (.setLand _ _ hk (by decide)))

omit hp in
theorem Dev.loopMode_landed : (d.landed p).loopMode p 1 = 2 ∧ (d.landed p).loopMode p 4 = 2 := by
  refine ⟨?_, Dev.loopMode_auto _ p 4⟩
  have yaw (e : Dev) : EngineKeeps [(modeFld 4).place] p e (e.auto p 4) := .auto e 4 List.mem_cons_self
  exact ((yaw _).rd (modeFld 1) (by decide) (by decide +kernel)).trans (Dev.loopMode_auto _ p 1)

omit hp in
theorem Dev.svoLand_landed : (d.landed p).svoLand p = if isLand (d.svoTarget p) then 1 else 0 := by
  have hk : EngineKeeps modePlaces p _ (d.landed p) :=
    .after (.auto _ 4 (place_modeFld_mem 4)) (.auto _ 1 (place_modeFld_mem 1))
  exact (hk.rd Reg.SVO_STATE_LAND (by decide) (by decide)).trans (Dev.svoLand_setLand _ p _)

/-- The end of a profile leaves the other registers of the engine. -/
theorem Dev.rd_profileEnd {f : Fld} (hf : f.engine = true) (hk : f.place ∉ landPlaces) :
    (d.profileEnd p).rd f p = d.rd f p :=
  ((d.profileEnd_keeps hp).rd f hf List.not_mem_nil).trans (d.landed_keeps.rd f hf hk)

/-- A move leaves the track, and the registers of the engine other than those of its landing as that leaves them. -/
theorem Dev.rd_move (n : Int) (own : Bool) {f : Fld} (hf : f.engine = true) (hk : f.place ∉ landPlaces) :
    (d.move p n own).rd f p = (d.leaveTrack p 3).rd f p := by
  have engaged : ((d.leaveTrack p 3).engage p).rd f p = (d.leaveTrack p 3).rd f p :=
    (Dev.engage_keeps _ modePlaces fun _ h => h).rd f hf fun h => hk (List.mem_cons_of_mem _ h)
  unfold Dev.move
  dsimp only
  split
  · exact (Dev.rd_profileEnd _ hp hf hk).trans ((Dev.rd_setSvo _ _ _ _ _ _).trans engaged)
  · exact (Dev.rd_setSvo _ _ _ _ _ _).trans engaged

theorem Dev.svoState_move (n : Int) (own : Bool) : (d.move p n own).svoState p = 3 := by
  rw [Dev.svoState, d.rd_move hp n own (by decide) (by decide +kernel)]
  exact d.svoState_leaveTrack (by omega)

omit hp in
/-- A move of at least one track runs its profile. -/
theorem Dev.svo_move {n : Int} (hn : n ≠ 0) (own : Bool) : ((d.move p n own).svo p).phase = .profile ∧
    ((d.move p n own).svo p).mvN = n ∧ ((d.move p n own).svo p).own = own := by
  unfold Dev.move
  dsimp only
  rw [if_neg hn, Dev.svo_setSvo_same]
  exact ⟨rfl, rfl, rfl⟩

/-! ### Focus acquisition -/

omit hp in
/-- From where an acquisition leaves the track and names its layer, it changes SIDE and the modes of the loops alone. -/
theorem Dev.rd_facqBegin (layer : Nat) {f : Fld} (hf : f.engine = true)
    (hk : f.place ∉ Reg.SVO_STATE_SIDE.place :: modePlaces) :
    (d.facqBegin p layer).rd f p = ((d.leaveTrack p 1).wr Reg.SVO_STATE_LAYER layer p).rd f p := by
  have hl (l : Nat) : (modeFld l).place ∈ Reg.SVO_STATE_SIDE.place :: modePlaces :=
    List.mem_cons_of_mem _ (place_modeFld_mem l)
  unfold Dev.facqBegin
  dsimp only
  rw [Dev.rd_setSvo]
  refine EngineKeeps.rd (ks := Reg.SVO_STATE_SIDE.place :: modePlaces) ?_ f hf hk
  refine .after (.manual _ 4 _ (hl 4)) (.after (.manual _ 3 _ (hl 3)) (.after (.manual _ 2 _ (hl 2)) ?_))
  refine .after (.manual _ 1 _ (hl 1)) (.after (.manual _ 0 _ (hl 0)) (.after (.setPower _ _) ?_))
  exact .after (.calAtOnce _) (.wr _ _ _ List.mem_cons_self)

omit hp in
theorem Dev.svoState_facqBegin (layer : Nat) : (d.facqBegin p layer).svoState p = 1 := by
  rw [Dev.svoState, d.rd_facqBegin layer (by decide) (by decide +kernel), Dev.rd_wr_ne _ _ _ _ _ _ _ _ (Fld.key_ne p 0)]
  exact d.svoState_leaveTrack (by omega)

omit hp in
theorem Dev.svoLayer_facqBegin {layer : Nat} (hl : layer < 4) : (d.facqBegin p layer).svoLayer p = layer := by
  rw [Dev.svoLayer, d.rd_facqBegin layer (by decide) (by decide +kernel), Dev.rd_wr_same]
  exact Nat.mod_eq_of_lt hl

theorem Dev.jumpFail_facqBegin (layer : Nat) :
    (d.facqBegin p layer).flag Reg.SVO_ERR_JUMP_FAIL p = d.flag Reg.SVO_ERR_JUMP_FAIL p := by
  refine Dev.flag_congr ?_
  rw [d.rd_facqBegin layer (by decide) (by decide +kernel), Dev.rd_wr_ne _ _ _ _ _ _ _ _ (Fld.key_ne p 0),
    (d.leaveTrack_keeps hp 1).rd _ (by decide) (by decide +kernel)]

omit hp in
theorem Dev.svo_facqBegin (layer : Nat) : ((d.facqBegin p layer).svo p).phase = .laser ∧
    ((d.facqBegin p layer).svo p).want = none ∧ ((d.facqBegin p layer).svo p).facq = 0 ∧
    ((d.facqBegin p layer).svo p).jump = none := by
  unfold Dev.facqBegin
  dsimp only
  rw [Dev.svo_setSvo_same]
  exact ⟨rfl, rfl, rfl, rfl⟩

end

/-! ### The conditions of focus acquisition -/

section
variable (d : Dev) {p : Nat} (hp : p < 16)

/-- An engine may change but for a RESUME under way, and its conditions stay. -/
theorem Dev.facqReady_setSvo (x : Servo) (h : x.resume = (d.svo p).resume) : (d.setSvo p x).facqReady p = d.facqReady p := by
  have hr : ((d.setSvo p x).svo p).resume = (d.svo p).resume := by rw [Dev.svo_setSvo_same, h]
  unfold Dev.facqReady
  rw [hr]
  rfl

include hp

/-- No register of an engine's own is a condition. -/
theorem Dev.facqReady_wr (f : Fld) (v : Nat) (hf : f.engine = true) : (d.wr f v p).facqReady p = d.facqReady p := by
  have hb := Fld.engine_bounds hf hp
  have low (g : Fld) (hg : g.belowEngines = true) : (d.wr f v p).rd g p = d.rd g p :=
    Dev.rd_wr_ne _ _ _ _ _ _ _ _ (Nat.ne_of_lt
      ((Fld.key_lt_of_belowEngines hg (by omega) (by omega)).trans_le hb.1))
  have high (g : Fld) (i j : Nat) (hg : 0x500000 ≤ g.base) : (d.wr f v p).rd g i j = d.rd g i j :=
    Dev.rd_wr_ne _ _ _ _ _ _ _ _ (Nat.ne_of_gt (hb.2.trans_le (by unfold Fld.key; omega)))
  unfold Dev.facqReady Dev.portUp Dev.portState Dev.owns Dev.homed Dev.flagAx Dev.flag
  rw [low _ (by decide), low _ (by decide), high _ _ _ (by decide), high _ _ _ (by decide), high _ _ _ (by decide)]
  rfl

theorem Dev.facqReady_manual (l : Nat) (v : Int) : (d.manual p l v).facqReady p = d.facqReady p := by
  have mode : (d.setLoopMode p l 1).facqReady p = d.facqReady p :=
    (Dev.facqReady_setSvo _ _ (by rfl)).trans (d.facqReady_wr hp _ 1 (modeFld_engine l))
  exact (Dev.facqReady_setSvo (d.setLoopMode p l 1) _ (by rfl)).trans mode

theorem Dev.facqReady_svoErr (f : Fld) (hf : f.engine = true) : (d.svoErr f p).facqReady p = d.facqReady p := by
  have marked : (d.setErr f 0 p p (d.svoFrame p)).facqReady p = d.facqReady p := d.facqReady_wr hp f (d.rd f p ||| 2 ^ 0) hf
  unfold Dev.svoErr
  dsimp only
  generalize (d.svo p).errAt.any _ = made
  split
  · exact d.facqReady_wr hp f 1 hf
  · exact (Dev.facqReady_setSvo _ _ (by rfl)).trans marked

end

/-! ### Error bits of an engine -/

/-- An error of an engine sets its flag. -/
theorem Dev.flag_svoErr (d : Dev) (p : Nat) {f : Fld} (hw : f.w = 1) : (d.svoErr f p).flag f p = true := by
  have odd (n : Nat) : (n ||| 2 ^ 0) % 2 ^ f.w ≠ 0 := by
    rw [hw, Nat.pow_zero, Nat.pow_one, Nat.or_mod_two_eq_one.2 (.inr rfl)]
    decide
  unfold Dev.svoErr
  dsimp only
  generalize (d.svo p).errAt.any _ = made
  split
  · rw [Dev.flag, Dev.rd_wr_same, hw]
    rfl
  · rw [Dev.flag, Dev.rd_setSvo, Dev.rd_setErr_same]
    exact bne_iff_ne.2 (odd _)

end Sys2Proof.Machine
/-! O25. The procedures of a servo engine, clause by clause. -/

namespace Sys2Proof.Machine

open Sys2Proof Sys2Proof.Safety

set_option Elab.async false

/-! ### The end of a command leaves an engine as the meaning left it -/

section
variable (s : State) (d : Dev) (p : Nat)

theorem State.settle_svo : (s.settle d).dev.svo p = d.svo p := by rw [Dev.svo, State.settle_servos, Dev.svo]

theorem State.settle_svoState : (s.settle d).dev.svoState p = d.svoState p := s.settle_rd d _ _ _ (by decide)

theorem State.settle_svoLayer : (s.settle d).dev.svoLayer p = d.svoLayer p := s.settle_rd d _ _ _ (by decide)

theorem State.settle_svoLand : (s.settle d).dev.svoLand p = d.svoLand p := s.settle_rd d _ _ _ (by decide)

theorem State.settle_loopMode (l : Nat) : (s.settle d).dev.loopMode p l = d.loopMode p l :=
  s.settle_rd d _ _ _ (Fld.calm_of_engine (modeFld_engine l))

end

theorem State.fresh_svo (s : State) (p : Nat) : s.fresh.svo p = s.dev.svo p := rfl

theorem State.fresh_svoState (s : State) (p : Nat) : s.fresh.svoState p = s.dev.svoState p := rfl

section
variable {s : State} {p : Pk}

/-! ### Focus acquisition (R273, R274) -/

theorem focusAcqStart_begins {l : Nat} (hwant : (s.dev.svo p).want = some l) (hoff : s.dev.svoState p = 0)
    (hready : s.dev.facqReady p = true) (hl : l < 4) (hclk : s.dev.clocked 7 = true) :
    After (.focusAcqStart p) s fun t => t.dev.svoState p = 1 ∧ (t.dev.svo p).phase = .laser ∧ t.dev.svoLayer p = l ∧
      (t.dev.svo p).want = none ∧ (t.dev.svo p).facq = 0 := by
  have hclk : s.fresh.clocked 7 = true := hclk
  have hwant : (s.fresh.svo p).want = some l := hwant
  have hmet : (s.fresh.svoState p = 0 && s.fresh.facqReady p) = true := by
    have hready : s.fresh.facqReady p = true := hready
    simp only [State.fresh_svoState, hoff, hready]
    decide
  obtain ⟨hphase, hnone, hfacq, -⟩ := s.fresh.svo_facqBegin (p := p) l
  refine ⟨_, rfl, ?_⟩
  dsimp only
  rw [if_pos hclk, hwant]
  dsimp only
  rw [if_pos hmet, State.settle_svo, State.settle_svoState, State.settle_svoLayer]
  exact ⟨Dev.svoState_facqBegin _ l, hphase, Dev.svoLayer_facqBegin _ hl, hnone, hfacq⟩

theorem focusSettled_focuses (hst : s.dev.svoState p = 1) (hphase : (s.dev.svo p).phase = .capture)
    (hrun : 16 ≤ (s.dev.svo p).feRun) : After (.focusSettled p) s fun t =>
      t.dev.svoState p = 2 ∧ (t.dev.svo p).phase = .none ∧ (t.dev.svo p).held = true := by
  have hmet : (s.fresh.svoState p = 1 && (s.fresh.svo p).phase == .capture && decide (16 ≤ (s.fresh.svo p).feRun)) = true := by
    simp only [State.fresh_svoState, State.fresh_svo, hst, hphase, hrun]
    decide
  refine ⟨_, rfl, ?_⟩
  dsimp only
  rw [if_pos hmet, State.settle_svo, State.settle_svoState]
  have focused (x : Servo) : EngineKeeps modePlaces p ((s.fresh.setSvoState p 2).setSvo p x)
      ((((((s.fresh.setSvoState p 2).setSvo p x).takeZone p).seedTables p).rebump p 0).completeAll
        (fun w => w == .focused p.val || w == .facqEnd p.val) St.success) :=
    .after (.of_calm (.completeAll _ _ _ _)) (.after (.rebump _ 0 (place_modeFld_mem 0)) (.after (.seedTables _)
      (.takeZone _ place_modeFld_mem)))
  refine ⟨?_, ?_, ?_⟩
  · rw [Dev.svoState, (focused _).rd _ (by decide) (by decide +kernel), Dev.rd_setSvo, Dev.setSvoState, Dev.rd_wr_same]
    rfl
  · rw [(focused _).phase, Dev.svo_setSvo_same]
  · rw [(focused _).held, Dev.svo_setSvo_same]

theorem focusSweepEnd_retracts (hst : s.dev.svoState p = 1) (hphase : (s.dev.svo p).phase = .sweep)
    (hlim : s.dev.outLim p 0 ≤ ((s.dev.svo p).loop 0).uPrev)
    (htries : (s.dev.svo p).facq < s.dev.rd Reg.SVO_FACQ_FACQ_RETRIES p) : After (.focusSweepEnd p) s fun t =>
      (t.dev.svo p).phase = .retract ∧ (t.dev.svo p).facq = (s.dev.svo p).facq + 1 ∧ t.dev.svoState p = 1 := by
  have hmet : (s.fresh.svoState p = 1 && (s.fresh.svo p).phase == .sweep &&
      decide (s.fresh.outLim p 0 ≤ ((s.fresh.svo p).loop 0).uPrev)) = true := by
    have hlim : s.fresh.outLim p 0 ≤ ((s.dev.svo p).loop 0).uPrev := hlim
    simp only [State.fresh_svoState, State.fresh_svo, hst, hphase, hlim]
    decide
  have htries : (s.fresh.svo p).facq < s.fresh.rd Reg.SVO_FACQ_FACQ_RETRIES p := htries
  refine ⟨_, rfl, ?_⟩
  dsimp only
  rw [if_pos hmet, if_pos htries, State.settle_svo, State.settle_svoState]
  have retracting (x : Servo) (v : Int) : EngineKeeps modePlaces p (s.fresh.setSvo p x) ((s.fresh.setSvo p x).manual p 0 v) :=
    .manual _ 0 v (place_modeFld_mem 0)
  refine ⟨?_, ?_, ?_⟩
  · rw [(retracting _ _).phase, Dev.svo_setSvo_same]
  · rw [(retracting _ _).facq, Dev.svo_setSvo_same, State.fresh_svo]
  · rw [Dev.svoState, (retracting _ _).rd _ (by decide) (by decide +kernel), Dev.rd_setSvo]
    exact hst

/-! ### Layer jumps (R275, R277) -/

theorem kickEnd_coasts (hphase : (s.dev.svo p).phase = .kick)
    (ht : s.dev.rd Reg.SVO_LJUMP_KICK_TICKS p ≤ (s.dev.svo p).t) : After (.kickEnd p) s fun t =>
      t.dev.svo p = { s.dev.svo p with phase := .coast, t := 0, sc := 0 } := by
  have hmet : ((s.fresh.svo p).phase == .kick && decide (s.fresh.rd Reg.SVO_LJUMP_KICK_TICKS p ≤ (s.fresh.svo p).t)) = true := by
    simp only [State.fresh_svo, State.fresh_rd, hphase, ht]
    decide
  refine ⟨_, rfl, ?_⟩
  dsimp only
  rw [if_pos hmet, State.settle_svo, Dev.svo_setSvo_same, State.fresh_svo]

/-- Every loop in MANUAL at its centre. -/
def Dev.centred (d : Dev) (p : Nat) : Dev := d.each 5 fun d l => d.manual p l 0

theorem Dev.facqReady_centred (d : Dev) {p : Nat} (hp : p < 16) : (d.centred p).facqReady p = d.facqReady p := by
  unfold Dev.centred Dev.each
  induction List.range 5 generalizing d with
  | nil => rfl
  | cons l t ih => exact (ih _).trans (d.facqReady_manual hp l 0)

theorem Dev.centred_keeps (d : Dev) (p : Nat) : EngineKeeps modePlaces p d (d.centred p) :=
  .each 5 (fun d l _ => .manual d l 0 (place_modeFld_mem l)) d

/-- With its conditions met a new acquisition begins at once (R269), and the failure of a jump stays shown. -/
theorem Dev.reacquire_begins {d : Dev} {p : Nat} (hp : p < 16) (hready : d.facqReady p = true)
    (hfail : d.flag Reg.SVO_ERR_JUMP_FAIL p = true) (layer : Nat) :
    (d.reacquire p layer).svoState p = 1 ∧ ((d.reacquire p layer).svo p).phase = .laser ∧
      ((d.reacquire p layer).svo p).jump = none ∧ (d.reacquire p layer).flag Reg.SVO_ERR_JUMP_FAIL p = true := by
  have begins : d.reacquire p layer = (d.centred p).facqBegin p layer := by
    have hready : (d.each 5 fun d l => d.manual p l 0).facqReady p = true := (d.facqReady_centred hp).trans hready
    unfold Dev.reacquire Dev.centred
    dsimp only
    rw [if_pos hready]
  obtain ⟨hlaser, -, -, hjump⟩ := (d.centred p).svo_facqBegin (p := p) layer
  rw [begins]
  refine ⟨Dev.svoState_facqBegin _ layer, hlaser, hjump, ?_⟩
  rw [Dev.jumpFail_facqBegin _ hp, Dev.flag_congr ((d.centred_keeps p).rd _ (by decide) (by decide +kernel))]
  exact hfail

theorem jumpTimeout_reacquires (hphase : (s.dev.svo p).phase = .kick ∨ (s.dev.svo p).phase = .coast)
    (ht : 8 * s.dev.rd Reg.SVO_LJUMP_JUMP_TIMEOUT p ≤ (s.dev.svo p).jticks) (hready : s.dev.facqReady p = true) :
    After (.jumpTimeout p) s fun t => t.dev.svoState p = 1 ∧ (t.dev.svo p).phase = .laser ∧ (t.dev.svo p).jump = none ∧
      t.dev.flag Reg.SVO_ERR_JUMP_FAIL p = true := by
  have hmet : (((s.fresh.svo p).phase == .kick || (s.fresh.svo p).phase == .coast ||
      ((s.fresh.svo p).phase == .settle && (s.fresh.svo p).t == 0)) &&
      decide (8 * s.fresh.rd Reg.SVO_LJUMP_JUMP_TIMEOUT p ≤ (s.fresh.svo p).jticks)) = true := by
    simp only [State.fresh_svo, State.fresh_rd, ht]
    rcases hphase with h | h <;> simp [h]
  have hready : (s.fresh.svoErr Reg.SVO_ERR_JUMP_FAIL p).facqReady p = true :=
    (s.fresh.facqReady_svoErr p.isLt _ (by decide)).trans hready
  refine ⟨_, rfl, ?_⟩
  dsimp only
  rw [if_pos hmet, State.settle_svo, State.settle_svoState, State.settle_flag _ _ _ _ _ (by decide)]
  exact Dev.reacquire_begins p.isLt hready (Dev.flag_svoErr _ _ rfl) _

/-! ### Moves and seeks (R279, R280, R282, R283) -/

theorem moveProfileEnd_lands (hphase : (s.dev.svo p).phase = .profile) (hk : 2 * (s.dev.svo p).mvH ≤ (s.dev.svo p).mvK) :
    After (.moveProfileEnd p) s fun t => (t.dev.svo p).phase = .land ∧
      t.dev.svoLand p = (if isLand (s.dev.svoTarget p) then 1 else 0) ∧ t.dev.loopMode p 1 = 2 ∧ t.dev.loopMode p 4 = 2 := by
  have hmet : ((s.fresh.svo p).phase == .profile && decide (2 * (s.fresh.svo p).mvH ≤ (s.fresh.svo p).mvK)) = true := by
    simp only [State.fresh_svo, hphase, hk]
    decide
  have spots := s.fresh.profileEnd_keeps p.isLt
  obtain ⟨htracking, hyaw⟩ := s.fresh.loopMode_landed (p := p)
  refine ⟨_, rfl, ?_⟩
  dsimp only
  rw [if_pos hmet, State.settle_svo, State.settle_svoLand, State.settle_loopMode, State.settle_loopMode]
  refine ⟨?_, ?_, ?_, ?_⟩
  · rw [spots.phase, s.fresh.landed_keeps.phase, Dev.svo_setSvo_same]
  · exact (spots.rd Reg.SVO_STATE_LAND (by decide) List.not_mem_nil).trans s.fresh.svoLand_landed
  · exact (spots.rd (modeFld 1) (by decide) List.not_mem_nil).trans htracking
  · exact (spots.rd (modeFld 4) (by decide) List.not_mem_nil).trans hyaw

theorem settleTimeout_restarts (hst : s.dev.svoState p = 3) (hphase : (s.dev.svo p).phase = .land)
    (ht : s.dev.rd Reg.SVO_MOVE_SETTLE_MAX p ≤ (s.dev.svo p).t)
    (hrun : (s.dev.svo p).teRun < s.dev.rd Reg.SVO_TRK_THR_ON_TRACK_TICKS p) : After (.settleTimeout p) s fun t =>
      t.dev.svo p = { s.dev.svo p with phase := .restart, t := 0 } := by
  have hmet : (s.fresh.svoState p = 3 && (s.fresh.svo p).phase == .land &&
      decide (s.fresh.rd Reg.SVO_MOVE_SETTLE_MAX p ≤ (s.fresh.svo p).t) &&
      decide ((s.fresh.svo p).teRun < s.fresh.rd Reg.SVO_TRK_THR_ON_TRACK_TICKS p)) = true := by
    simp only [State.fresh_svoState, State.fresh_svo, State.fresh_rd, hst, hphase, ht, hrun]
    decide
  refine ⟨_, rfl, ?_⟩
  dsimp only
  rw [if_pos hmet, State.settle_svo, Dev.svo_setSvo_same, State.fresh_svo]

theorem sledSeekDone_fine (hphase : (s.dev.svo p).phase = .sled) (hstop : (s.dev.axis (2 * p.val)).kind = 0) :
    After (.sledSeekDone p) s fun t => t.dev.svo p = { s.dev.svo p with
      phase := .fine, left := (s.dev.svoTarget p : Int) - s.dev.svoTrack p,
      seekN := (s.dev.svoTarget p : Int) - s.dev.svoTrack p, t := 0 } := by
  have hmet : ((s.fresh.svo p).phase == .sled && (s.fresh.axis (2 * p.val)).kind == 0) = true := by
    have hstop : (s.fresh.axis (2 * p.val)).kind = 0 := hstop
    simp only [State.fresh_svo, hphase, hstop]
    decide
  refine ⟨_, rfl, ?_⟩
  dsimp only
  rw [if_pos hmet, State.settle_svo, Dev.svo_setSvo_same, State.fresh_svo]
  rfl

theorem fineSeekDone_moves (hphase : (s.dev.svo p).phase = .fine) (hleft : (s.dev.svo p).left.natAbs = 1) :
    After (.fineSeekDone p) s fun t => t.dev.svoState p = 3 ∧ (t.dev.svo p).phase = .profile ∧
      (t.dev.svo p).mvN = (s.dev.svo p).left ∧ (t.dev.svo p).own = false := by
  have hmet : ((s.fresh.svo p).phase == .fine && decide ((s.fresh.svo p).left.natAbs ≤ 1)) = true := by
    simp only [State.fresh_svo, hphase, hleft]
    decide
  have hne : (s.fresh.svo p).left ≠ 0 := by
    rw [State.fresh_svo]
    omega
  refine ⟨_, rfl, ?_⟩
  dsimp only
  rw [if_pos hmet, State.settle_svo, State.settle_svoState]
  exact ⟨Dev.svoState_move _ p.isLt _ _, Dev.svo_move _ hne false⟩

end

end Sys2Proof.Machine

namespace Sys2Proof

open Machine

/-- Settles O25, one lemma per clause: the phases of an acquisition, of a layer jump, and of moves and seeks. -/
theorem servoProcedures : Obligations.ServoProcedures := by
  unfold Obligations.ServoProcedures
  refine ⟨?_, ?_, ?_, ?_, ?_, ?_, ?_, ?_, ?_⟩
  · exact fun s p l hwant hoff hready hl hclk => focusAcqStart_begins hwant hoff hready hl hclk
  · exact fun s p hst hphase hrun => focusSettled_focuses hst hphase hrun
  · exact fun s p hst hphase hlim htries => focusSweepEnd_retracts hst hphase hlim htries
  · exact fun s p hphase ht => kickEnd_coasts hphase ht
  · exact fun s p hphase ht hready => jumpTimeout_reacquires hphase ht hready
  · exact fun s p hphase hk _ => moveProfileEnd_lands hphase hk
  · exact fun s p hst hphase ht hrun => settleTimeout_restarts hst hphase ht hrun
  · exact fun s p hphase hstop => sledSeekDone_fine hphase hstop
  · exact fun s p hphase hleft => fineSeekDone_moves hphase hleft

end Sys2Proof
/-! SUPPORT. A SERVO MODE seek to a layer above 3 is refused, whatever SVO_STATE.LAYER holds (R482, R483). -/

namespace Sys2Proof.Machine

open Sys2Proof Sys2Proof.Safety

set_option Elab.async false

theorem Dev.calFirst_await (d : Dev) (c : Nat) (w : Wait) (p : Nat) : (d.await c w).calFirst p = d.calFirst p := by
  unfold Dev.await
  split <;> rfl

theorem Dev.servoCheck_await (d : Dev) (c : Nat) (w : Wait) (p : Nat) : (d.await c w).servoCheck p = d.servoCheck p := by
  unfold Dev.await
  split <;> rfl

/-- A pickup that is there and burns nothing, with memory lent, passes the checks of SERVO MODE. -/
theorem Dev.servoCheck_passes {d : Dev} {p : Nat} (hhlm : d.mmu.hlm.isSome = true) (hp : p < 16) (hpk : d.hasPk p = true)
    (hburn : d.burn p = none) : d.servoCheck p = none := by
  have hmem : d.mmu.hlm.isNone = false := by rw [← Option.not_isSome, hhlm]; rfl
  have hmech : d.mechCheck p 16 (d.hasPk p) = none := by
    unfold Dev.mechCheck
    rw [if_neg (by simp [hmem]), if_neg (by omega), if_neg (by simp [hpk])]
  unfold Dev.servoCheck
  rw [hmech, hburn]
  rfl

/-- A seek to a layer that no disc has ends with INVALID_FIELD (R482). -/
theorem servoModeSeek_refused {s : State} {c : Nat} {k : Ctx}
    (h : startable s.dev c k { b := [40, 41, 42, 48, 49, 50, 51] } = true) (hmine : isServo 4 k.e = true)
    (hchecked : s.dev.servoCheck (k.e.at 40) = none) (hcal : s.dev.calFirst (k.e.at 40) = false) (hlayer : 3 < k.e.at 42)
    (hclk : s.dev.clocked 7 = true) :
    exec (.servoModeSeek c) s = .next (s.settle ((s.fresh.await c .run).complete c St.invalidField)) := by
  have hclk : s.fresh.clocked 7 = true := hclk
  have hchecked : (s.fresh.await c .run).servoCheck (k.e.at 40) = none := (s.fresh.servoCheck_await c .run _).trans hchecked
  have hcal : (s.fresh.await c .run).calFirst (k.e.at 40) = false := (s.fresh.calFirst_await c .run _).trans hcal
  refine congrArg (fun d => Host.Outcome.next (s.settle d)) ?_
  dsimp only
  rw [if_pos hclk, State.fresh_served h hmine, hchecked]
  dsimp only
  rw [hcal, if_neg Bool.false_ne_true, if_pos (by simp [hlayer])]

/-- A seek that is refused leaves the state of its engine. -/
theorem svoState_after_refused {s t : State} {c : Nat} (p st : Nat)
    (ht : t = s.settle ((s.fresh.await c .run).complete c st)) : t.dev.svoState p = s.dev.svoState p := by
  subst ht
  rw [State.settle_svoState]
  exact ((Calm.await s.fresh c .run).trans (Calm.complete _ c st 0)).rd _ _ _ (Fld.calm_key (by decide) _ _)

/-! ### A layer field that holds 4 -/

/-- SERVO MODE seek: pickup 0, layer 4, track 0. -/
def layerFour : Sqe :=
  { opcode := 0x41, flags := 0, cid := 7, volume := 0, rsv := 0, lba := 0, count := 0, xflags := 0, data := 0, sealPtr := 0,
    b := [0, 4, 4] ++ List.replicate 21 0 }

/-- The context of that command, just fetched. -/
def layerFourCtx : Ctx :=
  { sq := 0, slot := 0, e := layerFour, wait := .fresh, mute := false, buf := [], seals := [], todo := [], acc0 := 0, acc1 := 0,
    got := [], stop := none, st := 0, after := [], order := 0 }

/-- The engine of pickup 0 on a track, with a 4 in the two bits of SVO_STATE.LAYER: a state that the statement admits,
though no write of the field leaves it (`Dev.wr` cuts the value to the width). -/
def wideLayer : State :=
  let d := [(Reg.HIF_BOOT_STEP, 8), (Reg.CLK_STATUS_SAFE, 0), (Reg.LCS_STATUS_STATE, 2), (Reg.SVO_STATE_STATE, 5)].foldl
    (fun d (e : Fld × Nat) => d.wr e.1 e.2) Dev.reset
  { State.reset with dev := { d with
      fv := (Reg.SVO_STATE_LAYER.key 0 0, 4) :: d.fv
      que := { Que.reset with ctxs := [(0, some layerFourCtx)] }
      mmu := { Mmu.reset with hlm := some (1, 0, 0) } } }

theorem wideLayer_startable :
    startable wideLayer.dev 0 layerFourCtx { b := [40, 41, 42, 48, 49, 50, 51] } = true ∧ wideLayer.dev.clocked 7 = true := by
  refine ⟨?_, ?_⟩ <;> decide +kernel

/-- The engine is ON_TRACK, its layer 4 and its track 0, and no calibration comes first. -/
theorem wideLayer_engine : wideLayer.dev.svoState 0 = 5 ∧ wideLayer.dev.svoLayer 0 = 4 ∧ wideLayer.dev.svoTrack 0 = 0 ∧
    wideLayer.dev.calFirst 0 = false ∧ wideLayer.dev.hasPk 0 = true ∧ wideLayer.dev.burn 0 = none := by
  refine ⟨?_, ?_, ?_, ?_, ?_, ?_⟩ <;> decide +kernel

end Sys2Proof.Machine

namespace Sys2Proof

open Machine

/-- Refutes O30: the fifth clause bounds the layer of a seek by SVO_STATE.LAYER alone, and in a state whose field holds 4 a
seek to that layer ends with INVALID_FIELD, the engine still in ON_TRACK (R482). -/
theorem not_servoModeCommands : ¬ Obligations.ServoModeCommands := by
  rintro ⟨-, -, -, -, hseek⟩
  obtain ⟨hrun, hclk⟩ := wideLayer_startable
  obtain ⟨hstate, hlayer, htrack, hcal, hpk, hburn⟩ := wideLayer_engine
  have hchecked := Dev.servoCheck_passes (d := wideLayer.dev) rfl (by decide) hpk hburn
  obtain ⟨t, ht, hmoves, -⟩ := hseek wideLayer 0 layerFourCtx hrun (by decide) rfl (by decide) hpk hburn hcal (.inr hstate)
    hlayer.symm (by decide) (htrack ▸ by decide) hclk
  rw [servoModeSeek_refused hrun (by decide) hchecked hcal (by decide) hclk, Host.Outcome.next.injEq] at ht
  exact absurd (hmoves.symm.trans ((svoState_after_refused 0 _ ht.symm).trans hstate)) (by decide)

end Sys2Proof

/-! SUPPORT. The speed that a MOTION spin commands: that of its register, cut to the 16 bits of MOT_SP_RPM.TARGET (R302). -/

namespace Sys2Proof.Machine

open Sys2Proof Sys2Proof.Safety

/-! ### What the pickups of a spindle change as they take its speed (R166, R247, R256, R261) -/

theorem Dev.seedsVoid_fv (d : Dev) (p : Nat) : (d.seedsVoid p).fv = d.fv :=
  foldl_fv (f := fun d j => d.seedVoid (32 * p + j)) (fun _ _ => rfl) _ d

theorem Dev.useScope_fv (d : Dev) (p : Nat) : (d.useScope p).fv = d.fv := by
  unfold Dev.useScope
  refine (foldl_fv (fun d q => foldl_fv (fun d i => ?_) _ d) _ _).trans (Dev.setCalPk_fv _ _ _)
  dsimp only
  split <;> rfl

theorem Dev.seedTable_fv (d : Dev) (p r : Nat) : (d.seedTable p r).fv = d.fv := by
  unfold Dev.seedTable
  generalize (if p % 2 = 0 then p + 1 else p - 1) = q
  dsimp only
  split
  · rfl
  split
  · rfl
  split
  · rfl
  split
  · split
    · rfl
    · split <;> rfl
  · rfl

theorem Dev.seedTables_fv (d : Dev) (p : Nat) : (d.seedTables p).fv = d.fv :=
  foldl_fv (fun d r => d.seedTable_fv p r) _ d

/-! The registers of spindles and axes stand above those of the servo engines. -/

section
variable {f : Fld} {i j p : Nat} (hf : 0x500000 * 8 ≤ f.key i j) (hp : p < 16)
include hf hp

theorem Dev.rd_wr_engine {g : Fld} (hg : g.engine = true) (d : Dev) (v : Nat) : (d.wr g v p).rd f i j = d.rd f i j :=
  Dev.rd_wr_ne _ _ _ _ _ _ _ _ (Nat.ne_of_gt ((Fld.engine_bounds hg hp).2.trans_le hf))

theorem Dev.rd_setLoopMode (d : Dev) (l m : Nat) : (d.setLoopMode p l m).rd f i j = d.rd f i j := by
  have hw : (d.wr (modeFld l) m p).rd f i j = d.rd f i j := Dev.rd_wr_engine hf hp (modeFld_engine l) d m
  unfold Dev.setLoopMode
  dsimp only
  split
  · exact hw
  · exact hw

theorem Dev.rd_rebump (d : Dev) (l : Nat) : (d.rebump p l).rd f i j = d.rd f i j := by
  unfold Dev.rebump Dev.auto
  dsimp only
  split
  · rw [Dev.rd_setLoopMode hf hp, Dev.rd_setSvo]
    split
    · exact Dev.rd_of_fv (d.takeTargets_fv p l) f i j
    · rfl
  · rfl

end

theorem Dev.rd_foldl {α : Type} {f : Fld} {i j : Nat} {g : Dev → α → Dev} {l : List α}
    (h : ∀ d, ∀ x ∈ l, (g d x).rd f i j = d.rd f i j) (d : Dev) : (l.foldl g d).rd f i j = d.rd f i j :=
  List.foldlRecOn (motive := fun e => e.rd f i j = d.rd f i j) l g rfl fun e he x hx => (h e x hx).trans he

/-- The speed that the pickups of a spindle take changes no register of a spindle or an axis. -/
theorem Dev.rd_takeSpeed {f : Fld} {i j n : Nat} (hf : 0x500000 * 8 ≤ f.key i j) (hn : n < 8) (d : Dev) (speed : Nat) :
    (d.takeSpeed n speed).rd f i j = d.rd f i j := by
  refine Dev.rd_foldl (fun d p hmem => ?_) d
  have hp : p < 16 := by
    simp only [List.mem_cons, List.not_mem_nil, or_false] at hmem
    omega
  have hnew (e : Dev) :
      ([0, 1, 2, 3, 4].foldl (fun d l => d.rebump p l) ((e.useScope p).seedTables p)).rd f i j = e.rd f i j :=
    (Dev.rd_foldl (fun d l _ => Dev.rd_rebump hf hp d l) _).trans
      (Dev.rd_of_fv ((Dev.seedTables_fv _ p).trans (e.useScope_fv p)) f i j)
  have hshown (e : Dev) : (e.wr Reg.SVO_STATE_SPEED speed p).rd f i j = e.rd f i j := Dev.rd_wr_engine hf hp (by decide) e _
  have hbased (e : Dev) (x : Servo) (v : Nat) : ((e.setSvo p x).wr Reg.SVO_PW_PW v p).rd f i j = e.rd f i j :=
    Dev.rd_wr_engine hf hp (by decide) (e.setSvo p x) v
  have hvoid : (d.seedsVoid p).rd f i j = d.rd f i j := Dev.rd_of_fv (d.seedsVoid_fv p) f i j
  dsimp only
  cases d.rd Reg.SVO_STATE_SPEED p == speed
  · simp only [Bool.false_and, Bool.false_eq_true, if_false, hbased, hnew, hshown, hvoid]
  · simp only [Bool.true_and, if_true]
    split
    · exact hshown d
    · rw [hbased, hshown]

/-! ### The start of a spindle (R292, R302, R304) -/

section
variable (d : Dev) (n : Nat)

/-- A register of a spindle is not its TARGET when it stands elsewhere in the spindle's block. -/
theorem Dev.rpmTarget_wr {f : Fld} (v : Nat) (h : f.place ≠ Reg.MOT_SP_RPM_TARGET.place := by decide)
    (hsa : f.sa = 0x1000 := by rfl) (hsb : f.sb = 0 := by rfl) :
    (d.wr f v n).rd Reg.MOT_SP_RPM_TARGET n = d.rd Reg.MOT_SP_RPM_TARGET n :=
  Dev.rd_wr_ne _ _ _ _ _ _ _ _ (Fld.key_ne n 0 hsa.symm hsb.symm h.symm)

theorem Dev.rpmTarget_setSpState (st : Nat) :
    (d.setSpState n st).rd Reg.MOT_SP_RPM_TARGET n = d.rd Reg.MOT_SP_RPM_TARGET n := d.rpmTarget_wr n st

theorem Dev.rpmTarget_spCatch : (d.spCatch n).rd Reg.MOT_SP_RPM_TARGET n = d.rd Reg.MOT_SP_RPM_TARGET n :=
  ((d.setSpState n 1).rpmTarget_wr n (f := Reg.MOT_SP_CNT_CATCH) _).trans (d.rpmTarget_setSpState n 1)

theorem Dev.rpmTarget_spRequest : (d.spRequest n).rd Reg.MOT_SP_RPM_TARGET n = d.rd Reg.MOT_SP_RPM_TARGET n := by
  have hreq : (d.wr Reg.MOT_SP_STATUS_REQ 1 n).rd Reg.MOT_SP_RPM_TARGET n = d.rd Reg.MOT_SP_RPM_TARGET n :=
    d.rpmTarget_wr n 1
  unfold Dev.spRequest
  dsimp only
  split
  · exact (Dev.rpmTarget_spCatch _ n).trans hreq
  · exact hreq

theorem Dev.rpmTarget_spStart (hn : n < 8) (rpm : Nat) : (d.spStart n rpm).rd Reg.MOT_SP_RPM_TARGET n = rpm % 2 ^ 16 := by
  have habove : 0x500000 * 8 ≤ Reg.MOT_SP_RPM_TARGET.key n 0 := by
    simp only [Fld.key, Reg.MOT_SP_RPM_TARGET]
    omega
  have hcommanded : (((d.notAtSpeed n).wr Reg.MOT_SP_RPM_TARGET rpm n).rd Reg.MOT_SP_RPM_TARGET n) = rpm % 2 ^ 16 :=
    Dev.rd_wr_same _ _ _ _ _
  have htaken (x : Spin) (speed : Nat) :
      ((((d.notAtSpeed n).wr Reg.MOT_SP_RPM_TARGET rpm n).setSpin n x).takeSpeed n speed).rd Reg.MOT_SP_RPM_TARGET n =
        rpm % 2 ^ 16 := (Dev.rd_takeSpeed habove hn _ speed).trans hcommanded
  unfold Dev.spStart
  dsimp only
  split
  · exact (Dev.rpmTarget_spRequest _ n).trans (htaken _ _)
  · exact (Dev.rpmTarget_spRequest _ n).trans (htaken _ _)
  · exact (Dev.rpmTarget_setSpState _ n 5).trans (htaken _ _)
  · exact htaken _ _

end

/-! ### MOTION spin (R483) -/

/-- A mechanism that is there, with memory lent, passes the checks of MOTION. -/
theorem Dev.mechCheck_passes {d : Dev} {i n : Nat} {here : Bool} (hhlm : d.mmu.hlm.isSome = true) (hi : i < n)
    (hhere : here = true) : d.mechCheck i n here = none := by
  have hmem : d.mmu.hlm.isNone = false := by rw [← Option.not_isSome, hhlm]; rfl
  unfold Dev.mechCheck
  rw [if_neg (by simp [hmem]), if_neg (by omega), if_neg (by simp [hhere])]

theorem Dev.mechCheck_await (d : Dev) (c : Nat) (w : Wait) (i n : Nat) (here : Bool) :
    (d.await c w).mechCheck i n here = d.mechCheck i n here := by
  unfold Dev.await
  split <;> rfl

theorem Dev.hasSp_of_calm {a b : Dev} (h : Calm a b) (n : Nat) : b.hasSp n = a.hasSp n := by
  rw [Dev.hasSp, Dev.hasSp, Dev.isAB, Dev.isAB, h.fuse]

/-- A spin of a spindle in OFF to its read speed commands that speed as far as TARGET holds it: all of it where the register
of the speed holds no more than its own 16 bits. -/
theorem motionSpin_rpmTarget {s : State} {c : Nat} {k : Ctx} (h : startable s.dev c k { b := [40, 41, 42] } = true)
    (hmine : isMotion 0 k.e = true) (hhlm : s.dev.mmu.hlm.isSome = true) (hn : k.e.at 41 < 8)
    (hhere : s.dev.hasSp (k.e.at 41) = true) (hread : k.e.at 42 = 1) (hoff : s.dev.spState (k.e.at 41) = 0)
    (hclk : s.dev.clocked 8 = true) : After (.motionSpin c) s fun t =>
      t.dev.rd Reg.MOT_SP_RPM_TARGET (k.e.at 41) = s.dev.rd Reg.MOT_SP_SPEED_READ_RPM (k.e.at 41) % 2 ^ 16 := by
  have hclk : s.fresh.clocked 8 = true := hclk
  have hrun : Calm s.fresh (s.fresh.await c .run) := .await _ _ _
  have hcalm : Calm s.fresh ((s.fresh.await c .run).supersedeSpin (k.e.at 41)) := hrun.trans (.completeAll _ _ _ _)
  have hoff : ((s.fresh.await c .run).supersedeSpin (k.e.at 41)).spState (k.e.at 41) = 0 :=
    (hcalm.rd Reg.MOT_SP_STATUS_STATE _ _ (Fld.calm_key (by decide) _ _)).trans hoff
  have hspeed : ((s.fresh.await c .run).supersedeSpin (k.e.at 41)).spinRpm (k.e.at 41) 1 =
      s.dev.rd Reg.MOT_SP_SPEED_READ_RPM (k.e.at 41) := hcalm.rd _ _ _ (Fld.calm_key (by decide) _ _)
  have hcheck : (s.fresh.await c .run).mechCheck (k.e.at 41) 8 ((s.fresh.await c .run).hasSp (k.e.at 41)) = none := by
    rw [Dev.mechCheck_await]
    exact Dev.mechCheck_passes (d := s.fresh) hhlm hn ((Dev.hasSp_of_calm hrun _).trans hhere)
  refine ⟨_, rfl, ?_⟩
  dsimp only
  rw [if_pos hclk, State.fresh_served h hmine, hcheck, State.settle_rd _ _ _ _ _ (by decide)]
  dsimp only
  rw [hread, if_neg (by decide)]
  unfold Dev.motionSpin
  dsimp only
  rw [if_neg (by decide), if_neg (by simp [hoff]), Dev.rpmTarget_spStart _ _ hn, hspeed]

/-! ### A speed register that holds 65,536 -/

/-- MOTION spin: spindle 0, to its read speed. -/
def readSpin : Sqe :=
  { opcode := 0x40, flags := 0, cid := 7, volume := 0, rsv := 0, lba := 0, count := 0, xflags := 0, data := 0, sealPtr := 0,
    b := [0, 0, 1] ++ List.replicate 21 0 }

/-- The context of that command, just fetched. -/
def readSpinCtx : Ctx :=
  { sq := 0, slot := 0, e := readSpin, wait := .fresh, mute := false, buf := [], seals := [], todo := [], acc0 := 0, acc1 := 0,
    got := [], stop := none, st := 0, after := [], order := 0 }

/-- Spindle 0 in OFF, with 65,536 in the sixteen bits of MOT_SP_SPEED.READ_RPM: a state that the statement admits, though no
write of the field leaves it (`Dev.wr` cuts the value to the width). -/
def wideSpeed : State :=
  let d := [(Reg.HIF_BOOT_STEP, 8), (Reg.CLK_STATUS_SAFE, 0), (Reg.LCS_STATUS_STATE, 2)].foldl
    (fun d (e : Fld × Nat) => d.wr e.1 e.2) Dev.reset
  { State.reset with dev := { d with
      fv := (Reg.MOT_SP_SPEED_READ_RPM.key 0 0, 65536) :: d.fv
      que := { Que.reset with ctxs := [(0, some readSpinCtx)] }
      mmu := { Mmu.reset with hlm := some (1, 0, 0) } } }

theorem wideSpeed_startable :
    startable wideSpeed.dev 0 readSpinCtx { b := [40, 41, 42] } = true ∧ wideSpeed.dev.clocked 8 = true := by
  refine ⟨?_, ?_⟩ <;> decide +kernel

theorem wideSpeed_spindle : wideSpeed.dev.hasSp 0 = true ∧ wideSpeed.dev.spState 0 = 0 ∧
    wideSpeed.dev.rd Reg.MOT_SP_SPEED_READ_RPM 0 = 65536 := by
  refine ⟨?_, ?_, ?_⟩ <;> decide +kernel

end Sys2Proof.Machine

namespace Sys2Proof

open Machine

/-- Refutes O29: the first clause asks for the whole of MOT_SP_SPEED.READ_RPM in MOT_SP_RPM.TARGET, and in a state whose
16-bit speed register holds 65,536 the spin commands 0 (R302). -/
theorem not_motionCommands : ¬ Obligations.MotionCommands := by
  rintro ⟨hspin, -⟩
  obtain ⟨hrun, hclk⟩ := wideSpeed_startable
  obtain ⟨hhere, hoff, hspeed⟩ := wideSpeed_spindle
  obtain ⟨t, ht, hwhole, -⟩ := hspin wideSpeed 0 readSpinCtx hrun (by decide) rfl (by decide) hhere (by decide) hoff hclk
  obtain ⟨u, hu, hcut⟩ := motionSpin_rpmTarget hrun (by decide) rfl (by decide) hhere (by decide) hoff hclk
  rw [ht, Host.Outcome.next.injEq] at hu
  rw [← hu, hwhole, show readSpinCtx.e.at 41 = 0 by decide, hspeed] at hcut
  exact absurd hcut (by decide)

end Sys2Proof

/-! SUPPORT. A completion that its queue posts frees the context that it names (R458, R474): the end of a CALIBRATE row
can so take the context in which the command waits. -/

namespace Sys2Proof.Machine

open Sys2Proof Sys2Proof.Safety

/-! ### Posting the completion that a queue holds -/

theorem Dev.ctx_msix (d : Dev) (v c : Nat) : (d.msix v).ctx c = d.ctx c := by
  unfold Dev.msix
  split <;> rfl

/-- CQ `n` can post the completion `e` that it holds alone: its ring has space in a page that translates, bus mastering is on,
and the published head of the command's SQ stays (R444, R458, R474). -/
structure Postable (d : Dev) (n : Nat) (q : Cq) (e : Cqe) : Prop where
  cqs : d.que.cqs = [(n, some q)]
  held : q.held = [e]
  space : (q.err || (q.tail + 1) % q.size == q.head) = false
  page : (d.tlbHit q.asid (q.base + 16 * q.tail) true).isSome = true
  bme : d.bme = true
  head : (d.sq e.sq).map (fun x => (x.posted e.slot).head) = (d.sq e.sq).map Sq.head

theorem Postable.frees {d : Dev} {n : Nat} {q : Cq} {e : Cqe} (h : Postable d n q e) :
    (postCq d n [e]).ctx e.ctx = none := by
  have hq : d.cq n = some q := by rw [Dev.cq, h.cqs]; simp [mget]
  obtain ⟨phys, hpage⟩ := Option.isSome_iff_exists.1 h.page
  have hslot : ((match d.sq e.sq with | some x => d.setSq e.sq (some (x.posted e.slot)) | none => d).sq e.sq).map Sq.head =
      (d.sq e.sq).map Sq.head := by
    refine Eq.trans ?_ h.head
    cases hs : d.sq e.sq with
    | none => exact congrArg _ hs
    | some x => exact congrArg _ (mget_mset_same d.que.sqs none (some (x.posted e.slot)) e.sq)
  have hfreed (a : Dev) : (a.setCtx e.ctx none).ctx e.ctx = none := mget_mset_same a.que.ctxs none none e.ctx
  have hunmirrored {a : Dev} {same : Bool} (ha : a.ctx e.ctx = none) (hsame : same = true) :
      (if same = true then a else a.mirror e.sq).ctx e.ctx = none := by rwa [if_pos hsame]
  have hsignalled {a : Dev} (now : Bool) (ha : a.ctx e.ctx = none) :
      (if now = true then a.msix q.vector else a).ctx e.ctx = none := by
    split
    · rwa [Dev.ctx_msix]
    · exact ha
  unfold postCq
  simp only [hq, h.space, hpage, h.bme, Bool.not_true, Bool.false_eq_true, if_false]
  exact hsignalled _ (hunmirrored (hfreed _) (beq_iff_eq.2 hslot))

theorem State.settle_frees {s : State} {d : Dev} {n : Nat} {q : Cq} {e : Cqe} (h : Postable d n q e) (hout : d.out = [])
    (hfaults : d.mmu.toPost = []) (hevents : s.evr.waiting = []) : (s.settle d).dev.ctx e.ctx = none := by
  have hd : { d with out := [] } = d := by rw [← hout]
  unfold State.settle Dev.flush
  rw [hout, hd]
  simp only [Recorder.absorb, hevents, hfaults, List.isEmpty_nil, if_true, h.cqs, List.foldl_cons, List.foldl_nil, h.held,
    postEvents]
  exact h.frees

/-! ### CALIBRATE full (R340) -/

/-- The device that a CALIBRATE full of one pickup leaves: the run is due, and the command waits for its end. -/
def State.fullDue (s : State) (c p : Nat) : Dev := ((s.fresh.await c .run).calAsk p true).await c (.calib (2 ^ p))

theorem Dev.hasPk_of_calm {a b : Dev} (h : Calm a b) (p : Nat) : b.hasPk p = a.hasPk p := by
  rw [Dev.hasPk, Dev.hasPk, Dev.isAB, Dev.isAB, h.fuse]

theorem calibrateFull_asks {s : State} {c : Nat} {k : Ctx} (h : startable s.dev c k { b := [40, 41] } = true)
    (hmine : isCalibrate 0 k.e = true) (hp : k.e.at 40 < 16) (hpk : s.dev.hasPk (k.e.at 40) = true)
    (hclk : s.dev.clocked 9 = true) : exec (.calibrateFull c) s = .next (s.settle (s.fullDue c (k.e.at 40))) := by
  have hclk : s.fresh.clocked 9 = true := hclk
  have hnamed : (s.fresh.await c .run).calNamed (k.e.at 40) = [k.e.at 40] := by
    unfold Dev.calNamed
    rw [if_neg (by omega), if_pos hp]
  have hhere : [k.e.at 40].all (s.fresh.await c .run).hasPk = true := by
    rw [List.all_cons, Dev.hasPk_of_calm (.await s.fresh c .run)]
    exact (Bool.and_true _).trans hpk
  refine congrArg (fun d => Host.Outcome.next (s.settle d)) ?_
  dsimp only
  rw [if_pos hclk, State.fresh_served h hmine]
  unfold Dev.calServe
  simp only [hnamed, hhere, if_true]
  rfl

/-! ### A completion held for the context of a new command -/

/-- CALIBRATE full of pickup 0. -/
def fullRun : Sqe :=
  { opcode := 0x20, flags := 0, cid := 7, volume := 0, rsv := 0, lba := 0, count := 0, xflags := 0, data := 0, sealPtr := 0,
    b := List.replicate 24 0 }

/-- The context of that command, just fetched. -/
def fullRunCtx : Ctx :=
  { sq := 0, slot := 0, e := fullRun, wait := .fresh, mute := false, buf := [], seals := [], todo := [], acc0 := 0, acc1 := 0,
    got := [], stop := none, st := 0, after := [], order := 0 }

/-- The admin SQ with two commands fetched and none posted. -/
def twoFetched : Sq :=
  { state := 0, asid := 0, prio := 0, cq := 0, size := 16, base := 0x2000, limit := 0, fetch := 2, head := 0, tail := 2,
    latched := 0, cause := 0, slots := [false, false], discarded := 0, ended := 0 }

/-- The completion of the second of them, which names the context of the first. -/
def heldEntry : Cqe :=
  { result := 0, sq := 0, cid := 8, status := 0, dnr := false, notify := true, slot := 1, ctx := 0 }

/-- The admin CQ that holds it. -/
def holdingCq : Cq :=
  { err := false, asid := 0, vector := 0, size := 16, base := 0x1000, tail := 0, phase := true, head := 0, held := [heldEntry],
    unsig := 0, count := 0, timeUs := 0 }

/-- A CALIBRATE full in context 0, while the admin CQ can post a completion that frees context 0: a state that the statement
admits, though the fetch takes only a free context (R461) and the context of a held completion is not free. -/
def contextHeld : State :=
  let d := [(Reg.HIF_BOOT_STEP, 8), (Reg.CLK_STATUS_SAFE, 0), (Reg.LCS_STATUS_STATE, 2), (Reg.HIF_STATUS_BME, 1)].foldl
    (fun d (e : Fld × Nat) => d.wr e.1 e.2) Dev.reset
  { State.reset with dev := { d with
      que := { Que.reset with sqs := [(0, some twoFetched)], cqs := [(0, some holdingCq)], ctxs := [(0, some fullRunCtx)] }
      mmu := { Mmu.reset with tlb := [{ asid := 0, va := 0x1000, size := 4096, frame := 0x5000, r := true, w := true }] } } }

theorem contextHeld_startable : startable contextHeld.dev 0 fullRunCtx { b := [40, 41] } = true ∧
    contextHeld.dev.hasPk 0 = true ∧ contextHeld.dev.clocked 9 = true := by
  refine ⟨?_, ?_, ?_⟩ <;> decide +kernel

theorem contextHeld_postable : Postable (contextHeld.fullDue 0 0) 0 holdingCq heldEntry := by
  constructor <;> decide +kernel

end Sys2Proof.Machine

namespace Sys2Proof

open Machine

/-- Refutes O31: the first clause has the command wait for its run in its context, and where a completion queue can post a
completion that names this context, posting it frees the context (R458, R474). -/
theorem not_calibrationRuns : ¬ Obligations.CalibrationRuns := by
  rintro ⟨hfull, -⟩
  obtain ⟨hrun, hpk, hclk⟩ := contextHeld_startable
  obtain ⟨t, ht, -, -, -, hwaits⟩ := hfull contextHeld 0 fullRunCtx hrun (by decide) (by decide) hpk hclk
  rw [calibrateFull_asks hrun (by decide) (by decide) hpk hclk, Host.Outcome.next.injEq] at ht
  have hfreed : t.dev.ctx 0 = none := ht ▸ State.settle_frees contextHeld_postable rfl rfl rfl
  rw [hfreed] at hwaits
  cases hwaits

end Sys2Proof

/-! SUPPORT. A command that a check before its own refuses, and one that a power-fail warning holds back (R376, R482). -/

namespace Sys2Proof.Machine

open Sys2Proof Sys2Proof.Safety

set_option Elab.async false

/-- Command `k` stands in context `c`, fetched and not started, its queue stays enabled, no power-fail warning keeps it from
starting, and the first check before its own that it fails gives status `st`. -/
structure Refused (d : Dev) (c : Nat) (k : Ctx) (st : Nat) : Prop where
  ctx : d.ctx c = some k
  fresh : k.wait = .fresh
  unmuted : k.mute = false
  noPowerFail : d.clk.powerFail = false
  verdict : d.verdict k.e = some st

/-- A row that asks something of a unit whose clock runs is its meaning and no more (R354). -/
theorem State.runUnit_clocked {s : State} {n : Nat} (h : s.dev.clocked n = true) (f : Dev → Dev) :
    State.runUnit n s f = s.run f := by
  have hc : s.fresh.clocked n = true := h
  rw [State.runUnit, State.run_next, State.run_next, if_pos hc]

theorem Dev.autoWake_powerFail (d : Dev) (n : Nat) : (d.autoWake n).clk.powerFail = d.clk.powerFail := by
  unfold Dev.autoWake
  split <;> rfl

section
variable {s : State} {c : Nat} {mine : Sqe → Bool} {u : Uses} {serve : Dev → Ctx → Dev}

/-- A refused command completes with the status of the check, and posting that is all that changes. -/
theorem Refused.after {k : Ctx} {st : Nat} (h : Refused s.dev c k st) {i : Instr}
    (hi : exec i s = s.run fun d => d.command c mine u serve) (hm : mine k.e = true) :
    After i s fun t => Out.completed k.sq k.e.cid.toNat st 0 ∈ t.sent ∧ SameUnits s.dev t.dev ∧ SameRegs [] s.dev t.dev := by
  have hruns : (s.fresh.await c .run).Runs c k := ⟨Dev.ctx_await_same (d := s.fresh) h.ctx .run, h.unmuted⟩
  have hleaves : Leaves [] s.dev (s.settle ((s.fresh.await c .run).complete c st)).dev :=
    ((Leaves.fresh [] s).trans (.of_calm _ ((Calm.await _ _ _).trans (.complete _ _ _ _)))).settle
  refine ⟨_, hi.trans (s.run_next _), ?_⟩
  rw [Dev.command_refused (d := s.fresh) h.ctx h.fresh h.noPowerFail hm h.verdict]
  exact ⟨hruns.sent s st 0, hleaves.units, hleaves.regs⟩

/-- The same of a row that asks something of a unit whose clock runs. -/
theorem Refused.after_unit {k : Ctx} {st : Nat} (h : Refused s.dev c k st) {i : Instr} {n : Nat}
    (hclk : s.dev.clocked n = true) (hi : exec i s = State.runUnit n s fun d => d.command c mine u serve)
    (hm : mine k.e = true) : After i s fun t =>
      Out.completed k.sq k.e.cid.toNat st 0 ∈ t.sent ∧ SameUnits s.dev t.dev ∧ SameRegs [] s.dev t.dev :=
  h.after (hi.trans (State.runUnit_clocked hclk _)) hm

/-- While a power-fail warning stands no command of a row starts. -/
theorem Ends.powerFail (hp : s.dev.clk.powerFail = true) :
    Ends [] [] s (s.run fun d => d.command c mine u serve) :=
  .run (.of_eq (Dev.command_powerFail (d := s.fresh) c mine u hp serve))

/-- Nor does one of a row that asks something of a unit, whose automatic gating the request undoes (R357). -/
theorem Ends.powerFail_unit {n : Nat} (hp : s.dev.clk.powerFail = true) :
    Ends [] [Reg.CLK_GATE_ST_RUN.key 0 0] s (State.runUnit n s fun d => d.command c mine u serve) := by
  have held (d : Dev) (hd : d.clk.powerFail = true) :
      Changes [] [Reg.CLK_GATE_ST_RUN.key 0 0] d (d.command c mine u serve) :=
    .of_eq (Dev.command_powerFail c mine u hd serve)
  refine .run ?_
  split
  · exact held _ hp
  · split
    · exact (Changes.of_leaves (s.fresh.autoWake_leaves n)).trans (held _ ((s.fresh.autoWake_powerFail n).trans hp))
    · exact .refl _ _ _

end

end Sys2Proof.Machine

namespace Sys2Proof

open Sys2Proof.Machine Sys2Proof.Safety

set_option Elab.async false

/-- Settles O52: each row is a command row, which a check before its own ends and a power-fail warning holds back. That the
ROM firmware refuses with INVALID_STATE is the model's choice (log entry 40), which R482's order of checks leaves open. -/
theorem refusedCommandsChangeNothing : Obligations.RefusedCommandsChangeNothing := by
  refine ⟨?_, ?_, ?_, ?_, ?_, ?_, ?_, ?_, ?_, ?_, ?_, ?_, ?_, ?_, ?_, ?_, ?_, ?_, ?_, ?_, ?_, ?_, ?_, ?_⟩
  · exact fun _ _ _ _ hc hw hm hp hmine hv hclk => Refused.after_unit ⟨hc, hw, hm, hp, hv⟩ hclk rfl hmine
  · exact fun _ _ _ _ hc hw hm hp hmine hv => Refused.after ⟨hc, hw, hm, hp, hv⟩ rfl hmine
  · exact fun _ _ _ _ hc hw hm hp hmine hv => Refused.after ⟨hc, hw, hm, hp, hv⟩ rfl hmine
  · exact fun _ _ _ _ hc hw hm hp hmine hv hclk => Refused.after_unit ⟨hc, hw, hm, hp, hv⟩ hclk rfl hmine
  · exact fun _ _ _ _ hc hw hm hp hmine hv hclk => Refused.after_unit ⟨hc, hw, hm, hp, hv⟩ hclk rfl hmine
  · exact fun _ _ _ _ hc hw hm hp hmine hv hclk => Refused.after_unit ⟨hc, hw, hm, hp, hv⟩ hclk rfl hmine
  · exact fun _ _ _ _ hc hw hm hp hmine hv hclk => Refused.after_unit ⟨hc, hw, hm, hp, hv⟩ hclk rfl hmine
  · exact fun _ _ _ _ hc hw hm hp hmine hv hclk => Refused.after_unit ⟨hc, hw, hm, hp, hv⟩ hclk rfl hmine
  · exact fun _ _ _ _ hc hw hm hp hmine hv hclk => Refused.after_unit ⟨hc, hw, hm, hp, hv⟩ hclk rfl hmine
  · exact fun _ _ _ _ hc hw hm hp hmine hv hclk => Refused.after_unit ⟨hc, hw, hm, hp, hv⟩ hclk rfl hmine
  · exact fun _ _ _ _ hc hw hm hp hmine hv => Refused.after ⟨hc, hw, hm, hp, hv⟩ rfl hmine
  · exact fun _ _ _ _ hc hw hm hp hmine hv hclk => Refused.after_unit ⟨hc, hw, hm, hp, hv⟩ hclk rfl hmine
  · exact fun _ c hp => Ends.after_same (i := .cacheEnable c) (Ends.powerFail_unit hp)
  · exact fun _ c hp => Ends.after_same (i := .lendMemory c) (Ends.powerFail hp)
  · exact fun _ c hp => Ends.after_same (i := .createQueue c) (Ends.powerFail hp)
  · exact fun _ c hp => Ends.after_same (i := .motionSpin c) (Ends.powerFail_unit hp)
  · exact fun _ c hp => Ends.after_same (i := .servoModeStop c) (Ends.powerFail_unit hp)
  · exact fun _ c hp => Ends.after_same (i := .calibrateDiscard c) (Ends.powerFail_unit hp)
  · exact fun _ c hp => Ends.after_same (i := .mediaEventUnload c) (Ends.powerFail_unit hp)
  · exact fun _ c hp => Ends.after_same (i := .formatSaltern c) (Ends.powerFail_unit hp)
  · exact fun _ c hp => Ends.after_same (i := .sparePoolList c) (Ends.powerFail_unit hp)
  · exact fun _ c hp => Ends.after_same (i := .commit c) (Ends.powerFail_unit hp)
  · exact fun _ c hp => Ends.after_same (i := .firmwareActivate c) (Ends.powerFail hp)
  · exact fun _ c hp => Ends.after_same (i := .peerTakeover c) (Ends.powerFail_unit hp)

end Sys2Proof

/-! SUPPORT. Flags and bits of a register after a write, and the fields of HIF_BOOT (R422). -/

namespace Sys2Proof.Machine

open Sys2Proof Sys2Proof.Safety

set_option Elab.async false

section
variable (d : Dev)

theorem Dev.flag_wr_same (f : Fld) (v i j : Nat) : (d.wr f v i j).flag f i j = (v % 2 ^ f.w != 0) := by
  rw [Dev.flag, Dev.rd_wr_same]

theorem Dev.flag_wr_ne (f g : Fld) (v i j i' j' : Nat) (h : g.key i' j' ≠ f.key i j) :
    (d.wr f v i j).flag g i' j' = d.flag g i' j' := Dev.flag_congr (d.rd_wr_ne f g v i j i' j' h)

theorem Dev.flag_setErr_same {f : Fld} (hw : f.w = 1) (i inst addr : Nat) (further : List (Nat × Nat × Nat)) (force : Bool) :
    (d.setErr f 0 i inst addr further force).flag f i = true := by
  have h : (d.setErr f 0 i inst addr further force).rd f i = 1 := by
    rw [Dev.rd_setErr_same, hw]
    exact Nat.or_mod_two_eq_one.2 (.inr rfl)
  rw [Dev.flag, h]
  rfl

theorem Dev.flag_setErr_ne (f g : Fld) (k i inst addr : Nat) (further : List (Nat × Nat × Nat)) (force : Bool) (i' j' : Nat)
    (h : g.key i' j' ≠ f.key i 0) : (d.setErr f k i inst addr further force).flag g i' j' = d.flag g i' j' :=
  Dev.flag_congr (d.rd_setErr_ne f g k i inst addr further force i' j' h)

/-! ### The fields of HIF_BOOT -/

/-- A change of HIF_BOOT is a write, and a message about it. -/
theorem Dev.setBoot_calm (f : Fld) (v : Nat) : Calm (d.wr f v) (d.setBoot f v) := by
  unfold Dev.setBoot
  dsimp only
  split
  · exact .refl _
  · exact Dev.sendStatus_calm _

theorem Dev.setBoot_fv (f : Fld) (v : Nat) : (d.setBoot f v).fv = (d.wr f v).fv := by
  unfold Dev.setBoot Dev.sendStatus
  dsimp only
  split
  · rfl
  · split <;> rfl

theorem Dev.rd_setBoot_same (f : Fld) (v : Nat) : (d.setBoot f v).rd f = v % 2 ^ f.w :=
  (Dev.rd_of_fv (d.setBoot_fv f v) f 0 0).trans (d.rd_wr_same f v 0 0)

theorem Dev.rd_setBoot_ne (f g : Fld) (v i j : Nat) (h : g.key i j ≠ f.key 0 0) : (d.setBoot f v).rd g i j = d.rd g i j :=
  (Dev.rd_of_fv (d.setBoot_fv f v) g i j).trans (d.rd_wr_ne f g v 0 0 i j h)

theorem Dev.flag_setBoot_same (f : Fld) (v : Nat) : (d.setBoot f v).flag f = (v % 2 ^ f.w != 0) := by
  rw [Dev.flag, Dev.rd_setBoot_same]

theorem Dev.flag_setBoot_ne (f g : Fld) (v i j : Nat) (h : g.key i j ≠ f.key 0 0) :
    (d.setBoot f v).flag g i j = d.flag g i j := Dev.flag_congr (d.rd_setBoot_ne f g v i j h)

@[simp] theorem Dev.setBoot_clk (f : Fld) (v : Nat) : (d.setBoot f v).clk = d.clk := (d.setBoot_calm f v).clk

@[simp] theorem Dev.setBoot_mgmt (f : Fld) (v : Nat) : (d.setBoot f v).mgmt = d.mgmt := (d.setBoot_calm f v).mgmt

/-! ### One bit of a field -/

section
variable (f : Fld) {j k : Nat}

theorem Dev.testBit_setBit_same (h : k < f.w) : ((d.setBit f k).rd f).testBit k = true := by
  simp [Dev.setBit, Nat.testBit_mod_two_pow, Nat.testBit_or, Nat.testBit_two_pow_self, h]

theorem Dev.testBit_setBit_ne (h : k < f.w) (hne : k ≠ j) : ((d.setBit f j).rd f).testBit k = (d.rd f).testBit k := by
  simp [Dev.setBit, Nat.testBit_mod_two_pow, Nat.testBit_or, Nat.testBit_two_pow_of_ne hne.symm, h]

/-- A number without its bit `k`: what stands above the bit, and what stands below. -/
theorem sub_bit_eq (v k : Nat) : v - v / 2 ^ k % 2 * 2 ^ k = 2 ^ k * (2 * (v / 2 ^ k / 2)) + v % 2 ^ k := by
  have hv := Nat.div_add_mod v (2 ^ k)
  have hx : 2 ^ k * (v / 2 ^ k) = 2 ^ k * (2 * (v / 2 ^ k / 2)) + v / 2 ^ k % 2 * 2 ^ k := by
    rw [Nat.mul_comm (v / 2 ^ k % 2), ← Nat.mul_add, Nat.div_add_mod]
  omega

theorem Dev.testBit_clearBit_same : ((d.clearBit f k).rd f).testBit k = false := by
  rw [Dev.clearBit, Dev.rd_wr_same, Nat.testBit_mod_two_pow, sub_bit_eq,
    Nat.testBit_two_pow_mul_add _ (Nat.mod_lt _ (Nat.two_pow_pos k))]
  simp

theorem Dev.testBit_clearBit_ne (h : k < f.w) (hne : k ≠ j) : ((d.clearBit f j).rd f).testBit k = (d.rd f).testBit k := by
  have hlow := Nat.mod_lt (d.rd f) (Nat.two_pow_pos j)
  rw [Dev.clearBit, Dev.rd_wr_same, Nat.testBit_mod_two_pow, sub_bit_eq, Nat.testBit_two_pow_mul_add _ hlow]
  conv_rhs => rw [← Nat.div_add_mod (d.rd f) (2 ^ j), Nat.testBit_two_pow_mul_add _ hlow]
  by_cases hlt : k < j
  · simp [h, hlt]
  · obtain ⟨m, hm⟩ : ∃ m, k - j = m + 1 := ⟨k - j - 1, by omega⟩
    simp [h, hlt, hm, Nat.testBit_succ]

end

end

end Sys2Proof.Machine

/-! SUPPORT. What a trip and a reset leave of the device (R363, R364, Table 10-4). -/

namespace Sys2Proof.Machine

open Sys2Proof Sys2Proof.Safety

set_option Elab.async false

/-- A map cut down to some of its keys reads the same at those. -/
theorem mget_filter {α : Type} {p : Nat → Bool} {k : Nat} (h : p k = true) (m : List (Nat × α)) (dflt : α) :
    mget (m.filter fun e => p e.1) dflt k = mget m dflt k := by
  induction m with
  | nil => rfl
  | cons e t ih =>
    rw [List.filter_cons]
    by_cases hk : e.1 = k
    · simp [mget, hk, h]
    · split <;> simp [mget, hk, ih]

/-- The units dropped are at their reset state: nothing burns, turns, tracks or is programmed. -/
structure Dropped (d : Dev) : Prop where
  spins : d.spins = []
  servos : d.servos = []
  burns : d.burns = []
  progs : d.sal.progs = []

section
variable (d : Dev)

theorem Dev.dropUnits_dropped : Dropped d.dropUnits := ⟨rfl, rfl, rfl, rfl⟩

theorem Dev.dropUnits_fv : d.dropUnits.fv = d.fv := by
  have idle : ((List.range 16).foldl
      (fun (d : Dev) p => if d.flag Reg.SOR_CFG_EN p then d.send (.down p .idle) else d) d).fv = d.fv :=
    foldl_fv (fun d p => by split <;> rfl) _ d
  unfold Dev.dropUnits
  dsimp only
  generalize List.foldl _ d _ = e at *
  split
  · exact idle
  · exact idle

/-! ### Trips -/

/-- A register that a trip leaves alone: one of a block that the safe latch does not hold in reset (R364), but the latch. -/
def tripKeeps (k : Nat) : Bool := !heldAt (k / 32 * 4) && k != Reg.CLK_STATUS_SAFE.key 0 0

variable {f g : Fld}

theorem tripKeeps_home : tripKeeps (Reg.PEER_CFG_HOME_SP.key 0 0) = false := by decide

theorem tripKeeps_safe : tripKeeps (Reg.CLK_STATUS_SAFE.key 0 0) = false := by decide

theorem Dev.rd_trip (f : Fld) (h : tripKeeps (g.key 0 0) = true) : (d.trip f).rd g = (d.setErr f).rd g := by
  have hsafe : g.key 0 0 ≠ Reg.CLK_STATUS_SAFE.key 0 0 := fun e => by rw [e, tripKeeps_safe] at h; cases h
  have hhome : g.key 0 0 ≠ Reg.PEER_CFG_HOME_SP.key 0 0 := fun e => by rw [e, tripKeeps_home] at h; cases h
  have hkept : (!heldAt (g.key 0 0 / 32 * 4) || g.key 0 0 == Reg.HIF_STATUS_SB_UP.key 0 0) = true := by
    rw [tripKeeps, Bool.and_eq_true] at h
    rw [h.1, Bool.true_or]
  have cut (x : Dev) (c : Clk) (v : Nat) : (((({ x with
      fv := x.fv.filter fun e => !heldAt (e.1 / 32 * 4) || e.1 == Reg.HIF_STATUS_SB_UP.key 0 0, clk := c } : Dev).wr
      Reg.CLK_STATUS_SAFE 1).wr Reg.PEER_CFG_HOME_SP v)).rd g = x.rd g := by
    rw [Dev.rd_wr_ne _ _ _ _ _ _ _ _ hhome, Dev.rd_wr_ne _ _ _ _ _ _ _ _ hsafe]
    exact mget_filter (p := fun k => !heldAt (k / 32 * 4) || k == Reg.HIF_STATUS_SB_UP.key 0 0) hkept x.fv _
  exact (cut (d.setErr f).dropUnits _ _).trans (Dev.rd_of_fv (d.setErr f).dropUnits_fv g 0 0)

theorem Dev.trip_safe (f : Fld) : (d.trip f).safe = true := by
  unfold Dev.trip Dev.safe
  dsimp only
  rw [Dev.flag_wr_ne _ _ _ _ _ _ _ _ (by decide), Dev.flag_wr_same]
  rfl

theorem Dev.trip_dropped (f : Fld) : Dropped (d.trip f) := ⟨rfl, rfl, rfl, rfl⟩

theorem Dev.trip_flag (hw : f.w = 1) (h : tripKeeps (f.key 0 0) = true := by decide) : (d.trip f).flag f = true :=
  (Dev.flag_congr (d.rd_trip f h)).trans (d.flag_setErr_same hw _ _ _ _ _)

theorem Dev.trip_flag_ne (h : tripKeeps (g.key 0 0) = true) (hne : g.key 0 0 ≠ f.key 0 0) :
    (d.trip f).flag g = d.flag g := Dev.flag_congr ((d.rd_trip f h).trans (d.rd_setErr_ne f g _ _ _ _ _ _ _ _ hne))

/-- After a trip the safe latch and the bit of its cause are set, and no spindle, engine or burn is active. -/
theorem Dev.settle_trip (s : State) (hw : f.w = 1) (hc : f.calm = true := by decide)
    (h : tripKeeps (f.key 0 0) = true := by decide) :
    (s.settle (d.trip f)).dev.safe = true ∧ (s.settle (d.trip f)).dev.spins = [] ∧ (s.settle (d.trip f)).dev.servos = [] ∧
      (s.settle (d.trip f)).dev.burns = [] ∧ (s.settle (d.trip f)).dev.flag f = true := by
  have hdrop := d.trip_dropped f
  refine ⟨?_, ?_, ?_, ?_, ?_⟩
  · rw [Dev.safe, State.settle_flag _ _ _ _ _ (by decide)]
    exact d.trip_safe f
  · rw [State.settle_spins, hdrop.spins]
  · rw [State.settle_servos, hdrop.servos]
  · rw [State.settle_burns, hdrop.burns]
  · rw [State.settle_flag _ _ _ _ _ hc, d.trip_flag hw h]

end

/-! ### Resets -/

/-- From `a` to `b` a reset shows where start-up begins: no unit changes, nor the trip, nor the cause. -/
structure Shows (a b : Dev) : Prop where
  units : SameUnits a b
  tripped : b.clk.tripped = a.clk.tripped
  cause : b.rd Reg.TG_RST_CAUSE_CAUSE = a.rd Reg.TG_RST_CAUSE_CAUSE

namespace Shows

variable {a b c : Dev}

theorem refl (a : Dev) : Shows a a := ⟨.refl a, rfl, rfl⟩

theorem trans (h : Shows a b) (g : Shows b c) : Shows a c :=
  ⟨h.units.trans g.units, g.tripped.trans h.tripped, g.cause.trans h.cause⟩

/-- `trans`, the second step first: it says from where the first step leads. -/
theorem after (g : Shows b c) (h : Shows a b) : Shows a c := h.trans g

theorem ite {P : Prop} [Decidable P] (h : Shows a b) (g : Shows a c) : Shows a (if P then b else c) := by
  split
  · exact h
  · exact g

theorem dropped (h : Shows a b) (ha : Dropped a) : Dropped b :=
  ⟨h.units.spins.trans ha.spins, h.units.servos.trans ha.servos, h.units.burns.trans ha.burns, by rw [h.units.sal, ha.progs]⟩

variable (d : Dev)

theorem wr (f : Fld) (v : Nat) (h : Reg.TG_RST_CAUSE_CAUSE.key 0 0 ≠ f.key 0 0 := by decide) : Shows d (d.wr f v) :=
  ⟨(Leaves.wr d f v 0 0).units, rfl, Dev.rd_wr_ne d f _ v 0 0 0 0 h⟩

theorem setBoot (f : Fld) (v : Nat) (h : Reg.TG_RST_CAUSE_CAUSE.key 0 0 ≠ f.key 0 0 := by decide) : Shows d (d.setBoot f v) :=
  .after ⟨(d.setBoot_calm f v).sameUnits, by simp, (d.setBoot_calm f v).rd _ _ _ (by decide)⟩ (wr d f v h)

theorem sense (mv : Nat) : Shows d (d.sense mv) := ⟨(Leaves.clk [] d _).units, rfl, rfl⟩

theorem showFuses (role : Bool) (nidLo : Nat) : Shows d (d.showFuses role nidLo) := by
  unfold Dev.showFuses
  dsimp only
  have shown (v1 v2 v3 v4 v5 v6 v7 v8 v9 v10 v11 : Nat) : Shows d (((((((((((d.wr Reg.CLK_STRAP_ROLE v1).wr
      Reg.CLK_STRAP_NID_LO v2).wr Reg.GLB_ID_VARIANT v3).wr Reg.GLB_SERIAL_LO_SERIAL v4).wr Reg.GLB_SERIAL_HI_SERIAL v5).wr
      Reg.GLB_NODE_NID v6).wr Reg.GLB_NODE_ROLE v7).wr Reg.LCS_STATUS_STATE v8).wr Reg.LCS_STATUS_SEC_VER v9).wr
      Reg.LCS_TRANS_CNT_COUNT v10).wr Reg.PEER_CFG_HOME_SP v11) :=
    .after (wr _ _ _) (.after (wr _ _ _) (.after (wr _ _ _) (.after (wr _ _ _) (.after (wr _ _ _) (.after (wr _ _ _)
      (.after (wr _ _ _) (.after (wr _ _ _) (.after (wr _ _ _) (.after (wr _ _ _) (wr d _ _))))))))))
  exact .ite (.after (wr _ _ _) (.after (wr _ _ _) (shown _ _ _ _ _ _ _ _ _ _ _))) (shown _ _ _ _ _ _ _ _ _ _ _)

end Shows

/-- A reset drops the units, clears the trip and names its cause, and shows where start-up begins. -/
theorem Dev.restart_shows (d : Dev) (cause : Nat) : ∃ a, Shows a (d.restart cause) ∧ Dropped a ∧
    a.rd Reg.TG_RST_CAUSE_CAUSE = cause % 8 ∧ a.clk.tripped = false := by
  have hdrop : Dropped (d.emit (.reset (d.firstStep cause == 1) (cause == 0))).dropUnits := Dev.dropUnits_dropped _
  unfold Dev.restart
  extract_lets first dropped old fv _ mgmt cleared _ mem _ clk clk' base caused keep fuses locks source latch sensed
  have htrip : clk'.tripped = false := by
    unfold clk'
    split <;> rfl
  refine ⟨caused, ?_, ⟨hdrop.spins, hdrop.servos, hdrop.burns, hdrop.progs⟩, base.rd_wr_same _ _ _ _, htrip⟩
  have kept (e : Dev) (f : Fld) (h : Reg.TG_RST_CAUSE_CAUSE.key 0 0 ≠ f.key 0 0 := by decide) : Shows e (keep f e) :=
    .wr e f _ h
  have hlocks : Shows caused locks :=
    .after (kept _ _) (.after (kept _ _) (.after (kept _ _) (.after (kept _ _) (.showFuses caused _ _))))
  have hsource : Shows caused source := .ite hlocks (.after (kept _ _) hlocks)
  have hlatch : Shows caused latch := .ite (.after (.wr _ _ _) (.after (kept _ _) hsource)) hsource
  have hsensed : Shows caused sensed := .ite (.after (.sense _ _) hlatch) hlatch
  exact .ite (.refl caused) (.after (.setBoot _ _ _) hsensed)

theorem Dev.restart_dropped (d : Dev) (cause : Nat) : Dropped (d.restart cause) :=
  have ⟨_, hs, hd, _, _⟩ := d.restart_shows cause
  hs.dropped hd

theorem Dev.restart_cause (d : Dev) (cause : Nat) : (d.restart cause).rd Reg.TG_RST_CAUSE_CAUSE = cause % 8 :=
  have ⟨_, hs, _, hc, _⟩ := d.restart_shows cause
  hs.cause.trans hc

theorem Dev.restart_tripped (d : Dev) (cause : Nat) : (d.restart cause).clk.tripped = false :=
  have ⟨_, hs, _, _, ht⟩ := d.restart_shows cause
  hs.tripped.trans ht

end Sys2Proof.Machine

/-! O9. Clock faults and monitors, clause by clause. -/

namespace Sys2Proof.Machine

open Sys2Proof Sys2Proof.Safety

set_option Elab.async false

section
variable {s : State}

/-! ### What trips (R359, R361) -/

theorem refclkStop_trips (h : s.dev.refJudged = true) : After .refclkStop s fun t =>
    t.dev.safe = true ∧ t.dev.spins = [] ∧ t.dev.servos = [] ∧ t.dev.burns = [] ∧
      t.dev.flag Reg.CLK_ERR_REF_STOP = true ∧ t.dev.flag Reg.CLK_STATUS_REF_VALID = false := by
  have hj : s.fresh.refJudged = true := h
  refine ⟨_, rfl, ?_⟩
  dsimp only
  rw [if_pos hj]
  obtain ⟨hsafe, hspins, hservos, hburns, herr⟩ := Dev.settle_trip (s.fresh.wr Reg.CLK_STATUS_REF_VALID 0) s
    (f := Reg.CLK_ERR_REF_STOP) rfl
  refine ⟨hsafe, hspins, hservos, hburns, herr, ?_⟩
  rw [State.settle_flag _ _ _ _ _ (by decide), Dev.trip_flag_ne _ (by decide) (by decide), Dev.flag_wr_same]
  rfl

theorem refclkWindow_trips {count : Nat} (h : s.dev.refJudged = true) (hfbo : s.dev.flag Reg.CLK_STATUS_FBO_STABLE = true)
    (hc : count < 944 ∨ 1107 < count) : After (.refclkWindow count) s fun t =>
      t.dev.safe = true ∧ t.dev.spins = [] ∧ t.dev.servos = [] ∧ t.dev.burns = [] ∧
        t.dev.flag Reg.CLK_ERR_REF_FREQ = true := by
  have hj : s.fresh.refJudged = true := h
  have hstable : (s.fresh.wr Reg.CLK_MON_CNT_REF count).flag Reg.CLK_STATUS_FBO_STABLE = true :=
    (Dev.flag_wr_ne _ _ _ _ _ _ _ _ (by decide)).trans hfbo
  refine ⟨_, rfl, ?_⟩
  dsimp only
  rw [if_pos hj, Dev.refWindow, hstable, if_pos rfl, if_neg (by simp; omega)]
  exact Dev.settle_trip _ s rfl

theorem refclkWindow_good {count : Nat} (h : s.dev.refJudged = true) (hfbo : s.dev.flag Reg.CLK_STATUS_FBO_STABLE = true)
    (hlo : 944 ≤ count) (hhi : count ≤ 1107) : After (.refclkWindow count) s fun t =>
      t.dev.safe = s.dev.safe ∧ t.dev.rd Reg.CLK_MON_CNT_REF = count := by
  have hj : s.fresh.refJudged = true := h
  have hstable : (s.fresh.wr Reg.CLK_MON_CNT_REF count).flag Reg.CLK_STATUS_FBO_STABLE = true :=
    (Dev.flag_wr_ne _ _ _ _ _ _ _ _ (by decide)).trans hfbo
  refine ⟨_, rfl, ?_⟩
  dsimp only
  rw [if_pos hj, Dev.refWindow, hstable, if_pos rfl, if_pos (by simp [hlo, hhi])]
  refine ⟨?_, ?_⟩
  · rw [Dev.safe, State.settle_flag _ _ _ _ _ (by decide), Dev.flag_wr_ne _ _ _ _ _ _ _ _ (by decide)]
    rfl
  · rw [State.settle_rd _ _ _ _ _ (by decide), Dev.rd_wr_same]
    exact Nat.mod_eq_of_lt (by show count < 65536; omega)

theorem dividerCheck_trips {dom : Fin 5} {count : Nat} (h : s.dev.refJudged = true)
    (hfbo : s.dev.flag Reg.CLK_STATUS_FBO_STABLE = true) (hroot : s.dev.flag Reg.CLK_STATUS_ROOT_LOCK = true)
    (hbad : divGood dom.val count = false) : After (.dividerCheck dom count) s fun t =>
      t.dev.safe = true ∧ t.dev.spins = [] ∧ t.dev.servos = [] ∧ t.dev.burns = [] ∧
        t.dev.flag Reg.CLK_ERR_DIV_FAULT = true := by
  have hp : s.fresh.powered = true := (Bool.and_eq_true_iff.1 h).1
  refine ⟨_, rfl, ?_⟩
  dsimp only
  rw [if_pos (by simp [hp, hfbo, hroot, hbad])]
  exact Dev.settle_trip _ s rfl

theorem rootPllUnlock_trips (h : s.dev.powered = true) (hroot : s.dev.flag Reg.CLK_STATUS_ROOT_LOCK = true) :
    After .rootPllUnlock s fun t => t.dev.safe = true ∧ t.dev.spins = [] ∧ t.dev.servos = [] ∧ t.dev.burns = [] ∧
      t.dev.flag Reg.CLK_ERR_ROOT_UNLOCK = true ∧ t.dev.flag Reg.CLK_STATUS_ROOT_LOCK = false := by
  have hp : s.fresh.powered = true := h
  refine ⟨_, rfl, ?_⟩
  dsimp only
  rw [if_pos (by simp [hp, hroot])]
  obtain ⟨hsafe, hspins, hservos, hburns, herr⟩ := Dev.settle_trip (s.fresh.wr Reg.CLK_STATUS_ROOT_LOCK 0) s
    (f := Reg.CLK_ERR_ROOT_UNLOCK) rfl
  refine ⟨hsafe, hspins, hservos, hburns, herr, ?_⟩
  rw [State.settle_flag _ _ _ _ _ (by decide), Dev.trip_flag_ne _ (by decide) (by decide), Dev.flag_wr_same]
  rfl

/-! ### The monitor of FBO, and REFCLK valid (R359, R360) -/

/-- With FBO no longer stable the bits that say so stay, and the count of its periods. -/
theorem Dev.fboGone_keeps (d : Dev) : d.fboGone.clk = d.clk ∧
    d.fboGone.flag Reg.CLK_STATUS_FBO_STABLE = d.flag Reg.CLK_STATUS_FBO_STABLE ∧
    d.fboGone.flag Reg.CLK_ERR_FBO_FAULT = d.flag Reg.CLK_ERR_FBO_FAULT := by
  have keeps (f : Fld) (h1 : f.key 0 0 ≠ Reg.HIF_STATUS_SB_UP.key 0 0) (h2 : f.key 0 0 ≠ Reg.CLK_STATUS_SOURCE.key 0 0)
      (h3 : f.key 0 0 ≠ Reg.HIF_BOOT_FALLBACK.key 0 0) :
      (((d.setBoot Reg.HIF_BOOT_FALLBACK 0).wr Reg.CLK_STATUS_SOURCE 0).wr Reg.HIF_STATUS_SB_UP 0).flag f = d.flag f := by
    rw [Dev.flag_wr_ne _ _ _ _ _ _ _ _ h1, Dev.flag_wr_ne _ _ _ _ _ _ _ _ h2, Dev.flag_setBoot_ne _ _ _ _ _ _ h3]
  unfold Dev.fboGone
  split
  · exact ⟨d.setBoot_clk _ _, keeps _ (by decide) (by decide) (by decide), keeps _ (by decide) (by decide) (by decide)⟩
  · exact ⟨rfl, rfl, rfl⟩

theorem fboPeriodCheck_faults {count : Nat} (h : s.dev.powered = true) (hfbo : s.dev.flag Reg.CLK_STATUS_FBO_STABLE = true)
    (hc : count < 4523 ∨ 4998 < count) : After (.fboPeriodCheck count) s fun t =>
      t.dev.flag Reg.CLK_STATUS_FBO_STABLE = false ∧ t.dev.flag Reg.CLK_ERR_FBO_FAULT = true ∧ t.dev.clk.fboPeriods = 0 := by
  have hp : s.fresh.powered = true := h
  have hstable : (s.fresh.wr Reg.CLK_MON_CNT_FBO count).flag Reg.CLK_STATUS_FBO_STABLE = true :=
    (Dev.flag_wr_ne _ _ _ _ _ _ _ _ (by decide)).trans hfbo
  have hbad : (!(decide (4523 ≤ count) && decide (count ≤ 4998))) = true := by simp; omega
  refine ⟨_, rfl, ?_⟩
  dsimp only
  rw [if_pos hp]
  unfold Dev.fboPeriod
  dsimp only
  rw [if_pos hbad, if_pos hstable]
  obtain ⟨hclk, hflag, herr⟩ := Dev.fboGone_keeps ((Dev.wr { s.fresh.wr Reg.CLK_MON_CNT_FBO count with
    clk := { s.fresh.clk with fboPeriods := 0 } } Reg.CLK_STATUS_FBO_STABLE 0).setErr Reg.CLK_ERR_FBO_FAULT)
  refine ⟨?_, ?_, ?_⟩
  · refine (State.settle_flag _ _ _ _ _ (by decide)).trans (hflag.trans ?_)
    rw [Dev.flag_setErr_ne _ _ _ _ _ _ _ _ _ _ _ (by decide), Dev.flag_wr_same]
    rfl
  · exact (State.settle_flag _ _ _ _ _ (by decide)).trans (herr.trans (Dev.flag_setErr_same _ rfl _ _ _ _ _))
  · rw [State.settle_clk]
    exact congrArg Clk.fboPeriods hclk

theorem fboPeriodCheck_counts {count : Nat} (h : s.dev.powered = true)
    (hfbo : s.dev.flag Reg.CLK_STATUS_FBO_STABLE = false) (hlo : 4523 ≤ count) (hhi : count ≤ 4998) :
    After (.fboPeriodCheck count) s fun t =>
      t.dev.clk.fboPeriods = s.dev.clk.fboPeriods + 1 ∧ t.dev.rd Reg.CLK_MON_CNT_FBO = count := by
  have hp : s.fresh.powered = true := h
  have hstable : (s.fresh.wr Reg.CLK_MON_CNT_FBO count).flag Reg.CLK_STATUS_FBO_STABLE = false :=
    (Dev.flag_wr_ne _ _ _ _ _ _ _ _ (by decide)).trans hfbo
  refine ⟨_, rfl, ?_⟩
  dsimp only
  rw [if_pos hp]
  unfold Dev.fboPeriod
  dsimp only
  rw [if_neg (by simp [hlo, hhi]), if_pos (by rw [hstable]; rfl)]
  refine ⟨by rw [State.settle_clk]; rfl, ?_⟩
  rw [State.settle_rd _ _ _ _ _ (by decide)]
  exact (Dev.rd_wr_same s.fresh _ _ _ _).trans (Nat.mod_eq_of_lt (by show count < 65536; omega))

theorem refclkValid_goesOn (h : s.dev.refJudged = true) : After .refclkValid s fun t =>
    t.dev.flag Reg.CLK_STATUS_REF_VALID = true ∧ t.dev.flag Reg.HIF_BOOT_WAIT = false := by
  have hj : s.fresh.refJudged = true := h
  refine ⟨_, rfl, ?_⟩
  dsimp only
  rw [if_pos hj]
  refine ⟨?_, ?_⟩
  · rw [State.settle_flag _ _ _ _ _ (by decide), Dev.flag_setBoot_ne _ _ _ _ _ _ (by decide), Dev.flag_wr_same]
    rfl
  · rw [State.settle_flag _ _ _ _ _ (by decide), Dev.flag_setBoot_same]
    rfl

/-! ### Fallback and relock (R365 to R368) -/

theorem mgmtClockSwitch_fallsBack (h : s.dev.powered = true) (htrip : s.dev.clk.tripped = true)
    (hfbo : s.dev.flag Reg.CLK_STATUS_FBO_STABLE = true) (hback : s.dev.flag Reg.HIF_BOOT_FALLBACK = false) :
    After (.mgmtClockSwitch true) s fun t => t.dev.flag Reg.CLK_STATUS_SOURCE = true ∧
      t.dev.flag Reg.HIF_BOOT_FALLBACK = true ∧ t.dev.flag Reg.HIF_STATUS_LINK_UP = false := by
  have hp : s.fresh.powered = true := h
  refine ⟨_, rfl, ?_⟩
  dsimp only
  rw [if_pos hp, Dev.clockSwitch, if_pos rfl, if_pos (by simp [htrip, hfbo, hback])]
  refine ⟨?_, ?_, ?_⟩
  · rw [State.settle_flag _ _ _ _ _ (by decide), Dev.flag_setBoot_ne _ _ _ _ _ _ (by decide),
      Dev.flag_setBoot_ne _ _ _ _ _ _ (by decide), Dev.flag_wr_ne _ _ _ _ _ _ _ _ (by decide),
      Dev.flag_wr_ne _ _ _ _ _ _ _ _ (by decide)]
    exact (Dev.flag_wr_same s.fresh Reg.CLK_STATUS_SOURCE 1 0 0).trans rfl
  · rw [State.settle_flag _ _ _ _ _ (by decide), Dev.flag_setBoot_ne _ _ _ _ _ _ (by decide), Dev.flag_setBoot_same]
    rfl
  · rw [State.settle_flag _ _ _ _ _ (by decide), Dev.flag_setBoot_ne _ _ _ _ _ _ (by decide),
      Dev.flag_setBoot_ne _ _ _ _ _ _ (by decide), Dev.flag_wr_ne _ _ _ _ _ _ _ _ (by decide), Dev.flag_wr_same]
    rfl

theorem mgmtClockSwitch_returns (h : s.dev.powered = true) (hsrc : s.dev.flag Reg.CLK_STATUS_SOURCE = true)
    (hroot : s.dev.flag Reg.CLK_STATUS_ROOT_LOCK = true) (htrip : s.dev.clk.tripped = false) :
    After (.mgmtClockSwitch false) s fun t =>
      t.dev.flag Reg.CLK_STATUS_SOURCE = false ∧ t.dev.flag Reg.HIF_BOOT_FALLBACK = false := by
  have hp : s.fresh.powered = true := h
  refine ⟨_, rfl, ?_⟩
  dsimp only
  rw [if_pos hp, Dev.clockSwitch, if_neg Bool.false_ne_true, if_pos (by simp [htrip, hsrc, hroot])]
  refine ⟨?_, ?_⟩
  · rw [State.settle_flag _ _ _ _ _ (by decide), Dev.flag_setBoot_ne _ _ _ _ _ _ (by decide), Dev.flag_wr_same]
    rfl
  · rw [State.settle_flag _ _ _ _ _ (by decide), Dev.flag_setBoot_same]
    rfl

section
variable {d : Dev} (htrip : d.clk.tripped = true) (href : d.flag Reg.CLK_STATUS_REF_VALID = true)

include htrip href

theorem Dev.relock_again (hn : d.clk.relocks < d.rd Reg.CLK_MON_RELOCK_TRIES) :
    d.relock true = (d.wr Reg.CLK_STATUS_ROOT_LOCK 1).restart 3 := by
  rw [Dev.relock, if_neg (by simp [htrip, href, hn]), if_pos rfl]

theorem Dev.relock_lastFails (hn : d.clk.relocks + 1 = d.rd Reg.CLK_MON_RELOCK_TRIES) :
    d.relock false =
      ({ d with clk := { d.clk with relocks := d.clk.relocks + 1 } } : Dev).setErr Reg.CLK_ERR_RELOCK_FAIL := by
  have hlt : d.clk.relocks < d.rd Reg.CLK_MON_RELOCK_TRIES := by omega
  rw [Dev.relock, if_neg (by simp [htrip, href, hlt]), if_neg Bool.false_ne_true]
  exact if_pos hn

end

theorem rootPllRelock_restarts (h : s.dev.powered = true) (htrip : s.dev.clk.tripped = true)
    (href : s.dev.flag Reg.CLK_STATUS_REF_VALID = true) (hn : s.dev.clk.relocks < s.dev.rd Reg.CLK_MON_RELOCK_TRIES) :
    After (.rootPllRelock true) s fun t => t.dev.rd Reg.TG_RST_CAUSE_CAUSE = 3 ∧ t.dev.clk.tripped = false := by
  have hp : s.fresh.powered = true := h
  refine ⟨_, rfl, ?_⟩
  dsimp only
  rw [if_pos hp, Dev.relock_again (d := s.fresh) htrip href hn]
  refine ⟨?_, ?_⟩
  · rw [State.settle_rd _ _ _ _ _ (by decide), Dev.restart_cause]
  · rw [State.settle_clk, Dev.restart_tripped]

theorem rootPllRelock_lastFails (h : s.dev.powered = true) (htrip : s.dev.clk.tripped = true)
    (href : s.dev.flag Reg.CLK_STATUS_REF_VALID = true) (hn : s.dev.clk.relocks + 1 = s.dev.rd Reg.CLK_MON_RELOCK_TRIES) :
    After (.rootPllRelock false) s fun t =>
      t.dev.flag Reg.CLK_ERR_RELOCK_FAIL = true ∧ t.dev.clk.relocks = s.dev.clk.relocks + 1 := by
  have hp : s.fresh.powered = true := h
  refine ⟨_, rfl, ?_⟩
  dsimp only
  rw [if_pos hp, Dev.relock_lastFails (d := s.fresh) htrip href hn]
  refine ⟨?_, by rw [State.settle_clk]; rfl⟩
  rw [State.settle_flag _ _ _ _ _ (by decide), Dev.flag_setErr_same _ rfl]

theorem onfPllUnlock_sets (h : s.dev.flag Reg.CLK_STATUS_ONF_LOCK = true) : After .onfPllUnlock s fun t =>
    t.dev.flag Reg.CLK_STATUS_ONF_LOCK = false ∧ t.dev.flag Reg.CLK_ERR_ONF_UNLOCK = true := by
  have hl : s.fresh.flag Reg.CLK_STATUS_ONF_LOCK = true := h
  refine ⟨_, rfl, ?_⟩
  dsimp only
  rw [if_pos hl]
  refine ⟨?_, ?_⟩
  · rw [State.settle_flag _ _ _ _ _ (by decide), Dev.flag_setErr_ne _ _ _ _ _ _ _ _ _ _ _ (by decide), Dev.flag_wr_same]
    rfl
  · rw [State.settle_flag _ _ _ _ _ (by decide), Dev.flag_setErr_same _ rfl]

end

end Sys2Proof.Machine

namespace Sys2Proof

open Sys2Proof.Machine Sys2Proof.Safety

set_option Elab.async false

/-- Settles O9, one lemma per clause: what trips, the monitors, fallback, relock, and the ONFI PLL. -/
theorem clockFaultsAndMonitors : Obligations.ClockFaultsAndMonitors :=
  ⟨fun _ h => refclkStop_trips h, fun _ _ h hfbo hc => refclkWindow_trips h hfbo hc,
    fun _ _ h hfbo hlo hhi => refclkWindow_good h hfbo hlo hhi,
    fun _ _ _ h hfbo hroot hbad => dividerCheck_trips h hfbo hroot hbad, fun _ h hroot => rootPllUnlock_trips h hroot,
    fun _ _ h hfbo hc => fboPeriodCheck_faults h hfbo hc, fun _ _ h hfbo hlo hhi => fboPeriodCheck_counts h hfbo hlo hhi,
    fun _ h => refclkValid_goesOn h, fun _ h htrip hfbo hback => mgmtClockSwitch_fallsBack h htrip hfbo hback,
    fun _ h hsrc hroot htrip => mgmtClockSwitch_returns h hsrc hroot htrip,
    fun _ h htrip href hn => rootPllRelock_restarts h htrip href hn,
    fun _ h htrip href hn => rootPllRelock_lastFails h htrip href hn, fun _ h => onfPllUnlock_sets h⟩

end Sys2Proof

/-! O10. Device time: the edges of TSY_PPS, the loss of its references, and the comparators. -/

namespace Sys2Proof.Machine

open Sys2Proof Sys2Proof.Safety

set_option Elab.async false

section
variable {s : State}

/-! ### The selected edge of TSY_PPS (R371) -/

/-- An edge of the polarity that TG_CTL selects is taken. -/
theorem ppsEdge_taken {rising : Bool} {post : State → Prop} (h : s.dev.powered = true)
    (hen : s.dev.flag Reg.TG_CTL_TSY_EN = true) (hr : rising = !s.dev.flag Reg.TG_CTL_PPS_EDGE)
    (hpost : post (s.settle s.fresh.pps)) : After (.ppsEdge rising) s post := by
  have hp : s.fresh.powered = true := h
  have he : s.fresh.flag Reg.TG_CTL_TSY_EN = true := hen
  have hedge : (rising == !s.fresh.flag Reg.TG_CTL_PPS_EDGE) = true := beq_iff_eq.2 hr
  refine ⟨_, rfl, ?_⟩
  dsimp only
  rw [if_pos (by rw [hp, he, hedge]; rfl)]
  exact hpost

section
variable (d : Dev)

theorem Dev.setTime_time (ns : Nat) : (d.setTime ns).clk.time = BitVec.ofNat 80 (ns * 65536) := rfl

theorem Dev.withClk_clk (c : Clk) : ({ d with clk := c } : Dev).clk = c := rfl

theorem Dev.withClk_flag (c : Clk) (f : Fld) : ({ d with clk := c } : Dev).flag f = d.flag f := rfl

/-- What an edge loads is shown before the rate correction, which is all that follows it. -/
theorem Dev.flag_rate (f : Fld) (v : Nat) (h : f.key 0 0 ≠ Reg.TG_RATE_PPB.key 0 0) :
    ((d.draw 32).2.wr Reg.TG_RATE_PPB v).flag f = d.flag f :=
  (Dev.flag_wr_ne _ _ _ _ _ _ _ _ h).trans (Dev.flag_congr (d.rd_draw 32 f 0 0))

end

theorem Dev.pps_loads {d : Dev} (harm : d.clk.secArmed = true) :
    d.pps.clk.time = BitVec.ofNat 80 (d.rd Reg.TG_NEXT_SEC_SEC * 1000000000 * 65536) ∧ d.pps.clk.secArmed = false ∧
      d.pps.flag Reg.TG_STATUS_TIME_VALID = true := by
  unfold Dev.pps
  dsimp only
  rw [if_pos harm, Dev.wr_clk, Dev.draw_clk, Dev.withClk_clk, Dev.wr_clk, Dev.flag_rate _ _ _ (by decide),
    Dev.withClk_flag, Dev.flag_wr_same]
  exact ⟨d.setTime_time _, rfl, rfl⟩

section
variable {d : Dev} (harm : d.clk.secArmed = false)

include harm

theorem Dev.pps_slews (hofs : (ppsOffset d.now.toNat).natAbs ≤ 1000) :
    d.pps.clk.time = d.clk.time ∧ d.pps.clk.slew = -ppsOffset d.now.toNat * 65536 := by
  unfold Dev.pps
  dsimp only
  rw [if_neg (by simp [harm]), if_pos hofs, Dev.wr_clk, Dev.draw_clk, Dev.wr_clk, Dev.withClk_clk, Dev.wrS_clk]
  exact ⟨rfl, rfl⟩

theorem Dev.pps_steps (hofs : 1000 < (ppsOffset d.now.toNat).natAbs) :
    d.pps.clk.time = BitVec.ofNat 80 (((d.now.toNat : Int) - ppsOffset d.now.toNat).toNat * 65536) ∧
      d.pps.flag Reg.TG_EVENT_TIME_STEP = true := by
  unfold Dev.pps
  dsimp only
  rw [if_neg (by simp [harm]), if_neg (Nat.not_le.2 hofs), Dev.wr_clk, Dev.draw_clk, Dev.wr_clk, Dev.setErr_clk,
    Dev.setTime_time, Dev.flag_rate _ _ _ (by decide), Dev.flag_wr_ne _ _ _ _ _ _ _ _ (by decide),
    Dev.flag_setErr_same _ rfl]
  exact ⟨rfl, rfl⟩

end

/-! ### The references lost and back (R371, R372) -/

theorem ppsLoss_holds (h : s.dev.powered = true) (hen : s.dev.flag Reg.TG_CTL_TSY_EN = true) :
    After .ppsLoss s fun t => t.dev.flag Reg.TG_STATUS_TSY_LOCK = false ∧ t.dev.flag Reg.TG_EVENT_PPS_LOSS = true ∧
      t.dev.clk.slew = 0 := by
  have hon : (s.fresh.powered && s.fresh.flag Reg.TG_CTL_TSY_EN) = true := Bool.and_eq_true_iff.2 ⟨h, hen⟩
  refine ⟨_, rfl, ?_⟩
  dsimp only
  rw [if_pos hon]
  refine ⟨?_, ?_, by rw [State.settle_clk]⟩
  · refine (State.settle_flag _ _ _ _ _ (by decide)).trans ?_
    exact (Dev.flag_setErr_ne (s.fresh.wr Reg.TG_STATUS_TSY_LOCK 0) Reg.TG_EVENT_PPS_LOSS Reg.TG_STATUS_TSY_LOCK 0 0 0 0 []
      false 0 0 (by decide)).trans (Dev.flag_wr_same _ _ _ _ _)
  · exact (State.settle_flag _ _ _ _ _ (by decide)).trans
      (Dev.flag_setErr_same (s.fresh.wr Reg.TG_STATUS_TSY_LOCK 0) (f := Reg.TG_EVENT_PPS_LOSS) rfl 0 0 0 [] false)

theorem tsy10mLoss_holds (h : s.dev.powered = true) (hen : s.dev.flag Reg.TG_CTL_TSY_EN = true) :
    After .tsy10mLoss s fun t => t.dev.flag Reg.CLK_ERR_TSY_LOSS = true ∧ t.dev.clk.tenM = false := by
  have hon : (s.fresh.powered && s.fresh.flag Reg.TG_CTL_TSY_EN) = true := Bool.and_eq_true_iff.2 ⟨h, hen⟩
  refine ⟨_, rfl, ?_⟩
  dsimp only
  rw [if_pos hon]
  exact ⟨(State.settle_flag _ _ _ _ _ (by decide)).trans
      (Dev.flag_setErr_same s.fresh (f := Reg.CLK_ERR_TSY_LOSS) rfl 0 0 0 [] false),
    by rw [State.settle_clk]⟩

theorem tsy10mReturn_follows (h : s.dev.powered = true) (hen : s.dev.flag Reg.TG_CTL_TSY_EN = true) :
    After .tsy10mReturn s fun t => t.dev.clk.tenM = true := by
  have hon : (s.fresh.powered && s.fresh.flag Reg.TG_CTL_TSY_EN) = true := Bool.and_eq_true_iff.2 ⟨h, hen⟩
  refine ⟨_, rfl, ?_⟩
  dsimp only
  rw [if_pos hon, State.settle_clk]

/-! ### The comparators (R374) -/

/-- A comparator reached with the main supplies present. -/
theorem Dev.comparator_matches {d : Dev} {k : Nat} (h : d.powered = true) (hen : (d.rd Reg.TG_CMP_CTL_EN).testBit k = true)
    (hdue : d.rd Reg.TG_CMP_LO_TIME k + 2 ^ 32 * d.rd Reg.TG_CMP_HI_TIME k ≤ d.now.toNat) :
    d.comparator k = (d.setErr Reg.TG_EVENT_CMP k).clearBit Reg.TG_CMP_CTL_EN k := by
  obtain ⟨⟨⟨htide, -⟩, hdeep⟩, -⟩ : ((d.clk.tideOk = true ∧ _) ∧ d.clk.deep = false) ∧ _ := by
    simpa [Dev.powered] using h
  have hdeep' : ((d.setErr Reg.TG_EVENT_CMP k).clearBit Reg.TG_CMP_CTL_EN k).clk.deep = false := hdeep
  unfold Dev.comparator
  dsimp only
  rw [if_neg (by simp [htide, hen]; omega), if_neg (by simp [h]), hdeep', if_neg (by simp)]

theorem comparatorMatch_sets {k : Fin 4} (h : s.dev.powered = true)
    (hen : (s.dev.rd Reg.TG_CMP_CTL_EN).testBit k.val = true)
    (hdue : s.dev.rd Reg.TG_CMP_LO_TIME k.val + 2 ^ 32 * s.dev.rd Reg.TG_CMP_HI_TIME k.val ≤ s.dev.now.toNat) :
    After (.comparatorMatch k) s fun t => (t.dev.rd Reg.TG_EVENT_CMP).testBit k.val = true ∧
      (t.dev.rd Reg.TG_CMP_CTL_EN).testBit k.val = false := by
  refine ⟨_, rfl, ?_⟩
  dsimp only
  rw [Dev.comparator_matches (d := s.fresh) h hen hdue]
  refine ⟨?_, ?_⟩
  · rw [State.settle_rd _ _ _ _ _ (by decide), Dev.clearBit, Dev.rd_wr_ne _ _ _ _ _ _ _ _ (by decide), Dev.rd_setErr_same,
      Nat.testBit_mod_two_pow, Nat.testBit_or, Nat.testBit_two_pow_self, Bool.or_true, Bool.and_true]
    exact decide_eq_true k.isLt
  · rw [State.settle_rd _ _ _ _ _ (by decide), Dev.testBit_clearBit_same]

end

end Sys2Proof.Machine

namespace Sys2Proof

open Sys2Proof.Machine Sys2Proof.Safety

set_option Elab.async false

/-- Settles O10, by the three ways an edge of TSY_PPS acts on device time and one lemma for each other event. -/
theorem deviceTimeEvents : Obligations.DeviceTimeEvents := by
  refine ⟨fun s _ h hen hr harm => ppsEdge_taken h hen hr ?_, fun s _ h hen hr harm hofs => ppsEdge_taken h hen hr ?_,
    fun s _ h hen hr harm hofs => ppsEdge_taken h hen hr ?_, fun _ h hen => ppsLoss_holds h hen,
    fun _ h hen => tsy10mLoss_holds h hen, fun _ h hen => tsy10mReturn_follows h hen,
    fun _ _ h hen hdue => comparatorMatch_sets h hen hdue⟩
  · rw [State.settle_clk, State.settle_flag _ _ _ _ _ (by decide)]
    exact Dev.pps_loads (d := s.fresh) harm
  · rw [State.settle_clk]
    exact Dev.pps_slews (d := s.fresh) harm hofs
  · rw [State.settle_clk, State.settle_flag _ _ _ _ _ (by decide)]
    exact Dev.pps_steps (d := s.fresh) harm hofs

end Sys2Proof

/-! O7. Clock gating, CLKOUT and the sensed supply. -/

namespace Sys2Proof.Machine

open Sys2Proof Sys2Proof.Safety

set_option Elab.async false

/-! ### Writes of registers that no clock gate serves and the safe latch does not hold -/

section
variable {d : Dev} {r : Recorder} {off val : Nat} {g : RegDef} {i j : Nat} (hat : regAt off = some (g, i, j)) (ho : off % 4 = 0)
  (hfuse : d.fusedOff off = false) (hgate : gateOf off = none) (hheld : heldAt off = false)
  (hm : ¬(0x58000 ≤ off ∧ off < 0x5C000))

include hat ho hfuse hgate hheld hm

theorem Dev.hostFields_ungated : d.hostFields r off val =
    ((if (d.writeFields r g i j val g.fields).2 then (d.writeFields r g i j val g.fields).1.discarded off val
      else (d.writeFields r g i j val g.fields).1), true) := by
  rw [Dev.hostFields_taken r val hat ho hfuse (by simp only [Safety.clocked, hgate]) (by rw [hheld, Bool.and_false]) hm,
    Dev.wakeAt_none hgate]

theorem Dev.hostWrite_ungated : d.hostWrite r off val = (d.hostFields r off val).1.action d off val := by
  rw [Dev.hostWrite, Dev.hostFields_ungated hat ho hfuse hgate hheld hm, if_pos rfl]

theorem Dev.stored_hostFields {f : RField} (hf : f ∈ g.fields) (hs : d.shown r (keyOf g f i j) = none)
    (hr : refused (keyOf g f i j) (val / 2 ^ f.lo % 2 ^ f.w) val = false) (hen : keyOf g f i j ≠ Reg.CLK_GATE_EN.key 0 0)
    (hring : keyOf g f i j ∉ ringKeys) (hacc : f.acc ≠ .rwl) :
    Safety.stored (d.hostFields r off val).1 g f i j =
      Safety.written (d.flag Reg.GLB_SETUP_LOCK_LOCK) f.acc (Safety.stored d g f i j) (val / 2 ^ f.lo % 2 ^ f.w) := by
  rw [Dev.hostFields_ungated hat ho hfuse hgate hheld hm,
    ((Dev.discardedIf_calm _ _ off val).sameRegs []).stored g f i j List.not_mem_nil hring,
    Dev.stored_writeFields _ r g i j val hf (nodup_keys_of_regAt hat) hs hr hen hring fun h => absurd h hacc]

end

/-! ### The enables of CLK_GATE (R355, R356) -/

/-- Unit `u` is enabled, its clock runs, and no closure waits. -/
def GateOpen (d : Dev) (u : Nat) : Prop :=
  (d.rd Reg.CLK_GATE_EN).testBit u = true ∧ (d.rd Reg.CLK_GATE_ST_RUN).testBit u = true ∧
    (d.rd Reg.CLK_GATE_ST_PEND).testBit u = false

section
variable {d : Dev} {u j : Nat}

/-- A bit set stays set, whatever bit is set after it. -/
theorem Dev.testBit_setBit_of (f : Fld) (hu : u < f.w) (h : (d.rd f).testBit u = true) :
    ((d.setBit f j).rd f).testBit u = true := by
  by_cases e : u = j
  · subst e
    exact d.testBit_setBit_same f hu
  · rw [d.testBit_setBit_ne f hu e, h]

/-- A bit clear stays clear, whatever bit is cleared after it. -/
theorem Dev.testBit_clearBit_of (f : Fld) (hu : u < f.w) (h : (d.rd f).testBit u = false) :
    ((d.clearBit f j).rd f).testBit u = false := by
  by_cases e : u = j
  · subst e
    exact d.testBit_clearBit_same f
  · rw [d.testBit_clearBit_ne f hu e, h]

theorem Dev.rd_setBit_ne (f g : Fld) (h : g.key 0 0 ≠ f.key 0 0) : (d.setBit f j).rd g = d.rd g :=
  d.rd_wr_ne f g _ 0 0 0 0 h

theorem Dev.rd_clearBit_ne (f g : Fld) (h : g.key 0 0 ≠ f.key 0 0) : (d.clearBit f j).rd g = d.rd g :=
  d.rd_wr_ne f g _ 0 0 0 0 h

/-- The restart of a clock that was gated automatically opens no closure and shuts no gate. -/
theorem GateOpen.autoWake (hu : u < 14) (h : GateOpen d u) (j : Nat) : GateOpen (d.autoWake j) u := by
  obtain ⟨hen, hrun, hpend⟩ := h
  unfold Dev.autoWake
  split
  · refine ⟨?_, Dev.testBit_setBit_of (d := d) Reg.CLK_GATE_ST_RUN hu hrun, ?_⟩
    · exact (congrArg (Nat.testBit · u) (Dev.rd_setBit_ne (d := d) Reg.CLK_GATE_ST_RUN Reg.CLK_GATE_EN (by decide))).trans hen
    · exact (congrArg (Nat.testBit · u)
        (Dev.rd_setBit_ne (d := d) Reg.CLK_GATE_ST_RUN Reg.CLK_GATE_ST_PEND (by decide))).trans hpend
  · exact ⟨hen, hrun, hpend⟩

/-- Setting the enable of another unit shuts no gate. -/
theorem GateOpen.set (hu : u < 14) (h : GateOpen d u) (j : Nat) :
    GateOpen (((d.setBit Reg.CLK_GATE_EN j).setBit Reg.CLK_GATE_ST_RUN j).clearBit Reg.CLK_GATE_ST_PEND j) u := by
  obtain ⟨hen, hrun, hpend⟩ := h
  refine ⟨?_, ?_, Dev.testBit_clearBit_of Reg.CLK_GATE_ST_PEND hu ?_⟩
  · rw [Dev.rd_clearBit_ne _ _ (by decide), Dev.rd_setBit_ne _ _ (by decide)]
    exact Dev.testBit_setBit_of Reg.CLK_GATE_EN hu hen
  · rw [Dev.rd_clearBit_ne _ _ (by decide)]
    refine Dev.testBit_setBit_of Reg.CLK_GATE_ST_RUN hu ?_
    rw [Dev.rd_setBit_ne _ _ (by decide), hrun]
  · rw [Dev.rd_setBit_ne _ _ (by decide), Dev.rd_setBit_ne _ _ (by decide), hpend]

/-- Clearing the enable of another unit, refused or accepted, shuts no gate. -/
theorem GateOpen.shutOther (hu : u < 14) (h : GateOpen d u) (hne : u ≠ j) :
    GateOpen (((d.autoWake j).clearBit Reg.CLK_GATE_EN j).setBit Reg.CLK_GATE_ST_PEND j) u := by
  obtain ⟨hen, hrun, hpend⟩ := h.autoWake hu j
  refine ⟨?_, ?_, ?_⟩
  · rw [Dev.rd_setBit_ne _ _ (by decide), Dev.testBit_clearBit_ne _ Reg.CLK_GATE_EN hu hne, hen]
  · rw [Dev.rd_setBit_ne _ _ (by decide), Dev.rd_clearBit_ne _ _ (by decide), hrun]
  · rw [Dev.testBit_setBit_ne _ Reg.CLK_GATE_ST_PEND hu hne, Dev.rd_clearBit_ne _ _ (by decide), hpend]

theorem GateOpen.refusedClear (h : GateOpen d u) : GateOpen (d.setErr Reg.CLK_ERR_GATE_REFUSED) u := by
  obtain ⟨hen, hrun, hpend⟩ := h
  refine ⟨?_, ?_, ?_⟩
  · rw [Dev.rd_setErr_ne _ _ _ _ _ _ _ _ _ _ _ (by decide), hen]
  · rw [Dev.rd_setErr_ne _ _ _ _ _ _ _ _ _ _ _ (by decide), hrun]
  · rw [Dev.rd_setErr_ne _ _ _ _ _ _ _ _ _ _ _ (by decide), hpend]

theorem Dev.autoWake_fuse (d : Dev) (j : Nat) : (d.autoWake j).fuse = d.fuse := (d.autoWake_leaves j).units.fuse

theorem Dev.gateBit_fuse (d : Dev) (val j : Nat) : (d.gateBit val j).fuse = d.fuse := by
  unfold Dev.gateBit
  dsimp only
  split
  · split
    · rfl
    · exact Dev.autoWake_fuse _ _
  · split
    · rfl
    · split
      · rfl
      · exact Dev.autoWake_fuse _ _

/-- The bit of the unit itself, written 1, opens its gate. -/
theorem Dev.gateBit_opens {val : Nat} (hu : u < 14) (hbit : val.testBit u = true)
    (hhas : (d.isAB && (u == 2 || u == 3)) = false) : GateOpen (d.gateBit val u) u := by
  unfold Dev.gateBit
  dsimp only
  rw [if_pos hbit, if_neg (by rw [hhas]; exact Bool.false_ne_true)]
  refine GateOpen.autoWake hu ⟨?_, ?_, Dev.testBit_clearBit_same _ Reg.CLK_GATE_ST_PEND⟩ u
  · rw [Dev.rd_clearBit_ne _ _ (by decide), Dev.rd_setBit_ne _ _ (by decide)]
    exact Dev.testBit_setBit_same _ Reg.CLK_GATE_EN hu
  · rw [Dev.rd_clearBit_ne _ _ (by decide)]
    exact Dev.testBit_setBit_same _ Reg.CLK_GATE_ST_RUN hu

/-- No bit of a write that keeps the unit's enable at 1 shuts its gate. -/
theorem GateOpen.gateBit {val : Nat} (hu : u < 14) (hbit : val.testBit u = true) (h : GateOpen d u) (j : Nat) :
    GateOpen (d.gateBit val j) u := by
  unfold Dev.gateBit
  dsimp only
  split
  · split
    · exact h
    · exact (h.set hu j).autoWake hu j
  · next hj =>
    have hne : u ≠ j := fun e => hj (e ▸ hbit)
    split
    · exact h
    · split
      · exact h.refusedClear
      · exact h.shutOther hu hne

theorem GateOpen.gateBits {val : Nat} (hu : u < 14) (hbit : val.testBit u = true) (l : List Nat) (h : GateOpen d u) :
    GateOpen (l.foldl (fun d j => d.gateBit val j) d) u := by
  induction l generalizing d with
  | nil => exact h
  | cons j t ih => exact ih (h.gateBit hu hbit j)

theorem Dev.gateBits_open {val : Nat} (hu : u < 14) (hbit : val.testBit u = true)
    (hhas : (d.isAB && (u == 2 || u == 3)) = false) {l : List Nat} (hl : u ∈ l) :
    GateOpen (l.foldl (fun d j => d.gateBit val j) d) u := by
  induction l generalizing d with
  | nil => cases hl
  | cons j t ih =>
    rw [List.foldl_cons]
    by_cases e : u = j
    · subst e
      exact (Dev.gateBit_opens hu hbit hhas).gateBits hu hbit t
    · refine ih ?_ ((List.mem_cons.1 hl).resolve_left e)
      rw [Dev.isAB, Dev.gateBit_fuse]
      exact hhas

end

def clkGateReg : RegDef := ⟨"CLK_GATE", 0x10008, 0x0, 1, 0x0, 1, [⟨0, 14, .rw, [16383], false⟩]⟩

theorem regAt_clkGate : regAt 0x10008 = some (clkGateReg, 0, 0) := by decide +kernel

/-- A write of CLK_GATE is the rule of its enables alone: the register takes no field from it (R355). -/
theorem Dev.hostWrite_clkGate (d : Dev) (r : Recorder) (val : Nat) : d.hostWrite r 0x10008 val = d.gateWrite val := by
  have hfields : d.hostFields r 0x10008 val = (d, true) :=
    Dev.hostFields_ungated regAt_clkGate rfl (by simp [Dev.fusedOff]) rfl (by decide) (by decide)
  rw [Dev.hostWrite, hfields, if_pos rfl, Dev.action, if_pos rfl]

section
variable {s : State}

theorem clkGateWrite_opens {val : Word} {u : Fin 14} (hbit : val.toNat.testBit u.val = true)
    (hhas : (s.dev.isAB && (u.val == 2 || u.val == 3)) = false) : After (.clkGateWrite val) s fun t =>
      (t.dev.rd Reg.CLK_GATE_EN).testBit u.val = true ∧ (t.dev.rd Reg.CLK_GATE_ST_RUN).testBit u.val = true ∧
        (t.dev.rd Reg.CLK_GATE_ST_PEND).testBit u.val = false := by
  refine ⟨_, rfl, ?_⟩
  dsimp only
  rw [Dev.hostWrite_clkGate, State.settle_rd _ _ _ _ _ (by decide), State.settle_rd _ _ _ _ _ (by decide),
    State.settle_rd _ _ _ _ _ (by decide)]
  exact Dev.gateBits_open (d := s.fresh) u.isLt hbit hhas (List.mem_range.2 u.isLt)

theorem gateClosure_stops {u : Fin 14} (h : (s.dev.rd Reg.CLK_GATE_ST_PEND).testBit u.val = true) :
    After (.gateClosure u) s fun t => (t.dev.rd Reg.CLK_GATE_ST_PEND).testBit u.val = false ∧
      (t.dev.rd Reg.CLK_GATE_ST_RUN).testBit u.val = false := by
  have hp : (s.fresh.rd Reg.CLK_GATE_ST_PEND).testBit u.val = true := h
  refine ⟨_, rfl, ?_⟩
  dsimp only
  rw [if_pos hp, State.settle_rd _ _ _ _ _ (by decide), State.settle_rd _ _ _ _ _ (by decide),
    Dev.rd_clearBit_ne _ _ (by decide), Dev.testBit_clearBit_same, Dev.testBit_clearBit_same]
  exact ⟨rfl, rfl⟩

theorem gateTimeout_sets {u : Fin 14} (h : (s.dev.rd Reg.CLK_GATE_ST_PEND).testBit u.val = true) :
    After (.gateTimeout u) s fun t => t.dev.flag Reg.CLK_ERR_GATE_TIMEOUT = true ∧
      (t.dev.rd Reg.CLK_GATE_ST_PEND).testBit u.val = true := by
  have hp : (s.fresh.rd Reg.CLK_GATE_ST_PEND).testBit u.val = true := h
  refine ⟨_, rfl, ?_⟩
  dsimp only
  rw [if_pos hp, State.settle_flag _ _ _ _ _ (by decide), State.settle_rd _ _ _ _ _ (by decide),
    Dev.flag_setErr_same _ rfl, Dev.rd_setErr_ne _ _ _ _ _ _ _ _ _ _ _ (by decide)]
  exact ⟨rfl, hp⟩

/-! ### Automatic gating (R357) -/

theorem autoGateIdle_stops {u : Fin 14} (hauto : (s.dev.rd Reg.CLK_AUTO_EN).testBit u.val = true)
    (hen : (s.dev.rd Reg.CLK_GATE_EN).testBit u.val = true) (hidle : s.dev.unitBusy u.val = false)
    (hmotion : s.dev.servesMotion u.val = false) (hclass : s.dev.runsClassH u.val = false) :
    After (.autoGateIdle u) s fun t => (t.dev.rd Reg.CLK_GATE_ST_RUN).testBit u.val = false ∧
      t.dev.clk.autoOff.getLsbD u.val = true := by
  have hstops : ((s.fresh.rd Reg.CLK_AUTO_EN).testBit u.val && (s.fresh.rd Reg.CLK_GATE_EN).testBit u.val &&
      !s.fresh.unitBusy u.val && !s.fresh.servesMotion u.val && !s.fresh.runsClassH u.val) = true := by
    have hauto' : (s.fresh.rd Reg.CLK_AUTO_EN).testBit u.val = true := hauto
    have hen' : (s.fresh.rd Reg.CLK_GATE_EN).testBit u.val = true := hen
    have hidle' : s.fresh.unitBusy u.val = false := hidle
    have hmotion' : s.fresh.servesMotion u.val = false := hmotion
    have hclass' : s.fresh.runsClassH u.val = false := hclass
    rw [hauto', hen', hidle', hmotion', hclass']
    rfl
  refine ⟨_, rfl, ?_⟩
  dsimp only
  rw [if_pos hstops, State.settle_rd _ _ _ _ _ (by decide), State.settle_clk]
  refine ⟨s.fresh.testBit_clearBit_same Reg.CLK_GATE_ST_RUN, ?_⟩
  simp

theorem autoGateWake_restarts {u : Fin 14} (h : s.dev.clk.autoOff.getLsbD u.val = true) :
    After (.autoGateWake u) s fun t => (t.dev.rd Reg.CLK_GATE_ST_RUN).testBit u.val = true ∧
      t.dev.clk.autoOff.getLsbD u.val = false := by
  have hoff : s.fresh.clk.autoOff.getLsbD u.val = true := h
  refine ⟨_, rfl, ?_⟩
  dsimp only
  rw [Dev.autoWake, if_pos hoff, State.settle_rd _ _ _ _ _ (by decide), State.settle_clk]
  refine ⟨s.fresh.testBit_setBit_same Reg.CLK_GATE_ST_RUN u.isLt, ?_⟩
  simp

end

/-! ### CLKOUT (R358, R598) -/

def clkOutReg : RegDef :=
  ⟨"CLK_OUT", 0x10014, 0x0, 1, 0x0, 1, [⟨0, 1, .rw, [0], false⟩, ⟨1, 3, .rw, [0], false⟩, ⟨4, 8, .rw, [0], false⟩]⟩

theorem regAt_clkOut : regAt 0x10014 = some (clkOutReg, 0, 0) := by decide +kernel

section
variable (d : Dev) (r : Recorder) (val : Nat)

theorem Dev.hostFields_clkOut : (d.hostFields r 0x10014 val).1.rd Reg.CLK_OUT_EN = val % 2 ∧
    (d.hostFields r 0x10014 val).1.rd Reg.CLK_OUT_SEL = val / 2 % 8 ∧
    (d.hostFields r 0x10014 val).1.rd Reg.CLK_OUT_DIV = val / 16 % 256 := by
  have taken {f : RField} (hf : f ∈ clkOutReg.fields) (hs : d.shown r (keyOf clkOutReg f 0 0) = none)
      (hr : refused (keyOf clkOutReg f 0 0) (val / 2 ^ f.lo % 2 ^ f.w) val = false)
      (hen : keyOf clkOutReg f 0 0 ≠ Reg.CLK_GATE_EN.key 0 0 := by decide)
      (hring : keyOf clkOutReg f 0 0 ∉ ringKeys := by decide)
      (hacc : f.acc ≠ .rwl := by decide) :=
    Dev.stored_hostFields (val := val) regAt_clkOut rfl (by simp [Dev.fusedOff]) rfl (by decide) (by decide) hf hs hr hen hring
      hacc
  exact ⟨(taken (f := ⟨0, 1, .rw, [0], false⟩) (by decide) rfl rfl).trans (by simp [Safety.written]),
    taken (f := ⟨1, 3, .rw, [0], false⟩) (by decide) rfl rfl, taken (f := ⟨4, 8, .rw, [0], false⟩) (by decide) rfl rfl⟩

theorem Dev.hostFields_clkOut_safe : (d.hostFields r 0x10014 val).1.safe = d.safe :=
  (d.hostFields_leaves r val rfl (by decide)).regs.flag Reg.CLK_STATUS_SAFE 0 0 (by decide) (by decide)

theorem Dev.hostWrite_clkOut : d.hostWrite r 0x10014 val = (d.hostFields r 0x10014 val).1.clkOut := by
  rw [Dev.hostWrite_ungated regAt_clkOut rfl (by simp [Dev.fusedOff]) rfl (by decide) (by decide), Dev.action,
    if_neg (by decide), if_pos rfl]

end

section
variable {s : State}

theorem clkOutWrite_drives (val : Word) : After (.clkOutWrite val) s fun t => t.dev.rd Reg.CLK_OUT_EN = val.toNat % 2 ∧
    t.dev.rd Reg.CLK_OUT_SEL = val.toNat / 2 % 8 ∧ t.dev.rd Reg.CLK_OUT_DIV = val.toNat / 16 % 256 ∧ t.dev.clk.clkout =
      (val.toNat % 2 == 1 && decide (clkOutKhz (val.toNat / 2 % 8) ≤ 200000 * (val.toNat / 16 % 256 + 1)) &&
      (!s.dev.safe || val.toNat / 2 % 8 == 5)) := by
  obtain ⟨hen, hsel, hdiv⟩ := s.fresh.hostFields_clkOut s.evr val.toNat
  have hsafe : (s.fresh.hostFields s.evr 0x10014 val.toNat).1.safe = s.dev.safe := s.fresh.hostFields_clkOut_safe s.evr val.toNat
  refine ⟨_, rfl, ?_⟩
  dsimp only
  rw [Dev.hostWrite_clkOut, State.settle_rd _ _ _ _ _ (by decide), State.settle_rd _ _ _ _ _ (by decide),
    State.settle_rd _ _ _ _ _ (by decide), State.settle_clk]
  refine ⟨hen, hsel, hdiv, ?_⟩
  have hflag : (s.fresh.hostFields s.evr 0x10014 val.toNat).1.flag Reg.CLK_OUT_EN = (val.toNat % 2 == 1) := by
    rw [Dev.flag, hen]
    rcases Nat.mod_two_eq_zero_or_one val.toNat with h | h <;> rw [h] <;> rfl
  unfold Dev.clkOut
  dsimp only
  rw [hflag, hsel, hdiv, hsafe]

/-! ### The sensed supply (R604) -/

theorem Dev.salRecover_none {d : Dev} (h : d.sal.scan = none) : d.salRecover = d := by
  rw [Dev.salRecover, h]

theorem clkMonWrite_senses (val : Word) (mv : Nat) (h : s.dev.sal.scan = none) : After (.clkMonWrite val mv) s fun t =>
    t.dev.clk.vddqMv = mv ∧ t.dev.clk.onfOk = (decide (900 < mv) == t.dev.flag Reg.CLK_MON_ONF_RATE) := by
  have hscan : ((s.fresh.hostFields s.evr 0x10020 val.toNat).1.sense mv).sal.scan = none :=
    (congrArg Sal.scan (s.fresh.hostFields_leaves s.evr (off := 0x10020) val.toNat rfl (by decide)).units.sal).trans h
  refine ⟨_, rfl, ?_⟩
  dsimp only
  rw [Dev.monWritten, Dev.salRecover_none hscan, State.settle_clk, State.settle_flag _ _ _ _ _ (by decide)]
  exact ⟨rfl, rfl⟩

end

end Sys2Proof.Machine

namespace Sys2Proof

open Sys2Proof.Machine Sys2Proof.Safety

set_option Elab.async false

/-- Settles O7, one lemma per clause: the enables, the closure, automatic gating, CLKOUT and the sensed supply. -/
theorem clockGatingAndOutput : Obligations.ClockGatingAndOutput :=
  ⟨fun _ _ _ hbit hhas => clkGateWrite_opens hbit hhas, fun _ _ h => gateClosure_stops h, fun _ _ h => gateTimeout_sets h,
    fun _ _ hauto hen hidle hmotion hclass => autoGateIdle_stops hauto hen hidle hmotion hclass,
    fun _ _ h => autoGateWake_restarts h, fun _ val => clkOutWrite_drives val, fun _ val mv h => clkMonWrite_senses val mv h⟩

end Sys2Proof

/-! O6. The software reset and its key (R379). -/

namespace Sys2Proof.Machine

open Sys2Proof Sys2Proof.Safety

set_option Elab.async false

def clkRstReg : RegDef := ⟨"CLK_RST", 0x10018, 0x0, 1, 0x0, 1, [⟨0, 8, .rw, [0], false⟩, ⟨8, 1, .w1s, [0], false⟩]⟩

theorem regAt_clkRst : regAt 0x10018 = some (clkRstReg, 0, 0) := by decide +kernel

section
variable (d : Dev) (r : Recorder) {val : Nat}

theorem Dev.hostWrite_clkRst : d.hostWrite r 0x10018 val = (d.hostFields r 0x10018 val).1.softReset := by
  rw [Dev.hostWrite_ungated regAt_clkRst rfl (by simp [Dev.fusedOff]) rfl (by decide) (by decide), Dev.action,
    if_neg (by decide), if_neg (by decide), if_pos rfl]

theorem refused_swReset (h : val / 2 ^ 8 % 2 ^ 1 = 1) :
    refused (Reg.CLK_RST_SW_RESET.key 0 0) (val / 2 ^ 8 % 2 ^ 1) val = (val % 256 != 0xC5) := by
  rw [h, refused, show (Reg.CLK_RST_SW_RESET.key 0 0 == Reg.LCS_CFG_TAMPER_ACTION.key 0 0) = false by decide,
    show (Reg.CLK_RST_SW_RESET.key 0 0 == Reg.TG_BOOT_MARCH.key 0 0) = false by decide,
    show ((List.range 16).any fun p => Reg.CLK_RST_SW_RESET.key 0 0 == Reg.SOR_CFG_TEST.key p 0) = false by decide]
  simp

/-- SW_RESET written 1 with the key is taken. -/
theorem Dev.hostFields_keyed (hset : val / 2 ^ 8 % 2 ^ 1 = 1) (hkey : val % 256 = 0xC5) :
    (d.hostFields r 0x10018 val).1.flag Reg.CLK_RST_SW_RESET = true := by
  have taken := Dev.stored_hostFields (d := d) (r := r) (val := val) (f := ⟨8, 1, .w1s, [0], false⟩) regAt_clkRst rfl
    (by simp [Dev.fusedOff]) rfl (by decide) (by decide) (by decide) rfl
    ((refused_swReset hset).trans (by rw [hkey]; rfl)) (by decide) (by decide) (by decide)
  have hrd : (d.hostFields r 0x10018 val).1.rd Reg.CLK_RST_SW_RESET = d.rd Reg.CLK_RST_SW_RESET ||| 1 :=
    taken.trans (congrArg (d.rd Reg.CLK_RST_SW_RESET ||| ·) hset)
  have hne : d.rd Reg.CLK_RST_SW_RESET ||| 1 ≠ 0 := fun h => absurd (Nat.or_eq_zero_iff.1 h).2 Nat.one_ne_zero
  rw [Dev.flag, hrd]
  exact bne_iff_ne.2 hne

/-- Without the key the write leaves KEY, and a record of the SW_RESET that was discarded. -/
theorem Dev.hostFields_keyless (hset : val / 2 ^ 8 % 2 ^ 1 = 1) (hkey : val % 256 ≠ 0xC5) :
    (d.hostFields r 0x10018 val).1 = (d.wr Reg.CLK_RST_KEY val).discarded 0x10018 val := by
  have hrefused : refused (Reg.CLK_RST_SW_RESET.key 0 0) (val / 2 ^ 8 % 2 ^ 1) val = true :=
    (refused_swReset hset).trans (bne_iff_ne.2 hkey)
  have hkeyField : d.writeField r clkRstReg 0 0 val ⟨0, 8, .rw, [0], false⟩ = (d.wr Reg.CLK_RST_KEY val, false) := by
    rw [Dev.writeField]
    dsimp only
    rw [if_neg (ne_of_beq_false rfl), if_neg (ne_of_beq_false rfl), Nat.pow_zero, Nat.div_one]
    rfl
  have hresetField (e : Dev) : e.writeField r clkRstReg 0 0 val ⟨8, 1, .w1s, [0], false⟩ = (e, true) := if_pos hrefused
  have hfields : d.writeFields r clkRstReg 0 0 val clkRstReg.fields = (d.wr Reg.CLK_RST_KEY val, true) := by
    rw [show clkRstReg.fields = [⟨0, 8, .rw, [0], false⟩, ⟨8, 1, .w1s, [0], false⟩] from rfl, Dev.writeFields, hkeyField,
      Dev.writeFields, hresetField]
    rfl
  rw [Dev.hostFields_ungated regAt_clkRst rfl (by simp [Dev.fusedOff]) rfl (by decide) (by decide), hfields]
  rfl

end

section
variable {s : State} {val : Word}

/-- The write of the row carries SW_RESET, and the key of its value. -/
theorem swReset_word (val : Word) :
    (val ||| 0x100).toNat / 2 ^ 8 % 2 ^ 1 = 1 ∧ (val ||| 0x100).toNat % 256 = val.toNat % 256 := by
  rw [BitVec.toNat_or]
  refine ⟨?_, ?_⟩
  · rw [Nat.or_div_two_pow, Nat.pow_one]
    exact Nat.or_mod_two_eq_one.2 (.inr rfl)
  · rw [show (256 : Nat) = 2 ^ 8 from rfl, Nat.or_mod_two_pow]
    exact Nat.or_zero _

theorem swReset_resets (hkey : val.toNat % 256 = 0xC5) : After (.swReset val) s fun t => t.dev.rd Reg.TG_RST_CAUSE_CAUSE = 5 ∧
    t.dev.sal.progs = [] ∧ t.dev.spins = [] ∧ t.dev.servos = [] ∧ t.dev.burns = [] := by
  obtain ⟨hset, hlow⟩ := swReset_word val
  have hdrop := Dev.restart_dropped (s.fresh.hostFields s.evr 0x10018 (val ||| 0x100).toNat).1 5
  refine ⟨_, rfl, ?_⟩
  dsimp only
  rw [Dev.hostWrite_clkRst, Dev.softReset, if_pos (s.fresh.hostFields_keyed s.evr hset (hlow.trans hkey)),
    State.settle_rd _ _ _ _ _ (by decide), Dev.restart_cause, State.settle_sal, State.settle_spins, State.settle_servos,
    State.settle_burns]
  exact ⟨rfl, hdrop.progs, hdrop.spins, hdrop.servos, hdrop.burns⟩

theorem swReset_keyless (hkey : val.toNat % 256 ≠ 0xC5) (hsw : s.dev.flag Reg.CLK_RST_SW_RESET = false) :
    After (.swReset val) s fun t => SameUnits s.dev t.dev ∧ SameRegs [Reg.CLK_RST_KEY.key 0 0] s.dev t.dev ∧
      t.dev.rd Reg.CLK_RST_KEY = val.toNat % 256 := by
  obtain ⟨hset, hlow⟩ := swReset_word val
  have hwr : s.fresh.hostWrite s.evr 0x10018 (val ||| 0x100).toNat =
      (s.fresh.wr Reg.CLK_RST_KEY (val ||| 0x100).toNat).discarded 0x10018 (val ||| 0x100).toNat := by
    rw [Dev.hostWrite_clkRst, s.fresh.hostFields_keyless s.evr hset (hlow ▸ hkey), Dev.softReset, if_neg]
    rw [Dev.flag_congr ((Dev.discarded_calm _ _ _).rd _ _ _ (by decide)), Dev.flag_wr_ne _ _ _ _ _ _ _ _ (by decide)]
    exact fun h => Bool.false_ne_true (hsw.symm.trans h)
  have hleaves : Leaves [Reg.CLK_RST_KEY.key 0 0] s.dev (s.fresh.hostWrite s.evr 0x10018 (val ||| 0x100).toNat) := by
    rw [hwr]
    exact (Leaves.fresh _ s).trans ((Leaves.wr _ _ _ _ _).trans (.of_calm _ (Dev.discarded_calm _ _ _)))
  refine ⟨_, rfl, hleaves.settle.units, hleaves.settle.regs, ?_⟩
  dsimp only
  rw [State.settle_rd _ _ _ _ _ (by decide), hwr, (Dev.discarded_calm _ _ _).rd _ _ _ (by decide), Dev.rd_wr_same]
  exact hlow

end

end Sys2Proof.Machine

namespace Sys2Proof

open Sys2Proof.Machine Sys2Proof.Safety

set_option Elab.async false

/-- Settles O6: with the key SW_RESET is set and the reset follows; without it the write leaves KEY and a record. -/
theorem softwareResetNeedsItsKey : Obligations.SoftwareResetNeedsItsKey :=
  ⟨fun _ _ hkey => swReset_resets hkey, fun _ _ hkey hsw => swReset_keyless hkey hsw⟩

end Sys2Proof

/-! O14. Steps 7 and 8 of start-up: the mainband, the image that runs, and the admin queue. -/

namespace Sys2Proof.Machine

open Sys2Proof Sys2Proof.Safety

set_option Elab.async false

/-! ### The registers that the offer of an image changes -/

section
variable (d : Dev)

theorem Dev.setErr_sameRegs (f : Fld) : SameRegs [f.key 0 0] d (d.setErr f) := .wr d f _ 0 0

theorem Dev.setBoot_sameRegs (f : Fld) (v : Nat) : SameRegs [f.key 0 0] d (d.setBoot f v) :=
  (SameRegs.wr d f v 0 0).trans (.of_fv _ (d.setBoot_fv f v))

/-- The registers that show which image runs, and that the boot ROM serves in place of one. -/
def imageKeys : List Nat := [Reg.GLB_FW_VER_VER.key 0 0, Reg.HIF_BOOT_IMAGE.key 0 0, Reg.HIF_BOOT_STEP.key 0 0,
  Reg.HIF_BOOT_ROM.key 0 0, Reg.QUE_STATUS_AQ_READY.key 0 0]

theorem Dev.runImage_sameRegs (h : FwHeader) (image : Nat) : SameRegs imageKeys d (d.runImage h image) := by
  have running : SameRegs imageKeys d { d with mgmt := { d.mgmt with running := some h } } := .of_fv _ rfl
  have version := (SameRegs.wr { d with mgmt := { d.mgmt with running := some h } } Reg.GLB_FW_VER_VER h.version.toNat 0 0).mono
    (ls := imageKeys) (by decide)
  have source (e : Dev) := (e.setBoot_sameRegs Reg.HIF_BOOT_IMAGE image).mono (ls := imageKeys) (by decide)
  have step (e : Dev) := (e.setBoot_sameRegs Reg.HIF_BOOT_STEP 7).mono (ls := imageKeys) (by decide)
  exact ((running.trans version).trans (source _)).trans (step _)

/-- The boot ROM stays and serves the admin queue (R382). -/
theorem Dev.rom_sameRegs : SameRegs imageKeys d ((d.wr Reg.QUE_STATUS_AQ_READY 1).setBoot Reg.HIF_BOOT_ROM 1) :=
  ((SameRegs.wr d Reg.QUE_STATUS_AQ_READY 1 0 0).mono (by decide)).trans ((Dev.setBoot_sameRegs _ _ _).mono (by decide))

theorem Dev.recoveryImage_sameRegs : SameRegs imageKeys d d.recoveryImage := by
  have mgmt (m : Mgmt) : SameRegs imageKeys d { d with mgmt := m } := .of_fv _ rfl
  unfold Dev.recoveryImage
  dsimp only
  split
  · exact (mgmt _).trans (Dev.rom_sameRegs _)
  · split
    · exact (mgmt _).trans (Dev.runImage_sameRegs _ _ _)
    · split
      · exact (mgmt _).trans (Dev.runImage_sameRegs _ _ _)
      · split
        · exact (mgmt _).trans (Dev.runImage_sameRegs _ _ _)
        · exact (mgmt _).trans (Dev.rom_sameRegs _)

def rejectKeys : List Nat := [Reg.LCS_ERR_FW_REJECT.key 0 0, Reg.LCS_ERR_ROLLBACK.key 0 0]

/-- A rejected image is marked, and one that is too old as such. -/
theorem Dev.rejectImage_fv (slot : Nat) (h : Option FwHeader) :
    (d.rejectImage slot h).fv = (d.setErr Reg.LCS_ERR_FW_REJECT).fv ∨
    (d.rejectImage slot h).fv = ((d.setErr Reg.LCS_ERR_FW_REJECT).setErr Reg.LCS_ERR_ROLLBACK).fv := by
  cases h with
  | none => exact .inl rfl
  | some h =>
    unfold Dev.rejectImage
    dsimp only
    split
    · exact .inr rfl
    · exact .inl rfl

theorem Dev.rejectImage_sameRegs (slot : Nat) (h : Option FwHeader) : SameRegs rejectKeys d (d.rejectImage slot h) := by
  have marked := (d.setErr_sameRegs Reg.LCS_ERR_FW_REJECT).mono (ls := rejectKeys) (by decide)
  rcases d.rejectImage_fv slot h with e | e
  · exact marked.trans (.of_fv _ e)
  · exact (marked.trans ((Dev.setErr_sameRegs _ _).mono (by decide))).trans (.of_fv _ e)

theorem Dev.rejectImage_flag (slot : Nat) (h : Option FwHeader) : (d.rejectImage slot h).flag Reg.LCS_ERR_FW_REJECT = true := by
  have marked : (d.setErr Reg.LCS_ERR_FW_REJECT).flag Reg.LCS_ERR_FW_REJECT = true := d.flag_setErr_same rfl _ _ _ _ _
  rcases d.rejectImage_fv slot h with e | e
  · exact (Dev.flag_congr (Dev.rd_of_fv e _ _ _)).trans marked
  · rw [Dev.flag_congr (Dev.rd_of_fv e _ _ _), Dev.flag_setErr_ne _ _ _ _ _ _ _ _ _ _ _ (by decide), marked]

def offerKeys : List Nat := Reg.HIF_FW_CTL_GO.key 0 0 :: Reg.HIF_FW_CTL_STATUS.key 0 0 :: (rejectKeys ++ imageKeys)

theorem Dev.fwGo_sameRegs : SameRegs offerKeys d d.fwGo := by
  have taken := (SameRegs.wr d Reg.HIF_FW_CTL_GO 0 0 0).mono (ls := offerKeys) (by decide)
  have status (v : Nat) := taken.trans ((SameRegs.wr (d.wr Reg.HIF_FW_CTL_GO 0) Reg.HIF_FW_CTL_STATUS v 0 0).mono (by decide))
  unfold Dev.fwGo
  split
  · exact .of_fv _ rfl
  · dsimp only
    split
    · exact taken
    · split
      · exact ((status 3).trans ((Dev.rejectImage_sameRegs _ _ _).mono (by decide))).trans
          ((Dev.recoveryImage_sameRegs _).mono (by decide))
      · exact status 1

/-! ### Which image runs (R381, R586, R588) -/

variable {d}

theorem Dev.runImage_running (h : FwHeader) (image : Nat) : (d.runImage h image).mgmt.running = some h := by
  rw [Dev.runImage, Dev.setBoot_mgmt, Dev.setBoot_mgmt]
  rfl

theorem Dev.runImage_step (h : FwHeader) (image : Nat) : (d.runImage h image).bootStep = 7 :=
  Dev.rd_setBoot_same _ _ _

theorem Dev.runImage_image (h : FwHeader) (image : Nat) : (d.runImage h image).rd Reg.HIF_BOOT_IMAGE = image % 4 := by
  rw [Dev.runImage, Dev.rd_setBoot_ne _ _ _ _ _ _ (by decide), Dev.rd_setBoot_same]
  rfl

theorem Dev.runImage_version (h : FwHeader) (image : Nat) :
    (d.runImage h image).rd Reg.GLB_FW_VER_VER = h.version.toNat := by
  rw [Dev.runImage, Dev.rd_setBoot_ne _ _ _ _ _ _ (by decide), Dev.rd_setBoot_ne _ _ _ _ _ _ (by decide), Dev.rd_wr_same]
  exact Nat.mod_eq_of_lt h.version.isLt

/-- A good image in the slot that is active next is the one that runs. -/
theorem Dev.recoveryImage_active {x : FwSlot} {h : FwHeader} (honf : d.clk.onfOk = true)
    (hslot : d.mgmt.slots[d.mgmt.nextActive]? = some x) (hvalid : x.valid = true) (hhead : x.header = some h)
    (hok : d.imageOk h = true) :
    d.recoveryImage = ({ d with mgmt := { d.mgmt with active := d.mgmt.nextActive } } : Dev).runImage h 2 := by
  have hgood : (if x.valid = true then x.header.filter
      ({ d with mgmt := { d.mgmt with active := d.mgmt.nextActive } } : Dev).imageOk else none) = some h := by
    rw [if_pos hvalid, hhead]
    exact Option.filter_some_pos hok
  unfold Dev.recoveryImage
  dsimp only
  rw [if_neg (by rw [honf]; exact Bool.false_ne_true), List.getD_eq_getElem?_getD, hslot, Option.getD_some, hgood]

/-- With no image in any slot the boot ROM stays. -/
theorem Dev.recoveryImage_empty (hslots : d.mgmt.slots = [FwSlot.empty, FwSlot.empty]) (hrec : d.mgmt.recovery = FwSlot.empty) :
    d.recoveryImage = (({ d with mgmt := { d.mgmt with active := d.mgmt.nextActive } } : Dev).wr
      Reg.QUE_STATUS_AQ_READY 1).setBoot Reg.HIF_BOOT_ROM 1 := by
  have hslot (i : Nat) : ¬(d.mgmt.slots.getD i FwSlot.empty).valid = true := by
    rw [hslots]
    match i with
    | 0 | 1 | _ + 2 => exact Bool.false_ne_true
  have hlast : ¬d.mgmt.recovery.valid = true := by
    rw [hrec]
    exact Bool.false_ne_true
  unfold Dev.recoveryImage
  dsimp only
  rw [if_neg (hslot _), if_neg (hslot _), if_neg hlast, ite_self]

end

/-! ### The rows -/

section
variable {s : State}

/-- The mainband shown as it trained (R418). -/
def Dev.linkShown (d : Dev) (rate width rep : Nat) : Dev :=
  (((d.wr Reg.HIF_STATUS_LINK_UP 1).wr Reg.HIF_STATUS_RATE rate).wr Reg.HIF_STATUS_WIDTH width).wr Reg.HIF_STATUS_REPAIRED rep

section
variable (d : Dev) (rate width rep : Nat)

theorem Dev.linkShown_up : (d.linkShown rate width rep).flag Reg.HIF_STATUS_LINK_UP = true := by
  rw [Dev.linkShown, Dev.flag_wr_ne _ _ _ _ _ _ _ _ (by decide), Dev.flag_wr_ne _ _ _ _ _ _ _ _ (by decide),
    Dev.flag_wr_ne _ _ _ _ _ _ _ _ (by decide), Dev.flag_wr_same]
  rfl

theorem Dev.linkShown_rate : (d.linkShown rate width rep).rd Reg.HIF_STATUS_RATE = rate % 4 := by
  rw [Dev.linkShown, Dev.rd_wr_ne _ _ _ _ _ _ _ _ (by decide), Dev.rd_wr_ne _ _ _ _ _ _ _ _ (by decide), Dev.rd_wr_same]
  rfl

theorem Dev.linkShown_width : (d.linkShown rate width rep).flag Reg.HIF_STATUS_WIDTH = (width % 2 != 0) := by
  rw [Dev.linkShown, Dev.flag_wr_ne _ _ _ _ _ _ _ _ (by decide), Dev.flag_wr_same]
  rfl

theorem Dev.linkShown_repaired : (d.linkShown rate width rep).flag Reg.HIF_STATUS_REPAIRED = (rep % 2 != 0) := by
  rw [Dev.linkShown, Dev.flag_wr_same]
  rfl

end

section
variable {rate : Fin 2} {rep : Bool} (hstep : s.dev.atStep 6 = true) (htrip : s.dev.clk.tripped = false)
  (hdown : s.dev.flag Reg.HIF_STATUS_LINK_UP = false)

include hstep htrip hdown

/-- In step 7 a link that was down is shown up; a fetch that waited for it may start then. -/
theorem mainbandTrained_taken {x32 : Bool} {post : State → Prop}
    (hpost : ∀ e, e = s.fresh.linkShown (min rate.val (s.dev.rd Reg.HIF_CFG_MAX_RATE) + 1) (if x32 then 1 else 0)
      (if rep then 1 else 0) → post (s.settle (if x32 then e.hifErr Reg.HIF_ERR_WIDTH_DEGRADED else e).fwGo)) :
    After (.mainbandTrained rate x32 rep) s post := by
  have hpow : s.fresh.powered = true := by
    simp only [Dev.atStep, Bool.and_eq_true] at hstep
    exact hstep.1.1.1
  have hstep' : s.fresh.atStep 6 = true := hstep
  have htrip' : s.fresh.clk.tripped = false := htrip
  have hdown' : s.fresh.flag Reg.HIF_STATUS_LINK_UP = false := hdown
  refine ⟨_, rfl, ?_⟩
  dsimp only
  rw [hpow, htrip', hdown', hstep', if_neg (by simp)]
  exact hpost _ rfl

theorem mainbandTrained_full : After (.mainbandTrained rate false rep) s fun t => t.dev.flag Reg.HIF_STATUS_LINK_UP = true ∧
    t.dev.rd Reg.HIF_STATUS_RATE = min rate.val (s.dev.rd Reg.HIF_CFG_MAX_RATE) + 1 ∧
      t.dev.flag Reg.HIF_STATUS_WIDTH = false ∧ t.dev.flag Reg.HIF_STATUS_REPAIRED = rep := by
  refine mainbandTrained_taken hstep htrip hdown fun e he => ?_
  have hgo := e.fwGo_sameRegs
  rw [if_neg Bool.false_ne_true, State.settle_flag _ _ _ _ _ (by decide), State.settle_rd _ _ _ _ _ (by decide),
    State.settle_flag _ _ _ _ _ (by decide), State.settle_flag _ _ _ _ _ (by decide), hgo.flag _ _ _ (by decide) (by decide),
    hgo.rd _ _ _ (by decide) (by decide), hgo.flag _ _ _ (by decide) (by decide), hgo.flag _ _ _ (by decide) (by decide), he,
    Dev.linkShown_up, Dev.linkShown_rate, Dev.linkShown_width, Dev.linkShown_repaired]
  refine ⟨rfl, Nat.mod_eq_of_lt (by omega), rfl, ?_⟩
  cases rep <;> rfl

theorem mainbandTrained_half : After (.mainbandTrained rate true rep) s fun t => t.dev.flag Reg.HIF_STATUS_LINK_UP = true ∧
    t.dev.flag Reg.HIF_STATUS_WIDTH = true ∧ t.dev.flag Reg.HIF_ERR_WIDTH_DEGRADED = true := by
  refine mainbandTrained_taken hstep htrip hdown fun e he => ?_
  have hgo := (e.hifErr Reg.HIF_ERR_WIDTH_DEGRADED).fwGo_sameRegs
  rw [if_pos rfl, State.settle_flag _ _ _ _ _ (by decide), State.settle_flag _ _ _ _ _ (by decide),
    State.settle_flag _ _ _ _ _ (by decide), hgo.flag _ _ _ (by decide) (by decide), hgo.flag _ _ _ (by decide) (by decide),
    hgo.flag _ _ _ (by decide) (by decide), Dev.hifErr, Dev.flag_setErr_ne _ _ _ _ _ _ _ _ _ _ _ (by decide),
    Dev.flag_setErr_ne _ _ _ _ _ _ _ _ _ _ _ (by decide), Dev.flag_setErr_same _ rfl, he, Dev.linkShown_up,
    Dev.linkShown_width]
  exact ⟨rfl, rfl, rfl⟩

end

theorem firmwareFetchDone_runs {h : FwHeader} (hstep : s.dev.atStep 6 = true) (hfetch : s.dev.rd Reg.HIF_FW_CTL_STATUS = 1)
    (hok : s.dev.imageOk h = true) : After (.firmwareFetchDone (some h)) s fun t => t.dev.rd Reg.HIF_FW_CTL_STATUS = 2 ∧
      t.dev.rd Reg.HIF_BOOT_IMAGE = 1 ∧ t.dev.bootStep = 7 ∧ t.dev.rd Reg.GLB_FW_VER_VER = h.version.toNat ∧
      t.dev.mgmt.running = some h := by
  have hstep' : s.fresh.atStep 6 = true := hstep
  have hfetch' : s.fresh.rd Reg.HIF_FW_CTL_STATUS = 1 := hfetch
  have hok' : s.fresh.imageOk h = true := hok
  refine ⟨_, rfl, ?_⟩
  dsimp only
  rw [if_neg (by simp [hstep', hfetch']), if_pos hok', Dev.bootStep, State.settle_rd _ _ _ _ _ (by decide),
    State.settle_rd _ _ _ _ _ (by decide), State.settle_rd _ _ _ _ _ (by decide), State.settle_rd _ _ _ _ _ (by decide),
    State.settle_mgmt, (Dev.runImage_sameRegs _ _ _).rd Reg.HIF_FW_CTL_STATUS 0 0 (by decide) (by decide), Dev.rd_wr_same]
  exact ⟨rfl, Dev.runImage_image h 1, Dev.runImage_step h 1, Dev.runImage_version h 1, Dev.runImage_running h 1⟩

theorem firmwareFetchDone_rejects {h : FwHeader} (hstep : s.dev.atStep 6 = true) (hfetch : s.dev.rd Reg.HIF_FW_CTL_STATUS = 1)
    (hbad : s.dev.imageOk h = false) : After (.firmwareFetchDone (some h)) s fun t => t.dev.rd Reg.HIF_FW_CTL_STATUS = 3 ∧
      t.dev.flag Reg.LCS_ERR_FW_REJECT = true := by
  have hstep' : s.fresh.atStep 6 = true := hstep
  have hfetch' : s.fresh.rd Reg.HIF_FW_CTL_STATUS = 1 := hfetch
  have hbad' : s.fresh.imageOk h = false := hbad
  refine ⟨_, rfl, ?_⟩
  dsimp only
  rw [if_neg (by simp [hstep', hfetch']), if_neg (by rw [hbad']; exact Bool.false_ne_true),
    State.settle_rd _ _ _ _ _ (by decide), State.settle_flag _ _ _ _ _ (by decide),
    (Dev.recoveryImage_sameRegs _).rd Reg.HIF_FW_CTL_STATUS 0 0 (by decide) (by decide),
    (Dev.rejectImage_sameRegs _ _ _).rd Reg.HIF_FW_CTL_STATUS 0 0 (by decide) (by decide), Dev.rd_wr_same,
    (Dev.recoveryImage_sameRegs _).flag Reg.LCS_ERR_FW_REJECT 0 0 (by decide) (by decide), Dev.rejectImage_flag]
  exact ⟨rfl, rfl⟩

section
variable (hstep : s.dev.atStep 6 = true) (hup : s.dev.flag Reg.HIF_STATUS_LINK_UP = true)
  (hnone : s.dev.rd Reg.HIF_FW_CTL_STATUS = 0) (hrom : s.dev.flag Reg.HIF_BOOT_ROM = false)
  (hgo : s.dev.flag Reg.HIF_FW_CTL_GO = false)

include hstep hup hnone hrom hgo

/-- With no image offered the recovery image is loaded. -/
theorem firmwareOfferTimeout_taken {post : State → Prop} (hpost : post (s.settle s.fresh.recoveryImage)) :
    After .firmwareOfferTimeout s post := by
  have hcond : (s.fresh.atStep 6 && s.fresh.flag Reg.HIF_STATUS_LINK_UP && s.fresh.rd Reg.HIF_FW_CTL_STATUS == 0 &&
      !s.fresh.flag Reg.HIF_FW_CTL_GO && !s.fresh.flag Reg.HIF_BOOT_ROM) = true := by
    have hstep' : s.fresh.atStep 6 = true := hstep
    have hup' : s.fresh.flag Reg.HIF_STATUS_LINK_UP = true := hup
    have hnone' : s.fresh.rd Reg.HIF_FW_CTL_STATUS = 0 := hnone
    have hrom' : s.fresh.flag Reg.HIF_BOOT_ROM = false := hrom
    have hgo' : s.fresh.flag Reg.HIF_FW_CTL_GO = false := hgo
    rw [hstep', hup', hnone', hrom', hgo']
    rfl
  refine ⟨_, rfl, ?_⟩
  dsimp only
  rw [if_pos hcond]
  exact hpost

theorem firmwareOfferTimeout_runs {x : FwSlot} {h : FwHeader} (honf : s.dev.clk.onfOk = true)
    (hslot : s.dev.mgmt.slots[s.dev.mgmt.nextActive]? = some x) (hvalid : x.valid = true) (hhead : x.header = some h)
    (hok : s.dev.imageOk h = true) : After .firmwareOfferTimeout s fun t => t.dev.bootStep = 7 ∧
      t.dev.rd Reg.HIF_BOOT_IMAGE = 2 ∧ t.dev.mgmt.running = some h := by
  refine firmwareOfferTimeout_taken hstep hup hnone hrom hgo ?_
  rw [Dev.recoveryImage_active (d := s.fresh) honf hslot hvalid hhead hok, Dev.bootStep, State.settle_rd _ _ _ _ _ (by decide),
    State.settle_rd _ _ _ _ _ (by decide), State.settle_mgmt]
  exact ⟨Dev.runImage_step h 2, Dev.runImage_image h 2, Dev.runImage_running h 2⟩

theorem firmwareOfferTimeout_staysInRom (hslots : s.dev.mgmt.slots = [FwSlot.empty, FwSlot.empty])
    (hrec : s.dev.mgmt.recovery = FwSlot.empty) : After .firmwareOfferTimeout s fun t => t.dev.flag Reg.HIF_BOOT_ROM = true ∧
      t.dev.flag Reg.QUE_STATUS_AQ_READY = true ∧ t.dev.bootStep = 6 := by
  have hsix : s.dev.bootStep = 6 := by
    simp only [Dev.atStep, Bool.and_eq_true, beq_iff_eq] at hstep
    exact hstep.1.2
  refine firmwareOfferTimeout_taken hstep hup hnone hrom hgo ?_
  rw [Dev.recoveryImage_empty (d := s.fresh) hslots hrec, Dev.bootStep, State.settle_rd _ _ _ _ _ (by decide),
    State.settle_flag _ _ _ _ _ (by decide), State.settle_flag _ _ _ _ _ (by decide), Dev.flag_setBoot_same,
    Dev.flag_setBoot_ne _ _ _ _ _ _ (by decide), Dev.flag_wr_same, Dev.rd_setBoot_ne _ _ _ _ _ _ (by decide),
    Dev.rd_wr_ne _ _ _ _ _ _ _ _ (by decide)]
  exact ⟨rfl, rfl, hsix⟩

end

theorem firmwareInitDone_ready (rd : SalternScan) (hstep : s.dev.atStep 7 = true) : After (.firmwareInitDone rd) s fun t =>
    t.dev.flag Reg.QUE_STATUS_AQ_READY = true := by
  have hstep' : s.fresh.atStep 7 = true := hstep
  refine ⟨_, rfl, ?_⟩
  dsimp only
  rw [if_pos hstep', State.settle_flag _ _ _ _ _ (by decide)]
  exact Dev.flag_wr_same _ _ _ _ _

end

end Sys2Proof.Machine

namespace Sys2Proof

open Sys2Proof.Machine Sys2Proof.Safety

set_option Elab.async false

/-- Settles O14, one lemma per clause: the link, the image offered, the image of the slot, the boot ROM, and step 8. -/
theorem firmwareComesToRun : Obligations.FirmwareComesToRun :=
  ⟨fun _ _ _ hstep htrip hdown => mainbandTrained_full hstep htrip hdown,
    fun _ _ _ hstep htrip hdown => mainbandTrained_half hstep htrip hdown,
    fun _ _ hstep hfetch hok => firmwareFetchDone_runs hstep hfetch hok,
    fun _ _ hstep hfetch hbad => firmwareFetchDone_rejects hstep hfetch hbad,
    fun _ _ _ hstep hup hnone hrom hgo honf hslot hvalid hhead hok =>
      firmwareOfferTimeout_runs hstep hup hnone hrom hgo honf hslot hvalid hhead hok,
    fun _ hstep hup hnone hrom hgo hslots hrec _ => firmwareOfferTimeout_staysInRom hstep hup hnone hrom hgo hslots hrec,
    fun _ rd hstep => firmwareInitDone_ready rd hstep⟩

end Sys2Proof

/-! SUPPORT. A conversion of no way (R410), and an ALLOC mask wider than its field. -/

namespace Sys2Proof.Machine

open Sys2Proof Sys2Proof.Safety

/-- With no way converted before, a conversion of no way gives none back and leaves ALLOC (R410). -/
theorem Dev.wayAlloc_convertDone_none {d : Dev} (c : Nat) (hnone : d.rd Reg.BRC_WAY_ST_SCRATCH = 0) :
    (d.convertDone c 0).rd Reg.BRC_WAY_ALLOC = d.rd Reg.BRC_WAY_ALLOC := by
  have hback : (List.range 16).filter (fun w => (d.rd Reg.BRC_WAY_ST_SCRATCH).testBit w && !Nat.testBit 0 w) = [] := by
    simp [hnone]
  unfold Dev.convertDone
  simp only [List.range_zero, List.map_nil, List.all_nil, if_true, List.foldl_nil, hback]
  rw [(Calm.complete _ c St.success 0).rd _ _ _ (Fld.calm_key (by decide) _ _), Dev.rd_wr_ne _ _ _ _ _ _ _ _ (by decide)]
  rfl

/-- SET FEATURE CACHE that converts no way, with no way converted before, leaves ALLOC (R410). -/
theorem cacheConvert_none_keepsAlloc {s : State} {c : Nat} {k : Ctx} (h : startable s.dev c k { b := [40, 41, 42] } = true)
    (hmine : isCache 3 k.e = true) (hways : k.e.at 42 = 0) (hnone : s.dev.rd Reg.BRC_WAY_ST_SCRATCH = 0)
    (hclk : s.dev.clocked 13 = true) :
    After (.cacheConvert c) s fun t => t.dev.rd Reg.BRC_WAY_ALLOC = s.dev.rd Reg.BRC_WAY_ALLOC := by
  have hclk : s.fresh.clocked 13 = true := hclk
  have hcalm : Calm s.fresh ((s.fresh.await c .run).await c .hlmBack) := (Calm.await _ c .run).trans (Calm.await _ c .hlmBack)
  have hnone : ((s.fresh.await c .run).await c .hlmBack).rd Reg.BRC_WAY_ST_SCRATCH = 0 :=
    (hcalm.rd _ _ _ (Fld.calm_key (by decide) _ _)).trans hnone
  refine ⟨_, rfl, ?_⟩
  dsimp only
  rw [if_pos hclk, State.fresh_served h hmine, State.settle_rd _ _ _ _ _ (by decide), hways, if_neg (by decide)]
  exact (Dev.wayAlloc_convertDone_none c hnone).trans (hcalm.rd _ _ _ (Fld.calm_key (by decide) _ _))

/-! ### An ALLOC that holds 65,536 -/

/-- SET FEATURE CACHE: convert no way. -/
def convertNone : Sqe :=
  { opcode := 0x09, flags := 0, cid := 7, volume := 0, rsv := 0, lba := 0, count := 0, xflags := 0, data := 0, sealPtr := 0,
    b := [4, 3] ++ List.replicate 22 0 }

/-- The context of that command, just fetched. -/
def convertNoneCtx : Ctx :=
  { sq := 0, slot := 0, e := convertNone, wait := .fresh, mute := false, buf := [], seals := [], todo := [], acc0 := 0,
    acc1 := 0, got := [], stop := none, st := 0, after := [], order := 0 }

/-- An empty cache with 65,536 in the sixteen bits of BRC_WAY.ALLOC: a state that the statement admits, though no write of the
field leaves it (`Dev.wr` cuts the value to the width). -/
def wideAlloc : State :=
  let d := [(Reg.HIF_BOOT_STEP, 8), (Reg.CLK_STATUS_SAFE, 0), (Reg.LCS_STATUS_STATE, 2)].foldl
    (fun d (e : Fld × Nat) => d.wr e.1 e.2) Dev.reset
  { State.reset with dev := { d with
      fv := (Reg.BRC_WAY_ALLOC.key 0 0, 65536) :: d.fv
      que := { Que.reset with ctxs := [(0, some convertNoneCtx)] } } }

theorem wideAlloc_startable :
    startable wideAlloc.dev 0 convertNoneCtx { b := [40, 41, 42] } = true ∧ wideAlloc.dev.clocked 13 = true := by
  refine ⟨?_, ?_⟩ <;> decide +kernel

theorem wideAlloc_ways : wideAlloc.dev.rd Reg.BRC_WAY_ALLOC = 65536 ∧ wideAlloc.dev.rd Reg.BRC_WAY_ST_SCRATCH = 0 := by
  refine ⟨?_, ?_⟩ <;> decide +kernel

end Sys2Proof.Machine

namespace Sys2Proof

open Machine

/-- Refutes O32: the last clause has ALLOC below `2 ^ (16 - n)` after a conversion of `n` ways, and a conversion of none writes
no mask, so that in a state whose 16-bit ALLOC holds 65,536 that value stays (R410). -/
theorem not_memoriesAndCache : ¬ Obligations.MemoriesAndCache := by
  rintro ⟨-, -, -, -, -, -, -, hconvert⟩
  obtain ⟨hrun, hclk⟩ := wideAlloc_startable
  obtain ⟨halloc, hnone⟩ := wideAlloc_ways
  obtain ⟨t, ht, -, hleft, -⟩ := hconvert wideAlloc 0 convertNoneCtx hrun (by decide) (by decide) rfl rfl hclk
  obtain ⟨u, hu, hkept⟩ := cacheConvert_none_keepsAlloc hrun (by decide) (by decide) hnone hclk
  rw [ht, Host.Outcome.next.injEq] at hu
  rw [← hu, halloc] at hkept
  rw [hkept] at hleft
  exact absurd hleft (by decide)

end Sys2Proof

/-! O56. The twenty queue, feature and query commands: each ends in a next state, and changes no unit. -/

namespace Sys2Proof

/-- A byte of an entry is below 256. -/
theorem Sqe.at_lt (e : Sqe) (i : Nat) : e.at i < 256 := (e.b.getD (i - 40) 0).isLt

end Sys2Proof

namespace Sys2Proof.Safety

open Sys2Proof.Machine

/-- A command row that reads the recorder ends in a next state, and changes what its meaning does. -/
theorem Ends.runR {us : List DevPart} {ks : List Nat} {s : State} {f : Recorder → Dev → Dev}
    (h : Changes us ks s.fresh (f s.evr s.fresh)) : Ends us ks s (s.runR f) :=
  ⟨_, s.runR_next f, ((Changes.of_leaves (.fresh ks s)).trans h).trans (.of_calm (s.settle_calm _))⟩

end Sys2Proof.Safety

namespace Sys2Proof.Machine

open Sys2Proof Sys2Proof.Safety

set_option Elab.async false

section
variable {us : List DevPart} {ks : List Nat} (d : Dev) (c : Nat)

/-! ### What the commands share -/

theorem Dev.drawBytes_changes (n : Nat) : Changes us ks d (d.drawBytes n).2 :=
  .of_leaves ⟨by constructor <;> rfl, .of_fv ks rfl⟩

theorem Dev.draw_changes (w : Nat) : Changes us ks d (d.draw w).2 := .of_leaves ⟨by constructor <;> rfl, .of_fv ks rfl⟩

theorem Dev.que_changes (x : Que) : Changes us ks d { d with que := x } := .of_leaves ⟨by constructor <;> rfl, .of_fv ks rfl⟩

theorem Dev.mmu_changes (x : Mmu) : Changes us ks d { d with mmu := x } := .of_leaves ⟨by constructor <;> rfl, .of_fv ks rfl⟩

theorem Dev.reapBufs_calm : Calm d d.reapBufs := by
  refine .foldl _ (fun d x => ?_) _ d
  split
  · split
    · refine iteInduction (fun _ => (Calm.dropX d _).trans (.complete _ _ _ _)) fun _ => .refl d
    · exact .dropX d _
  · exact .refl d

theorem Dev.replyNow_changes (l : List Byte) (r : Nat) : Changes us ks d (d.replyNow c l r) :=
  .of_calm ((Calm.reply d c l r).trans (Dev.reapBufs_calm _))

/-! ### Queues (R465 to R471) -/

/-- The end of a command after a change of what the queues hold. -/
theorem Dev.queComplete_changes {e : Dev} (h : Calm d e) (st r : Nat) : Changes us ks d (e.complete c st r) :=
  .of_calm (h.trans (.complete e c st r))

theorem Dev.createCq_changes (e : Sqe) : Changes us ks d (d.createCq c e) := by
  have ends (st : Nat) : Changes us ks d ((d.draw 16).2.complete c st) :=
    (d.draw_changes 16).trans (Dev.complete_changes _ c st 0)
  have made (n : Nat) (q : Cq) : Changes us ks d (((d.draw 16).2.setCq n (some q)).complete c St.success) :=
    (d.draw_changes 16).trans (Dev.queComplete_changes _ c (.setCq _ _ _) _ _)
  unfold Dev.createCq
  dsimp only
  refine iteInduction (fun _ => ends _) fun _ => ?_
  refine iteInduction (fun _ => ends _) fun _ => ?_
  refine iteInduction (fun _ => ends _) fun _ => ?_
  refine iteInduction (fun _ => ends _) fun _ => ?_
  exact iteInduction (fun _ => ends _) fun _ => made _ _

theorem Dev.createSq_changes (e : Sqe) : Changes us ks d (d.createSq c e) := by
  have ends (st : Nat) : Changes us ks d (d.complete c st) := d.complete_changes c st 0
  unfold Dev.createSq
  dsimp only
  refine iteInduction (fun _ => ends _) fun _ => ?_
  refine iteInduction (fun _ => ends _) fun _ => ?_
  refine iteInduction (fun _ => ends _) fun _ => ?_
  refine iteInduction (fun _ => ends _) fun _ => ?_
  refine iteInduction (fun _ => ends _) fun _ => ?_
  exact d.queComplete_changes c ((Calm.setSq d _ _).trans (.mirror _ _)) _ _

theorem Dev.enableSq_changes (n index : Nat) : Changes us ks d (d.enableSq c n index) := by
  have ends (st : Nat) : Changes us ks d (d.complete c st) := d.complete_changes c st 0
  unfold Dev.enableSq
  split
  · refine iteInduction (fun _ => ends _) fun _ => ?_
    refine iteInduction (fun _ => ends _) fun _ => ?_
    refine iteInduction (fun _ => ends _) fun _ => ?_
    exact (d.que_changes _).trans (Dev.queComplete_changes _ c ((Calm.setSq _ _ _).trans (.mirror _ _)) _ _)
  · exact ends _

theorem Dev.enableCq_changes (n : Nat) : Changes us ks d (d.enableCq c n) := by
  have ends (st : Nat) : Changes us ks d (d.complete c st) := d.complete_changes c st 0
  unfold Dev.enableCq
  split
  · exact iteInduction (fun _ => ends _) fun _ => d.queComplete_changes c (.setCq _ _ _) _ _
  · exact ends _

theorem Dev.getFeature_calm (r : Recorder) (e : Sqe) : Calm d (d.getFeature r c e) := by
  have ends (st v : Nat) : Calm d (d.complete c st v) := .complete d c st v
  have ok (b : Bool) (v : Nat) : Calm d (if b then d.complete c St.success v else d.complete c St.invalidField) :=
    iteInduction (fun _ => ends _ _) fun _ => ends _ _
  unfold Dev.getFeature
  dsimp only
  split
  · exact ok _ _
  · exact iteInduction (fun _ => ends _ _) fun _ => ok _ _
  · exact ok _ _
  · exact ok _ _
  · exact ok _ _
  · exact ok _ _
  · split
    · exact ok _ _
    · exact ends _ _
  · exact ok _ _
  · exact ends _ _

end

section
variable (s : State) (c : Nat)

/-! ### SET FEATURE and GET FEATURE (Table 13-12) -/

theorem setFeaturePoll_ends : Ends [] [Reg.QUE_POLL_INTERVAL.key 0 0] s (execSetFeaturePoll c s) := by
  refine .run (.command _ c fun d k _ => ?_)
  dsimp only
  split
  · exact d.complete_changes _ _ _
  · exact (Changes.wr d _ _ 0 0 (by simp)).trans (Dev.complete_changes _ _ _ _)

theorem setFeatureCoalesce_ends : Ends [] [] s (execSetFeatureCoalesce c s) := by
  refine .run (.command _ c fun d k _ => ?_)
  dsimp only
  split
  · exact d.complete_changes _ _ _
  · split
    · exact d.complete_changes _ _ _
    · exact d.queComplete_changes c (.setCq _ _ _) _ _

theorem setFeatureArbitration_ends : Ends [] [] s (execSetFeatureArbitration c s) := by
  refine .run (.command _ c fun d k _ => ?_)
  dsimp only
  split
  · exact d.complete_changes _ _ _
  · exact (d.que_changes _).trans (Dev.complete_changes _ _ _ _)

theorem setFeatureEventFilter_ends : Ends [] [] s (execSetFeatureEventFilter c s) := by
  refine .run (.command _ c fun d k _ => ?_)
  split
  · exact d.complete_changes _ _ _
  · exact d.queComplete_changes c (.emit _ _) _ _

theorem setFeatureInvalidate_ends : Ends [] [Reg.MMU_CNT_INV_COUNT.key 0 0] s (execSetFeatureInvalidate c s) := by
  refine .run (.command _ c fun d k _ => ?_)
  dsimp only
  split
  · exact d.complete_changes _ _ _
  · split
    · exact ((d.mmu_changes _).trans (.wr _ Reg.MMU_CNT_INV_COUNT _ 0 0 (by simp))).trans (Dev.complete_changes _ _ _ _)
    · exact (d.mmu_changes _).trans (.of_calm (.await _ _ _))

/-- The root entries of the address spaces 1 to 255. -/
def rootKeys : List Nat := (List.range 255).flatMap fun a =>
  [Reg.MMU_AS_ROOT_LO_VALID.key a 0, Reg.MMU_AS_ROOT_LO_ADDR.key a 0, Reg.MMU_AS_ROOT_HI_ADDR.key a 0]

theorem rootEntry_changes {us : List DevPart} (d : Dev) {a : Nat} (ha : a < 255) (valid lo hi : Nat) :
    Changes us rootKeys d (((d.wr Reg.MMU_AS_ROOT_LO_VALID valid a).wr Reg.MMU_AS_ROOT_LO_ADDR lo a).wr
      Reg.MMU_AS_ROOT_HI_ADDR hi a) := by
  have key {f : Fld} (hf : f.key a 0 ∈ [Reg.MMU_AS_ROOT_LO_VALID.key a 0, Reg.MMU_AS_ROOT_LO_ADDR.key a 0,
      Reg.MMU_AS_ROOT_HI_ADDR.key a 0]) : f.key a 0 ∈ rootKeys := List.mem_flatMap.2 ⟨a, List.mem_range.2 ha, hf⟩
  exact ((Changes.wr d _ _ _ _ (key (by simp))).trans (.wr _ _ _ _ _ (key (by simp)))).trans (.wr _ _ _ _ _ (key (by simp)))

theorem setFeatureAsidRoot_ends : Ends [] rootKeys s (execSetFeatureAsidRoot c s) := by
  refine .run (.command _ c fun d k _ => ?_)
  dsimp only
  refine iteInduction (fun _ => d.complete_changes _ _ _) fun hfield => ?_
  refine iteInduction (fun _ => d.complete_changes _ _ _) fun _ => ?_
  have ha : k.e.at 41 - 1 < 255 := by
    have hlt := Sqe.at_lt k.e 41
    have hpos : k.e.at 41 ≠ 0 := fun e => hfield (by simp [e])
    omega
  exact (rootEntry_changes d ha _ _ _).trans (Dev.complete_changes _ _ _ _)

theorem getFeature_ends : Ends [] [] s (execGetFeature c s) :=
  Ends.runR (.command _ c fun d k _ => .of_calm (d.getFeature_calm c s.evr k.e))

/-! ### The commands of queues -/

theorem getQueueState_ends : Ends [] [] s (execGetQueueState c s) := by
  refine .run (.command _ c fun d k _ => ?_)
  dsimp only
  split
  · split <;> exact d.complete_changes _ _ _
  · split
    · split <;> exact d.complete_changes _ _ _
    · exact d.complete_changes _ _ _

theorem createQueue_ends : Ends [] [] s (execCreateQueue c s) := by
  refine .run (.command _ c fun d k _ => ?_)
  split
  · exact d.createSq_changes c k.e
  · split
    · exact d.createCq_changes c k.e
    · exact d.complete_changes _ _ _

theorem deleteQueue_ends : Ends [] [] s (execDeleteQueue c s) := by
  refine .run (.command _ c fun d k _ => ?_)
  have ends (st : Nat) : Changes [] [] d (d.complete c st) := d.complete_changes c st 0
  dsimp only
  split
  · split
    · split
      · exact ends _
      · split
        · exact d.queComplete_changes c (.setSq _ _ _) _ _
        · exact ends _
    · exact ends _
  · split
    · split
      · exact ends _
      · split
        · exact ends _
        · exact (d.mmu_changes _).trans (Dev.queComplete_changes _ c (.setCq _ _ _) _ _)
    · exact ends _

theorem enableQueue_ends : Ends [] [] s (execEnableQueue c s) := by
  refine .run (.command _ c fun d k _ => ?_)
  dsimp only
  split
  · exact d.enableSq_changes c _ _
  · split
    · exact d.enableCq_changes c _
    · exact d.complete_changes _ _ _

/-! ### Queries -/

theorem progress_ends : Ends [] [] s (execProgress c s) := by
  refine .run (.command _ c fun d k _ => ?_)
  dsimp only
  split
  · exact d.replyNow_changes c _ _
  · split
    · exact d.complete_changes _ _ _
    · split <;> exact d.complete_changes _ _ _

theorem identify_ends : Ends [] [] s (execIdentify c s) := by
  refine .run (.command _ c fun d k _ => ?_)
  dsimp only
  refine iteInduction (fun _ => d.complete_changes _ _ _) fun _ => ?_
  refine iteInduction (fun _ => d.complete_changes _ _ _) fun _ => ?_
  refine iteInduction (fun _ => d.complete_changes _ _ _) fun _ => ?_
  exact (d.drawBytes_changes 4096).trans (Dev.replyNow_changes _ c _ _)

theorem diagnosticSnapshot_ends : Ends [] [Reg.CLK_GATE_ST_RUN.key 0 0] s (execDiagnosticSnapshot c s) := by
  refine Ends.runR (.command _ c fun d k _ => ?_)
  split
  · exact d.complete_changes _ _ _
  · exact (Changes.foldl _ (fun d i _ => .of_leaves (d.wakeAt_leaves _)) d).trans (Dev.replyNow_changes _ c _ _)

theorem recorderRead_ends : Ends [] [] s (execRecorderRead c s) :=
  Ends.runR (.command _ c fun d _ _ => d.replyNow_changes c _ _)

theorem recorderChallenge_ends : Ends [] [] s (execRecorderChallenge c s) := by
  have code (d : Dev) (o : Option (List Byte)) (msg : List Byte) : Changes [] [] d
      (match o with | some key => (codeOf key msg, d) | none => d.drawBytes 16).2 := by
    cases o with
    | some key => exact .refl _ _ d
    | none => exact d.drawBytes_changes 16
  have free (d : Dev) (b : Bool) : Changes [] [] d (if b then d.drawBytes 12 else ([], d)).2 := by
    cases b with
    | true => exact d.drawBytes_changes 12
    | false => exact .refl _ _ d
  refine Ends.runR (.command _ c fun d k _ => ?_)
  exact ((free d _).trans (code _ _ _)).trans (Dev.replyNow_changes _ c _ _)

theorem setStateQuery_ends : Ends [] [Reg.CLK_GATE_ST_RUN.key 0 0] s (execSetStateQuery c s) := by
  refine .runUnit fun d _ => .command d c fun d k _ => ?_
  unfold Dev.setStateServe
  dsimp only
  split <;> exact d.complete_changes _ _ _

theorem sparePoolList_ends : Ends [] [Reg.CLK_GATE_ST_RUN.key 0 0] s (execSparePoolList c s) :=
  .runUnit fun d _ => .command d c fun d _ _ => d.replyNow_changes c _ _

/-! ### Host-lent memory and the masks of the cache -/

theorem Dev.lend_changes {us : List DevPart} (d : Dev) (e : Sqe) :
    Changes us [Reg.SAL_IDX_SIZE_LOG2.key 0 0] d (d.lend c e) := by
  unfold Dev.lend
  dsimp only
  refine iteInduction (fun _ => d.complete_changes _ _ _) fun _ => ?_
  refine iteInduction (fun _ => d.complete_changes _ _ _) fun _ => ?_
  refine iteInduction (fun _ => d.complete_changes _ _ _) fun _ => ?_
  exact ((d.mmu_changes _).trans (.wr _ _ _ 0 0 (by simp))).trans (Dev.complete_changes _ _ _ _)

theorem lendMemory_ends : Ends [] [Reg.SAL_IDX_SIZE_LOG2.key 0 0] s (execLendMemory c s) :=
  .run (.command _ c fun d k _ => d.lend_changes c k.e)

theorem cacheMasks_ends : Ends []
    [Reg.CLK_GATE_ST_RUN.key 0 0, Reg.BRC_WAY_ALLOC.key 0 0, Reg.BRC_WAY_LOCK.key 0 0] s (execCacheMasks c s) := by
  refine .runUnit fun d _ => .command d c fun d k _ => ?_
  dsimp only
  split
  · exact d.complete_changes _ _ _
  · exact ((Changes.wr d _ _ 0 0 (by simp)).trans (.wr _ _ _ 0 0 (by simp))).trans (Dev.complete_changes _ _ _ _)

end

end Sys2Proof.Machine

namespace Sys2Proof

open Sys2Proof.Machine Sys2Proof.Safety

set_option Elab.async false

/-- Settles O56: each command's meaning is followed once, and of the units it changes none. -/
theorem queueAndFeatureCommandsFrame : Obligations.QueueAndFeatureCommandsFrame :=
  ⟨fun s c => (setFeaturePoll_ends s c).after_same, fun s c => (setFeatureCoalesce_ends s c).after_same,
    fun s c => (setFeatureArbitration_ends s c).after_same, fun s c => (setFeatureEventFilter_ends s c).after_same,
    fun s c => (setFeatureInvalidate_ends s c).after_same, fun s c => (setFeatureAsidRoot_ends s c).after_same,
    fun s c => (getFeature_ends s c).after_same, fun s c => (getQueueState_ends s c).after_same,
    fun s c => (createQueue_ends s c).after_same, fun s c => (deleteQueue_ends s c).after_same,
    fun s c => (enableQueue_ends s c).after_same, fun s c => (progress_ends s c).after_same,
    fun s c => (identify_ends s c).after_same, fun s c => (diagnosticSnapshot_ends s c).after_same,
    fun s c => (recorderRead_ends s c).after_same, fun s c => (recorderChallenge_ends s c).after_same,
    fun s c => (lendMemory_ends s c).after_same, fun s c => (cacheMasks_ends s c).after_same,
    fun s c => (setStateQuery_ends s c).after_same, fun s c => (sparePoolList_ends s c).after_same⟩

end Sys2Proof

/-! O5. Partial and sideband access, the set-up lock, and writes of device time. -/

namespace Sys2Proof.Machine

open Sys2Proof Sys2Proof.Safety

set_option Elab.async false

/-- Bit `n` of a word written with that bit set. -/
theorem BitVec.or_twoPow_bit (val : Word) {n : Nat} (hn : n < 32) :
    (val ||| BitVec.ofNat 32 (2 ^ n)).toNat / 2 ^ n % 2 ^ 1 = 1 := by
  have hlt : 2 ^ n < 2 ^ 32 := Nat.pow_lt_pow_right (by decide) hn
  rw [BitVec.toNat_or, BitVec.toNat_ofNat, Nat.mod_eq_of_lt hlt, Nat.or_div_two_pow, Nat.div_self (Nat.two_pow_pos n)]
  exact Nat.or_mod_two_eq_one.2 (.inr rfl)

/-! ### The registers written -/

def setupLockReg : RegDef := ⟨"GLB_SETUP_LOCK", 0x4, 0x0, 1, 0x0, 1, [⟨0, 1, .w1s, [0], false⟩]⟩

def tgCtlReg : RegDef :=
  ⟨"TG_CTL", 0x20008, 0x0, 1, 0x0, 1,
    [⟨0, 1, .w1s, [0], false⟩, ⟨1, 1, .w1s, [0], false⟩, ⟨2, 1, .rw, [0], false⟩, ⟨3, 1, .rw, [0], false⟩]⟩

def nextSecReg : RegDef := ⟨"TG_NEXT_SEC", 0x2000C, 0x0, 1, 0x0, 1, [⟨0, 32, .rw, [0], false⟩]⟩

theorem regAt_setupLock : regAt 0x4 = some (setupLockReg, 0, 0) := by decide +kernel

theorem regAt_tgCtl : regAt 0x20008 = some (tgCtlReg, 0, 0) := by decide +kernel

theorem regAt_nextSec : regAt 0x2000C = some (nextSecReg, 0, 0) := by decide +kernel

section
variable {s : State}

/-! ### Partial and sideband access (R421, R424, R617) -/

theorem partialRegisterWrite_flags {be : BitVec 4} (hbe : be ≠ 0xF#4) (off : Nat) (val : Word) :
    After (.partialRegisterWrite off be val) s fun t => t.dev.flag Reg.HIF_ERR_BAD_ACCESS = true :=
  ⟨_, exec_partialRegisterWrite hbe off val s,
    (s.settle_flag _ _ _ _ (by decide)).trans (Dev.flag_setErr_same s.fresh rfl _ _ _ _ _)⟩

theorem Dev.mem_send (d : Dev) (o : Out) : o ∈ outsOf (d.send o).out :=
  mem_outsOf.2 (List.mem_append_right _ (List.mem_singleton.2 rfl))

/-- An access ends with what it sends, when the sideband carries it. -/
theorem sidebandRegisterAccess_sends {write : Bool} {off : Nat} {val : Word} {d : Dev} {o : Out}
    (h : s.fresh.sidebandAccess s.evr write off val.toNat = d.send o) :
    After (.sidebandRegisterAccess write off val) s fun t => o ∈ t.sent :=
  ⟨_, rfl, s.mem_sent _ _ ((congrArg (fun e => o ∈ outsOf e.out) h).mpr (d.mem_send o))⟩

theorem Dev.sidebandAccess_outside {d : Dev} {off : Nat} (r : Recorder) (write : Bool) (val : Nat)
    (hup : d.flag Reg.HIF_STATUS_SB_UP = true) (hoff : sidebandReaches off = false) :
    d.sidebandAccess r write off val = d.send (.sbReply true 0) := by
  simp [Dev.sidebandAccess, hup, hoff]

theorem Dev.sidebandAccess_inside {d : Dev} {off : Nat} (r : Recorder) (write : Bool) (val : Nat)
    (hup : d.flag Reg.HIF_STATUS_SB_UP = true) (hoff : sidebandReaches off = true) (hstep : 3 ≤ d.bootStep) :
    d.sidebandAccess r write off val =
      if write then (d.hostWrite r off val).send (.sbReply false 0)
      else d.send (.sbReply false (BitVec.ofNat 32 (d.readWord r off))) := by
  have hnot : ¬ d.bootStep < 3 := Nat.not_lt.2 hstep
  simp [Dev.sidebandAccess, hup, hoff, hnot]

/-! ### The set-up lock (R426) -/

/-- A bit that is set by writing 1, written 1 to an ungated register, reads 1. -/
theorem Dev.rd_hostFields_set {d : Dev} {off val : Nat} {g : RegDef} {f : RField} (r : Recorder) (hat : regAt off = some (g, 0, 0))
    (ho : off % 4 = 0) (hfuse : d.fusedOff off = false) (hgate : gateOf off = none) (hheld : heldAt off = false)
    (hm : ¬(0x58000 ≤ off ∧ off < 0x5C000)) (hf : f ∈ g.fields) (hacc : f.acc = .w1s)
    (hs : d.shown r (keyOf g f 0 0) = none) (hr : refused (keyOf g f 0 0) (val / 2 ^ f.lo % 2 ^ f.w) val = false)
    (hen : keyOf g f 0 0 ≠ Reg.CLK_GATE_EN.key 0 0) (hring : keyOf g f 0 0 ∉ ringKeys)
    (hbit : val / 2 ^ f.lo % 2 ^ f.w = 1) :
    Safety.stored (d.hostFields r off val).1 g f 0 0 ≠ 0 := by
  rw [Dev.stored_hostFields hat ho hfuse hgate hheld hm hf hs hr hen hring (by rw [hacc]; decide), hacc, hbit]
  exact fun h => absurd (Nat.or_eq_zero_iff.1 h).2 Nat.one_ne_zero

theorem setupLock_sets (val : Word) : After (.setupLock val) s fun t => t.dev.flag Reg.GLB_SETUP_LOCK_LOCK = true := by
  have hset : (s.fresh.hostFields s.evr 0x4 (val ||| 1).toNat).1.rd Reg.GLB_SETUP_LOCK_LOCK ≠ 0 :=
    Dev.rd_hostFields_set (f := ⟨0, 1, .w1s, [0], false⟩) s.evr regAt_setupLock rfl (by simp [Dev.fusedOff]) rfl (by decide)
      (by decide) (by decide) rfl rfl rfl (by decide) (by decide) (BitVec.or_twoPow_bit val (n := 0) (by decide))
  have hwrite : s.fresh.hostWrite s.evr 0x4 (val ||| 1).toNat = (s.fresh.hostFields s.evr 0x4 (val ||| 1).toNat).1 :=
    (Dev.hostWrite_ungated regAt_setupLock rfl (by simp [Dev.fusedOff]) rfl (by decide) (by decide)).trans rfl
  refine ⟨_, rfl, (s.settle_flag _ _ _ _ (by decide)).trans ?_⟩
  dsimp only
  rw [hwrite]
  exact bne_iff_ne.2 hset

/-! ### Device time (R369 to R371) -/

theorem Dev.hostWrite_tgCtl (d : Dev) (r : Recorder) (val : Nat) :
    d.hostWrite r 0x20008 val = (d.hostFields r 0x20008 val).1.tgCtl :=
  (Dev.hostWrite_ungated regAt_tgCtl rfl (by simp [Dev.fusedOff]) rfl (by decide) (by decide)).trans rfl

theorem Dev.hostWrite_nextSec (d : Dev) (r : Recorder) (val : Nat) :
    d.hostWrite r 0x2000C val = (d.hostFields r 0x2000C val).1.armSec :=
  (Dev.hostWrite_ungated regAt_nextSec rfl (by simp [Dev.fusedOff]) rfl (by decide) (by decide)).trans rfl

theorem Dev.hostFields_snap (d : Dev) (r : Recorder) (val : Word) :
    (d.hostFields r 0x20008 (val ||| 1).toNat).1.flag Reg.TG_CTL_SNAP = true :=
  bne_iff_ne.2 (Dev.rd_hostFields_set (f := ⟨0, 1, .w1s, [0], false⟩) r regAt_tgCtl rfl (by simp [Dev.fusedOff]) rfl (by decide)
    (by decide) (by decide) rfl rfl rfl (by decide) (by decide) (BitVec.or_twoPow_bit val (n := 0) (by decide)))

theorem Dev.hostFields_load (d : Dev) (r : Recorder) (val : Word) :
    (d.hostFields r 0x20008 (val ||| 2).toNat).1.flag Reg.TG_CTL_LOAD = true :=
  bne_iff_ne.2 (Dev.rd_hostFields_set (f := ⟨1, 1, .w1s, [0], false⟩) r regAt_tgCtl rfl (by simp [Dev.fusedOff]) rfl (by decide)
    (by decide) (by decide) rfl rfl rfl (by decide) (by decide) (BitVec.or_twoPow_bit val (n := 1) (by decide)))

/-- A write of the fields of a register leaves the clocks. -/
theorem Dev.writeField_clk (d : Dev) (r : Recorder) (g : RegDef) (i j val : Nat) (f : RField) :
    (d.writeField r g i j val f).1.clk = d.clk := by
  unfold Dev.writeField
  dsimp only
  split
  · rfl
  · split
    · rfl
    · cases f.acc with
      | ro | rw | w1c | w1s => rfl
      | rwl => dsimp only; split <;> rfl

theorem Dev.writeFields_clk (d : Dev) (r : Recorder) (g : RegDef) (i j val : Nat) (l : List RField) :
    (d.writeFields r g i j val l).1.clk = d.clk := by
  induction l generalizing d with
  | nil => rfl
  | cons f t ih => exact (ih _).trans (d.writeField_clk r g i j val f)

theorem Dev.hostFields_tgCtl_now (d : Dev) (r : Recorder) (val : Nat) : (d.hostFields r 0x20008 val).1.now = d.now := by
  have hclk : (d.hostFields r 0x20008 val).1.clk = d.clk := by
    rw [Dev.hostFields_ungated regAt_tgCtl rfl (by simp [Dev.fusedOff]) rfl (by decide) (by decide)]
    exact (Dev.discardedIf_calm _ _ _ _).clk.trans (d.writeFields_clk r tgCtlReg 0 0 val tgCtlReg.fields)
  rw [Dev.now, hclk, Dev.now]

theorem Dev.hostFields_tgCtl_rd (d : Dev) (r : Recorder) (val : Nat) {f : Fld} (hk : f.key 0 0 ∉ writeKeys 0x20008)
    (hr : f.key 0 0 ∉ ringKeys) : (d.hostFields r 0x20008 val).1.rd f = d.rd f :=
  (d.hostFields_leaves r val rfl (by decide)).regs.rd f 0 0 hk hr

/-- The keys that a load of device time, or the end of synchronisation, writes. -/
def loadKeys : List Nat := [Reg.TG_STATUS_TSY_LOCK.key 0 0, Reg.TG_STATUS_TIME_VALID.key 0 0, Reg.TG_CTL_LOAD.key 0 0]

section
variable (d : Dev)

theorem Dev.tgSnap_regs :
    SameRegs [Reg.TG_SNAP_LO_TIME.key 0 0, Reg.TG_SNAP_HI_TIME.key 0 0, Reg.TG_CTL_SNAP.key 0 0] d d.tgSnap :=
  ((SameRegs.wr d Reg.TG_SNAP_LO_TIME _ 0 0).mono (by simp)).trans
    (((SameRegs.wr _ Reg.TG_SNAP_HI_TIME _ 0 0).mono (by simp)).trans ((SameRegs.wr _ Reg.TG_CTL_SNAP _ 0 0).mono (by simp)))

theorem Dev.tgLoad_regs : SameRegs loadKeys d d.tgLoad :=
  ((SameRegs.of_fv _ rfl).trans ((SameRegs.wr _ Reg.TG_STATUS_TSY_LOCK _ 0 0).mono (by simp [loadKeys]))).trans
    (((SameRegs.wr _ Reg.TG_STATUS_TIME_VALID _ 0 0).mono (by simp [loadKeys])).trans
      ((SameRegs.wr _ Reg.TG_CTL_LOAD _ 0 0).mono (by simp [loadKeys])))

theorem Dev.tgSnap_captures : d.tgSnap.rd Reg.TG_SNAP_LO_TIME = d.now.toNat % 2 ^ 32 ∧
    d.tgSnap.rd Reg.TG_SNAP_HI_TIME = d.now.toNat / 2 ^ 32 := by
  unfold Dev.tgSnap
  dsimp only
  constructor
  · rw [Dev.rd_wr_ne _ _ _ _ _ _ _ _ (by decide), Dev.rd_wr_ne _ _ _ _ _ _ _ _ (by decide), Dev.rd_wr_same]
    exact Nat.mod_mod _ _
  · rw [Dev.rd_wr_ne _ _ _ _ _ _ _ _ (by decide), Dev.rd_wr_same]
    exact Nat.mod_eq_of_lt (Nat.div_lt_of_lt_mul d.now.isLt)

theorem Dev.tgLoad_sets : d.tgLoad.flag Reg.TG_STATUS_TIME_VALID = true ∧ d.tgLoad.clk.time =
    BitVec.ofNat 80 ((d.rd Reg.TG_LOAD_LO_TIME + 2 ^ 32 * d.rd Reg.TG_LOAD_HI_TIME) * 65536) :=
  ⟨(Dev.flag_wr_ne _ _ _ _ _ _ _ _ (by decide)).trans (Dev.flag_wr_same _ _ _ _ _), rfl⟩

theorem Dev.loadNext_regs (load : Bool) : SameRegs loadKeys d (if load then d.tgLoad else d) := by
  cases load with
  | true => exact d.tgLoad_regs
  | false => exact .of_fv _ rfl

theorem Dev.unlocked_regs (locked : Bool) : SameRegs loadKeys d (if locked then d else d.wr Reg.TG_STATUS_TSY_LOCK 0) := by
  cases locked with
  | true => exact .of_fv _ rfl
  | false => exact (SameRegs.wr _ Reg.TG_STATUS_TSY_LOCK _ 0 0).mono (by simp [loadKeys])

/-- What follows the snap leaves the time that it captured. -/
theorem Dev.tgCtl_snap (h : d.flag Reg.TG_CTL_SNAP = true) : d.tgCtl.rd Reg.TG_SNAP_LO_TIME = d.now.toNat % 2 ^ 32 ∧
    d.tgCtl.rd Reg.TG_SNAP_HI_TIME = d.now.toNat / 2 ^ 32 := by
  have rest : SameRegs loadKeys d.tgSnap d.tgCtl := by
    rw [Dev.tgCtl, if_pos h]
    exact (d.tgSnap.loadNext_regs _).trans (Dev.unlocked_regs _ _)
  obtain ⟨hlo, hhi⟩ := d.tgSnap_captures
  exact ⟨(rest.rd _ 0 0 (by decide) (by decide)).trans hlo, (rest.rd _ 0 0 (by decide) (by decide)).trans hhi⟩

theorem Dev.snapFirst_regs (snap : Bool) :
    SameRegs [Reg.TG_SNAP_LO_TIME.key 0 0, Reg.TG_SNAP_HI_TIME.key 0 0, Reg.TG_CTL_SNAP.key 0 0] d
      (if snap then d.tgSnap else d) := by
  cases snap with
  | true => exact d.tgSnap_regs
  | false => exact .of_fv _ rfl

/-- The end of synchronisation after a load leaves the time loaded. -/
theorem Dev.tgLoad_sets_unlocked (locked : Bool) :
    (if locked then d.tgLoad else d.tgLoad.wr Reg.TG_STATUS_TSY_LOCK 0).flag Reg.TG_STATUS_TIME_VALID = true ∧
      (if locked then d.tgLoad else d.tgLoad.wr Reg.TG_STATUS_TSY_LOCK 0).clk.time =
        BitVec.ofNat 80 ((d.rd Reg.TG_LOAD_LO_TIME + 2 ^ 32 * d.rd Reg.TG_LOAD_HI_TIME) * 65536) := by
  obtain ⟨hvalid, htime⟩ := d.tgLoad_sets
  cases locked with
  | true => exact ⟨hvalid, htime⟩
  | false => exact ⟨(Dev.flag_wr_ne _ _ _ _ _ _ _ _ (by decide)).trans hvalid, htime⟩

/-- A snap before the load changes neither the time to load nor the request for it. -/
theorem Dev.tgCtl_load (h : d.flag Reg.TG_CTL_LOAD = true) : d.tgCtl.flag Reg.TG_STATUS_TIME_VALID = true ∧
    d.tgCtl.clk.time =
      BitVec.ofNat 80 ((d.rd Reg.TG_LOAD_LO_TIME + 2 ^ 32 * d.rd Reg.TG_LOAD_HI_TIME) * 65536) := by
  have snapped := d.snapFirst_regs (d.flag Reg.TG_CTL_SNAP)
  rw [Dev.tgCtl, if_pos ((snapped.flag _ 0 0 (by decide) (by decide)).trans h),
    ← snapped.rd Reg.TG_LOAD_LO_TIME 0 0 (by decide) (by decide), ← snapped.rd Reg.TG_LOAD_HI_TIME 0 0 (by decide) (by decide)]
  exact Dev.tgLoad_sets_unlocked _ _

end

theorem tgSnap_captures (val : Word) : After (.tgSnap val) s fun t =>
    t.dev.rd Reg.TG_SNAP_LO_TIME = s.dev.now.toNat % 2 ^ 32 ∧ t.dev.rd Reg.TG_SNAP_HI_TIME = s.dev.now.toNat / 2 ^ 32 := by
  refine ⟨_, rfl, ?_⟩
  dsimp only
  rw [Dev.hostWrite_tgCtl, State.settle_rd _ _ _ _ _ (by decide), State.settle_rd _ _ _ _ _ (by decide), ← s.fresh_now,
    ← s.fresh.hostFields_tgCtl_now s.evr (val ||| 1).toNat]
  exact Dev.tgCtl_snap _ (s.fresh.hostFields_snap s.evr val)

theorem tgLoad_sets (val : Word) : After (.tgLoad val) s fun t =>
    t.dev.clk.time =
      BitVec.ofNat 80 ((s.dev.rd Reg.TG_LOAD_LO_TIME + 2 ^ 32 * s.dev.rd Reg.TG_LOAD_HI_TIME) * 65536) ∧
    t.dev.flag Reg.TG_STATUS_TIME_VALID = true := by
  have hlo := s.fresh.hostFields_tgCtl_rd s.evr (val ||| 2).toNat (f := Reg.TG_LOAD_LO_TIME) (by decide) (by decide)
  have hhi := s.fresh.hostFields_tgCtl_rd s.evr (val ||| 2).toNat (f := Reg.TG_LOAD_HI_TIME) (by decide) (by decide)
  obtain ⟨hvalid, htime⟩ := Dev.tgCtl_load _ (s.fresh.hostFields_load s.evr val)
  refine ⟨_, rfl, ?_⟩
  dsimp only
  rw [Dev.hostWrite_tgCtl, State.settle_clk, State.settle_flag _ _ _ _ _ (by decide)]
  exact ⟨htime.trans (by rw [hlo, hhi]; rfl), hvalid⟩

theorem tgNextSecWrite_arms (val : Word) : After (.tgNextSecWrite val) s fun t =>
    t.dev.rd Reg.TG_NEXT_SEC_SEC = val.toNat ∧ t.dev.clk.secArmed = true := by
  have hsec : (s.fresh.hostFields s.evr 0x2000C val.toNat).1.rd Reg.TG_NEXT_SEC_SEC = val.toNat / 2 ^ 0 % 2 ^ 32 :=
    Dev.stored_hostFields (f := ⟨0, 32, .rw, [0], false⟩) regAt_nextSec rfl (by simp [Dev.fusedOff]) rfl (by decide)
      (by decide) (by decide) rfl rfl (by decide) (by decide) (by decide)
  refine ⟨_, rfl, ?_⟩
  dsimp only
  rw [Dev.hostWrite_nextSec, State.settle_rd _ _ _ _ _ (by decide), State.settle_clk]
  refine ⟨hsec.trans ?_, rfl⟩
  rw [Nat.pow_zero, Nat.div_one, Nat.mod_eq_of_lt val.isLt]

end

end Sys2Proof.Machine

namespace Sys2Proof

open Sys2Proof.Machine Sys2Proof.Safety

set_option Elab.async false

/-- Settles O5, one lemma per kind of access. -/
theorem registerAccessAndLocks : Obligations.RegisterAccessAndLocks :=
  ⟨fun _ off _ val hbe => partialRegisterWrite_flags hbe off val,
    fun s write _ val hup hoff => sidebandRegisterAccess_sends (s.fresh.sidebandAccess_outside s.evr write val.toNat hup hoff),
    fun s _ val hup hoff hstep =>
      sidebandRegisterAccess_sends (s.fresh.sidebandAccess_inside s.evr false val.toNat hup hoff hstep),
    fun s _ val hup hoff hstep =>
      sidebandRegisterAccess_sends (s.fresh.sidebandAccess_inside s.evr true val.toNat hup hoff hstep),
    fun _ val => setupLock_sets val, fun _ val => tgSnap_captures val, fun _ val => tgLoad_sets val,
    fun _ val => tgNextSecWrite_arms val⟩

end Sys2Proof

/-! O35. A fault that waits for a record under the identifier that a RESOLVE FAULT closes. -/

namespace Sys2Proof.Machine

open Sys2Proof Sys2Proof.Safety

set_option Elab.async false

/-- RESOLVE FAULT of fault 5 with RETRY. -/
def resolveFive : Sqe :=
  { opcode := 0x0C, flags := 0, cid := 7, volume := 0, rsv := 0, lba := 0, count := 0, xflags := 0, data := 0, sealPtr := 0,
    b := 5 :: List.replicate 23 0 }

/-- The context of that command, just fetched. -/
def resolveFiveCtx : Ctx := { convertNoneCtx with e := resolveFive }

/-- A read of 64 bytes parked on fault 5. -/
def parkedOnFive : Xfer :=
  { id := 4, what := .dataRead 64, cls := 2, write := false, asid := 0, va := 0x4000, left := 64, sq := 0, cid := 7, ctx := 64,
    st := .parked 5 }

/-- A fault with identifier 5, as it is recorded. -/
def faultFive : OpenFault :=
  { id := 5, type := 0, level := 4, write := false, cls := 2, src := 2, asid := 0, va := 0x4000, sq := 0, cid := 7, ctx := 64,
    left := 64, time := 0 }

/-- Fault 5 is open, and a fault that took the same identifier after the 16-bit count of R437 came round waits for a record. -/
def twinWaits : State :=
  let d := [(Reg.HIF_BOOT_STEP, 8), (Reg.CLK_STATUS_SAFE, 0), (Reg.LCS_STATUS_STATE, 2), (Reg.HIF_STATUS_LINK_UP, 1),
    (Reg.HIF_STATUS_BME, 1)].foldl (fun d (e : Fld × Nat) => d.wr e.1 e.2) Dev.reset
  { State.reset with dev := { d with
      que := { Que.reset with ctxs := [(9, some resolveFiveCtx), (64, some { convertNoneCtx with wait := .run, slot := 1 })] }
      mmu := { Mmu.reset with
        faults := [faultFive], spill := [{ faultFive with va := 0x9000 }], xfers := [parkedOnFive]
        tlb := [{ asid := 0, va := 0, size := 2097152, frame := 0, r := true, w := true }] } } }

/-- Whether the step of a command leaves a fault with identifier 5 open. -/
def leavesFiveOpen (i : Instr) (s : State) : Bool :=
  match exec i s with
  | .next t => t.dev.mmu.faults.any fun g => g.id == 5
  | _ => false

theorem twinWaits_startable : startable twinWaits.dev 9 resolveFiveCtx { b := [40, 41, 42, 43] } = true := by decide +kernel

theorem twinWaits_parked : twinWaits.dev.parkedOn faultFive.id = [parkedOnFive] ∧
    twinWaits.dev.mmu.xfers.find? (fun z => z.id == parkedOnFive.id) = some parkedOnFive ∧
    twinWaits.dev.heldBackX parkedOnFive = false ∧ twinWaits.dev.bme = true ∧
    twinWaits.dev.tlbHit parkedOnFive.asid parkedOnFive.va false = some 0x4000 ∧ twinWaits.dev.tagsOf parkedOnFive.cls ≤ 63 := by
  and_intros <;> decide +kernel

/-- The record that RESOLVE FAULT frees goes to the fault that waits (R437). -/
theorem twinWaits_leavesFiveOpen : leavesFiveOpen (.resolveFaultRetry 9) twinWaits = true := by decide +kernel

end Sys2Proof.Machine

namespace Sys2Proof

open Machine

/-- Refutes O35: its clause of RETRY has no fault of the identifier open afterwards, and the record freed is given at once to the
fault that waited longest, which can carry the same 16-bit identifier (R437). -/
theorem not_hostMemoryAndFaults : ¬ Obligations.HostMemoryAndFaults := by
  rintro ⟨-, -, -, hretry, -⟩
  obtain ⟨hparked, hfind, hheld, hbme, hhit, htags⟩ := twinWaits_parked
  obtain ⟨t, ht, -, -, hclosed⟩ := hretry twinWaits 9 resolveFiveCtx faultFive parkedOnFive 0x4000 twinWaits_startable (by decide)
    (by decide) (List.mem_singleton.2 rfl) (by decide) hparked hfind rfl hheld hbme rfl (by decide) hhit htags
  have hopen := twinWaits_leavesFiveOpen
  rw [leavesFiveOpen, ht, List.any_eq_true] at hopen
  obtain ⟨g, hg, hid⟩ := hopen
  exact absurd (beq_iff_eq.1 hid) (bne_iff_ne.1 (List.all_eq_true.1 hclosed g hg))

end Sys2Proof

/-! O33. The link, the sideband, and bus mastering.

What transfers, deliveries, clusters and lines of the cache do when they move on leaves the registers of the host attachment:
`HostKept` says so of each function that `Dev.moved` and `Dev.holdExpiry` reach. -/

namespace Sys2Proof.Machine

open Sys2Proof Sys2Proof.Safety

set_option Elab.async false

/-- The bit addresses of what bus mastering and the firmware fetch go by. -/
def hostKeys : List Nat := [Reg.CLK_STATUS_SAFE.key 0 0, Reg.HIF_STATUS_LINK_UP.key 0 0, Reg.HIF_STATUS_BME.key 0 0,
  Reg.HIF_BOOT_STEP.key 0 0, Reg.HIF_BOOT_ROM.key 0 0, Reg.HIF_BOOT_IMAGE.key 0 0, Reg.HIF_FW_CTL_GO.key 0 0,
  Reg.HIF_FW_CTL_STATUS.key 0 0, Reg.HIF_FW_LEN_LEN.key 0 0, Reg.HIF_FW_ADDR_LO_ADDR.key 0 0, Reg.HIF_FW_ADDR_HI_ADDR.key 0 0]

/-- The bit addresses that a change which sets no HOLD_EXPIRED leaves. -/
def heldKeys : List Nat := Reg.HIF_ERR_HOLD_EXPIRED.key 0 0 :: hostKeys

/-- From `a` to `b` the clocks and the registers of `hostKeys` stay, and a HOLD_EXPIRED that is set stays set. -/
structure HostKept (a b : Dev) : Prop where
  clk : b.clk = a.clk
  regs : ∀ k ∈ hostKeys, ∀ dflt, mget b.fv dflt k = mget a.fv dflt k
  expired : a.flag Reg.HIF_ERR_HOLD_EXPIRED = true → b.flag Reg.HIF_ERR_HOLD_EXPIRED = true

namespace HostKept

variable {a b c : Dev}

theorem of_heldKeys (hclk : b.clk = a.clk) (h : ∀ k ∈ heldKeys, ∀ dflt, mget b.fv dflt k = mget a.fv dflt k) : HostKept a b :=
  ⟨hclk, fun k hk => h k (List.mem_cons_of_mem _ hk),
    fun hset => (Dev.flag_congr (h _ (List.mem_cons_self ..) _)).trans hset⟩

theorem of_fv (hfv : b.fv = a.fv := by rfl) (hclk : b.clk = a.clk := by rfl) : HostKept a b :=
  of_heldKeys hclk fun _ _ _ => by rw [hfv]

theorem refl (a : Dev) : HostKept a a := of_fv

theorem trans (h : HostKept a b) (g : HostKept b c) : HostKept a c :=
  ⟨g.clk.trans h.clk, fun k hk dflt => (g.regs k hk dflt).trans (h.regs k hk dflt), fun hset => g.expired (h.expired hset)⟩

/-- `trans`, the second step first: it says from where the first step leads. -/
theorem after (g : HostKept b c) (h : HostKept a b) : HostKept a c := h.trans g

theorem foldl {α : Type} {f : Dev → α → Dev} (h : ∀ d x, HostKept d (f d x)) (l : List α) (d : Dev) :
    HostKept d (l.foldl f d) := by
  induction l generalizing d with
  | nil => exact refl d
  | cons x t ih => exact (h d x).trans (ih _)

theorem of_sameRegs {ks : List Nat} (h : SameRegs ks a b) (hclk : b.clk = a.clk)
    (hk : ∀ k ∈ heldKeys, k ∉ ks := by decide) : HostKept a b :=
  of_heldKeys hclk fun k hm dflt => h k dflt (hk k hm) ((show ∀ k ∈ heldKeys, k ∉ ringKeys by decide) k hm)

theorem of_calm (h : Calm a b) : HostKept a b := of_sameRegs (h.sameRegs []) h.clk

theorem rd (h : HostKept a b) (f : Fld) (hf : f.key 0 0 ∈ hostKeys := by decide) : b.rd f = a.rd f := h.regs _ hf _

theorem flag (h : HostKept a b) (f : Fld) (hf : f.key 0 0 ∈ hostKeys := by decide) : b.flag f = a.flag f :=
  Dev.flag_congr (h.rd f hf)

theorem bme (h : HostKept a b) : b.bme = a.bme := h.flag Reg.HIF_STATUS_BME

theorem atStep (h : HostKept a b) (n : Nat) : b.atStep n = a.atStep n := by
  rw [Dev.atStep, Dev.powered, Dev.bootStep, Dev.safe, h.clk, h.rd Reg.HIF_BOOT_STEP, h.flag Reg.CLK_STATUS_SAFE]
  rfl

variable (d : Dev)

theorem wr (f : Fld) (v i j : Nat) (hk : f.key i j ∉ heldKeys := by decide) : HostKept d (d.wr f v i j) :=
  of_sameRegs (.wr d f v i j) rfl fun _ hm he => hk (List.mem_singleton.1 he ▸ hm)

theorem bump (f : Fld) (n i j : Nat) (hk : f.key i j ∉ heldKeys := by decide) : HostKept d (d.bump f n i j) := wr d f _ i j hk

theorem emit (e : Emit) : HostKept d (d.emit e) := of_fv

theorem setErr (f : Fld) (k i inst addr : Nat) (further : List (Nat × Nat × Nat)) (force : Bool)
    (hk : f.key i 0 ∉ heldKeys := by decide) : HostKept d (d.setErr f k i inst addr further force) :=
  .after (emit _ _) (wr d f _ i 0 hk)

theorem setBit (f : Fld) (k : Nat) (hk : f.key 0 0 ∉ heldKeys := by decide) : HostKept d (d.setBit f k) := wr d f _ 0 0 hk

theorem clearBit (f : Fld) (k : Nat) (hk : f.key 0 0 ∉ heldKeys := by decide) : HostKept d (d.clearBit f k) := wr d f _ 0 0 hk

theorem sal (x : Sal) : HostKept d { d with sal := x } := of_fv
theorem set (x : SetEng) : HostKept d { d with set := x } := of_fv
theorem setCtx (c : Nat) (x : Option Ctx) : HostKept d (d.setCtx c x) := of_calm (.setCtx d c x)
theorem putX (x : Xfer) : HostKept d (d.putX x) := of_calm (.putX d x)
theorem dropX (x : Nat) : HostKept d (d.dropX x) := of_calm (.dropX d x)
theorem complete (c st r : Nat) : HostKept d (d.complete c st r) := of_calm (.complete d c st r)

end HostKept

namespace Dev

variable (d : Dev)

/-! ### Transfers (R433 to R445) -/

theorem adminFault_hostKept (source type va : Nat) : HostKept d (d.adminFault source type va) := by
  unfold adminFault
  refine .after (.of_calm (.msix _ _)) (.after (.setErr _ _ _ _ _ _ _ _) ?_)
  exact .after (.wr _ _ _ _ _) (.after (.wr _ _ _ _ _) (.after (.wr _ _ _ _ _) (.after (.wr _ _ _ _ _)
    (.after (.wr _ _ _ _ _) (.wr _ _ _ _ _)))))

theorem fault_hostKept (x : Xfer) (type level : Nat) : HostKept d (d.fault x type level) := by
  by_cases hx : x.what = .sqFetch 0
  · have hadmin : d.fault x type level = (d.dropX x.id).adminFault 1 type x.va := by simp [Dev.fault, hx, Purpose.isSelf]
    rw [hadmin]
    exact .after (adminFault_hostKept _ _ _ _) (.dropX _ _)
  · exact .of_calm (.fault d x type level hx)

theorem drive_hostKept (n : Nat) (x : Xfer) : HostKept d (Dev.drive n d x) := by
  induction n generalizing d x with
  | zero => exact .putX _ _
  | succ n ih =>
    have counted : HostKept d (d.bump Reg.MMU_CNT_HIT_COUNT) := .bump d _ _ _ _
    simp only [Dev.drive]
    split
    · exact .of_calm (.endX _ _)
    · split
      · exact .putX _ _
      · split
        · split
          · exact .dropX _ _
          · split
            · exact ((counted.trans (.of_calm (.takeBytes _ _ _))).trans (.emit _ _)).trans (ih _ _)
            · split
              · exact (counted.trans (.emit _ _)).trans (.putX _ _)
              · exact counted.trans (.putX _ _)
        · split
          · exact fault_hostKept _ _ _ _
          · split
            · exact fault_hostKept _ _ _ _
            · split
              · exact .after (.putX _ _) (.bump d _ _ _ _)
              · exact .putX _ _

theorem go_hostKept (id : Nat) : HostKept d (d.go id) := by
  unfold go
  split
  · exact drive_hostKept _ _ _
  · exact .refl d

theorem start_hostKept (what : Purpose) (cls : Nat) (write : Bool) (asid va len sq cid ctx : Nat) :
    HostKept d (d.start what cls write asid va len sq cid ctx) := .after (drive_hostKept _ _ _) .of_fv

/-! ### Staging in the Saltern (R514, R542, R548) -/

theorem flashWrite_hostKept (op : FlashOp) : HostKept d (d.flashWrite op) := .of_fv

theorem ner_hostKept (m : NerMsg) : HostKept d (d.ner m) := by
  unfold ner
  split
  · exact .of_fv
  · exact .refl d

theorem flushJournal_hostKept : HostKept d d.flushJournal := by
  have page (f : Flash) (x : Sal) (n : Nat) (op : FlashOp) :
      HostKept d ((({ d with flash := f, sal := x } : Dev).wr Reg.SAL_JRNL_SEQ n).flashWrite op) :=
    .after (flashWrite_hostKept _ _) (.after (.wr _ _ _ _ _) .of_fv)
  unfold flushJournal
  split
  · exact .refl d
  · dsimp only
    split
    · exact .after (ner_hostKept _ _) (page _ _ _ _)
    · exact page _ _ _ _

theorem journal_hostKept (r : BitVec 128) : HostKept d (d.journal r) := by
  have pending : HostKept d { d with sal := { d.sal with pend := d.sal.pend ++ [r] } } := .of_fv
  unfold journal
  dsimp only
  split
  · exact pending.trans (flushJournal_hostKept _)
  · exact pending

theorem sbState_hostKept (b st : Nat) : HostKept d (d.sbState b st) := .after (journal_hostKept _ _) (.sal d _)

theorem openSb_hostKept (b n : Nat) (x : Stream) : HostKept d ((d.sbState b 1).setStream n x) :=
  .after (.sal _ _) (sbState_hostKept d b 1)

theorem takeSeg_hostKept {n b g : Nat} {e : Dev} (h : d.takeSeg n = some (b, g, e)) : HostKept d e := by
  unfold takeSeg at h
  dsimp only at h
  split at h
  · split at h
    · cases h
      exact .sal d _
    · split at h
      · cases h
        exact .after (openSb_hostKept _ _ _ _) (sbState_hostKept d _ _)
      · cases h
  · split at h
    · cases h
      exact openSb_hostKept d _ _ _
    · cases h

theorem openSeg_hostKept {n l : Nat} {e : Dev} (h : d.openSeg n = some (l, e)) : HostKept d e := by
  unfold openSeg at h
  split at h
  · cases h
    exact .refl d
  · split at h
    · cases h
    · next f hf =>
      cases h
      exact .after (journal_hostKept _ _) (.after (.sal _ _) ((takeSeg_hostKept d hf).trans (.sal f _)))

theorem issueProg_hostKept (p : Prog) : HostKept d (d.issueProg p) := by
  unfold issueProg
  split
  · exact .refl d
  · exact .after (flashWrite_hostKept _ _) (.sal d _)

theorem issueRead_hostKept (r : PRead) : HostKept d (d.issueRead r) := by
  unfold issueRead
  split
  · exact .refl d
  · exact .after (.emit _ _) (.sal d _)

theorem serve_hostKept : HostKept d d.serve := by
  have progs (l : List Prog) (d : Dev) : HostKept d (l.foldl issueProg d) := .foldl (fun d p => d.issueProg_hostKept p) l d
  have reads (l : List PRead) (d : Dev) : HostKept d (l.foldl issueRead d) := .foldl (fun d r => d.issueRead_hostKept r) l d
  have requests (own : List Prog) (host burn : List PRead) (copies : List Prog) (gc : List PRead) :
      HostKept d (gc.foldl issueRead (copies.foldl issueProg (burn.foldl issueRead (host.foldl issueRead
        (own.foldl issueProg d))))) :=
    ((((progs own d).trans (reads host _)).trans (reads burn _)).trans (progs copies _)).trans (reads gc _)
  unfold serve
  dsimp only
  split
  · exact requests _ _ _ _ _
  · exact ((requests _ _ _ _ _).trans (.sal _ _)).trans (.foldl (fun d _ => d.flashWrite_hostKept _) _ _)

theorem programAt_hostKept (s kind lsn : Nat) (e : SegEnt) (page gen : Nat) (copy : Bool)
    (slots : List (Nat × Nat × Nat × StagedLb)) (ctxs : List Nat) (ack : Nat) (recs : List (BitVec 128)) :
    HostKept d (d.programAt s kind lsn e page gen copy slots ctxs ack recs) :=
  .after (.after (serve_hostKept _) (.sal _ _)) (.sal d _)

theorem programNext_hostKept {s : Nat} {slots : List (Nat × Nat × StagedLb)} {ctxs : List Nat} {ack : Nat}
    {recs : List (BitVec 128)} {e : Dev} (h : d.programNext s slots ctxs ack recs = some e) : HostKept d e := by
  unfold programNext at h
  split at h
  · cases h
  · next hf =>
    split at h
    · cases h
    · dsimp only at h
      have opened := openSeg_hostKept d hf
      split at h
      · rw [← Option.some.inj h]
        exact .after (.sal _ _) (.after (.foldl (fun d _ => d.programAt_hostKept ..) _ _)
          (.after (programAt_hostKept ..) opened))
      · rw [← Option.some.inj h]
        exact .after (.sal _ _) (.after (programAt_hostKept ..) opened)

theorem programOrWait_hostKept (s : Nat) (slots : List (Nat × Nat × StagedLb)) (ctxs : List Nat) (ack : Nat)
    (recs : List (BitVec 128)) : HostKept d (d.programOrWait s slots ctxs ack recs) := by
  unfold programOrWait
  split
  · next h => exact programNext_hostKept d h
  · exact .sal d _

/-! ### Sets, their stripes and losses (R544 to R556) -/

theorem setErrRec_hostKept (f : Fld) (vol stripe member lba : Nat) (hk : f.key 0 0 ∉ heldKeys := by decide) :
    HostKept d (d.setErrRec f vol stripe member lba) := .setErr d f _ _ _ _ _ _ hk

theorem sealFail_hostKept (f : Fld) (vol lba : Nat) (hk : f.key 0 0 ∉ heldKeys := by decide) :
    HostKept d (d.sealFail f vol lba) := .after (.bump _ _ _ _ _) (setErrRec_hostKept d f _ _ _ _ hk)

theorem draw_hostKept (w : Nat) : HostKept d (d.draw w).2 := .of_fv

theorem media_hostKept (code disc sp vol member : Nat) : HostKept d (d.media code disc sp vol member) := .of_fv

theorem mediaRequest_hostKept (vol m : Nat) : HostKept d (d.mediaRequest vol m) := by
  unfold mediaRequest
  split
  · split
    · exact .refl d
    · exact .after (media_hostKept _ _ _ _ _ _) (.set d _)
  · exact .refl d

theorem wantMember_hostKept (s : DiscSet) (vol n m : Nat) (ctxs : List Nat) : HostKept d (d.wantMember s vol n m ctxs) := by
  have wanted : HostKept d (d.wantCluster (s.members.getD m (0, 0)).1 (d.clusterAt s vol n m) ctxs) := .of_fv
  unfold wantMember
  dsimp only
  split
  · exact wanted.trans (mediaRequest_hostKept _ _ _)
  · exact wanted

theorem journalSetForced_hostKept (key : Nat) (r : BitVec 128) : HostKept d (d.journalSetForced key r) := by
  unfold journalSetForced
  split
  · exact .after (flushJournal_hostKept _) (journal_hostKept d r)
  · exact .refl d

theorem addLost_hostKept (l : Lost) : HostKept d (d.addLost l) := by
  have marked : HostKept d (d.setErrRec Reg.SET_ERR_STRIPE_LOST l.vol l.stripe) := setErrRec_hostKept d _ _ _ _ _
  unfold addLost
  dsimp only
  split
  · exact .after (journalSetForced_hostKept _ _ _) (.after (.bump _ _ _ _ _) (.after (.set _ _) marked))
  · split
    · exact .after (.set _ _) marked
    · exact marked

theorem addLostOnce_hostKept (s : DiscSet) (l : Lost) : HostKept d (d.addLostOnce s l) := by
  unfold addLostOnce
  dsimp only
  split
  · exact .refl d
  · exact addLost_hostKept d l

theorem holdSpare_hostKept (s : DiscSet) (vol n m : Nat) (words : List (List Byte)) :
    HostKept d (d.holdSpare s vol n m words) := by
  unfold holdSpare
  split
  · exact .set d _
  · exact .refl d

theorem spareLost_hostKept (s : DiscSet) (r : Recov) (rest : List Recov) (gone : List Nat) (mask : Nat) :
    HostKept d (d.spareLost s r rest gone mask) := by
  unfold spareLost
  dsimp only
  split
  · exact .after (holdSpare_hostKept ..) (.after (addLostOnce_hostKept _ _ _) (.set d _))
  · exact .after (.foldl (fun d _ => d.wantMember_hostKept ..) _ _) (.set d _)

theorem clearLost_hostKept (s : DiscSet) (vol lba : Nat) : HostKept d (d.clearLost s vol lba) := by
  unfold clearLost
  dsimp only
  split
  · exact .after (journal_hostKept _ _) (.set d _)
  · exact .refl d

theorem touchStripe_hostKept (s : DiscSet) (vol lba : Nat) : HostKept d (d.touchStripe s vol lba) := by
  unfold touchStripe
  dsimp only
  split
  · exact .set d _
  · split <;> exact .set d _

/-! ### Reads (R477, R500, R553) -/

theorem deliverGo_hostKept (c : Nat) : HostKept d (d.deliverGo c) :=
  .foldl (fun d _ => .after (go_hostKept _ _) (.putX d _)) _ d

theorem rereadLb_hostKept (c : Nat) (k : Ctx) (lba : Nat) (ok : Bool) : HostKept d (d.rereadLb c k lba ok) := by
  have gathered (k : Ctx) : HostKept d
      (if k.todo.isEmpty then (d.setCtx c (some k)).deliverGo c else d.setCtx c (some k)) := by
    split
    · exact .after (deliverGo_hostKept _ _) (.setCtx d _ _)
    · exact .setCtx d _ _
  unfold rereadLb
  dsimp only
  split
  · exact .refl d
  · split
    · exact .after (.complete _ _ _ _) (.after (.setCtx _ _ _) .of_fv)
    · exact gathered _

theorem finishRead_hostKept (c : Nat) : HostKept d (d.finishRead c) := by
  have ended {e : Dev} (h : HostKept d e) (k : Ctx) (st r : Nat) : HostKept d ((e.setCtx c (some k)).complete c st r) :=
    .after (.complete _ _ _ _) (.after (.setCtx _ _ _) h)
  have begun {e : Dev} (h : HostKept d e) (k : Ctx) (tags : Bool) (asid va m sq cid : Nat) :
      HostKept d (if tags then (e.setCtx c (some k)).start (.sealWrite c) 1 true asid va m sq cid c
        else e.setCtx c (some k)) := by
    cases tags with
    | true => exact .after (start_hostKept ..) (.after (.setCtx _ _ _) h)
    | false => exact .after (.setCtx _ _ _) h
  have failed (a vol : Nat) : HostKept d (d.sealFail Reg.SET_ERR_SEAL_DELIVERY vol a) := sealFail_hostKept d _ _ _
  unfold finishRead
  split
  · exact .refl d
  · split
    · exact .refl d
    · split
      · exact .complete d _ _ _
      · dsimp only
        split
        · exact iteInduction (fun _ => ended (failed _ _) _ _ _) fun _ =>
            .after (start_hostKept ..) (begun (failed _ _) _ _ _ _ _ _ _)
        · exact iteInduction (fun _ => ended (.refl d) _ _ _) fun _ =>
            .after (start_hostKept ..) (begun (.refl d) _ _ _ _ _ _ _)

theorem gotLb_hostKept (c lba : Nat) (lb : StagedLb) : HostKept d (d.gotLb c lba lb) := by
  unfold gotLb
  split
  · split
    · exact rereadLb_hostKept d _ _ _ _
    · split
      · exact .after (finishRead_hostKept _ _) (.setCtx d _ _)
      · exact .refl d
  · exact .refl d

theorem gotUnwritten_hostKept (c lba : Nat) : HostKept d (d.gotUnwritten c lba) := by
  unfold gotUnwritten
  split
  · split
    · exact rereadLb_hostKept d _ _ _ _
    · split
      · exact .after (finishRead_hostKept _ _) (.setCtx d _ _)
      · exact .refl d
  · exact .refl d

theorem gotLost_hostKept (c lba : Nat) : HostKept d (d.gotLost c lba) := by
  unfold gotLost
  split
  · split
    · exact rereadLb_hostKept d _ _ _ _
    · split
      · exact .refl d
      · exact .after (finishRead_hostKept _ _) (.setCtx d _ _)
  · exact .refl d

theorem recover_hostKept (r : Recov) : HostKept d (d.recover r) := by
  have wants (l : List Nat) (d : Dev) (s : DiscSet) : HostKept d
      (l.foldl (fun d m => if r.got.any (fun q => q.1 == m) then d else d.wantMember s r.vol r.stripe m []) d) := by
    refine .foldl (fun d m => ?_) l d
    split
    · exact .refl d
    · exact wantMember_hostKept d _ _ _ _ _
  have lost (l : List Nat) (base : Nat) (d : Dev) : HostKept d
      (l.foldl (fun d c => (List.range 16).foldl (fun d j => d.gotLost c (base + j)) d) d) :=
    .foldl (fun d c => .foldl (fun d j => d.gotLost_hostKept c (base + j)) _ d) l d
  unfold recover
  split
  · exact .refl d
  · dsimp only
    split
    · exact .after (wants _ _ _) (.set d _)
    · refine .after (lost _ _ _) ?_
      split
      · exact spareLost_hostKept d _ _ _ _ _
      · exact .after (addLost_hostKept _ _) (.set d _)

theorem readCluster_hostKept (s : DiscSet) (vol n m : Nat) (ctxs : List Nat) : HostKept d (d.readCluster s vol n m ctxs) := by
  unfold readCluster
  split
  · exact recover_hostKept d _
  · exact wantMember_hostKept d _ _ _ _ _

theorem readPage_hostKept (lsn page : Nat) (why : ReadFor) : HostKept d (d.readPage lsn page why) :=
  .after (serve_hostKept _) (.sal d _)

theorem sourceLb_hostKept (c vol lba : Nat) (discOnly : Bool) : HostKept d (d.sourceLb c vol lba discOnly) := by
  unfold sourceLb
  split
  · exact gotUnwritten_hostKept d _ _
  · next s _ =>
    have disk : HostKept d
        (if d.isLost s vol lba then d.gotLost c lba
        else
          match d.burnedGen s vol lba with
          | some _ => d.readCluster s vol (s.place lba).1 (s.place lba).2.1 [c]
          | none => d.gotUnwritten c lba) := by
      split
      · exact gotLost_hostKept d _ _
      · split
        · exact readCluster_hostKept d _ _ _ _ _
        · exact gotUnwritten_hostKept d _ _
    dsimp only
    split
    · exact disk
    · split
      · exact gotLb_hostKept d _ _ _
      · split
        · split
          · exact .refl d
          · split
            · exact .refl d
            · exact readPage_hostKept d _ _ _
        · split
          · exact gotLb_hostKept d _ _ _
          · exact disk

/-! ### Writes (R18, R477, R500) -/

theorem gatherAnew_hostKept (s : DiscSet) (vol n : Nat) : HostKept d (d.gatherAnew s vol n) := by
  refine .foldl (fun d m => ?_) _ d
  split
  · exact .refl d
  · exact readCluster_hostKept d _ _ _ _ _

theorem stage_hostKept (s : Nat) (ctxs : List Nat) (n : Nat) (l : List (Nat × Nat × StagedLb)) :
    HostKept d (d.stage s ctxs n l) := by
  induction n generalizing d l with
  | zero => exact .refl d
  | succ n ih =>
    cases l with
    | nil => exact .refl d
    | cons q t => exact (programOrWait_hostKept d _ _ _ _ _).trans (ih _ _)

theorem checkDurable_hostKept (c : Nat) : HostKept d (d.checkDurable c) := by
  unfold checkDurable
  split
  · split
    · exact .complete d _ _ _
    · exact .refl d
  · exact .refl d

theorem ingest_hostKept (c : Nat) : HostKept d (d.ingest c) := by
  have touched (s : DiscSet) (vol : Nat) (l : List (Nat × Nat × StagedLb)) (d : Dev) :
      HostKept d (l.foldl (fun d q => (d.clearLost s vol q.2.1).touchStripe s vol q.2.1) d) :=
    .foldl (fun d _ => .after (touchStripe_hostKept _ _ _ _) (clearLost_hostKept d _ _ _)) l d
  unfold ingest
  split
  · exact .refl d
  · dsimp only
    split
    · exact .refl d
    · split
      · exact .complete d _ _ _
      · split
        · exact .after (.complete _ _ _ _) (sealFail_hostKept d _ _ _)
        · split
          · exact .after (.complete _ _ _ _) (sealFail_hostKept d _ _ _)
          · exact .after (checkDurable_hostKept _ _) (.after
              (.foldl (fun d _ => iteInduction (fun _ => gatherAnew_hostKept d _ _ _) fun _ => .refl d) _ _)
              (.after (stage_hostKept ..) (.after (.setCtx _ _ _) (touched _ _ _ d))))

theorem afterWrite_hostKept (w : Nat) : HostKept d (d.afterWrite w) := by
  refine .foldl (fun d e => ?_) _ d
  dsimp only
  split
  · exact .after (.foldl (fun d a => d.sourceLb_hostKept _ _ _ _) _ _) (.setCtx d _ _)
  · exact .refl d

theorem ingestAll_hostKept : HostKept d d.ingestAll := by
  refine .foldl (fun d c => ?_) _ d
  dsimp only
  split
  · exact ingest_hostKept d c
  · exact (ingest_hostKept d c).trans (afterWrite_hostKept _ _)

theorem delivered_hostKept (c : Nat) : HostKept d (d.delivered c) := by
  unfold delivered
  split
  · split
    · exact .complete d _ _ _
    · exact .refl d
  · exact .refl d

theorem reap_hostKept : HostKept d d.reap := by
  refine .after (ingestAll_hostKept _) (.after (.foldl (fun d x => ?_) _ _) (.of_calm d.reapBufs_calm))
  split
  · exact .after (delivered_hostKept _ _) (.dropX d _)
  · exact .after (delivered_hostKept _ _) (.dropX d _)
  · exact .dropX d _
  · exact .dropX d _
  · exact .refl d

/-! ### Lines of the cache (R409 to R414) -/

theorem dropLine_hostKept (key : Nat) : HostKept d (d.dropLine key) := .of_fv

theorem reapLines_hostKept : HostKept d d.reapLines := by
  refine .foldl (fun d x => ?_) _ d
  split
  · exact .after (.bump _ _ _ _ _) (.after (dropLine_hostKept _ _) (.dropX d _))
  · exact .refl d

theorem writeBack_hostKept (key cls : Nat) : HostKept d (d.writeBack key cls) := by
  unfold writeBack
  split
  · split
    · exact .refl d
    · exact start_hostKept d _ _ _ _ _ _ _ _ _
  · exact dropLine_hostKept d _
  · exact .refl d

theorem brcErr_hostKept (f : Fld) (line way : Nat) (hk : f.key 0 0 ∉ heldKeys := by decide) :
    HostKept d (d.brcErr f line way) := by
  unfold brcErr
  dsimp only
  split
  · exact .after (.setErr _ _ _ _ _ _ _ _ hk) (.wr d _ _ _ _)
  · exact .setErr d _ _ _ _ _ _ _ hk

theorem drainFrom_hostKept (l : List Nat) : HostKept d (d.drainFrom l) := by
  have pos (set way : Nat) (d : Dev) : HostKept d ((d.wr Reg.BRC_DRAIN_POS_SET set).wr Reg.BRC_DRAIN_POS_WAY way) :=
    .after (.wr _ _ _ _ _) (.wr d _ _ _ _)
  induction l generalizing d with
  | nil => exact pos _ _ d
  | cons key t ih =>
    rw [drainFrom]
    refine .trans (pos (key / 16) (key % 16) d) ?_
    split
    · exact ih _
    · split
      · exact .after (ih _) (dropLine_hostKept _ _)
      · have written (d : Dev) : HostKept d (d.writeBack key 3).reapLines :=
          .after (reapLines_hostKept _) (writeBack_hostKept d _ _)
        dsimp only
        split
        · exact .after (ih _) (written _)
        · split
          · split
            · exact .after (brcErr_hostKept _ _ _ _) (.after (.wr _ _ _ _ _) (written _))
            · exact written _
          · exact written _

theorem drain_hostKept : HostKept d d.drain := by
  have resumed (b : Bool) (d : Dev) : HostKept d (if b then d.wr Reg.BRC_STATUS_STATE 2 else d) := by
    cases b with
    | true => exact .wr d _ _ _ _
    | false => exact .refl d
  refine .trans (reapLines_hostKept d) ?_
  unfold drain
  dsimp only
  split
  · exact .after (drainFrom_hostKept _ _) (resumed _ _)
  · exact .refl _

theorem wayLeave_hostKept (w : Nat) : HostKept d (d.wayLeave w) := .after (.clearBit _ _ _) (.clearBit d _ _)

theorem convertDone_hostKept (c n : Nat) : HostKept d (d.convertDone c n) := by
  have back (l : List Nat) (d : Dev) : HostKept d
      (l.foldl (fun d w => if (d.rd Reg.BRC_WAY_ST_DISABLED).testBit w then d else d.setBit Reg.BRC_WAY_ALLOC w) d) := by
    refine .foldl (fun d w => ?_) l d
    split
    · exact .refl d
    · exact .setBit d _ _
  unfold convertDone
  dsimp only
  split
  · exact .after (.complete _ _ _ _) (.after (.wr _ _ _ _ _) (.after (back _ _) (.after .of_fv
      (.foldl (fun d w => d.wayLeave_hostKept w) _ d))))
  · exact .refl d

theorem linesMoved_hostKept : HostKept d d.linesMoved := by
  refine .trans (drain_hostKept d) (.foldl (fun d c => ?_) _ _)
  split
  · split
    · exact convertDone_hostKept d _ _
    · exact .refl d
  · exact .refl d

/-! ### The delivery hold (R440) -/

theorem miss_hostKept (r inst : Nat) : HostKept d (d.miss r inst) := by
  unfold miss
  dsimp only
  split <;> exact .of_fv

/-- HOLD_EXPIRED is set, counted and recorded. -/
theorem expired_hostKept (p : Nat) :
    HostKept d (((d.hifErr Reg.HIF_ERR_HOLD_EXPIRED).bump Reg.HIF_CNT_HOLD_COUNT).miss 7 p) := by
  have set : HostKept d (d.hifErr Reg.HIF_ERR_HOLD_EXPIRED) :=
    ⟨rfl, fun k hk dflt => (SameRegs.wr d Reg.HIF_ERR_HOLD_EXPIRED _ 0 0) k dflt
        ((show ∀ k ∈ hostKeys, k ∉ [Reg.HIF_ERR_HOLD_EXPIRED.key 0 0] by decide) k hk)
        ((show ∀ k ∈ hostKeys, k ∉ ringKeys by decide) k hk),
      fun _ => d.flag_setErr_same rfl _ _ _ _ _⟩
  exact .after (miss_hostKept _ _ _) (.after (.bump _ _ _ _ _) set)

theorem holdExpiry_hostKept (p : Nat) : HostKept d (d.holdExpiry p) := by
  unfold holdExpiry
  split
  · exact .refl d
  · split
    · exact .refl d
    · dsimp only
      split
      · split
        · exact .after (readCluster_hostKept ..) (.after (.setCtx _ _ _) (expired_hostKept d p))
        · exact expired_hostKept d p
      · exact expired_hostKept d p

/-- HOLD_EXPIRED is set by the release of a held cluster, and the read of the cluster again leaves it set. -/
theorem holdExpiry_expired {p : Nat} {x : Xfer} (h : d.mmu.xfers.find? (fun y => (d.heldCluster p y).isSome) = some x) :
    (d.holdExpiry p).flag Reg.HIF_ERR_HOLD_EXPIRED = true := by
  have set : (((d.hifErr Reg.HIF_ERR_HOLD_EXPIRED).bump Reg.HIF_CNT_HOLD_COUNT).miss 7 p).flag Reg.HIF_ERR_HOLD_EXPIRED = true :=
    (HostKept.after (miss_hostKept _ _ _) (.bump _ _ _ _ _)).expired (d.flag_setErr_same rfl _ _ _ _ _)
  obtain ⟨q, hq⟩ := Option.isSome_iff_exists.1 (List.find?_some (p := fun y => (d.heldCluster p y).isSome) h)
  unfold holdExpiry
  rw [h]
  dsimp only
  rw [hq]
  dsimp only
  split
  · split
    · exact (HostKept.after (readCluster_hostKept ..) (.setCtx _ _ _)).expired set
    · exact set
  · exact set

theorem heldLimit_hostKept : HostKept d d.heldLimit := by
  unfold heldLimit
  split
  · exact .refl d
  · refine .foldl (fun d p => ?_) _ d
    split
    · exact holdExpiry_hostKept d p
    · exact .refl d

/-- What transfers that have moved on let go on leaves the registers of the host attachment. -/
theorem moved_hostKept : HostKept d d.moved :=
  ((reap_hostKept d).trans (heldLimit_hostKept _)).trans (linesMoved_hostKept _)

end Dev

section
variable {s : State}

/-! ### The sideband and the link (R419, R422) -/

theorem sidebandStatusQuery_answers (hup : s.dev.flag Reg.HIF_STATUS_SB_UP = true) :
    After (.sidebandStatusQuery) s fun t => Out.sideband 3 (3 + 65536 * s.dev.bootWord) ∈ t.sent := by
  have hup' : s.fresh.flag Reg.HIF_STATUS_SB_UP = true := hup
  refine ⟨_, rfl, s.mem_sent _ _ ?_⟩
  dsimp only
  rw [if_pos hup', Dev.sendStatus, if_pos hup']
  exact Dev.mem_send _ _

theorem linkWidthDegrade_flags (hup : s.dev.flag Reg.HIF_STATUS_LINK_UP = true)
    (hfull : s.dev.flag Reg.HIF_STATUS_WIDTH = false) : After (.linkWidthDegrade) s fun t =>
      t.dev.rd Reg.HIF_STATUS_WIDTH = 1 ∧ t.dev.flag Reg.HIF_ERR_WIDTH_DEGRADED = true := by
  have hdegrades : (s.fresh.flag Reg.HIF_STATUS_LINK_UP && !s.fresh.flag Reg.HIF_STATUS_WIDTH) = true := by
    rw [s.fresh_flag, s.fresh_flag, hup, hfull]
    rfl
  refine ⟨_, rfl, ?_⟩
  dsimp only
  rw [if_pos hdegrades, State.settle_rd _ _ _ _ _ (by decide), State.settle_flag _ _ _ _ _ (by decide), Dev.hifErr,
    Dev.flag_setErr_same _ rfl, Dev.rd_setErr_ne _ _ _ _ _ _ _ _ _ _ _ (by decide), Dev.rd_wr_same]
  exact ⟨rfl, rfl⟩

theorem linkRetrain_flags (hup : s.dev.flag Reg.HIF_STATUS_LINK_UP = true) : After (.linkRetrain) s fun t =>
    t.dev.flag Reg.HIF_ERR_RETRAIN = true ∧ t.dev.flag Reg.HIF_STATUS_LINK_UP = true := by
  have hup' : s.fresh.flag Reg.HIF_STATUS_LINK_UP = true := hup
  refine ⟨_, rfl, ?_⟩
  dsimp only
  rw [if_pos hup', State.settle_flag _ _ _ _ _ (by decide), State.settle_flag _ _ _ _ _ (by decide), Dev.hifErr,
    Dev.flag_setErr_same _ rfl, Dev.flag_setErr_ne _ _ _ _ _ _ _ _ _ _ _ (by decide)]
  exact ⟨rfl, hup'⟩

/-! ### The delivery hold (R440) -/

theorem deliveryHoldExpiry_flags {p : Pk} {x : Xfer}
    (h : s.dev.mmu.xfers.find? (fun y => (s.dev.heldCluster p y).isSome) = some x) :
    After (.deliveryHoldExpiry p) s fun t => t.dev.flag Reg.HIF_ERR_HOLD_EXPIRED = true :=
  ⟨_, rfl, (s.settle_flag _ _ _ _ (by decide)).trans (s.fresh.holdExpiry_expired h)⟩

/-- A pickup holds no more clusters than there are transfers, and up to four are not released. -/
theorem Dev.heldLimit_few {d : Dev} (h : d.mmu.xfers.length ≤ 4) : d.heldLimit = d := by
  have few (p : Nat) : ¬ 4 < d.heldBy p := Nat.not_lt.2 ((List.length_filter_le _ _).trans h)
  unfold Dev.heldLimit
  split
  · rfl
  · exact List.foldl_fixed' (fun p => if_neg (few p)) _

/-! ### Bus mastering is withdrawn (R425, R445) -/

/-- A transfer that asks for the bus parks when it is withdrawn. -/
def Xfer.offBus (x : Xfer) : Xfer := if x.st == .ready || x.st == .walking then { x with st := .noBus } else x

/-- The device without bus mastering, every class parked. -/
def Dev.offBus (d : Dev) : Dev :=
  { d.wr Reg.HIF_STATUS_BME 0 with mmu := { d.mmu with xfers := d.mmu.xfers.map Xfer.offBus } }

theorem Dev.offBus_leaves (d : Dev) : Leaves [Reg.HIF_STATUS_BME.key 0 0] d d.offBus :=
  (Leaves.wr d Reg.HIF_STATUS_BME 0 0 0).trans (.of_calm _ (.mmu _ _ rfl))

theorem busMasterDisable_parks : After (.busMasterDisable) s fun t =>
    t.dev.bme = false ∧ (s.dev.mmu.xfers.length ≤ 4 → SameUnits s.dev t.dev) := by
  have hoff : s.fresh.offBus.bme = false := Dev.flag_wr_same _ Reg.HIF_STATUS_BME 0 0 0
  refine ⟨_, rfl, (s.settle_flag _ _ _ _ (by decide)).trans ((Dev.heldLimit_hostKept s.fresh.offBus).bme.trans hoff), ?_⟩
  intro hfew
  have hkept : s.fresh.offBus.heldLimit = s.fresh.offBus := Dev.heldLimit_few (by simpa [Dev.offBus] using hfew)
  have hleaves : Leaves [Reg.HIF_STATUS_BME.key 0 0] s.dev s.fresh.offBus.heldLimit := by
    rw [hkept]
    exact (Leaves.fresh _ s).trans s.fresh.offBus_leaves
  exact hleaves.settle.units

/-! ### The firmware fetch (R428) -/

theorem Sends.setBoot {p : Nat} (d : Dev) (f : Fld) (v : Nat) : Sends p d (d.setBoot f v) := by
  unfold Dev.setBoot
  dsimp only
  split
  · exact .wr d f v 0 0
  · unfold Dev.sendStatus
    split
    · exact .after (.emit _ _) (.wr d f v 0 0)
    · exact .wr d f v 0 0

theorem Dev.runImage_sends {p : Nat} (d : Dev) (h : FwHeader) (image : Nat) : Sends p d (d.runImage h image) :=
  .after (.setBoot _ _ _) (.after (.setBoot _ _ _) (.after (.wr _ _ _ _ _) (.of_same rfl rfl rfl)))

theorem Dev.recoveryImage_sends {p : Nat} (d : Dev) : Sends p d d.recoveryImage := by
  have active (a : Nat) (d : Dev) : Sends p d { d with mgmt := { d.mgmt with active := a } } := .of_same rfl rfl rfl
  have rom (d : Dev) : Sends p d ((d.wr Reg.QUE_STATUS_AQ_READY 1).setBoot Reg.HIF_BOOT_ROM 1) :=
    .after (.setBoot _ _ _) (.wr d _ _ _ _)
  refine .trans (active d.mgmt.nextActive d) ?_
  unfold Dev.recoveryImage
  dsimp only
  split
  · exact rom _
  · split
    · exact Dev.runImage_sends _ _ _
    · split
      · exact .after (Dev.runImage_sends _ _ _) (active _ _)
      · split
        · exact Dev.runImage_sends _ _ _
        · exact rom _

theorem Dev.rejectImage_sends {p : Nat} (d : Dev) (slot : Nat) : Sends p d (d.rejectImage slot none) := by
  have marked : Sends p d (d.setErr Reg.LCS_ERR_FW_REJECT) := .setErr d _ _ _ _ _ _ _
  have drawn (d : Dev) : Sends p d (d.draw 8).2 := .of_same rfl rfl rfl
  exact .after (.emit _ _) (marked.trans (drawn _))

theorem Dev.fwGo_sends {p : Nat} (d : Dev) : Sends p d d.fwGo := by
  have taken : Sends p d (d.wr Reg.HIF_FW_CTL_GO 0) := .wr d _ _ _ _
  unfold Dev.fwGo
  dsimp only
  split
  · exact .refl p d
  · split
    · exact taken
    · split
      · exact .after (Dev.recoveryImage_sends _) (.after (Dev.rejectImage_sends _ _) (.after (.wr _ _ _ _ _) taken))
      · exact .after (.emit _ _) (.after (.wr _ _ _ _ _) taken)

/-- The fetch that waits in step 7 starts once bus mastering is on (R425, R428). -/
theorem Dev.fwGo_starts {d : Dev} (hgo : d.flag Reg.HIF_FW_CTL_GO = true) (hstep : d.atStep 6 = true)
    (hup : d.flag Reg.HIF_STATUS_LINK_UP = true) (hbme : d.bme = true) (hidle : d.rd Reg.HIF_FW_CTL_STATUS = 0)
    (hrom : d.flag Reg.HIF_BOOT_ROM = false) (himage : d.rd Reg.HIF_BOOT_IMAGE = 0)
    (hlen : d.rd Reg.HIF_FW_LEN_LEN ≤ 2 ^ 24) :
    d.fwGo = ((d.wr Reg.HIF_FW_CTL_GO 0).wr Reg.HIF_FW_CTL_STATUS 1).send
      (.fwFetch (d.rd Reg.HIF_FW_ADDR_LO_ADDR + 2 ^ 32 * d.rd Reg.HIF_FW_ADDR_HI_ADDR) (d.rd Reg.HIF_FW_LEN_LEN)) := by
  have same (f : Fld) (hf : f.key 0 0 ≠ Reg.HIF_FW_CTL_GO.key 0 0) : (d.wr Reg.HIF_FW_CTL_GO 0).rd f = d.rd f :=
    Dev.rd_wr_ne _ _ _ _ _ _ _ _ hf
  unfold Dev.fwGo
  rw [hgo, hstep, hup, hbme, if_neg (by decide)]
  dsimp only
  rw [same _ (by decide), same _ (by decide), same _ (by decide), same _ (by decide), same _ (by decide),
    Dev.flag_congr (same Reg.HIF_BOOT_ROM (by decide)), hidle, hrom, himage, if_neg (by decide), if_neg (Nat.not_lt.2 hlen)]

/-! ### Bus mastering returns (R445, R448) -/

/-- A device with no transfer in progress, no command that waits for one, and the cache off goes on as it is. -/
theorem Dev.moved_quiet {d : Dev} (h : quiet d = true) : d.moved = d := by
  simp only [quiet, Bool.and_eq_true, List.isEmpty_iff, beq_iff_eq] at h
  obtain ⟨⟨⟨hxfers, hingest⟩, hback⟩, hoff⟩ := h
  have hreap : d.reap = d := by simp [Dev.reap, Dev.reapBufs, Dev.ingestAll, hxfers, hingest]
  have hlimit : d.heldLimit = d := Dev.heldLimit_few (by simp [hxfers])
  have hdrain : d.drain = d := by simp [Dev.drain, Dev.reapLines, hxfers, hoff]
  rw [Dev.moved, hreap, hlimit, Dev.linesMoved, hdrain, hback]
  rfl

/-- Vectors that are unmasked send their messages while bus mastering is on. -/
theorem Dev.foldl_msix {d : Dev} {l : List Nat} (hbme : d.bme = true) (hopen : ∀ v ∈ l, mget d.msixTab 1 (4 * v + 3) % 2 = 0) :
    l.foldl (fun d v => d.msix v) d = { d with out := d.out ++ l.map fun v => .out (.msix v) } := by
  induction l generalizing d with
  | nil => simp
  | cons v t ih =>
    have hv : d.msix v = d.send (.msix v) := by
      rw [Dev.msix, hbme, hopen v (List.mem_cons_self ..)]
      rfl
    rw [List.foldl_cons, hv, ih (d := d.send (.msix v)) hbme fun u hu => hopen u (List.mem_cons_of_mem _ hu)]
    simp [Dev.send, Dev.emit]

/-- The vectors whose pending messages the return of bus mastering sends. -/
def Dev.due (d : Dev) : List Nat := d.pba.filter fun v => mget d.msixTab 1 (4 * v + 3) % 2 == 0

/-- The device with bus mastering on and no message left to send. -/
def Dev.onBus (d : Dev) : Dev := { d.wr Reg.HIF_STATUS_BME 1 with pba := d.pba.filter fun v => !d.due.contains v }

theorem Dev.onBus_bme (d : Dev) : d.onBus.bme = true := Dev.flag_wr_same d Reg.HIF_STATUS_BME 1 0 0

theorem Dev.onBus_rd (d : Dev) (f : Fld) (h : f.key 0 0 ≠ Reg.HIF_STATUS_BME.key 0 0 := by decide) : d.onBus.rd f = d.rd f :=
  Dev.rd_wr_ne d Reg.HIF_STATUS_BME f 1 0 0 0 0 h

theorem Dev.onBus_flag (d : Dev) (f : Fld) (h : f.key 0 0 ≠ Reg.HIF_STATUS_BME.key 0 0 := by decide) :
    d.onBus.flag f = d.flag f := Dev.flag_congr (d.onBus_rd f h)

theorem Dev.onBus_atStep (d : Dev) (n : Nat) : d.onBus.atStep n = d.atStep n := by
  rw [Dev.atStep, Dev.bootStep, Dev.safe, d.onBus_rd Reg.HIF_BOOT_STEP, d.onBus_flag Reg.CLK_STATUS_SAFE]
  rfl

/-- The grant and what it sends give nothing to wait for. -/
theorem Dev.quiet_onBus (d : Dev) (l : List Emit) : quiet { d.onBus with out := l } = quiet d := by
  have hcache : ({ d.onBus with out := l } : Dev).rd Reg.BRC_STATUS_STATE = d.rd Reg.BRC_STATUS_STATE := d.onBus_rd _
  rw [quiet, hcache, quiet]
  rfl

/-- With no transfer parked the messages go out, then what moved on, then the fetch. -/
theorem execBusMasterEnable_idle (hup : s.dev.flag Reg.HIF_STATUS_LINK_UP = true) (hxfers : s.dev.mmu.xfers = []) :
    execBusMasterEnable s =
      .next (s.settle (s.dev.due.foldl (fun d v => d.msix v) s.fresh.onBus).moved.fwGo) := by
  have hup' : s.fresh.flag Reg.HIF_STATUS_LINK_UP = true := hup
  have hnone : (s.fresh.wr Reg.HIF_STATUS_BME 1).mmu.xfers = [] := hxfers
  rw [execBusMasterEnable, State.run_next, hup', if_neg (by decide)]
  dsimp only
  rw [hnone]
  rfl

theorem busMasterEnable_sends {v : Nat} (hup : s.dev.flag Reg.HIF_STATUS_LINK_UP = true) (hquiet : quiet s.dev = true)
    (hv : v ∈ s.dev.pba) (hopen : mget s.dev.msixTab 1 (4 * v + 3) % 2 = 0) : After (.busMasterEnable) s fun t =>
      t.dev.bme = true ∧ Out.msix v ∈ t.sent := by
  have hxfers : s.dev.mmu.xfers = [] := by
    simp only [quiet, Bool.and_eq_true, List.isEmpty_iff] at hquiet
    exact hquiet.1.1.1
  have hdue : v ∈ s.dev.due := List.mem_filter.2 ⟨hv, by simp [hopen]⟩
  have hsends := Dev.foldl_msix (d := s.fresh.onBus) (l := s.dev.due) s.fresh.onBus_bme fun u hu =>
    beq_iff_eq.1 (List.mem_filter.1 hu).2
  have hstill : (s.dev.due.foldl (fun d v => d.msix v) s.fresh.onBus).moved =
      s.dev.due.foldl (fun d v => d.msix v) s.fresh.onBus := by
    refine Dev.moved_quiet ?_
    rw [hsends]
    exact (s.fresh.quiet_onBus _).trans hquiet
  refine ⟨_, execBusMasterEnable_idle hup hxfers, ?_, s.mem_sent _ _ (mem_outsOf.2 ?_)⟩
  · rw [Dev.bme, State.settle_flag _ _ _ _ _ (by decide),
      (Dev.fwGo_sameRegs _).flag _ 0 0 (by decide) (by decide), hstill, hsends]
    exact s.fresh.onBus_bme
  · refine (Dev.fwGo_sends (p := 0) _).mem ?_
    rw [hstill, hsends]
    exact List.mem_append_right _ (List.mem_map_of_mem hdue)

/-- What the firmware fetch goes by is in `e` as in `d`, and bus mastering is on. -/
structure FetchKept (d e : Dev) : Prop where
  rd : ∀ f : Fld, f.key 0 0 ∈ hostKeys → f.key 0 0 ≠ Reg.HIF_STATUS_BME.key 0 0 → e.rd f = d.rd f
  atStep : e.atStep 6 = d.atStep 6
  bme : e.bme = true

theorem HostKept.fetchKept {d e : Dev} (h : HostKept d.onBus e) : FetchKept d e :=
  ⟨fun f hf hb => (h.rd f hf).trans (d.onBus_rd f hb), (h.atStep 6).trans (d.onBus_atStep 6), h.bme.trans d.onBus_bme⟩

theorem FetchKept.flag {d e : Dev} (h : FetchKept d e) (f : Fld) (hf : f.key 0 0 ∈ hostKeys := by decide)
    (hb : f.key 0 0 ≠ Reg.HIF_STATUS_BME.key 0 0 := by decide) : e.flag f = d.flag f := Dev.flag_congr (h.rd f hf hb)

/-- A fetch that waits for bus mastering alone starts with it. -/
theorem FetchKept.fetches {d e : Dev} (h : FetchKept d e) (hup : d.flag Reg.HIF_STATUS_LINK_UP = true)
    (hstep : d.atStep 6 = true) (hgo : d.flag Reg.HIF_FW_CTL_GO = true)
    (hidle : d.rd Reg.HIF_FW_CTL_STATUS = 0) (hrom : d.flag Reg.HIF_BOOT_ROM = false)
    (himage : d.rd Reg.HIF_BOOT_IMAGE = 0) (hlen : d.rd Reg.HIF_FW_LEN_LEN ≤ 2 ^ 24) :
    e.fwGo = ((e.wr Reg.HIF_FW_CTL_GO 0).wr Reg.HIF_FW_CTL_STATUS 1).send
      (.fwFetch (d.rd Reg.HIF_FW_ADDR_LO_ADDR + 2 ^ 32 * d.rd Reg.HIF_FW_ADDR_HI_ADDR) (d.rd Reg.HIF_FW_LEN_LEN)) := by
  have hfetch := Dev.fwGo_starts ((h.flag Reg.HIF_FW_CTL_GO).trans hgo) (h.atStep.trans hstep)
    ((h.flag Reg.HIF_STATUS_LINK_UP).trans hup) h.bme ((h.rd Reg.HIF_FW_CTL_STATUS (by decide) (by decide)).trans hidle)
    ((h.flag Reg.HIF_BOOT_ROM).trans hrom) ((h.rd Reg.HIF_BOOT_IMAGE (by decide) (by decide)).trans himage)
    ((h.rd Reg.HIF_FW_LEN_LEN (by decide) (by decide)).trans_le hlen)
  rwa [h.rd Reg.HIF_FW_ADDR_LO_ADDR (by decide) (by decide), h.rd Reg.HIF_FW_ADDR_HI_ADDR (by decide) (by decide),
    h.rd Reg.HIF_FW_LEN_LEN (by decide) (by decide)] at hfetch

/-- The registers of a fetch that has begun (R428). -/
theorem Dev.fetch_begun (d : Dev) (o : Out) :
    (((d.wr Reg.HIF_FW_CTL_GO 0).wr Reg.HIF_FW_CTL_STATUS 1).send o).flag Reg.HIF_FW_CTL_GO = false ∧
      (((d.wr Reg.HIF_FW_CTL_GO 0).wr Reg.HIF_FW_CTL_STATUS 1).send o).rd Reg.HIF_FW_CTL_STATUS = 1 :=
  ⟨(Dev.flag_wr_ne (d.wr Reg.HIF_FW_CTL_GO 0) Reg.HIF_FW_CTL_STATUS Reg.HIF_FW_CTL_GO 1 0 0 0 0 (by decide)).trans
    (Dev.flag_wr_same d Reg.HIF_FW_CTL_GO 0 0 0), Dev.rd_wr_same (d.wr Reg.HIF_FW_CTL_GO 0) Reg.HIF_FW_CTL_STATUS 1 0 0⟩

theorem busMasterEnable_fetches (hup : s.dev.flag Reg.HIF_STATUS_LINK_UP = true) (hxfers : s.dev.mmu.xfers = [])
    (hstep : s.dev.atStep 6 = true) (hgo : s.dev.flag Reg.HIF_FW_CTL_GO = true)
    (hidle : s.dev.rd Reg.HIF_FW_CTL_STATUS = 0) (hrom : s.dev.flag Reg.HIF_BOOT_ROM = false)
    (himage : s.dev.rd Reg.HIF_BOOT_IMAGE = 0) (hlen : s.dev.rd Reg.HIF_FW_LEN_LEN ≤ 2 ^ 24) :
    After (.busMasterEnable) s fun t => t.dev.flag Reg.HIF_FW_CTL_GO = false ∧ t.dev.rd Reg.HIF_FW_CTL_STATUS = 1 ∧
      Out.fwFetch (s.dev.rd Reg.HIF_FW_ADDR_LO_ADDR + 2 ^ 32 * s.dev.rd Reg.HIF_FW_ADDR_HI_ADDR)
        (s.dev.rd Reg.HIF_FW_LEN_LEN) ∈ t.sent := by
  have hkept : HostKept s.fresh.onBus (s.dev.due.foldl (fun d v => d.msix v) s.fresh.onBus).moved :=
    .after (Dev.moved_hostKept _) (.foldl (fun d v => .of_calm (.msix d v)) _ _)
  have hfetch := hkept.fetchKept.fetches hup hstep hgo hidle hrom himage hlen
  obtain ⟨hgone, hruns⟩ := Dev.fetch_begun (s.dev.due.foldl (fun d v => d.msix v) s.fresh.onBus).moved
    (.fwFetch (s.dev.rd Reg.HIF_FW_ADDR_LO_ADDR + 2 ^ 32 * s.dev.rd Reg.HIF_FW_ADDR_HI_ADDR) (s.dev.rd Reg.HIF_FW_LEN_LEN))
  exact ⟨_, (execBusMasterEnable_idle hup hxfers).trans (congrArg (fun d => Host.Outcome.next (s.settle d)) hfetch),
    (s.settle_flag _ _ _ _ (by decide)).trans hgone, (s.settle_rd _ _ _ _ (by decide)).trans hruns,
    s.mem_sent _ _ (Dev.mem_send _ _)⟩

end

end Sys2Proof.Machine

namespace Sys2Proof

open Sys2Proof.Machine Sys2Proof.Safety

set_option Elab.async false

/-- Settles O33, one lemma per event of the link, of bus mastering and of the delivery hold. -/
theorem hostLinkAndBusMastering : Obligations.HostLinkAndBusMastering :=
  ⟨fun _ hup => sidebandStatusQuery_answers hup, fun _ hup hfull => linkWidthDegrade_flags hup hfull,
    fun _ hup => linkRetrain_flags hup, fun _ => busMasterDisable_parks,
    fun _ _ hup hquiet hv hopen => busMasterEnable_sends hup hquiet hv hopen,
    fun _ hup _ hxfers hstep hgo hidle hrom himage hlen =>
      busMasterEnable_fetches hup hxfers hstep hgo hidle hrom himage hlen,
    fun _ _ _ h => deliveryHoldExpiry_flags h⟩

end Sys2Proof

/-! SUPPORT. How every command and every step ends: in the next state in which what the meaning made of the device is settled,
so that a step does to the recorder only what requests to it do (R576, R580). -/

namespace Sys2Proof.Machine

open Sys2Proof Sys2Proof.Safety

set_option Elab.async false

/-- Every command ends in a next state, by way of `settle`: its row is a meaning over the device. -/
theorem exec_settles (c : Instr) (s : State) : ∃ d, exec c s = .next (s.settle d) := by
  cases c <;> exact ⟨_, rfl⟩

/-! ### Sequences of records -/

theorem consecutive_append {n : BitVec 48} {l m : List EvRec} :
    Consecutive n (l ++ m) ↔ Consecutive n l ∧ Consecutive (n + BitVec.ofNat 48 l.length) m := by
  induction l generalizing n with
  | nil => simp [Consecutive]
  | cons e t ih =>
    have hlen : n + 1 + BitVec.ofNat 48 t.length = n + BitVec.ofNat 48 (e :: t).length := by
      rw [List.length_cons, BitVec.ofNat_add, BitVec.add_assoc, BitVec.add_comm 1]
      rfl
    simp only [List.cons_append, Consecutive, ih, hlen, and_assoc]

/-- Records whose sequences rise by one and end just before `next`. -/
def EndsBefore (next : BitVec 48) (l : List EvRec) : Prop := Consecutive (next - BitVec.ofNat 48 l.length) l

/-- The newest of such records are such records. -/
theorem EndsBefore.suffix {next : BitVec 48} {l m : List EvRec} (h : EndsBefore next (l ++ m)) : EndsBefore next m := by
  have hstart : next - BitVec.ofNat 48 (l ++ m).length + BitVec.ofNat 48 l.length = next - BitVec.ofNat 48 m.length := by
    rw [List.length_append, BitVec.ofNat_add]
    generalize BitVec.ofNat 48 l.length = x, BitVec.ofNat 48 m.length = y
    bv_omega
  rw [EndsBefore, ← hstart]
  exact (consecutive_append.1 h).2

/-- A record with the next sequence follows such records. -/
theorem EndsBefore.snoc {next : BitVec 48} {l : List EvRec} {e : EvRec} (h : EndsBefore next l) (he : e.seq = next) :
    EndsBefore (next + 1) (l ++ [e]) := by
  have hstart : next + 1 - BitVec.ofNat 48 (l ++ [e]).length = next - BitVec.ofNat 48 l.length := by
    rw [List.length_append, List.length_singleton, BitVec.ofNat_add]
    generalize BitVec.ofNat 48 l.length = x
    bv_omega
  rw [EndsBefore, hstart, consecutive_append]
  exact ⟨h, by rw [he, BitVec.sub_add_cancel], trivial⟩

/-! ### Requests to the recorder -/

namespace RecorderKept

variable {r : Recorder}

theorem append (h : RecorderOk r) (q : RecReq) : RecorderOk (r.append q) := by
  obtain ⟨hlen, hseq⟩ := h
  unfold Recorder.append
  dsimp only
  split
  · next hspace => exact ⟨by simp only [List.length_append, List.length_singleton]; omega, EndsBefore.snoc hseq rfl⟩
  · refine ⟨?_, EndsBefore.snoc ?_ rfl⟩
    · simp only [List.length_append, List.length_singleton, List.length_tail]
      have : 0 < recorderSize := by decide
      omega
    · cases hheld : r.held with
      | nil => exact trivial
      | cons e t => exact EndsBefore.suffix (l := [e]) (by rw [hheld] at hseq; exact hseq)

theorem push (h : RecorderOk r) (q : RecReq) : RecorderOk (r.push q) := by
  unfold Recorder.push
  split
  · exact append h q
  · split
    · exact h
    · exact h

theorem appendAll (l : List RecReq) (h : RecorderOk r) : RecorderOk (r.appendAll l) := by
  induction l generalizing r with
  | nil => exact h
  | cons q t ih => exact ih (append h q)

/-- RECORDER CLEAR keeps the newest records (R580). -/
theorem clear (h : RecorderOk r) (last : BitVec 48) : RecorderOk (r.take (.clear last)) := by
  obtain ⟨hlen, hseq⟩ := h
  refine ⟨(by simpa only [Recorder.take, List.length_drop] using (Nat.sub_le _ _).trans hlen), ?_⟩
  refine EndsBefore.suffix (l := r.held.take (r.held.length - ((r.next - last).toNat - 1))) ?_
  exact (List.take_append_drop (r.held.length - ((r.next - last).toNat - 1)) r.held).symm ▸ hseq

theorem take (h : RecorderOk r) (e : Emit) : RecorderOk (r.take e) := by
  cases e with
  | record q => exact push h q
  | reset clear tg =>
    cases clear
    · exact h
    · exact ⟨Nat.zero_le _, trivial⟩
  | start q => exact appendAll _ (append (r := { r with live := true, latched := [] }) h q)
  | live => exact h
  | clear last => exact clear h last
  | filter n => exact h
  | zeroOverwrite => exact h
  | out o => exact h

theorem absorb (l : List Emit) (h : RecorderOk r) : RecorderOk (r.absorb l) := by
  induction l generalizing r with
  | nil => exact h
  | cons e t ih => exact ih (take h e)

/-- The end of a command: the requests of its meaning, then those of posting the rings. -/
theorem settle {s : State} (h : RecorderOk s.evr) (d : Dev) : RecorderOk (s.settle d).evr := absorb _ (absorb d.out h)

/-- The passage of time enters no record, but for a reset that is due. -/
theorem idle {s : State} (h : RecorderOk s.evr) : RecorderOk s.idle.evr := by
  unfold State.idle
  split
  · exact settle h _
  · exact h

theorem step {s t : State} (h : RecorderOk s.evr) (ht : Machine.step s = .next t) : RecorderOk t.evr := by
  unfold Machine.step at ht
  split at ht
  · cases ht
    exact idle h
  · next c rest _ =>
    obtain ⟨d, hd⟩ := exec_settles c { s with pending := rest }
    rw [hd] at ht
    cases ht
    exact settle (s := { s with pending := rest }) h d

end RecorderKept

/-! ### One record entered (R576, R580) -/

section
variable {r : Recorder} (q : RecReq)

/-- The record that a request makes. -/
def RecReq.entered (q : RecReq) (seq : BitVec 48) : EvRec :=
  { seq := seq, time := q.time, node := q.node, unit := q.unit, code := q.code, sev := q.sev, payload := q.payload }

theorem Recorder.push_space (hlive : r.live = true) (hspace : r.held.length < recorderSize) :
    (r.push q).held = r.held ++ [q.entered r.next] ∧ (r.push q).next = r.next + 1 ∧ (r.push q).overwrite = r.overwrite := by
  rw [Recorder.push, if_pos hlive, Recorder.append]
  simp only [hspace, if_true]
  exact ⟨rfl, trivial, trivial⟩

theorem Recorder.push_full (hlive : r.live = true) (hfull : r.held.length = recorderSize) :
    (r.push q).held = r.held.tail ++ [q.entered r.next] ∧ (r.push q).next = r.next + 1 ∧
      (r.push q).overwrite = min (2 ^ 32 - 1) (r.overwrite + 1) ∧
      ∀ x ∈ (r.push q).waiting, some x.seq ≠ r.held.head?.map (·.seq) := by
  have hspace : ¬ r.held.length < recorderSize := by omega
  rw [Recorder.push, if_pos hlive, Recorder.append]
  simp only [hspace, if_false]
  refine ⟨rfl, trivial, trivial, fun x hx => ?_⟩
  exact bne_iff_ne.1 (List.mem_filter.1 hx).2

end

end Sys2Proof.Machine

namespace Sys2Proof

open Sys2Proof.Machine Sys2Proof.Safety

set_option Elab.async false

/-- Settles O1: `step` is defined by the queue's front. -/
theorem stepRunsFrontCommand : Obligations.StepRunsFrontCommand :=
  ⟨fun _ _ _ => rfl, fun s h => by simp only [step, h]⟩

/-- Settles O2: every row is a meaning over the device, whose end keeps the queue. -/
theorem everyCommandCompletesAndKeepsQueue : Obligations.EveryCommandCompletesAndKeepsQueue := fun c s =>
  have ⟨d, hd⟩ := exec_settles c s
  ⟨_, hd, s.settle_pending d⟩

/-- Settles O58: every request to the recorder keeps it so, and a step makes nothing but requests. -/
theorem recorderInvariantKept : Obligations.RecorderInvariantKept := fun _ _ h ht => RecorderKept.step h ht

/-- Settles O59: the recorder of reset holds nothing. -/
theorem recorderOkAfterReset : Obligations.RecorderOkAfterReset := ⟨Nat.zero_le _, trivial⟩

/-- Settles O60, from what a record entered makes of a recorder with space and of a full one. -/
theorem fullRecorderOverwritesItsOldest : Obligations.FullRecorderOverwritesItsOldest := by
  refine ⟨fun r q hlive hspace => ?_, fun r q hlive hfull => ?_⟩
  · obtain ⟨hheld, hnext, hover⟩ := Recorder.push_space q hlive hspace
    exact ⟨by rw [hheld, List.getLast?_concat]; rfl, by rw [hheld, List.dropLast_concat], hnext, hover⟩
  · obtain ⟨hheld, hnext, hover, hwaits⟩ := Recorder.push_full q hlive hfull
    exact ⟨by rw [hheld, List.getLast?_concat]; rfl, by rw [hheld, List.dropLast_concat], hnext, hover,
      List.all_eq_true.2 fun x hx => bne_iff_ne.2 (hwaits x hx)⟩

end Sys2Proof

/-! SUPPORT. What the commands in the contexts have in common, and how it comes through their completion. -/

namespace Sys2Proof.Machine

open Sys2Proof Sys2Proof.Safety

set_option Elab.async false

theorem mem_of_mem_mset {α : Type} [DecidableEq α] {m : List (Nat × α)} {d : α} {k : Nat} {v : α} {e : Nat × α}
    (h : e ∈ mset m d k v) : e = (k, v) ∨ e ∈ m ∧ e.1 ≠ k := by
  unfold mset at h
  split at h
  · exact .inr ⟨mem_of_mem_merase h, merase_ne m k e h⟩
  · exact (mem_of_mem_mins h).imp_right fun h => ⟨mem_of_mem_merase h, merase_ne m k e h⟩

theorem mem_of_mget {α : Type} {m : List (Nat × Option α)} {k : Nat} {v : α} (h : mget m none k = some v) :
    (k, some v) ∈ m := by
  induction m with
  | nil => cases h
  | cons e t ih =>
    obtain ⟨k', w⟩ := e
    by_cases hk : k' = k
    · simp only [mget, if_pos hk] at h
      subst hk h
      exact List.mem_cons_self ..
    · simp only [mget, if_neg hk] at h
      exact List.mem_cons_of_mem _ (ih h)

/-- Every command in a context meets `P`. -/
def EveryCtx (P : Ctx → Prop) (d : Dev) : Prop := ∀ e ∈ d.que.ctxs, ∀ k, e.2 = some k → P k

namespace EveryCtx

variable {P : Ctx → Prop} {d : Dev} {c : Nat} {k : Ctx}

theorem of_ctx (h : EveryCtx P d) (hc : d.ctx c = some k) : P k := h _ (mem_of_mget hc) k rfl

theorem setCtx (h : EveryCtx P d) {x : Option Ctx} (hx : ∀ k, x = some k → P k) : EveryCtx P (d.setCtx c x) := by
  intro e he k hk
  rcases mem_of_mem_mset he with rfl | ⟨he, -⟩
  · exact hx k hk
  · exact h e he k hk

theorem await (h : EveryCtx P d) {w : Wait} (hw : ∀ k, P k → P { k with wait := w }) : EveryCtx P (d.await c w) := by
  unfold Dev.await
  split
  · next k hc =>
    refine h.setCtx fun k' hk' => ?_
    cases hk'
    exact hw k (h.of_ctx hc)
  · exact h

theorem completeRaw (h : EveryCtx P d) (hfin : ∀ k, P k → P { k with wait := .finished }) (st r : Nat) :
    EveryCtx P (d.completeRaw c st r) := by
  have gone : EveryCtx P (d.setCtx c none) := h.setCtx fun _ hk => nomatch hk
  unfold Dev.completeRaw
  dsimp only
  split
  · exact h
  · next k hc =>
    split
    · split
      · exact gone
      · have done : EveryCtx P (d.setCtx c (some { k with wait := .finished })) := h.setCtx fun k' hk' => by
          cases hk'
          exact hfin k (h.of_ctx hc)
        exact done
    · exact gone

end EveryCtx

theorem Dev.waiting_eq_nil {d : Dev} {p : Wait → Bool} : d.waiting p = [] ↔ EveryCtx (fun k => p k.wait = false) d := by
  simp only [Dev.waiting, List.map_eq_nil_iff, List.filter_eq_nil_iff, EveryCtx]
  refine forall₂_congr fun e _ => ?_
  cases e.2 with
  | none => simp
  | some k => simp

theorem Dev.await_mmu (d : Dev) (c : Nat) (w : Wait) : (d.await c w).mmu = d.mmu := by
  unfold Dev.await
  split <;> rfl

theorem Dev.completeRaw_mmu (d : Dev) (c st r : Nat) : (d.completeRaw c st r).mmu = d.mmu := by
  unfold Dev.completeRaw
  dsimp only
  split
  · rfl
  · split
    · split <;> rfl
    · rfl

/-! ### A command that a check before its service ends (R473, R482, R584) -/

/-- Command `k` stands in context `c`, fetched and not started, its queue stays enabled, no power-fail warning keeps it from
starting, the checks before its own pass, and a field that it does not use is not 0. -/
structure Unused (d : Dev) (c : Nat) (k : Ctx) (u : Uses) : Prop where
  ctx : d.ctx c = some k
  fresh : k.wait = .fresh
  unmuted : k.mute = false
  noPowerFail : d.clk.powerFail = false
  verdict : d.verdict k.e = none
  unused : k.e.unusedZero u = false

section
variable {s : State} {c : Nat} {k : Ctx} {mine : Sqe → Bool} {u : Uses} {serve : Dev → Ctx → Dev}

/-- A command that ends before its service posts its completion and changes nothing else. -/
theorem State.ended_after {i : Instr} {st : Nat} (hc : s.dev.ctx c = some k) (hmute : k.mute = false)
    (hi : exec i s = .next (s.settle ((s.fresh.await c .run).complete c st))) :
    After i s fun t => Out.completed k.sq k.e.cid.toNat st 0 ∈ t.sent ∧ SameUnits s.dev t.dev ∧ SameRegs [] s.dev t.dev := by
  have hruns : (s.fresh.await c .run).Runs c k := ⟨Dev.ctx_await_same (d := s.fresh) hc .run, hmute⟩
  have hleaves : Leaves [] s.dev (s.settle ((s.fresh.await c .run).complete c st)).dev :=
    ((Leaves.fresh [] s).trans (.of_calm _ ((Calm.await _ _ _).trans (.complete _ _ _ _)))).settle
  exact ⟨_, hi, hruns.sent s st 0, hleaves.units, hleaves.regs⟩

theorem Unused.after (h : Unused s.dev c k u) {i : Instr} (hi : exec i s = s.run fun d => d.command c mine u serve)
    (hm : mine k.e = true) : After i s fun t =>
      Out.completed k.sq k.e.cid.toNat St.invalidField 0 ∈ t.sent ∧ SameUnits s.dev t.dev ∧ SameRegs [] s.dev t.dev := by
  refine State.ended_after h.ctx h.unmuted (hi.trans ?_)
  rw [s.run_next, Dev.command_unused (d := s.fresh) h.ctx h.fresh h.noPowerFail hm h.verdict h.unused]

/-- The same of a row that asks something of a unit whose clock runs. -/
theorem Unused.after_unit (h : Unused s.dev c k u) {i : Instr} {n : Nat} (hclk : s.dev.clocked n = true)
    (hi : exec i s = State.runUnit n s fun d => d.command c mine u serve) (hm : mine k.e = true) :
    After i s fun t => Out.completed k.sq k.e.cid.toNat St.invalidField 0 ∈ t.sent ∧ SameUnits s.dev t.dev ∧
      SameRegs [] s.dev t.dev := h.after (hi.trans (State.runUnit_clocked hclk _)) hm

end

/-! ### The states in which the life cycle permits a command (R584) -/

theorem permitted_known {l : Nat} {e : Sqe} (h : (e.op == 0x24 || e.op == 0x25) = false) (h41 : (e.op == 0x41) = false) :
    permitted l e = if [0x2A, 0x0A, 0x10, 0x11, 0x12, 0x20, 0x40, 0x30, 0x31].contains e.op then l == 1 || l == 2 || l == 3
      else if (0x18 ≤ e.op && e.op ≤ 0x1C) || 0x80 ≤ e.op then l == 2 || l == 3 else true := by
  have hne : e.op ≠ 0x41 := beq_eq_false_iff_ne.1 h41
  simp only [permitted, h, h41]
  simp [hne]

theorem Dev.verdict_denied {d : Dev} {e : Sqe} (hknown : knownOp e.op = true) (hdenied : permitted d.lifeCycle e = false) :
    d.verdict e = some St.lifeCycleDenied := by
  simp [Dev.verdict, hknown, hdenied]

/-- The row of WRITE, whose unit's clock runs. -/
theorem exec_write_clocked {s : State} {c : Nat} (hclk : s.dev.clocked 10 = true) : exec (.write c) s = s.run fun d =>
    (d.command c (fun e => e.op == 0x81) { volume := true, lba := true, count := true, data := true, seals := true }
      fun d k => d.serveWrite c k).reap := by
  rw [← State.runUnit_clocked hclk]
  rfl

/-- A device without a transfer in progress and without a command that waits to ingest has nothing that moves on. -/
theorem Dev.reap_nothing {d : Dev} (hxfers : d.mmu.xfers = []) (hingest : d.waiting (fun w => w == .ingest) = []) :
    d.reap = d := by
  simp [Dev.reap, Dev.reapBufs, Dev.ingestAll, hxfers, hingest]

/-- Nor has it after the completion of a command. -/
theorem Dev.Runs.reap_complete {d : Dev} {c : Nat} {k : Ctx} (h : d.Runs c k) (hxfers : d.mmu.xfers = [])
    (hingest : d.waiting (fun w => w == .ingest) = []) (st r : Nat) : (d.complete c st r).reap = d.complete c st r := by
  rw [h.complete]
  refine Dev.reap_nothing (by rw [Dev.completeRaw_mmu, hxfers]) (Dev.waiting_eq_nil.2 ?_)
  exact (Dev.waiting_eq_nil.1 hingest).completeRaw (fun _ _ => rfl) st r

end Sys2Proof.Machine

namespace Sys2Proof

open Sys2Proof.Machine Sys2Proof.Safety

set_option Elab.async false

/-- Settles O53: each row is a command row, whose check of the fields ends the command. -/
theorem unusedFieldsAreRefused : Obligations.UnusedFieldsAreRefused := by
  refine ⟨?_, ?_, ?_, ?_, ?_, ?_⟩
  · exact fun _ _ _ hc hw hm hp hmine hv hz hclk => Unused.after_unit ⟨hc, hw, hm, hp, hv, hz⟩ hclk rfl hmine
  · exact fun _ _ _ hc hw hm hp hmine hv hz => Unused.after ⟨hc, hw, hm, hp, hv, hz⟩ rfl hmine
  · exact fun _ _ _ hc hw hm hp hmine hv hz hclk => Unused.after_unit ⟨hc, hw, hm, hp, hv, hz⟩ hclk rfl hmine
  · exact fun _ _ _ hc hw hm hp hmine hv hz hclk => Unused.after_unit ⟨hc, hw, hm, hp, hv, hz⟩ hclk rfl hmine
  · exact fun _ _ _ hc hw hm hp hmine hv hz hclk => Unused.after_unit ⟨hc, hw, hm, hp, hv, hz⟩ hclk rfl hmine
  · exact fun _ _ _ hc hw hm hp hmine hv hz hclk => Unused.after_unit ⟨hc, hw, hm, hp, hv, hz⟩ hclk rfl hmine

/-- Settles O54: Table 16-8 opcode by opcode, and the check of the life cycle before the command's own. -/
theorem lifeCycleDeniesOutsideItsStates : Obligations.LifeCycleDeniesOutsideItsStates := by
  refine ⟨fun l e hl => ?_, fun d e => Dev.verdict_denied, fun s c k hc hw hm hp hmine hdenied hquiet hclk => ?_⟩
  · refine ⟨fun h => ?_, fun h => ?_, fun h => ?_, fun h => ?_, fun h => ?_⟩
    · obtain ⟨h24, h41, hmid, hhigh⟩ := (by decide : ∀ op ∈ [0x01, 0x02, 0x03, 0x04, 0x05, 0x06, 0x08, 0x09, 0x0C, 0x13,
        0x28, 0x29, 0x38, 0x3C], (op == 0x24 || op == 0x25) = false ∧ (op == 0x41) = false ∧
          [0x2A, 0x0A, 0x10, 0x11, 0x12, 0x20, 0x40, 0x30, 0x31].contains op = false ∧
          ((0x18 ≤ op && op ≤ 0x1C) || 0x80 ≤ op) = false) e.op h
      rw [permitted_known h24 h41, hmid, hhigh]
      rfl
    · have h24 : (e.op == 0x24 || e.op == 0x25) = true := by simpa using h
      simp only [permitted, h24, if_true]
      simp [bne, beq_eq_decide]
    · obtain ⟨h24, h41⟩ := (by decide : ∀ op ∈ [0x2A, 0x0A, 0x10, 0x11, 0x12, 0x20, 0x40, 0x30, 0x31],
        (op == 0x24 || op == 0x25) = false ∧ (op == 0x41) = false) e.op h
      rw [permitted_known h24 h41, if_pos (List.contains_iff_mem.2 h)]
      simp [Bool.or_assoc, beq_eq_decide]
    · by_cases h3 : e.at 41 = 3
      · simp [permitted, h, h3, beq_eq_decide]
      · simp [permitted, h, h3, Bool.or_assoc, beq_eq_decide]
    · obtain ⟨h24, h41, hmid, hhigh⟩ := (by decide : ∀ op ∈ [0x18, 0x19, 0x1A, 0x1B, 0x1C, 0x80, 0x81, 0x82, 0x83, 0x84, 0x85],
        (op == 0x24 || op == 0x25) = false ∧ (op == 0x41) = false ∧
          [0x2A, 0x0A, 0x10, 0x11, 0x12, 0x20, 0x40, 0x30, 0x31].contains op = false ∧
          ((0x18 ≤ op && op ≤ 0x1C) || 0x80 ≤ op) = true) e.op h
      rw [permitted_known h24 h41, hmid, hhigh]
      simp [beq_eq_decide]
  · simp only [quiet, Bool.and_eq_true, List.isEmpty_iff, beq_iff_eq] at hquiet
    obtain ⟨⟨⟨hxfers, hingest⟩, -⟩, -⟩ := hquiet
    have hop : k.e.op = 0x81 := by simpa using hmine
    have hknown : knownOp k.e.op = true := by rw [hop]; decide
    have hruns : (s.fresh.await c .run).Runs c k := ⟨Dev.ctx_await_same (d := s.fresh) hc .run, hm⟩
    have hx : (s.fresh.await c .run).mmu.xfers = [] := by rw [Dev.await_mmu]; exact hxfers
    have hfresh : s.fresh.waiting (fun w => w == .ingest) = [] := hingest
    have hnone : (s.fresh.await c .run).waiting (fun w => w == .ingest) = [] :=
      Dev.waiting_eq_nil.2 ((Dev.waiting_eq_nil.1 hfresh).await fun _ _ => rfl)
    refine ⟨_, (exec_write_clocked hclk).trans (s.run_next _), ?_⟩
    rw [Dev.command_refused (d := s.fresh) hc hw hp hmine (Dev.verdict_denied hknown hdenied), hruns.reap_complete hx hnone]
    exact hruns.sent s _ 0

/-- Settles O55, from what a write of CLK_OUT makes of the output. -/
theorem clockOutputStaysBelow200MHz : Obligations.ClockOutputStaysBelow200MHz := by
  intro s val
  obtain ⟨t, ht, -, -, -, hout⟩ := clkOutWrite_drives (s := s) val
  have hbelow : t.dev.clk.clkout = true → clkOutKhz (val.toNat / 2 % 8) ≤ 200000 * (val.toNat / 16 % 256 + 1) := by
    rw [hout]
    simp only [Bool.and_eq_true, decide_eq_true_eq]
    exact fun h => h.1.2
  refine ⟨t, ht, hbelow, fun habove => ?_, fun hsel hdiv => ?_⟩
  · exact Bool.eq_false_iff.2 fun hon => absurd (hbelow hon) (Nat.not_le.2 habove)
  · refine Bool.eq_false_iff.2 fun hon => absurd (hbelow hon) ?_
    rw [hsel, show clkOutKhz 1 = 1562500 from rfl]
    omega

end Sys2Proof

/-! O39, O42, O45, O50. Two kinds of state that these statements admit and in which what they say does not follow: a translation
of the buffer that covers its first bytes only, and a completion queue that can post a completion which names the context of the
command, and frees it. -/

namespace Sys2Proof.Machine

open Sys2Proof Sys2Proof.Safety

set_option Elab.async false

/-- Whether the step of a command ends in a state with `p`. -/
def endsIn (p : State → Bool) (i : Instr) (s : State) : Bool :=
  match exec i s with
  | .next t => p t
  | _ => false

/-- What the step of a command was evaluated to do holds beside what a statement says of it. -/
theorem endsIn.of_after {p : State → Bool} {i : Instr} {s : State} {P : State → Prop} (he : endsIn p i s = true)
    (h : After i s P) : ∃ t, P t ∧ p t = true := by
  obtain ⟨t, ht, hP⟩ := h
  rw [endsIn, ht] at he
  exact ⟨t, hP, he⟩

/-- A command of the admin SQ, just fetched, that uses only the parameters in `e`. -/
def fetchedCtx (e : Sqe) : Ctx := { fullRunCtx with e := e }

/-! ### A translation that ends within the buffer -/

/-- The device with command `e` in context 0, which reaches the first 512 bytes of its buffer and no more: an entry of the TLB
that covers less than the smallest page. -/
def shortPage (e : Sqe) (pool : List (Nat × Nat)) : State :=
  { contextHeld with dev := { contextHeld.dev with
      que := { Que.reset with sqs := [(0, some twoFetched)], ctxs := [(0, some (fetchedCtx e))] }
      mmu := { Mmu.reset with tlb := [{ asid := 0, va := 0x4000, size := 512, frame := 0x5000, r := true, w := true }] }
      set := { contextHeld.dev.set with pool := pool } } }

/-- IDENTIFY of the controller. -/
def identifySqe : Sqe := { fullRun with opcode := 0x01, data := 0x4000 }

/-- SPARE POOL list, of up to 65 discs. -/
def poolListSqe : Sqe := { fullRun with opcode := 0x1B, data := 0x4000, count := 65, b := 2 :: List.replicate 23 0 }

/-- A pool whose list takes 520 bytes. -/
def longPool : List (Nat × Nat) := List.replicate 65 (1, 0)

theorem shortPage_identify : endsIn (fun t => !wrote t.sent 0x5000 4096) (.identify 0) (shortPage identifySqe []) = true := by
  decide +kernel

theorem shortPage_poolList : endsIn (fun t => !wroteBytes t.sent 0x5000 (longPool.flatMap fun q => leBytes 6 q.1 ++ leBytes 2 q.2))
    (.sparePoolList 0) (shortPage poolListSqe longPool) = true := by decide +kernel

/-! ### A completion held for the context of the command -/

/-- The device whose admin CQ can post a completion that names context 0, with command `e` in that context. -/
def heldFor (e : Sqe) (sets : List (Nat × Option DiscSet)) : State :=
  { contextHeld with dev := { contextHeld.dev with
      que := { contextHeld.dev.que with ctxs := [(0, some (fetchedCtx e))] }
      set := { contextHeld.dev.set with sets := sets } } }

/-- SEAL VOLUME of volume 1. -/
def sealSqe : Sqe := { fullRun with opcode := 0x85, volume := 1 }

/-- A set of two members in which no stripe is in flight. -/
def sealedSet : DiscSet :=
  { k := 1, p := 1, cross := false, gen := 1, reserve := 0, members := [(1, 0), (2, 0)], failed := [], spared := [], unread := [],
    offline := false, dead := false, rebuilding := [], reshaping := false, sealedVol := false, reserveNext := 0, owed := [],
    unwritten := [], destroyed := false, home := true, created := 0 }

/-- PEER TAKEOVER of spindle 1 that the peer lets be claimed. -/
def claimSqe : Sqe := { fullRun with opcode := 0x31, b := [0, 0, 2] ++ List.replicate 21 0 }

theorem heldFor_seal : endsIn (fun t => (t.dev.ctx 0).isNone) (.sealVolume 0) (heldFor sealSqe [(1, some sealedSet)]) = true := by
  decide +kernel

theorem heldFor_claim : endsIn (fun t => (t.dev.ctx 0).isNone) (.peerTakeoverClaim 0) (heldFor claimSqe []) = true := by
  decide +kernel

end Sys2Proof.Machine

namespace Sys2Proof

open Sys2Proof.Machine Sys2Proof.Safety

/-- Refutes O39: IDENTIFY writes 4 KiB only where the whole of its buffer translates, and the statement has the translation of
its first byte alone. -/
theorem not_identifyDiagnosticProgress : ¬ Obligations.IdentifyDiagnosticProgress := by
  rintro ⟨hidentify, -⟩
  obtain ⟨t, ⟨-, hwrote⟩, hshort⟩ := endsIn.of_after shortPage_identify
    (hidentify (shortPage identifySqe []) 0 (fetchedCtx identifySqe) 0 0x5000 (by decide +kernel) (by decide) (by decide +kernel)
      rfl rfl (by decide) (by decide +kernel) (by decide) (by decide) rfl)
  rw [hwrote] at hshort
  cases hshort

/-- Refutes O42: a list of the pool that is longer than what the translation of the buffer's first byte covers is not written
whole. -/
theorem not_sparePoolAndSetState : ¬ Obligations.SparePoolAndSetState := by
  rintro ⟨-, -, hlist, -⟩
  obtain ⟨t, ⟨-, hwrote⟩, hshort⟩ := endsIn.of_after shortPage_poolList
    (hlist (shortPage poolListSqe longPool) 0 (fetchedCtx poolListSqe) 0 0x5000 (by decide +kernel) (by decide)
      (by decide +kernel) rfl rfl (by decide) (by decide +kernel) (by decide) (by decide) (by decide) (by decide +kernel))
  rw [show wroteBytes t.sent 0x5000 (longPool.flatMap fun q => leBytes 6 q.1 ++ leBytes 2 q.2) = true from hwrote] at hshort
  cases hshort

/-- Refutes O45: SEAL VOLUME waits in its context, and where a completion queue can post a completion that names this context,
posting it frees the context (R458, R474). -/
theorem not_readVerifyWriteCommitSeal : ¬ Obligations.ReadVerifyWriteCommitSeal := by
  rintro ⟨-, -, -, -, -, -, -, -, hseal, -⟩
  obtain ⟨t, ⟨-, hwaits⟩, hfreed⟩ := endsIn.of_after heldFor_seal
    (hseal (heldFor sealSqe [(1, some sealedSet)]) 0 (fetchedCtx sealSqe) sealedSet (by decide +kernel) (by decide) (by decide)
      (by decide +kernel) (by decide +kernel) (by decide +kernel) (by decide +kernel))
  rw [Option.isNone_iff_eq_none.1 hfreed] at hwaits
  cases hwaits

/-- Refutes O50: PEER TAKEOVER waits for the spindle in its context, which the posting of a completion that names it frees in the
same way. -/
theorem not_peerOwnershipAndHome : ¬ Obligations.PeerOwnershipAndHome := by
  rintro ⟨-, -, hclaim, -⟩
  obtain ⟨t, ⟨-, hwaits⟩, hfreed⟩ := endsIn.of_after heldFor_claim
    (hclaim (heldFor claimSqe []) 0 (fetchedCtx claimSqe) 1 (by decide +kernel) (by decide) (by decide) (by decide) (by decide)
      (by decide +kernel) (by decide +kernel) (by decide +kernel) (by decide +kernel))
  rw [Option.isNone_iff_eq_none.1 hfreed] at hwaits
  cases hwaits

end Sys2Proof

/-! SUPPORT. What transfers, fetches and the posting of the rings keep of the queues and the contexts (R444, R458, R461, R474). -/

namespace Sys2Proof.Machine

open Sys2Proof Sys2Proof.Safety

set_option Elab.async false

/-- The transfers whose bytes are taken out of the context of a command. -/
def Purpose.takesOfCtx : Purpose → Bool
  | .dataWrite _ => true
  | .sealWrite _ => true
  | _ => false

/-- A transfer whose bytes do not come out of a context takes them and leaves the device. -/
theorem Dev.takeBytes_ring (d : Dev) {x : Xfer} (hx : x.what.takesOfCtx = false) (n : Nat) : (d.takeBytes x n).2 = d := by
  unfold Dev.takeBytes
  split
  · next hw => simp [hw, Purpose.takesOfCtx] at hx
  · next hw => simp [hw, Purpose.takesOfCtx] at hx
  · split <;> rfl
  · split <;> rfl
  · rfl

/-- From `a` to `b` the queues, the contexts and the count of fetched entries stay, and nothing that was requested is taken back. -/
structure QueuesKept (a b : Dev) : Prop where
  sqs : b.que.sqs = a.que.sqs
  cqs : b.que.cqs = a.que.cqs
  ctxs : b.que.ctxs = a.que.ctxs
  fetched : b.rd Reg.QUE_CNT_FETCH_COUNT = a.rd Reg.QUE_CNT_FETCH_COUNT
  out : ∀ e ∈ a.out, e ∈ b.out

namespace QueuesKept

variable {a b c : Dev}

theorem refl (a : Dev) : QueuesKept a a := ⟨rfl, rfl, rfl, rfl, fun _ h => h⟩

theorem trans (h : QueuesKept a b) (g : QueuesKept b c) : QueuesKept a c :=
  ⟨g.sqs.trans h.sqs, g.cqs.trans h.cqs, g.ctxs.trans h.ctxs, g.fetched.trans h.fetched, fun e he => g.out e (h.out e he)⟩

/-- `trans`, the second step first: it says from where the first step leads. -/
theorem after (g : QueuesKept b c) (h : QueuesKept a b) : QueuesKept a c := h.trans g

theorem sq (h : QueuesKept a b) (n : Nat) : b.sq n = a.sq n := by rw [Dev.sq, Dev.sq, h.sqs]

theorem cq (h : QueuesKept a b) (n : Nat) : b.cq n = a.cq n := by rw [Dev.cq, Dev.cq, h.cqs]

theorem ctx (h : QueuesKept a b) (n : Nat) : b.ctx n = a.ctx n := by rw [Dev.ctx, Dev.ctx, h.ctxs]

theorem of_same (hq : b.que = a.que := by rfl) (hfv : b.fv = a.fv := by rfl) (ho : b.out = a.out := by rfl) : QueuesKept a b :=
  ⟨by rw [hq], by rw [hq], by rw [hq], by rw [Dev.rd, Dev.rd, hfv], fun _ h => ho ▸ h⟩

theorem wr (d : Dev) (f : Fld) (v i j : Nat) (h : f.key i j ≠ Reg.QUE_CNT_FETCH_COUNT.key 0 0) : QueuesKept d (d.wr f v i j) :=
  ⟨rfl, rfl, rfl, Dev.rd_wr_ne _ _ _ _ _ _ _ _ h.symm, fun _ h => h⟩

theorem bump (d : Dev) (f : Fld) (n i j : Nat) (h : f.key i j ≠ Reg.QUE_CNT_FETCH_COUNT.key 0 0) : QueuesKept d (d.bump f n i j) :=
  wr d f _ i j h

theorem emit (d : Dev) (e : Emit) : QueuesKept d (d.emit e) :=
  ⟨rfl, rfl, rfl, rfl, fun _ h => List.mem_append_left _ h⟩

theorem setErr (d : Dev) (f : Fld) (k i inst addr : Nat) (further : List (Nat × Nat × Nat)) (force : Bool)
    (h : f.key i 0 ≠ Reg.QUE_CNT_FETCH_COUNT.key 0 0) : QueuesKept d (d.setErr f k i inst addr further force) :=
  .after (emit _ _) (wr _ _ _ _ _ h)

theorem msix (d : Dev) (v : Nat) : QueuesKept d (d.msix v) := by
  unfold Dev.msix
  split
  · exact emit d _
  · exact of_same

theorem ringWrite (d : Dev) (phys : Nat) (bytes : List Byte) : QueuesKept d (d.ringWrite phys bytes) :=
  .after (emit _ _) (bump _ _ _ _ _ (by decide))

theorem latchSelf (d : Dev) (q : Bool) (t v : Nat) : QueuesKept d (d.latchSelf q t v) := by
  unfold Dev.latchSelf
  refine .after (msix _ _) (.after (setErr _ _ _ _ _ _ _ _ (by decide)) ?_)
  refine .after (wr _ _ _ _ _ (by decide)) (.after (wr _ _ _ _ _ (by decide)) (.after (wr _ _ _ _ _ (by decide)) ?_))
  exact .after (wr _ _ _ _ _ (by decide)) (.after (wr _ _ _ _ _ (by decide)) (.after (wr _ _ _ _ _ (by decide)) of_same))

theorem selfFault (d : Dev) (x : Xfer) (t : Nat) : QueuesKept d (d.selfFault x t) := by
  unfold Dev.selfFault
  dsimp only
  split
  · split
    · exact of_same
    · exact of_same
  · exact .after (latchSelf _ _ _ _) of_same

theorem adminFault (d : Dev) (source t v : Nat) : QueuesKept d (d.adminFault source t v) := by
  unfold Dev.adminFault
  refine .after (msix _ _) (.after (setErr _ _ _ _ _ _ _ _ (by decide)) ?_)
  refine .after (wr _ _ _ _ _ (by decide)) (.after (wr _ _ _ _ _ (by decide)) (.after (wr _ _ _ _ _ (by decide)) ?_))
  exact .after (wr _ _ _ _ _ (by decide)) (.after (wr _ _ _ _ _ (by decide)) (wr _ _ _ _ _ (by decide)))

theorem opened (d : Dev) (f : OpenFault) : QueuesKept d (d.openFault f) := .after (bump _ _ _ _ _ (by decide)) of_same

theorem fault (d : Dev) (x : Xfer) (t l : Nat) : QueuesKept d (d.fault x t l) := by
  unfold Dev.fault
  split
  · exact selfFault d x t
  · split
    · exact .after (adminFault _ _ _ _) of_same
    · split
      · exact of_same
      · have entered : QueuesKept d (({ d with mmu := { d.mmu with nextFault := (d.mmu.nextFault + 1) % 65536 } }.putX
            { x with st := .parked d.mmu.nextFault }).setErr Reg.MMU_ERR_TYPE t) :=
          .after (setErr _ _ _ _ _ _ _ _ (by decide)) of_same
        dsimp only
        split
        · exact entered.trans (opened _ _)
        · exact .after (setErr _ _ _ _ _ _ _ _ (by decide)) (entered.trans of_same)

theorem endX (d : Dev) (x : Xfer) : QueuesKept d (d.endX x) := by
  unfold Dev.endX
  split
  · exact of_same
  · exact of_same

/-- Such a transfer moves on. -/
theorem drive (k : Nat) (d : Dev) {x : Xfer} (hx : x.what.takesOfCtx = false) : QueuesKept d (Dev.drive k d x) := by
  induction k generalizing d x with
  | zero => exact of_same
  | succ k ih =>
    have hit : QueuesKept d (d.bump Reg.MMU_CNT_HIT_COUNT) := bump _ _ _ _ _ (by decide)
    simp only [Dev.drive]
    split
    · exact endX d x
    · split
      · exact of_same
      · split
        · split
          · exact of_same
          · split
            · rw [Dev.takeBytes_ring _ hx]
              exact .after (ih _ hx) (hit.trans (emit _ _))
            · split
              · exact .trans (hit.trans (emit _ _)) of_same
              · exact hit.trans of_same
        · split
          · exact fault d x _ _
          · split
            · exact fault d x _ _
            · split
              · exact .trans (bump d Reg.MMU_CNT_MISS_COUNT 1 0 0 (by decide)) of_same
              · exact of_same

theorem start (d : Dev) {what : Purpose} (hw : what.takesOfCtx = false) (cls : Nat) (write : Bool) (asid va len sq cid ctx : Nat) :
    QueuesKept d (d.start what cls write asid va len sq cid ctx) := by
  unfold Dev.start
  refine .after (drive _ _ ?_) of_same
  exact hw

theorem askRing (d : Dev) {what : Purpose} (hw : what.takesOfCtx = false) (asid va len : Nat) :
    QueuesKept d (d.askRing what asid va len) := by
  unfold Dev.askRing
  split
  · exact refl d
  · exact start d hw _ _ _ _ _ _ _ _

theorem mirror (d : Dev) (q : Nat) : QueuesKept d (d.mirror q) := by
  unfold Dev.mirror
  split
  · split
    · exact ringWrite _ _ _
    · exact askRing _ rfl _ _ _
  · exact askRing _ rfl _ _ _
  · exact refl d

theorem postFaults (l : List OpenFault) (d : Dev) : QueuesKept d (Machine.postFaults d l) := by
  induction l generalizing d with
  | nil => exact of_same
  | cons f t ih =>
    simp only [Machine.postFaults]
    split
    · exact .after (ih _) (.after (msix _ _) (.trans (ringWrite d _ _) of_same))
    · split
      · exact .after (askRing _ rfl _ _ _) of_same
      · exact of_same

theorem postEvents (l : List EqEnt) (d : Dev) : QueuesKept d (Machine.postEvents d l).1 := by
  induction l generalizing d with
  | nil => exact refl d
  | cons e t ih =>
    simp only [Machine.postEvents]
    split
    · exact .after (ih _) (.after (msix _ _) (.trans (ringWrite d _ _) of_same))
    · split
      · exact askRing d rfl _ _ _
      · exact refl d

/-- Posting the rings where no completion is held. -/
theorem flush {d : Dev} (h : noneHeld d = true) (w : List EqEnt) : QueuesKept d (d.flush w).1 := by
  unfold Dev.flush
  dsimp only
  have faults : QueuesKept d (if d.mmu.toPost.isEmpty = true then d else Machine.postFaults d d.mmu.toPost) := by
    split
    · exact refl d
    · exact Machine.QueuesKept.postFaults _ d
  refine .after (postEvents _ _) (.trans faults ?_)
  have hheld : ∀ e ∈ (if d.mmu.toPost.isEmpty = true then d else Machine.postFaults d d.mmu.toPost).que.cqs, ∀ q,
      e.2 = some q → q.held = [] := fun e he q hq => by
    rw [faults.cqs] at he
    simpa [hq] using List.all_eq_true.1 h e he
  generalize (if d.mmu.toPost.isEmpty = true then d else Machine.postFaults d d.mmu.toPost) = d' at hheld ⊢
  generalize d'.que.cqs = l at hheld ⊢
  induction l with
  | nil => exact refl d'
  | cons e t ih =>
    obtain ⟨n, x⟩ := e
    have rest := ih fun f hf => hheld f (List.mem_cons_of_mem _ hf)
    rw [List.foldl_cons]
    cases x with
    | none => exact rest
    | some q =>
      simp only [hheld (n, some q) List.mem_cons_self q rfl]
      exact rest

theorem settle (s : State) {d : Dev} (h : noneHeld d = true) : (s.settle d).dev.que.sqs = d.que.sqs ∧
    (s.settle d).dev.que.ctxs = d.que.ctxs :=
  have kept := flush (d := { d with out := [] }) h (s.evr.absorb d.out).waiting
  ⟨kept.sqs, kept.ctxs⟩

theorem pickSq {d e : Dev} {n : Nat} (h : d.pickSq = some (n, e)) : QueuesKept d e := by
  unfold Dev.pickSq at h
  dsimp only at h
  split at h
  · cases h
    exact refl d
  · split at h
    · cases h
      exact ⟨rfl, rfl, rfl, rfl, fun _ h => h⟩
    · split at h
      · split at h
        · cases h
          exact ⟨rfl, rfl, rfl, rfl, fun _ h => h⟩
        · cases h
      · cases h

/-- The next fetch of an SQ. -/
theorem fetchNext (d : Dev) : QueuesKept d d.fetchNext := by
  unfold Dev.fetchNext
  split
  · exact refl d
  · split
    · exact refl d
    · split
      · next n e he =>
        split
        · exact (pickSq he).trans (start e rfl _ _ _ _ _ _ _ _)
        · exact pickSq he
      · exact refl d

end QueuesKept

/-! ### Posting keeps of a queue what its commands set -/

/-- An SQ without its head and the slots not yet posted, which posting moves (R458). -/
def Sq.laid (q : Sq) : Sq := { q with head := 0, slots := [] }

/-- A CQ without its tail, its held completions and the count of those not signalled, which posting moves (R474, R475). -/
def Cq.laid (q : Cq) : Cq := { q with tail := 0, phase := false, held := [], unsig := 0 }

/-- From `a` to `b` every queue stays, but for what posting moves. -/
structure QueuesLaid (a b : Dev) : Prop where
  sqs : ∀ n, (b.sq n).map Sq.laid = (a.sq n).map Sq.laid
  cqs : ∀ n, (b.cq n).map Cq.laid = (a.cq n).map Cq.laid

theorem Sq.laid_advance (q : Sq) (l : List Bool) : (q.advance l).laid = q.laid := by
  induction l generalizing q with
  | nil => rfl
  | cons x t ih =>
    cases x
    · rfl
    · exact ih _

theorem Sq.laid_posted (q : Sq) (slot : Nat) : (q.posted slot).laid = q.laid := Sq.laid_advance _ _

theorem Dev.sq_setSq_same (d : Dev) (n : Nat) (x : Option Sq) : (d.setSq n x).sq n = x := mget_mset_same d.que.sqs none x n

theorem Dev.sq_setSq_ne (d : Dev) {n m : Nat} (x : Option Sq) (h : m ≠ n) : (d.setSq n x).sq m = d.sq m :=
  mget_mset_ne d.que.sqs none none x h

theorem Dev.cq_setCq_same (d : Dev) (n : Nat) (x : Option Cq) : (d.setCq n x).cq n = x := mget_mset_same d.que.cqs none x n

theorem Dev.cq_setCq_ne (d : Dev) {n m : Nat} (x : Option Cq) (h : m ≠ n) : (d.setCq n x).cq m = d.cq m :=
  mget_mset_ne d.que.cqs none none x h

namespace QueuesLaid

variable {a b c : Dev}

theorem refl (a : Dev) : QueuesLaid a a := ⟨fun _ => rfl, fun _ => rfl⟩

theorem trans (h : QueuesLaid a b) (g : QueuesLaid b c) : QueuesLaid a c :=
  ⟨fun n => (g.sqs n).trans (h.sqs n), fun n => (g.cqs n).trans (h.cqs n)⟩

theorem of_kept (h : QueuesKept a b) : QueuesLaid a b := ⟨fun n => by rw [h.sq], fun n => by rw [h.cq]⟩

theorem setSq {d : Dev} {n : Nat} {q x : Sq} (h : d.sq n = some q) (hx : x.laid = q.laid) : QueuesLaid d (d.setSq n (some x)) := by
  refine ⟨fun m => ?_, fun _ => rfl⟩
  by_cases hm : m = n
  · rw [hm, Dev.sq_setSq_same, h, Option.map_some, Option.map_some, hx]
  · rw [Dev.sq_setSq_ne _ _ hm]

theorem setCq {d : Dev} {n : Nat} {q x : Cq} (h : d.cq n = some q) (hx : x.laid = q.laid) : QueuesLaid d (d.setCq n (some x)) := by
  refine ⟨fun _ => rfl, fun m => ?_⟩
  by_cases hm : m = n
  · rw [hm, Dev.cq_setCq_same, h, Option.map_some, Option.map_some, hx]
  · rw [Dev.cq_setCq_ne _ _ hm]

end QueuesLaid

/-- From `a` to `b` completion queue `n` posted, and no other. -/
structure PostedTo (n : Nat) (a b : Dev) : Prop extends QueuesLaid a b where
  others : ∀ m, m ≠ n → b.cq m = a.cq m

namespace PostedTo

variable {n : Nat} {a b c : Dev}

theorem refl (a : Dev) : PostedTo n a a := ⟨.refl a, fun _ _ => rfl⟩

theorem trans (h : PostedTo n a b) (g : PostedTo n b c) : PostedTo n a c :=
  ⟨h.toQueuesLaid.trans g.toQueuesLaid, fun m hm => (g.others m hm).trans (h.others m hm)⟩

theorem after (g : PostedTo n b c) (h : PostedTo n a b) : PostedTo n a c := h.trans g

theorem of_kept (h : QueuesKept a b) : PostedTo n a b := ⟨.of_kept h, fun m _ => h.cq m⟩

theorem of_que (hs : b.que.sqs = a.que.sqs) (hc : b.que.cqs = a.que.cqs) : PostedTo n a b :=
  ⟨⟨fun m => by rw [Dev.sq, Dev.sq, hs], fun m => by rw [Dev.cq, Dev.cq, hc]⟩, fun m _ => by rw [Dev.cq, Dev.cq, hc]⟩

theorem setCq {d : Dev} {q x : Cq} (h : d.cq n = some q) (hx : x.laid = q.laid) : PostedTo n d (d.setCq n (some x)) :=
  ⟨.setCq h hx, fun _ hm => Dev.cq_setCq_ne _ _ hm⟩

/-- Posting moves the heads of the SQs and the tail of the CQ. -/
theorem postCq (l : List Cqe) (d : Dev) : PostedTo n d (Machine.postCq d n l) := by
  induction l generalizing d with
  | nil => exact refl d
  | cons e t ih =>
    have slot : PostedTo n d (match d.sq e.sq with | some s => d.setSq e.sq (some (s.posted e.slot)) | none => d) ∧
        (match d.sq e.sq with | some s => d.setSq e.sq (some (s.posted e.slot)) | none => d).cq n = d.cq n := by
      split
      · next s hs => exact ⟨⟨.setSq hs (s.laid_posted _), fun _ _ => rfl⟩, rfl⟩
      · exact ⟨refl d, rfl⟩
    have mirrored (d : Dev) (same : Bool) : PostedTo n d (if same = true then d else d.mirror e.sq) := by
      split
      · exact refl d
      · exact of_kept (.mirror d _)
    have signalled (d : Dev) (now : Bool) (v : Nat) : PostedTo n d (if now = true then d.msix v else d) := by
      split
      · exact of_kept (.msix d v)
      · exact refl d
    simp only [Machine.postCq]
    split
    · exact refl d
    · next q hq =>
      split
      · exact refl d
      · split
        · exact of_kept (.askRing d rfl _ _ _)
        · split
          · exact refl d
          · refine .trans ?_ (ih _)
            refine .after (signalled _ _ _) (.after (mirrored _ _) ?_)
            refine .trans (.trans (slot.1.trans (of_kept (.ringWrite _ _ _))) (setCq (q := q) ?_ ?_)) (of_que rfl rfl)
            · exact slot.2.trans hq
            · rfl

end PostedTo

namespace QueuesLaid

variable {a b c : Dev}

theorem foldl {α : Type} {f : Dev → α → Dev} (h : ∀ d x, QueuesLaid d (f d x)) (l : List α) (d : Dev) :
    QueuesLaid d (l.foldl f d) := by
  induction l generalizing d with
  | nil => exact refl d
  | cons x t ih => exact (h d x).trans (ih _)

theorem flush (d : Dev) (w : List EqEnt) : QueuesLaid d (d.flush w).1 := by
  unfold Dev.flush
  dsimp only
  refine .trans (.trans (of_kept ?_) (foldl (fun d x => ?_) _ _)) (of_kept (.postEvents _ _))
  · split
    · exact .refl d
    · exact .postFaults _ d
  · split
    · exact (PostedTo.postCq _ _).toQueuesLaid
    · exact refl d

theorem settle (s : State) (d : Dev) : QueuesLaid d (s.settle d).dev :=
  have kept := flush { d with out := [] } (s.evr.absorb d.out).waiting
  ⟨kept.sqs, kept.cqs⟩

/-- A completion goes to the held ones of its CQ. -/
theorem completeRaw (d : Dev) (c st r : Nat) : QueuesLaid d (d.completeRaw c st r) := by
  unfold Dev.completeRaw
  dsimp only
  split
  · exact refl d
  · split
    · next q hq =>
      split
      · exact ⟨fun _ => rfl, fun _ => rfl⟩
      · refine ⟨fun _ => rfl, (setCq (q := q) ?_ ?_).cqs⟩
        · exact hq
        · rfl
    · exact ⟨fun _ => rfl, fun _ => rfl⟩

end QueuesLaid

/-- A CQ that holds no completion posts none. -/
theorem Dev.flush_cq {d : Dev} {n : Nat} (h : ∀ e ∈ d.que.cqs, e.1 = n → ∀ q, e.2 = some q → q.held = []) (w : List EqEnt) :
    (d.flush w).1.cq n = d.cq n := by
  have faults : QueuesKept d (if d.mmu.toPost.isEmpty = true then d else postFaults d d.mmu.toPost) := by
    split
    · exact .refl d
    · exact .postFaults _ d
  unfold Dev.flush
  dsimp only
  rw [(QueuesKept.postEvents _ _).cq, ← faults.cq]
  rw [← faults.cqs] at h
  generalize (if d.mmu.toPost.isEmpty = true then d else postFaults d d.mmu.toPost) = d' at h ⊢
  generalize d'.que.cqs = l at h ⊢
  induction l generalizing d' with
  | nil => rfl
  | cons e t ih =>
    obtain ⟨m, x⟩ := e
    rw [List.foldl_cons]
    have rest (d' : Dev) := ih d' fun f hf => h f (List.mem_cons_of_mem _ hf)
    cases x with
    | none => exact rest d'
    | some q =>
      by_cases hm : m = n
      · simp only [h (m, some q) List.mem_cons_self hm q rfl]
        exact rest d'
      · exact (rest _).trans ((PostedTo.postCq q.held d').others n (Ne.symm hm))

theorem State.settle_cq {d : Dev} {n : Nat} (s : State) (h : ∀ e ∈ d.que.cqs, e.1 = n → ∀ q, e.2 = some q → q.held = []) :
    (s.settle d).dev.cq n = d.cq n := Dev.flush_cq (d := { d with out := [] }) h (s.evr.absorb d.out).waiting

end Sys2Proof.Machine

/-! SUPPORT. Polling, fetching and coalescing (R453 to R455, R461, R475). -/

namespace Sys2Proof.Machine

open Sys2Proof Sys2Proof.Safety

set_option Elab.async false

theorem Dev.foldl_same {α β : Type} {g : Dev → β} {f : Dev → α → Dev} (h : ∀ d x, g (f d x) = g d) (l : List α) (d : Dev) :
    g (l.foldl f d) = g d := by
  induction l generalizing d with
  | nil => rfl
  | cons x t ih => exact (ih _).trans (h d x)

/-- What a queue is set to be, read after posting. -/
theorem QueuesLaid.sq_map {a b : Dev} (h : QueuesLaid a b) {α : Type} (f : Sq → α) (hf : ∀ q, f q.laid = f q) (n : Nat) :
    (b.sq n).map f = (a.sq n).map f := by
  have laid (x : Option Sq) : (x.map Sq.laid).map f = x.map f := by cases x <;> simp [hf]
  rw [← laid, h.sqs, laid]

theorem QueuesLaid.cq_map {a b : Dev} (h : QueuesLaid a b) {α : Type} (f : Cq → α) (hf : ∀ q, f q.laid = f q) (n : Nat) :
    (b.cq n).map f = (a.cq n).map f := by
  have laid (x : Option Cq) : (x.map Cq.laid).map f = x.map f := by cases x <;> simp [hf]
  rw [← laid, h.cqs, laid]

theorem QueuesLaid.sq_none {a b : Dev} (h : QueuesLaid a b) {n : Nat} (ha : a.sq n = none) : b.sq n = none := by
  have := h.sqs n
  rwa [ha, Option.map_none, Option.map_eq_none_iff] at this

theorem QueuesLaid.cq_none {a b : Dev} (h : QueuesLaid a b) {n : Nat} (ha : a.cq n = none) : b.cq n = none := by
  have := h.cqs n
  rwa [ha, Option.map_none, Option.map_eq_none_iff] at this

theorem Dev.rd_msix (d : Dev) (v : Nat) (f : Fld) (i j : Nat) : (d.msix v).rd f i j = d.rd f i j := by
  unfold Dev.msix
  split <;> rfl

section
variable (d : Dev)

/-- A fault of polling stops it and is latched (R455). -/
theorem Dev.adminFault_latches {source t : Nat} (v : Nat) (ht : t < 6) (hs : source < 2) :
    (d.adminFault source t v).flag Reg.QUE_STATUS_POLL_STOPPED = true ∧
    (d.adminFault source t v).flag Reg.QUE_ADMIN_FAULT_VALID = true ∧ (d.adminFault source t v).rd Reg.QUE_ADMIN_FAULT_TYPE = t ∧
    (d.adminFault source t v).rd Reg.QUE_ADMIN_FAULT_SOURCE = source ∧
    (d.adminFault source t v).rd Reg.QUE_ADMIN_VA_LO_VA = v % 2 ^ 32 ∧
    (d.adminFault source t v).flag Reg.QUE_ERR_ADMIN_FAULT = true := by
  have latched (e : Dev) : ((e.setErr Reg.QUE_ERR_ADMIN_FAULT).msix 0).flag Reg.QUE_ERR_ADMIN_FAULT = true :=
    (Dev.flag_congr (Dev.rd_msix _ _ _ _ _)).trans (Dev.flag_setErr_same e rfl 0 0 0 [] false)
  refine ⟨?_, ?_, ?_, ?_, ?_, latched _⟩
  · simp (disch := decide) only [Dev.flag, Dev.adminFault, Dev.rd_msix, Dev.rd_setErr_ne, Dev.rd_wr_ne, Dev.rd_wr_same]
    rfl
  · simp (disch := decide) only [Dev.flag, Dev.adminFault, Dev.rd_msix, Dev.rd_setErr_ne, Dev.rd_wr_ne, Dev.rd_wr_same]
    rfl
  · simp (disch := decide) only [Dev.adminFault, Dev.rd_msix, Dev.rd_setErr_ne, Dev.rd_wr_ne, Dev.rd_wr_same]
    exact Nat.mod_eq_of_lt (ht.trans (by decide))
  · simp (disch := decide) only [Dev.adminFault, Dev.rd_msix, Dev.rd_setErr_ne, Dev.rd_wr_ne, Dev.rd_wr_same]
    exact Nat.mod_eq_of_lt (hs.trans_le (by decide))
  · simp (disch := decide) only [Dev.adminFault, Dev.rd_msix, Dev.rd_setErr_ne, Dev.rd_wr_ne, Dev.rd_wr_same]
    exact Nat.mod_mod _ _

theorem Dev.readHead_sqs (n head : Nat) : (d.readHead n head).que.sqs = d.que.sqs := by
  unfold Dev.readHead
  split
  · split <;> rfl
  · rfl

/-- A tail inside the ring is taken (R453). -/
theorem Dev.readTail_takes {n tail : Nat} {q : Sq} (h : d.sq n = some q) (ht : tail % 65536 < q.size) :
    (d.readTail n tail).sq n = some { q with tail := tail % 65536 } := by
  unfold Dev.readTail
  simp only [h, Nat.not_le.2 ht, if_false]
  exact Dev.sq_setSq_same _ _ _

/-- A poll that runs and reads no fault and no tail but the admin SQ's takes that one (R453, R454). -/
theorem Dev.poll_takes {rd : DoorbellRead} {q : Sq} (hen : d.flag Reg.QUE_STATUS_ENABLED = true)
    (hrun : d.flag Reg.QUE_STATUS_POLL_STOPPED = false) (hbme : d.bme = true) (hok : rd.fault = none) (hnone : rd.tails = [])
    (hq : d.sq 0 = some q) (ht : rd.adminTail % 65536 < q.size) :
    ((d.poll rd).sq 0).map (·.tail) = some (rd.adminTail % 65536) := by
  have gens (l : List Nat) (d : Dev) : (l.foldl (fun (d : Dev) g =>
      { d with que := { d.que with gens := mset d.que.gens 0 g (rd.counters.getD g 0).toNat } }) d).sq 0 = d.sq 0 := by
    refine Dev.foldl_same (g := fun d => d.sq 0) ?_ l d
    exact fun _ _ => rfl
  have heads (l : List (Nat × Nat)) (d : Dev) : (l.foldl (fun d e => d.readHead e.1 e.2) d).sq 0 = d.sq 0 :=
    Dev.foldl_same (g := fun d => d.sq 0) (fun d e => by rw [Dev.sq, Dev.sq, Dev.readHead_sqs]) l d
  have tailRead (d : Dev) (h : d.sq 0 = some q) :
      (((d.readHead 0 rd.adminCqHead).readTail 0 rd.adminTail).sq 0).map (·.tail) = some (rd.adminTail % 65536) := by
    rw [Dev.readTail_takes (d.readHead 0 rd.adminCqHead) (by rw [Dev.sq, Dev.readHead_sqs]; exact h) ht]
    rfl
  unfold Dev.poll
  simp only [hen, hrun, hbme, hok, hnone, Bool.not_true, Bool.or_self, Bool.false_eq_true, if_false, List.filter_nil, List.foldl_nil]
  rw [(QueuesKept.fetchNext _).sq, heads]
  exact tailRead _ ((gens _ _).trans hq)

/-- A well-formed entry whose opcode is known takes a free context, as a command not started (R461). -/
theorem Dev.takeEntries_one {q c : Nat} {e : Sqe} {a : Sq} (hq : d.sq q = some a) (hform : d.malformed q a e = none)
    (hknown : (knownOp e.op && !rowless e) = true) (hfree : d.freeCtx q = some c) :
    ((d.takeEntries q [e]).ctx c).map (fun k => (k.sq, k.e, k.wait)) = some (q, e, .fresh) ∧
    ((d.takeEntries q [e]).sq q).map (·.fetch) = some ((a.fetch + 1) % a.size) ∧
    (d.takeEntries q [e]).que.cqs = d.que.cqs ∧
    (d.takeEntries q [e]).rd Reg.QUE_CNT_FETCH_COUNT = d.rd Reg.QUE_CNT_FETCH_COUNT := by
  have hop : (!knownOp e.op || rowless e) = false := by
    simp only [Bool.and_eq_true, Bool.not_eq_true'] at hknown
    rw [hknown.1, hknown.2]
    rfl
  have entered (d : Dev) (k : Ctx) : (d.setCtx c (some k)).ctx c = some k := mget_mset_same d.que.ctxs none (some k) c
  have moved : ((d.setSq q (some { a with fetch := (a.fetch + 1) % a.size, slots := a.slots ++ [false] })).sq q).map (·.fetch) =
      some ((a.fetch + 1) % a.size) := by
    rw [Dev.sq_setSq_same]
    rfl
  simp only [Dev.takeEntries, hq, hform, hfree, hop, Bool.false_eq_true, if_false]
  refine ⟨congrArg _ (entered _ _), moved, rfl, ?_⟩
  exact Dev.rd_wr_ne _ _ _ _ _ _ _ _ (by decide)

end

section
variable {s : State}

theorem doorbellPoll_latches {rd : DoorbellRead} {type : Fin 6} {va : Nat} (hen : s.dev.flag Reg.QUE_STATUS_ENABLED = true)
    (hrun : s.dev.flag Reg.QUE_STATUS_POLL_STOPPED = false) (hbme : s.dev.bme = true) (hfault : rd.fault = some (type, va)) :
    After (.doorbellPoll rd) s fun t => t.dev.flag Reg.QUE_STATUS_POLL_STOPPED = true ∧
      t.dev.flag Reg.QUE_ADMIN_FAULT_VALID = true ∧ t.dev.rd Reg.QUE_ADMIN_FAULT_TYPE = type.val ∧
      t.dev.rd Reg.QUE_ADMIN_FAULT_SOURCE = 0 ∧ t.dev.rd Reg.QUE_ADMIN_VA_LO_VA = va % 2 ^ 32 ∧
      t.dev.flag Reg.QUE_ERR_ADMIN_FAULT = true := by
  have hpoll : s.fresh.poll rd = s.fresh.adminFault 0 type.val va := by
    unfold Dev.poll
    rw [show s.fresh.flag Reg.QUE_STATUS_ENABLED = true from hen, show s.fresh.flag Reg.QUE_STATUS_POLL_STOPPED = false from hrun,
      show s.fresh.bme = true from hbme, if_neg (by decide), hfault]
  refine ⟨s.settle (s.fresh.poll rd), rfl, ?_⟩
  dsimp only
  rw [hpoll, State.settle_flag _ _ _ _ _ (by decide), State.settle_flag _ _ _ _ _ (by decide),
    State.settle_rd _ _ _ _ _ (by decide), State.settle_rd _ _ _ _ _ (by decide), State.settle_rd _ _ _ _ _ (by decide),
    State.settle_flag _ _ _ _ _ (by decide)]
  exact s.fresh.adminFault_latches va type.isLt (by decide)

theorem doorbellPoll_takes {rd : DoorbellRead} {q : Sq} (hen : s.dev.flag Reg.QUE_STATUS_ENABLED = true)
    (hrun : s.dev.flag Reg.QUE_STATUS_POLL_STOPPED = false) (hbme : s.dev.bme = true) (hok : rd.fault = none)
    (hnone : rd.tails = []) (hq : s.dev.sq 0 = some q) (ht : rd.adminTail % 65536 < q.size) :
    After (.doorbellPoll rd) s fun t => (t.dev.sq 0).map (·.tail) = some (rd.adminTail % 65536) := by
  refine ⟨s.settle (s.fresh.poll rd), rfl, ?_⟩
  dsimp only
  rw [(QueuesLaid.settle s _).sq_map (·.tail) fun _ => rfl]
  exact s.fresh.poll_takes hen hrun hbme hok hnone hq ht

/-- The one entry that a fetch was to bring arrives. -/
theorem Dev.entriesFetched_one {d : Dev} {q : Nat} {e : Sqe} {x : Xfer} {a : Sq} (hq : d.sq q = some a)
    (hx : d.mmu.xfers.find? (fun z => z.what == .sqFetch q) = some x) (hst : x.st = .issued x.left)
    (hlen : x.va + x.left = a.base + 64 * a.fetch + 64) :
    d.entriesFetched q [e] = (((d.dropX x.id).bump Reg.QUE_CNT_FETCH_COUNT 1).takeEntries q [e]).fetchNext := by
  have hone : (x.va + x.left - (a.base + 64 * a.fetch)) / 64 = 1 := by omega
  have harrived : (x.st == .done || x.st == .issued x.left) = true := by simp [hst]
  unfold Dev.entriesFetched
  simp only [hq, hx, harrived, if_true, hone]
  rfl

theorem sqEntryFetch_takes {q c : Nat} {e : Sqe} {x : Xfer} {a : Sq} (hq : s.dev.sq q = some a)
    (hx : s.dev.mmu.xfers.find? (fun z => z.what == .sqFetch q) = some x) (hst : x.st = .issued x.left)
    (hlen : x.va + x.left = a.base + 64 * a.fetch + 64) (hform : s.dev.malformed q a e = none)
    (hknown : (knownOp e.op && !rowless e) = true) (hfree : s.dev.freeCtx q = some c) (hheld : noneHeld s.dev = true) :
    After (.sqEntryFetch q [e]) s fun t => (t.dev.ctx c).map (fun k => (k.sq, k.e, k.wait)) = some (q, e, .fresh) ∧
      (t.dev.sq q).map (·.fetch) = some ((a.fetch + 1) % a.size) ∧ t.dev.rd Reg.QUE_CNT_FETCH_COUNT =
        min (2 ^ Reg.QUE_CNT_FETCH_COUNT.w - 1) (s.dev.rd Reg.QUE_CNT_FETCH_COUNT + 1) := by
  obtain ⟨hctx, hfetch, hcqs, hcount⟩ :=
    ((s.fresh.dropX x.id).bump Reg.QUE_CNT_FETCH_COUNT 1).takeEntries_one hq hform hknown hfree
  have kept := QueuesKept.fetchNext (((s.fresh.dropX x.id).bump Reg.QUE_CNT_FETCH_COUNT 1).takeEntries q [e])
  have hnone : noneHeld (s.fresh.entriesFetched q [e]) = true := by
    rw [Dev.entriesFetched_one (d := s.fresh) hq hx hst hlen, noneHeld, kept.cqs, hcqs]
    exact hheld
  obtain ⟨hsqs, hctxs⟩ := QueuesKept.settle s hnone
  refine ⟨s.settle (s.fresh.entriesFetched q [e]), rfl, ?_⟩
  dsimp only
  rw [Dev.ctx, Dev.sq, hctxs, hsqs, State.settle_rd _ _ _ _ _ (by decide),
    Dev.entriesFetched_one (d := s.fresh) hq hx hst hlen, kept.ctxs, kept.sqs, kept.fetched, hcount]
  exact ⟨hctx, hfetch, Dev.rd_bump_same _ _ _ _ _⟩

theorem coalesceTimeout_signals {n : Nat} {q : Cq} (hq : s.dev.cq n = some q) (hunsig : q.unsig ≠ 0) (hbme : s.dev.bme = true)
    (hopen : mget s.dev.msixTab 1 (4 * q.vector + 3) % 2 = 0) :
    After (.coalesceTimeout n) s fun t => Out.msix q.vector ∈ t.sent := by
  have hbme' : (s.fresh.setCq n (some { q with unsig := 0 })).bme = true := hbme
  have hopen' : mget (s.fresh.setCq n (some { q with unsig := 0 })).msixTab 1 (4 * q.vector + 3) % 2 = 0 := hopen
  have hmsix : Emit.out (.msix q.vector) ∈ ((s.fresh.setCq n (some { q with unsig := 0 })).msix q.vector).out := by
    rw [Dev.msix, hbme', hopen']
    exact List.mem_append_right _ (List.mem_singleton.2 rfl)
  refine ⟨_, rfl, State.mem_sent _ _ _ (mem_outsOf.2 ?_)⟩
  dsimp only
  rw [show s.fresh.cq n = some q from hq]
  simp only [hunsig, if_false]
  exact hmsix

end

end Sys2Proof.Machine

namespace Sys2Proof

open Sys2Proof.Machine Sys2Proof.Safety

set_option Elab.async false

/-- Settles O36, a lemma per clause. That the context taken is the lowest free one is the model's choice (log entry 44), which
R461 leaves open. -/
theorem pollingFetchAndCoalescing : Obligations.PollingFetchAndCoalescing :=
  ⟨fun _ _ _ _ hen hrun hbme hfault _ => doorbellPoll_latches hen hrun hbme hfault,
    fun _ _ _ hen hrun hbme hok hnone hq ht _ => doorbellPoll_takes hen hrun hbme hok hnone hq ht,
    fun _ _ _ _ _ _ hq hx hst hlen hform hknown hfree hheld => sqEntryFetch_takes hq hx hst hlen hform hknown hfree hheld,
    fun _ _ _ hq hunsig hbme hopen => coalesceTimeout_signals hq hunsig hbme hopen⟩

end Sys2Proof

/-! SUPPORT. The queue commands (R465 to R471). -/

namespace Sys2Proof.Machine

open Sys2Proof Sys2Proof.Safety

set_option Elab.async false

theorem Dev.sq_await (d : Dev) (c : Nat) (w : Wait) (n : Nat) : (d.await c w).sq n = d.sq n := by
  unfold Dev.await
  split <;> rfl

theorem Dev.sqs_await (d : Dev) (c : Nat) (w : Wait) : (d.await c w).que.sqs = d.que.sqs := by
  unfold Dev.await
  split <;> rfl

theorem Dev.cqs_await (d : Dev) (c : Nat) (w : Wait) : (d.await c w).que.cqs = d.que.cqs := by
  unfold Dev.await
  split <;> rfl

theorem Dev.root_await (d : Dev) (c : Nat) (w : Wait) (n : Nat) : (d.await c w).root n = d.root n := by
  unfold Dev.await
  split <;> rfl

theorem Dev.mem_setCq {d : Dev} {n : Nat} {x : Option Cq} {e : Nat × Option Cq} (h : e ∈ (d.setCq n x).que.cqs) :
    e = (n, x) ∨ e ∈ d.que.cqs ∧ e.1 ≠ n := mem_of_mem_mset h

/-- A command runs on as long as its context stays. -/
theorem Dev.Runs.of_ctxs {a b : Dev} {c : Nat} {k : Ctx} (h : a.Runs c k) (hc : b.que.ctxs = a.que.ctxs) : b.Runs c k :=
  ⟨(show b.ctx c = a.ctx c by rw [Dev.ctx, Dev.ctx, hc]).trans h.1, h.2⟩

/-- A command that completes sends its completion, and leaves the queues as posting can leave them. -/
theorem Dev.Runs.after {d : Dev} {c : Nat} {k : Ctx} (h : d.Runs c k) {s : State} {i : Instr} {st r : Nat}
    (hi : exec i s = .next (s.settle (d.complete c st r))) :
    After i s fun t => Out.completed k.sq k.e.cid.toNat st (BitVec.ofNat 64 r) ∈ t.sent ∧ QueuesLaid d t.dev := by
  refine ⟨_, hi, h.sent s st r, ?_⟩
  rw [h.complete]
  exact .trans (.completeRaw d c st r) (.settle s _)

/-! ### What each of them makes of a queue -/

section
variable {d : Dev} {c : Nat}

/-- The SQ that a CREATE QUEUE asks for (R465). -/
def newSq (e : Sqe) : Sq :=
  { state := 0, asid := e.at 44, prio := e.at 45, cq := e.le 46 2, size := e.le 48 2 + 1, base := e.data.toNat,
    limit := e.le 50 2, fetch := 0, head := 0, tail := 0, latched := 0, cause := 0, slots := [], discarded := 0, ended := 0 }

/-- The CQ that a CREATE QUEUE asks for, with the coalescing time that the model draws (R466). -/
def newCq (e : Sqe) (timeUs : Nat) : Cq :=
  { err := false, asid := e.at 44, vector := e.le 46 2, size := e.le 48 2 + 1, base := e.data.toNat, tail := 0,
    phase := true, head := 0, held := [], unsig := 0, count := 0, timeUs := timeUs }

theorem Dev.createSq_valid {e : Sqe} (hnew : d.sq (e.le 42 2) = none) (hn : e.le 42 2 ≠ 0) (hmax : e.le 42 2 ≤ 512)
    (hsize : e.le 48 2 ≠ 0) (hpage : e.data.toNat % 4096 = 0) (hva : e.data.toNat < 2 ^ 48)
    (hroot : (d.root (e.at 44)).isSome = true) (hprio : e.at 45 ≤ 3) (hcq : (d.cq (e.le 46 2)).isSome = true) :
    d.createSq c e = ((d.setSq (e.le 42 2) (some (newSq e))).mirror (e.le 42 2)).complete c St.success := by
  have hid : (decide (e.le 42 2 = 0) || decide (512 < e.le 42 2) || (d.sq (e.le 42 2)).isSome) = false := by
    simp [hn, Nat.not_lt.2 hmax, hnew]
  have hring : (decide (e.le 48 2 = 0) || e.data.toNat % 4096 != 0 || decide (2 ^ 48 ≤ e.data.toNat)) = false := by
    simp [hsize, hpage]
    omega
  have hspace : (d.root (e.at 44)).isNone = false := by simpa using hroot
  have hcq' : (d.cq (e.le 46 2)).isNone = false := by simpa using hcq
  unfold Dev.createSq
  simp only [hid, hring, hspace, hcq', Nat.not_lt.2 hprio, Bool.false_eq_true, if_false]
  rfl

theorem Dev.createCq_valid {e : Sqe} (hnew : d.cq (e.le 42 2) = none) (hn : e.le 42 2 ≠ 0) (hmax : e.le 42 2 ≤ 512)
    (hsize : e.le 48 2 ≠ 0) (hpage : e.data.toNat % 4096 = 0) (hva : e.data.toNat < 2 ^ 48)
    (hroot : (d.root (e.at 44)).isSome = true) (h45 : e.at 45 = 0) (h50 : e.le 50 2 = 0) (hvec : e.le 46 2 ≤ 1023) :
    d.createCq c e = ((d.draw 16).2.setCq (e.le 42 2) (some (newCq e (d.draw 16).1))).complete c St.success := by
  have hfields : (e.at 45 != 0 || e.le 50 2 != 0) = false := by simp [h45, h50]
  have hid : (decide (e.le 42 2 = 0) || decide (512 < e.le 42 2) || ((d.draw 16).2.cq (e.le 42 2)).isSome) = false := by
    simp [hn, Nat.not_lt.2 hmax, show (d.draw 16).2.cq (e.le 42 2) = none from hnew]
  have hring : (decide (e.le 48 2 = 0) || e.data.toNat % 4096 != 0 || decide (2 ^ 48 ≤ e.data.toNat)) = false := by
    simp [hsize, hpage]
    omega
  have hspace : ((d.draw 16).2.root (e.at 44)).isNone = false := by
    rw [show (d.draw 16).2.root (e.at 44) = d.root (e.at 44) from rfl]
    simpa using hroot
  unfold Dev.createCq
  simp only [hfields, hid, hring, hspace, Nat.not_lt.2 hvec, Bool.false_eq_true, if_false]
  rfl

/-- An SQ enabled at an index (R470). -/
def Sq.enabledAt (q : Sq) (index : Nat) : Sq :=
  { q with state := 0, fetch := index, head := index, tail := index, latched := 0, cause := 0, slots := [], discarded := 0,
           ended := 0 }

/-- The device with the generation of an SQ's tails forgotten, so that the next poll reads them (R453). -/
def Dev.pollAgain (d : Dev) (n : Nat) : Dev :=
  { d with que := { d.que with gens := mset d.que.gens 0 ((n - 1) / 32) (2 ^ 32) } }

theorem Dev.enableSq_valid {n index : Nat} {q : Sq} (hq : d.sq n = some q) (hn : n ≠ 0) (hoff : q.state = 2)
    (hindex : index < q.size) :
    d.enableSq c n index = (((d.pollAgain n).setSq n (some (q.enabledAt index))).mirror n).complete c St.success := by
  have hstate : (q.state != 2) = false := by simp [hoff]
  unfold Dev.enableSq
  simp only [hq, hn, hstate, Nat.not_le.2 hindex, Bool.false_eq_true, if_false]
  rfl

/-- A CQ out of ERROR (R471). -/
def Cq.cleared (q : Cq) : Cq := { q with err := false, tail := 0, phase := true, head := 0, held := [], unsig := 0 }

theorem Dev.enableCq_valid {n : Nat} {q : Cq} (hq : d.cq n = some q) (herr : q.err = true) :
    d.enableCq c n = (d.setCq n (some q.cleared)).complete c St.success := by
  unfold Dev.enableCq
  simp only [hq, herr, Bool.not_true, Bool.false_eq_true, if_false]
  rfl

end

/-! ### The commands -/

section
variable {s : State} {c : Nat} {k : Ctx}

theorem createQueue_sq (h : startable s.dev c k { data := true, b := [40, 42, 43, 44, 45, 46, 47, 48, 49, 50, 51] } = true)
    (hop : (k.e.op == 0x02) = true) (hsq : k.e.at 40 = 0) (hnew : s.dev.sq (k.e.le 42 2) = none) (hn : k.e.le 42 2 ≠ 0)
    (hmax : k.e.le 42 2 ≤ 512) (hsize : k.e.le 48 2 ≠ 0) (hpage : k.e.data.toNat % 4096 = 0) (hva : k.e.data.toNat < 2 ^ 48)
    (hroot : (s.dev.root (k.e.at 44)).isSome = true) (hprio : k.e.at 45 ≤ 3) (hcq : (s.dev.cq (k.e.le 46 2)).isSome = true) :
    After (.createQueue c) s fun t => Out.completed k.sq k.e.cid.toNat St.success 0 ∈ t.sent ∧
      (t.dev.sq (k.e.le 42 2)).map (fun q => (q.base, q.size, q.cq)) = some (k.e.data.toNat, k.e.le 48 2 + 1, k.e.le 46 2) := by
  have kept := QueuesKept.mirror ((s.fresh.await c .run).setSq (k.e.le 42 2) (some (newSq k.e))) (k.e.le 42 2)
  have hruns := (Dev.runs_await h).of_ctxs kept.ctxs
  obtain ⟨t, ht, hsent, hlaid⟩ := hruns.after (s := s) (i := .createQueue c) (st := St.success) (r := 0) (by
    refine congrArg (fun d => Host.Outcome.next (s.settle d)) ?_
    dsimp only
    rw [State.fresh_served h hop, if_pos hsq]
    exact Dev.createSq_valid ((Dev.sq_await ..).trans hnew) hn hmax hsize hpage hva (by rwa [Dev.root_await]) hprio
      (by rwa [Dev.cq_await]))
  refine ⟨t, ht, hsent, ?_⟩
  rw [hlaid.sq_map (fun q => (q.base, q.size, q.cq)) fun _ => rfl, kept.sq, Dev.sq_setSq_same]
  rfl

theorem createQueue_cq (h : startable s.dev c k { data := true, b := [40, 42, 43, 44, 45, 46, 47, 48, 49, 50, 51] } = true)
    (hop : (k.e.op == 0x02) = true) (hcq : k.e.at 40 = 1) (hnew : s.dev.cq (k.e.le 42 2) = none) (hn : k.e.le 42 2 ≠ 0)
    (hmax : k.e.le 42 2 ≤ 512) (hsize : k.e.le 48 2 ≠ 0) (hpage : k.e.data.toNat % 4096 = 0) (hva : k.e.data.toNat < 2 ^ 48)
    (hroot : (s.dev.root (k.e.at 44)).isSome = true) (h45 : k.e.at 45 = 0) (h50 : k.e.le 50 2 = 0) (hvec : k.e.le 46 2 ≤ 1023) :
    After (.createQueue c) s fun t => Out.completed k.sq k.e.cid.toNat St.success 0 ∈ t.sent ∧
      (t.dev.cq (k.e.le 42 2)).map (fun q => (q.base, q.size, q.vector)) = some (k.e.data.toNat, k.e.le 48 2 + 1, k.e.le 46 2) := by
  have hruns := (Dev.runs_await h).of_ctxs (b := ((s.fresh.await c .run).draw 16).2.setCq (k.e.le 42 2)
    (some (newCq k.e ((s.fresh.await c .run).draw 16).1))) rfl
  obtain ⟨t, ht, hsent, hlaid⟩ := hruns.after (s := s) (i := .createQueue c) (st := St.success) (r := 0) (by
    refine congrArg (fun d => Host.Outcome.next (s.settle d)) ?_
    dsimp only
    rw [State.fresh_served h hop, if_neg (by omega), if_pos hcq]
    exact Dev.createCq_valid ((Dev.cq_await ..).trans hnew) hn hmax hsize hpage hva (by rwa [Dev.root_await]) h45 h50 hvec)
  refine ⟨t, ht, hsent, ?_⟩
  rw [hlaid.cq_map (fun q => (q.base, q.size, q.vector)) fun _ => rfl, Dev.cq_setCq_same]
  rfl

theorem deleteQueue_sq (h : startable s.dev c k { b := [40, 42, 43] } = true) (hop : (k.e.op == 0x03) = true)
    (hsq : k.e.at 40 = 0) (hn : k.e.le 42 2 ≠ 0) (hoff : (s.dev.sq (k.e.le 42 2)).map (·.state) = some 2) :
    After (.deleteQueue c) s fun t => Out.completed k.sq k.e.cid.toNat St.success 0 ∈ t.sent ∧ t.dev.sq (k.e.le 42 2) = none := by
  obtain ⟨q, hq, hstate⟩ := Option.map_eq_some_iff.1 hoff
  have hq' : (s.fresh.await c .run).sq (k.e.le 42 2) = some q := (Dev.sq_await ..).trans hq
  have hruns := (Dev.runs_await h).of_ctxs (b := (s.fresh.await c .run).setSq (k.e.le 42 2) none) rfl
  obtain ⟨t, ht, hsent, hlaid⟩ := hruns.after (s := s) (i := .deleteQueue c) (st := St.success) (r := 0) (by
    refine congrArg (fun d => Host.Outcome.next (s.settle d)) ?_
    dsimp only
    rw [State.fresh_served h hop, if_pos hsq, hq']
    simp only [hn, hstate, decide_true, Bool.true_or, if_true, if_false])
  exact ⟨t, ht, hsent, hlaid.sq_none (Dev.sq_setSq_same _ _ _)⟩

theorem deleteQueue_cq (h : startable s.dev c k { b := [40, 42, 43] } = true) (hop : (k.e.op == 0x03) = true)
    (hcq : k.e.at 40 = 1) (hn : k.e.le 42 2 ≠ 0) (hq : (s.dev.cq (k.e.le 42 2)).isSome = true)
    (hunused : cqUnused s.dev (k.e.le 42 2) = true) :
    After (.deleteQueue c) s fun t => Out.completed k.sq k.e.cid.toNat St.success 0 ∈ t.sent ∧ t.dev.cq (k.e.le 42 2) = none := by
  have hid : (decide (k.e.le 42 2 = 0) || ((s.fresh.await c .run).cq (k.e.le 42 2)).isNone) = false := by
    rw [Dev.cq_await]
    simpa [hn] using hq
  have hbound : ((s.fresh.await c .run).que.sqs.any fun e => match e.2 with | some q => q.cq == k.e.le 42 2 | none => false) =
      false := by
    rw [Dev.sqs_await, List.any_eq_false]
    intro e he
    have := List.all_eq_true.1 hunused e he
    cases hq : e.2 with
    | none => simp
    | some q => simpa [hq] using this
  let dropped : Dev := { s.fresh.await c .run with mmu := { (s.fresh.await c .run).mmu with
    xfers := (s.fresh.await c .run).mmu.xfers.filter fun x => x.what != .cqPost (k.e.le 42 2) } }
  have hruns := (Dev.runs_await h).of_ctxs (b := dropped.setCq (k.e.le 42 2) none) rfl
  obtain ⟨t, ht, hsent, hlaid⟩ := hruns.after (s := s) (i := .deleteQueue c) (st := St.success) (r := 0) (by
    refine congrArg (fun d => Host.Outcome.next (s.settle d)) ?_
    dsimp only
    rw [State.fresh_served h hop, if_neg (by omega), if_pos hcq, hid, if_neg (by decide)]
    refine if_neg (Bool.eq_false_iff.1 (Eq.trans ?_ hbound))
    rfl)
  exact ⟨t, ht, hsent, hlaid.cq_none (Dev.cq_setCq_same _ _ _)⟩

theorem enableQueue_sq {q : Sq} (h : startable s.dev c k { b := [40, 42, 43, 44, 45] } = true) (hop : (k.e.op == 0x05) = true)
    (hsq : k.e.at 40 = 0) (hn : k.e.le 42 2 ≠ 0) (hq : s.dev.sq (k.e.le 42 2) = some q) (hoff : q.state = 2)
    (hindex : k.e.le 44 2 < q.size) : After (.enableQueue c) s fun t =>
      Out.completed k.sq k.e.cid.toNat St.success 0 ∈ t.sent ∧
      (t.dev.sq (k.e.le 42 2)).map (fun q => (q.state, q.fetch, q.tail)) = some (0, k.e.le 44 2, k.e.le 44 2) := by
  have kept := QueuesKept.mirror (((s.fresh.await c .run).pollAgain (k.e.le 42 2)).setSq (k.e.le 42 2)
    (some (q.enabledAt (k.e.le 44 2)))) (k.e.le 42 2)
  have hruns := (Dev.runs_await h).of_ctxs kept.ctxs
  obtain ⟨t, ht, hsent, hlaid⟩ := hruns.after (s := s) (i := .enableQueue c) (st := St.success) (r := 0) (by
    refine congrArg (fun d => Host.Outcome.next (s.settle d)) ?_
    dsimp only
    rw [State.fresh_served h hop, if_pos hsq]
    exact Dev.enableSq_valid ((Dev.sq_await ..).trans hq) hn hoff hindex)
  refine ⟨t, ht, hsent, ?_⟩
  rw [hlaid.sq_map (fun q => (q.state, q.fetch, q.tail)) fun _ => rfl, kept.sq, Dev.sq_setSq_same]
  rfl

/-- A command of a queue that is bound to another CQ completes without an entry for this one. -/
theorem Dev.completeRaw_other {d : Dev} {n : Nat} (k : Ctx) (hc : d.ctx c = some k) (hn : d.cqOf k.sq ≠ n) (st r : Nat) :
    (d.completeRaw c st r).cq n = d.cq n ∧
      ∀ e ∈ (d.completeRaw c st r).que.cqs, e.1 = n → e ∈ d.que.cqs := by
  unfold Dev.completeRaw
  dsimp only
  simp only [hc]
  split
  · next q hq =>
    split
    · exact ⟨rfl, fun _ he _ => he⟩
    · refine ⟨Dev.cq_setCq_ne (d.setCtx c _) _ (Ne.symm hn), fun e he hen => ?_⟩
      rcases Dev.mem_setCq he with rfl | ⟨he, -⟩
      · exact absurd hen hn
      · exact he
  · exact ⟨rfl, fun _ he _ => he⟩

theorem enableQueue_cq (h : startable s.dev c k { b := [40, 42, 43, 44, 45] } = true) (hop : (k.e.op == 0x05) = true)
    (hcq : k.e.at 40 = 1) (h44 : k.e.le 44 2 = 0) (herr : (s.dev.cq (k.e.le 42 2)).map (·.err) = some true)
    (hother : s.dev.cqOf k.sq ≠ k.e.le 42 2) : After (.enableQueue c) s fun t =>
      Out.completed k.sq k.e.cid.toNat St.success 0 ∈ t.sent ∧
      (t.dev.cq (k.e.le 42 2)).map (fun q => (q.err, q.tail, q.phase)) = some (false, 0, true) := by
  obtain ⟨q, hq, hqe⟩ := Option.map_eq_some_iff.1 herr
  have hruns := (Dev.runs_await h).of_ctxs (b := (s.fresh.await c .run).setCq (k.e.le 42 2) (some q.cleared)) rfl
  have hserved : exec (.enableQueue c) s =
      .next (s.settle (((s.fresh.await c .run).setCq (k.e.le 42 2) (some q.cleared)).complete c St.success)) := by
    refine congrArg (fun d => Host.Outcome.next (s.settle d)) ?_
    dsimp only
    rw [State.fresh_served h hop, if_neg (by omega), hcq, h44]
    exact Dev.enableCq_valid ((Dev.cq_await ..).trans hq) hqe
  have hbound : ((s.fresh.await c .run).setCq (k.e.le 42 2) (some q.cleared)).cqOf k.sq ≠ k.e.le 42 2 := by
    unfold Dev.cqOf
    rw [show ((s.fresh.await c .run).setCq (k.e.le 42 2) (some q.cleared)).sq k.sq = s.dev.sq k.sq from Dev.sq_await s.fresh c .run _]
    exact hother
  obtain ⟨hkeeps, hfrom⟩ := Dev.completeRaw_other { k with wait := .run } hruns.1 hbound St.success 0
  refine ⟨_, hserved, hruns.sent s _ 0, ?_⟩
  rw [hruns.complete, State.settle_cq, hkeeps, Dev.cq_setCq_same]
  · rfl
  · intro e he hen x hx
    rcases Dev.mem_setCq (hfrom e he hen) with rfl | ⟨-, hne⟩
    · cases hx
      rfl
    · exact absurd hen hne

theorem getQueueState_answers {q : Sq} (h : startable s.dev c k { b := [40, 42, 43] } = true) (hop : (k.e.op == 0x06) = true)
    (hsq : k.e.at 40 = 0) (hq : s.dev.sq (k.e.le 42 2) = some q) : After (.getQueueState c) s fun t =>
      Out.completed k.sq k.e.cid.toNat St.success
        (BitVec.ofNat 64 (q.head + 2 ^ 16 * q.tail + 2 ^ 32 * q.latched + 2 ^ 48 * q.state + 2 ^ 52 * q.cause)) ∈ t.sent := by
  have hq' : (s.fresh.await c .run).sq (k.e.le 42 2) = some q := (Dev.sq_await ..).trans hq
  obtain ⟨t, ht, hsent, -⟩ := (Dev.runs_await h).after (s := s) (i := .getQueueState c) (st := St.success)
    (r := q.head + 2 ^ 16 * q.tail + 2 ^ 32 * q.latched + 2 ^ 48 * q.state + 2 ^ 52 * q.cause) (by
      refine congrArg (fun d => Host.Outcome.next (s.settle d)) ?_
      dsimp only
      rw [State.fresh_served h hop, if_pos hsq, hq'])
  exact ⟨t, ht, hsent⟩

end

end Sys2Proof.Machine

/-! SUPPORT. DISABLE QUEUE of an SQ without commands (R467, R469). -/

namespace Sys2Proof.Machine

open Sys2Proof Sys2Proof.Safety

set_option Elab.async false

theorem Dev.ctxsOf_eq_nil {d : Dev} {n : Nat} : d.ctxsOf n = [] ↔ EveryCtx (fun k => (k.sq == n) = false) d := by
  simp only [Dev.ctxsOf, List.map_eq_nil_iff, List.filter_eq_nil_iff, EveryCtx]
  refine forall₂_congr fun e _ => ?_
  cases e.2 with
  | none => simp
  | some k => simp

theorem EveryCtx.of_ctxs {P : Ctx → Prop} {a b : Dev} (h : EveryCtx P a) (hc : b.que.ctxs = a.que.ctxs) : EveryCtx P b := by
  intro e he
  rw [hc] at he
  exact h e he

theorem Dev.mem_setCtx {d : Dev} {c : Nat} {x : Option Ctx} {e : Nat × Option Ctx} (h : e ∈ (d.setCtx c x).que.ctxs) :
    e = (c, x) ∨ e ∈ d.que.ctxs ∧ e.1 ≠ c := mem_of_mem_mset h

/-- The command that waits for the end of SQ `n`, where no other does. -/
theorem Dev.disabler_await {d : Dev} {c n : Nat} {k : Ctx} (hc : d.ctx c = some k)
    (hnone : d.waiting (fun w => w == .queueOff n) = []) : (d.await c (.queueOff n)).disabler n = some c := by
  have hothers := Dev.waiting_eq_nil.1 hnone
  have hawait : d.await c (.queueOff n) = d.setCtx c (some { k with wait := .queueOff n }) := by simp only [Dev.await, hc]
  have hmine : (c, some { k with wait := .queueOff n }) ∈ (d.await c (.queueOff n)).que.ctxs :=
    mem_of_mget (Dev.ctx_await_same hc _)
  unfold Dev.disabler
  cases hfind : (d.await c (.queueOff n)).que.ctxs.find? fun e =>
      match e.2 with | some k => k.wait == .queueOff n | none => false with
  | none => exact absurd (List.find?_eq_none.1 hfind _ hmine) (by simp)
  | some e =>
    have hp := List.find?_some hfind
    have he := List.mem_of_find?_eq_some hfind
    rw [hawait] at he
    rcases Dev.mem_setCtx he with rfl | ⟨he, -⟩
    · rfl
    · cases hk : e.2 with
      | none => simp [hk] at hp
      | some k' => simp [hk, hothers e he k' hk] at hp

section
variable {d : Dev} {c n : Nat} {k : Ctx} {q : Sq}

/-- The last command of an SQ that is being disabled has ended: the SQ is DISABLED, and the command that asked for it
completes with the SQ's head and counts (R469). -/
theorem Dev.checkDisabled_ends (hk : d.ctx c = some k) (hd : d.disabler n = some c) (hq : d.sq n = some q) (hstate : q.state = 1)
    (hempty : d.ctxsOf n = []) :
    ((d.checkDisabled n).sq n).map (·.state) = some 2 ∧
    Emit.out (.completed k.sq k.e.cid.toNat St.success (BitVec.ofNat 64 (q.head + 65536 * q.discarded + 2 ^ 32 * q.ended))) ∈
      (d.checkDisabled n).out := by
  have kept := QueuesKept.mirror (d.setSq n (some { q with state := 2, slots := [] })) n
  have hdis : ((d.setSq n (some { q with state := 2, slots := [] })).mirror n).disabler n = some c := by
    rw [Dev.disabler, kept.ctxs]
    exact hd
  have hctx : ((d.setSq n (some { q with state := 2, slots := [] })).mirror n).ctx c = some k := (kept.ctx c).trans hk
  unfold Dev.checkDisabled
  simp only [hq, hstate, hempty, List.isEmpty_nil, decide_true, Bool.and_self, if_true, hdis]
  refine ⟨?_, ?_⟩
  · rw [(QueuesLaid.completeRaw _ _ _ _).sq_map (·.state) fun _ => rfl, kept.sq, Dev.sq_setSq_same]
    rfl
  · rw [Dev.completeRaw_out hctx]
    exact List.mem_append_right _ (List.mem_singleton.2 rfl)

theorem Dev.disableSq_idle (hk : d.ctx c = some k) (hd : d.disabler n = some c) (hq : d.sq n = some q) (hempty : d.ctxsOf n = []) :
    ((d.disableSq n).sq n).map (·.state) = some 2 ∧
    Emit.out (.completed k.sq k.e.cid.toNat St.success (BitVec.ofNat 64 (q.head + 65536 * q.discarded + 2 ^ 32 * q.ended))) ∈
      (d.disableSq n).out := by
  have kept := QueuesKept.mirror ((d.setSq n (some { q with state := 1 })).dropFetch n) n
  have hsq : (((d.setSq n (some { q with state := 1 })).dropFetch n).mirror n).sq n = some { q with state := 1 } :=
    (kept.sq n).trans (Dev.sq_setSq_same d n _)
  have hdis : (((d.setSq n (some { q with state := 1 })).dropFetch n).mirror n).disabler n = some c := by
    rw [Dev.disabler, kept.ctxs]
    exact hd
  have hnone : (((d.setSq n (some { q with state := 1 })).dropFetch n).mirror n).ctxsOf n = [] :=
    Dev.ctxsOf_eq_nil.2 ((Dev.ctxsOf_eq_nil.1 hempty).of_ctxs kept.ctxs)
  obtain ⟨hstate, hsent⟩ := Dev.checkDisabled_ends ((kept.ctx c).trans hk) hdis hsq rfl hnone
  have hfetch := QueuesKept.fetchNext ((((d.setSq n (some { q with state := 1 })).dropFetch n).mirror n).checkDisabled n)
  unfold Dev.disableSq
  simp only [hq, hempty, List.foldl_nil]
  exact ⟨by rw [hfetch.sq, hstate], hfetch.out _ hsent⟩

end

theorem disableQueue_ends {s : State} {c : Nat} {k : Ctx} {q : Sq} (h : startable s.dev c k { b := [40, 42, 43] } = true)
    (hop : (k.e.op == 0x04) = true) (hsq : k.e.at 40 = 0) (hn : k.e.le 42 2 ≠ 0) (hq : s.dev.sq (k.e.le 42 2) = some q)
    (hstate : q.state = 0) (hempty : s.dev.ctxsOf (k.e.le 42 2) = [])
    (hnone : s.dev.waiting (fun w => w == .queueOff (k.e.le 42 2)) = []) : After (.disableQueue c) s fun t =>
      Out.completed k.sq k.e.cid.toNat St.success (BitVec.ofNat 64 (q.head + 65536 * q.discarded + 2 ^ 32 * q.ended)) ∈ t.sent ∧
      (t.dev.sq (k.e.le 42 2)).map (·.state) = some 2 := by
  have hruns : (s.fresh.await c .run).Runs c k := Dev.runs_await h
  have hsqs : (s.fresh.await c .run).sq (k.e.le 42 2) = some q := (Dev.sq_await ..).trans hq
  have hwait : (s.fresh.await c .run).waiting (fun w => w == .queueOff (k.e.le 42 2)) = [] :=
    Dev.waiting_eq_nil.2 ((EveryCtx.of_ctxs (b := s.fresh) (Dev.waiting_eq_nil.1 hnone) rfl).await fun _ _ => by simp)
  have hctxs : ((s.fresh.await c .run).await c (.queueOff (k.e.le 42 2))).ctxsOf (k.e.le 42 2) = [] :=
    Dev.ctxsOf_eq_nil.2 (((EveryCtx.of_ctxs (b := s.fresh) (Dev.ctxsOf_eq_nil.1 hempty) rfl).await fun _ h => h).await fun _ h => h)
  obtain ⟨hends, hsent⟩ := Dev.disableSq_idle (Dev.ctx_await_same hruns.1 (.queueOff (k.e.le 42 2))) (Dev.disabler_await hruns.1 hwait)
    ((Dev.sq_await ..).trans hsqs) hctxs
  refine ⟨s.settle (((s.fresh.await c .run).await c (.queueOff (k.e.le 42 2))).disableSq (k.e.le 42 2)), ?_, s.mem_sent _ _ (mem_outsOf.2 hsent), ?_⟩
  · refine congrArg (fun d => Host.Outcome.next (s.settle d)) ?_
    dsimp only
    rw [State.fresh_served h hop, hsqs, hsq, if_neg (by decide)]
    simp only [hn, hstate, decide_true, Bool.true_or, if_true, if_false]
  · exact ((QueuesLaid.settle s _).sq_map (·.state) (fun _ => rfl) _).trans hends

end Sys2Proof.Machine

namespace Sys2Proof

open Sys2Proof.Machine Sys2Proof.Safety

set_option Elab.async false

/-- Settles O37, a lemma per command and kind of queue. -/
theorem queueCommands : Obligations.QueueCommands :=
  ⟨fun _ _ _ h hop hsq hnew hn hmax hsize hpage hva hroot hprio hcq =>
      createQueue_sq h hop hsq hnew hn hmax hsize hpage hva hroot hprio hcq,
    fun _ _ _ h hop hcq hnew hn hmax hsize hpage hva hroot h45 h50 hvec =>
      createQueue_cq h hop hcq hnew hn hmax hsize hpage hva hroot h45 h50 hvec,
    fun _ _ _ h hop hsq hn hoff => deleteQueue_sq h hop hsq hn hoff,
    fun _ _ _ h hop hcq hn hq hunused => deleteQueue_cq h hop hcq hn hq hunused,
    fun _ _ _ _ h hop hsq hn _ hq hstate hempty hnone => disableQueue_ends h hop hsq hn hq hstate hempty hnone,
    fun _ _ _ _ h hop hsq hn hq hoff hindex => enableQueue_sq h hop hsq hn hq hoff hindex,
    fun _ _ _ h hop hcq h44 herr hother => enableQueue_cq h hop hcq h44 herr hother,
    fun _ _ _ _ h hop hsq hq => getQueueState_answers h hop hsq hq⟩

end Sys2Proof

/-! SUPPORT. What a page program and a page read ask of the flash, and what the staging keeps of the link to the peer
(R499 to R505, R562). -/

namespace Sys2Proof.Machine

open Sys2Proof Sys2Proof.Safety

set_option Elab.async false

/-- A page program, whether or not it has been given to its LUN. -/
def Prog.asked (p : Prog) : Prog := { p with issued := false }

/-- From `a` to `b` the flash took operations: the programs, but for which are issued, and what each read is for stay. -/
structure Served (a b : Dev) : Prop where
  progs : b.sal.progs.map Prog.asked = a.sal.progs.map Prog.asked
  reads : b.sal.reads.map (·.why) = a.sal.reads.map (·.why)
  fetching : b.sal.fetching = a.sal.fetching
  peer : b.peer = a.peer
  que : b.que = a.que
  mmu : b.mmu = a.mmu

theorem map_replaced {α β : Type} [BEq α] [LawfulBEq α] {f : α → β} {x y : α} (h : f y = f x) (l : List α) :
    (l.map fun q => if q == x then y else q).map f = l.map f := by
  rw [List.map_map]
  refine List.map_congr_left fun q _ => ?_
  by_cases hq : q = x
  · simp [hq, h]
  · simp [hq]

namespace Served

variable {a b c : Dev}

theorem refl (a : Dev) : Served a a := ⟨rfl, rfl, rfl, rfl, rfl, rfl⟩

theorem trans (h : Served a b) (g : Served b c) : Served a c :=
  ⟨g.progs.trans h.progs, g.reads.trans h.reads, g.fetching.trans h.fetching, g.peer.trans h.peer, g.que.trans h.que,
    g.mmu.trans h.mmu⟩

theorem foldl {α : Type} {f : Dev → α → Dev} (h : ∀ d x, Served d (f d x)) (l : List α) (d : Dev) : Served d (l.foldl f d) := by
  induction l generalizing d with
  | nil => exact refl d
  | cons x t ih => exact (h d x).trans (ih _)

theorem flashWrite (d : Dev) (op : FlashOp) : Served d (d.flashWrite op) := ⟨rfl, rfl, rfl, rfl, rfl, rfl⟩

theorem issueProg (d : Dev) (p : Prog) : Served d (d.issueProg p) := by
  unfold Dev.issueProg
  split
  · exact refl d
  · exact ⟨map_replaced (f := Prog.asked) (x := p) (y := { p with issued := true }) rfl d.sal.progs, rfl, rfl, rfl, rfl, rfl⟩

theorem issueRead (d : Dev) (r : PRead) : Served d (d.issueRead r) := by
  unfold Dev.issueRead
  split
  · exact refl d
  · exact ⟨rfl, map_replaced (f := PRead.why) (x := r) (y := { r with issued := true }) rfl d.sal.reads, rfl, rfl, rfl, rfl⟩

theorem serve (d : Dev) : Served d d.serve := by
  have waiting (own : List Prog) (host burn : List PRead) (copies : List Prog) (gc : List PRead) :
      Served d (gc.foldl Dev.issueRead (copies.foldl Dev.issueProg (burn.foldl Dev.issueRead (host.foldl Dev.issueRead
        (own.foldl Dev.issueProg d))))) :=
    ((((foldl issueProg own d).trans (foldl issueRead host _)).trans (foldl issueRead burn _)).trans
      (foldl issueProg copies _)).trans (foldl issueRead gc _)
  have erased (d : Dev) : Served d { d with sal := { d.sal with erasing := [] } } := ⟨rfl, rfl, rfl, rfl, rfl, rfl⟩
  unfold Dev.serve
  dsimp only
  split
  · exact waiting _ _ _ _ _
  · exact ((waiting _ _ _ _ _).trans (erased _)).trans (foldl (fun d b => flashWrite d (.erase b)) _ _)

end Served

section
variable (d : Dev)

/-- What a program is for, read off the last one asked for. -/
theorem Served.last_asked {a b : Dev} (h : Served a b) {α : Type} (f : Prog → α) (hf : ∀ p, f p.asked = f p) :
    b.sal.progs.getLast?.map f = a.sal.progs.getLast?.map f := by
  have read (l : List Prog) : ((l.map Prog.asked).getLast?).map f = l.getLast?.map f := by
    rw [List.getLast?_map, Option.map_map]
    exact congrArg (fun g => l.getLast?.map g) (funext hf)
  rw [← read, h.progs, read]

/-- The page that stream `s` programs next, at page `n` of the open segment `l` (R499). -/
def Dev.nextProg (d : Dev) (s l : Nat) (e : SegEnt) (slots : List (Nat × Nat × StagedLb)) (ctxs : List Nat) (ack : Nat)
    (recs : List (BitVec 128)) : Prog :=
  let n := (d.stream s).page
  { stream := s, lun := some (d.lunOf e.sb e.seg n), issued := false, sb := e.sb, seg := e.seg, ctxs := ctxs, ack := ack,
    pg := {
      lun := d.lunOf e.sb e.seg n, kind := if recs.isEmpty then 1 else 3, mirror := s == 1, gcCopy := false, lsn := l, page := n,
      gen := e.gen, seq := d.sal.pageSeq + 1, time := d.now, opseq := e.opseq, recs := recs
      slots := (List.range slots.length).map fun i =>
        let q := slots.getD i (0, 0, { gen := 0, data := [], tag := [] })
        (4 * n + i, q.1, q.2.1, q.2.2) } }

/-- The device with a page to be programmed. -/
def Dev.asking (p : Prog) : Dev :=
  { d with sal := { d.sal with pageSeq := d.sal.pageSeq + 1, keyGen := some d.flash.boot.keyGen, progs := d.sal.progs ++ [p] } }

variable {d}

theorem Dev.programAt_served (s l : Nat) (e : SegEnt) (slots : List (Nat × Nat × StagedLb)) (ctxs : List Nat) (ack : Nat)
    (recs : List (BitVec 128)) : Served (d.asking (d.nextProg s l e slots ctxs ack recs))
      (d.programAt s (if recs.isEmpty then 1 else 3) l e (d.stream s).page e.gen false (d.nextProg s l e slots ctxs ack recs).pg.slots
        ctxs ack recs) := by
  unfold Dev.programAt Dev.askProg
  simp only [Bool.false_and, Bool.or_false]
  exact .serve _

/-- A stream with an open segment programs its next page; before the last that carries data, no more. -/
theorem Dev.programOrWait_open {s l : Nat} {e : SegEnt} (hl : (d.stream s).lsn = some l) (he : d.seg l = some e)
    (hn : (d.stream s).page < 2043) (slots : List (Nat × Nat × StagedLb)) (ctxs : List Nat) (ack : Nat) (recs : List (BitVec 128)) :
    Served (d.asking (d.nextProg s l e slots ctxs ack recs)) (d.programOrWait s slots ctxs ack recs) := by
  have hopen : d.openSeg s = some (l, d) := by simp only [Dev.openSeg, hl]
  have hlast : (d.stream s).page ≠ 2043 := Nat.ne_of_lt hn
  have hset (d : Dev) (x : Stream) : Served d (d.setStream s x) := ⟨rfl, rfl, rfl, rfl, rfl, rfl⟩
  unfold Dev.programOrWait Dev.programNext
  simp only [hopen, he, hlast, if_false]
  exact .trans (Dev.programAt_served s l e slots ctxs ack recs) (hset _ _)

/-- The last program asked for. -/
theorem Served.last {p : Prog} {b : Dev} (h : Served (d.asking p) b) {α : Type} (f : Prog → α) (hf : ∀ p, f p.asked = f p) :
    b.sal.progs.getLast?.map f = some (f p) := by
  rw [h.last_asked f hf]
  exact congrArg (Option.map f) List.getLast?_concat

/-- The blocks of a page are those given to it. -/
theorem Dev.nextProg_blocks (s l : Nat) (e : SegEnt) (slots : List (Nat × Nat × StagedLb)) (ctxs : List Nat) (ack : Nat)
    (recs : List (BitVec 128)) : (d.nextProg s l e slots ctxs ack recs).pg.slots.map (·.2) = slots := by
  refine List.ext_getElem (by simp [Dev.nextProg]) fun i _ hi => ?_
  simp [Dev.nextProg, hi]

end

end Sys2Proof.Machine

/-! SUPPORT. What the staging keeps of the messages to acknowledge, and of the index (R505, R506, R562). -/

namespace Sys2Proof.Machine

open Sys2Proof Sys2Proof.Safety

set_option Elab.async false

section
variable (d : Dev)

theorem Dev.toAck_ner (m : NerMsg) : (d.ner m).peer.toAck = d.peer.toAck := by
  unfold Dev.ner
  split <;> rfl

theorem Dev.idx_ner (m : NerMsg) : (d.ner m).sal.idx = d.sal.idx := by
  unfold Dev.ner
  split <;> rfl

/-- A page of records leaves the messages to acknowledge and the staged LBs. -/
theorem Dev.flushJournal_keeps : d.flushJournal.peer.toAck = d.peer.toAck ∧ d.flushJournal.sal.idx = d.sal.idx := by
  unfold Dev.flushJournal
  split
  · exact ⟨rfl, rfl⟩
  · dsimp only
    split
    · exact ⟨Dev.toAck_ner _ _, Dev.idx_ner _ _⟩
    · exact ⟨rfl, rfl⟩

theorem Dev.journal_keeps (r : BitVec 128) : (d.journal r).peer.toAck = d.peer.toAck ∧ (d.journal r).sal.idx = d.sal.idx := by
  unfold Dev.journal
  dsimp only
  split
  · exact Dev.flushJournal_keeps _
  · exact ⟨rfl, rfl⟩

theorem Dev.unlive_keeps (l : Nat) : (d.unlive l).peer.toAck = d.peer.toAck ∧ (d.unlive l).sal.idx = d.sal.idx := by
  unfold Dev.unlive
  split
  · exact ⟨rfl, rfl⟩
  · split
    · exact Dev.journal_keeps _ _
    · exact ⟨rfl, rfl⟩

theorem Dev.toAck_unstage (e : IdxEnt) : (d.unstage e).peer.toAck = d.peer.toAck := (Dev.unlive_keeps _ _).1

theorem Dev.idx_unstage (e : IdxEnt) : (d.unstage e).sal.idx = d.sal.idx.filter (· != e) := (Dev.unlive_keeps _ _).2

theorem Dev.idx_unstageAll (l : List IdxEnt) : (l.foldl (fun d e => d.unstage e) d).sal.idx = d.sal.idx.filter (! l.contains ·) := by
  induction l generalizing d with
  | nil => simp
  | cons e t ih =>
    rw [List.foldl_cons, ih, Dev.idx_unstage, List.filter_filter]
    refine List.filter_congr fun x _ => ?_
    rw [List.contains_cons, Bool.not_or, Bool.and_comm]
    rfl

/-- The LBs that a release takes out of the index (R506). -/
def IdxEnt.inRelease (e : IdxEnt) (mirror : Bool) (vol lba count gen : Nat) : Bool :=
  e.vol == vol && e.mirror == mirror && decide (lba ≤ e.lba) && decide (e.lba < lba + count) && decide (e.gen ≤ gen)

theorem Dev.releaseRange_keeps (mirror : Bool) (vol lba count gen : Nat) :
    (d.releaseRange mirror vol lba count gen).peer.toAck = d.peer.toAck ∧
    ∀ e ∈ (d.releaseRange mirror vol lba count gen).sal.idx, e.inRelease mirror vol lba count gen = false := by
  unfold Dev.releaseRange
  dsimp only
  rw [(Dev.journal_keeps _ _).1, (Dev.journal_keeps _ _).2]
  refine ⟨Dev.foldl_same (g := fun d => d.peer.toAck) (fun d e => d.toAck_unstage e) _ d, fun e he => ?_⟩
  have he : e ∈ ((d.sal.idx.filter fun e => e.inRelease mirror vol lba count gen).foldl (fun d e => d.unstage e) d).sal.idx := he
  rw [Dev.idx_unstageAll, List.mem_filter] at he
  obtain ⟨hstaged, hleft⟩ := he
  refine Bool.eq_false_iff.2 fun hin => ?_
  simp [hstaged, hin] at hleft

/-! ### A message taken (R562) -/

/-- The device with a new message to acknowledge. -/
def Dev.taken (seq : BitVec 16) : Dev :=
  { d with peer := { d.peer with
      toAck := if d.peer.toAck.contains seq then d.peer.toAck else d.peer.toAck ++ [seq]
      seen := ([seq] ++ d.peer.seen).take 32768 } }

variable {d}

theorem Dev.nerTake_new {seq : BitVec 16} (hup : d.linkUp = true) (hnew : ¬ seq ∈ d.peer.seen) (f : Dev → Dev) :
    d.nerTake seq f = f (d.taken seq) := by
  have hseen : d.peer.seen.contains seq = false := by simpa using hnew
  unfold Dev.nerTake
  simp only [hup, hseen, Bool.not_true, Bool.false_eq_true, if_false]
  rfl

theorem Dev.mem_taken (seq : BitVec 16) : seq ∈ (d.taken seq).peer.toAck := by
  unfold Dev.taken
  dsimp only
  split
  · next h => simpa using h
  · simp

/-- A row that takes a message not seen before, in a unit whose clock runs, is what the message does. -/
theorem State.nerTaken {s : State} {n : Nat} {seq : BitVec 16} (hclk : s.dev.clocked n = true) (hup : s.dev.linkUp = true)
    (hnew : ¬ seq ∈ s.dev.peer.seen) (f : Dev → Dev) :
    State.runUnit n s (fun d => d.nerTake seq f) = .next (s.settle (f (s.fresh.taken seq))) := by
  rw [State.runUnit_clocked hclk, State.run_next, Dev.nerTake_new (d := s.fresh) hup hnew]

end

end Sys2Proof.Machine

/-! SUPPORT. The messages of the peer about mirrored pages, clusters and fetched LBs (R514, R542, R566 to R569). -/

namespace Sys2Proof.Machine

open Sys2Proof Sys2Proof.Safety

set_option Elab.async false

theorem Calm.checkDurable (d : Dev) (c : Nat) : Calm d (d.checkDurable c) := by
  unfold Dev.checkDurable
  split
  · split
    · exact .complete d _ _ _
    · exact .refl d
  · exact .refl d

/-- Transfers none of which is done, and no command that waits to ingest: nothing moves on. -/
theorem Dev.reap_idle {d : Dev} (hxfers : (d.mmu.xfers.all fun y => y.st != .done) = true)
    (hingest : d.waiting (fun w => w == .ingest) = []) : d.reap = d := by
  have hdone : (d.mmu.xfers.filter fun x => x.st == .done) = [] := by
    rw [List.filter_eq_nil_iff]
    intro x hx
    simpa using List.all_eq_true.1 hxfers x hx
  simp [Dev.reap, Dev.reapBufs, Dev.ingestAll, hdone, hingest]

section
variable {s : State} {q : BitVec 16}

theorem mirrorDataReceive_programs {pg : FlashPage} {l n : Nat} {e : SegEnt} (hup : s.dev.linkUp = true)
    (hnew : ¬ q ∈ s.dev.peer.seen) (hsal : s.dev.salState = 2) (hl : (s.dev.stream 1).lsn = some l) (he : s.dev.seg l = some e)
    (hpage : (s.dev.stream 1).page = n) (hn : n < 2043) (hclk : s.dev.clocked 12 = true) :
    After (.mirrorDataReceive q pg) s fun t => t.dev.sal.progs.getLast?.map (fun p => (p.stream, p.ack, p.pg.page,
      p.pg.slots.map (·.2))) = some (1, pg.seq, n, pg.slots.map (·.2)) ∧ q ∈ t.dev.peer.toAck := by
  have hserved := Dev.programOrWait_open (d := s.fresh.taken q) hl he (hpage ▸ hn) (pg.slots.map fun x => x.2) [] pg.seq []
  refine ⟨_, State.nerTaken hclk hup hnew _, ?_⟩
  dsimp only
  rw [show (s.fresh.taken q).salState = 2 from hsal, if_neg (by decide), State.settle_sal, State.settle_peer, hserved.peer,
    hserved.last (fun p => (p.stream, p.ack, p.pg.page, p.pg.slots.map (·.2))) fun _ => rfl]
  refine ⟨?_, Dev.mem_taken q⟩
  rw [Dev.nextProg_blocks]
  exact congrArg some (congrArg (fun n => (1, pg.seq, n, pg.slots.map (·.2))) hpage)

theorem mirrorAckReceive_covers {n : Nat} (hup : s.dev.linkUp = true) (hnew : ¬ q ∈ s.dev.peer.seen)
    (hclk : s.dev.clocked 12 = true) : After (.mirrorAckReceive q n) s fun t =>
      t.dev.sal.unacked = s.dev.sal.unacked.filter (fun u => !decide (u.1 ≤ n)) ∧ q ∈ t.dev.peer.toAck := by
  refine ⟨_, State.nerTaken hclk hup hnew _, ?_⟩
  dsimp only
  rw [State.settle_sal, State.settle_peer]
  have durable (l : List Nat) (d : Dev) : Calm d (l.foldl (fun d c => d.checkDurable c) d) := .foldl _ Calm.checkDurable l d
  split
  · exact ⟨congrArg Sal.unacked (durable _ _).sal, (congrArg (q ∈ Peer.toAck ·) (durable _ _).peer).mpr (Dev.mem_taken q)⟩
  · exact ⟨congrArg Sal.unacked (durable _ _).sal, (congrArg (q ∈ Peer.toAck ·) (durable _ _).peer).mpr (Dev.mem_taken q)⟩

theorem journalReceive_programs {recs : List (BitVec 128)} {l n : Nat} {e : SegEnt} (hup : s.dev.linkUp = true)
    (hnew : ¬ q ∈ s.dev.peer.seen) (hrecs : recs ≠ []) (hsal : s.dev.salState = 2) (hl : (s.dev.stream 1).lsn = some l)
    (he : s.dev.seg l = some e) (hpage : (s.dev.stream 1).page = n) (hn : n < 2043) (hclk : s.dev.clocked 12 = true) :
    After (.journalReceive q recs) s fun t => t.dev.sal.progs.getLast?.map (fun p => (p.stream, p.pg.kind, p.pg.page,
      p.pg.recs)) = some (1, 3, n, recs) ∧ q ∈ t.dev.peer.toAck := by
  have hserved := Dev.programOrWait_open (d := s.fresh.taken q) hl he (hpage ▸ hn) [] [] 0 recs
  have hkind : (if recs.isEmpty then 1 else 3) = 3 := if_neg (by simpa using hrecs)
  refine ⟨_, State.nerTaken hclk hup hnew _, ?_⟩
  dsimp only
  rw [show (s.fresh.taken q).salState = 2 from hsal, if_neg (by decide), State.settle_sal, State.settle_peer, hserved.peer,
    hserved.last (fun p => (p.stream, p.pg.kind, p.pg.page, p.pg.recs)) fun _ => rfl]
  exact ⟨congrArg some (congrArg₂ (fun k n => (1, k, n, recs)) hkind hpage), Dev.mem_taken q⟩

theorem mirrorReleaseReceive_releases (r : ReleaseRange) (hup : s.dev.linkUp = true) (hnew : ¬ q ∈ s.dev.peer.seen)
    (hclk : s.dev.clocked 12 = true) : After (.mirrorReleaseReceive q [r]) s fun t =>
      t.dev.sal.idx.all (fun e => !(e.vol == r.volume && e.mirror && decide (r.lba ≤ e.lba) && decide (e.lba < r.lba + r.count) &&
        decide (e.gen ≤ r.gen))) = true ∧ q ∈ t.dev.peer.toAck := by
  obtain ⟨hack, hleft⟩ := (s.fresh.taken q).releaseRange_keeps true r.volume r.lba r.count r.gen
  refine ⟨_, State.nerTaken hclk hup hnew _, ?_⟩
  dsimp only
  rw [State.settle_sal, State.settle_peer, List.foldl_cons, List.foldl_nil, hack]
  refine ⟨List.all_eq_true.2 fun e he => ?_, Dev.mem_taken q⟩
  have := hleft e he
  simp only [IdxEnt.inRelease, beq_true] at this
  rw [this]
  rfl

theorem clusterReceive_stages (disc : Nat) (addr : Word) (words : List (List Byte)) (hup : s.dev.linkUp = true)
    (hnew : ¬ q ∈ s.dev.peer.seen) (hclk : s.dev.clocked 12 = true) : After (.clusterReceive q disc addr words) s fun t =>
      (disc, addr.toNat, words) ∈ t.dev.set.guest ∧ q ∈ t.dev.peer.toAck := by
  refine ⟨_, State.nerTaken hclk hup hnew _, ?_⟩
  dsimp only
  rw [State.settle_set, State.settle_peer]
  exact ⟨List.mem_append_right _ (List.mem_singleton.2 rfl), Dev.mem_taken q⟩

/-- A member that burned its cluster is marked in the stripe. -/
theorem Dev.burnedBy_marks {d : Dev} {vol n m : Nat} {x : DiscSet} {y : Stripe} (hx : d.volSet vol = some x)
    (hy : d.stripe vol n = some y) (hm : y.burned.testBit m = false) :
    ((d.burnedBy vol n m).stripe vol n).map (·.burned) = some (y.burned + 2 ^ m) := by
  have put (z : Stripe) : (d.putStripe vol n (some z)).stripe vol n = some z := mget_mset_same d.set.stripes none (some z) _
  have kept (e : Dev) (key : Nat) (r : BitVec 128) : (e.journalSet key r).set = e.set := by
    unfold Dev.journalSet
    split
    · exact (Dev.journal_stages e r).units .set (by decide)
    · rfl
  unfold Dev.burnedBy
  simp only [hx, hy, hm, Bool.false_eq_true, if_false]
  rw [Dev.stripe, kept]
  exact congrArg (Option.map Stripe.burned) (put _)

theorem burnReportReceive_marks {r : BitVec 128} {x : DiscSet} {y : Stripe} (hup : s.dev.linkUp = true)
    (hnew : ¬ q ∈ s.dev.peer.seen) (hkind : recAt r 8 4 = 1) (hx : s.dev.volSet (recAt r 12 16) = some x)
    (hreshape : x.reshaping = false) (hy : s.dev.stripe (recAt r 12 16) (recAt r 28 32) = some y)
    (hm : y.burned.testBit (recAt r 92 4) = false) (hclk : s.dev.clocked 12 = true) :
    After (.burnReportReceive q [r]) s fun t => (t.dev.stripe (recAt r 12 16) (recAt r 28 32)).map (·.burned) =
      some (y.burned + 2 ^ recAt r 92 4) := by
  have hmarks := Dev.burnedBy_marks (d := s.fresh.taken q) hx hy hm
  have hreport : (s.fresh.taken q).burnReported r = (s.fresh.taken q).burnedBy (recAt r 12 16) (recAt r 28 32) (recAt r 92 4) := by
    unfold Dev.burnReported
    dsimp only
    rw [show (s.fresh.taken q).volSet (recAt r 12 16) = some x from hx, hkind]
    simp only [hreshape, Bool.false_eq_true, if_false]
  refine ⟨_, State.nerTaken hclk hup hnew _, ?_⟩
  dsimp only
  rw [List.foldl_cons, List.foldl_nil, hreport, Dev.stripe, State.settle_set]
  exact hmarks

theorem fetchReceive_notHeld {vol lba : Nat} (hup : s.dev.linkUp = true) (hnew : ¬ q ∈ s.dev.peer.seen)
    (hidx : s.dev.idxOf vol lba true = none) (hclk : s.dev.clocked 12 = true) :
    After (.fetchReceive q vol lba 1) s fun t => sentNer s.dev t.sent s.dev.peer.txSeq (.fetchData vol lba [none]) := by
  refine ⟨_, State.nerTaken hclk hup hnew _, ?_⟩
  refine State.mem_sent _ _ _ (mem_outsOf.2 ?_)
  rw [show List.range 1 = [0] from rfl, List.foldl_cons, List.foldl_nil, Nat.add_zero,
    show (s.fresh.taken q).idxOf vol lba true = none from hidx]
  dsimp only
  rw [Dev.ner, if_pos (show (s.fresh.taken q).linkUp = true from hup)]
  exact List.mem_append_right _ (List.mem_singleton.2 rfl)

theorem fetchReceive_reads {vol lba : Nat} {e : IdxEnt} (hup : s.dev.linkUp = true) (hnew : ¬ q ∈ s.dev.peer.seen)
    (hidx : s.dev.idxOf vol lba true = some e) (hclk : s.dev.clocked 12 = true) :
    After (.fetchReceive q vol lba 1) s fun t => (t.dev.sal.reads.any fun r => r.why == .peer vol lba) = true ∧
      q ∈ t.dev.peer.toAck := by
  refine ⟨_, State.nerTaken hclk hup hnew _, ?_⟩
  dsimp only
  rw [show List.range 1 = [0] from rfl, List.foldl_cons, List.foldl_nil, Nat.add_zero,
    show (s.fresh.taken q).idxOf vol lba true = some e from hidx, State.settle_sal, State.settle_peer]
  dsimp only
  unfold Dev.readPage
  dsimp only
  rw [(Served.serve _).peer]
  refine ⟨?_, Dev.mem_taken q⟩
  have any (l : List PRead) : (l.any fun r => r.why == .peer vol lba) = (l.map (·.why)).contains (.peer vol lba) := by
    rw [List.contains_eq_any_beq, List.any_map]
    exact congrArg (l.any ·) (funext fun r => BEq.comm)
  rw [any, (Served.serve _).reads]
  simp

/-- The device that no longer fetches an LB. -/
def Dev.unfetched (d : Dev) (vol lba : Nat) : Dev := { d with sal := { d.sal with fetching := d.sal.fetching.erase (vol, lba) } }

/-- A fetched LB that the peer holds is programmed in the own stream, and no command waits for it (R514). -/
theorem Dev.fetched_held {d : Dev} {vol lba l : Nat} {b : StagedLb} {e : SegEnt} (hfetch : (vol, lba) ∈ d.sal.fetching)
    (hl : (d.stream 0).lsn = some l) (he : d.seg l = some e) (hn : (d.stream 0).page < 2043)
    (hnone : d.waiting (fun w => w == .staging) = []) :
    Served ((d.unfetched vol lba).asking (d.nextProg 0 l e [(vol, lba, b)] [] 0 [])) (d.fetched vol lba (some b)) := by
  have hserved := Dev.programOrWait_open (d := d.unfetched vol lba) hl he hn [(vol, lba, b)] [] 0 []
  have hstays : ((d.unfetched vol lba).programOrWait 0 [(vol, lba, b)] []).waiting (fun w => w == .staging) = [] := by
    rw [Dev.waiting, hserved.que]
    exact hnone
  have hin : d.sal.fetching.contains (vol, lba) = true := List.contains_iff_mem.2 hfetch
  unfold Dev.fetched
  simp only [hin, Bool.not_true, Bool.false_eq_true, if_false]
  have hstage : (d.unfetched vol lba).stage 0 [] 1 [(vol, lba, b)] = (d.unfetched vol lba).programOrWait 0 [(vol, lba, b)] [] := rfl
  have hclear : { d with sal := { d.sal with fetching := d.sal.fetching.erase (vol, lba) } } = d.unfetched vol lba := rfl
  rw [hclear, hstage, hstays]
  exact hserved

/-- One that the peer does not hold and the index no longer lists leaves nothing but the wait. -/
theorem Dev.fetched_gone {d : Dev} {vol lba : Nat} (hfetch : (vol, lba) ∈ d.sal.fetching) (hidx : d.idxOf vol lba = none)
    (hnone : d.waiting (fun w => w == .staging) = []) :
    d.fetched vol lba none = d.unfetched vol lba := by
  have hin : d.sal.fetching.contains (vol, lba) = true := List.contains_iff_mem.2 hfetch
  have hgone : (d.unfetched vol lba).stagedGone vol lba = d.unfetched vol lba := by
    rw [Dev.stagedGone, show (d.unfetched vol lba).idxOf vol lba = none from hidx]
  unfold Dev.fetched
  simp only [hin, Bool.not_true, Bool.false_eq_true, if_false]
  have hstays : (d.unfetched vol lba).waiting (fun w => w == .staging) = [] := hnone
  have hclear : { d with sal := { d.sal with fetching := d.sal.fetching.erase (vol, lba) } } = d.unfetched vol lba := rfl
  rw [hclear, hgone, hstays]
  rfl

/-- The row of FETCH DATA, for a message not seen before that carries one LB. -/
theorem exec_fetchData {vol lba : Nat} {b : Option StagedLb} (hup : s.dev.linkUp = true) (hnew : ¬ q ∈ s.dev.peer.seen)
    (hclk : s.dev.clocked 12 = true) :
    exec (.fetchDataReceive q vol lba [b]) s = .next (s.settle ((s.fresh.taken q).fetched vol lba b).reap) := by
  have hrow : exec (.fetchDataReceive q vol lba [b]) s = s.run fun d => (d.nerTake q fun d =>
      (List.range [b].length).foldl (fun (d : Dev) i => d.fetched vol (lba + i) ([b].getD i none)) d).reap := by
    rw [← State.runUnit_clocked hclk]
    rfl
  rw [hrow, State.run_next, Dev.nerTake_new (d := s.fresh) hup hnew]
  rfl

theorem fetchDataReceive_programs {vol lba l n : Nat} {b : StagedLb} {e : SegEnt} (hup : s.dev.linkUp = true)
    (hnew : ¬ q ∈ s.dev.peer.seen) (hfetch : (vol, lba) ∈ s.dev.sal.fetching) (hl : (s.dev.stream 0).lsn = some l)
    (he : s.dev.seg l = some e) (hpage : (s.dev.stream 0).page = n) (hn : n < 2043)
    (hstaging : s.dev.waiting (fun w => w == .staging) = []) (hingest : s.dev.waiting (fun w => w == .ingest) = [])
    (hxfers : (s.dev.mmu.xfers.all fun y => y.st != .done) = true) (hclk : s.dev.clocked 12 = true) :
    After (.fetchDataReceive q vol lba [some b]) s fun t => t.dev.sal.fetching = s.dev.sal.fetching.erase (vol, lba) ∧
      t.dev.sal.progs.getLast?.map (fun p => (p.stream, p.pg.page, p.pg.slots.map (·.2))) = some (0, n, [(vol, lba, b)]) ∧
      q ∈ t.dev.peer.toAck := by
  have hserved := Dev.fetched_held (d := s.fresh.taken q) (b := b) hfetch hl he (hpage ▸ hn) hstaging
  have hreap : ((s.fresh.taken q).fetched vol lba (some b)).reap = (s.fresh.taken q).fetched vol lba (some b) := by
    refine Dev.reap_idle (by rw [hserved.mmu]; exact hxfers) ?_
    rw [Dev.waiting, hserved.que]
    exact hingest
  refine ⟨_, exec_fetchData hup hnew hclk, ?_⟩
  dsimp only
  rw [hreap, State.settle_sal, State.settle_peer, hserved.peer, hserved.fetching,
    hserved.last (fun p => (p.stream, p.pg.page, p.pg.slots.map (·.2))) fun _ => rfl]
  refine ⟨rfl, ?_, Dev.mem_taken q⟩
  rw [Dev.nextProg_blocks]
  exact congrArg some (congrArg (fun n => (0, n, [(vol, lba, b)])) hpage)

theorem fetchDataReceive_ends {vol lba : Nat} (hup : s.dev.linkUp = true) (hnew : ¬ q ∈ s.dev.peer.seen)
    (hfetch : (vol, lba) ∈ s.dev.sal.fetching) (hidx : s.dev.idxOf vol lba = none)
    (hstaging : s.dev.waiting (fun w => w == .staging) = []) (hquiet : quiet s.dev = true) (hclk : s.dev.clocked 12 = true) :
    After (.fetchDataReceive q vol lba [none]) s fun t => t.dev.sal.fetching = s.dev.sal.fetching.erase (vol, lba) := by
  simp only [quiet, Bool.and_eq_true, List.isEmpty_iff, beq_iff_eq] at hquiet
  obtain ⟨⟨⟨hxfers, hingest⟩, -⟩, -⟩ := hquiet
  have hreap : ((s.fresh.taken q).unfetched vol lba).reap = (s.fresh.taken q).unfetched vol lba := Dev.reap_nothing hxfers hingest
  refine ⟨_, exec_fetchData hup hnew hclk, ?_⟩
  dsimp only
  rw [Dev.fetched_gone (d := s.fresh.taken q) hfetch hidx hstaging, hreap, State.settle_sal]
  rfl

end

end Sys2Proof.Machine

namespace Sys2Proof

open Sys2Proof.Machine Sys2Proof.Safety

set_option Elab.async false

/-- Settles O49, a lemma per message. -/
theorem mirroringAndCrossPair : Obligations.MirroringAndCrossPair :=
  ⟨fun _ _ _ _ _ _ hup hnew hsal hl _ he hpage hn hclk => mirrorDataReceive_programs hup hnew hsal hl he hpage hn hclk,
    fun _ _ _ hup hnew hclk => mirrorAckReceive_covers hup hnew hclk,
    fun _ _ _ _ _ _ hup hnew hrecs hsal hl _ he hpage hn hclk =>
      journalReceive_programs hup hnew hrecs hsal hl he hpage hn hclk,
    fun _ _ r hup hnew hclk => mirrorReleaseReceive_releases r hup hnew hclk,
    fun _ _ disc addr words hup hnew hclk => clusterReceive_stages disc addr words hup hnew hclk,
    fun _ _ _ _ _ hup hnew hkind hx hreshape hy hm hclk => burnReportReceive_marks hup hnew hkind hx hreshape hy hm hclk,
    fun _ _ _ _ hup hnew hidx hclk => fetchReceive_notHeld hup hnew hidx hclk,
    fun _ _ _ _ _ hup hnew hidx hclk => fetchReceive_reads hup hnew hidx hclk,
    fun _ _ _ _ _ _ _ _ hup hnew hfetch hl _ he hpage hn hstaging hingest hxfers hclk =>
      fetchDataReceive_programs hup hnew hfetch hl he hpage hn hstaging hingest hxfers hclk,
    fun _ _ _ _ hup hnew hfetch hidx hstaging hquiet hclk => fetchDataReceive_ends hup hnew hfetch hidx hstaging hquiet hclk⟩

end Sys2Proof

/-! SUPPORT. The link to the peer and its heartbeats (R561 to R565, R570): what the requests for mechanisms keep of them. -/

namespace Sys2Proof.Machine

open Sys2Proof Sys2Proof.Safety

set_option Elab.async false

/-- The peer's unit without the mechanisms asked for. -/
def Peer.unasked (p : Peer) : Peer := { p with wantSp := 0, wantPk := 0 }

/-- From `a` to `b` mechanisms were asked for and commands completed: the rest of the peer's unit stays, and so do the registers
below those of the ports that posting leaves. -/
structure Asked (a b : Dev) : Prop where
  peer : b.peer.unasked = a.peer.unasked
  regs : ∀ k dflt, k < 0x100000 * 8 → calmKey k = true → mget b.fv dflt k = mget a.fv dflt k

namespace Asked

variable {a b c : Dev}

theorem refl (a : Dev) : Asked a a := ⟨rfl, fun _ _ _ _ => rfl⟩

theorem trans (h : Asked a b) (g : Asked b c) : Asked a c :=
  ⟨g.peer.trans h.peer, fun k d hk hc => (g.regs k d hk hc).trans (h.regs k d hk hc)⟩

theorem foldl {α : Type} {f : Dev → α → Dev} (h : ∀ d x, Asked d (f d x)) (l : List α) (d : Dev) : Asked d (l.foldl f d) := by
  induction l generalizing d with
  | nil => exact refl d
  | cons x t ih => exact (h d x).trans (ih _)

theorem of_calm (h : Calm a b) : Asked a b := ⟨by rw [h.peer], fun k d _ hc => h.fv k d hc⟩

theorem of_fv (hp : b.peer = a.peer) (hf : b.fv = a.fv) : Asked a b := ⟨by rw [hp], fun _ _ _ _ => by rw [hf]⟩

/-- What the peer's unit holds beside the mechanisms asked for. -/
theorem same (h : Asked a b) {α : Type} (f : Peer → α) (hf : ∀ p, f p.unasked = f p) : f b.peer = f a.peer := by
  rw [← hf, h.peer, hf]

theorem rd (h : Asked a b) (f : Fld) (hk : f.key 0 0 < 0x100000 * 8) (hc : calmKey (f.key 0 0) = true) : b.rd f = a.rd f :=
  h.regs _ _ hk hc

theorem flag (h : Asked a b) (f : Fld) (hk : f.key 0 0 < 0x100000 * 8) (hc : calmKey (f.key 0 0) = true) : b.flag f = a.flag f :=
  Dev.flag_congr (h.rd f hk hc)

/-- A register of the ports or of what stands after them. -/
theorem wr (d : Dev) {f : Fld} (v i : Nat) (hf : 0x100000 ≤ f.base) : Asked d (d.wr f v i) := by
  refine ⟨rfl, fun k e hk _ => mget_mset_ne _ _ _ _ ?_⟩
  simp only [Fld.key]
  omega

theorem spRequest (d : Dev) (n : Nat) : Asked d (d.spRequest n) := by
  have req := wr d (f := Reg.MOT_SP_STATUS_REQ) 1 n (by decide)
  have caught (d : Dev) : Asked d (d.spCatch n) := by
    unfold Dev.spCatch Dev.setSpState Dev.bump
    exact .trans (.trans (.trans (wr d (f := Reg.MOT_SP_STATUS_STATE) 1 n (by decide)) (of_fv rfl rfl))
      (wr _ (f := Reg.MOT_SP_CNT_CATCH) _ n (by decide))) (of_fv rfl rfl)
  unfold Dev.spRequest
  dsimp only
  split
  · exact req.trans (caught _)
  · exact req

theorem sendDown_peer (d : Dev) (p : Nat) (c : DownCell) : (d.sendDown p c).peer = d.peer := by
  unfold Dev.sendDown
  split <;> rfl

theorem ctlNow_peer (d : Dev) (p : Nat) (op : CtlOp) (tries : Nat) : (d.ctlNow p op tries).peer = d.peer := by
  unfold Dev.ctlNow Dev.sendControl
  exact sendDown_peer _ _ _

theorem ctl (d : Dev) (p : Nat) (op : CtlOp) : Asked d (d.ctl p op) := by
  refine of_fv ?_ (StepKeeps.ctl d op (p := p)).fv
  unfold Dev.ctl
  split
  · exact ctlNow_peer d p op 0
  · split <;> rfl

theorem takeoverStart (d : Dev) (c pk sp : Nat) (takeover : Bool) : Asked d (d.takeoverStart c pk sp takeover) := by
  have spindles (m : Nat) (d : Dev) : Asked d (d.each 8 fun d n => if m.testBit n then d.spRequest n else d) := by
    refine foldl (fun d n => ?_) _ d
    split
    · exact spRequest d n
    · exact refl d
  have pickups (m : Nat) (d : Dev) : Asked d (d.each 16 fun d p => if m.testBit p then d.ctl p (.ownRequest takeover d.node) else d) := by
    refine foldl (fun d p => ?_) _ d
    split
    · exact ctl d p _
    · exact refl d
  unfold Dev.takeoverStart
  dsimp only
  split
  · exact refl d
  · next k _ =>
    have waits (w : Ctx) : Asked d (d.setCtx c (some w)) := of_fv rfl rfl
    split
    · exact .trans (.trans (.trans (waits _) (spindles _ _)) (pickups _ _)) (of_calm (.complete _ _ _ _))
    · exact .trans (.trans (waits _) (spindles _ _)) (pickups _ _)

theorem takeoverGo (d : Dev) (c pk sp : Nat) : Asked d (d.takeoverGo c pk sp) := by
  have wanted (n m : Nat) : Asked d { d with peer := { d.peer with wantSp := n, wantPk := m } } := ⟨rfl, fun _ _ _ _ => rfl⟩
  exact .trans (wanted _ _) (takeoverStart _ c pk sp true)

theorem takeoverReleased (d : Dev) : Asked d d.takeoverReleased := by
  refine foldl (fun d c => ?_) _ d
  split
  · split
    · exact takeoverGo d c _ _
    · exact refl d
  · exact refl d

end Asked

/-! ### The link -/

section
variable {s : State}

theorem nerLinkUp_links (htrain : s.dev.peer.training = true) (hclk : s.dev.clocked 12 = true) :
    After .nerLinkUp s fun t => t.dev.linkUp = true ∧ t.dev.peer.training = false := by
  refine ⟨_, rfl, ?_⟩
  dsimp only
  rw [if_pos (show s.fresh.clocked 12 = true from hclk)]
  rw [show s.fresh.peer.training = true from htrain, if_neg (by decide), Dev.linkUp, State.settle_flag _ _ _ _ _ (by decide),
    State.settle_peer]
  exact ⟨Dev.flag_wr_same s.fresh Reg.PEER_STATUS_LINK 1 0 0, rfl⟩

/-- The device whose link has just lost a lane (R561): of what the peer has not acknowledged it keeps what outlives the link
(log entry 146). -/
def Dev.laneDown (d : Dev) (lane : Nat) : Dev :=
  { (d.peerErr Reg.PEER_ERR_LANE_LOSS lane).wr Reg.PEER_STATUS_LINK 0 with
    peer := { d.peer with unacked := d.peer.unacked.filter (fun u => outlives u.2), toAck := [], seen := [] } }

theorem Dev.laneDown_regs (d : Dev) (lane : Nat) : (d.laneDown lane).linkUp = false ∧
    (d.laneDown lane).flag Reg.PEER_ERR_LANE_LOSS = true ∧ (d.laneDown lane).peerAlive = d.peerAlive := by
  have kept (f : Fld) (h : f.key 0 0 ≠ Reg.PEER_STATUS_LINK.key 0 0) :
      (d.laneDown lane).flag f = (d.peerErr Reg.PEER_ERR_LANE_LOSS lane).flag f :=
    Dev.flag_wr_ne (d.peerErr Reg.PEER_ERR_LANE_LOSS lane) Reg.PEER_STATUS_LINK f 0 0 0 0 0 h
  refine ⟨Dev.flag_wr_same (d.peerErr Reg.PEER_ERR_LANE_LOSS lane) Reg.PEER_STATUS_LINK 0 0 0, ?_, ?_⟩
  · exact (kept _ (by decide)).trans (Dev.flag_setErr_same d rfl 0 _ _ _ _)
  · exact (kept _ (by decide)).trans (Dev.flag_setErr_ne d _ _ _ _ _ _ _ _ _ _ (by decide))

theorem nerLaneLoss_trains (lane : Fin 4) (hup : s.dev.linkUp = true) (hdead : s.dev.peerAlive = false)
    (hclk : s.dev.clocked 12 = true) : After (.nerLaneLoss lane) s fun t => t.dev.linkUp = false ∧
      t.dev.flag Reg.PEER_ERR_LANE_LOSS = true ∧
      t.dev.peer.unacked = s.dev.peer.unacked.filter (fun u => outlives u.2) ∧ t.dev.peer.training = true := by
  obtain ⟨hdown, hlost, halive⟩ := s.fresh.laneDown_regs lane.val
  have hlive : ¬ (true && (s.fresh.laneDown lane.val).peerAlive) = true := by
    rw [halive, show s.fresh.peerAlive = false from hdead]
    decide
  have hdone : ¬ (!true && !s.fresh.peer.training) = true := by simp
  let e : Dev := { s.fresh.laneDown lane.val with peer := { (s.fresh.laneDown lane.val).peer with hbRun := 0 } }
  have hrow : exec (.nerLaneLoss lane) s = .next (s.settle e.nerTrain) := by
    refine congrArg (fun d => Host.Outcome.next (s.settle d)) ?_
    dsimp only
    rw [if_pos (show s.fresh.clocked 12 = true from hclk), show s.fresh.linkUp = true from hup, if_neg hdone]
    exact congrArg Dev.nerTrain (if_neg hlive)
  refine ⟨_, hrow, ?_⟩
  dsimp only
  rw [Dev.linkUp, State.settle_flag _ _ _ _ _ (by decide), State.settle_flag _ _ _ _ _ (by decide), State.settle_peer]
  exact ⟨hdown, hlost, rfl, rfl⟩

/-! ### Heartbeats -/

theorem heartbeatSend_sends (hconf : s.dev.flag Reg.PEER_STATUS_CONFIGURED = true) (hup : s.dev.linkUp = true)
    (hclk : s.dev.clocked 12 = true) : After .heartbeatSend s fun t => sentNer s.dev t.sent s.dev.peer.txSeq (.heartbeat
      { seq := s.dev.peer.txSeq, node := s.dev.node, role := s.dev.flag Reg.GLB_NODE_ROLE, lifeCycle := s.dev.lifeCycle,
        spindles := BitVec.ofNat 8 s.dev.grantMask, pickups := BitVec.ofNat 16 s.dev.ownMask, volumes := s.dev.homedVolumes,
        saltern := s.dev.salState, time := s.dev.now.toNat, acks := s.dev.peer.toAck }) ∧ t.dev.peer.toAck = [] := by
  refine ⟨_, rfl, ?_⟩
  dsimp only
  rw [if_pos (show s.fresh.clocked 12 = true from hclk)]
  rw [show s.fresh.flag Reg.PEER_STATUS_CONFIGURED = true from hconf, show s.fresh.linkUp = true from hup, if_neg (by decide),
    State.settle_peer, Dev.toAck_ner]
  refine ⟨State.mem_sent _ _ _ (mem_outsOf.2 ?_), rfl⟩
  rw [Dev.ner, if_pos (by exact hup)]
  exact List.mem_append_right _ (List.mem_singleton.2 rfl)

/-- The device that has a HEARTBEAT. -/
def Dev.heard (d : Dev) (m : Heartbeat) : Dev :=
  { d.bump Reg.PEER_CNT_HB_COUNT with peer := { d.peer with
    unacked := d.peer.unacked.filter (fun u => !m.acks.contains u.1), last := some m, hbRun := d.peer.hbRun + 1 } }

/-- A HEARTBEAT of a peer that is alive, once the wait for its first has ended, is kept and counted. -/
theorem Dev.heartbeat_alive {d : Dev} (m : Heartbeat) (hwait : d.peer.waitClaim = false) (halive : d.peerAlive = true) :
    Asked (d.heard m) (d.heartbeat m) := by
  have hasked : Asked (d.heard m) (d.heard m).takeoverReleased := .takeoverReleased _
  have hlives : (d.heard m).takeoverReleased.peerAlive = true := by
    rw [Dev.peerAlive, hasked.flag _ (by decide) (by decide)]
    exact (Dev.flag_wr_ne d _ _ _ _ _ _ _ (by decide)).trans halive
  have hback : (decide (2 ≤ (d.heard m).takeoverReleased.peer.hbRun) && !(d.heard m).takeoverReleased.peerAlive) = false := by
    rw [hlives, Bool.not_true, Bool.and_false]
  have hclaim : (d.heard m).peer.waitClaim = false := hwait
  have hmeant : d.heartbeat m = (d.heard m).takeoverReleased := by
    have hunfold : d.heartbeat m = (
      let e := if (d.heard m).peer.waitClaim then
          ({ d.heard m with peer := { (d.heard m).peer with waitClaim := false } }).claimHome ((d.heard m).rd Reg.PEER_CFG_HOME_SP)
        else d.heard m
      if decide (2 ≤ e.takeoverReleased.peer.hbRun) && !e.takeoverReleased.peerAlive then e.takeoverReleased.peerReturns
      else e.takeoverReleased) := rfl
    rw [hunfold, hclaim]
    simp only [hback, Bool.false_eq_true, if_false]
  rw [hmeant]
  exact hasked

theorem heartbeatReceive_counts {m : Heartbeat} (hup : s.dev.linkUp = true) (hnew : ¬ m.seq ∈ s.dev.peer.seen)
    (hconf : s.dev.flag Reg.PEER_STATUS_CONFIGURED = true) (hwait : s.dev.peer.waitClaim = false) (halive : s.dev.peerAlive = true)
    (hclk : s.dev.clocked 12 = true) : After (.heartbeatReceive m) s fun t => t.dev.peer.last = some m ∧
      t.dev.peer.hbRun = s.dev.peer.hbRun + 1 ∧
      t.dev.peer.unacked = s.dev.peer.unacked.filter (fun u => !m.acks.contains u.1) ∧ m.seq ∈ t.dev.peer.toAck ∧
      t.dev.rd Reg.PEER_CNT_HB_COUNT = min (2 ^ Reg.PEER_CNT_HB_COUNT.w - 1) (s.dev.rd Reg.PEER_CNT_HB_COUNT + 1) := by
  have hasked := Dev.heartbeat_alive (d := s.fresh.taken m.seq) m hwait halive
  have hcount : ((s.fresh.taken m.seq).heard m).rd Reg.PEER_CNT_HB_COUNT =
      min (2 ^ Reg.PEER_CNT_HB_COUNT.w - 1) (s.dev.rd Reg.PEER_CNT_HB_COUNT + 1) := Dev.rd_bump_same (s.fresh.taken m.seq) _ _ _ _
  refine ⟨_, State.nerTaken hclk hup hnew _, ?_⟩
  dsimp only
  rw [if_pos (show (s.fresh.taken m.seq).flag Reg.PEER_STATUS_CONFIGURED = true from hconf), State.settle_peer,
    State.settle_rd _ _ _ _ _ (by decide)]
  rw [hasked.same Peer.last fun _ => rfl, hasked.same Peer.hbRun fun _ => rfl, hasked.same Peer.unacked fun _ => rfl,
    hasked.same Peer.toAck fun _ => rfl, hasked.rd _ (by decide) (by decide)]
  exact ⟨rfl, rfl, rfl, Dev.mem_taken m.seq, hcount⟩

/-- The device that has just noted the loss of the peer (R564). -/
def Dev.lossNoted (d : Dev) : Dev :=
  let d := (((d.wr Reg.PEER_STATUS_ALIVE 0).peerErr Reg.PEER_ERR_PEER_LOST).bump Reg.PEER_CNT_LOSS_LOST).peerRecord 0x6001
  { d with peer := { d.peer with lost := true, hbRun := 0 } }

theorem Dev.lossNoted_regs (d : Dev) : d.lossNoted.peerAlive = false ∧ d.lossNoted.flag Reg.PEER_ERR_PEER_LOST = true ∧
    d.lossNoted.flag Reg.PEER_CFG_AUTO_TAKEOVER = d.flag Reg.PEER_CFG_AUTO_TAKEOVER := by
  let a := d.wr Reg.PEER_STATUS_ALIVE 0
  have counted (f : Fld) (h : f.key 0 0 ≠ Reg.PEER_CNT_LOSS_LOST.key 0 0) :
      d.lossNoted.flag f = (a.peerErr Reg.PEER_ERR_PEER_LOST).flag f := Dev.flag_wr_ne (a.peerErr Reg.PEER_ERR_PEER_LOST) _ f _ 0 0 0 0 h
  have noted (f : Fld) (h : f.key 0 0 ≠ Reg.PEER_ERR_PEER_LOST.key 0 0) : (a.peerErr Reg.PEER_ERR_PEER_LOST).flag f = a.flag f :=
    Dev.flag_setErr_ne a _ f _ _ _ _ _ _ 0 0 h
  refine ⟨?_, ?_, ?_⟩
  · exact ((counted _ (by decide)).trans (noted _ (by decide))).trans (Dev.flag_wr_same d Reg.PEER_STATUS_ALIVE 0 0 0)
  · exact (counted _ (by decide)).trans (Dev.flag_setErr_same a rfl 0 _ _ _ _)
  · exact ((counted _ (by decide)).trans (noted _ (by decide))).trans (Dev.flag_wr_ne d _ _ _ _ _ _ _ (by decide))

/-- With no page to be acknowledged and no LB fetched, nothing more is lost with the peer. -/
theorem Asked.ofLoss {d : Dev} (hun : d.sal.unacked = []) (hfetch : d.sal.fetching = []) : Asked d d.unmirror.fetchLost.takeoverReleased := by
  have hunmirror : Asked d d.unmirror ∧ d.unmirror.sal.fetching = [] := by
    unfold Dev.unmirror
    split
    · exact ⟨.refl d, hfetch⟩
    · rw [hun]
      exact ⟨.of_fv rfl rfl, hfetch⟩
  have hlost : Asked d.unmirror d.unmirror.fetchLost := by
    unfold Dev.fetchLost
    rw [hunmirror.2]
    exact .of_fv rfl rfl
  exact .trans (.trans hunmirror.1 hlost) (.takeoverReleased _)

/-- The loss of the peer is noted, and no mechanism is taken over unless that is automatic (R571). -/
theorem Dev.peerLost_notes {d : Dev} (hun : d.sal.unacked = []) (hfetch : d.sal.fetching = [])
    (hauto : d.flag Reg.PEER_CFG_AUTO_TAKEOVER = false) :
    d.peerLost.peerAlive = false ∧ d.peerLost.peer.lost = true ∧ d.peerLost.flag Reg.PEER_ERR_PEER_LOST = true := by
  have hasked : Asked d.lossNoted d.lossNoted.unmirror.fetchLost.takeoverReleased := .ofLoss hun hfetch
  obtain ⟨hdead, herr, hcfg⟩ := d.lossNoted_regs
  have hmanual : d.lossNoted.unmirror.fetchLost.takeoverReleased.flag Reg.PEER_CFG_AUTO_TAKEOVER = false := by
    rw [hasked.flag _ (by decide) (by decide), hcfg, hauto]
  have hmeant : d.peerLost = d.lossNoted.unmirror.fetchLost.takeoverReleased := by
    unfold Dev.peerLost
    extract_lets marked recorded peer noted left
    have hleft : left = d.lossNoted.unmirror.fetchLost.takeoverReleased := rfl
    split
    · exact hleft
    · exact (if_pos (by rw [hleft, hmanual]; rfl)).trans hleft
  rw [hmeant]
  refine ⟨?_, (hasked.same Peer.lost fun _ => rfl).trans rfl, ?_⟩
  · rw [Dev.peerAlive, hasked.flag _ (by decide) (by decide)]
    exact hdead
  · rw [hasked.flag _ (by decide) (by decide), herr]

theorem heartbeatMiss_loses (halive : s.dev.peerAlive = true) (hun : s.dev.sal.unacked = []) (hfetch : s.dev.sal.fetching = [])
    (hauto : s.dev.flag Reg.PEER_CFG_AUTO_TAKEOVER = false) (hclk : s.dev.clocked 12 = true) :
    After .heartbeatMiss s fun t => t.dev.peerAlive = false ∧ t.dev.peer.lost = true ∧
      t.dev.flag Reg.PEER_ERR_PEER_LOST = true := by
  refine ⟨_, rfl, ?_⟩
  dsimp only
  rw [if_pos (show s.fresh.clocked 12 = true from hclk), if_pos (show s.fresh.peerAlive = true from halive), Dev.peerAlive,
    State.settle_flag _ _ _ _ _ (by decide), State.settle_flag _ _ _ _ _ (by decide), State.settle_peer]
  exact Dev.peerLost_notes (d := s.fresh) hun hfetch hauto

/-! ### Acknowledgements -/

theorem ackSend_acknowledges {q : BitVec 16} (hup : s.dev.linkUp = true) (hq : q ∈ s.dev.peer.toAck)
    (hclk : s.dev.clocked 12 = true) : After .ackSend s fun t => Out.nerAck q ∈ t.sent ∧ t.dev.peer.toAck = [] := by
  have sent (l : List (BitVec 16)) (d : Dev) : (l.foldl (fun d q => d.send (.nerAck q)) d).peer = d.peer ∧
      ∀ q ∈ l, Emit.out (.nerAck q) ∈ (l.foldl (fun d q => d.send (.nerAck q)) d).out := by
    have hout : (l.foldl (fun d q => d.send (.nerAck q)) d).out = d.out ++ l.map fun q => .out (.nerAck q) := by
      induction l generalizing d with
      | nil => simp
      | cons x t ih => rw [List.foldl_cons, ih]; simp [Dev.send, Dev.emit]
    refine ⟨Dev.foldl_same (g := Dev.peer) (f := fun d q => d.send (.nerAck q)) (fun _ _ => rfl) l d, fun q hq => ?_⟩
    rw [hout]
    exact List.mem_append_right _ (List.mem_map.2 ⟨q, hq, rfl⟩)
  refine ⟨_, rfl, ?_⟩
  dsimp only
  rw [if_pos (show s.fresh.clocked 12 = true from hclk), if_pos (show s.fresh.linkUp = true from hup), State.settle_peer]
  refine ⟨State.mem_sent _ _ _ (mem_outsOf.2 ((sent _ _).2 q hq)), ?_⟩
  rw [(sent _ _).1]

theorem messageResend_resends {q : BitVec 16} {m : NerMsg} (hup : s.dev.linkUp = true)
    (hfind : s.dev.peer.unacked.find? (fun u => u.1 == q) = some (q, m)) (hclk : s.dev.clocked 12 = true) :
    After (.messageResend q) s fun t => sentNer s.dev t.sent q m ∧ t.dev.flag Reg.PEER_ERR_RESEND = true ∧
      t.dev.rd Reg.PEER_CNT_LOSS_RESENT =
        min (2 ^ Reg.PEER_CNT_LOSS_RESENT.w - 1) (s.dev.rd Reg.PEER_CNT_LOSS_RESENT + 1) := by
  refine ⟨_, rfl, ?_⟩
  dsimp only
  rw [if_pos (show s.fresh.clocked 12 = true from hclk),
    show s.fresh.peer.unacked.find? (fun u => u.1 == q) = some (q, m) from hfind]
  dsimp only
  rw [if_pos (show s.fresh.linkUp = true from hup), State.settle_flag _ _ _ _ _ (by decide), State.settle_rd _ _ _ _ _ (by decide)]
  refine ⟨State.mem_sent _ _ _ (mem_outsOf.2 (List.mem_append_right _ (List.mem_singleton.2 rfl))), ?_, ?_⟩
  · exact (Dev.flag_wr_ne _ _ _ _ _ _ _ _ (by decide)).trans (Dev.flag_setErr_same s.fresh rfl 0 _ _ _ _)
  · refine (Dev.rd_bump_same (s.fresh.peerErr Reg.PEER_ERR_RESEND) _ _ _ _).trans ?_
    rw [show (s.fresh.peerErr Reg.PEER_ERR_RESEND).rd Reg.PEER_CNT_LOSS_RESENT = s.dev.rd Reg.PEER_CNT_LOSS_RESENT from
      Dev.rd_setErr_ne s.fresh _ _ _ _ _ _ _ _ _ _ (by decide)]

end

end Sys2Proof.Machine

namespace Sys2Proof

open Sys2Proof.Machine Sys2Proof.Safety

set_option Elab.async false

/-- Settles O48, a lemma per event. What outlives the loss of a lane is the model's choice (log entry 146). -/
theorem peerLinkAndHeartbeats : Obligations.PeerLinkAndHeartbeats :=
  ⟨fun _ htrain hclk => nerLinkUp_links htrain hclk,
    fun _ lane hup hdead hclk => nerLaneLoss_trains lane hup hdead hclk,
    fun _ hconf hup hclk => heartbeatSend_sends hconf hup hclk,
    fun _ _ hup hnew hconf hwait halive hclk => heartbeatReceive_counts hup hnew hconf hwait halive hclk,
    fun _ halive hun hfetch hauto hclk => heartbeatMiss_loses halive hun hfetch hauto hclk,
    fun _ _ hup hq hclk => ackSend_acknowledges hup hq hclk,
    fun _ _ _ hup hfind hclk => messageResend_resends hup hfind hclk⟩

end Sys2Proof

/-! SUPPORT. MEDIA EVENT LOADED (R482, R524). -/

namespace Sys2Proof.Machine

open Sys2Proof Sys2Proof.Safety

set_option Elab.async false

/-- A command that completes sends its completion, and every unit keeps what it was left with. -/
theorem Dev.Runs.settled {d : Dev} {c : Nat} {k : Ctx} (h : d.Runs c k) {s : State} {i : Instr} {st r : Nat}
    (hi : exec i s = .next (s.settle (d.complete c st r))) :
    After i s fun t => Out.completed k.sq k.e.cid.toNat st (BitVec.ofNat 64 r) ∈ t.sent ∧ Calm d t.dev :=
  ⟨_, hi, h.sent s st r, (Calm.complete d c st r).trans (s.settle_calm _)⟩

theorem Calm.disc {a b : Dev} (h : Calm a b) (n : Nat) : b.disc n = a.disc n := by rw [Dev.disc, Dev.disc, h.set]

theorem Dev.spindleCheck_passes {d : Dev} {n : Nat} (hn : n < 8) (hsp : d.hasSp n = true) : d.spindleCheck n = none := by
  rw [Dev.spindleCheck, if_neg (Nat.not_le.2 hn), hsp]
  rfl

theorem Dev.spindleCheck_await {s : State} {n : Nat} (c : Nat) (hn : n < 8) (hsp : s.dev.hasSp n = true) :
    (s.fresh.await c .run).spindleCheck n = none :=
  Dev.spindleCheck_passes hn ((Dev.hasSp_of_calm (.await s.fresh c .run) n).trans hsp)

theorem quiet_transfers {d : Dev} (h : quiet d = true) : d.mmu.xfers = [] ∧ d.waiting (fun w => w == .ingest) = [] := by
  simp only [quiet, Bool.and_eq_true, List.isEmpty_iff] at h
  obtain ⟨⟨⟨hx, hi⟩, -⟩, -⟩ := h
  exact ⟨hx, hi⟩

/-! ### LOADED (R524) -/

section
variable {d : Dev} {led : LedgerInfo}

/-- The queues, the transfers and the sets of two devices are the same: what the tables, the calibration and the events
of a disc leave alone. -/
structure SetKept (a b : Dev) : Prop where
  que : b.que = a.que
  mmu : b.mmu = a.mmu
  set : b.set = a.set

namespace SetKept

theorem refl (a : Dev) : SetKept a a := ⟨rfl, rfl, rfl⟩

theorem trans {a b c : Dev} (h : SetKept a b) (g : SetKept b c) : SetKept a c :=
  ⟨g.que.trans h.que, g.mmu.trans h.mmu, g.set.trans h.set⟩

/-- `trans`, the second step first. -/
theorem after {a b c : Dev} (g : SetKept b c) (h : SetKept a b) : SetKept a c := h.trans g

theorem foldl {α : Type} {f : Dev → α → Dev} (h : ∀ d x, SetKept d (f d x)) (l : List α) (d : Dev) : SetKept d (l.foldl f d) := by
  induction l generalizing d with
  | nil => exact refl d
  | cons x t ih => exact (h d x).trans (ih _)

theorem discTables (d : Dev) (p : Nat) : SetKept d (d.discTables p) :=
  .after (foldl (f := fun d l => d.wr Reg.SVO_IDX_OFS_VALID 0 p l) (fun _ _ => ⟨rfl, rfl, rfl⟩) (List.range 4) (d.dropTables p))
    ⟨rfl, rfl, rfl⟩

theorem calAsk (d : Dev) (p : Nat) (full : Bool) : SetKept d (d.calAsk p full) := ⟨rfl, rfl, rfl⟩

theorem media (d : Dev) (code disc sp vol member : Nat) : SetKept d (d.media code disc sp vol member) := ⟨rfl, rfl, rfl⟩

end SetKept

/-- The disc that a ledger of no set known here describes (R524). -/
def Dev.looseDisc (d : Dev) (led : LedgerInfo) : Disc :=
  { id := if led.blank then 0 else led.disc, epoch := if led.blank then 0 else led.epoch % 512, blank := led.blank,
    foreign := false, formatted := !led.blank, member := none, commits := if led.blank then [0, 0] else led.commits,
    bands := (if led.blank then ([], []) else d.bandsOf led none).1,
    spare := d.set.pool.any fun q => q.1 == if led.blank then 0 else led.disc, spares := [],
    runs := if led.blank then [] else led.runs, seals := if led.blank then [] else led.seals }

/-- The tables of one pickup go, its epoch is the disc's, and its calibration is due. -/
def Dev.pickupTakes (d : Dev) (epoch valid p : Nat) : Dev :=
  (((d.wr Reg.YAR_PK_EPOCH_EPOCH epoch p).wr Reg.YAR_PK_EPOCH_VALID valid p).discTables p).calAsk p true

theorem SetKept.pickupTakes (d : Dev) (epoch valid p : Nat) : SetKept d (d.pickupTakes epoch valid p) :=
  .after (calAsk _ p true) (.after (discTables _ p) ⟨rfl, rfl, rfl⟩)

/-- A disc of no set that is known here is taken. -/
theorem Dev.takeDisc_loose (sp : Nat) (h : (if led.blank then none else d.memberOf led) = none) :
    d.takeDisc sp led = ([2 * sp, 2 * sp + 1].foldl (fun d p => d.pickupTakes (d.looseDisc led).epoch
      (if led.blank then 0 else 1) p) (d.putDisc sp (some (d.looseDisc led)))).media 0x3002 (d.looseDisc led).id sp 0xFFFF 0xFF := by
  simp only [Dev.takeDisc, h, Option.getD_none, Dev.looseDisc, Dev.pickupTakes]

/-- It is held as its ledger says, and nothing else of the sets changes. -/
theorem SetKept.takeDisc (sp : Nat) (h : (if led.blank then none else d.memberOf led) = none) :
    SetKept (d.putDisc sp (some (d.looseDisc led))) (d.takeDisc sp led) := by
  rw [Dev.takeDisc_loose sp h]
  exact .after (.media _ _ _ _ _ _) (.foldl (fun d p => .pickupTakes d _ _ p) _ _)

end

section
variable {s : State} {c : Nat} {k : Ctx} {led : LedgerRead}

theorem mediaEventLoaded_takes {r : Nat} (h : startable s.dev c k { b := [40, 41] } = true) (hop : isMedia 0 k.e = true) (hn : k.e.at 40 < 8)
    (hsp : s.dev.hasSp (k.e.at 40) = true) (hhlm : s.dev.mmu.hlm.isSome = true) (hq : quiet s.dev = true)
    (hclk : s.dev.clocked 11 = true)
    (hloose : (if (ledgerInfo led).blank then none else (s.fresh.await c .run).memberOf (ledgerInfo led)) = none)
    (hgood : (ledgerInfo led).blank = true ∧ r = 0 ∨ (ledgerInfo led).blank = false ∧ (ledgerInfo led).readable = true ∧
      (ledgerInfo led).version = 1 ∧ (ledgerInfo led).agree = true ∧
      r = (ledgerInfo led).epoch % 512 + 2 ^ 16 * (ledgerInfo led).disc) :
    After (.mediaEventLoaded c led) s fun t => Out.completed k.sq k.e.cid.toNat St.success (BitVec.ofNat 64 r) ∈ t.sent ∧
      t.dev.disc (k.e.at 40) = some ((s.fresh.await c .run).looseDisc (ledgerInfo led)) := by
  obtain ⟨hxfers, hingest⟩ := quiet_transfers hq
  have hkept := SetKept.takeDisc (k.e.at 40) hloose
  have hruns := (Dev.runs_await h).of_ctxs (b := (s.fresh.await c .run).takeDisc (k.e.at 40) (ledgerInfo led))
    (congrArg Que.ctxs hkept.que)
  have hmmu : ((s.fresh.await c .run).takeDisc (k.e.at 40) (ledgerInfo led)).mmu = s.dev.mmu :=
    hkept.mmu.trans (Dev.await_mmu s.fresh c .run)
  have hgranted : (s.fresh.await c .run).mmu.hlm.isNone = false := by
    rw [Dev.await_mmu]
    simpa [Option.isSome_iff_ne_none] using hhlm
  have hwaiting : ((s.fresh.await c .run).takeDisc (k.e.at 40) (ledgerInfo led)).waiting (fun w => w == .ingest) = [] := by
    refine Dev.waiting_eq_nil.2 (.of_ctxs (a := s.fresh.await c .run) ?_ (congrArg Que.ctxs hkept.que))
    have hidle : EveryCtx (fun k => (k.wait == .ingest) = false) s.fresh := Dev.waiting_eq_nil.1 hingest
    exact hidle.await fun _ _ => rfl
  obtain ⟨t, ht, hsent, hcalm⟩ := hruns.settled (s := s) (i := .mediaEventLoaded c led) (st := St.success) (r := r) (by
    rw [← hruns.reap_complete (hmmu ▸ hxfers) hwaiting]
    refine congrArg (fun d => Host.Outcome.next (s.settle d)) ?_
    beta_reduce
    rw [if_pos (show s.fresh.clocked 11 = true from hclk), State.fresh_served h hop]
    dsimp only
    rw [Dev.spindleCheck_await c hn hsp, hgranted]
    obtain ⟨hb, rfl⟩ | ⟨hb, hr, hv, ha, rfl⟩ := hgood
    · simp only [hb, if_true, Bool.false_eq_true, if_false]
    · simp [hb, hr, hv, ha])
  refine ⟨t, ht, hsent, ?_⟩
  rw [hcalm.disc, Dev.disc, hkept.set]
  exact Dev.disc_putDisc_same _ _ _

theorem mediaEventLoaded_blank (h : startable s.dev c k { b := [40, 41] } = true) (hop : isMedia 0 k.e = true) (hn : k.e.at 40 < 8)
    (hsp : s.dev.hasSp (k.e.at 40) = true) (hhlm : s.dev.mmu.hlm.isSome = true) (hblank : (ledgerInfo led).blank = true)
    (hq : quiet s.dev = true) (hclk : s.dev.clocked 11 = true) :
    After (.mediaEventLoaded c led) s fun t => Out.completed k.sq k.e.cid.toNat St.success 0 ∈ t.sent ∧
      (t.dev.disc (k.e.at 40)).map (·.blank) = some true := by
  obtain ⟨t, ht, hsent, hdisc⟩ :=
    mediaEventLoaded_takes h hop hn hsp hhlm hq hclk (by rw [hblank]; rfl) (.inl ⟨hblank, rfl⟩)
  exact ⟨t, ht, hsent, by rw [hdisc]; exact congrArg some hblank⟩

theorem mediaEventLoaded_recorded (h : startable s.dev c k { b := [40, 41] } = true) (hop : isMedia 0 k.e = true)
    (hn : k.e.at 40 < 8) (hsp : s.dev.hasSp (k.e.at 40) = true) (hhlm : s.dev.mmu.hlm.isSome = true) {info : LedgerInfo}
    (hinfo : info = ledgerInfo led) (hblank : info.blank = false) (hread : info.readable = true) (hver : info.version = 1)
    (hagree : info.agree = true) (hmem : info.member = none) (hsets : s.dev.set.sets = []) (hq : quiet s.dev = true)
    (hclk : s.dev.clocked 11 = true) : After (.mediaEventLoaded c led) s fun t =>
      Out.completed k.sq k.e.cid.toNat St.success (BitVec.ofNat 64 (info.epoch % 512 + 2 ^ 16 * info.disc)) ∈ t.sent ∧
      (t.dev.disc (k.e.at 40)).map (fun x => (x.id, x.epoch, x.formatted)) = some (info.disc, info.epoch % 512, true) := by
  subst hinfo
  have hnone : (s.fresh.await c .run).set.sets = [] := by rw [(Calm.await s.fresh c .run).set]; exact hsets
  have hloose : (if (ledgerInfo led).blank then none else (s.fresh.await c .run).memberOf (ledgerInfo led)) = none := by
    simp [Dev.memberOf, hnone, hmem]
  obtain ⟨t, ht, hsent, hdisc⟩ :=
    mediaEventLoaded_takes h hop hn hsp hhlm hq hclk hloose (.inr ⟨hblank, hread, hver, hagree, rfl⟩)
  refine ⟨t, ht, hsent, ?_⟩
  rw [hdisc, Option.map_some, Dev.looseDisc, hblank]
  rfl

end

end Sys2Proof.Machine
/-! SUPPORT. The steps of a FORMAT or a SANITISE, and FORMAT of a disc (R485, R486, R526). -/

namespace Sys2Proof.Machine

open Sys2Proof Sys2Proof.Safety

set_option Elab.async false

/-! ### The progress records (R485) -/

section
variable {d : Dev} {o : BgOp}

theorem Dev.bgOp_putOp (id : Nat) : (d.putOp id o).bgOp id = some o := mget_mset_same d.mgmt.bgOps none (some o) id

theorem Dev.ops_putOp (id : Nat) : mget (d.putOp id o).flash.boot.ops none id = some o :=
  mget_mset_same d.flash.boot.ops none (some o) id

end

/-- An operation after a step that is not its last. -/
def BgOp.stepped (o : BgOp) (fraction : Nat) : BgOp := { o with step := (o.step + 1) % 256, done := min 65535 fraction }

section
variable {s : State} {op fraction : Nat} {o : BgOp}

theorem operationStepDone_records (ok : Bool) (ho : s.dev.bgOp op = some o) (hruns : o.state = 0) (htype : o.type < 3)
    (hq : quiet s.dev = true) : After (.operationStepDone op false ok fraction) s fun t =>
      (t.dev.bgOp op).map (·.done) = some (min 65535 fraction) ∧ mget t.dev.flash.boot.ops none op = t.dev.bgOp op := by
  obtain ⟨hxfers, hingest⟩ := quiet_transfers hq
  have hstep : s.fresh.stepOp op o fraction = s.fresh.putOp op (o.stepped fraction) := by
    rw [Dev.stepOp, if_neg (by omega), if_neg (by omega)]
    rfl
  have hserved : exec (.operationStepDone op false ok fraction) s = .next (s.settle (s.fresh.putOp op (o.stepped fraction))) := by
    refine congrArg (fun d => Host.Outcome.next (s.settle d)) ?_
    dsimp only
    rw [show s.fresh.bgOp op = some o from ho]
    dsimp only
    rw [hruns, hstep, Dev.reap_nothing (d := s.fresh.putOp op (o.stepped fraction)) hxfers hingest]
    rfl
  refine ⟨_, hserved, ?_⟩
  dsimp only
  rw [show (s.settle (s.fresh.putOp op (o.stepped fraction))).dev.bgOp op = some (o.stepped fraction) by
    rw [Dev.bgOp, State.settle_mgmt]; exact Dev.bgOp_putOp op, State.settle_flash, Dev.ops_putOp]
  exact ⟨rfl, rfl⟩

theorem operationStepDone_sanitised (ho : s.dev.bgOp op = some o) (hruns : o.state = 0) (htype : o.type = 2)
    (hq : quiet s.dev = true) : After (.operationStepDone op true true fraction) s fun t =>
      (t.dev.bgOp op).map (fun x => (x.state, x.done)) = some (1, 65535) ∧
      t.dev.salState = (if s.dev.flash.boot.formatted then 2 else 0) := by
  obtain ⟨hxfers, hingest⟩ := quiet_transfers hq
  let ended := (s.fresh.wr Reg.SAL_STATUS_STATE (if s.dev.flash.boot.formatted then 2 else 0)).endOp op o true
  have hserved : exec (.operationStepDone op true true fraction) s = .next (s.settle ended) := by
    refine congrArg (fun d => Host.Outcome.next (s.settle d)) ?_
    dsimp only
    rw [show s.fresh.bgOp op = some o from ho]
    dsimp only
    rw [hruns, Dev.finishOp, htype]
    exact Dev.reap_nothing hxfers hingest
  refine ⟨_, hserved, ?_, ?_⟩
  · rw [Dev.bgOp, State.settle_mgmt]
    exact congrArg (Option.map fun x : BgOp => (x.state, x.done)) (Dev.bgOp_putOp op)
  · rw [Dev.salState, State.settle_rd _ _ _ _ _ (by decide)]
    simp (disch := decide) only [ended, Dev.endOp, Dev.showSets, Dev.rd_wr_ne]
    refine (Dev.rd_wr_same s.fresh Reg.SAL_STATUS_STATE _ 0 0).trans ?_
    split <;> rfl

end

/-! ### FORMAT of a disc (R526) -/

section
variable {s : State} {c : Nat} {k : Ctx} {x : Disc}

/-- The device that has stored the next format counter. -/
def Dev.countsDisc (d : Dev) : Dev :=
  Dev.flashWrite { d with flash := { d.flash with boot := { d.flash.boot with discCounter := d.flash.boot.discCounter + 1 } } }
    (.boot 3)

/-- A FORMAT of the disc of a spindle, as a new operation. -/
def discFormat (sp counter : Nat) : BgOp :=
  { type := 1, state := 0, step := 0, done := 0, object := sp, arg := sp + 1, plan := [counter] }

theorem formatDisc_starts (h : startable s.dev c k { b := [40, 41, 42] } = true) (hop : (k.e.op == 0x11 && k.e.at 40 == 1) = true)
    (hn : k.e.at 41 < 8) (hsp : s.dev.hasSp (k.e.at 41) = true) (hmode : k.e.at 42 ≤ 1) (hx : s.dev.disc (k.e.at 41) = some x)
    (hblank : x.blank = true) (hours : x.foreign = false) (hops : s.dev.mgmt.bgOps = []) (hclk : s.dev.clocked 11 = true) :
    After (.formatDisc c) s fun t => Out.completed k.sq k.e.cid.toNat St.success (BitVec.ofNat 64 (s.dev.mgmt.bgNext)) ∈ t.sent ∧
      t.dev.flash.boot.discCounter = s.dev.flash.boot.discCounter + 1 ∧
      (t.dev.bgOp s.dev.mgmt.bgNext).map (fun o => (o.type, o.state, o.object)) = some (1, 0, k.e.at 41) := by
  have hcalm := Calm.await s.fresh c .run
  let o := discFormat (k.e.at 41) ((s.fresh.await c .run).flash.boot.discCounter + 1).toNat
  have hid : ((s.fresh.await c .run).countsDisc.newOp o).1 = s.dev.mgmt.bgNext := congrArg Mgmt.bgNext hcalm.mgmt
  have hruns := (Dev.runs_await h).of_ctxs (b := ((s.fresh.await c .run).countsDisc.newOp o).2) rfl
  obtain ⟨t, ht, hsent, hkept⟩ := hruns.settled (s := s) (i := .formatDisc c) (st := St.success) (r := s.dev.mgmt.bgNext) (by
    rw [← hid]
    refine congrArg (fun d => Host.Outcome.next (s.settle d)) ?_
    beta_reduce
    rw [if_pos (show s.fresh.clocked 11 = true from hclk), State.fresh_served h hop]
    dsimp only
    rw [Dev.spindleCheck_await c hn hsp]
    dsimp only
    rw [if_neg (Nat.not_lt.2 hmode), (hcalm.disc _).trans hx]
    dsimp only
    rw [hblank, hours, if_neg (by decide), if_neg]
    · rfl
    · rw [hcalm.mgmt]
      simp [hops])
  refine ⟨t, ht, hsent, ?_, ?_⟩
  · rw [hkept.flash]
    exact congrArg (fun f : Flash => f.boot.discCounter + 1) hcalm.flash
  · rw [Dev.bgOp, hkept.mgmt, ← hid]
    exact congrArg (Option.map fun o : BgOp => (o.type, o.state, o.object)) (Dev.bgOp_putOp _)

end

end Sys2Proof.Machine
/-! SUPPORT. FORMAT of the Saltern, and SANITISE (R486, R490, R496). -/

namespace Sys2Proof.Machine

open Sys2Proof Sys2Proof.Safety

set_option Elab.async false

theorem Dev.ioCtxs_eq_nil {d : Dev} :
    d.ioCtxs = [] ↔ EveryCtx (fun k => (decide (0x80 ≤ k.e.op) && k.wait != .finished) = false) d := by
  simp only [Dev.ioCtxs, List.map_eq_nil_iff, List.filter_eq_nil_iff, EveryCtx]
  refine forall₂_congr fun e _ => ?_
  cases e.2 with
  | none => simp
  | some k => simp

/-- A command of the admin set that starts is no I/O command. -/
theorem State.ioCtxs_await {s : State} {c : Nat} {k : Ctx} (hc : s.dev.ctx c = some k) (hop : ¬ 0x80 ≤ k.e.op)
    (h : s.dev.ioCtxs = []) : (s.fresh.await c .run).ioCtxs = [] := by
  have hothers : EveryCtx (fun k => (decide (0x80 ≤ k.e.op) && k.wait != .finished) = false) s.fresh := Dev.ioCtxs_eq_nil.1 h
  have hawait : s.fresh.await c .run = s.fresh.setCtx c (some { k with wait := .run }) := by
    simp only [Dev.await, show s.fresh.ctx c = some k from hc]
  rw [hawait]
  refine Dev.ioCtxs_eq_nil.2 (hothers.setCtx fun k' hk' => ?_)
  cases hk'
  simp [hop]

theorem Dev.stagedOpen_congr {a b : Dev} (hsal : b.sal = a.sal) (hset : b.set = a.set) : b.stagedOpen = a.stagedOpen := by
  simp only [Dev.stagedOpen, Dev.volSet, Dev.stripe, hsal, hset]

theorem Dev.stagedAny_congr {a b : Dev} (hsal : b.sal = a.sal) (hflash : b.flash = a.flash) (hst : b.salState = a.salState) :
    b.stagedAny = a.stagedAny := by
  simp only [Dev.stagedAny, hsal, hflash, hst]

section
variable {d : Dev}

theorem Dev.endReadsWrites_none (h : d.ioCtxs = []) (st : Nat) : d.endReadsWrites st = d := by
  simp [Dev.endReadsWrites, h]

/-- Where nothing staged is unburned, the Saltern is emptied and nothing is reported lost. -/
theorem Dev.discardStaged_empties (h : d.stagedOpen = []) : d.discardStaged.que = d.que ∧ d.discardStaged.mgmt = d.mgmt ∧
    d.discardStaged.flash.pages = [] ∧ d.discardStaged.flash.boot = d.flash.boot ∧
    d.discardStaged.fv = ((d.wr Reg.SAL_STATUS_FULL 0).wr Reg.SAL_STATUS_GC 0).fv := by
  unfold Dev.discardStaged
  rw [h]
  exact ⟨rfl, rfl, rfl, rfl, rfl⟩

theorem Dev.eraseFrom_keeps (first : Nat) : (d.eraseFrom first).que = d.que ∧ (d.eraseFrom first).mgmt = d.mgmt ∧
    (d.eraseFrom first).flash = d.flash ∧ (d.eraseFrom first).fv = d.fv := by
  have kept : ((d.eraseFrom first).que, (d.eraseFrom first).mgmt, (d.eraseFrom first).flash, (d.eraseFrom first).fv) =
      (d.que, d.mgmt, d.flash, d.fv) :=
    Dev.foldl_same (g := fun d => (d.que, d.mgmt, d.flash, d.fv)) (f := fun d i => d.flashWrite (.erase (first + i)))
      (fun _ _ => rfl) _ d
  simpa using kept

end

/-- From `a` to `b` the Saltern was emptied, a new key pair was drawn, and the Saltern entered state `st`. -/
structure Cleared (st : Nat) (a b : Dev) : Prop where
  ctxs : b.que.ctxs = a.que.ctxs
  bgNext : b.mgmt.bgNext = a.mgmt.bgNext
  pages : b.flash.pages = []
  keyGen : b.flash.boot.keyGen = a.flash.boot.keyGen + 1
  state : b.salState = st

namespace Cleared

variable {st : Nat} {a b : Dev}

theorem eraseFrom (h : Cleared st a b) (first : Nat) : Cleared st a (b.eraseFrom first) := by
  obtain ⟨hque, hmgmt, hflash, hfv⟩ := b.eraseFrom_keeps first
  exact ⟨hque ▸ h.ctxs, hmgmt ▸ h.bgNext, hflash ▸ h.pages, hflash ▸ h.keyGen,
    (show (b.eraseFrom first).salState = b.salState by rw [Dev.salState, Dev.rd, hfv]; rfl).trans h.state⟩

/-- The staged data goes and the keys are drawn anew, once the state is written. -/
theorem discarded (hst : st < 8) (hopen : a.stagedOpen = []) :
    Cleared st a ((a.wr Reg.SAL_STATUS_STATE st).wr Reg.SAL_STATUS_INDEX_READY 0).discardStaged.newKey := by
  obtain ⟨hque, hmgmt, hpages, hboot, hfv⟩ :=
    Dev.discardStaged_empties (d := (a.wr Reg.SAL_STATUS_STATE st).wr Reg.SAL_STATUS_INDEX_READY 0) hopen
  refine ⟨congrArg Que.ctxs hque, congrArg Mgmt.bgNext hmgmt, hpages, congrArg (fun b : Boot => b.keyGen + 1) hboot, ?_⟩
  have hread (e f : Dev) (h : e.fv = f.fv) : e.newKey.salState = f.salState := by
    rw [Dev.salState, Dev.salState, Dev.rd, Dev.rd, ← h]
    rfl
  rw [hread _ _ hfv, Dev.salState]
  simp (disch := decide) only [Dev.rd_wr_ne]
  exact (Dev.rd_wr_same a Reg.SAL_STATUS_STATE st 0 0).trans (Nat.mod_eq_of_lt hst)

/-- The operation that is entered then takes the identifier that was next, and leaves the rest. -/
theorem started (h : Cleared st a b) (o : BgOp) : (b.newOp o).1 = a.mgmt.bgNext ∧ (b.newOp o).2.que.ctxs = a.que.ctxs ∧
    (b.newOp o).2.salState = st ∧ (b.newOp o).2.flash.pages = [] ∧
    (b.newOp o).2.flash.boot.keyGen = a.flash.boot.keyGen + 1 := ⟨h.bgNext, h.ctxs, h.state, h.pages, h.keyGen⟩

end Cleared

theorem Dev.newOp_formatted (d : Dev) (o : BgOp) : (d.newOp o).2.flash.boot.formatted = d.flash.boot.formatted := rfl

theorem Dev.newOp_flag (d : Dev) (o : BgOp) (f : Fld) : (d.newOp o).2.flag f = d.flag f := rfl

/-- The device as a new operation finds it when a FORMAT of the Saltern starts. -/
def Dev.formatCleared (d : Dev) : Dev :=
  ((d.wr Reg.SAL_STATUS_STATE 3).wr Reg.SAL_STATUS_INDEX_READY 0).discardStaged.newKey.formatBoot.eraseFrom 2

/-- The same when a SANITISE starts. -/
def Dev.sanitiseCleared (d : Dev) (scope : Nat) : Dev :=
  if scope = 1 then
    ((((d.wr Reg.SAL_STATUS_STATE 4).wr Reg.SAL_STATUS_INDEX_READY 0).cryptoErase).wipe []).eraseFrom 2
  else (((d.wr Reg.SAL_STATUS_STATE 4).wr Reg.SAL_STATUS_INDEX_READY 0).cryptoErase).wipe []

/-- A FORMAT of the Saltern, as a new operation. -/
def saltFormat : BgOp := { type := 1, state := 0, step := 0, done := 0, object := 0, arg := 0, plan := [] }

/-- A SANITISE, as a new operation. -/
def sanitising (scope : Nat) : BgOp := { type := 2, state := 0, step := 0, done := 0, object := 0, arg := scope, plan := [] }

section
variable {d : Dev}

theorem Dev.formatStart_idle (hio : d.ioCtxs = []) : d.formatStart = d.formatCleared.newOp saltFormat := by
  unfold Dev.formatStart
  dsimp only
  rw [Dev.endReadsWrites_none (d := (d.wr Reg.SAL_STATUS_STATE 3).wr Reg.SAL_STATUS_INDEX_READY 0) hio]
  rfl

theorem Cleared.formatCleared (hopen : d.stagedOpen = []) : Cleared 3 d d.formatCleared ∧
    d.formatCleared.flash.boot.formatted = false := by
  have hcleared := Cleared.discarded (a := d) (st := 3) (by decide) hopen
  have hboot : Cleared 3 d ((d.wr Reg.SAL_STATUS_STATE 3).wr Reg.SAL_STATUS_INDEX_READY 0).discardStaged.newKey.formatBoot :=
    ⟨hcleared.ctxs, hcleared.bgNext, hcleared.pages, hcleared.keyGen, hcleared.state⟩
  exact ⟨hboot.eraseFrom 2, congrArg (fun f : Flash => f.boot.formatted) (Dev.eraseFrom_keeps 2).2.2.1⟩

theorem Cleared.sanitiseCleared (hopen : d.stagedOpen = []) (scope : Nat) : Cleared 4 d (d.sanitiseCleared scope) ∧
    (d.sanitiseCleared scope).flag Reg.MEM_STATUS_WIPED = true := by
  have hcleared := Cleared.discarded (a := d) (st := 4) (by decide) hopen
  have hwiped : Cleared 4 d ((((d.wr Reg.SAL_STATUS_STATE 4).wr Reg.SAL_STATUS_INDEX_READY 0).cryptoErase).wipe []) :=
    ⟨hcleared.ctxs, hcleared.bgNext, hcleared.pages, hcleared.keyGen,
      (Dev.rd_wr_ne ((d.wr Reg.SAL_STATUS_STATE 4).wr Reg.SAL_STATUS_INDEX_READY 0).cryptoErase Reg.MEM_STATUS_WIPED
        Reg.SAL_STATUS_STATE 1 0 0 0 0 (by decide)).trans hcleared.state⟩
  have hflag : ((((d.wr Reg.SAL_STATUS_STATE 4).wr Reg.SAL_STATUS_INDEX_READY 0).cryptoErase).wipe []).flag
      Reg.MEM_STATUS_WIPED = true :=
    Dev.flag_wr_same (((d.wr Reg.SAL_STATUS_STATE 4).wr Reg.SAL_STATUS_INDEX_READY 0).cryptoErase) Reg.MEM_STATUS_WIPED 1 0 0
  unfold Dev.sanitiseCleared
  split
  · exact ⟨hwiped.eraseFrom 2, (Dev.flag_congr (by rw [Dev.rd, (Dev.eraseFrom_keeps 2).2.2.2]; rfl)).trans hflag⟩
  · exact ⟨hwiped, hflag⟩

end

section
variable {s : State} {c : Nat} {k : Ctx}

/-- The checks that both share pass in the run of the command (R486). -/
theorem State.clearing_allowed (c : Nat) (hidle : s.dev.clearing = false) (hforce : (k.e.at 42 == 1 || !s.dev.stagedAny) = true) :
    (s.fresh.await c .run).clearing = false ∧ (decide (k.e.at 42 = 0) && (s.fresh.await c .run).stagedAny) = false := by
  have hcalm := Calm.await s.fresh c .run
  have hst : (s.fresh.await c .run).salState = s.dev.salState := hcalm.rd Reg.SAL_STATUS_STATE 0 0 (by decide)
  rw [Dev.clearing, hst, Dev.stagedAny_congr hcalm.sal hcalm.flash hst]
  refine ⟨hidle, ?_⟩
  simp only [Bool.or_eq_true, beq_iff_eq, Bool.not_eq_true'] at hforce
  rcases hforce with hforced | hnone
  · simp [hforced]
  · rw [show s.fresh.stagedAny = s.dev.stagedAny from rfl, hnone, Bool.and_false]

theorem formatSaltern_clears (h : startable s.dev c k { b := [40, 42] } = true) (hop : (k.e.op == 0x11 && k.e.at 40 == 0) = true)
    (hmode : k.e.at 42 ≤ 1) (hidle : s.dev.clearing = false) (hforce : (k.e.at 42 == 1 || !s.dev.stagedAny) = true)
    (hgeo : s.dev.flash.geometryOk = true) (hio : s.dev.ioCtxs = []) (hopen : s.dev.stagedOpen = [])
    (hclk : s.dev.clocked 10 = true) : After (.formatSaltern c) s fun t =>
      Out.completed k.sq k.e.cid.toNat St.success (BitVec.ofNat 64 (s.dev.mgmt.bgNext)) ∈ t.sent ∧ t.dev.salState = 3 ∧
      t.dev.flash.pages = [] ∧ t.dev.flash.boot.keyGen = s.dev.flash.boot.keyGen + 1 ∧ t.dev.flash.boot.formatted = false := by
  have hcalm := Calm.await s.fresh c .run
  have hopcode : k.e.op = 0x11 := by simpa using (Bool.and_eq_true_iff.1 hop).1
  have hnoIo := State.ioCtxs_await (ctx_of_startable h).1 (by rw [hopcode]; decide) hio
  obtain ⟨hnot, hallowed⟩ := State.clearing_allowed c hidle hforce
  obtain ⟨hcleared, hformatted⟩ :=
    Cleared.formatCleared (d := s.fresh.await c .run) ((Dev.stagedOpen_congr hcalm.sal hcalm.set).trans hopen)
  obtain ⟨hnext, hctxs, hstate, hpages, hkey⟩ := hcleared.started saltFormat
  have hid := hnext.trans (congrArg Mgmt.bgNext hcalm.mgmt)
  have hruns := (Dev.runs_await h).of_ctxs hctxs
  obtain ⟨t, ht, hsent, hkept⟩ := hruns.settled (s := s) (i := .formatSaltern c) (st := St.success) (r := s.fresh.mgmt.bgNext) (by
    rw [← hid]
    refine congrArg (fun d => Host.Outcome.next (s.settle d)) ?_
    beta_reduce
    rw [if_pos (show s.fresh.clocked 10 = true from hclk), State.fresh_served h hop, if_neg (Nat.not_lt.2 hmode), hnot, hallowed,
      hcalm.flash, show s.fresh.flash.geometryOk = true from hgeo, Dev.formatStart_idle hnoIo]
    simp only [Bool.false_eq_true, if_false, Bool.not_true])
  refine ⟨t, ht, hsent, (hkept.rd Reg.SAL_STATUS_STATE 0 0 (by decide)).trans hstate, ?_⟩
  rw [hkept.flash]
  exact ⟨hpages, hkey.trans (by rw [hcalm.flash]; rfl), (Dev.newOp_formatted _ saltFormat).trans hformatted⟩

theorem sanitise_clears (h : startable s.dev c k { b := [40, 42] } = true) (hop : (k.e.op == 0x12) = true)
    (hscope : k.e.at 40 ≤ 1) (hmode : k.e.at 42 ≤ 1) (hidle : s.dev.clearing = false)
    (hforce : (k.e.at 42 == 1 || !s.dev.stagedAny) = true) (hio : s.dev.ioCtxs = []) (hopen : s.dev.stagedOpen = [])
    (hclk : s.dev.clocked 10 = true) : After (.sanitise c) s fun t =>
      Out.completed k.sq k.e.cid.toNat St.success (BitVec.ofNat 64 (s.dev.mgmt.bgNext)) ∈ t.sent ∧ t.dev.salState = 4 ∧
      t.dev.flash.pages = [] ∧ t.dev.flash.boot.keyGen = s.dev.flash.boot.keyGen + 1 ∧
      t.dev.flag Reg.MEM_STATUS_WIPED = true := by
  have hcalm := Calm.await s.fresh c .run
  have hopcode : k.e.op = 0x12 := beq_iff_eq.1 hop
  have hnoIo := State.ioCtxs_await (ctx_of_startable h).1 (by rw [hopcode]; decide) hio
  obtain ⟨hnot, hallowed⟩ := State.clearing_allowed c hidle hforce
  obtain ⟨hcleared, hwiped⟩ :=
    Cleared.sanitiseCleared (d := s.fresh.await c .run) ((Dev.stagedOpen_congr hcalm.sal hcalm.set).trans hopen) (k.e.at 40)
  obtain ⟨hnext, hctxs, hstate, hpages, hkey⟩ := hcleared.started (sanitising (k.e.at 40))
  have hid := hnext.trans (congrArg Mgmt.bgNext hcalm.mgmt)
  have hruns := (Dev.runs_await h).of_ctxs hctxs
  obtain ⟨t, ht, hsent, hkept⟩ := hruns.settled (s := s) (i := .sanitise c) (st := St.success) (r := s.fresh.mgmt.bgNext) (by
    rw [← hid]
    refine congrArg (fun d => Host.Outcome.next (s.settle d)) ?_
    beta_reduce
    rw [if_pos (show s.fresh.clocked 10 = true from hclk), State.fresh_served h hop]
    dsimp only
    rw [if_neg (by simp [Nat.not_lt.2 hmode, Nat.not_lt.2 hscope]), hnot, hallowed,
      Dev.endReadsWrites_none (d := ((s.fresh.await c .run).wr Reg.SAL_STATUS_STATE 4).wr Reg.SAL_STATUS_INDEX_READY 0) hnoIo]
    rfl)
  refine ⟨t, ht, hsent, (hkept.rd Reg.SAL_STATUS_STATE 0 0 (by decide)).trans hstate, ?_⟩
  rw [hkept.flash]
  exact ⟨hpages, hkey.trans (by rw [hcalm.flash]; rfl), (Dev.flag_congr (hkept.rd Reg.MEM_STATUS_WIPED 0 0 (by decide))).trans
    ((Dev.newOp_flag _ (sanitising (k.e.at 40)) Reg.MEM_STATUS_WIPED).trans hwiped)⟩

end

end Sys2Proof.Machine
/-! SUPPORT. UNLOAD and EMPTY (R482, R522). -/

namespace Sys2Proof.Machine

open Sys2Proof Sys2Proof.Safety

set_option Elab.async false

/-! ### What the completions of other commands leave of a command -/

section
variable {d : Dev} {c x : Nat} {k : Ctx}

/-- Context `c` holds command `k` and nothing else. -/
structure Dev.Stands (d : Dev) (c : Nat) (k : Ctx) : Prop where
  ctx : d.ctx c = some k
  alone : ∀ e ∈ d.que.ctxs, e.1 = c → e.2 = some k

namespace Dev.Stands

theorem of_ctxs {a b : Dev} (h : a.Stands c k) (hc : b.que.ctxs = a.que.ctxs) : b.Stands c k :=
  ⟨by rw [Dev.ctx, hc]; exact h.ctx, by rw [hc]; exact h.alone⟩

theorem await (hc : d.ctx c = some k) (w : Wait) : (d.await c w).Stands c { k with wait := w } := by
  refine ⟨Dev.ctx_await_same hc w, fun e he hn => ?_⟩
  simp only [Dev.await, hc] at he
  rcases Dev.mem_setCtx he with rfl | ⟨-, hne⟩
  · rfl
  · exact absurd hn hne

theorem setCtx (h : d.Stands c k) (hx : x ≠ c) (v : Option Ctx) : (d.setCtx x v).Stands c k := by
  refine ⟨(mget_mset_ne d.que.ctxs none none v (Ne.symm hx)).trans h.ctx, fun e he hn => ?_⟩
  rcases Dev.mem_setCtx he with rfl | ⟨he, -⟩
  · exact absurd hn hx
  · exact h.alone e he hn

theorem completeRaw (h : d.Stands c k) (hx : x ≠ c) (st r : Nat) : (d.completeRaw x st r).Stands c k := by
  unfold Dev.completeRaw
  dsimp only
  split
  · exact h
  · next k' _ =>
    have hsent : (d.send (.completed k'.sq k'.e.cid.toNat st (BitVec.ofNat 64 r))).Stands c k := h.of_ctxs rfl
    split
    · split
      · exact hsent.setCtx hx none
      · exact (hsent.setCtx hx (some { k' with wait := .finished })).of_ctxs rfl
    · exact hsent.setCtx hx none

/-- A command that does not wait for the end of an SQ is not the one that such an end completes. -/
theorem disabler_ne (h : d.Stands c k) {q : Nat} (hw : k.wait ≠ .queueOff q) (hd : d.disabler q = some x) : x ≠ c := by
  obtain ⟨e, hfind, rfl⟩ := Option.map_eq_some_iff.1 hd
  intro hn
  have hp := List.find?_some hfind
  rw [h.alone e (List.mem_of_find?_eq_some hfind) hn] at hp
  exact hw (beq_iff_eq.1 hp)

theorem checkDisabled (h : d.Stands c k) (hw : ∀ q, k.wait ≠ .queueOff q) (q : Nat) : (d.checkDisabled q).Stands c k := by
  unfold Dev.checkDisabled
  split
  · exact h
  · next a _ =>
    split
    · have hoff : ((d.setSq q (some { a with state := 2, slots := [] })).mirror q).Stands c k :=
        (h.of_ctxs rfl : (d.setSq q (some { a with state := 2, slots := [] })).Stands c k).of_ctxs (QueuesKept.mirror _ q).ctxs
      dsimp only
      split
      · next hd => exact hoff.completeRaw (hoff.disabler_ne (hw q) hd) _ _
      · exact hoff
    · exact h

theorem endMuted (h : d.Stands c k) (hw : ∀ q, k.wait ≠ .queueOff q) (hx : x ≠ c) : (d.endMuted x).Stands c k := by
  unfold Dev.endMuted
  split
  · exact h
  · dsimp only
    refine checkDisabled ?_ hw _
    split
    · exact (h.setCtx hx none).of_ctxs rfl
    · exact h.setCtx hx none

theorem complete (h : d.Stands c k) (hw : ∀ q, k.wait ≠ .queueOff q) (hx : x ≠ c) (st r : Nat) :
    (d.complete x st r).Stands c k := by
  unfold Dev.complete
  split
  · exact h
  · split
    · exact h
    · split
      · exact h.endMuted hw hx
      · exact h.completeRaw hx st r

theorem mem_waiting (h : d.Stands c k) {p : Wait → Bool} : c ∈ d.waiting p ↔ p k.wait = true := by
  simp only [Dev.waiting, List.mem_map, List.mem_filter]
  constructor
  · rintro ⟨e, ⟨he, hp⟩, hn⟩
    rwa [h.alone e he hn] at hp
  · exact fun hp => ⟨_, ⟨mem_of_mget h.ctx, hp⟩, rfl⟩

theorem completeAll (h : d.Stands c k) (hw : ∀ q, k.wait ≠ .queueOff q) {p : Wait → Bool} (hp : p k.wait = false) (st r : Nat) :
    (d.completeAll p st r).Stands c k := by
  have others (l : List Nat) (hl : c ∉ l) (d : Dev) (h : d.Stands c k) :
      (l.foldl (fun d c => d.complete c st r) d).Stands c k := by
    induction l generalizing d with
    | nil => exact h
    | cons x t ih =>
      rw [List.mem_cons, not_or] at hl
      exact ih hl.2 _ (h.complete hw (Ne.symm hl.1) st r)
  exact others _ (by rw [h.mem_waiting, hp]; decide) d h

end Dev.Stands

/-- A completion takes back nothing that was sent. -/
theorem Dev.mem_out_completeRaw {e : Emit} (h : e ∈ d.out) (st r : Nat) : e ∈ (d.completeRaw x st r).out := by
  cases hc : d.ctx x with
  | none => simpa only [Dev.completeRaw, hc] using h
  | some k => exact Dev.completeRaw_out hc st r ▸ List.mem_append_left _ h

theorem Dev.mem_out_complete {e : Emit} (h : e ∈ d.out) (st r : Nat) : e ∈ (d.complete x st r).out := by
  have ended (d : Dev) (q : Nat) (h : e ∈ d.out) : e ∈ (d.checkDisabled q).out := by
    unfold Dev.checkDisabled
    split
    · exact h
    · next a _ =>
      split
      · have hoff : e ∈ ((d.setSq q (some { a with state := 2, slots := [] })).mirror q).out := (QueuesKept.mirror _ q).out e h
        dsimp only
        split
        · exact Dev.mem_out_completeRaw hoff _ _
        · exact hoff
      · exact h
  unfold Dev.complete
  split
  · exact h
  · split
    · exact h
    · split
      · unfold Dev.endMuted
        split
        · exact h
        · refine ended _ _ ?_
          split
          · exact h
          · exact h
      · exact Dev.mem_out_completeRaw h st r

/-- A command that waits for what completes all of its kind completes. -/
theorem Dev.Stands.sends (h : d.Stands c k) (hw : ∀ q, k.wait ≠ .queueOff q) (hlive : k.wait ≠ .finished) (hmute : k.mute = false)
    {p : Wait → Bool} (hp : p k.wait = true) (st r : Nat) :
    Emit.out (.completed k.sq k.e.cid.toNat st (BitVec.ofNat 64 r)) ∈ (d.completeAll p st r).out := by
  have stays (l : List Nat) (d : Dev) {e : Emit} (he : e ∈ d.out) : e ∈ (l.foldl (fun d c => d.complete c st r) d).out := by
    induction l generalizing d with
    | nil => exact he
    | cons x t ih => exact ih _ (Dev.mem_out_complete he st r)
  have mine (l : List Nat) (hl : c ∈ l) (d : Dev) (h : d.Stands c k) :
      Emit.out (.completed k.sq k.e.cid.toNat st (BitVec.ofNat 64 r)) ∈ (l.foldl (fun d c => d.complete c st r) d).out := by
    induction l generalizing d with
    | nil => cases hl
    | cons x t ih =>
      by_cases hx : x = c
      · subst hx
        refine stays t _ ?_
        beta_reduce
        rw [Dev.complete_live h.ctx hlive hmute, Dev.completeRaw_out h.ctx]
        exact List.mem_append_right _ (List.mem_singleton.2 rfl)
      · exact ih ((List.mem_cons.1 hl).resolve_left (Ne.symm hx)) _ (h.complete hw hx st r)
  exact mine _ (h.mem_waiting.2 hp) d h

end

/-! ### A disc goes -/

theorem Dev.disc_dropDisc (d : Dev) (sp : Nat) : (d.dropDisc sp).disc sp = none := Dev.disc_putDisc_same d sp none

theorem Dev.unloadReady_await (d : Dev) (c : Nat) (w : Wait) (sp : Nat) : (d.await c w).unloadReady sp = d.unloadReady sp := by
  unfold Dev.await
  split <;> rfl

theorem Dev.opMedia_keeps (d : Dev) : d.opMedia.que = d.que ∧ d.opMedia.set = d.set ∧ d.opMedia.out = d.out := by
  unfold Dev.opMedia
  split <;> exact ⟨rfl, rfl, rfl⟩

section
variable {s : State} {c : Nat} {k : Ctx}

theorem mediaEventUnload_unloads (h : startable s.dev c k { b := [40, 41] } = true) (hop : isMedia 1 k.e = true)
    (hn : k.e.at 40 < 8) (hsp : s.dev.hasSp (k.e.at 40) = true) (hdisc : (s.dev.disc (k.e.at 40)).isSome = true)
    (hready : s.dev.unloadReady (k.e.at 40) = true) (hclk : s.dev.clocked 11 = true) :
    After (.mediaEventUnload c) s fun t => Out.completed k.sq k.e.cid.toNat St.success 0 ∈ t.sent ∧
      t.dev.disc (k.e.at 40) = none := by
  have hstands := Dev.Stands.await (Dev.runs_await h).1 (.unload (k.e.at 40))
  have hsent := hstands.sends (p := fun w => w == .unload (k.e.at 40)) (by simp) (by simp) (Dev.runs_await h).2 (by simp)
    St.success 0
  have hloaded : ((s.fresh.await c .run).disc (k.e.at 40)).isNone = false := by
    rw [(Calm.await s.fresh c .run).disc, Option.isNone_eq_false_iff]
    exact hdisc
  have hgoes : (((s.fresh.await c .run).await c (.unload (k.e.at 40))).waiting (fun w => w == .unload (k.e.at 40))).isEmpty =
      false := List.isEmpty_eq_false_iff_exists_mem.2 ⟨c, hstands.mem_waiting.2 (by simp)⟩
  have hserved : exec (.mediaEventUnload c) s = .next (s.settle ((((s.fresh.await c .run).await c
      (.unload (k.e.at 40))).completeAll (fun w => w == .unload (k.e.at 40)) St.success).dropDisc (k.e.at 40))) := by
    refine congrArg (fun d => Host.Outcome.next (s.settle d)) ?_
    beta_reduce
    rw [if_pos (show s.fresh.clocked 11 = true from hclk), State.fresh_served h hop]
    dsimp only
    rw [Dev.spindleCheck_await c hn hsp]
    dsimp only
    rw [hloaded, if_neg (by decide), Dev.checkUnload, hgoes, Dev.unloadReady_await, Dev.unloadReady_await,
      show s.fresh.unloadReady (k.e.at 40) = true from hready]
    rfl
  refine ⟨_, hserved, s.mem_sent _ _ (mem_outsOf.2 hsent), ?_⟩
  rw [(s.settle_calm _).disc]
  exact Dev.disc_dropDisc _ _

theorem Dev.burnEnd_none {d : Dev} {p : Nat} (h : d.burn p = none) : d.burnEnd p = d := by rw [Dev.burnEnd, h]

theorem mediaEventEmpty_empties (h : startable s.dev c k { b := [40, 41] } = true) (hop : isMedia 2 k.e = true)
    (hn : k.e.at 40 < 8) (hsp : s.dev.hasSp (k.e.at 40) = true) (hburns : noBurns s.dev (k.e.at 40) = true)
    (hwants : s.dev.set.wants = []) (hclk : s.dev.clocked 11 = true) :
    After (.mediaEventEmpty c) s fun t => Out.completed k.sq k.e.cid.toNat St.success 0 ∈ t.sent ∧
      t.dev.disc (k.e.at 40) = none := by
  have hcalm := Calm.await s.fresh c .run
  cases hdisc : s.dev.disc (k.e.at 40) with
  | none =>
    obtain ⟨t, ht, hsent, hkept⟩ := (Dev.runs_await h).settled (s := s) (i := .mediaEventEmpty c) (st := St.success) (r := 0) (by
      refine congrArg (fun d => Host.Outcome.next (s.settle d)) ?_
      beta_reduce
      rw [if_pos (show s.fresh.clocked 11 = true from hclk), State.fresh_served h hop]
      dsimp only
      rw [Dev.spindleCheck_await c hn hsp]
      dsimp only
      rw [(hcalm.disc _).trans hdisc])
    exact ⟨t, ht, hsent, (hkept.disc _).trans ((hcalm.disc _).trans hdisc)⟩
  | some x =>
    let gone := ((s.fresh.await c .run).completeAll (fun w => w == .unload (k.e.at 40)) St.mediaNotPresent).dropDisc (k.e.at 40)
    obtain ⟨hque, hset, -⟩ := gone.opMedia_keeps
    have hstands := (Dev.Stands.await (d := s.fresh) (ctx_of_startable h).1 .run).completeAll (by simp)
      (p := fun w => w == .unload (k.e.at 40)) (by simp) St.mediaNotPresent 0
    have hruns : gone.opMedia.Runs c k := ⟨(hstands.of_ctxs (congrArg Que.ctxs hque)).ctx, (ctx_of_startable h).2⟩
    simp only [noBurns, Bool.and_eq_true, Option.isNone_iff_eq_none] at hburns
    obtain ⟨hburnA, hburnB⟩ := hburns
    have hnoBurn {p : Nat} (hp : s.dev.burn p = none) : (s.fresh.await c .run).burnEnd p = s.fresh.await c .run :=
      Dev.burnEnd_none (by rw [Dev.burn, hcalm.burns]; exact hp)
    have hnobody : gone.opMedia.set.wants = [] := by
      rw [hset]
      exact (congrArg SetEng.wants ((Calm.completeAll _ _ _ _).set.trans hcalm.set)).trans hwants
    obtain ⟨t, ht, hsent, hkept⟩ := hruns.settled (s := s) (i := .mediaEventEmpty c) (st := St.success) (r := 0) (by
      refine congrArg (fun d => Host.Outcome.next (s.settle d)) ?_
      beta_reduce
      rw [if_pos (show s.fresh.clocked 11 = true from hclk), State.fresh_served h hop]
      dsimp only
      rw [Dev.spindleCheck_await c hn hsp]
      dsimp only
      rw [(hcalm.disc _).trans hdisc]
      dsimp only
      rw [List.foldl_cons, List.foldl_cons, List.foldl_nil, hnoBurn hburnA, hnoBurn hburnB]
      split
      · rw [hnobody]
        rfl
      · rfl)
    refine ⟨t, ht, hsent, ?_⟩
    rw [hkept.disc, Dev.disc, hset]
    exact Dev.disc_dropDisc _ _

end

end Sys2Proof.Machine

namespace Sys2Proof

open Sys2Proof.Machine Sys2Proof.Safety

set_option Elab.async false

/-- Settles O40, a lemma per clause. That LOADED answers 0 of a blank disc, and what FORMAT and SANITISE write at which step, are
the model's choices (log entries 48, 50 and 51). -/
theorem mediaFormatAndSanitise : Obligations.MediaFormatAndSanitise :=
  ⟨fun _ _ _ _ h hop hn hsp hhlm hblank hq hclk => mediaEventLoaded_blank h hop hn hsp hhlm hblank hq hclk,
    fun _ _ _ _ _ h hop hn hsp hhlm hinfo hblank hread hver hagree hmem hsets hq hclk =>
      mediaEventLoaded_recorded h hop hn hsp hhlm hinfo hblank hread hver hagree hmem hsets hq hclk,
    fun _ _ _ h hop hn hsp hdisc hready hclk => mediaEventUnload_unloads h hop hn hsp hdisc hready hclk,
    fun _ _ _ h hop hn hsp hburns hwants hclk => mediaEventEmpty_empties h hop hn hsp hburns hwants hclk,
    fun _ _ _ h hop hmode hidle hforce hgeo hio hopen hclk => formatSaltern_clears h hop hmode hidle hforce hgeo hio hopen hclk,
    fun _ _ _ h hop hscope hmode hidle hforce hio hopen hclk => sanitise_clears h hop hscope hmode hidle hforce hio hopen hclk,
    fun _ _ _ _ h hop hn hsp hmode hx hblank hours hops hclk => formatDisc_starts h hop hn hsp hmode hx hblank hours hops hclk,
    fun _ _ _ ok _ ho hruns htype hq => operationStepDone_records ok ho hruns htype hq,
    fun _ _ _ _ ho hruns htype hq => operationStepDone_sanitised ho hruns htype hq⟩

end Sys2Proof
